-- ==== Sys2Proof/Word.lean ====
section
/-! DEFINITION. Word: the index types and the plain containers of the model. -/

namespace Sys2Proof

/-- One byte. -/
abbrev Byte := BitVec 8

/-- Sparse data by key, kept sorted by rising key with no repeats; the reader of each such field
gives the value an unlisted key reads as. -/
abbrev SMap (α : Type) := List (Nat × α)

/-- An actuator, 0 to 3 (R7). -/
abbrev Act := Fin 4
/-- A read stream, 0 to 7: streams 2a and 2a + 1 belong to actuator a (R7). -/
abbrev Strm := Fin 8
/-- A head, 0 to 31, numbered in actuator order (R6). -/
abbrev Hd := Fin 32
/-- A density zone (R8). -/
abbrev Zn := Fin 64
/-- A sequencer (R385). -/
abbrev Sq := Fin 32
/-- A mailbox (R412). -/
abbrev Mb := Fin 4
/-- A function of the Host Quay, or a SAS logical unit (R305). -/
abbrev Fn := Fin 1024
/-- A command tag (R340). -/
abbrev Tag := Fin 4096

end Sys2Proof
end

