-- ==== Sys2Proof/Syntax.lean ====
section
/-! DEFINITION. Syntax: the commands of the block and the data they carry. -/

namespace Sys2Proof

/-- The envelope of one Fenxus message as its service sees it: the mailbox it came through, the
PERSIST flag and SEQ (R421). -/
structure Req where
  mb : Mb := 0
  persist : Bool := false
  seq : Nat := 0
  deriving DecidableEq, Repr

/-- The payload of a MASK setter: the bits of MASK that are set, rising, each with its parameter's
words (R428). -/
abbrev Params := List (Nat × List (BitVec 32))

/-- What the holders report for one audit epoch (R26, R27). -/
structure EpochReport where
  /-- tags the free list reports -/
  freeTags : Nat := 4096
  /-- tags reported in flight -/
  inflightTags : Nat := 0
  /-- per function: (function, tags held, commands in flight) -/
  tags : List (Nat × Nat × Nat) := []
  /-- per pond: (free, allocated, size), and the ENGINE code and INDEX of the engine whose holding disagrees -/
  ponds : List (Nat × Nat × Nat × Nat × Nat) := []
  /-- PCIe credits of each port, type and channel: (port, advertised, available, consumed and not returned) -/
  pcie : List (Nat × Nat × Nat × Nat) := []
  /-- mailbox credits: (mailbox, ring size, free, outstanding) -/
  mbx : List (Nat × Nat × Nat × Nat) := []
  /-- tally sums: (sum over functions, device total) -/
  tally : List (Nat × Nat) := []
  /-- completions: (function, fetched, posted, in flight) -/
  compl : List (Nat × Nat × Nat × Nat) := []
  deriving DecidableEq, Repr

/-- What the boot sequence finds outside the modelled state (R44, R516 to R523). -/
structure BootFacts where
  /-- OTP value fields whose SEC-DED check fails uncorrectably: lowest bit of the field, failing word -/
  otpBad : List (Nat × Nat) := []
  /-- package received over the factory UART where STRAP_BOOT asks for it -/
  uart : List Byte := []
  /-- slots with a Fenxus chunk that fails its digest -/
  chunkBad : List Nat := []
  /-- both DRAM channels pass full training -/
  dramOk : Bool := true
  /-- slots whose microcode load is refused -/
  ucodeBad : List Nat := []
  /-- vault areas whose START and COMMIT pages read with good CHECKs -/
  imageReadOk : List Nat := [0, 1]
  /-- vault areas whose PAGE_CRC matches -/
  pageCrcOk : List Nat := [0, 1]
  /-- the pages of the map, manifest, index and table delta all read good -/
  tablesOk : Bool := true
  /-- write-cache blocks of the image whose page fails its CHECK -/
  badBlocks : List Nat := []
  /-- pages that fail their CHECK, and the duration of the replay, ms -/
  failedPages : Nat := 0
  replayMs : Nat := 0
  /-- checkpoints that no copy holding them reads in full, by sequence number -/
  ckptBad : List Nat := []
  /-- event records whose CHECK fails in both NOR copies, by RECNO -/
  recLost : List Nat := []
  /-- installed DRAM, GiB, and the region words Fenxus derives for it (R362, R364) -/
  gib : Nat := 16
  regions : List (BitVec 64) := []
  /-- junction temperature -/
  tj : Int := 0
  deriving DecidableEq, Repr

/-- One segment of 8 tone cycles with its line magnitudes, 1/256 of the AMP count (R63). -/
structure Segment where
  /-- tone cycles of its address symbol that have passed when it ends, 0 to 31; 0 stands for the symbol's end -/
  ends : Fin 32 := 8
  /-- magnitudes of the lines A to D -/
  a : Nat := 0
  b : Nat := 0
  c : Nat := 0
  d : Nat := 0
  deriving DecidableEq, Repr

/-- What one sample window measured at the head (R62 to R67): everything else of the sample word
is the stream's own. -/
structure PosSample where
  /-- the segments that ended inside the window, as measured on the inputs RDSEL can select: the sum
  of readers 0 and 1, reader 0, reader 1 -/
  segs : Vector (List Segment) 3 := #v[[], [], []]
  /-- tone cycles that passed in the window, 1/256 cycle -/
  cycles : Nat := 0
  /-- windows lost before this one -/
  lost : Nat := 0
  deriving DecidableEq, Repr

/-- What surrounds one address word (R61, R66, R68). -/
structure WordFacts where
  /-- the TRACK field's other reading when it was read across a track boundary, Gray code -/
  alt : Option Nat := none
  /-- parity given by the quadrature state at the field's midpoint -/
  odd : Bool := false
  /-- track counter at the field's midpoint, minus the track counter now -/
  dTrack : Int := 0
  /-- tone cycles counted since the word began, 1/256 cycle -/
  since : Nat := 0
  /-- sectors of the run whose postamble ended since the suspect span this word would open: since the
  word began, or the first of the two where the condition takes two -/
  ended : Nat := 0
  /-- sample windows of the writing head that ended since that span began -/
  windows : Nat := 0
  deriving DecidableEq, Repr

/-- What a seek mode request asks (R100). -/
inductive SeekReq where
  | read
  | write
  | twinRead
  | none
  deriving DecidableEq, Repr

/-- One seek target (R96, R100). -/
structure SeekTarget where
  head : Hd := 0
  target : Int := 0
  req : SeekReq := .read
  partner : Hd := 0
  deriving DecidableEq, Repr

/-- One sector a stream is to read (R168, R170). -/
structure ReadOrd where
  /-- head -/
  head : Hd := 0
  /-- density zone -/
  zone : Zn := 0
  /-- lakebed track expected -/
  track : Nat := 0
  /-- slot expected -/
  slot : Nat := 0
  /-- generation expected -/
  gen : Nat := 0
  /-- read target, position units (R93) -/
  target : Int := 0
  /-- angle of slot 0 of the track, tone cycles (R153) -/
  offset : Nat := 0
  /-- pilot entry the sector belongs to -/
  op : Nat := 0
  /-- place of the sector in that entry -/
  idx : Nat := 0
  deriving DecidableEq, Repr

/-- One write order as dispatched (R182, R201). -/
structure WriteOrd where
  /-- writing head -/
  head : Hd := 0
  /-- band context -/
  ctx : Nat := 0
  /-- track index in the band -/
  track : Nat := 0
  /-- first slot -/
  slot : Nat := 0
  /-- slots of the run -/
  count : Nat := 0
  /-- PARITY -/
  parity : Bool := false
  /-- berth-protected bytes of the information blocks, in run order, as the DMA reads them -/
  blocks : List (List Byte) := []
  /-- pilot entry -/
  op : Nat := 0
  /-- place of the first sector in that entry -/
  idx : Nat := 0
  /-- the last run of its write order -/
  last : Bool := true
  deriving DecidableEq, Repr

/-- A codeword whose syndrome the decoder brought to zero (R168, R169). -/
structure Candidate where
  /-- iterations it took -/
  iters : Nat := 1
  /-- the 4,128 bytes of the information block -/
  block : List Byte := []
  deriving DecidableEq, Repr

/-- What the front ends, the detector and a decoder make of one sector (R145 to R171): the bits run from
the first one of the search window on. -/
structure DecodeFacts where
  /-- ADC samples of reader 0 -/
  adc0 : List Int := []
  /-- ADC samples of reader 1 -/
  adc1 : List Int := []
  /-- detector output for each bit before LLR_SCALE; positive favours a written 0 -/
  soft : List Int := []
  /-- the candidate at E whose syndrome reaches zero -/
  atE : Option Candidate := none
  /-- the candidate at F -/
  atF : Option Candidate := none
  /-- data-band energy below 10 % of the head's nominal -/
  lowEnergy : Bool := false
  /-- noise predictors and variances that the sector's decoded bits show by themselves -/
  predictors : List Int := []
  deriving DecidableEq, Repr

/-- One host command as its submission entry or command frame carries it (R338). -/
structure HostCmd where
  /-- opcode, or SCSI operation code -/
  opc : Nat := 0
  /-- command identifier, or SAS task tag -/
  cid : Nat := 0
  /-- namespace identifier (NVMe) -/
  nsid : Nat := 0
  /-- Command Dword 10; SCSI: LBA, low 32 bits -/
  dw10 : Nat := 0
  /-- Command Dword 11; SCSI: LBA, high 32 bits -/
  dw11 : Nat := 0
  /-- Command Dword 12; SCSI: transfer, allocation or parameter list length -/
  dw12 : Nat := 0
  /-- Command Dword 13; SCSI: service action, mode or protocol -/
  dw13 : Nat := 0
  /-- Command Dword 14; SCSI: page code, buffer or protocol-specific field -/
  dw14 : Nat := 0
  /-- Command Dword 15; SCSI: the flags of the CDB, protect field in bits 2:0 -/
  dw15 : Nat := 0
  /-- data structure or parameter list that the host transfers with the command -/
  data : List Byte := []
  /-- PRP1, the address of a queue created -/
  prp1 : Nat := 0
  /-- initiator (SAS) -/
  nexus : Nat := 0
  /-- SAS task attribute: 0 SIMPLE, 1 HEAD OF QUEUE, 2 ORDERED, 4 ACA -/
  attr : Nat := 0
  deriving DecidableEq, Repr

/-- What a DRAM read found in the line (R366, R367). -/
inductive ReadResult where
  | clean
  | corrected
  | uncorrectable (data : List Byte)
  deriving DecidableEq, Repr

/-- The Opal method that the payload of a Security Send carries (R489, R490). -/
inductive OpalMethod where
  /-- session management, discovery and every method that changes no state below -/
  | plain
  /-- Set the credential of an authority -/
  | credential (auth : Nat) (cred : List Byte)
  /-- Set ReadLocked and WriteLocked of a namespace's locking object, by an authority -/
  | setLock (auth nsid : Nat) (rd wr : Bool)
  /-- Set LockOnReset of a namespace's locking object -/
  | lockOnReset (auth nsid : Nat) (on : Bool)
  /-- enable locking on a namespace for these authorities -/
  | enable (auth nsid : Nat) (unlockers : List Nat)
  /-- Set the authorities of the ReadLocked and WriteLocked ACEs -/
  | grant (auth nsid : Nat) (unlockers : List Nat)
  /-- disable locking on a namespace -/
  | disable (auth nsid : Nat)
  deriving DecidableEq, Repr

/-- Who uses the data of a DRAM read (the rows of R370). -/
inductive Consumer where
  | readPond (t : Tag) (lba : Nat)
  | cacheRead (block : Nat)
  | destage (block : Nat)
  | parityBuffer (berth stripe : Nat)
  | backgroundPond (a : Act) (op k : Nat)
  | recovery (m : Strm) (k : Nat)
  | mooring (f : Fn) (qid : Nat)
  | cacheIndex
  | chart (nsid line : Nat)
  | table
  | tally (key k : Nat)
  | code
  | fenxus
  | key
  | vault
  deriving DecidableEq, Repr

/-- One request at the DRAM controller (R374, R375). -/
structure DReq where
  port : Fin 16 := 13
  /-- service class of the request itself, where its port takes it per request (port 6) -/
  cls : Option (Fin 4) := none
  /-- how long it has been pending, ns -/
  wait : Nat := 0
  deriving DecidableEq, Repr

/-- A line that is asked for, its request, and the other requests whose next command is legal (R375). -/
structure DAsk where
  line : Nat := 0
  me : DReq := {}
  others : List DReq := []
  deriving DecidableEq, Repr

/-- What the supervisor core and the ramp bring to a slot: the trajectory points fed, as reference accelerations
(R96, R98), and whether the lead head is off the ramp (R100). -/
structure SlotFacts where
  accs : List Int := []
  offRamp : Bool := false
  deriving DecidableEq, Repr

/-- The levels of the balls that a test or a supervision input carries (R36, R40, R46). -/
structure Balls where
  /-- STRAP_HOST[1:0]; the internal pull-downs hold an open strap at 0 -/
  strapHost : Fin 4 := 0
  strapBoot : Bool := false
  strapTest : Bool := false
  resetN : Bool := true
  porstN : Bool := true
  pwrfailN : Bool := true
  deriving DecidableEq, Repr

/-- Instruction that a scan of the TAP's instruction register loads (R55). -/
inductive TapCode where
  | bypass
  | idcode
  | samplePreload
  | extest
  deriving DecidableEq, Repr

/-- What the TAP does between two supply samples (R55). -/
inductive TapScan where
  /-- TRST_N low, or Test-Logic-Reset reached by TMS -/
  | testLogicReset
  /-- an instruction-register scan -/
  | ir (code : TapCode)
  /-- a data-register scan of these TDI bits, the first shifted first -/
  | dr (tdi : List Bool)
  deriving DecidableEq, Repr

/-- One 1 µs sample of the supply supervision, with the balls as they then stand (R41, R46, R47, R447). -/
structure SupplySample where
  /-- ADC code of VMON12, full scale 1.500 V (R47) -/
  code12 : BitVec 12 := 3277
  /-- ADC code of VMON5 (R47) -/
  code5 : BitVec 12 := 2731
  /-- what the comparators of the ten supervised device rails see, mV, in the order of R41 -/
  rails : Vector Nat 10 := #v[800, 750, 900, 900, 750, 500, 750, 1200, 1800, 1200]
  vrPgood : Bool := true
  balls : Balls := {}
  /-- a scan of the TAP, if one ended in this microsecond -/
  tap : Option TapScan := none
  deriving DecidableEq, Repr


/-- The commands the block takes, one constructor for each row of spec/opcode_table.json. -/
inductive Instr where
  /-- LKB_SET_SURFACE (R81). -/
  | lkbSetSurface (r : Req) (head surface pL : Nat) (index : Int) (lin : List Int)
  /-- LKB_SET_ZONE_MAP (R73). -/
  | lkbSetZoneMap (r : Req) (surface : Nat) (first : List Nat)
  /-- LKB_SET_RATIO (R72). -/
  | lkbSetRatio (r : Req) (head zone : Nat) (word : BitVec 32)
  /-- LKB_SET_GUARD (R77). -/
  | lkbSetGuard (r : Req) (act : Nat) (word : BitVec 32)
  /-- LKB_SET_DEMOD (R81). -/
  | lkbSetDemod (r : Req) (head stream : Nat) (ps : Params)
  /-- LKB_GET_STATUS (R80). -/
  | lkbGetStatus (r : Req) (stream : Nat) (clear : BitVec 64)
  /-- LKB_READ_POSITION (R67). -/
  | lkbReadPosition (r : Req) (stream : Nat)
  /-- LOOP_SET_LAW (R89). -/
  | loopSetLaw (r : Req) (act law count start : Nat) (words : List (BitVec 32))
  /-- LOOP_SET_RWO (R93). -/
  | loopSetRwo (r : Req) (head : Nat) (vals : List Int)
  /-- LOOP_SET_MA_GAIN (R95). -/
  | loopSetMaGain (r : Req) (head gain : Nat)
  /-- LOOP_SET_SEEK (R114). -/
  | loopSetSeek (r : Req) (act : Nat) (ps : Params)
  /-- LOOP_SET_FOLLOW (R114). -/
  | loopSetFollow (r : Req) (act : Nat) (ps : Params)
  /-- LOOP_SET_TWIN (R108). -/
  | loopSetTwin (r : Req) (act : Nat) (ps : Params)
  /-- LOOP_GET_STATUS (R112). -/
  | loopGetStatus (r : Req) (act : Nat) (clear : BitVec 64)
  /-- SPN_SET_SPEED (R129). -/
  | spnSetSpeed (r : Req) (rpm cls : Nat)
  /-- SPN_SET_POLICY (R134). -/
  | spnSetPolicy (r : Req) (ps : Params)
  /-- SPN_SET_LIMITS (R143). -/
  | spnSetLimits (r : Req) (ps : Params)
  /-- SPN_SET_MOTOR (R143). -/
  | spnSetMotor (r : Req) (ps : Params)
  /-- SPN_START (R124). -/
  | spnStart (r : Req)
  /-- SPN_STOP (R140). -/
  | spnStop (r : Req)
  /-- SPN_GET_STATUS (R141). -/
  | spnGetStatus (r : Req) (clear : BitVec 64)
  /-- CHN_SET_FORMAT (R160). -/
  | chnSetFormat (r : Req) (head zone : Nat) (word : BitVec 32)
  /-- CHN_SET_FRONTEND (R145). -/
  | chnSetFrontend (r : Req) (head zone : Nat) (ps : Params)
  /-- CHN_SET_EQ (R148). -/
  | chnSetEq (r : Req) (head zone stream : Nat) (ps : Params)
  /-- CHN_SET_DETECTOR (R150). -/
  | chnSetDetector (r : Req) (head zone : Nat) (ps : Params)
  /-- CHN_SET_SYNC (R165). -/
  | chnSetSync (r : Req) (head zone : Nat) (ps : Params)
  /-- CHN_SET_RECOVERY (R174). -/
  | chnSetRecovery (r : Req) (stream : Nat) (ps : Params)
  /-- CHN_GET_STATUS (R180). -/
  | chnGetStatus (r : Req) (stream : Nat) (clear : BitVec 64)
  /-- CHN_CAPTURE (R439). -/
  | chnCapture (r : Req) (head slot track count : Nat)
  /-- WRP_SET_FORMAT (R212). -/
  | wrpSetFormat (r : Req) (head zone : Nat) (ps : Params)
  /-- WRP_SET_ASSIST (R212). -/
  | wrpSetAssist (r : Req) (head zone : Nat) (ps : Params)
  /-- WRP_SET_FH (R201). -/
  | wrpSetFh (r : Req) (head zone : Nat) (ps : Params)
  /-- WRP_SET_LIMITS (R212). -/
  | wrpSetLimits (r : Req) (ps : Params)
  /-- WRP_SET_WEAR (R209). -/
  | wrpSetWear (r : Req) (head : Nat) (ps : Params)
  /-- WRP_OPEN_BAND (R204). -/
  | wrpOpenBand (r : Req) (act : Nat) (desc : BitVec 256)
  /-- WRP_CLOSE_BAND (R207). -/
  | wrpCloseBand (r : Req) (act ctx : Nat)
  /-- WRP_STOP (R188). -/
  | wrpStop (r : Req) (act : Nat)
  /-- WRP_RELEASE (R192). -/
  | wrpRelease (r : Req) (head : Nat)
  /-- WRP_GET_STATUS (R210). -/
  | wrpGetStatus (r : Req) (act : Nat) (clear : BitVec 64)
  /-- WRP_GET_WEAR (R209). -/
  | wrpGetWear (r : Req) (head : Nat)
  /-- PLK_GET_STATUS (R236). -/
  | plkGetStatus (r : Req) (act : Nat) (clear : BitVec 64)
  /-- PSL_GET_STATUS (R237). -/
  | pslGetStatus (r : Req) (clear : BitVec 64)
  /-- PLK_REG_ACCESS (R227). -/
  | plkRegAccess (r : Req) (act op addr data : Nat)
  /-- PSL_REG_ACCESS (R227). -/
  | pslRegAccess (r : Req) (op addr data : Nat)
  /-- LNK_SET_LIMITS (R238). -/
  | lnkSetLimits (r : Req) (ps : Params)
  /-- PSL_SET_SAFE (R238). -/
  | pslSetSafe (r : Req) (ps : Params)
  /-- BRT_SET_LAYOUT (R274). -/
  | brtSetLayout (r : Req) (nsid layout : Nat)
  /-- BRT_SET_LIMITS (R274). -/
  | brtSetLimits (r : Req) (ps : Params)
  /-- BRT_SET_PATROL (R269). -/
  | brtSetPatrol (r : Req) (ps : Params)
  /-- BRT_SET_CKPT (R271). -/
  | brtSetCkpt (r : Req) (ps : Params)
  /-- BRT_CHECKPOINT (R271). -/
  | brtCheckpoint (r : Req)
  /-- BRT_GET_BERTH (R249). -/
  | brtGetBerth (r : Req) (berth skip : Nat)
  /-- BRT_GET_STATUS (R273). -/
  | brtGetStatus (r : Req) (clear : BitVec 64)
  /-- BRT_SET_HEAD (R275). -/
  | brtSetHead (r : Req) (head state : Nat)
  /-- BRT_SET_HEALTH (R304). -/
  | brtSetHealth (r : Req) (ps : Params)
  /-- BRT_SET_REBUILD (R304). -/
  | brtSetRebuild (r : Req) (ps : Params)
  /-- BRT_RESHAPE (R298). -/
  | brtReshape (r : Req) (kind layout target : Nat)
  /-- BRT_GET_REBUILD (R303). -/
  | brtGetRebuild (r : Req) (berth : Nat) (clear : BitVec 64)
  /-- BRT_GET_LOST (R294). -/
  | brtGetLost (r : Req) (nsid start : Nat)
  /-- BRT_GET_RELOC (R282). -/
  | brtGetReloc (r : Req) (index : Nat)
  /-- BRT_GET_HEAD (R302). -/
  | brtGetHead (r : Req) (head : Nat)
  /-- QUAY_SET_MOORMODE (R311). -/
  | quaySetMoormode (r : Req) (fullNext : Nat)
  /-- QUAY_SET_ARB (R337). -/
  | quaySetArb (r : Req) (ps : Params)
  /-- QUAY_SET_ALLOT (R322). -/
  | quaySetAllot (r : Req) (func : Nat) (word : BitVec 64)
  /-- QUAY_GET_ALLOT (R322). -/
  | quayGetAllot (r : Req) (func : Nat)
  /-- QUAY_SET_ADMIT (R361). -/
  | quaySetAdmit (r : Req) (func : Nat) (ps : Params)
  /-- QUAY_SET_DRIVE_POWER (R309). -/
  | quaySetDrivePower (r : Req) (maxpwr : Nat)
  /-- QUAY_GET_MOORING (R312). -/
  | quayGetMooring (r : Req) (func qid : Nat)
  /-- QUAY_GET_TAG (R340). -/
  | quayGetTag (r : Req) (tag : Nat)
  /-- TALLY_READ (R336). -/
  | tallyRead (r : Req) (func start count : Nat)
  /-- TALLY_CLEAR (R335). -/
  | tallyClear (r : Req) (func : Nat)
  /-- DRC_GET_STATUS (R383). -/
  | drcGetStatus (r : Req) (clear : BitVec 64)
  /-- DRC_GET_REGIONS (R364). -/
  | drcGetRegions (r : Req)
  /-- DRC_SET_SCRUB (R384). -/
  | drcSetScrub (r : Req) (ps : Params)
  /-- DRC_SET_PORT (R384). -/
  | drcSetPort (r : Req) (port : Nat) (ps : Params)
  /-- DRC_SET_TRAIN (R384). -/
  | drcSetTrain (r : Req) (ps : Params)
  /-- DRC_SET_POWER (R384). -/
  | drcSetPower (r : Req) (ps : Params)
  /-- DRC_INJECT (R383). -/
  | drcInject (r : Req) (addr : Nat) (flip : List Byte)
  /-- SEQ_GET_STATUS (R409). -/
  | seqGetStatus (r : Req) (seq : Nat) (clear : BitVec 64)
  /-- SEQ_RESUME (R401). -/
  | seqResume (r : Req) (seq : Nat)
  /-- SEQ_SET_LIMITS (R411). -/
  | seqSetLimits (r : Req) (ps : Params)
  /-- SEQ_LOAD (R406). -/
  | seqLoad (r : Req) (bank unsigned imgOfs imgLen sigOfs sigLen : Nat)
  /-- SEQ_SWAP (R407). -/
  | seqSwap (r : Req) (mask : BitVec 32)
  /-- MBX_GET_INFO (R436). -/
  | mbxGetInfo (r : Req)
  /-- MBX_GET_NOTIFY (R436). -/
  | mbxGetNotify (r : Req) (max : Nat)
  /-- MBX_SET_NOTIFY (R432). -/
  | mbxSetNotify (r : Req) (groups : BitVec 16) (minSev flags : Nat)
  /-- MBX_SET_PRIV (R430). -/
  | mbxSetPriv (r : Req) (index priv : Nat)
  /-- MBX_STAGE_WRITE (R433). -/
  | mbxStageWrite (r : Req) (offset : Nat) (data : List Byte)
  /-- MBX_STAGE_READ (R436). -/
  | mbxStageRead (r : Req) (offset length : Nat)
  /-- MBX_STAGE_CLEAR (R436). -/
  | mbxStageClear (r : Req)
  /-- ENGINE_REINIT_FUNCTION (R354). -/
  | engineReinitFunction (r : Req) (index : Nat)
  /-- ENGINE_REINIT_QUAY (R354). -/
  | engineReinitQuay (r : Req)
  /-- ENGINE_REINIT_SEQUENCER (R402). -/
  | engineReinitSequencer (r : Req) (index : Nat)
  /-- ENGINE_REINIT_MAILBOX (R434). -/
  | engineReinitMailbox (r : Req) (index : Nat)
  /-- ENGINE_REINIT_TALLY (R354). -/
  | engineReinitTally (r : Req)
  /-- ENGINE_REINIT_PARITY (R354). -/
  | engineReinitParity (r : Req) (index : Nat)
  /-- ENGINE_REINIT_DECODER (R354). -/
  | engineReinitDecoder (r : Req) (index : Nat)
  /-- HBM_GET_LEDGER (R30). -/
  | hbmGetLedger (r : Req) (clear : BitVec 64)
  /-- RANDOMNESS_TIMEOUT (R483). -/
  | randomnessTimeout (r : Req) (op : Nat)
  /-- AUTH_CHALLENGE (R433). -/
  | authChallenge (r : Req) (opcode : Nat) (digest : List Byte)
  /-- AUTH_RESPONSE (R481). -/
  | authResponse (r : Req) (sigOfs sigLen : Nat)
  /-- LC_CHANGE (R469). -/
  | lcChange (r : Req) (target : Nat)
  /-- DEBUG_UNLOCK (R492). -/
  | debugUnlock (r : Req) (scope : BitVec 32)
  /-- ID_GET_CERT (R477). -/
  | idGetCert (r : Req) (offset length : Nat)
  /-- ATTEST_QUOTE (R491). -/
  | attestQuote (r : Req) (nonce : List Byte)
  /-- EVT_SET_CURSOR (R504). -/
  | evtSetCursor (r : Req) (mode position : Nat)
  /-- EVT_READ (R504). -/
  | evtRead (r : Req) (count : Nat)
  /-- EVT_CLEAR (R505). -/
  | evtClear (r : Req)
  /-- CTR_READ (R506). -/
  | ctrRead (r : Req) (scope index : Nat)
  /-- HBM_GET_INCIDENT (R512). -/
  | hbmGetIncident (r : Req) (index : Nat)
  /-- FW_COMMIT (R526). -/
  | fwCommit (r : Req) (slot next imgOfs imgLen sigOfs sigLen : Nat)
  /-- FW_ACTIVATE (R532). -/
  | fwActivate (r : Req) (slot : Nat)
  /-- FW_GET_SLOTS (R445). -/
  | fwGetSlots (r : Req)
  /-- PWR_SUPPLY_POLICY (R43). -/
  | pwrSupplyPolicy (r : Req) (ps : Params)
  /-- PWR_GET_STATUS (R445). -/
  | pwrGetStatus (r : Req)
  /-- AUDIT_EPOCH_CLOSE (R27). -/
  | auditEpochClose (rep : EpochReport)
  /-- GUARD_GAP_TIMEOUT (R22). -/
  | guardGapTimeout (a : Act)
  /-- INTERNAL_RESET_RELEASE (R44). -/
  | internalResetRelease (b : BootFacts)
  /-- HALT_UART_LINE (R522). -/
  | haltUartLine
  /-- RESET_N_ASSERT (R46). -/
  | resetNAssert
  /-- PORST_N_ASSERT (R46). -/
  | porstNAssert
  /-- PWRFAIL_N_ASSERT (R46). -/
  | pwrfailNAssert
  /-- POWER_ON_DETECT (R46). -/
  | powerOnDetect
  /-- AVS_TICK (R42). -/
  | avsTick (cpu soc : Vector Nat 24)
  /-- SPEED_MONITOR_EMERGENCY (R42). -/
  | speedMonitorEmergency (soc : Bool)
  /-- AVS_ACKNOWLEDGE (R43). -/
  | avsAcknowledge (soc ok : Bool)
  /-- CORE_FREQUENCY_RAISE (R43). -/
  | coreFrequencyRaise
  /-- THERMAL_SENSOR_READ (R52). -/
  | thermalSensorRead (sensors : List Int)
  /-- THERMAL_THROTTLE_STEP (R52). -/
  | thermalThrottleStep
  /-- THERMAL_RELEASE (R52). -/
  | thermalRelease
  /-- THERMAL_TRIP (R52). -/
  | thermalTrip
  /-- LOOP_SLOT (R86). -/
  | loopSlot (a : Act) (late : List Nat) (uncorr : List Nat) (x : SlotFacts)
  /-- POSITION_SAMPLE_ARRIVAL (R67). -/
  | positionSampleArrival (m : Strm) (sample : PosSample)
  /-- ADDRESS_WORD_DECODED (R68). -/
  | addressWordDecoded (m : Strm) (w : BitVec 80) (f : WordFacts)
  /-- TONE_LOCK_DECLARED (R70). -/
  | toneLockDeclared (m : Strm)
  /-- TONE_LOCK_LOST (R71). -/
  | toneLockLost (m : Strm)
  /-- HOLDOVER_TIMEOUT (R71). -/
  | holdoverTimeout (m : Strm)
  /-- HEAD_SELECT (R76). -/
  | headSelect (m : Strm) (h : Hd)
  /-- ACQUISITION_FAIL (R76). -/
  | acquisitionFail (m : Strm)
  /-- ZONE_RATIO_APPLY (R73). -/
  | zoneRatioApply (m : Strm)
  /-- ZONE_SETTLE_END (R73). -/
  | zoneSettleEnd (m : Strm)
  /-- RATE_OUT_OF_RANGE (R74). -/
  | rateOutOfRange (m : Strm)
  /-- DEMOD_PARAM_APPLY (R81). -/
  | demodParamApply (h : Hd)
  /-- LAW_DEADLINE_MISS (R90). -/
  | lawDeadlineMiss (a : Act) (l : Nat)
  /-- VCM_MISS_RETRACT (R90). -/
  | vcmMissRetract (a : Act)
  /-- SEEK_TARGET (R97). -/
  | seekTarget (a : Act) (t : SeekTarget)
  /-- TRAJ_STOP_PLAN (R98). -/
  | trajStopPlan (a : Act)
  /-- SEEK_ABORT (R99). -/
  | seekAbort (a : Act)
  /-- FOLLOW_RMS_CHECK (R99). -/
  | followRmsCheck (a : Act)
  /-- ACTUATOR_LOAD (R100). -/
  | actuatorLoad (a : Act)
  /-- ACTUATOR_UNLOAD (R100). -/
  | actuatorUnload (a : Act)
  /-- RAMP_STOP_REACHED (R100). -/
  | rampStopReached (a : Act)
  /-- WRITE_READY_SET (R101). -/
  | writeReadySet (a : Act)
  /-- BLEND_END (R103). -/
  | blendEnd (a : Act) (l : Nat)
  /-- MA_RAMP_END (R104). -/
  | maRampEnd (a : Act)
  /-- HOLD_ENTRY (R105). -/
  | holdEntry (a : Act)
  /-- HOLD_TIMEOUT_RETRACT (R105). -/
  | holdTimeoutRetract (a : Act)
  /-- TWIN_REGISTRATION (R107). -/
  | twinRegistration (a : Act)
  /-- TWIN_FALLBACK (R110). -/
  | twinFallback (a : Act) (trigger : Nat) (onLead : Bool)
  /-- TWIN_FALLBACK_HANDOVER (R110). -/
  | twinFallbackHandover (a : Act)
  /-- TWIN_STREAM_RELEASE (R110). -/
  | twinStreamRelease (a : Act)
  /-- TWIN_HOLDOFF_EXPIRY (R111). -/
  | twinHoldoffExpiry (a : Act) (lead partner : Hd)
  /-- PWM_PERIOD_START (R115). -/
  | pwmPeriodStart
  /-- CURRENT_SAMPLES_READY (R123). -/
  | currentSamplesReady (code1 code2 : Int) (late : List Nat)
  /-- OVERCURRENT_TRIP (R120). -/
  | overcurrentTrip
  /-- COAST_RESTART (R124). -/
  | coastRestart
  /-- OBSERVER_LOCK (R121). -/
  | observerLock
  /-- OBSERVER_LOCK_LOSS (R121). -/
  | observerLockLoss
  /-- INDEX_CROSSING (R122). -/
  | indexCrossing (m : Strm) (stamp : Nat)
  /-- CURRENT_LAW_MISS_COAST (R123). -/
  | currentLawMissCoast
  /-- SPEED_LAW_SAMPLE (R129). -/
  | speedLawSample (meas8 : Nat) (late : Bool)
  /-- LISTEN_COMPLETE (R125). -/
  | listenComplete
  /-- BRAKE_DECISION (R126). -/
  | brakeDecision (emfMv rpm8 : Nat)
  /-- STANDSTILL_DECLARED (R126). -/
  | standstillDeclared
  /-- ALIGN_COMPLETE (R127). -/
  | alignComplete
  /-- START_FAIL (R127). -/
  | startFail
  /-- FREE_RAMP_START (R132). -/
  | freeRampStart
  /-- SPEED_POLICY_EVAL (R134). -/
  | speedPolicyEval (busy : List Nat)
  /-- DIRTY_HOLD_RELEASE (R135). -/
  | dirtyHoldRelease
  /-- UNDERSPEED (R136). -/
  | underspeed
  /-- CHOPPER_FAULT (R138). -/
  | chopperFault
  /-- HOLDUP_ENTRY (R139). -/
  | holdupEntry
  /-- SECTOR_READ_START (R162). -/
  | sectorReadStart (m : Strm) (ord : ReadOrd)
  /-- SECTOR_DECODE_DONE (R168). -/
  | sectorDecodeDone (m : Strm) (d : DecodeFacts)
  /-- SECTOR_RESULT_POST (R170). -/
  | sectorResultPost (m : Strm)
  /-- DEEP_DECODE_START (R174). -/
  | deepDecodeStart
  /-- DEEP_DECODE_DONE (R174). -/
  | deepDecodeDone (d : Fin 2) (f : DecodeFacts)
  /-- RECOVERY_LIMIT_EXPIRY (R177). -/
  | recoveryLimitExpiry (m : Strm) (place : Hd × Nat) (slot : Nat)
  /-- FORMAT_APPLY (R161). -/
  | formatApply (m : Strm)
  /-- SYNC_PARAM_APPLY (R181). -/
  | syncParamApply (h : Hd) (z : Zn)
  /-- WRITE_ORDER_DISPATCH (R201). -/
  | writeOrderDispatch (a : Act) (ord : WriteOrd)
  /-- HTR_READY_SET (R201). -/
  | htrReadySet (h : Hd)
  /-- ASSIST_ENABLE_RISE (R185). -/
  | assistEnableRise (a : Act)
  /-- WRITE_GATE_OPEN (R187). -/
  | writeGateOpen (a : Act)
  /-- WRITE_SECTOR_END (R191). -/
  | writeSectorEnd (a : Act)
  /-- WRITE_UNDERRUN (R186). -/
  | writeUnderrun (a : Act)
  /-- WRITE_RUN_END (R185). -/
  | writeRunEnd (a : Act)
  /-- SECTOR_REWRITE (R192). -/
  | sectorRewrite (a : Act) (ctx slot : Nat)
  /-- FF_PERSIST (R200). -/
  | ffPersist
  /-- HEATER_HOLD_END (R202). -/
  | heaterHoldEnd (h : Hd)
  /-- CONTACT_REARM (R202). -/
  | contactRearm (h : Hd)
  /-- PREAMP_DOWNSTREAM_FRAME (R221). -/
  | preampDownstreamFrame (a : Act)
  /-- PREAMP_UPSTREAM_FRAME (R217). -/
  | preampUpstreamFrame (a : Act) (frame : Option (BitVec 128))
  /-- PSL_TX_FRAME (R226). -/
  | pslTxFrame
  /-- PSL_RX_FRAME (R225). -/
  | pslRxFrame (frame : Option (BitVec 128))
  /-- REG_REQUEST_TIMEOUT (R228). -/
  | regRequestTimeout (link : Nat) (tag : Nat)
  /-- LINK_TRAINING_TIMEOUT (R231). -/
  | linkTrainingTimeout (link : Nat)
  /-- LINK_TRAINING_RETRY (R231). -/
  | linkTrainingRetry (link : Nat)
  /-- PREAMP_LINK_LOST (R232). -/
  | preampLinkLost (a : Act)
  /-- PSL_LINK_LOST (R234). -/
  | pslLinkLost
  /-- STRIPE_DESTAGE_START (R255). -/
  | stripeDestageStart (berth stripe : Nat)
  /-- PARITY_ENGINE_DONE (R245). -/
  | parityEngineDone (e : Fin 4)
  /-- MANIFEST_ENTRY_RECORDED (R256). -/
  | manifestEntryRecorded (slot : Nat)
  /-- MEMBER_STRIP_COMPLETE (R255). -/
  | memberStripComplete (slot member : Nat) (energyNj actUs : Nat)
  /-- LOG_STRIPE_AGED (R261). -/
  | logStripeAged (kind layout : Nat)
  /-- DREDGE_START (R265). -/
  | dredgeStart
  /-- DREDGE_VICTIM_DONE (R266). -/
  | dredgeVictimDone
  /-- PATROL_STRIPE_CHECK (R270). -/
  | patrolStripeCheck (berth stripe : Nat) (rows : List (Nat × List (Option (List Byte))))
  /-- CHECKPOINT_START (R271). -/
  | checkpointStart
  /-- CHECKPOINT_COMMIT (R271). -/
  | checkpointCommit (okA okB : Bool)
  /-- HEAD_DECLARED (R276). -/
  | headDeclared (h : Hd) (reason : Nat)
  /-- ACTUATOR_DECLARED_FAILED (R277). -/
  | actuatorDeclaredFailed (a : Act)
  /-- REBUILD_ENTRY_CREATE (R278). -/
  | rebuildEntryCreate (h : Hd)
  /-- REBUILD_ENTRY_START (R283). -/
  | rebuildEntryStart (e : Nat)
  /-- REBUILD_STRIPE_COMPLETE (R288). -/
  | rebuildStripeComplete (e : Nat) (lostRows : List (Nat × List Nat)) (suspectRows : List Nat) (energyNj actUs : Nat)
  /-- COPY_SWITCH (R287). -/
  | copySwitch (e : Nat)
  /-- RELOCATION (R281). -/
  | relocation (berth member n : Nat)
  /-- SHARE_WINDOW (R290). -/
  | shareWindow
  /-- CHECKPOINT_HEAD_MOVE (R297). -/
  | checkpointHeadMove
  /-- RESHAPE_SWITCH (R299). -/
  | reshapeSwitch (berth : Nat)
  /-- SQ_TAIL_DOORBELL (R314). -/
  | sqTailDoorbell (f : Fn) (qid value : Nat)
  /-- CQ_HEAD_DOORBELL (R314). -/
  | cqHeadDoorbell (f : Fn) (qid value : Nat)
  /-- DOORBELL_FIFO_APPLY (R314). -/
  | doorbellFifoApply (port : Fin 2)
  /-- MOORING_FILL (R313). -/
  | mooringFill (f : Fn) (qid : Nat) (poison : Bool)
  /-- ARBITER_GRANT (R318). -/
  | arbiterGrant
  /-- SQ_ENTRY_RETURN (R315). -/
  | sqEntryReturn (c : HostCmd)
  /-- HOST_DATA_RECEIVED (R13). -/
  | hostDataReceived (t : Tag) (data : List Byte) (pi : List Byte) (poisoned : Bool)
  /-- WRITE_INDEX_ACK (R14). -/
  | writeIndexAck (t : Tag)
  /-- COMPLETION_POST (R338). -/
  | completionPost (t : Tag)
  /-- CAP_WINDOW (R319). -/
  | capWindow
  /-- TALLY_MINUTE_CLOSE (R333). -/
  | tallyMinuteClose
  /-- ORDER_WAIT_RELEASE (R348). -/
  | orderWaitRelease (t : Tag)
  /-- HELD_WRITE_RELEASE (R252). -/
  | heldWriteRelease
  /-- PILOT_ENTRY (R346). -/
  | pilotEntry (a : Act)
  /-- PILOT_DISPATCH (R347). -/
  | pilotDispatch (a : Act) (costs : List (Nat × Nat))
  /-- MEDIA_OPERATION_END (R320). -/
  | mediaOperationEnd (a : Act) (rows : List (Nat × List (Option (List Byte))))
  /-- SWEPT_COMMAND_END (R352). -/
  | sweptCommandEnd (t : Tag)
  /-- DELETE_SQ_COMPLETE (R352). -/
  | deleteSqComplete (t : Tag)
  /-- CONTROLLER_ENABLE (R519). -/
  | controllerEnable (f : Fn) (ams asq acq asqs acqs : Nat)
  /-- CONTROLLER_RESET (R354). -/
  | controllerReset (f : Fn)
  /-- FUNCTION_LEVEL_RESET (R354). -/
  | functionLevelReset (f : Fn)
  /-- HOT_RESET (R434). -/
  | hotReset (port : Fin 2)
  /-- PERST_ASSERT (R434). -/
  | perstAssert (port : Fin 2)
  /-- PERST_DEASSERT (R519). -/
  | perstDeassert (port : Fin 2)
  /-- NVM_SUBSYSTEM_RESET (R450). -/
  | nvmSubsystemReset
  /-- IT_NEXUS_LOSS (R434). -/
  | itNexusLoss (port : Fin 2) (nexus : Nat)
  /-- CREATE_IO_CQ (R310). -/
  | createIoCq (t : Tag)
  /-- CREATE_IO_SQ (R310). -/
  | createIoSq (t : Tag)
  /-- DELETE_IO_SQ (R352). -/
  | deleteIoSq (t : Tag)
  /-- DELETE_IO_CQ (R352). -/
  | deleteIoCq (t : Tag)
  /-- IDENTIFY (R324). -/
  | identify (t : Tag)
  /-- GET_LOG_PAGE (R324). -/
  | getLogPage (t : Tag)
  /-- GET_LOG_PAGE_TALLY (R336). -/
  | getLogPageTally (t : Tag)
  /-- SET_FEATURES (R324). -/
  | setFeatures (t : Tag)
  /-- SET_FEATURES_TIMESTAMP (R509). -/
  | setFeaturesTimestamp (t : Tag)
  /-- GET_FEATURES (R324). -/
  | getFeatures (t : Tag)
  /-- ASYNC_EVENT_REQUEST (R339). -/
  | asyncEventRequest (t : Tag)
  /-- ABORT (R351). -/
  | abort (t : Tag)
  /-- NAMESPACE_MANAGEMENT_CREATE (R325). -/
  | namespaceManagementCreate (t : Tag)
  /-- NAMESPACE_MANAGEMENT_DELETE (R349). -/
  | namespaceManagementDelete (t : Tag)
  /-- NAMESPACE_ATTACH (R324). -/
  | namespaceAttach (t : Tag)
  /-- NAMESPACE_DETACH (R349). -/
  | namespaceDetach (t : Tag)
  /-- FIRMWARE_IMAGE_DOWNLOAD (R526). -/
  | firmwareImageDownload (t : Tag)
  /-- FIRMWARE_COMMIT_CA000 (R526). -/
  | firmwareCommitCa000 (t : Tag)
  /-- FIRMWARE_COMMIT_CA001 (R526). -/
  | firmwareCommitCa001 (t : Tag)
  /-- FIRMWARE_COMMIT_CA010 (R526). -/
  | firmwareCommitCa010 (t : Tag)
  /-- FIRMWARE_COMMIT_CA011 (R526). -/
  | firmwareCommitCa011 (t : Tag)
  /-- VIRTUALIZATION_MANAGEMENT (R310). -/
  | virtualizationManagement (t : Tag)
  /-- FORMAT_NVM (R349). -/
  | formatNvm (t : Tag)
  /-- SANITIZE_CRYPTO_ERASE (R488). -/
  | sanitizeCryptoErase (t : Tag)
  /-- SECURITY_SEND (R489). -/
  | securitySend (t : Tag) (m : OpalMethod)
  /-- SECURITY_RECEIVE (R489). -/
  | securityReceive (t : Tag)
  /-- OPAL_AUTHENTICATE (R490). -/
  | opalAuthenticate (auth nsid : Nat) (cred : List Byte)
  /-- OPAL_GENKEY (R488). -/
  | opalGenkey (nsid : Nat)
  /-- OPAL_REVERT (R488). -/
  | opalRevert
  /-- OPAL_REVERTSP (R488). -/
  | opalRevertsp
  /-- GET_LBA_STATUS (R330). -/
  | getLbaStatus (t : Tag)
  /-- DEVICE_SELF_TEST (R324). -/
  | deviceSelfTest (t : Tag)
  /-- READ (R348). -/
  | read (t : Tag)
  /-- WRITE (R13). -/
  | write (t : Tag)
  /-- FLUSH (R349). -/
  | flush (t : Tag)
  /-- WRITE_ZEROES (R536). -/
  | writeZeroes (t : Tag)
  /-- DATASET_MANAGEMENT (R262). -/
  | datasetManagement (t : Tag)
  /-- VERIFY (R342). -/
  | verify (t : Tag)
  /-- RESERVATION_REGISTER (R324). -/
  | reservationRegister (t : Tag)
  /-- RESERVATION_REPORT (R324). -/
  | reservationReport (t : Tag)
  /-- RESERVATION_ACQUIRE (R324). -/
  | reservationAcquire (t : Tag)
  /-- RESERVATION_RELEASE (R324). -/
  | reservationRelease (t : Tag)
  /-- ZONE_APPEND (R536). -/
  | zoneAppend (t : Tag)
  /-- ZONE_OPEN (R253). -/
  | zoneOpen (t : Tag)
  /-- ZONE_CLOSE (R327). -/
  | zoneClose (t : Tag)
  /-- ZONE_FINISH (R258). -/
  | zoneFinish (t : Tag)
  /-- ZONE_RESET (R259). -/
  | zoneReset (t : Tag)
  /-- ZONE_OFFLINE (R327). -/
  | zoneOffline (t : Tag)
  /-- REPORT_ZONES (R327). -/
  | reportZones (t : Tag)
  /-- INQUIRY (R519). -/
  | inquiry (lu : Fn) (c : HostCmd)
  /-- REPORT_LUNS (R519). -/
  | reportLuns (lu : Fn) (c : HostCmd)
  /-- TEST_UNIT_READY (R519). -/
  | testUnitReady (lu : Fn) (c : HostCmd)
  /-- REQUEST_SENSE (R519). -/
  | requestSense (lu : Fn) (c : HostCmd)
  /-- READ_CAPACITY_16 (R324). -/
  | readCapacity16 (lu : Fn) (c : HostCmd)
  /-- READ_16 (R348). -/
  | read16 (lu : Fn) (c : HostCmd)
  /-- WRITE_16 (R13). -/
  | write16 (lu : Fn) (c : HostCmd)
  /-- VERIFY_16 (R342). -/
  | verify16 (lu : Fn) (c : HostCmd)
  /-- SYNCHRONIZE_CACHE_16 (R349). -/
  | synchronizeCache16 (lu : Fn) (c : HostCmd)
  /-- UNMAP (R262). -/
  | unmap (lu : Fn) (c : HostCmd)
  /-- FORMAT_UNIT (R349). -/
  | formatUnit (lu : Fn) (c : HostCmd)
  /-- SCSI_SANITIZE (R488). -/
  | scsiSanitize (lu : Fn) (c : HostCmd)
  /-- MODE_SENSE_10 (R324). -/
  | modeSense10 (lu : Fn) (c : HostCmd)
  /-- MODE_SELECT_10 (R329). -/
  | modeSelect10 (lu : Fn) (c : HostCmd)
  /-- LOG_SENSE (R336). -/
  | logSense (lu : Fn) (c : HostCmd)
  /-- START_STOP_UNIT (R324). -/
  | startStopUnit (lu : Fn) (c : HostCmd)
  /-- WRITE_BUFFER_MODE_0E (R526). -/
  | writeBufferMode0e (lu : Fn) (c : HostCmd)
  /-- WRITE_BUFFER_MODE_0F (R526). -/
  | writeBufferMode0f (lu : Fn) (c : HostCmd)
  /-- WRITE_BUFFER_MODE_07 (R526). -/
  | writeBufferMode07 (lu : Fn) (c : HostCmd)
  /-- READ_BUFFER (R324). -/
  | readBuffer (lu : Fn) (c : HostCmd)
  /-- SECURITY_PROTOCOL_IN (R489). -/
  | securityProtocolIn (lu : Fn) (c : HostCmd)
  /-- SECURITY_PROTOCOL_OUT (R489). -/
  | securityProtocolOut (lu : Fn) (c : HostCmd) (m : OpalMethod)
  /-- PERSISTENT_RESERVE_IN (R324). -/
  | persistentReserveIn (lu : Fn) (c : HostCmd)
  /-- PERSISTENT_RESERVE_OUT (R324). -/
  | persistentReserveOut (lu : Fn) (c : HostCmd)
  /-- SCSI_REPORT_ZONES (R324). -/
  | scsiReportZones (lu : Fn) (c : HostCmd)
  /-- RESET_WRITE_POINTER (R259). -/
  | resetWritePointer (lu : Fn) (c : HostCmd)
  /-- OPEN_ZONE (R253). -/
  | openZone (lu : Fn) (c : HostCmd)
  /-- CLOSE_ZONE (R327). -/
  | closeZone (lu : Fn) (c : HostCmd)
  /-- FINISH_ZONE (R258). -/
  | finishZone (lu : Fn) (c : HostCmd)
  /-- MAILBOX_SEND (R418). -/
  | mailboxSend (lu : Fn) (port : Fin 2) (c : HostCmd)
  /-- MAILBOX_RECEIVE (R418). -/
  | mailboxReceive (lu : Fn) (port : Fin 2) (c : HostCmd)
  /-- MAILBOX_RECEIVE_NOTIFY (R418). -/
  | mailboxReceiveNotify (lu : Fn) (port : Fin 2) (c : HostCmd)
  /-- ABORT_TASK (R355). -/
  | abortTask (lu : Fn) (nexus cid : Nat)
  /-- ABORT_TASK_SET (R355). -/
  | abortTaskSet (lu : Fn) (nexus : Nat)
  /-- CLEAR_TASK_SET (R355). -/
  | clearTaskSet (lu : Fn) (nexus : Nat)
  /-- LOGICAL_UNIT_RESET (R355). -/
  | logicalUnitReset (lu : Fn) (nexus : Nat)
  /-- I_T_NEXUS_RESET (R355). -/
  | iTNexusReset (nexus : Nat)
  /-- QUERY_TASK (R355). -/
  | queryTask (lu : Fn) (nexus cid : Nat)
  /-- QUERY_TASK_SET (R355). -/
  | queryTaskSet (lu : Fn) (nexus : Nat)
  /-- QUERY_ASYNCHRONOUS_EVENT (R355). -/
  | queryAsynchronousEvent (lu : Fn) (nexus : Nat)
  /-- CLEAR_ACA (R355). -/
  | clearAca (lu : Fn) (nexus : Nat)
  /-- DRAM_READ (R368). -/
  | dramRead (q : DAsk) (result : ReadResult) (user : Option Consumer)
  /-- DRAM_WRITE (R376). -/
  | dramWrite (q : DAsk) (data : List Byte) (poisoned : Bool)
  /-- DRAM_NARROW_WRITE (R369). -/
  | dramNarrowWrite (addr : Nat) (bytes : List Byte)
  /-- MERGE_ENTRY_TIMEOUT (R369). -/
  | mergeEntryTimeout (line : Nat) (result : ReadResult)
  /-- SCRUB_LINE (R372). -/
  | scrubLine (due : List (Fin 4)) (result : ReadResult)
  /-- DRAM_REFRESH (R378). -/
  | dramRefresh (ch : Fin 2)
  /-- DRAM_TEMP_READ (R379). -/
  | dramTempRead (t0 t1 : Int)
  /-- SELF_REFRESH_ENTRY (R380). -/
  | selfRefreshEntry (ch : Fin 2)
  /-- SELF_REFRESH_EXIT (R380). -/
  | selfRefreshExit (ch : Fin 2) (asked : Bool)
  /-- DRAM_RETRAIN (R381). -/
  | dramRetrain (ch : Fin 2) (drift64 : Int)
  /-- ORDER_POST (R387). -/
  | orderPost (n : Sq) (word : BitVec 128)
  /-- SEQ_EVENT_LINE (R398). -/
  | seqEventLine (n : Sq) (line : Fin 16)
  /-- SEQ_TIMER_EXPIRY (R389). -/
  | seqTimerExpiry (n : Sq)
  /-- WATCHDOG_EXPIRY (R400). -/
  | watchdogExpiry (n : Sq)
  /-- NETWORK_ACCESS_TIMEOUT (R393). -/
  | networkAccessTimeout (n : Sq)
  /-- NETWORK_WRITE_ERROR (R396). -/
  | networkWriteError (n : Sq)
  /-- MOVE_DONE (R391). -/
  | moveDone (n : Sq)
  /-- STORE_AUDIT (R408). -/
  | storeAudit (b : Fin 2) (digest : List Byte)
  /-- NOP (R391). -/
  | nop (n : Sq) (w : BitVec 26)
  /-- YIELD (R399). -/
  | yield (n : Sq) (w : BitVec 26)
  /-- COMMIT (R396). -/
  | commit (n : Sq) (w : BitVec 26)
  /-- HALT (R391). -/
  | halt (n : Sq) (w : BitVec 26)
  /-- FAULT (R401). -/
  | fault (n : Sq) (w : BitVec 26)
  /-- GETORD (R391). -/
  | getord (n : Sq) (w : BitVec 26)
  /-- DISPATCH (R391). -/
  | dispatch (n : Sq) (w : BitVec 26)
  /-- POST (R388). -/
  | post (n : Sq) (w : BitVec 26)
  /-- EVT (R391). -/
  | evt (n : Sq) (w : BitVec 26)
  /-- IRET (R391). -/
  | iret (n : Sq) (w : BitVec 26)
  /-- ADD (R391). -/
  | add (n : Sq) (w : BitVec 26)
  /-- SUB (R391). -/
  | sub (n : Sq) (w : BitVec 26)
  /-- AND (R391). -/
  | and (n : Sq) (w : BitVec 26)
  /-- OR (R391). -/
  | or (n : Sq) (w : BitVec 26)
  /-- XOR (R391). -/
  | xor (n : Sq) (w : BitVec 26)
  /-- SHL (R391). -/
  | shl (n : Sq) (w : BitVec 26)
  /-- SHR (R391). -/
  | shr (n : Sq) (w : BitVec 26)
  /-- SAR (R391). -/
  | sar (n : Sq) (w : BitVec 26)
  /-- MUL (R391). -/
  | mul (n : Sq) (w : BitVec 26)
  /-- MULHU (R391). -/
  | mulhu (n : Sq) (w : BitVec 26)
  /-- MIN (R391). -/
  | min (n : Sq) (w : BitVec 26)
  /-- MAX (R391). -/
  | max (n : Sq) (w : BitVec 26)
  /-- MINU (R391). -/
  | minu (n : Sq) (w : BitVec 26)
  /-- MAXU (R391). -/
  | maxu (n : Sq) (w : BitVec 26)
  /-- CMP (R391). -/
  | cmp (n : Sq) (w : BitVec 26)
  /-- CRC (R391). -/
  | crc (n : Sq) (w : BitVec 26)
  /-- ADDI (R391). -/
  | addi (n : Sq) (w : BitVec 26)
  /-- ANDI (R391). -/
  | andi (n : Sq) (w : BitVec 26)
  /-- ORI (R391). -/
  | ori (n : Sq) (w : BitVec 26)
  /-- XORI (R391). -/
  | xori (n : Sq) (w : BitVec 26)
  /-- SHLI (R391). -/
  | shli (n : Sq) (w : BitVec 26)
  /-- SHRI (R391). -/
  | shri (n : Sq) (w : BitVec 26)
  /-- SARI (R391). -/
  | sari (n : Sq) (w : BitVec 26)
  /-- MOVI (R391). -/
  | movi (n : Sq) (w : BitVec 26)
  /-- LUI (R391). -/
  | lui (n : Sq) (w : BitVec 26)
  /-- CMPI (R391). -/
  | cmpi (n : Sq) (w : BitVec 26)
  /-- LD (R391). -/
  | ld (n : Sq) (w : BitVec 26)
  /-- ST (R391). -/
  | st (n : Sq) (w : BitVec 26)
  /-- LDN (R391). -/
  | ldn (n : Sq) (w : BitVec 26)
  /-- STN (R391). -/
  | stn (n : Sq) (w : BitVec 26)
  /-- ATOM (R391). -/
  | atom (n : Sq) (w : BitVec 26)
  /-- MOVE (R391). -/
  | move (n : Sq) (w : BitVec 26)
  /-- IN (R391). -/
  | inPort (n : Sq) (w : BitVec 26)
  /-- INC (R391). -/
  | inc (n : Sq) (w : BitVec 26)
  /-- OUT (R391). -/
  | outPort (n : Sq) (w : BitVec 26)
  /-- BR (R391). -/
  | br (n : Sq) (w : BitVec 26)
  /-- CALL (R394). -/
  | call (n : Sq) (w : BitVec 26)
  /-- RET (R394). -/
  | ret (n : Sq) (w : BitVec 26)
  /-- BRI (R391). -/
  | bri (n : Sq) (w : BitVec 26)
  /-- LOOP (R391). -/
  | loop (n : Sq) (w : BitVec 26)
  /-- MBX_REQ_TAIL_WRITE (R417). -/
  | mbxReqTailWrite (mb : Mb) (v : BitVec 32)
  /-- MBX_RESP_HEAD_WRITE (R417). -/
  | mbxRespHeadWrite (mb : Mb) (v : BitVec 32)
  /-- MBX_NTF_HEAD_WRITE (R417). -/
  | mbxNtfHeadWrite (mb : Mb) (v : BitVec 32)
  /-- REGISTER_WRITE (R5). -/
  | registerWrite (mb : Mb) (offset : Nat) (v : Option (BitVec 32))
  /-- MAILBOX_REQUEST_START (R423). -/
  | mailboxRequestStart (mb : Mb)
  /-- UART_FRAME (R420). -/
  | uartFrame (raw : List Byte)
  /-- NVME_MI_COMMAND (R419). -/
  | nvmeMiCommand (msg : List Byte)
  /-- L_MESSAGE_DONE (R424). -/
  | lMessageDone (mb : Mb) (seq status : Nat) (result : Nat)
  /-- NONCE_EXPIRY (R433). -/
  | nonceExpiry (mb : Mb)
  /-- AUTH_ARM_EXPIRY (R433). -/
  | authArmExpiry (mb : Mb)
  /-- AUTH_LOCKOUT_END (R433). -/
  | authLockoutEnd (mb : Mb)
  /-- SUPPLY_SAMPLE (R447). -/
  | supplySample (sm : SupplySample)
  /-- NV_WRITE_INHIBIT_ENTRY (R448). -/
  | nvWriteInhibitEntry
  /-- NV_WRITE_INHIBIT_END (R448). -/
  | nvWriteInhibitEnd
  /-- BREAKWATER_START (R450). -/
  | breakwaterStart (cause : Nat)
  /-- ACTUATOR_PARKED (R454). -/
  | actuatorParked (a : Act)
  /-- PARK_TIMEOUT (R454). -/
  | parkTimeout (a : Act)
  /-- PARK_OPEN_LOOP_END (R454). -/
  | parkOpenLoopEnd (a : Act)
  /-- VAULT_PAGE_PROGRAM_DONE (R458). -/
  | vaultPageProgramDone (ok : Bool)
  /-- QUIESCENT_RELEASE (R459). -/
  | quiescentRelease
  /-- VAULT_AREA_ERASE_DONE (R465). -/
  | vaultAreaEraseDone (ar : Fin 2)
  /-- HOST_ADMISSION (R520). -/
  | hostAdmission
  /-- LC_RESET (R469). -/
  | lcReset
  /-- SESSION_KEY_READY (R476). -/
  | sessionKeyReady
  /-- SESSION_KEY_SUCCESSOR (R476). -/
  | sessionKeySuccessor
  /-- TREE_CACHE_REBUILT (R473). -/
  | treeCacheRebuilt
  /-- SPRING_TEST_FAIL (R483). -/
  | springTestFail (test : Nat)
  /-- EVENT_FLUSH (R502). -/
  | eventFlush (okA okB : Bool)
  /-- COUNTER_BLOCK_WRITE (R507). -/
  | counterBlockWrite (okA okB : Bool)
  /-- POWER_ON_SECOND (R508). -/
  | powerOnSecond
  /-- INCIDENT_CLOSE (R511). -/
  | incidentClose (index : Fin 256)
  /-- SLIPWAY_BACKOUT (R533). -/
  | slipwayBackout (aux : Nat)
  /-- PHASE_VOLTAGE_SAMPLE (R118). -/
  | phaseVoltageSample (u v w : BitVec 12)
  /-- RETRACT_T_EXPIRY (R454). -/
  | retractTExpiry
  /-- CHANNEL_RATE_RETURN (R74). -/
  | channelRateReturn (m : Strm)
  /-- BOOT_SPINDLE_TIMEOUT (R522). -/
  | bootSpindleTimeout
  deriving DecidableEq, Repr

end Sys2Proof
end

