-- ==== Sys2Proof/Decode.lean ====
section
/-! DEFINITION. Decode: the opcode table gives no row of this block any bits. -/

namespace Sys2Proof

/-- The command that a word spells by the opcode table's bits: no row of the table gives bits, so no
word spells a command. Commands reach the block through `pending`. -/
def decodeTableWord (_nbits _w : Nat) : Option Instr := none

end Sys2Proof
end

