-- ==== Sys2Proof/Config.lean ====
section
/-! DEFINITION. Config: the free values the spec leaves open and the functions it names without
giving. None has a body, so a statement about one holds whatever it is. -/

namespace Sys2Proof.Config

/-- A free number: an unstated value of the spec, at the count of free values taken so far. -/
opaque freeNat : Nat → Nat

/-- A free word of `w` bits, at the count of free values taken so far. -/
opaque freeWord : (w : Nat) → Nat → BitVec w

/-- Bits 11:0 of the code of an event whose owning chapter gives it no number: by group and by the
event's place in the group. -/
opaque evLow : Nat → Nat → BitVec 12

/-- The identification the TAP's IDCODE register captures, which the spec does not give (R55). -/
opaque idcode : BitVec 32

/-- SHAKE256 to 32 bytes (a standard the spec names, R433). -/
opaque shake256 : List Byte → List Byte

/-- Verification of an XMSS or LMS signature block by a key digest over a message (R433, R478). -/
opaque sigVerify : (key : List Byte) → (msg : List Byte) → (sig : List Byte) → Bool

/-- Signature by the identity key at an index, or by a session key (R474, R491). -/
opaque sigMake : (key : List Byte) → (index : Nat) → (msg : List Byte) → List Byte

/-- Public key, root then public seed, of the XMSS key grown from a secret seed (R473). -/
opaque xmssPub : (seed : List Byte) → List Byte

/-- The certification request made of the serial, the identity public key and its signature (R477). -/
opaque certRequest : (serial : List Byte) → (pk : List Byte) → (sig : List Byte) → List Byte

/-- The subject public key of the leaf of a stored certificate chain (R477). -/
opaque certSubject : (chain : List Byte) → List Byte

/-- Random bytes of the entropy spring (R483): length and draw. -/
opaque spring : Nat → Nat → List Byte

/-- AES-256-XTS of one 4,096 B data unit: key, 128-bit tweak, plaintext (a standard the spec names, R331). -/
opaque xtsEnc : (key : List Byte) → (tweak : List Byte) → (data : List Byte) → List Byte

/-- The inverse of `xtsEnc`. -/
opaque xtsDec : (key : List Byte) → (tweak : List Byte) → (data : List Byte) → List Byte

/-- Key wrap under a 256-bit key (a standard the spec names, R485). -/
opaque wrap : (kek : List Byte) → (key : List Byte) → List Byte

/-- Key unwrap; `none` when the integrity check fails (R485). -/
opaque unwrap : (kek : List Byte) → (wrapped : List Byte) → Option (List Byte)

/-- The estimates of the position observer and of the predictors, whose equations the spec does not
give (R92): which value, what it is formed from, and the count of free values taken so far. -/
opaque estimate : (what : Nat) → List Int → Nat → Int

/-- The VCM command of the supervisor's velocity control on back-EMF (R82, R454): velocity reference
in mm/s and count of free values taken so far. -/
opaque rampDrive : (vRef : Int) → Nat → BitVec 16

/-- The VCM command of the stop plan and of the move to the outer diameter (R98, R454): reference
velocity in position units per frame and count of free values taken so far. -/
opaque parkDrive : (vRef : Int) → Nat → BitVec 16

/-- The sign of a VCM command that drives toward the ramp (R454). -/
opaque rampNegative : Bool

/-- The input of the heater law, Q8.24, from a clearance estimate and HTR_FB (R201). -/
opaque heaterInput : (clear fb : Nat) → Int

/-- Heater power in 0.1 mW steps of a heater law output in Q8.24 (R201). -/
opaque heaterPower : Int → Int

/-- The input of an assist-temperature filter, Q8.24, from a temperature in 0.5 °C steps (R195). -/
opaque tempInput : Nat → Int

/-- The filtered temperature in 0.5 °C steps of a filter output in Q8.24 (R199). -/
opaque tempOutput : Int → Int

/-- The input of spindle law `l` in Q8.24 from the difference it takes: mA, 1/8 rpm or mV (R123). -/
opaque spindleInput : (l : Nat) → Int → Int

/-- What the output of spindle law `l` in Q8.24 stands for, mA of Iq_ref (R123). -/
opaque spindleOutput : (l : Nat) → Int → Int

/-- The compare value of a phase, 0 to 2 for U, V, W, by space-vector modulation of the voltage vector of
the current laws, V_BUS in mV and the electrical angle in 2^-32 turn (R117). -/
opaque modulate : (phase : Nat) → (vd vq : Int) → (vBus angle : Nat) → Nat

/-- By how much the phase voltages are divided before their inputs (R47). -/
opaque vphRatio : Nat

/-- The equalised level of a bit of target 1, 1/1024 ADC code (R145, R147). -/
opaque targetLevel : Int

/-- The bit error rate that an LLR magnitude predicts, in 2^-32 (R151). -/
opaque llrError : Nat → Nat

/-- Torque constant in 10^-6 N·m/A from the back-EMF constant in 0.001 mV/rpm line peak (R137). -/
opaque torqueConst : (ke : Nat) → Nat

/-- The natural offset filtered by one more frame, with the time constant in 0.001 ms (R108). -/
opaque twinFilter : (tau : Nat) → (filtered natural : Int) → Int

/-- The bytes of the drive configuration in NOR: the setters persisted, the certificate chain, the learned FF tables.
The spec does not lay them out (R491, R524). -/
opaque configBytes : (setters : List Instr) → (chain : List Byte) → (ff : List (List Nat)) → List Byte

/-- The 4 KiB pages that so many changed zone-table records lie in: the spec gives the record no size (R271,
R455). -/
opaque zonePages : Nat → Nat

end Sys2Proof.Config
end

