-- ==== Sys2Proof/Machine/State.lean ====
section
/-! DEFINITION. State: the state of the whole device as plain data; every field's default value is
its value at reset, and `State.reset` is the record of the defaults. -/

namespace Sys2Proof.Machine

/-- Why a command stops the machine. -/
inductive Fault where
  /-- A DRAM access to an address outside every VALID region (R364): raised by the DRAM accesses.
  Safe: the machine stops where the spec gives the access no content. -/
  | noRegion
  deriving DecidableEq, Repr

/-- Why a command has no meaning. -/
inductive Refusal where
  /-- The command has no meaning in this model yet: raised by the arms of `exec` alone. Safe. -/
  | notModelled (mnemonic : String)
  deriving DecidableEq, Repr

/-- The events the device records: chapter 16 to 19 number theirs, the other chapters name theirs. -/
inductive Ev where
  | hostStrapReserved | recoveryBootIgnored | avsFail | socAtLimit | thermal105
  | trackSlip | angleSlip | surfMismatch | formatErr | lost | rateOor | acqFail
  | vcmRetract | trajStop | seekFail | rmsHigh | holdRetract | twinFallback
  | ocTrip | spnFault | obsLoss | startFail | chopFault
  | syncBias
  | sqzCheck | assistFault | ffDrift | contact | contactBlocked | wearWarn | wearFull | otherCause
  | plkLoss | trainFail | headsMismatch | pslLoss
  | noEligible | piMismatch | patrolFix | patrolSuspect
  | headDeclared | actuatorFailed | rebuildSuspect | rowLost | berthLost | spreadLost | ckptMoved | reshapeDone
  | mooringPoison
  | ue | poisonUsed | substitute | lapWarn | overtemp | trainDrift
  | seqFault | auditFail | authFail
  | numbered (code : Nat)
  deriving DecidableEq, Repr

/-- The ledger auditor: HBM_LEDGER_STATUS and the state behind it (R26 to R30). -/
structure Ledger where
  /-- ACTING, a breach takes its action (R30). -/
  acting : Bool := false
  /-- LAST_QTY, code of the most recent breach (R30). -/
  lastQty : Nat := 0
  /-- BREACH_TAG (R30). -/
  breachTag : Bool := false
  /-- BREACH_POND (R30). -/
  breachPond : Bool := false
  /-- BREACH_PCIECR (R30). -/
  breachPcieCr : Bool := false
  /-- BREACH_MBXCR (R30). -/
  breachMbxCr : Bool := false
  /-- BREACH_TALLY (R30). -/
  breachTally : Bool := false
  /-- BREACH_COMPL (R30). -/
  breachCompl : Bool := false
  /-- number of the audit epoch in progress (R27). -/
  epoch : Nat := 0
  /-- functions whose ledgers are left out while they are re-initialised (R28). -/
  excluded : List Nat := []
  /-- the epoch in progress began under NV-write inhibit and is not checked (R29). -/
  skip : Bool := false
  /-- stopped by a breakwater sequence until the next reset (R29). -/
  stopped : Bool := false
  deriving DecidableEq, Repr

/-- Strap balls as latched at internal reset release (R39, R40). -/
structure Straps where
  /-- STRAP_HOST latched (R39). -/
  host : Nat := 0
  /-- STRAP_BOOT latched (R39). -/
  boot : Bool := false
  /-- STRAP_TEST latched (R39). -/
  test : Bool := false
  deriving DecidableEq, Repr

/-- Balls the device samples or drives (R36, R39, R46, R52 to R55). -/
structure Pins where
  /-- level on STRAP_HOST (internal pull-downs) (R40). -/
  strapHost : Nat := 0
  /-- level on STRAP_BOOT (R40). -/
  strapBoot : Bool := false
  /-- level on STRAP_TEST (R40). -/
  strapTest : Bool := false
  /-- RESET_N level (R46). -/
  resetN : Bool := true
  /-- PORST_N level (R46). -/
  porstN : Bool := true
  /-- PWRFAIL_N level (R46). -/
  pwrfailN : Bool := true
  /-- THERM_N, open drain; false is asserted (R52). -/
  thermN : Bool := true
  /-- MG_ALERT_N, open drain; false is asserted (R419). -/
  mgAlertN : Bool := true
  /-- SPG_EN[5:0], held low in reset (R58) (R116). -/
  spgEn : BitVec 6 := 0
  deriving DecidableEq, Repr

/-- One AVSBus rail of the core supply voltage loop (R41 to R43). -/
structure Rail where
  /-- last acknowledged voltage, mV (800 VDD_CPU, 750 VDD_SOC) (R41). -/
  ackedMv : Nat := 800
  /-- voltage requested and not yet acknowledged (R42). -/
  req : Option Nat := none
  /-- failed attempts at the request (R43). -/
  attempts : Nat := 0
  /-- consecutive ticks with M above M_HI (R42). -/
  highTicks : Nat := 0
  /-- last smallest slack, % (R43). -/
  lastM : Nat := 0
  /-- fixed voltage of PWR_SUPPLY_POLICY; 0 adaptive (R43). -/
  fixedMv : Nat := 0
  deriving DecidableEq, Repr

/-- Voltage loop, CLK_CORE and junction temperature (R42, R43, R52). -/
structure Pmu where
  /-- VDD_CPU (R41). -/
  cpu : Rail := {}
  /-- VDD_SOC (R41). -/
  soc : Rail := { ackedMv := 750 }
  /-- CLK_CORE in MHz (R43). -/
  clkCore : Nat := 1800
  /-- M_LO, % (R42). -/
  mLo : Nat := 5
  /-- M_HI, % (R42). -/
  mHi : Nat := 10
  /-- CLK_CORE cap in MHz; 0 none (R43). -/
  capMhz : Nat := 0
  /-- requests stopped after three failed attempts (R43). -/
  stopped : Bool := false
  /-- requests stopped by the breakwater sequence (R43). -/
  seqStopped : Bool := false
  /-- CLK_CORE step left by an emergency response (R42). -/
  restoreTo : Option Nat := none
  /-- CLK_CORE step to take 50 µs after the acknowledgement (R43). -/
  raiseTo : Option Nat := none
  /-- last M of each CLK_CORE step at the last acknowledged VDD_CPU (R43). -/
  mAtStep : List (Nat × Nat) := []
  /-- junction temperature, 0.5 °C steps (R52). -/
  tj : Int := 0
  /-- highest active threshold: 0 none, 1 105 °C, 2 110 °C, 3 115 °C (R52). -/
  level : Nat := 0
  /-- CLK_CORE step before throttling (R52). -/
  throttleBase : Option Nat := none
  /-- Tj at or above 120 °C at the last reading (R52). -/
  overTrip : Bool := false
  /-- consecutive readings of Tj below 100 °C, saturating at 10000 (1 s) (R459). -/
  coolRun : Nat := 0
  deriving DecidableEq, Repr

/-- The test access port (R55). -/
structure Tap where
  /-- instruction register; IDCODE after Test-Logic-Reset (R55). -/
  ir : TapCode := .idcode
  /-- boundary-scan update latch, the cell nearest TDO first (R55). -/
  latch : List Bool := []
  deriving DecidableEq, Repr

/-- LKB_RATIO[h][z] (R72). -/
structure Ratio where
  /-- N, numerator; 0 unused zone (R72). -/
  n : Nat := 0
  /-- M, denominator (R72). -/
  m : Nat := 0
  deriving DecidableEq, Repr

/-- LKB_GUARD_CFG[a] (R77). -/
structure GuardCfg where
  /-- T_RD, position units (R77). -/
  tRd : Nat := 205
  /-- T_RES, position units (R77). -/
  tRes : Nat := 82
  /-- T_OT, position units (R77). -/
  tOt : Nat := 123
  deriving DecidableEq, Repr

/-- Per-head demodulator parameters (R62, R81). -/
structure Demod where
  /-- RDSEL (R81). -/
  rdsel : Nat := 0
  /-- AMP_MIN (R81). -/
  ampMin : Nat := 64
  /-- V_FINE, position units per sample (R81). -/
  vFine : Nat := 384
  deriving DecidableEq, Repr

/-- Surface data of the drive configuration (R59, R69, R73, R81). -/
structure Surface where
  /-- P_L in 0.01 nm (R81). -/
  pL : Nat := 2100
  /-- first lakebed track of DZ1 to DZ63, ascending (R73). -/
  zoneMap : List Nat := []
  /-- (first lakebed track, WPR) of each ring, outermost first (R59). -/
  rings : List (Nat × Nat) := []
  /-- lakebed tracks in use (R59). -/
  tracks : Nat := 0
  /-- lakebed tracks that verification rejected (R528). -/
  rejected : List Nat := []
  deriving DecidableEq, Repr

/-- Head data of the drive configuration (R72, R81). -/
structure HeadCfg where
  /-- surface mapped to the head (R81). -/
  surface : Nat := 0
  /-- index alignment, 1/256 tone cycle (R81). -/
  index : Int := 0
  /-- linearisation, 4 segments of 64 entries, position units (R81). -/
  lin : List Int := []
  /-- RDSEL, AMP_MIN, V_FINE in force (R81). -/
  demod : Demod := {}
  /-- change held until the write gate closes (R81). -/
  demodHeld : Option Demod := none
  /-- bandwidth of the held message, with its stream (R81). -/
  bwHeld : Option (Strm × Nat) := none
  /-- LKB_RATIO[h][0..63] (R72). -/
  ratio : Vector Ratio 64 := Vector.replicate 64 {}
  deriving DecidableEq, Repr

/-- One read stream's lakebed side: LKB_STREAM_STATUS[m] and its counters (R64 to R76, R80). -/
structure Stream where
  /-- TONE_LOCK (R80). -/
  toneLock : Bool := false
  /-- FINE (R80). -/
  fine : Bool := false
  /-- TRACK_VALID (R80). -/
  trackValid : Bool := false
  /-- ANGLE_VALID (R80). -/
  angleValid : Bool := false
  /-- ZONE_SETTLE (R80). -/
  zoneSettle : Bool := false
  /-- SEAM (R80). -/
  seam : Bool := false
  /-- LOST (R80). -/
  lost : Bool := false
  /-- ACQ_FAIL (R80). -/
  acqFail : Bool := false
  /-- RATE_OOR (W1C) (R80). -/
  rateOor : Bool := false
  /-- SURF_MISMATCH (R80). -/
  surfMismatch : Bool := false
  /-- FORMAT_ERR (R80). -/
  formatErr : Bool := false
  /-- ANGLE_SLIP (R80). -/
  angleSlip : Bool := false
  /-- TRACK_SLIP (R80). -/
  trackSlip : Bool := false
  /-- UNLOCK_SEEN (R80). -/
  unlockSeen : Bool := false
  /-- AMP_LOW (R80). -/
  ampLow : Bool := false
  /-- CRC_ERR_CNT, saturating at 255 (R80). -/
  crcErrCnt : Nat := 0
  /-- TRACK_DIS_CNT, saturating at 7 (R80). -/
  trackDisCnt : Nat := 0
  /-- angle disagreements counted; the spec names no register for them (R68). -/
  angleDisCnt : Nat := 0
  /-- HEAD served (R80). -/
  head : Hd := 0
  /-- a head is selected on the stream (R76). -/
  selected : Bool := false
  /-- acquisition step reached, 0 idle, 5 done (R76). -/
  acqStep : Nat := 0
  /-- gates refused after SURF_MISMATCH or FORMAT_ERR until reselection (R68). -/
  refused : Bool := false
  /-- track counter (R68). -/
  track : Nat := 0
  /-- angle counter, 1/256 tone cycle (R68). -/
  angle : Nat := 0
  /-- words per revolution of the head's ring (R61). -/
  wpr : Nat := 0
  /-- TRACK field minus track counter at the last disagreement, while consecutive (R68). -/
  disTrack : Option Int := none
  /-- word angle minus angle counter, and WPR, of the last disagreement, while consecutive (R68). -/
  disAngle : Option (Int × Nat) := none
  /-- most recent TRACK field (R67). -/
  lastField : Nat := 0
  /-- windows since the end of the most recent TRACK field, saturating at 15 (R67). -/
  age : Nat := 0
  /-- the last sample word waits for the input latch (R87). -/
  fresh : Bool := false
  /-- SEQ of the last window (R67). -/
  seq : Nat := 0
  /-- last sample word delivered (R67). -/
  sample : BitVec 64 := 0
  /-- prediction words that wait for their windows, oldest first (R92). -/
  preds : List (BitVec 64) := []
  /-- SEQ of the window the last input latch stood for (R87). -/
  latchSeq : Nat := 0
  /-- sample word last consumed by the loop engine (R87). -/
  consumed : BitVec 64 := 0
  /-- last prediction word used (R67). -/
  lastPred : BitVec 64 := 0
  /-- predicted velocity in use (R66). -/
  predVel : Nat := 0
  /-- consecutive samples with saturated RESID (R66). -/
  residSat : Nat := 0
  /-- synthesiser in holdover (R71). -/
  holdover : Bool := false
  /-- tone lock has held since the window in progress began (R67). -/
  lockAll : Bool := false
  /-- head's estimated radius as the loop engine reports it, position units (R93). -/
  radius : Int := 0
  /-- tone-loop preset of the last head selection, Hz (R76). -/
  preset : Nat := 0
  /-- density zone the applied ratio belongs to (R73). -/
  zone : Zn := 0
  /-- ratio in use (R73). -/
  ratio : Ratio := {}
  /-- a ratio change waits for closed gates (R73). -/
  ratioPend : Bool := false
  /-- channel rate outside 0.80 to 5.20 Gbaud; CLK_STRm held at the limit (R74). -/
  rateClamped : Bool := false
  /-- tone-loop bandwidth, kHz (R81). -/
  toneBw : Nat := 800
  /-- order number at which ANGLE_VALID last set (0 while clear) (R122). -/
  angleSince : Nat := 0
  /-- lakebed track under verification (R528). -/
  follow : Option Nat := none
  /-- a sample or an identity word of this revolution forbids its acceptance (R528). -/
  followBad : Bool := false
  /-- words of this revolution that failed CRC (R528). -/
  followCrc : Nat := 0
  /-- tone cycles of this revolution, 1/256 cycle (R528). -/
  followCyc : Nat := 0
  deriving DecidableEq, Repr

/-- The position guard of one actuator (R22, R77, R78). -/
structure Guard where
  /-- thresholds in force (R77). -/
  cfg : GuardCfg := {}
  /-- thresholds waiting for the next sample strobe (R77). -/
  pend : Option GuardCfg := none
  /-- SEQ of the writing head's last sample (R78). -/
  lastSeq : Option Nat := none
  /-- consecutive samples with |RESID| above T_RES (R78). -/
  residRun : Nat := 0
  /-- consecutive samples with RES_STALE (R78). -/
  staleRun : Nat := 0
  /-- window of the run's last sample with VALID = 1 (R190). -/
  lastValid : Nat := 0
  /-- excursion of the last sample judged (R193). -/
  exc : Int := 0
  /-- window and excursion of the run's latest valid samples, newest first (R193). -/
  excs : List (Nat × Int) := []
  /-- write target of the run, position units (R93). -/
  writeTarget : Int := 0
  deriving DecidableEq, Repr

/-- One LOOP_SEC entry (R84). -/
structure Section where
  /-- coefficient b0, Q2.30 (R84). -/
  b0 : BitVec 32 := 0
  /-- coefficient b1, Q2.30 (R84). -/
  b1 : BitVec 32 := 0
  /-- coefficient b2, Q2.30 (R84). -/
  b2 : BitVec 32 := 0
  /-- coefficient a1, Q2.30 (R84). -/
  a1 : BitVec 32 := 0
  /-- coefficient a2, Q2.30 (R84). -/
  a2 : BitVec 32 := 0
  /-- INTEG (R84). -/
  integ : Bool := false
  /-- HOLD_ON_SAT (R84). -/
  holdOnSat : Bool := false
  /-- SHIFT (R84). -/
  shift : Nat := 8
  deriving DecidableEq, Repr

/-- States of one running section, Q8.32 (R83). -/
structure SecState where
  /-- state s1 (R83). -/
  s1 : Int := 0
  /-- state s2 (R83). -/
  s2 : Int := 0
  deriving DecidableEq, Repr

/-- LOOP_LAW[a][l] with the running state of the law (R88, R90, R102). -/
structure Law where
  /-- VALID (R88). -/
  valid : Bool := false
  /-- COUNT (R88). -/
  count : Nat := 0
  /-- START (R88). -/
  start : Nat := 0
  /-- states of the law's sections (R83). -/
  st : List SecState := []
  /-- output last issued, Q8.24 (R90). -/
  out : Int := 0
  /-- held by an uncorrectable coefficient error until reloaded (R91). -/
  err : Bool := false
  /-- blend difference (R103). -/
  blendDelta : Int := 0
  /-- blend samples left, the one of k = N_BLEND included (R103). -/
  blendLeft : Nat := 0
  /-- N_BLEND of the blend in progress (R103). -/
  blendN : Nat := 0
  /-- output last issued, Q8.24, while the law waits for its first sample (R102). -/
  pendStart : Option Int := none
  /-- states at the start of the slot (R90). -/
  st0 : List SecState := []
  /-- output before the slot (R90). -/
  out0 : Int := 0
  deriving DecidableEq, Repr

/-- An accepted LOOP_SET_LAW waiting for the frame boundary (R89). -/
structure LawWrite where
  /-- law index (R89). -/
  law : Nat := 0
  /-- COUNT (R89). -/
  count : Nat := 0
  /-- START (R89). -/
  start : Nat := 0
  /-- sections to write (R89). -/
  secs : List Section := []
  deriving DecidableEq, Repr

/-- Twin pair record (R108). -/
structure PairRec where
  /-- lead head (R108). -/
  lead : Hd := 0
  /-- partner head (R108). -/
  partner : Hd := 0
  /-- D_W, position units (R108). -/
  dW : Int := 0
  /-- temperature at write, 0.5 °C (R108). -/
  temp : Int := 0
  deriving DecidableEq, Repr

/-- LOOP_SET_SEEK parameters (R114). -/
structure SeekPar where
  /-- A_MAX, m/s² (R114). -/
  aMax : Nat := 3000
  /-- J_MAX, m/s³ (R114). -/
  jMax : Nat := 20000000
  /-- V_MAX, mm/s (R114). -/
  vMax : Nat := 3000
  /-- V_RAMP, mm/s (R114). -/
  vRamp : Nat := 200
  /-- I_LIM, % of full scale (R114). -/
  iLim : Nat := 80
  /-- E_SEEK, tracks (R114). -/
  eSeek : Nat := 64
  /-- N_ABORT (R114). -/
  nAbort : Nat := 3
  deriving DecidableEq, Repr

/-- LOOP_SET_FOLLOW parameters (R114). -/
structure FollowPar where
  /-- D_SETTLE, tracks (R114). -/
  dSettle : Nat := 8
  /-- T_FOLLOW, position units (R114). -/
  tFollow : Nat := 51
  /-- N_FOLLOW, samples (R114). -/
  nFollow : Nat := 16
  /-- T_WREADY, position units (R114). -/
  tWready : Nat := 61
  /-- N_WREADY, samples (R114). -/
  nWready : Nat := 32
  /-- H_BLEND, 2^-15 of full scale (R114). -/
  hBlend : Nat := 328
  /-- N_BLEND, samples (R114). -/
  nBlend : Nat := 32
  deriving DecidableEq, Repr

/-- LOOP_SET_TWIN parameters (R114). -/
structure TwinPar where
  /-- TWIN_ENTER, nm (R114). -/
  enter : Nat := 1000
  /-- TWIN_EXIT, nm (R114). -/
  exit : Nat := 720
  /-- N_EXIT, samples (R114). -/
  nExit : Nat := 8
  /-- TWIN_TAU, 0.001 ms (R114). -/
  tau : Nat := 1000
  /-- TWIN_HOLDOFF, ms (R114). -/
  holdoff : Nat := 100
  deriving DecidableEq, Repr

/-- MODE of R82. -/
inductive Mode where
  | parked
  | ramp
  | seek
  | settle
  | follow
  | twin
  | hold
  deriving DecidableEq, Repr

/-- How an engine parks its actuator without the mode machine (R454). -/
inductive ParkStep where
  | none
  | stop
  | outward
  | climb
  | openLoop
  deriving DecidableEq, Repr

/-- One actuator's loop engine and supervisor: LOOP_ACT_STATUS and LOOP_TWIN_STATUS (R82 to R114). -/
structure Actuator where
  /-- MODE (R112). -/
  mode : Mode := .parked
  /-- WRITE_READY (R112). -/
  writeReady : Bool := false
  /-- BLENDING (R112). -/
  blending : Bool := false
  /-- VCM_SAT (R112). -/
  vcmSat : Bool := false
  /-- MA_SAT (R112). -/
  maSat : Bool := false
  /-- DL_MISS_VCM (R112). -/
  dlMissVcm : Bool := false
  /-- DL_MISS_MA (R112). -/
  dlMissMa : Bool := false
  /-- DL_MISS_PRED (R112). -/
  dlMissPred : Bool := false
  /-- DL_MISS_OTHER (R112). -/
  dlMissOther : Bool := false
  /-- INPUT_LATE (R112). -/
  inputLate : Bool := false
  /-- TRAJ_MISS (R112). -/
  trajMiss : Bool := false
  /-- SEEK_ABORT (R112). -/
  seekAbort : Bool := false
  /-- TWIN_FALLBACK (R112). -/
  twinFallback : Bool := false
  /-- COEF_ERR (R112). -/
  coefErr : Bool := false
  /-- DL_MISS_CNT, saturating at 255 (R112). -/
  dlMissCnt : Nat := 0
  /-- LEAD_HEAD (R112). -/
  leadHead : Hd := 0
  /-- DRIFT, 0.25 nm (R113). -/
  drift : Int := 0
  /-- STROKE_LEAD (R113). -/
  strokeLead : Nat := 0
  /-- STROKE_PARTNER (R113). -/
  strokePartner : Nat := 0
  /-- coefficient memory LOOP_SEC (R84). -/
  secs : Vector Section 512 := Vector.replicate 512 {}
  /-- LOOP_LAW descriptors and law states (R88). -/
  laws : Vector Law 32 := Vector.replicate 32 {}
  /-- law writes waiting for the frame boundary (R89). -/
  lawPend : List LawWrite := []
  /-- frame count f (R85). -/
  frame : Nat := 0
  /-- slot of the frame, 0 to 3 (R85). -/
  slot : Nat := 0
  /-- seek parameters in force (R114). -/
  seekPar : SeekPar := {}
  /-- seek parameters waiting for the frame boundary (R114). -/
  seekPend : Option SeekPar := none
  /-- follow parameters in force (R114). -/
  followPar : FollowPar := {}
  /-- follow parameters waiting for the frame boundary (R114). -/
  followPend : Option FollowPar := none
  /-- twin parameters in force (R114). -/
  twinPar : TwinPar := {}
  /-- pair records loaded, none at reset (R114). -/
  pairs : List PairRec := []
  /-- target of the served head, position units (R93). -/
  target : Int := 0
  /-- mode request of the target (R100). -/
  seekReq : SeekReq := .none
  /-- a seek is pending (R100). -/
  seekPending : Bool := false
  /-- trajectory FIFO: reference acceleration of each frame, from which the position follows (R98). -/
  traj : List Int := []
  /-- reference position, position units (R98). -/
  refPos : Int := 0
  /-- reference velocity, position units per frame (R98). -/
  refVel : Int := 0
  /-- reference acceleration, position units per frame² (R98). -/
  refAcc : Int := 0
  /-- consecutive frames with an empty trajectory FIFO (R98). -/
  emptyFrames : Nat := 0
  /-- the engine runs its own stop plan (R98). -/
  stopPlan : Bool := false
  /-- the stop plan follows N_ABORT aborts (R99). -/
  stopFail : Bool := false
  /-- the plan decelerates to zero velocity before it moves to the target (R97). -/
  brake : Bool := false
  /-- target posted, its RWO added, waiting for the frame boundary (R97). -/
  newSeek : Option SeekTarget := none
  /-- status of the last target posted: 0, or the law-missing status (R88). -/
  seekStatus : Nat := 0
  /-- mode whose trigger a consumed sample has met since the frame boundary (R100). -/
  due : Option Mode := none
  /-- an unload waits for the frame boundary (R100). -/
  unloadReq : Bool := false
  /-- reference at which the track switch in progress began (R96). -/
  switchFrom : Int := 0
  /-- frames left of the track switch (R96). -/
  switchLeft : Nat := 0
  /-- reference that the settle, follow and twin laws see for the lead head (R96). -/
  refTarget : Int := 0
  /-- output of the seek shaping law, Q8.24 (R94). -/
  shapeOut : Int := 0
  /-- observer VCM position, position units (R92). -/
  obsPos : Int := 0
  /-- observer VCM velocity, position units per sample (R92). -/
  obsVel : Int := 0
  /-- observer: two resonance modes and the bias (R92). -/
  obsMode : Vector Int 5 := Vector.replicate 5 0
  /-- consecutive frames with a following error above E_SEEK (R99). -/
  errFrames : Nat := 0
  /-- aborts in this seek (R99). -/
  aborts : Nat := 0
  /-- samples in the rms window (R99). -/
  rmsN : Nat := 0
  /-- sum of squares of the lead head in the rms window (R99). -/
  rmsSum : Nat := 0
  /-- sum of squares of the partner head in the rms window (R99). -/
  rmsSumP : Nat := 0
  /-- consecutive samples within T_FOLLOW (lead) (R100). -/
  goodRun : Nat := 0
  /-- consecutive samples within T_FOLLOW (partner) (R100). -/
  goodRunP : Nat := 0
  /-- consecutive samples within T_WREADY (R101). -/
  wreadyRun : Nat := 0
  /-- consecutive replaced samples on the served or lead head (R105). -/
  missRun : Nat := 0
  /-- consecutive replaced samples on the partner head (R105). -/
  missRunP : Nat := 0
  /-- consecutive valid samples in HOLD (R105). -/
  validRun : Nat := 0
  /-- HOLD was entered on missing samples (R105). -/
  holdMiss : Bool := false
  /-- consecutive frames with a missed VCM law (R90). -/
  vcmMissRun : Nat := 0
  /-- frames missed before the frame in progress (R90). -/
  vcmMissRun0 : Nat := 0
  /-- VCM command last issued (R95). -/
  vcmCmd : Int := 0
  /-- VCM output last issued, Q8.24 (R102). -/
  vcmOut : Int := 0
  /-- VCM output before the frame (R90). -/
  vcmOut0 : Int := 0
  /-- VCM command before the frame (R90). -/
  vcmCmd0 : Int := 0
  /-- micro-actuator commands before the slot (R90). -/
  maCmd0 : Vector Int 8 := Vector.replicate 8 0
  /-- observer's estimates before its last slot (R90). -/
  obs0 : Option (Int × Int × Vector Int 5 × Vector Int 8) := none
  /-- number of micro-actuator samples issued, modulo 16 (R221). -/
  maStep : Nat := 0
  /-- velocity reference of RAMP and of the climb, mm/s, positive away from the ramp (R82). -/
  rampRef : Int := 0
  /-- step of the park in progress (R454). -/
  park : ParkStep := .none
  /-- micro-actuator command of each actuator-local head, 0.025 nm counts (R95). -/
  maCmd : Vector Int 8 := Vector.replicate 8 0
  /-- micro-actuator displacement estimates d_h, position units (R92). -/
  maEst : Vector Int 8 := Vector.replicate 8 0
  /-- samples left of the micro-actuator ramp to 0 (R104). -/
  maRampLeft : Nat := 0
  /-- commands at the start of the ramp (R104). -/
  maRampFrom : Vector Int 8 := Vector.replicate 8 0
  /-- partner head in TWIN (R106). -/
  partner : Option Hd := none
  /-- pair record in use (R106). -/
  curPair : Option PairRec := none
  /-- natural offset of the last sample pair, position units (R108). -/
  natOff : Int := 0
  /-- the filter has taken its first natural offset (R108). -/
  natInit : Bool := false
  /-- filtered natural offset, position units (R108). -/
  natFilt : Int := 0
  /-- sum of the natural offset under registration (R107). -/
  regSum : Int := 0
  /-- valid samples averaged under registration (R107). -/
  regN : Nat := 0
  /-- registration D_W of the paired write in progress (R107). -/
  regDone : Option Int := none
  /-- junction temperature at the registration, 0.5 °C steps (R207). -/
  regTemp : Int := 0
  /-- consecutive samples at or beyond TWIN_EXIT (R110). -/
  exitRun : Nat := 0
  /-- consecutive samples with MA_SAT in TWIN (R110). -/
  satRun : Nat := 0
  /-- the lead's command was clipped in the last sample (R110). -/
  satLead : Bool := false
  /-- head dropped by a fallback in progress (R110). -/
  fallback : Option Hd := none
  /-- samples left of the dropped head's ramp (R110). -/
  dropRampLeft : Nat := 0
  /-- dropped head's command at the start of its ramp (R110). -/
  dropFrom : Int := 0
  /-- pair of the last fallback (R110). -/
  fbPair : Hd × Hd := (0, 0)
  /-- DRIFT at the last fallback (R110). -/
  fbDrift : Int := 0
  /-- trigger number of the fallback in progress (R110). -/
  fbTrigger : Nat := 0
  /-- pairs in holdoff (R111). -/
  holdoff : List (Hd × Hd) := []
  /-- the engine retracts the actuator by the park sequence (R90). -/
  retracting : Bool := false
  /-- a load is under way (R100). -/
  loadReq : Bool := false
  /-- actuator declared failed (R277). -/
  failed : Bool := false
  deriving DecidableEq, Repr

/-- Per-head loop tables and heater law state (R85, R93, R95). -/
structure HeadLoop where
  /-- LOOP_RWO[h][z] (R93). -/
  rwo : Vector Int 64 := Vector.replicate 64 0
  /-- LOOP_MA_GAIN[h], Q4.12 (R95). -/
  maGain : Nat := 4096
  /-- states of the heater law for this head (R85). -/
  heatSt : List SecState := []
  /-- heater law output of this head last issued, Q8.24 (R85). -/
  heatOut : Int := 0
  /-- states of the heater law before this head's last slot (R90). -/
  heatSt0 : List SecState := []
  /-- heater law output before this head's last slot (R90). -/
  heatOut0 : Int := 0
  /-- heater power before this head's last slot, 0.1 mW (R90). -/
  pwr0 : Nat := 0
  /-- the heater law restarts for this head at its next slot (R202). -/
  heatStart : Bool := false
  deriving DecidableEq, Repr

/-- STATE of R124. -/
inductive SpnSt where
  | stopped
  | listen
  | brake
  | align
  | forced
  | run
  | coast
  | holdup
  deriving DecidableEq, Repr

/-- SPN_SET_MOTOR parameters (R143). -/
structure SpnMotor where
  /-- pole pairs (R143). -/
  poles : Nat := 4
  /-- phase resistance, 0.001 ohm (R143). -/
  rph : Nat := 1000
  /-- phase inductance, µH (R143). -/
  lph : Nat := 200
  /-- back-EMF constant, 0.001 mV/rpm line peak (R143). -/
  ke : Nat := 1000
  /-- inertia, 1e-6 kg m² (R143). -/
  inertia : Nat := 240
  /-- shunt, milliohm (R143). -/
  shunt : Nat := 20
  deriving DecidableEq, Repr

/-- SPN_SET_LIMITS parameters (R143). -/
structure SpnLimits where
  /-- I_SPIN_MAX, mA (R143). -/
  iSpinMax : Nat := 2000
  /-- I_WIND_MAX, mA (R143). -/
  iWindMax : Nat := 2000
  /-- T_DEAD, ns (R143). -/
  tDead : Nat := 200
  /-- T_MIN, 10 ns counts (R143). -/
  tMin : Nat := 100
  /-- LISTEN_T, ms (R143). -/
  listenT : Nat := 20
  /-- CATCH_MIN, rpm (R143). -/
  catchMin : Nat := 300
  /-- I_ALIGN, % of I_SPIN_MAX (R143). -/
  iAlign : Nat := 50
  /-- T_ALIGN, ms (R143). -/
  tAlign : Nat := 300
  /-- A_START, rpm/s (R143). -/
  aStart : Nat := 1000
  /-- SLEW_XFER, rpm/s (R143). -/
  slewXfer : Nat := 150
  /-- SLEW_FREE, rpm/s (R143). -/
  slewFree : Nat := 1500
  /-- V_CHOP_ON, mV (R143). -/
  vChopOn : Nat := 13000
  /-- V_OV, mV (R143). -/
  vOv : Nat := 13800
  /-- P_REGEN, W (R143). -/
  pRegen : Nat := 30
  /-- V_HOLD, mV (R143). -/
  vHold : Nat := 11000
  deriving DecidableEq, Repr

/-- SPN_SET_POLICY parameters (R143). -/
structure SpnPolicy where
  /-- mode: false FIXED, true DEMAND (R143). -/
  demand : Bool := false
  /-- S_FIXED, rpm (R143). -/
  sFixed : Nat := 7200
  /-- S_MIN, rpm (R143). -/
  sMin : Nat := 4800
  /-- S_MAX, rpm (R143). -/
  sMax : Nat := 7200
  /-- S_STEP, rpm (R143). -/
  sStep : Nat := 600
  /-- L_HI, % (R143). -/
  lHi : Nat := 85
  /-- L_LO, % (R143). -/
  lLo : Nat := 40
  /-- T_DWELL, s (R143). -/
  tDwell : Nat := 60
  deriving DecidableEq, Repr

/-- Spindle drive: SPN_STATUS, SPN_SPEED and the state behind them (R115 to R143). -/
structure Spindle where
  /-- STATE (R141). -/
  st : SpnSt := .stopped
  /-- OBS_LOCK (R141). -/
  obsLock : Bool := false
  /-- LKB_REF (R141). -/
  lkbRef : Bool := false
  /-- XFER_OK (R141). -/
  xferOk : Bool := false
  /-- RAMPING (R141). -/
  ramping : Bool := false
  /-- CAP_THERMAL (R141). -/
  capThermal : Bool := false
  /-- DIRTY_HOLD (R141). -/
  dirtyHold : Bool := false
  /-- CHOP_FAIL (R141). -/
  chopFail : Bool := false
  /-- DECEL_HALF (R141). -/
  decelHalf : Bool := false
  /-- SPN_FAULT (R141). -/
  fault : Bool := false
  /-- OC_TRIP (R141). -/
  ocTrip : Bool := false
  /-- OBS_LOSS (R141). -/
  obsLoss : Bool := false
  /-- DL_MISS (R141). -/
  dlMiss : Bool := false
  /-- SAMPLE_BAD (R141). -/
  sampleBad : Bool := false
  /-- UNDERSPEED (R141). -/
  underspeed : Bool := false
  /-- START_FAIL (R141). -/
  startFail : Bool := false
  /-- SHIFTED (R141). -/
  shifted : Bool := false
  /-- DIRECTION (R141). -/
  direction : Nat := 0
  /-- BAD_CNT, saturating (R141). -/
  badCnt : Nat := 0
  /-- MEAS, 1/8 rpm (R142). -/
  meas : Nat := 0
  /-- REF, 1/8 rpm (R142). -/
  ref : Nat := 0
  /-- fraction of the reference speed below 1/8 rpm, millionths (R129). -/
  refFrac : Nat := 0
  /-- compare values in force for the up-count half, U V W (R115). -/
  cmpUp : List Nat := []
  /-- compare values in force for the down-count half (R115). -/
  cmpDown : List Nat := []
  /-- compare values buffered for the next period, up half (R115). -/
  cmpNextUp : List Nat := []
  /-- compare values buffered, down half (R115). -/
  cmpNextDown : List Nat := []
  /-- all gates off (R116). -/
  gatesOff : Bool := true
  /-- short brake applied (R116). -/
  shortBrake : Bool := false
  /-- reconstructed phase currents, mA (R118). -/
  samples : List Int := []
  /-- times of over-current trips, newest first (R120). -/
  ocTimes : List Nat := []
  /-- COAST delay pending, ms (R124). -/
  coastMs : Nat := 0
  /-- µs at which the COAST delay began (R124). -/
  coastUs : Nat := 0
  /-- stream whose index crossings are used (R122). -/
  revStream : Option Strm := none
  /-- timestamp of the last index crossing of that stream, CLK_MOTOR cycles (R122). -/
  lastIndex : Option Nat := none
  /-- consecutive periods with a missed current law (R123). -/
  missRun : Nat := 0
  /-- Iq_ref, mA (R123). -/
  iqRef : Int := 0
  /-- Id_ref, mA (R123). -/
  idRef : Int := 0
  /-- bus voltage last reported, mV (R117). -/
  vBus : Nat := 12000
  /-- failed starts (R127). -/
  starts : Nat := 0
  /-- SPN_STOP in progress (R140). -/
  stopping : Bool := false
  /-- SPN_START accepted, waiting for the power-stage link (R124). -/
  startWait : Bool := false
  /-- set-point, rpm (R143). -/
  setPoint : Nat := 7200
  /-- class of the set-point: false XFER, true FREE (R143). -/
  free : Bool := false
  /-- a FREE ramp waits for media operations to end (R132). -/
  freeDrain : Bool := false
  /-- a new set-point waits for the next speed-law sample (R130). -/
  newSet : Bool := false
  /-- reference frozen by a vault-then-reset (R451). -/
  frozen : Bool := false
  /-- reference rises at A_START (R128). -/
  spinUp : Bool := false
  /-- seconds with L below L_LO (R134). -/
  lowN : Nat := 0
  /-- consecutive evaluations with L above L_HI (R134). -/
  highN : Nat := 0
  /-- seconds since the last raise, saturating (R134). -/
  sinceRaise : Nat := 0
  /-- consecutive speed-law samples below 5,000 rpm with more than 1.5 GiB dirty (R136). -/
  underDirtyN : Nat := 0
  /-- consecutive speed-law samples below 4,600 rpm (R136). -/
  underN : Nat := 0
  /-- chopper commanded on (R137). -/
  chopOn : Bool := false
  /-- ns with V_BUS above V_OV and the chopper on, saturating at 32,000 (R138). -/
  ovNs : Nat := 0
  /-- the last V_BUS lay above V_OV with the chopper on (R138). -/
  ovAbove : Bool := false
  /-- gates of the period in progress: SPG_EN from each counted 10 ns cycle on (R115). -/
  wave : List (Nat × Nat) := []
  /-- size of the current vector of ALIGN and FORCED, mA (R127). -/
  vecMa : Int := 0
  /-- its electrical angle, 2^-32 turn (R127). -/
  vecAngle : Nat := 0
  /-- periods in ALIGN (R127). -/
  alignN : Nat := 0
  /-- forced speed, millionths of 1/8 rpm (R127). -/
  forced : Nat := 0
  /-- VPH_U, VPH_V and VPH_W last sampled, mV (R118). -/
  vph : Nat × Nat × Nat := (0, 0, 0)
  /-- motor parameters (R143). -/
  motor : SpnMotor := {}
  /-- limits in force (R143). -/
  lim : SpnLimits := {}
  /-- limits waiting for the next speed-law sample (R143). -/
  limPend : Option SpnLimits := none
  /-- policy (R143). -/
  pol : SpnPolicy := {}
  /-- LE4 law descriptors and states (a = 4) (R123). -/
  laws : Vector Law 32 := Vector.replicate 32 {}
  /-- LE4 coefficient memory (R84). -/
  secs : Vector Section 512 := Vector.replicate 512 {}
  /-- LE4 law writes waiting for the frame boundary (R89). -/
  lawPend : List LawWrite := []
  /-- T_DEAD and T_MIN waiting for the next period start (R143). -/
  pwmPend : Option (Nat × Nat) := none
  /-- periods left of the blend from the forced angle (R127). -/
  blendLeft : Nat := 0
  /-- last index-to-index period, CLK_MOTOR cycles (R122). -/
  trim : Nat := 0
  /-- phase-voltage samples since LISTEN or BRAKE was entered (R118). -/
  vphN : Nat := 0
  /-- line voltages U - V and V - W at the last sample, mV (R125). -/
  vphLast : Option (Int × Int) := none
  /-- largest line back-EMF, mV (R125). -/
  vphPeak : Nat := 0
  /-- consecutive samples with no line back-EMF of 50 mV or more (R126). -/
  quietN : Nat := 0
  /-- zero crossings of the line voltages (R125). -/
  crossN : Nat := 0
  /-- last crossing: of V - W, rising, sample number (R125). -/
  crossLast : Option (Bool × Bool × Nat) := none
  /-- sample number of the crossing before it (R125). -/
  crossPrev : Nat := 0
  /-- order of the crossings: 0 none yet, 1 forward, 2 backward, 3 not consistent (R125). -/
  crossDir : Nat := 0
  /-- samples of the last electrical half period (R125). -/
  crossHalf : Nat := 0
  deriving DecidableEq, Repr

/-- Channel parameters of one head and zone (R181). -/
structure ChnHZ where
  /-- CODE (R160). -/
  code : Nat := 0
  /-- SLOT_TC (R160). -/
  slotTc : Nat := 0
  /-- SKEW (R160). -/
  skew : Nat := 0
  /-- DATASEL (R144). -/
  datasel : Nat := 0
  /-- peaking, dB (R145). -/
  peaking : Nat := 0
  /-- skew trim, 1/64 UI (R145). -/
  skewTrim : Int := 0
  /-- sampling phase, 1/64 UI (R145). -/
  phase : Nat := 0
  /-- anchors at 4800, 6000, 7200 rpm, f0 then f1 (R148). -/
  anchors : List Int := []
  /-- learned delta set (R148). -/
  delta : List Int := []
  /-- g1, Q2.10 (R147). -/
  g1 : Int := 0
  /-- g2, Q2.10 (R147). -/
  g2 : Int := 0
  /-- DELTA_MAX (R181). -/
  deltaMax : Nat := 64
  /-- noise predictors and variances (R150). -/
  predictors : List Int := []
  /-- LLR_SCALE, 1/64 (R181). -/
  llrScale : Nat := 64
  /-- ITER_OTF (R181). -/
  iterOtf : Nat := 16
  /-- ITER_WEAK (R181). -/
  iterWeak : Nat := 10
  /-- TOL (R181). -/
  tol : Nat := 4
  /-- WIN (R181). -/
  win : Nat := 16
  /-- SYNC_HD (R181). -/
  syncHd : Nat := 4
  /-- SYNC_OFS (R165). -/
  syncOfs : Int := 0
  /-- sync parameters waiting for a closed read gate (R181). -/
  syncPend : Option (Nat × Nat × Nat × Int) := none
  /-- format waiting for a closed gate (R161). -/
  fmtPend : Option (Nat × Nat × Nat) := none
  deriving DecidableEq, Repr

/-- One sector in recovery (R173 to R177). -/
structure RecRec where
  /-- sector (R173). -/
  ord : ReadOrd := {}
  /-- rung reached; 0 while only refusals are counted (R174). -/
  rung : Nat := 0
  /-- re-reads made on rung 2 (R174). -/
  attempts : Nat := 0
  /-- re-read variant of rung 3 (R174). -/
  variant : Nat := 0
  /-- holds a record of RECOV_SLOTS (R173). -/
  hasLlr : Bool := false
  /-- waits for a deep-recovery decoder (R174). -/
  waitDeep : Bool := false
  /-- is in a deep-recovery decoder (R174). -/
  inDeep : Bool := false
  /-- first status (R175). -/
  first : Nat := 0
  /-- rung it entered at (R175). -/
  entry : Nat := 0
  /-- RECOV_LIMIT expired (R177). -/
  expired : Bool := false
  /-- rung 4 has run (R177). -/
  parityTried : Bool := false
  /-- LLR sets in the recovery pond, newest first: at E and at F, empty where not decoded (R173). -/
  sets : List (List Int × List Int) := []
  /-- LLRs given to the deep-recovery decoder, at E and at F (R174). -/
  deepIn : List Int × List Int := ([], [])
  /-- F - E of the last attempt (R166). -/
  found : Option Int := none
  /-- TOL of the last attempt (R166). -/
  tol : Nat := 4
  /-- the last attempt was flagged (R170). -/
  flagged : Bool := false
  deriving DecidableEq, Repr

/-- A sector whose gate has closed and whose decode has not ended (R164, R169). -/
structure ReadCtx where
  /-- read order (R169). -/
  ord : ReadOrd := {}
  /-- read-position flag (R79). -/
  flagged : Bool := false
  /-- tone lock lost during the gate (R164). -/
  lostLock : Bool := false
  /-- a write gate opened during the gate (R163). -/
  aborted : Bool := false
  /-- the equaliser adapted (R149). -/
  adapt : Bool := false
  /-- parameters at its sector start (R181). -/
  par : ChnHZ := {}
  /-- MU at its sector start (R181). -/
  mu : Nat := 12
  /-- taps at its sector start (R148). -/
  taps : List Int := []
  deriving DecidableEq, Repr

/-- One read result waiting to be posted (R170). -/
structure ReadRes where
  /-- read order (R170). -/
  ord : ReadOrd := {}
  /-- result word (R170). -/
  word : BitVec 64 := 0
  /-- information block delivered to the pond (R168). -/
  block : List Byte := []
  /-- delivered GOOD_WEAK in a way that calls for relocation (R280). -/
  reloc : Bool := false
  /-- the sector's ladder has ended with this result (R176). -/
  ends : Bool := false
  /-- RECOV_LIMIT ended its ladder early (R177). -/
  early : Bool := false
  deriving DecidableEq, Repr

/-- CHN_STREAM_STATUS[m] and its stream's channel state (R162 to R180). -/
structure ChnStream where
  /-- READ_GATE (R180). -/
  readGate : Bool := false
  /-- EQ_ADAPT (R180). -/
  eqAdapt : Bool := false
  /-- SYNC_MISS (R180). -/
  syncMiss : Bool := false
  /-- SYNC_ALT (R180). -/
  syncAlt : Bool := false
  /-- OTF_FAIL (R180). -/
  otfFail : Bool := false
  /-- CHECK_FAIL (R180). -/
  checkFail : Bool := false
  /-- PSA_MISMATCH (R180). -/
  psaMismatch : Bool := false
  /-- GEN_MISMATCH (R180). -/
  genMismatch : Bool := false
  /-- CLOCK_LOSS (R180). -/
  clockLoss : Bool := false
  /-- SYNC_BIAS (R180). -/
  syncBias : Bool := false
  /-- OTF_FAIL_CNT (R180). -/
  otfFailCnt : Nat := 0
  /-- SYNC_EVT_CNT (R180). -/
  syncEvtCnt : Nat := 0
  /-- MU (R181). -/
  mu : Nat := 12
  /-- RECOV_SLOTS (R181). -/
  recovSlots : Nat := 64
  /-- sector of the last read gate opened, until its decode ends (R162). -/
  cur : Option ReadOrd := none
  /-- parameters of its head and zone at that sector start (R181). -/
  curPar : ChnHZ := {}
  /-- its read target, with the offset of a re-read variant (R174). -/
  curTarget : Int := 0
  /-- MU at that sector start (R181). -/
  curMu : Nat := 12
  /-- RECOV_SLOTS in force (R181). -/
  recovNow : Nat := 64
  /-- travel left until the gate closes, 1/256 tone cycle (R162). -/
  gateLeft : Nat := 0
  /-- expected sync position E of the sector, channel bits from the index (R153). -/
  expSync : Int := 0
  /-- gain of the variable-gain amplifiers, 0.25 dB (R145). -/
  gain : Nat := 0
  /-- sampling phase acquired for the sector, 1/64 UI (R145). -/
  smpPhase : Nat := 0
  /-- ADC of reader 0 and of reader 1 powered (R144). -/
  adcOn : Bool × Bool := (true, true)
  /-- read-position flag of the sector in progress (R79). -/
  flagged : Bool := false
  /-- tone lock lost during the gate (R164). -/
  lostLock : Bool := false
  /-- a write gate of the actuator opened during the gate (R163). -/
  aborted : Bool := false
  /-- sectors read and not decoded, oldest first (R169). -/
  decq : List ReadCtx := []
  /-- taps in use for the sector, f0 then f1 (R148). -/
  taps : List Int := []
  /-- results waiting to be posted, oldest first (R170). -/
  results : List ReadRes := []
  /-- result words posted to the servo sequencer, newest first (R170). -/
  posted : List (BitVec 64) := []
  /-- sectors in recovery (R173). -/
  ladder : List RecRec := []
  /-- F - E of the last sectors found within TOL, newest first (R167). -/
  syncHist : List Int := []
  /-- consecutive sectors with a mean beyond 2 bits (R167). -/
  biasRun : Nat := 0
  /-- CHN_CAPTURE in progress: slot, track, samples, its mailbox and SEQ (R181). -/
  capture : Option (Nat × Nat × Nat × Mb × Nat) := none
  deriving DecidableEq, Repr

/-- Device-wide recovery parameters (R181). -/
structure RecovPar where
  /-- ITER_DEEP (R181). -/
  iterDeep : Nat := 60
  /-- RR_MAX (R181). -/
  rrMax : Nat := 3
  /-- RR_OFS (R181). -/
  rrOfs : Nat := 51
  /-- ORDER (R181). -/
  parityFirst : Bool := false
  /-- RECOV_LIMIT, ms (R181). -/
  recovLimit : Nat := 0
  deriving DecidableEq, Repr

/-- The shared part of recovery (R24, R174, R181). -/
structure ChnDev where
  /-- parameters set (R181). -/
  par : RecovPar := {}
  /-- parameters in force since the last sector start (R181). -/
  now : RecovPar := {}
  /-- deep-recovery decoders: stream and PSA being decoded (R174). -/
  deep : Vector (Option (Strm × Nat)) 2 := Vector.replicate 2 none
  /-- the previous sector of the head decoded with status GOOD (R149). -/
  headGood : Vector Bool 32 := Vector.replicate 32 false
  /-- rotating pointer of the decoder arbiter (R24). -/
  deepPtr : Nat := 0
  /-- GATE_REFUSED results of each sector within its command (R175). -/
  refused : List (ReadOrd × Nat) := []
  deriving DecidableEq, Repr

/-- The 256-bit band descriptor (R203). -/
structure BandDesc where
  /-- LEAD_T0 (R203). -/
  leadT0 : Nat := 0
  /-- WIN_HI (R203). -/
  winHi : Nat := 0
  /-- WIN_LO (R203). -/
  winLo : Nat := 0
  /-- LEAD_HEAD (R203). -/
  leadHead : Hd := 0
  /-- PAIRED (R203). -/
  paired : Bool := false
  /-- DIR (R203). -/
  dir : Bool := false
  /-- GEN (R203). -/
  gen : Nat := 0
  /-- HEAD (R203). -/
  head : Hd := 0
  /-- OFFSET0 (R203). -/
  offset0 : Nat := 0
  /-- OFFSET (R203). -/
  offset : Int := 0
  /-- TRACKS (R203). -/
  tracks : Nat := 1
  /-- FIRST_TRACK (R203). -/
  firstTrack : Nat := 0
  deriving DecidableEq, Repr

/-- One open band context of a write path (R203 to R207). -/
structure Band where
  /-- descriptor, with FIRST_TRACK and OFFSET as placed (R206) (R203). -/
  desc : BandDesc := {}
  /-- density zone of the band (R204). -/
  zone : Zn := 0
  /-- open track (R205). -/
  openTrack : Nat := 0
  /-- slots of the open track that are COMPLETE (R205). -/
  complete : List Nat := []
  /-- the last slot was written (R205). -/
  closed : Bool := false
  /-- placement decided at the first opening of track 0 (R206). -/
  placed : Bool := false
  /-- PAIRED as achieved (R207). -/
  pairedNow : Bool := false
  /-- D_W (R207). -/
  dW : Int := 0
  /-- junction temperature at the measurement, 0.5 °C steps (R207). -/
  temp : Int := 0
  /-- TORN results (R207). -/
  torn : Nat := 0
  /-- a sector of the open track has been written, whole or torn (R207). -/
  wrote : Bool := false
  /-- (slot of the open track, rewrites made) (R192). -/
  tries : List (Nat × Nat) := []
  /-- FIRST_TRACK and OFFSET of the descriptor (R206). -/
  orig : Nat × Int := (0, 0)
  deriving DecidableEq, Repr

/-- The run in progress (R185, R190). -/
structure Run where
  /-- write order (R185). -/
  ord : WriteOrd := {}
  /-- 0 waiting, 1 AEa high, 2 WGa high (R185). -/
  phase : Nat := 0
  /-- WD_SWING, PC1, PC2 and W_ALIGN in force for the run (R183). -/
  wd : Nat × Nat × Nat × Int := (4, 0, 0, 0)
  /-- each ended sector, newest first: the sample window its postamble ended in, and its assist energy with that of the gap after it, fJ (R190). -/
  ended : List (Nat × Nat) := []
  /-- sample windows of the writing head ended since the run began (R190). -/
  win : Nat := 0
  /-- orderly close cause pending (R188). -/
  orderly : Option Nat := none
  /-- assist energy of the lead-in and of the sector in progress, fJ (R208). -/
  fj : Nat := 0
  /-- last level sent on WDa and bits since its transition (R183). -/
  tail : Bool × Nat := (true, 0)
  /-- assist law frames of the run (R200). -/
  lawFrames : Nat := 0
  deriving DecidableEq, Repr

/-- One write result word (R191). -/
structure WResult where
  /-- STATUS (R191). -/
  status : Nat := 0
  /-- CAUSE (R191). -/
  cause : Nat := 0
  /-- ENERGY, nJ (R191). -/
  energy : Nat := 0
  /-- PSA (R191). -/
  psa : BitVec 40 := 0
  deriving DecidableEq, Repr

/-- WRP_SET_LIMITS parameters (R212). -/
structure WrpLimits where
  /-- WG_LEAD, bits (R212). -/
  wgLead : Nat := 64
  /-- AE_LEAD, ns (R212). -/
  aeLead : Nat := 1000
  /-- ASSIST_TOL, % of P_SET (R212). -/
  assistTol : Nat := 5
  /-- ASSIST_LO, % (R212). -/
  assistLo : Nat := 70
  /-- ASSIST_HI, % (R212). -/
  assistHi : Nat := 130
  /-- T_SQZ, position units (R212). -/
  tSqz : Nat := 82
  /-- WR_RETRY (R212). -/
  wrRetry : Nat := 3
  /-- CONTACT_MAX (R212). -/
  contactMax : Nat := 4
  deriving DecidableEq, Repr

/-- The write parameters in force since the last run start (R212). -/
structure RunPar where
  /-- limits in force (R212). -/
  lim : WrpLimits := {}
  /-- I_AS_MAX in force, % (R212). -/
  iAsMax : Nat := 90
  /-- AT_LIMIT in force, °C (R212). -/
  atLimit : Nat := 300
  /-- AT_TRIP in force, °C (R212). -/
  atTrip : Nat := 400
  /-- EFF_LIMIT in force, 0.01 (R212). -/
  effLimit : Nat := 130
  /-- HTR_BACKOFF in force, % (R212). -/
  htrBackoff : Nat := 5
  /-- WEAR_WARN in force, % (R212). -/
  wearWarn : Nat := 80
  /-- WEAR_POLICY in force (R212). -/
  wearRetire : Bool := false
  deriving DecidableEq, Repr

/-- WRP_STATUS[a], WRP_TRIP[a] and the write path behind them (R182 to R211). -/
structure WritePath where
  /-- WG, the ball WGa (R210). -/
  wg : Bool := false
  /-- AE, the ball AEa (R210). -/
  ae : Bool := false
  /-- ASSIST_READY (R210). -/
  assistReady : Bool := false
  /-- RUN_ACTIVE (R210). -/
  runActive : Bool := false
  /-- PAIRED_WRITE (R210). -/
  pairedWrite : Bool := false
  /-- AT_LIMIT_HIT (R210). -/
  atLimitHit : Bool := false
  /-- TRIP (R210). -/
  trip : Bool := false
  /-- ASSIST_FAULT (R210). -/
  assistFault : Bool := false
  /-- CONTACT (R210). -/
  contact : Bool := false
  /-- UNDERRUN (R210). -/
  underrun : Bool := false
  /-- SQZ_CHECK (R210). -/
  sqzCheck : Bool := false
  /-- PAIR_SKIPPED (R210). -/
  pairSkipped : Bool := false
  /-- FF_DRIFT (R210). -/
  ffDrift : Bool := false
  /-- TORN_CNT (R210). -/
  tornCnt : Nat := 0
  /-- LAST_CAUSE (R210). -/
  lastCause : Nat := 0
  /-- WRP_TRIP HEAD (R211). -/
  tripHead : Hd := 0
  /-- WRP_TRIP MAX_EXC (R211). -/
  maxExc : Int := 0
  /-- WRP_TRIP SLOT (R211). -/
  tripSlot : Nat := 0
  /-- selected (writing) head (R210). -/
  sel : Hd := 0
  /-- write order dispatched and not ended (R201). -/
  order : Option WriteOrd := none
  /-- run in progress (R185). -/
  run : Option Run := none
  /-- runs dispatched behind the run in progress (R201). -/
  queue : List WriteOrd := []
  /-- information blocks complete in the buffer, next sector first (R186). -/
  buffer : List (List Byte) := []
  /-- parameters in force (R212). -/
  par : RunPar := {}
  /-- band contexts (R203). -/
  bands : Vector (Option Band) 16 := Vector.replicate 16 none
  /-- (head, FIRST_TRACK, GEN) of the band last written there (R204). -/
  lastGen : List (Nat × Nat × Nat) := []
  /-- causes whose re-open condition is pending (R188). -/
  reopen : List Nat := []
  /-- results of the slots of the runs ended, newest first (R191). -/
  results : List WResult := []
  /-- result words posted to the servo sequencer, newest first (R191). -/
  posted : List (BitVec 64) := []
  /-- set-point in use, monitor counts (R196). -/
  pSet : Nat := 0
  /-- last monitor value (R196). -/
  pMon : Nat := 0
  /-- assist drive code (R196). -/
  adrive : Nat := 0
  /-- assist law frame number (R219). -/
  aseq : Nat := 0
  /-- consecutive frames within ASSIST_TOL (R197). -/
  readyRun : Nat := 0
  /-- frames since the AEa rise at which the feedforward drive code was first sent (R197). -/
  codeSent : Option Nat := none
  /-- upstream frames since AEa rose (R197). -/
  framesSinceAe : Nat := 0
  /-- consecutive frames below ASSIST_LO (R198). -/
  lowRun : Nat := 0
  /-- consecutive frames above ASSIST_HI (R198). -/
  highRun : Nat := 0
  /-- consecutive frames with ATEMP above AT_TRIP (R198). -/
  hotRun : Nat := 0
  /-- consecutive law frames with the drive code clipped at I_AS_MAX (R198). -/
  clipRun : Nat := 0
  /-- consecutive assist law deadline misses (R198). -/
  missRun : Nat := 0
  /-- sum of the monitor values of the current law frame (R196). -/
  monSum : Nat := 0
  /-- telemetry frames of the current law frame (R196). -/
  monN : Nat := 0
  /-- filtered assist temperature, 0.5 °C (R199). -/
  atFilt : Nat := 0
  /-- drive codes of the last 16 law frames, newest first (R200). -/
  driveLog : List Nat := []
  /-- pair data: head, DIR, TRACKS, FIRST_TRACK of lead bands (R204). -/
  pairData : List (Nat × Bool × Nat × Nat) := []
  deriving DecidableEq, Repr

/-- Write parameters of one head and zone (R212). -/
structure WHeadZ where
  /-- PC1 (R212). -/
  pc1 : Nat := 0
  /-- PC2 (R212). -/
  pc2 : Nat := 0
  /-- W_ALIGN (R212). -/
  wAlign : Int := 0
  /-- P_SET at five velocity points (R212). -/
  pSet : List Nat := []
  /-- FF at five velocity points, factory value (R212). -/
  ff : List Nat := []
  /-- FF as learned, 1/256 codes (R200). -/
  ffNow : List Nat := []
  /-- heater read power, 0.1 mW (R212). -/
  htrRead : List Nat := []
  /-- heater write power, 0.1 mW (R212). -/
  htrWrite : List Nat := []
  /-- HTR_BACKOFF reduces the read table until it is loaded (R202). -/
  backRead : Bool := false
  /-- HTR_BACKOFF reduces the write table until it is loaded (R202). -/
  backWrite : Bool := false
  deriving DecidableEq, Repr

/-- Write-side state of one head (R192, R201, R202, R208, R209). -/
structure WHead where
  /-- BLOCKED (R210). -/
  blocked : Bool := false
  /-- write-retired (R209). -/
  retired : Bool := false
  /-- HTR_READY of this head (R210). -/
  htrReady : Bool := false
  /-- µs of the first heater slot in which the write value applied (R201). -/
  htrSince : Option Nat := none
  /-- the write value is in force (R201). -/
  htrWriteVal : Bool := false
  /-- heater command, 0.1 mW (R201). -/
  htrPwr : Nat := 0
  /-- the 100 ms hold of a contact (R202). -/
  htrHold : Bool := false
  /-- consecutive frames with the contact flag (R202). -/
  contactRun : Nat := 0
  /-- contact detection armed (R202). -/
  contactArmed : Bool := true
  /-- times of contacts, newest first (R202). -/
  contactTimes : List Nat := []
  /-- clearance estimate, 0.04 nm (R220). -/
  clear : Nat := 0
  /-- WD_SWING (R212). -/
  wdSwing : Nat := 4
  /-- HTR_FB, 0.001 mW per nm (R212). -/
  htrFb : Nat := 0
  /-- HTR_FB in force since the head's last run start (R212). -/
  htrFbNow : Nat := 0
  /-- WEAR_BUDGET, h (R212). -/
  wearBudget : Nat := 10000
  /-- WEAR_BUDGET in force since the head's last run start (R212). -/
  budgetNow : Nat := 10000
  /-- on-time remainder below 1 µs, ns (R208). -/
  onNs : Nat := 0
  /-- energy remainder below 1 mJ, nJ (R208). -/
  nj : Nat := 0
  /-- energy remainder below 1 nJ, fJ (R208). -/
  fj : Nat := 0
  /-- WEAR_WARN event sent (R209). -/
  warnSent : Bool := false
  /-- 100 % event sent (R209). -/
  fullSent : Bool := false
  /-- FF_DRIFT event sent this power cycle (R200). -/
  driftSent : Bool := false
  /-- per-zone write tables (R212). -/
  hz : Vector WHeadZ 64 := Vector.replicate 64 {}
  deriving DecidableEq, Repr

/-- Device-wide assist and heater parameters (R212). -/
structure WrpDev where
  /-- WRP_SET_LIMITS (R212). -/
  lim : WrpLimits := {}
  /-- assist kind: false LASER, true STO (R194). -/
  sto : Bool := false
  /-- I_AS_MAX, % (R212). -/
  iAsMax : Nat := 90
  /-- AT_LIMIT, °C (R212). -/
  atLimit : Nat := 300
  /-- AT_TRIP, °C (R212). -/
  atTrip : Nat := 400
  /-- EFF_LIMIT, 0.01 (R212). -/
  effLimit : Nat := 130
  /-- WH_LEAD, µs (R212). -/
  whLead : Nat := 200
  /-- HTR_BACKOFF, % (R212). -/
  htrBackoff : Nat := 5
  /-- WEAR_WARN, % (R212). -/
  wearWarn : Nat := 80
  /-- WEAR_POLICY: false REPORT, true RETIRE (R212). -/
  wearRetire : Bool := false
  deriving DecidableEq, Repr

/-- STATE of R236. -/
inductive LinkSt where
  | down
  | train
  | up
  | fail
  deriving DecidableEq, Repr

/-- One register request (R227, R228). -/
structure RegReq where
  /-- TAG (R227). -/
  tag : Nat := 0
  /-- TOGGLE (R227). -/
  toggle : Bool := false
  /-- OP: true write, false read (R227). -/
  write : Bool := false
  /-- ADDR (R227). -/
  addr : Nat := 0
  /-- DATA (R227). -/
  data : Nat := 0
  /-- resends made (R228). -/
  tries : Nat := 0
  /-- frame times since it was sent (R228). -/
  frames : Nat := 0
  /-- sent at least once (R227). -/
  sent : Bool := false
  /-- mailbox that asked; none for the LX-4's own requests (R228). -/
  mb : Option Mb := none
  deriving DecidableEq, Repr

/-- The parts both links share (R213 to R232). -/
structure Link where
  /-- STATE (R236). -/
  st : LinkSt := .down
  /-- LOSS (R236). -/
  loss : Bool := false
  /-- TRAIN_FAIL (R236). -/
  trainFail : Bool := false
  /-- PEER_RESET (R236). -/
  peerReset : Bool := false
  /-- REG_TIMEOUT (R236). -/
  regTimeout : Bool := false
  /-- RX_CRC_CNT (R236). -/
  rxCrcCnt : Nat := 0
  /-- PEER_CRC_CNT (R236). -/
  peerCrcCnt : Nat := 0
  /-- training step, 1 to 5; 0 none (R231). -/
  trainStep : Nat := 0
  /-- consecutive good frames of the step (R231). -/
  trainRun : Nat := 0
  /-- training attempts that timed out (R231). -/
  attempts : Nat := 0
  /-- FSEQ of the next downstream frame (R214). -/
  txFseq : Nat := 0
  /-- FSEQ of the last good upstream frame (R217). -/
  rxFseq : Nat := 0
  /-- frame times since the last good upstream frame (R217). -/
  sinceGood : Nat := 0
  /-- consecutive bad upstream frame times (R232). -/
  badRun : Nat := 0
  /-- bad frames of the loss (R232). -/
  badTotal : Nat := 0
  /-- requests outstanding (R227). -/
  reqs : List RegReq := []
  /-- requests waiting for a tag (R227). -/
  wait : List RegReq := []
  /-- last TOGGLE of each tag (R227). -/
  toggles : List Bool := []
  /-- µs at which STATE became FAIL (R277). -/
  failSince : Option Nat := none
  /-- a loss not yet followed by UP (R232). -/
  lost : Bool := false
  /-- frames last sent, lane 0 first (R214). -/
  txFrames : List (BitVec 128) := []
  deriving DecidableEq, Repr

/-- One preamplifier link (R218 to R236). -/
structure PLink where
  /-- shared part (R236). -/
  l : Link := {}
  /-- WACK_V (R236). -/
  wackV : Bool := false
  /-- WACK (R236). -/
  wack : Hd := 0
  /-- PEER_FAULT (R236). -/
  peerFault : Bool := false
  /-- MSEQ (R218). -/
  mseq : Nat := 0
  /-- MA0, MA1 last sent (R218). -/
  ma : List Int := []
  /-- WHEAD (R218). -/
  whead : Hd := 0
  /-- WSEL (R218). -/
  wsel : Bool := false
  /-- head to select for write (R222). -/
  wantHead : Hd := 0
  /-- a head is to be selected for write (R222). -/
  wantSel : Bool := false
  /-- WGa was low when the last frame pair started (R222). -/
  wgLow : Bool := true
  /-- RHEAD0, RHEAD1 (R218). -/
  rhead : List (Option Hd) := []
  /-- HHEAD, HPWR (R219). -/
  hcmd : Option (Hd × Nat) := none
  /-- HEADS or KIND disagreed: WSEL held 0 until the next training (R229). -/
  noWrite : Bool := false
  /-- last good APWR, 10 µW (R220). -/
  apwr : Nat := 0
  /-- last good MON (R220). -/
  mon : Nat := 0
  /-- last good ATEMP (R220). -/
  atemp : Nat := 0
  /-- ID, HEADS and KIND read after training (R229). -/
  idRegs : List (Nat × Nat) := []
  deriving DecidableEq, Repr

/-- The power-stage link (R224 to R237). -/
structure PsLink where
  /-- shared part (R237). -/
  l : Link := {}
  /-- ISOLATED (R237). -/
  isolated : Bool := false
  /-- CHOP (R237). -/
  chop : Bool := false
  /-- CHOP_FAULT (R237). -/
  chopFault : Bool := false
  /-- OVERTEMP (R237). -/
  overtemp : Bool := false
  /-- VEN (R226). -/
  ven : Vector Bool 4 := Vector.replicate 4 false
  /-- ISOLATE (R226). -/
  isolate : Bool := false
  /-- VCM commands last issued (R226). -/
  vcm : Vector Int 4 := Vector.replicate 4 0
  /-- a VCM command issued since the last frame (R226). -/
  vcmNew : Bool := false
  /-- VSEQ (R224). -/
  vseq : Nat := 0
  /-- measured VCM currents (R225). -/
  ivcm : Vector Int 4 := Vector.replicate 4 0
  /-- VIN12, 5 mV (R225). -/
  vin12 : Nat := 0
  /-- RETRACT_V, 20 mV steps (R238). -/
  retractV : Nat := 50
  /-- RETRACT_T, 2 ms steps (R238). -/
  retractT : Nat := 100
  /-- PS_UV, 8.00 V + 50 mV steps (R238). -/
  psUv : Nat := 44
  /-- µs at which the link was lost (R234). -/
  lossUs : Nat := 0
  deriving DecidableEq, Repr

/-- LNK_SET_LIMITS (R238). -/
structure LnkPar where
  /-- REG_RETRY (R238). -/
  regRetry : Nat := 3
  deriving DecidableEq, Repr

/-- STATE of R249. -/
inductive BSt where
  | free
  | opened
  | sealed
  | dredging
  | releasing
  deriving DecidableEq, Repr

/-- BRT_BERTH[b] (R249). -/
structure Berth where
  /-- b (R249). -/
  id : Nat := 0
  /-- first segment record of each member (R249). -/
  member : List Nat := []
  /-- LIVE (R249). -/
  live : Nat := 0
  /-- WSTRIPE (R249). -/
  wstripe : Nat := 0
  /-- OWNER (R249). -/
  owner : Nat := 0
  /-- KIND (R249). -/
  kind : Nat := 0
  /-- LAYOUT (R249). -/
  layout : Nat := 0
  /-- STATE (R249). -/
  st : BSt := .free
  /-- DEGRADED (R249). -/
  degraded : Bool := false
  /-- SUSPECT (R249). -/
  suspect : Bool := false
  /-- order of binding (R266). -/
  bound : Nat := 0
  /-- stripes complete beyond WSTRIPE (R257). -/
  doneAhead : List Nat := []
  /-- stripes of a finished berth (R258). -/
  finish : Option Nat := none
  /-- namespace of a zone berth (R298). -/
  nsid : Nat := 0
  deriving DecidableEq, Repr

/-- BRT_SEG[i] (R250). -/
structure Seg where
  /-- i (R250). -/
  id : Nat := 0
  /-- NEXT (R250). -/
  next : Nat := 4194303
  /-- FIRST_N (R250). -/
  firstN : Nat := 0
  /-- COUNT_N (R250). -/
  countN : Nat := 0
  /-- GEN (R250). -/
  gen : Nat := 0
  /-- FIRST_TRACK (R250). -/
  firstTrack : Nat := 0
  /-- OFFSET (R250). -/
  offset : Int := 0
  /-- TRACKS (R250). -/
  tracks : Nat := 0
  /-- OFFSET0 (R250). -/
  offset0 : Nat := 0
  /-- WIN_END (R250). -/
  winEnd : Nat := 0
  /-- HEAD (R250). -/
  head : Hd := 0
  /-- DIR (R250). -/
  dir : Bool := false
  /-- PAIRED (R250). -/
  paired : Bool := false
  /-- PAIR (R250). -/
  pair : Nat := 4194303
  /-- D_W (R250). -/
  dW : Int := 0
  /-- TEMP (R250). -/
  temp : Nat := 0
  /-- write-path context while open (R247). -/
  openCtx : Option Nat := none
  /-- first track of its window (R246). -/
  winFirst : Nat := 0
  /-- last track of its window (R246). -/
  winHi : Nat := 0
  /-- next track to write (R247). -/
  nextTrk : Nat := 0
  /-- the segment has been opened (R247). -/
  opened : Bool := false
  /-- lead segment of a paired write (R248). -/
  leadSeg : Option Nat := none
  /-- µs of the last write through it (R247). -/
  lastUse : Nat := 0
  deriving DecidableEq, Repr

/-- One manifest entry (R256). -/
structure ManEnt where
  /-- ring index (R256). -/
  slot : Nat := 0
  /-- SEQ (R256). -/
  seq : Nat := 0
  /-- BUF (R256). -/
  buf : Nat := 0
  /-- DONE, members set (R256). -/
  done : List Nat := []
  /-- BLOCKS (R256). -/
  blocks : Nat := 0
  /-- KIND (R256). -/
  kind : Nat := 0
  /-- HELD, members set (R256). -/
  held : List Nat := []
  /-- STRIPE (R256). -/
  stripe : Nat := 0
  /-- BERTH (R256). -/
  berth : Nat := 0
  /-- STATE: 0 FREE, 1 RECORDED, 2 WRITING, 3 COMPLETE (R256). -/
  st : Nat := 0
  /-- ENERGY of its member sectors, nJ (R332). -/
  energy : Nat := 0
  /-- actuator-µs of its strip writes (R320). -/
  actUs : Nat := 0
  deriving DecidableEq, Repr

/-- One dirty block of the write cache with its index entry (R251, R254, R264). -/
structure CBlock where
  /-- write-cache block index (R251). -/
  id : Nat := 0
  /-- namespace (R251). -/
  nsid : Nat := 0
  /-- logical block (chart page number for a chart page) (R251). -/
  lba : Nat := 0
  /-- a changed chart page (R251). -/
  chartPage : Bool := false
  /-- a block being moved by dredging or reshaping, outside the dirty count (R266). -/
  copy : Bool := false
  /-- function whose write last filled it (R320). -/
  func : Fn := 0
  /-- estimate charged for it at the grant, actuator-µs (R320). -/
  est : Nat := 0
  /-- content as stored (R251). -/
  data : List Byte := []
  /-- protection field (R155). -/
  pi : List Byte := []
  /-- KEYSLOT (R154). -/
  keyslot : Nat := 0
  /-- PIFMT (R154). -/
  pifmt : Nat := 0
  /-- UNREADABLE (R154). -/
  unreadable : Bool := false
  /-- a line of its data holds poison (R370). -/
  poison : Bool := false
  /-- berth and index the write replaced (R264). -/
  prev : Option (Nat × Nat) := none
  /-- berth and block index it will be stored at (R242). -/
  place : Option (Nat × Nat) := none
  /-- reads that hold a reference (R257). -/
  refs : Nat := 0
  /-- replaced by a later write; stays until its stripe completes (R254). -/
  old : Bool := false
  /-- out of its stripe; returns when its last reader has copied it (R254). -/
  dead : Bool := false
  deriving DecidableEq, Repr

/-- One mapped chart entry (R262). -/
structure Chart where
  /-- conventional namespace (R262). -/
  nsid : Nat := 0
  /-- block of the namespace (R262). -/
  lba : Nat := 0
  /-- CACHED (R262). -/
  cached : Bool := false
  /-- LOC (R262). -/
  loc : Nat := 0
  deriving DecidableEq, Repr

/-- One log, dredge or metadata builder (R260, R261). -/
structure Builder where
  /-- 0 log, 1 dredge, 2 metadata (R260). -/
  kind : Nat := 0
  /-- layout (R260). -/
  layout : Nat := 0
  /-- berth being filled (R260). -/
  berth : Option Nat := none
  /-- stripe being filled (R260). -/
  stripe : Nat := 0
  /-- cache blocks of the stripe, in order (R260). -/
  blocks : List Nat := []
  /-- µs at which the stripe took its first block (R261). -/
  since : Nat := 0
  deriving DecidableEq, Repr

/-- Berth parameters (R274). -/
structure BrtPar where
  /-- DEF_LAYOUT (R274). -/
  defLayout : Nat := 0
  /-- SLACK (R274). -/
  slack : Nat := 1
  /-- GUARD (R274). -/
  guard : Nat := 1
  /-- TAIL_SHARE (R274). -/
  tailShare : Nat := 50
  /-- LOG_AGE (R274). -/
  logAge : Nat := 200
  /-- CONV_OP (R274). -/
  convOp : Nat := 7
  /-- DREDGE_LOW (R274). -/
  dredgeLow : Nat := 5
  /-- DREDGE_CRIT (R274). -/
  dredgeCrit : Nat := 1
  /-- DREDGE_SHARE (R274). -/
  dredgeShare : Nat := 10
  /-- PATROL_SHARE (R274). -/
  patrolShare : Nat := 2
  /-- PATROL_IDLE (R274). -/
  patrolIdle : Nat := 50
  /-- CKPT_MS (R274). -/
  ckptMs : Nat := 1000
  /-- CKPT_HEAD_A (R274). -/
  ckptHeadA : Hd := 0
  /-- CKPT_HEAD_B (R274). -/
  ckptHeadB : Hd := 6
  /-- CKPT_MIB (R274). -/
  ckptMib : Nat := 512
  deriving DecidableEq, Repr

/-- Berth engine: BRT_STATUS and the work in progress (R251 to R273). -/
structure BrtEng where
  /-- PI_MISMATCH (R273). -/
  piMismatch : Bool := false
  /-- PATROL_FIX (R273). -/
  patrolFix : Bool := false
  /-- PATROL_SUSPECT (R273). -/
  patrolSuspect : Bool := false
  /-- SEG_FAIL (R273). -/
  segFail : Bool := false
  /-- CKPT_FAIL (R273). -/
  ckptFail : Bool := false
  /-- DREDGE (R273). -/
  dredge : Bool := false
  /-- DREDGE_CRIT (R273). -/
  dredgeCrit : Bool := false
  /-- PATROL (R273). -/
  patrol : Bool := false
  /-- CKPT_SINGLE (R273). -/
  ckptSingle : Bool := false
  /-- berth being dredged (R266). -/
  victim : Option Nat := none
  /-- berth of the next patrol visit (R269). -/
  patrolBerth : Nat := 0
  /-- stripe of the next patrol visit (R269). -/
  patrolStripe : Nat := 0
  /-- duration of the last complete lap, h (R269). -/
  lapHours : Nat := 0
  /-- POWER_ON_S at the start of the lap (R269). -/
  lapStartS : Nat := 0
  /-- next manifest SEQ (R256). -/
  manSeq : Nat := 0
  /-- next write-cache block index (R251). -/
  nextBlock : Nat := 1
  /-- next binding order (R266). -/
  nextBind : Nat := 0
  /-- parity buffers in use (256 MiB of them) (R255). -/
  parityBufs : Nat := 0
  /-- berth and stripe each parity engine computes (R245). -/
  parity : Vector (Option (Nat × Nat)) 4 := Vector.replicate 4 none
  /-- stripes with parity that wait for a manifest entry (R255). -/
  ready : List (Nat × Nat) := []
  /-- parity buffers: berth, stripe, P then Q sectors (R255). -/
  pbufs : List (Nat × Nat × List (List Byte)) := []
  /-- rotating pointer of the parity-engine arbiter (R24). -/
  parityPtr : Nat := 0
  /-- stripes complete in the cache waiting for an engine or an entry (R255). -/
  destage : List (Nat × Nat) := []
  /-- a checkpoint is being written (R271). -/
  ckptRun : Bool := false
  /-- sequence number of the newest committed checkpoint (R271). -/
  ckptSeq : Nat := 0
  /-- copies whose next checkpoint is full in the other window (R271). -/
  ckptFull : List Nat := []
  /-- window in use by each copy (R271). -/
  ckptWin : Vector Nat 2 := Vector.replicate 2 0
  /-- sectors of that window written (R271). -/
  ckptFill : Vector Nat 2 := Vector.replicate 2 0
  /-- GEN of that window (R271). -/
  ckptGen : Vector Nat 2 := Vector.replicate 2 0
  /-- µs at which the last checkpoint began (R271). -/
  ckptStart : Nat := 0
  /-- BRT_CHECKPOINT messages waiting for a commit (R441). -/
  ckptMbs : List (Mb × Nat) := []
  /-- held writes in Quay fetch order (R252). -/
  held : List Tag := []
  deriving DecidableEq, Repr

/-- STATE of R302. -/
inductive HSt where
  | inService
  | writeRetired
  | failed
  deriving DecidableEq, Repr

/-- BRT_HEAD_STATE[h] and the counts behind R276. -/
structure HeadRec where
  /-- consecutive selections with ACQ_FAIL (R276). -/
  acqFails : Nat := 0
  /-- consecutive selections with SURF_MISMATCH or FORMAT_ERR (R276). -/
  surfFails : Nat := 0
  /-- the selection in progress has shown SURF_MISMATCH or FORMAT_ERR (R276). -/
  surfNow : Bool := false
  /-- times of sectors that reached rung 4, newest first (R276). -/
  uncTimes : List Nat := []
  /-- times of relocations, newest first (R276). -/
  relocTimes : List Nat := []
  /-- times of WRP_RELEASE messages, newest first (R276). -/
  releaseTimes : List Nat := []
  deriving DecidableEq, Repr

/-- Actuator failure counts (R277). -/
structure ActRec where
  /-- declared failed; kept in the berth records (R277). -/
  failed : Bool := false
  /-- times of SEEK_FAIL events, newest first (R277). -/
  seekFailTimes : List Nat := []
  /-- times of retractions under R90 or R105, newest first (R277). -/
  retractTimes : List Nat := []
  /-- trainings with a HEADS or KIND mismatch (R277). -/
  kindMismatch : Nat := 0
  deriving DecidableEq, Repr

/-- BRT_RELOC[i] (R282). -/
structure Reloc where
  /-- i (R282). -/
  id : Nat := 0
  /-- BERTH (R282). -/
  berth : Nat := 0
  /-- MEMBER (R282). -/
  member : Nat := 0
  /-- N (R282). -/
  n : Nat := 0
  /-- HEAD (R282). -/
  head : Hd := 0
  /-- TRACK (R282). -/
  track : Nat := 0
  /-- SLOT (R282). -/
  slot : Nat := 0
  /-- GEN (R282). -/
  gen : Nat := 0
  deriving DecidableEq, Repr

/-- The open spare band of one head (R281). -/
structure Spare where
  /-- head (R281). -/
  head : Hd := 0
  /-- first track of the window (R281). -/
  first : Nat := 0
  /-- tracks of the window (R281). -/
  tracks : Nat := 0
  /-- GEN (R281). -/
  gen : Nat := 0
  /-- slots appended (R281). -/
  used : Nat := 0
  deriving DecidableEq, Repr

/-- BRT_RBLD[e] (R285). -/
structure Rbld where
  /-- e (R285). -/
  id : Nat := 0
  /-- REPL_SEG (R285). -/
  replSeg : Nat := 4194303
  /-- START (R285). -/
  start : Nat := 0
  /-- PROGRESS (R285). -/
  progress : Nat := 0
  /-- BERTH (R285). -/
  berth : Nat := 0
  /-- MEMBER (R285). -/
  member : Nat := 0
  /-- OLD_HEAD (R285). -/
  oldHead : Hd := 0
  /-- NEW_HEAD (R285). -/
  newHead : Hd := 0
  /-- KIND: false RECONSTRUCT, true COPY (R285). -/
  copy : Bool := false
  /-- STATE: 0 FREE, 1 WAITING, 2 ACTIVE, 3 SWITCHING, 4 DONE, 5 ABANDONED (R285). -/
  st : Nat := 0
  /-- MARGIN (R285). -/
  margin : Nat := 0
  /-- LOST_ROWS (R285). -/
  lostRows : Nat := 0
  deriving DecidableEq, Repr

/-- BRT_LOST[i] (R293). -/
structure Lost where
  /-- TYPE: false ROW, true BERTH (R293). -/
  berthType : Bool := false
  /-- MEMBERS, bits set (R293). -/
  members : List Nat := []
  /-- BERTH (R293). -/
  berth : Nat := 0
  /-- STRIPE (R293). -/
  stripe : Nat := 0
  /-- ROW (R293). -/
  row : Nat := 0
  /-- TIME (R293). -/
  time : Nat := 0
  deriving DecidableEq, Repr

/-- One reshape in progress (R298 to R300). -/
structure Reshape where
  /-- KIND: false LAYOUT, true MOVE (R298). -/
  move : Bool := false
  /-- namespace or berth (R298). -/
  target : Nat := 0
  /-- new layout (R298). -/
  layout : Nat := 0
  /-- berth bound beside the old one (R299). -/
  newBerth : Option Nat := none
  /-- berth being copied (R299). -/
  oldBerth : Option Nat := none
  /-- START of a MOVE (R299). -/
  start : Nat := 0
  /-- stripes copied (R299). -/
  copied : Nat := 0
  /-- mailbox and SEQ of the BRT_RESHAPE (R441). -/
  mb : Option (Mb × Nat) := none
  deriving DecidableEq, Repr

/-- Health and rebuild parameters (R304). -/
structure RbldPar where
  /-- HEAD_ACQ_MAX (R304). -/
  headAcqMax : Nat := 3
  /-- HEAD_UNC_MAX (R304). -/
  headUncMax : Nat := 256
  /-- RELOC_FAIL (R304). -/
  relocFail : Nat := 4096
  /-- RELEASE_MAX (R304). -/
  releaseMax : Nat := 3
  /-- ACT_SEEK_MAX (R304). -/
  actSeekMax : Nat := 8
  /-- WEAK_RELOC (R304). -/
  weakReloc : Bool := true
  /-- RELOC_TRACKS (R304). -/
  relocTracks : Nat := 32
  /-- REBUILD_FLOOR (R304). -/
  rebuildFloor : Nat := 5
  /-- REBUILD_CRIT (R304). -/
  rebuildCrit : Nat := 20
  /-- RESHAPE_SHARE (R304). -/
  reshapeShare : Nat := 5
  /-- RESHAPE_PAR (R304). -/
  reshapePar : Nat := 4
  deriving DecidableEq, Repr

/-- Rebuild engine: BRT_RBLD_STATUS (R303); the RO bits REBUILDING, CRITICAL, SPREAD_LOST and PENDING are computed from the tables. -/
structure RbldEng where
  /-- NO_SPACE (R303). -/
  noSpace : Bool := false
  /-- HEAD_FAILED (R303). -/
  headFailed : Bool := false
  /-- HEAD_RETIRED (R303). -/
  headRetired : Bool := false
  /-- ACT_FAILED (R303). -/
  actFailed : Bool := false
  /-- ROW_LOST (R303). -/
  rowLost : Bool := false
  /-- BERTH_LOST (R303). -/
  berthLost : Bool := false
  /-- LOST_OVF (R303). -/
  lostOvf : Bool := false
  /-- RELOC_FULL (R303). -/
  relocFull : Bool := false
  /-- CKPT_MOVED (R303). -/
  ckptMoved : Bool := false
  /-- (berth, member, n) of sectors to relocate (R280). -/
  relocPend : List (Nat × Nat × Nat) := []
  /-- parameters in force (R304). -/
  par : RbldPar := {}
  /-- parameters set, in force from the next share window (R304). -/
  parNext : RbldPar := {}
  deriving DecidableEq, Repr

/-- One mooring (R312). -/
structure Mooring where
  /-- SQ_BASE (R312). -/
  sqBase : Nat := 0
  /-- CQ_BASE (R312). -/
  cqBase : Nat := 0
  /-- SQ_SIZE (R312). -/
  sqSize : Nat := 0
  /-- CQ_SIZE (R312). -/
  cqSize : Nat := 0
  /-- SQ_TAIL (R312). -/
  sqTail : Nat := 0
  /-- SQ_FETCH (R312). -/
  sqFetch : Nat := 0
  /-- CQ_TAIL (R312). -/
  cqTail : Nat := 0
  /-- CQ_HEAD (R312). -/
  cqHead : Nat := 0
  /-- VECTOR (R312). -/
  vector : Nat := 0
  /-- IEN (R312). -/
  ien : Bool := false
  /-- PHASE (R312). -/
  phase : Bool := true
  /-- STATE: 0 FREE, 1 ACTIVE, 2 FROZEN, 3 DELETING (R312). -/
  st : Nat := 0
  /-- FUNC (R312). -/
  func : Fn := 0
  /-- QPRIO (R312). -/
  qprio : Nat := 0
  /-- QID (R312). -/
  qid : Nat := 0
  /-- INFLIGHT (R312). -/
  inflight : Nat := 0
  /-- the submission queue exists (R352). -/
  sqMade : Bool := false
  /-- the completion queue exists (R352). -/
  cqMade : Bool := false
  /-- consecutive entries granted in the burst (R316). -/
  granted : Nat := 0
  deriving DecidableEq, Repr

/-- A doorbell write waiting in a port's FIFO (R314). -/
structure DbWrite where
  /-- function (R314). -/
  func : Fn := 0
  /-- queue (R314). -/
  qid : Nat := 0
  /-- CQ head doorbell (R314). -/
  cq : Bool := false
  /-- value written (R314). -/
  value : Nat := 0
  deriving DecidableEq, Repr

/-- QUAY_ALLOT[f] (R322). -/
structure Allot where
  /-- W_MEDIA (R322). -/
  wMedia : Nat := 100
  /-- W_BYTE (R322). -/
  wByte : Nat := 100
  /-- W_CMD (R322). -/
  wCmd : Nat := 100
  /-- MT_CAP (R322). -/
  mtCap : Nat := 0
  /-- CAP_HARD (R322). -/
  capHard : Bool := false
  deriving DecidableEq, Repr

/-- One function with anything but its reset values (R305 to R322, R361). -/
structure Func where
  /-- function index (R305). -/
  idx : Fn := 0
  /-- CC.EN (R309). -/
  en : Bool := false
  /-- CC.AMS: 0 round robin, 1 weighted round robin with urgent (R316). -/
  ams : Nat := 0
  /-- CSTS.RDY (R520). -/
  rdy : Bool := false
  /-- CSTS.CFS (R522). -/
  cfs : Bool := false
  /-- VQ resources assigned (flexible) (R310). -/
  vq : Nat := 0
  /-- VI resources assigned (flexible) (R310). -/
  vi : Nat := 0
  /-- a VF is online; every VF is Offline at reset (R310). -/
  online : Bool := false
  /-- QUAY_ALLOT (R322). -/
  allot : Allot := {}
  /-- TAG_LIMIT (R361). -/
  tagLimit : Nat := 1024
  /-- A_C in 2^-48 device-seconds per unit of weight (R317). -/
  aC : Int := 0
  /-- A_B (R317). -/
  aB : Int := 0
  /-- A_M (R317). -/
  aM : Int := 0
  /-- eligible at the last arbiter cycle (R318). -/
  eligible : Bool := false
  /-- actuator-µs used in the current 1 s window (R319). -/
  mtUsed : Nat := 0
  /-- held by its cap (R319). -/
  capHeld : Bool := false
  /-- µs from which the present hold counts (R334). -/
  capSince : Option Nat := none
  /-- Arbitration feature AB (R316). -/
  ab : Nat := 0
  /-- LPW (R316). -/
  lpw : Nat := 0
  /-- MPW (R316). -/
  mpw : Nat := 0
  /-- HPW (R316). -/
  hpw : Nat := 0
  /-- grants left to the high class in the round (R316). -/
  hLeft : Nat := 0
  /-- grants left to the medium class (R316). -/
  mLeft : Nat := 0
  /-- grants left to the low class (R316). -/
  lLeft : Nat := 0
  /-- rotating pointer over QID (R24). -/
  qPtr : Nat := 0
  /-- (FID, NSID or 0, value) of the features set (R324). -/
  features : List (Nat × Nat × Nat) := []
  /-- error information log, newest first: (SQID, CID, status field, NSID, command specific) (R356). -/
  errLog : List (Nat × Nat × Nat × Nat × Nat) := []
  /-- error count (R356). -/
  errCount : Nat := 0
  /-- parked Asynchronous Event Request (R339). -/
  aerParked : Option Tag := none
  /-- event types masked until their log is read (R359). -/
  aerMasked : List Nat := []
  /-- held events: (type, information, log page) (R359). -/
  aerHeld : List (Nat × Nat × Nat) := []
  /-- changed zone list: (NSID, zone) (R327). -/
  chgZones : List (Nat × Nat) := []
  /-- reservation notifications not read, oldest first: (type, NSID) (R324). -/
  rsvLog : List (Nat × Nat) := []
  /-- reservation notifications read, the log page count (R324). -/
  rsvSeen : Nat := 0
  /-- unit attentions: (initiator, ASC x 256 + ASCQ) (R355). -/
  unitAttn : List (Nat × Nat) := []
  /-- mode pages in force (R324). -/
  modePages : List (Nat × List Byte) := []
  /-- being re-initialised (R28). -/
  reinit : Bool := false
  /-- commands fetched, for the completions law (R26). -/
  fetched : Nat := 0
  /-- completions posted or counted as posted (R26). -/
  posted : Nat := 0
  /-- D3hot (R306). -/
  d3 : Bool := false
  /-- START STOP UNIT stopped the unit (R324). -/
  stopped : Bool := false
  deriving DecidableEq, Repr

/-- One namespace definition (R325 to R327); kept in NOR. -/
structure Ns where
  /-- NSID, 1 to 1024 (R325). -/
  nsid : Nat := 0
  /-- command set: false NVM, true Zoned (R325). -/
  zoned : Bool := false
  /-- NSZE (R325). -/
  size : Nat := 0
  /-- LBA format (R326). -/
  lbaf : Nat := 0
  /-- protection information type, 0 none (R326). -/
  piType : Nat := 0
  /-- metadata as an extended LBA (R326). -/
  extended : Bool := false
  /-- layout (R274). -/
  layout : Nat := 0
  /-- controllers it is attached to (R309). -/
  attached : List Fn := []
  /-- order of creation (R325). -/
  created : Nat := 0
  /-- CONV_OP at its creation (R274). -/
  convOp : Nat := 7
  deriving DecidableEq, Repr

/-- Reservation state of one namespace (R309). -/
structure Rsv where
  /-- NSID (R309). -/
  nsid : Nat := 0
  /-- generation (R309). -/
  gen : Nat := 0
  /-- (controller or initiator, key) (R309). -/
  registrants : List (Nat × Nat) := []
  /-- holder and reservation type (R309). -/
  holder : Option (Nat × Nat) := none
  /-- reservations persist through power loss (R309). -/
  ptpl : Bool := true
  deriving DecidableEq, Repr

/-- Zone state (R327). -/
inductive ZSt where
  | empty
  | impOpen
  | expOpen
  | closed
  | full
  | readOnly
  deriving DecidableEq, Repr

/-- One zone not Empty, or with a berth (R239, R327). -/
structure Zone where
  /-- device-wide zone index (R249). -/
  idx : Nat := 0
  /-- namespace (R325). -/
  nsid : Nat := 0
  /-- zone number in the namespace (R327). -/
  no : Nat := 0
  /-- zone state (R327). -/
  st : ZSt := .empty
  /-- write pointer, blocks from the start of the zone (R536). -/
  wp : Nat := 0
  /-- berth bound (R239). -/
  berth : Option Nat := none
  /-- charges the tail reserve (R253). -/
  charged : Bool := false
  deriving DecidableEq, Repr

/-- One closed minute of the tally (R334). -/
structure TRec where
  /-- HELD_US (R334). -/
  heldUs : Nat := 0
  /-- ENERGY, mJ (R334). -/
  energy : Nat := 0
  /-- ACT_US_OTHER (R334). -/
  actOther : Nat := 0
  /-- ACT_US_WRITE (R334). -/
  actWrite : Nat := 0
  /-- ACT_US_READ (R334). -/
  actRead : Nat := 0
  /-- BYTES_WRITTEN (R334). -/
  bytesWritten : Nat := 0
  /-- BYTES_READ (R334). -/
  bytesRead : Nat := 0
  /-- OTHER (R334). -/
  other : Nat := 0
  /-- WRITES (R334). -/
  writes : Nat := 0
  /-- READS (R334). -/
  reads : Nat := 0
  /-- MINUTE (R334). -/
  minute : Nat := 0
  /-- SUSPECT (R334). -/
  suspect : Bool := false
  /-- PARTIAL (R334). -/
  partialMin : Bool := false
  /-- TS_VALID (R334). -/
  tsValid : Bool := false
  /-- TIMESTAMP (R334). -/
  timestamp : Nat := 0
  /-- the record's line was consumed poisoned (R370). -/
  bad : Bool := false
  deriving DecidableEq, Repr

/-- One tally ring with its open minute (R332, R335); key 0 to 1023 functions, 1024 device, 1025 background. -/
structure TRing where
  /-- ring (R335). -/
  key : Nat := 0
  /-- open minute (R332). -/
  cur : TRec := {}
  /-- energy remainder below 1 mJ, nJ (R332). -/
  nj : Nat := 0
  /-- closed minutes, newest first; empty without a vault image (R335). -/
  closed : List TRec := []
  /-- the next record carries PARTIAL (R335). -/
  nextPartial : Bool := true
  deriving DecidableEq, Repr

/-- The tally engine (R332 to R335). -/
structure Tally where
  /-- rings with any content (R335). -/
  rings : List TRing := []
  /-- the open minute is flagged SUSPECT (R26). -/
  suspectMin : Bool := false
  /-- calendar ms at the start of the open minute (R334). -/
  startMs : Nat := 0
  /-- startMs is calendar time (R334). -/
  startValid : Bool := false
  /-- a Set Features Timestamp ends this minute at the next whole calendar minute (R333). -/
  cutDue : Bool := false
  /-- minutes close on calendar minutes (R333). -/
  calendar : Bool := false
  deriving DecidableEq, Repr

/-- Device-wide arbitration, admission and mode parameters (R311, R337, R361). -/
structure QuayPar where
  /-- CMD_CAP (R337). -/
  cmdCap : Nat := 200000
  /-- BLK_CAP (R337). -/
  blkCap : Nat := 1000000
  /-- MT_EST_RD (R337). -/
  mtEstRd : Nat := 5000
  /-- MT_EST_WR (R337). -/
  mtEstWr : Nat := 10
  /-- ADMIN_RES (R361). -/
  adminRes : Nat := 32
  /-- PILOT_AGE, ms (R361). -/
  pilotAge : Nat := 1000
  /-- FULL (R311). -/
  full : Bool := false
  /-- FULL_NEXT (R311). -/
  fullNext : Bool := false
  /-- PS0 maximum power, 0.01 W (R337). -/
  maxPower : Nat := 6000
  deriving DecidableEq, Repr

/-- The Host Quay (R305 to R361). -/
structure Quay where
  /-- STRAP_HOST 0b11: the Host Quay stays disabled (R39). -/
  disabled : Bool := false
  /-- SAS personality (R305). -/
  sas : Bool := false
  /-- one port of x4 (R305). -/
  x4 : Bool := false
  /-- functions with anything but their reset values (R305). -/
  funcs : List Func := []
  /-- moorings not FREE (R312). -/
  moorings : List Mooring := []
  /-- mooring cache, most recently used first (full mode) (R313). -/
  cache : List (Fn × Nat) := []
  /-- doorbell FIFOs, oldest first (R314). -/
  fifos : Vector (List DbWrite) 2 := Vector.replicate 2 []
  /-- PERST asserted per port (R36). -/
  perst : Vector Bool 2 := Vector.replicate 2 false
  /-- last function granted (R318). -/
  lastFn : Option Fn := none
  /-- rotating pointer over function index (R24). -/
  funcPtr : Nat := 0
  /-- I_T nexuses that have sent a command or function (R355). -/
  initiators : List Nat := []
  /-- fetching and posting stopped (breakwater, LC_CHANGE) (R354). -/
  stopFetch : Bool := false
  /-- grants whose submission entry has not returned, oldest first: (function, QID) (R315). -/
  grants : List (Fn × Nat) := []
  /-- next place in the fetch order (R315). -/
  fetchSeq : Nat := 0
  /-- parameters (R337). -/
  par : QuayPar := {}
  /-- tally engine (R332). -/
  tally : Tally := {}
  /-- SMART critical warning bits set since reset (R330). -/
  critWarn : Nat := 0
  /-- flow-control credits: (port, type, advertised, available) (R26). -/
  pciCred : List (Nat × Nat × Nat × Nat) := []
  /-- self-test results, newest first (R324). -/
  selfTestLog : List (Nat × Nat) := []
  deriving DecidableEq, Repr

/-- Where one block of a read comes from after its lookup (R348). -/
structure BlkSrc where
  /-- logical block (R348). -/
  lba : Nat := 0
  /-- 0 write cache, 1 media, 2 zeros, 3 unrecoverable (R348). -/
  src : Nat := 0
  /-- cache block, or member sector index (R348). -/
  ref : Nat := 0
  /-- berth of a media block (R348). -/
  berth : Nat := 0
  /-- content in the pond once read (R11). -/
  data : List Byte := []
  /-- the block succeeded (R356). -/
  ok : Bool := false
  /-- the block's read has ended (R176). -/
  doneB : Bool := false
  /-- read again after a poisoned pond (R370). -/
  again : Bool := false
  /-- status of a block that failed: type x 256 + code with DNR (R356). -/
  fail : Nat × Bool := (0, true)
  deriving DecidableEq, Repr

/-- One tag in use (R340, R341, R353). -/
structure TagRec where
  /-- tag number (R340). -/
  tag : Tag := 0
  /-- STAGE (R340). -/
  stage : Nat := 0
  /-- LATCH (R340). -/
  latch : Bool := false
  /-- ABORTED (R340). -/
  aborted : Bool := false
  /-- HELD (R340). -/
  held : Bool := false
  /-- PARKED (R340). -/
  parked : Bool := false
  /-- FUNC (R340). -/
  func : Fn := 0
  /-- QID; logical unit for SAS (R340). -/
  qid : Nat := 0
  /-- CID; SAS task tag (R340). -/
  cid : Nat := 0
  /-- OPS (R340). -/
  ops : Nat := 0
  /-- KIND (R340). -/
  kind : Nat := 0
  /-- place in the fetch order (R315). -/
  order : Nat := 0
  /-- the command (R338). -/
  cmd : HostCmd := {}
  /-- first block of its range (assigned for an append) (R536). -/
  lba : Nat := 0
  /-- blocks received from the host (R341). -/
  fetchedBlks : Nat := 0
  /-- write blocks in ponds, not installed (R341). -/
  inPond : List CBlock := []
  /-- index entries or chart changes written (R348). -/
  installed : Bool := false
  /-- sources of a read after its lookup (R348). -/
  srcs : List BlkSrc := []
  /-- lookup done (R348). -/
  lookedUp : Bool := false
  /-- status type x 256 + code with DNR, once fixed (R356). -/
  status : Option (Nat × Bool) := none
  /-- Dword 0 of the completion (R351). -/
  dw0 : Nat := 0
  /-- media-time estimate not yet subtracted, actuator-µs (R320). -/
  charge : Nat := 0
  /-- RECOV_LIMIT in force, ms (R329). -/
  recovMs : Nat := 0
  /-- SAS initiator (R323). -/
  nexus : Nat := 0
  /-- ends without a completion (R354). -/
  noPost : Bool := false
  /-- NVMe: the entry granted has not returned; SAS: waits for the arbiter's grant (R315). -/
  await : Bool := false
  /-- zone range taken: namespace, first block, blocks (R536). -/
  taken : Option (Nat × Nat × Nat) := none
  /-- LBA an append reports (R536). -/
  zmLba : Nat := 0
  deriving DecidableEq, Repr

/-- One pilot entry (R343, R346). -/
structure PilotOp where
  /-- entry index (R346). -/
  id : Nat := 0
  /-- class: 0 host, 1 rebuild, 2 dredging, 3 reshaping, 4 patrol, 5 recovery re-read, 6 relocation, 7 checkpoint (R347). -/
  cls : Nat := 0
  /-- command of a host operation (R343). -/
  tag : Option Tag := none
  /-- function that owns its time (R320). -/
  func : Fn := 0
  /-- head (R343). -/
  head : Hd := 0
  /-- lakebed track of the first slot (R347). -/
  track : Nat := 0
  /-- first slot (R347). -/
  slot : Nat := 0
  /-- member sectors (R343). -/
  count : Nat := 0
  /-- GEN expected (R168). -/
  gen : Nat := 0
  /-- berth (R343). -/
  berth : Nat := 0
  /-- member (R343). -/
  member : Nat := 0
  /-- first member sector (R343). -/
  n : Nat := 0
  /-- a destage or other write order (R343). -/
  write : Bool := false
  /-- manifest entry of a strip write (R255). -/
  man : Option Nat := none
  /-- µs at which it entered the pilot (R347). -/
  entered : Nat := 0
  /-- dispatched (R347). -/
  dispatched : Bool := false
  /-- µs at its dispatch (R320). -/
  startUs : Nat := 0
  /-- its command was latched ABORTED: data discarded (R352). -/
  withdrawn : Bool := false
  /-- assist energy of its sectors, nJ (R208). -/
  energy : Nat := 0
  /-- sectors ended: (place, status, information block); status + 16 where RECOV_LIMIT ended its ladder, + 32 where rebuilt from parity (R176). -/
  res : List (Nat × Nat × List Byte) := []
  deriving DecidableEq, Repr

/-- One actuator's pilot (R346, R347). -/
structure Pilot where
  /-- entries (R346). -/
  entries : List PilotOp := []
  /-- host operations waiting in their tags, in fetch order (R346). -/
  waiting : List PilotOp := []
  /-- entry dispatched and not ended (R347). -/
  busy : Option Nat := none
  /-- entry dispatched with it as a twin read (R347). -/
  twin : Option Nat := none
  /-- rotating pointer over entry index (R24). -/
  ptr : Nat := 0
  /-- µs of the current 1 s window used by each class (R347). -/
  used : List (Nat × Nat) := []
  /-- µs at which the current 1 s window began (R347). -/
  winUs : Nat := 0
  /-- stream assigned to the operation dispatched (R7). -/
  strm : Option Strm := none
  /-- stream assigned to the partner's read of a twin read (R7). -/
  twinStrm : Option Strm := none
  /-- seeks returned to the pilot as failed (R98). -/
  seekFails : Nat := 0
  deriving DecidableEq, Repr

/-- Pending end of a SAS task management function (R355). -/
structure TmTask where
  /-- logical unit (R355). -/
  func : Fn := 0
  /-- initiator (R355). -/
  nexus : Nat := 0
  /-- function (R355). -/
  code : Nat := 0
  /-- swept tasks it waits for (R355). -/
  tags : List Tag := []
  deriving DecidableEq, Repr

/-- Tags, pilots and the work of the command lifecycle (R338 to R361). -/
structure Cmds where
  /-- tags not FREE (R340). -/
  tags : List TagRec := []
  /-- rotating pointer of the free list (R24). -/
  tagPtr : Tag := 0
  /-- pilots (R346). -/
  pilots : Vector Pilot 4 := Vector.replicate 4 {}
  /-- Delete I/O SQ commands waiting: (tag, QID) (R352). -/
  deletes : List (Tag × Nat) := []
  /-- task management functions waiting for swept tasks (R355). -/
  tasks : List TmTask := []
  deriving DecidableEq, Repr

/-- Poison state of a line (R367). -/
inductive Poison where
  | clean
  | detected
  | propagated
  | replayed
  deriving DecidableEq, Repr

/-- One DRAM line (R363, R367). -/
structure DLine where
  /-- 64 data bytes; an unlisted line is zero and CLEAN after the wipe (R382). -/
  data : List Byte := []
  /-- poison state (R367). -/
  poison : Poison := .clean
  /-- correctable bit errors present (R368). -/
  ceBits : Bool := false
  /-- uncorrectable errors present (R368). -/
  ueBits : Bool := false
  deriving DecidableEq, Repr

/-- One merge-buffer entry (R369). -/
structure MergeEnt where
  /-- line index (R369). -/
  line : Nat := 0
  /-- valid bytes (offset, value) (R369). -/
  bytes : List (Nat × Byte) := []
  /-- µs of its first write (R369). -/
  since : Nat := 0
  deriving DecidableEq, Repr

/-- One scrub class: DRC_SCRUB_STATUS[c] and its pointer (R372, R373). -/
structure ScrubCls where
  /-- LAST_LAP, s (R373). -/
  lastLap : Nat := 0
  /-- PROGRESS (R373). -/
  progress : Nat := 0
  /-- CE_LAP (R373). -/
  ceLap : Nat := 0
  /-- UE_LAP (R373). -/
  ueLap : Nat := 0
  /-- lines of the class scrubbed in this lap (R372). -/
  ptr : Nat := 0
  /-- corrected lines so far in this lap (R373). -/
  ce : Nat := 0
  /-- uncorrectable lines so far in this lap (R373). -/
  ue : Nat := 0
  /-- POWER_ON_S at the start of the lap (R373). -/
  startS : Nat := 0
  /-- SCRUB_NS; 100000 for class 0 (R384). -/
  scrubNs : Nat := 10000
  /-- µs of its last line (R372). -/
  lastUs : Nat := 0
  deriving DecidableEq, Repr

/-- DRC_PORT_CFG[p] (R374). -/
structure DPort where
  /-- CLASS, per port table (R374). -/
  cls : Nat := 2
  /-- LAT_TARGET, ns, per port table (R374). -/
  lat : Nat := 1000
  deriving DecidableEq, Repr

/-- One channel (R378 to R383). -/
structure DChan where
  /-- SR_STATE: 0 ACTIVE, 1 ENTERING, 2 SELF_REFRESH, 3 EXITING (R383). -/
  sr : Nat := 0
  /-- consecutive readings at 85 °C or below (R379). -/
  hotLow : Nat := 0
  /-- temperature at the last retraining (R381). -/
  lastTemp : Int := 0
  /-- last temperature reading (R379). -/
  temp : Int := 0
  /-- full training at the next self-refresh exit (R381). -/
  fullDue : Bool := false
  /-- refreshes issued (R378). -/
  refreshes : Nat := 0
  /-- read and write delays moved since full training, 1/64 UI (R381). -/
  delay : Int := 0
  /-- µs of the last request (R380). -/
  lastReq : Nat := 0
  /-- µs at which it entered self-refresh (R380). -/
  srSince : Nat := 0
  /-- µs of its last retraining (R381). -/
  trainUs : Nat := 0
  deriving DecidableEq, Repr

/-- The DRAM controller (R362 to R384). -/
structure Dram where
  /-- installed capacity, GiB (R362). -/
  gib : Nat := 0
  /-- a manifest or table line was consumed poisoned (R531). -/
  tableBad : Bool := false
  /-- DRC_REGION words (R364). -/
  regions : List (BitVec 64) := []
  /-- lines that are not zero and CLEAN (R363). -/
  lines : SMap DLine := []
  /-- merge buffer, oldest first (R369). -/
  merge : List MergeEnt := []
  /-- HOT (R383). -/
  hot : Bool := false
  /-- UE (R383). -/
  ue : Bool := false
  /-- POISON_USED (R383). -/
  poisonUsed : Bool := false
  /-- MERGE_UE (R383). -/
  mergeUe : Bool := false
  /-- TRAIN_DRIFT (R383). -/
  trainDrift : Bool := false
  /-- OVERTEMP (R383). -/
  overtemp : Bool := false
  /-- SRE_ABORT (R383). -/
  sreAbort : Bool := false
  /-- CE_CNT (R383). -/
  ceCnt : Nat := 0
  /-- UE_CNT (R383). -/
  ueCnt : Nat := 0
  /-- scrub classes (R373). -/
  scrub : Vector ScrubCls 4 := #v[{ scrubNs := 100000 }, {}, {}, {}]
  /-- scrubber and retraining stopped by a breakwater (R372). -/
  scrubStop : Bool := false
  /-- rotating pointer over scrub classes (R24). -/
  scrubClsPtr : Nat := 0
  /-- port configuration (R374). -/
  ports : Vector DPort 16 := #v[{ cls := 0, lat := 400 }, { cls := 0, lat := 400 }, { cls := 0, lat := 400 }, { cls := 0, lat := 400 }, { cls := 1, lat := 600 }, { cls := 1, lat := 600 }, { cls := 1, lat := 2000 }, { cls := 1, lat := 1000 }, {}, {}, {}, {}, { cls := 1, lat := 600 }, {}, { cls := 3, lat := 10000 }, { cls := 3, lat := 10000 }]
  /-- rotating pointer over ports (R24). -/
  portPtr : Nat := 0
  /-- port 14 first (R375). -/
  vaultFirst : Bool := false
  /-- channels (R383). -/
  chans : Vector DChan 2 := Vector.replicate 2 {}
  /-- DRC_INJECT flips waiting for the next write of a line (R383). -/
  inject : List (Nat × List Byte) := []
  /-- data returned by the last read (R368). -/
  lastRead : List Byte := []
  /-- poison state returned by the last read (R368). -/
  lastPoison : Poison := .clean
  /-- AGE_LIMIT, ns (R384). -/
  ageLimit : Nat := 2000
  /-- MERGE_T, ns (R384). -/
  mergeT : Nat := 200
  /-- SCRUB_LAP_WARN, h (R384). -/
  lapWarn : Nat := 24
  /-- SR_ENABLE (R384). -/
  srEnable : Bool := true
  /-- SR_IDLE, µs (R384). -/
  srIdle : Nat := 100
  /-- RETRAIN_MS (R384). -/
  retrainMs : Nat := 1000
  /-- RETRAIN_DT, °C (R384). -/
  retrainDt : Nat := 5
  deriving DecidableEq, Repr

/-- STATE of R409. -/
inductive SeqSt where
  | off
  | run
  | sleep
  | halted
  | swapping
  deriving DecidableEq, Repr

/-- One order (R386). -/
structure Order where
  /-- ARG1 (R386). -/
  arg1 : BitVec 64 := 0
  /-- ARG0 (R386). -/
  arg0 : BitVec 32 := 0
  /-- TOKEN (R386). -/
  token : BitVec 16 := 0
  /-- ORIGIN (R386). -/
  origin : BitVec 5 := 0
  /-- ENTRY (R386). -/
  entry : BitVec 11 := 0
  deriving DecidableEq, Repr

/-- One held write of the commit buffer (R395). -/
inductive Held where
  | st (addr : Nat) (bytes : List Byte)
  | stn (addr : Nat) (bytes : List Byte)
  | post (token : BitVec 16) (status : BitVec 8) (result : BitVec 32)
  | evt (code : BitVec 16) (p0 p1 p2 : BitVec 32)
  | move (src dst len : Nat)
  | out (port : Nat) (v : BitVec 32)
  deriving DecidableEq, Repr

/-- What a snapshot holds (R389, R396). -/
structure SeqRegs where
  /-- G0 to G15 (R389). -/
  g : Vector (BitVec 32) 16 := Vector.replicate 16 0
  /-- Z (R389). -/
  z : Bool := false
  /-- N (R389). -/
  n : Bool := false
  /-- C (R389). -/
  c : Bool := false
  /-- V (R389). -/
  v : Bool := false
  /-- P (R389). -/
  p : Bool := false
  /-- return stack, top first (R389). -/
  stack : List (BitVec 16) := []
  /-- program counter (R389). -/
  pc : BitVec 16 := 0
  deriving DecidableEq, Repr

/-- One sequencer: SEQ_STATUS[n] and its state (R385 to R409). -/
structure Sequencer where
  /-- STATE (R409). -/
  st : SeqSt := .off
  /-- BANK (R409). -/
  bankB : Bool := false
  /-- IN_HANDLER (R409). -/
  inHandler : Bool := false
  /-- WDOG (R409). -/
  wdog : Bool := false
  /-- MCHK (R409). -/
  mchk : Bool := false
  /-- FAULT (R409). -/
  fault : Bool := false
  /-- ORD_FULL (R409). -/
  ordFull : Bool := false
  /-- FCODE (R409). -/
  fcode : Nat := 0
  /-- MAX_STEP (R409). -/
  maxStep : Nat := 0
  /-- registers, flags, return stack, program counter (R389). -/
  r : SeqRegs := {}
  /-- snapshot of the last restart point (R396). -/
  snap : SeqRegs := {}
  /-- commit buffer, program order (R395). -/
  held : List Held := []
  /-- ILR (R389). -/
  ilr : BitVec 16 := 0
  /-- IMASK; bit 0 always reads 1 (R389). -/
  imask : BitVec 16 := 1
  /-- PENDING (R398). -/
  pend : BitVec 16 := 0
  /-- rotating pointer over event lines (R399). -/
  linePtr : Nat := 0
  /-- order queue, oldest first (R387). -/
  queue : List Order := []
  /-- orders popped whose completion is not released (ORD_ACTIVE) (R388). -/
  active : List Order := []
  /-- local scratch, zero where unlisted (R389). -/
  scratch : SMap Byte := []
  /-- port space written through OUT, zero where unlisted (R389). -/
  ports : SMap (BitVec 32) := []
  /-- TIMER count, µs, while running (R389). -/
  timer : Option Nat := none
  /-- moves outstanding: source, destination, bytes (R391). -/
  moves : List (Nat × Nat × Nat) := []
  /-- micro-operations since the last YIELD (R400). -/
  ops : Nat := 0
  /-- WAIT of the YIELD that entered SLEEP (R399). -/
  wait : Nat := 0
  /-- EVMASK of that YIELD (R399). -/
  evmask : BitVec 16 := 0
  /-- a network error on an issued write halts at the next restart point (R396). -/
  netErr : Bool := false
  /-- IMM of the last FAULT (R391). -/
  faultImm : Nat := 0
  /-- WD_TIME in force since the last YIELD, µs (R411). -/
  wdTime : Nat := 20
  /-- µs from which the watchdog's time counts: the last YIELD or start, sleep excluded (R400). -/
  yieldUs : Nat := 0
  /-- µs at which TIMER was written (R389). -/
  timerUs : Nat := 0
  /-- lines the fetch cache holds, one at most per index (R404). -/
  lines : List Nat := []
  deriving DecidableEq, Repr

/-- One control-store bank (R403 to R408). -/
structure Bank where
  /-- words, zero where unlisted (R403). -/
  words : SMap (BitVec 32) := []
  /-- VALID (R410). -/
  valid : Bool := false
  /-- LOCK (R410). -/
  locked : Bool := false
  /-- ROLES (R406). -/
  roles : BitVec 32 := 0
  /-- ORDER_ABI (R406). -/
  orderAbi : Nat := 0
  /-- VERSION (R406). -/
  version : Nat := 0
  /-- WORDS (R406). -/
  nwords : Nat := 0
  /-- digest verified at load (R408). -/
  digest : List Byte := []
  deriving DecidableEq, Repr

/-- A microcode image (R406). -/
structure UcImage where
  /-- ORDER_ABI (R406). -/
  orderAbi : Nat := 0
  /-- VERSION (R406). -/
  version : Nat := 0
  /-- ROLES (R406). -/
  roles : BitVec 32 := 0
  /-- words (R406). -/
  words : List (BitVec 32) := []
  /-- SHAKE256 over the header and the words (R406). -/
  digest : List Byte := []
  deriving DecidableEq, Repr

/-- A SEQ_LOAD in progress (R406). -/
structure LoadJob where
  /-- mailbox (R406). -/
  mb : Mb := 0
  /-- SEQ (R406). -/
  seq : Nat := 0
  /-- bank B (R406). -/
  bankB : Bool := false
  /-- requested unsigned (R445). -/
  unsigned : Bool := false
  /-- the staged image; none where its header is wrong (R406). -/
  image : Option UcImage := none
  /-- the staged signature block (R445). -/
  sigs : List Byte := []
  deriving DecidableEq, Repr

/-- A SEQ_SWAP in progress (R407). -/
structure SwapReq where
  /-- sequencers still pending (R407). -/
  mask : BitVec 32 := 0
  /-- sequencers swapped (R407). -/
  done : BitVec 32 := 0
  /-- mailbox and SEQ; none for the slipway (R407). -/
  mb : Option (Mb × Nat) := none
  deriving DecidableEq, Repr

/-- The control store and what the sequencers share (R403 to R411). -/
structure SeqDev where
  /-- banks A and B (R403). -/
  banks : Vector Bank 2 := Vector.replicate 2 {}
  /-- load in progress (R406). -/
  job : Option LoadJob := none
  /-- LOADING (R410). -/
  loading : Nat := 0
  /-- AUDIT_FAIL (R410). -/
  auditFail : Bool := false
  /-- LOAD_REJECT (R410). -/
  loadReject : Bool := false
  /-- PARITY_ERR (R410). -/
  parityErr : Bool := false
  /-- swap in progress (R407). -/
  swap : Option SwapReq := none
  /-- swaps refused until reset after a breakwater start (R407). -/
  swapRefused : Bool := false
  /-- completions written: (ORIGIN, word), newest first (R388). -/
  rings : List (Nat × BitVec 64) := []
  /-- WD_TIME (R411). -/
  wdTimeSet : Nat := 20
  /-- STORE_AUDIT, ms (R411). -/
  storeAudit : Nat := 1000
  /-- rotating pointer of each fetch port over its sequencers (R404). -/
  fetchPtr : Vector Nat 4 := Vector.replicate 4 0
  /-- µs at which each bank was last audited (R408). -/
  auditUs : Vector Nat 2 := Vector.replicate 2 0
  /-- banks with an open audit fault (R408). -/
  auditOpen : List Nat := []
  deriving DecidableEq, Repr

/-- The answer to one message (R421, R429). -/
structure Reply where
  /-- OPCODE (R421). -/
  op : Nat := 0
  /-- SEQ (R421). -/
  seq : Nat := 0
  /-- STATUS (R429). -/
  status : Nat := 0
  /-- AUX (R429). -/
  aux : Nat := 0
  /-- payload, empty unless SUCCESS (R421). -/
  payload : List Byte := []
  deriving DecidableEq, Repr

/-- One notification entry (R427). -/
structure Notif where
  /-- OPCODE: 0xFF01 EVENT, 0xFF02 DONE, 0xFF03 INCIDENT, 0xFF04 CONFIG_CHANGED (R427). -/
  op : Nat := 0
  /-- SEQ (R427). -/
  seq : Nat := 0
  /-- STATUS of a DONE (R427). -/
  status : Nat := 0
  /-- AUX of a DONE (R427). -/
  aux : Nat := 0
  /-- 32-byte payload (R427). -/
  payload : List Byte := []
  deriving DecidableEq, Repr

/-- One L message in progress (R424). -/
structure LMsg where
  /-- OPCODE (R424). -/
  op : Nat := 0
  /-- SEQ (R424). -/
  seq : Nat := 0
  /-- its DONE is discarded after a re-initialisation (R434). -/
  discard : Bool := false
  deriving DecidableEq, Repr

/-- One mailbox: registers, rings, credits, sequence, authorisation, staging (R412 to R434). -/
structure Mailbox where
  /-- MBX_CTRL ENABLE (R415). -/
  enable : Bool := false
  /-- RESP_INT (R415). -/
  respInt : Bool := false
  /-- NTF_INT (R415). -/
  ntfInt : Bool := false
  /-- VECTOR (R415). -/
  vector : Nat := 0
  /-- READY (R416). -/
  ready : Bool := false
  /-- DB_ERR (R416). -/
  dbErr : Bool := false
  /-- NTF_OVF (R416). -/
  ntfOvf : Bool := false
  /-- SEQ_ERR (R416). -/
  seqErr : Bool := false
  /-- REINIT (R416). -/
  reinit : Bool := false
  /-- NTF_LOST, saturating (R416). -/
  ntfLost : Nat := 0
  /-- MBX_REQ_TAIL (R414). -/
  reqTail : Nat := 0
  /-- MBX_REQ_HEAD (R414). -/
  reqHead : Nat := 0
  /-- MBX_RESP_TAIL (R414). -/
  respTail : Nat := 0
  /-- MBX_RESP_HEAD (R414). -/
  respHead : Nat := 0
  /-- MBX_NTF_TAIL (R414). -/
  ntfTail : Nat := 0
  /-- MBX_NTF_HEAD (R414). -/
  ntfHead : Nat := 0
  /-- request slots (mailboxes 2 and 3: the queue of taken requests) (R413). -/
  reqSlots : SMap (List Byte) := []
  /-- response slots (R413). -/
  respSlots : SMap (List Byte) := []
  /-- notification entries (R413). -/
  ntfs : SMap Notif := []
  /-- expected SEQ, none after a mailbox reset (R422). -/
  expSeq : Option Nat := none
  /-- stored response of the previous request (R422). -/
  lastReply : Option Reply := none
  /-- privilege lowered by MBX_SET_PRIV; 4 not lowered (R430). -/
  privCap : Nat := 4
  /-- GROUPS (R432). -/
  groups : BitVec 16 := 0
  /-- minimum event severity (R432). -/
  minSev : Nat := 0
  /-- PUSH (R432). -/
  push : Bool := false
  /-- CONFIG (R432). -/
  config : Bool := false
  /-- notification count (R427). -/
  ntfCount : Nat := 0
  /-- nonce in force (R433). -/
  nonce : Option (List Byte) := none
  /-- OPCODE the nonce names (R433). -/
  nonceOp : Nat := 0
  /-- payload digest the nonce names (R433). -/
  nonceDigest : List Byte := []
  /-- armed authorisation: OPCODE and payload digest (R433). -/
  armed : Option (Nat × List Byte) := none
  /-- roles of the valid entries behind the armed authorisation, bit per ROLE (R481). -/
  armedRoles : Nat := 0
  /-- digest of the drive-maker key they endorse (R468). -/
  armedDm : List Byte := []
  /-- times of failed AUTH_RESPONSEs, newest first (R433). -/
  authFails : List Nat := []
  /-- AUTH_CHALLENGE locked out for 1 h (R433). -/
  lockout : Bool := false
  /-- staging buffer (R433). -/
  staging : SMap Byte := []
  /-- event read cursor (R504). -/
  cursor : Nat := 0
  /-- the cursor was set or advanced; otherwise it stands at the oldest record held (R504). -/
  cursorSet : Bool := false
  /-- L messages in progress (R424). -/
  lMsgs : List LMsg := []
  /-- last answer formed (R423). -/
  reply : Option Reply := none
  /-- message whose answer waits: OPCODE and SEQ (R423). -/
  waitOp : Option (Nat × Nat) := none
  /-- the answer goes to the mailbox's ring (R423). -/
  waitPost : Bool := false
  /-- request slots written while their request is outstanding (R417). -/
  dirty : List Nat := []
  deriving DecidableEq, Repr

/-- One supervised input (R447, R448, R450). -/
structure SupplyIn where
  /-- last sample, mV: the 12 V and 5 V inputs before their dividers, a device rail at its balls; VR_PGOOD 1000 high, 0 low (R447). -/
  mv : Nat := 0
  /-- consecutive samples beyond the stage-1 entry level, saturating at 3 (R448). -/
  entryRun : Nat := 0
  /-- consecutive samples beyond the stage-2 level, saturating at 51 (R450). -/
  trigRun : Nat := 0
  /-- consecutive samples at the leave level, saturating at 10001 (R448). -/
  leaveRun : Nat := 0
  deriving DecidableEq, Repr

/-- Step of R453 in progress. -/
inductive BwStep where
  | idle
  | park
  | save
  | close
  deriving DecidableEq, Repr

/-- START page fields (R457). -/
structure StartPage where
  /-- IMAGE_SEQ (R457). -/
  seq : Nat := 0
  /-- CAUSE (R457). -/
  cause : Nat := 0
  /-- FLAGS (R457). -/
  flags : Nat := 0
  /-- POWER_ON_S (R457). -/
  powerOnS : Nat := 0
  /-- CYCLES (R457). -/
  cycles : Nat := 0
  /-- CKPT_SEQ (R457). -/
  ckptSeq : Nat := 0
  /-- BLOCKS (R457). -/
  blocks : Nat := 0
  /-- MAP_PAGES (R457). -/
  mapPages : Nat := 0
  /-- SPEED, 1/8 rpm (R457). -/
  speed : Nat := 0
  /-- REGIONS (R457). -/
  regions : List (BitVec 64) := []
  deriving DecidableEq, Repr

/-- COMMIT page fields (R457). -/
structure CommitPage where
  /-- IMAGE_SEQ (R457). -/
  seq : Nat := 0
  /-- PAGES (R457). -/
  pages : Nat := 0
  /-- PAGE_CRC (R457). -/
  pageCrc : Nat := 0
  /-- SAVE_MS (R457). -/
  saveMs : Nat := 0
  /-- SPEED, 1/8 rpm (R457). -/
  speed : Nat := 0
  /-- PARKED (R457). -/
  parked : Nat := 0
  /-- GROWN (R457). -/
  grown : Nat := 0
  deriving DecidableEq, Repr

/-- Supply supervision and the breakwater sequence (R447 to R459). -/
structure Breakwater where
  /-- 0 the 12 V input, 1 the 5 V input, 2 to 11 device rails in R41 order, 15 VR_PGOOD (R447). -/
  inputs : Vector SupplyIn 16 := Vector.replicate 16 {}
  /-- NV-write inhibit active (R448). -/
  inhibit : Bool := false
  /-- µs at which the inhibit began (R466). -/
  inhibitSince : Nat := 0
  /-- breakwater sequence started (R450). -/
  started : Bool := false
  /-- CAUSE of the first trigger (R450). -/
  cause : Nat := 0
  /-- a vault-then-reset was upgraded (R451). -/
  upgraded : Bool := false
  /-- µs of breakwater start (R450). -/
  startUs : Nat := 0
  /-- step in progress (R453). -/
  step : BwStep := .idle
  /-- actuators PARKED within 150 ms (R457). -/
  parked : List Act := []
  /-- actuators no longer moving, parked or given up (R454). -/
  parkDone : List Act := []
  /-- time of the last park, ms (R466). -/
  parkMs : Nat := 0
  /-- PARK_DONE recorded (R466). -/
  parkReported : Bool := false
  /-- actuators driven open-loop after 150 ms (R454). -/
  openLoop : List Act := []
  /-- HOLDUP entered (R457). -/
  holdup : Bool := false
  /-- step 3 skipped: no ERASED area, or a start in progress (R521) (R456). -/
  noSave : Bool := false
  /-- dirty blocks at breakwater start (R466). -/
  dirtyAtStart : Nat := 0
  /-- measured speed at start, 1/8 rpm (R457). -/
  speedAtStart : Nat := 0
  /-- µs at which step 3 began (R457). -/
  saveStartUs : Nat := 0
  /-- area being written (R456). -/
  area : Nat := 0
  /-- next PAGE to program (R457). -/
  page : Nat := 0
  /-- pages of the image, COMMIT included (R457). -/
  pagesTotal : Nat := 0
  /-- blocks marked grown-bad during the save (R457). -/
  grown : Nat := 0
  /-- pages written again in the area (R458). -/
  rewrites : Nat := 0
  /-- the effective bound lies below the bound of R135 (R462). -/
  derated : Bool := false
  deriving DecidableEq, Repr

/-- Lifecycle state (R467). -/
inductive Life where
  | blank
  | manufacture
  | field
  | ret
  | decommissioned
  deriving DecidableEq, Repr

/-- OTP fields (R471); thermometer fields hold the set of logical bits. -/
structure Otp where
  /-- IDX, logical bits set (burned lowest first) (R471). -/
  idx : Nat := 0
  /-- UC_SVN, logical bits set (R471). -/
  ucSvn : Nat := 0
  /-- FW_SVN, logical bits set (R471). -/
  fwSvn : Nat := 0
  /-- KILL logical bit 0 (R471). -/
  kill : Bool := false
  /-- LC, logical bits set (R471). -/
  lc : Nat := 0
  /-- IDPK_DIGEST, none unwritten (R471). -/
  idpkDigest : Option (List Byte) := none
  /-- ISEED, none unwritten (R471). -/
  iseed : Option (List Byte) := none
  /-- DUK, none unwritten (R471). -/
  duk : Option (List Byte) := none
  /-- DUK all ones (destroyed) (R471). -/
  dukOnes : Bool := false
  /-- DM_DIGEST, none unwritten (R471). -/
  dmDigest : Option (List Byte) := none
  /-- YK_DIGEST; the spec gives no step that programs it (R471). -/
  ykDigest : Option (List Byte) := none
  /-- SERIAL, none unwritten (R471). -/
  serial : Option (List Byte) := none
  deriving DecidableEq, Repr

/-- One key-store entry (R485). -/
structure KeyEntry where
  /-- NSID (R485). -/
  nsid : Nat := 0
  /-- GEN (R485). -/
  gen : Nat := 0
  /-- EPOCH (R485). -/
  epoch : Nat := 0
  /-- FLAGS bit 0 ERASE_PENDING (R485). -/
  erasePending : Bool := false
  /-- FLAGS bit 1 LOCKING (R485). -/
  locking : Bool := false
  /-- WRAP[i] with AUTH[i]; AUTH 0 the device wrap (R485). -/
  wraps : List (List Byte × Nat) := []
  /-- copy B matches copy A (R485). -/
  copyB : Bool := true
  deriving DecidableEq, Repr

/-- Opal locking object of one namespace (R489, R490). -/
structure Lock where
  /-- NSID (R489). -/
  nsid : Nat := 0
  /-- read-locked (R490). -/
  readLocked : Bool := false
  /-- write-locked (R490). -/
  writeLocked : Bool := false
  /-- LockOnReset PowerCycle (R489). -/
  lockOnReset : Bool := true
  /-- authorities in the ReadLocked and WriteLocked ACEs (R489). -/
  unlockers : List Nat := []
  deriving DecidableEq, Repr

/-- One session attestation key (R476). -/
structure SessKey where
  /-- secret seeds, in the security core only (R476). -/
  seed : List Byte := []
  /-- public key (R476). -/
  pk : List Byte := []
  /-- GEN (R476). -/
  gen : Nat := 0
  /-- next session index (R491). -/
  qidx : Nat := 0
  /-- certificate body and identity signature (R476). -/
  cert : List Byte := []
  deriving DecidableEq, Repr

/-- An ATTEST_QUOTE that waits for the session certificate (R491). -/
structure Quote where
  /-- mailbox (R491). -/
  mb : Mb := 0
  /-- SEQ (R491). -/
  seq : Nat := 0
  /-- NONCE of the request (R491). -/
  nonce : List Byte := []
  deriving DecidableEq, Repr

/-- The security core (R467 to R493). -/
structure Security where
  /-- lifecycle state derived at the last release (R467). -/
  life : Life := .blank
  /-- n + 16 x KILL bit 0 (R467). -/
  epoch : Nat := 0
  /-- session key certified (R476). -/
  sess : Option SessKey := none
  /-- successor certified, taken at the next quote (R476). -/
  successor : Option SessKey := none
  /-- session keys generated since reset (R476). -/
  sessGen : Nat := 0
  /-- identity tree cache usable (R473). -/
  treeReady : Bool := true
  /-- ISEED unreadable (R472). -/
  identityLost : Bool := false
  /-- times of health-test failures, newest first (R483). -/
  springFails : List Nat := []
  /-- spring FAILED until the next reset (R483). -/
  springFailed : Bool := false
  /-- quote FLAGS bit 1 (R491). -/
  springRestarted : Bool := false
  /-- quote FLAGS bit 2 (R491). -/
  unsignedLoaded : Bool := false
  /-- debug rights in force (R492). -/
  debugScope : BitVec 5 := 0
  /-- media encryption keys loaded, by key slot (R484). -/
  slots : List (Nat × List Byte) := []
  /-- quotes waiting for certification (R491). -/
  quotes : List Quote := []
  /-- accepted transition: TARGET, mailbox, SEQ (R469). -/
  lcChange : Option (Nat × Mb × Nat) := none
  /-- digest of the drive-maker key to burn with the transition (R468). -/
  lcDm : List Byte := []
  /-- internal reset due 10 ms after the DONE (R469). -/
  lcResetDue : Bool := false
  /-- (NSID, authority) authenticated (R490). -/
  opalSessions : List (Nat × Nat) := []
  /-- status of the last Opal method (R489). -/
  opalStatus : Nat := 0
  /-- the stored certificate chain was accepted at this start (R477). -/
  chainOk : Bool := false
  deriving DecidableEq, Repr

/-- IDX_NEXT, in the VDD_AON domain (R474). -/
structure IdxNext where
  /-- valid (R474). -/
  valid : Bool := false
  /-- next index (R474). -/
  next : Nat := 0
  /-- end of the batch (R474). -/
  stop : Nat := 0
  deriving DecidableEq, Repr

/-- One event record (R495); CHECK is computed where the record is read. -/
structure EvRec where
  /-- event; its CODE is Ev.code (R495). -/
  ev : Ev := .numbered 0
  /-- SEVERITY (R496). -/
  sev : Nat := 0
  /-- UNIT (R497). -/
  unit : Nat := 0
  /-- INSTANCE (R497). -/
  inst : Nat := 0
  /-- MSEC (R495). -/
  msec : Nat := 0
  /-- CYCLES (R495). -/
  cycles : Nat := 0
  /-- POWER_ON_S (R495). -/
  powerOnS : Nat := 0
  /-- RECNO (R495). -/
  recno : Nat := 0
  /-- PARAM0 (R495). -/
  p0 : Nat := 0
  /-- PARAM1 (R495). -/
  p1 : Nat := 0
  /-- PARAM2 (R495). -/
  p2 : Nat := 0
  deriving DecidableEq, Repr

/-- One NOR copy of the event ring (R502). -/
structure NorCopy where
  /-- sector being filled, 0 to 64 (R502). -/
  sector : Nat := 0
  /-- record slots used in it (R502). -/
  fill : Nat := 0
  /-- (sector, record) held, oldest first (R502). -/
  recs : List (Nat × EvRec) := []
  /-- sectors marked bad (R503). -/
  bad : List Nat := []
  deriving DecidableEq, Repr

/-- The event recorder (R500 to R503). -/
structure Recorder where
  /-- numbered records not yet in both copies, oldest first (R500). -/
  buf : List EvRec := []
  /-- records without a RECNO before the replay decision (R500). -/
  waiting : List EvRec := []
  /-- the replay decision is made (R500). -/
  numbering : Bool := false
  /-- next RECNO (R500). -/
  nextRecno : Nat := 0
  /-- records dropped since the last RECORDS_DROPPED (R501). -/
  dropped : Nat := 0
  /-- POWER_ON_S of the first drop (R501). -/
  dropFirstS : Nat := 0
  /-- highest severity dropped (R501). -/
  dropMaxSev : Nat := 0
  /-- RECNOs whose record fails its CHECK in both copies, found at the start (R503). -/
  lost : List Nat := []
  /-- flushing stopped by a breakwater start (R503). -/
  stopped : Bool := false
  deriving DecidableEq, Repr

/-- Head counter set (R506). -/
structure HeadCtr where
  /-- ASSIST_US (R506). -/
  assistUs : Nat := 0
  /-- ASSIST_MJ (R506). -/
  assistMj : Nat := 0
  /-- BYTES_READ (R506). -/
  bytesRead : Nat := 0
  /-- BYTES_WRITTEN (R506). -/
  bytesWritten : Nat := 0
  /-- CONTACTS (R506). -/
  contacts : Nat := 0
  /-- REALLOCS (R506). -/
  reallocs : Nat := 0
  /-- WEAK_SECTORS (R506). -/
  weakSectors : Nat := 0
  /-- POS_TRIPS (R506). -/
  posTrips : Nat := 0
  deriving DecidableEq, Repr

/-- Actuator counter set (R506). -/
structure ActCtr where
  /-- LOAD_CYCLES (R506). -/
  loadCycles : Nat := 0
  /-- BW_PARKS (R506). -/
  bwParks : Nat := 0
  /-- PARK_FAILS (R506). -/
  parkFails : Nat := 0
  /-- RETRACTS (R506). -/
  retracts : Nat := 0
  /-- SEEK_FAILS (R506). -/
  seekFails : Nat := 0
  /-- TWIN_REFUSED (R506). -/
  twinRefused : Nat := 0
  /-- TWIN_FALLBACKS (R506). -/
  twinFallbacks : Nat := 0
  deriving DecidableEq, Repr

/-- Device counter set (R506); NEXT_RECNO is Recorder.nextRecno. -/
structure DevCtr where
  /-- POWER_ON_S (R508). -/
  powerOnS : Nat := 0
  /-- POWER_CYCLES (R508). -/
  powerCycles : Nat := 0
  /-- SPINDLE_REVS (R506). -/
  spindleRevs : Nat := 0
  /-- BREAKWATERS (R506). -/
  breakwaters : Nat := 0
  /-- IMAGE_INVALIDS (R506). -/
  imageInvalids : Nat := 0
  /-- INCIDENTS (R506). -/
  incidents : Nat := 0
  deriving DecidableEq, Repr

/-- The lifetime counters (R506). -/
structure Counters where
  /-- device set (R506). -/
  dev : DevCtr := {}
  /-- head sets (R506). -/
  heads : Vector HeadCtr 32 := Vector.replicate 32 {}
  /-- actuator sets (R506). -/
  acts : Vector ActCtr 4 := Vector.replicate 4 {}
  deriving DecidableEq, Repr

/-- One incident entry (R512). -/
structure Incident where
  /-- REPORTERS, units that reported (R512). -/
  reporters : List Nat := []
  /-- ROOT_RECNO (R512). -/
  rootRecno : Nat := 0
  /-- REPORTS (R512). -/
  reports : Nat := 0
  /-- LAST_S (R512). -/
  lastS : Nat := 0
  /-- FIRST_S (R512). -/
  firstS : Nat := 0
  /-- LAST_MS (R512). -/
  lastMs : Nat := 0
  /-- FIRST_MS (R512). -/
  firstMs : Nat := 0
  /-- FUNCS (R512). -/
  funcs : Nat := 0
  /-- FIRST_FUNC (R512). -/
  firstFunc : Nat := 0
  /-- ACTION (R512). -/
  action : Nat := 0
  /-- SEVERITY (R512). -/
  sev : Nat := 0
  /-- ROOT_ID (R512). -/
  rootId : Nat := 0
  /-- ROOT_CLASS (R512). -/
  rootClass : Nat := 0
  /-- STATE: 0 FREE, 1 OPEN, 2 CLOSED (R512). -/
  state : Nat := 0
  /-- NUMBER (R512). -/
  number : Nat := 0
  /-- root record, for the INCIDENT notification (R513). -/
  root : EvRec := {}
  deriving DecidableEq, Repr

/-- One counter block in NOR with the incident table beside it (R507, R514). -/
structure CtrBlock where
  /-- GEN (R507). -/
  gen : Nat := 0
  /-- counters (R507). -/
  ctr : Counters := {}
  /-- incident entries not FREE (R514). -/
  incidents : List Incident := []
  deriving DecidableEq, Repr

/-- What the device as a whole is doing (R44, R453, R459, R516, R522). -/
inductive Phase where
  | reset
  | boot
  | run
  | sequence
  | quiescent
  | halted
  deriving DecidableEq, Repr

/-- One firmware package in a NOR slot (R525). -/
structure Package where
  /-- MAGIC (R525). -/
  magic : Nat := 0
  /-- FORMAT (R525). -/
  format : Nat := 0
  /-- ORDER_ABI (R525). -/
  orderAbi : Nat := 0
  /-- VERSION (R525). -/
  version : Nat := 0
  /-- FW_SVN_IMG (R525). -/
  fwSvn : Nat := 0
  /-- UC_SVN_IMG (R525). -/
  ucSvn : Nat := 0
  /-- SHAKE256 over the Fenxus header (R525). -/
  fenDigest : List Byte := []
  /-- microcode image; none where its header is wrong (R406). -/
  uc : Option UcImage := none
  /-- signature blocks (R525). -/
  sigs : List Byte := []
  deriving DecidableEq, Repr

/-- One firmware slot (R518, R526). -/
structure Slot where
  /-- package held (R524). -/
  pkg : Option Package := none
  /-- marked next (R518). -/
  next : Bool := false
  /-- invalid for this start (R518). -/
  invalid : Bool := false
  deriving DecidableEq, Repr

/-- The start in progress (R516 to R522). -/
structure Boot where
  /-- highest step B1 to B12 reached (R516). -/
  step : Nat := 0
  /-- running slot, 1 or 2; 0 none (R518). -/
  slot : Nat := 0
  /-- slot rejected first (R535). -/
  rejected : Nat := 0
  /-- halt code, 0 none (R522). -/
  halt : Nat := 0
  /-- µs of the internal reset release (R535). -/
  startUs : Nat := 0
  /-- the vault image was used (R535). -/
  vaultPath : Bool := false
  /-- why the checkpoint path was taken (R535). -/
  why : Nat := 0
  /-- replay completed or not needed (R464). -/
  replayDone : Bool := false
  /-- B10 ended (R516). -/
  ckptLoaded : Bool := false
  /-- host admitted (R520). -/
  admitted : Bool := false
  /-- bit 4 of the SMART critical warning until the next power cycle (R523). -/
  mayBeLost : Bool := false
  /-- the reset came from the power-on detector or PORST_N (R508). -/
  porReset : Bool := true
  /-- the release ends an NVM subsystem reset (R517). -/
  nssr : Bool := false
  deriving DecidableEq, Repr

/-- An FW_COMMIT in progress (R526). -/
structure FwJob where
  /-- mailbox (R526). -/
  mb : Mb := 0
  /-- SEQ (R526). -/
  seq : Nat := 0
  /-- SLOT (R526). -/
  slot : Nat := 0
  /-- NEXT (R526). -/
  next : Bool := false
  /-- the staged package (R526). -/
  pkg : Package := {}
  /-- the staged certificate chain (SLOT 0xF0) (R526). -/
  chain : List Byte := []
  deriving DecidableEq, Repr

/-- Progress of a slipway (R532). -/
inductive Slipway where
  | idle
  | s1
  | paused
  | resumed
  deriving DecidableEq, Repr

/-- Slipway and download state (R526, R532). -/
structure FwState where
  /-- slipway step (R532). -/
  slip : Slipway := .idle
  /-- slot being activated (R532). -/
  slipSlot : Nat := 0
  /-- mailbox of the FW_ACTIVATE (R532). -/
  slipMb : Nat := 0
  /-- SEQ of the FW_ACTIVATE (R532). -/
  slipSeq : Nat := 0
  /-- NVMe command waiting for the slipway (R526). -/
  slipTag : Option Tag := none
  /-- µs at which the pause began (R532). -/
  pauseUs : Nat := 0
  /-- FW_COMMITs in progress (R526). -/
  jobs : List FwJob := []
  /-- Firmware Image Download buffer (R526). -/
  download : SMap Byte := []
  /-- running half of the CODE region (R532). -/
  codeHalf : Bool := false
  /-- a key-store write of R488 waits for the end of NV-write inhibit (R486). -/
  eraseDue : Bool := false
  /-- a security-version burn waits for the end of NV-write inhibit (R480). -/
  svnDue : Bool := false
  /-- VERSION of the running package (R525). -/
  activeVersion : Nat := 0
  /-- digest of the running Fenxus image (R491). -/
  activeDigest : List Byte := []
  deriving DecidableEq, Repr

/-- The berth metadata of the deep-code region that checkpoints and the vault save (R271, R285, R455). -/
structure Tables where
  /-- berths not FREE (R249). -/
  berths : List Berth := []
  /-- segment records in use (R250). -/
  segs : List Seg := []
  /-- zone table (R239). -/
  zones : List Zone := []
  /-- relocation entries VALID (R282). -/
  relocs : List Reloc := []
  /-- open spare bands (R281). -/
  spares : List Spare := []
  /-- rebuild entries not FREE (R285). -/
  rblds : List Rbld := []
  /-- lost entries VALID (R293). -/
  losts : List Lost := []
  /-- chart entries MAPPED (R262). -/
  chart : List Chart := []
  /-- chart entries as the pages stored on the media hold them (R264). -/
  chartMedia : List Chart := []
  /-- chart directory: (NSID, page, berth, block) (R264). -/
  chartDir : List (Nat × Nat × Nat × Nat) := []
  /-- manifest entries not FREE (R256). -/
  manifest : List ManEnt := []
  /-- windows taken: (surface, first track, last track) (R246). -/
  usedTracks : List (Nat × Nat × Nat) := []
  /-- windows given up, with the checkpoint that must commit first: (surface, first, last, CKPT_SEQ) (R259). -/
  giving : List (Nat × Nat × Nat × Nat) := []
  /-- per-surface GEN counters (R247). -/
  segGen : List (Nat × Nat) := []
  /-- log, dredge and metadata builders (R260). -/
  builders : List Builder := []
  /-- last registration recorded for each head pair (R248). -/
  dEst : List (Hd × Hd × Int) := []
  /-- reshapes in progress (R298). -/
  reshapes : List Reshape := []
  /-- actuators declared failed (R277). -/
  actFailed : List Act := []
  /-- (berth, member, n) of data sectors written UNREADABLE for a lost row (R292). -/
  unread : List (Nat × Nat × Nat) := []
  /-- head states kept in the berth records (R302). -/
  heads : Vector HSt 32 := Vector.replicate 32 .inService
  /-- REASON of each head (R302). -/
  reasons : Vector Nat 32 := Vector.replicate 32 0
  deriving DecidableEq, Repr

/-- The protected write cache (R251). -/
structure Cache where
  /-- dirty blocks with their index entries (R251). -/
  blocks : List CBlock := []
  deriving DecidableEq, Repr

/-- What a vault image restores (R455). -/
structure Content where
  /-- write-cache blocks and index (R455). -/
  cache : Cache := {}
  /-- manifest ring and table delta (R455). -/
  tables : Tables := {}
  /-- tally rings with the PARTIAL minute (R455). -/
  tally : List TRing := []
  /-- staged event buffer (R455). -/
  events : List EvRec := []
  /-- staged lifetime counters (R455). -/
  counters : Counters := {}
  /-- learned FF tables, head-major (R455). -/
  ff : List (List Nat) := []
  /-- staged incident table (R455). -/
  incidents : List Incident := []
  /-- next RECNO after the staged records (R500). -/
  nextRecno : Nat := 0
  /-- a manifest or table line of the image is poisoned (R531). -/
  tablesBad : Bool := false
  /-- lines saved in a state other than CLEAN (R457). -/
  poison : List (Nat × Poison) := []
  deriving DecidableEq, Repr

/-- One vault area (R456). -/
structure Area where
  /-- derived state: 0 ERASED, 1 IMAGE, 2 PARTIAL (R456). -/
  st : Nat := 0
  /-- IMAGE_SEQ of the last image (R456). -/
  lastSeq : Nat := 0
  /-- good capacity, MiB (R456). -/
  goodMib : Nat := 2560
  /-- START page (R457). -/
  start : StartPage := {}
  /-- COMMIT page (R457). -/
  commit : Option CommitPage := none
  /-- image content (R455). -/
  content : Content := {}
  /-- blocks marked grown-bad (R458). -/
  grown : Nat := 0
  /-- background erase in progress (R465). -/
  erasing : Bool := false
  deriving DecidableEq, Repr

/-- A committed checkpoint on the media (R271). -/
structure Ckpt where
  /-- sequence number (R271). -/
  seq : Nat := 0
  /-- tables it holds (R271). -/
  tables : Tables := {}
  /-- copies that hold it (R271). -/
  copies : List Nat := []
  deriving DecidableEq, Repr

/-- What NOR, OTP, the vault and the media keep (R471, R485, R502, R507, R524, R456, R271). -/
structure Nv where
  /-- OTP (R471). -/
  otp : Otp := {}
  /-- firmware slots 1 and 2 (R524). -/
  slots : Vector Slot 2 := Vector.replicate 2 {}
  /-- key store (R485). -/
  keys : List KeyEntry := []
  /-- Opal authorities with the digest of their credentials (R489). -/
  opalOwner : List (Nat × List Byte) := []
  /-- locking objects with locking enabled (R489). -/
  locks : List Lock := []
  /-- namespace definitions (R325). -/
  namespaces : List Ns := []
  /-- reservations (R309). -/
  rsv : List Rsv := []
  /-- DER certificate chain (R477). -/
  certChain : List Byte := []
  /-- cached certification request (R477). -/
  csr : List Byte := []
  /-- drive configuration written by PERSIST setters: the setters accepted, newest first (R428). -/
  config : List Instr := []
  /-- rejected lakebed tracks of each surface as verification recorded them (R528). -/
  rejected : Vector (List Nat) 32 := Vector.replicate 32 []
  /-- ring boundaries of each surface as manufacture recorded them: (first lakebed track, WPR) (R528). -/
  rings : Vector (List (Nat × Nat)) 32 := Vector.replicate 32 []
  /-- event rings A and B (R502). -/
  copies : Vector NorCopy 2 := Vector.replicate 2 {}
  /-- counter rings A and B, newest first (R507). -/
  ctrBlocks : Vector (List CtrBlock) 2 := Vector.replicate 2 []
  /-- vault areas A and B (R456). -/
  areas : Vector Area 2 := Vector.replicate 2 {}
  /-- committed checkpoints on the media, newest first (R271). -/
  ckpts : List Ckpt := []
  /-- R_v of the newest save or the factory vault test, bytes per ms (R462). -/
  vaultRate : Nat := 1200000
  /-- epoch of the last start (R470). -/
  epochSeen : Nat := 0
  /-- identity tree cache present and good (R473). -/
  treeCache : Bool := true
  /-- QUAY_MOORMODE FULL_NEXT (R311). -/
  fullNext : Bool := false
  /-- learned FF persisted, head-major (R200). -/
  tableFF : List (List Nat) := []
  /-- mode pages saved: (logical unit, page, bytes) (R355). -/
  modeSaved : List (Nat × Nat × List Byte) := []
  /-- heads of each actuator in the drive configuration (R229). -/
  headsPerAct : Vector Nat 4 := Vector.replicate 4 8
  deriving DecidableEq, Repr

/-- State in the VDD_AON domain (R474, R508, R509). -/
structure Aon where
  /-- IDX_NEXT (R474). -/
  idxNext : IdxNext := {}
  /-- calendar time in ms that POWER_ON_S 0 has; none while invalid (R509). -/
  calendar : Option Int := none
  /-- the time was valid before it was invalidated (R509). -/
  calendarWas : Bool := false
  /-- µs count at which the current second of POWER_ON_S began, for MSEC (R508). -/
  secUs : Nat := 0
  /-- seconds of POWER_ON_S since the last counter block (R507). -/
  sinceBlock : Nat := 0
  deriving DecidableEq, Repr

/-- What the device sends to the outside world, oldest last. -/
inductive Out where
  | uart (line : List Byte)
  | uartFrame (bytes : List Byte)
  | miReply (bytes : List Byte)
  | msix (func : Nat) (vector : Nat)
  | cqe (func : Nat) (qid : Nat) (cid : Nat) (status : Nat) (dw0 : Nat) (phase : Bool)
  | sasResp (func : Nat) (cid : Nat) (status : Nat)
  | data (func : Nat) (cid : Nat) (bytes : List Byte)
  | taskResp (func : Nat) (code : Nat) (resp : Nat)
  | plk (a : Nat) (lane : Nat) (frame : BitVec 128)
  | psl (frame : BitVec 128)
  | wd (a : Nat) (mv : Nat) (start : Int) (bits : List (Bool × Nat))
  | avs (rail : Nat) (mv : Nat)
  | fetch (func : Nat) (qid : Nat) (index : Nat)
  | tap (bits : List Bool)
  | reg (mb : Nat) (offset : Nat) (value : Nat)
  | orderAns (n : Nat) (accept : Bool)
  deriving DecidableEq, Repr

/-- The whole device. -/
structure State where
  /-- commands waiting, first in first out (R1). -/
  pending : List Instr := []
  /-- what the device as a whole is doing (R44). -/
  phase : Phase := .reset
  /-- µs counted by the 1 µs supply samples (R447). -/
  us : Nat := 0
  /-- the model's counter of free values (R6). -/
  freeCtr : Nat := 0
  /-- what the device has sent, newest first (R1). -/
  out : List Out := []
  /-- ledger auditor (R30). -/
  ledger : Ledger := {}
  /-- straps latched (R39). -/
  straps : Straps := {}
  /-- balls (R36). -/
  pins : Pins := {}
  /-- test access port (R55). -/
  tap : Tap := {}
  /-- voltage loop and temperature (R42). -/
  pmu : Pmu := {}
  /-- surfaces (R81). -/
  surfaces : Vector Surface 32 := Vector.replicate 32 {}
  /-- heads, lakebed side (R81). -/
  heads : Vector HeadCfg 32 := Vector.replicate 32 {}
  /-- streams, lakebed side (R80). -/
  streams : Vector Stream 8 := Vector.replicate 8 {}
  /-- position guards (R77). -/
  guards : Vector Guard 4 := Vector.replicate 4 {}
  /-- loop engines LE0 to LE3 (R112). -/
  acts : Vector Actuator 4 := Vector.replicate 4 {}
  /-- sample strobes since reset; its low 2 bits are the slot of all four engines (R85). -/
  strobe : Nat := 0
  /-- engines whose slot of this strobe has run (R85). -/
  strobeDone : List Act := []
  /-- per-head loop tables (R114). -/
  hloops : Vector HeadLoop 32 := Vector.replicate 32 {}
  /-- spindle drive (R141). -/
  spn : Spindle := {}
  /-- streams, channel side (R180). -/
  chn : Vector ChnStream 8 := Vector.replicate 8 {}
  /-- channel parameters per head and zone (R181). -/
  chz : Vector (Vector ChnHZ 64) 32 := Vector.replicate 32 (Vector.replicate 64 {})
  /-- device-wide channel parameters and deep decoders (R181). -/
  chnDev : ChnDev := {}
  /-- write paths (R210). -/
  wps : Vector WritePath 4 := Vector.replicate 4 {}
  /-- heads, write side (R210). -/
  wheads : Vector WHead 32 := Vector.replicate 32 {}
  /-- device-wide assist and heater parameters (R212). -/
  wdev : WrpDev := {}
  /-- preamplifier links (R236). -/
  plks : Vector PLink 4 := Vector.replicate 4 {}
  /-- power-stage link (R237). -/
  psl : PsLink := {}
  /-- link limits (R238). -/
  lnk : LnkPar := {}
  /-- protected write cache (R251). -/
  cache : Cache := {}
  /-- image content with the staging area as the end of step 1 leaves it (R455). -/
  staged : Content := {}
  /-- berth metadata in DRAM (R249). -/
  tbl : Tables := {}
  /-- berth engine (R273). -/
  brt : BrtEng := {}
  /-- tables of the checkpoint being written (R271). -/
  ckptPend : Option Tables := none
  /-- berth parameters (R274). -/
  brtPar : BrtPar := {}
  /-- head states (R302). -/
  headRecs : Vector HeadRec 32 := Vector.replicate 32 {}
  /-- actuator failure counts (R277). -/
  actRecs : Vector ActRec 4 := Vector.replicate 4 {}
  /-- rebuild engine (R303). -/
  rbld : RbldEng := {}
  /-- Host Quay (R305). -/
  quay : Quay := {}
  /-- tags and pilots (R340). -/
  cmds : Cmds := {}
  /-- DRAM controller (R383). -/
  dram : Dram := {}
  /-- sequencers (R409). -/
  seqs : Vector Sequencer 32 := Vector.replicate 32 {}
  /-- control store (R410). -/
  seqDev : SeqDev := {}
  /-- mailboxes (R414). -/
  mbx : Vector Mailbox 4 := Vector.replicate 4 {}
  /-- rotating pointer of mailbox service (R24). -/
  mbxPtr : Nat := 0
  /-- supply supervision and breakwater (R450). -/
  bw : Breakwater := {}
  /-- security core (R467). -/
  sec : Security := {}
  /-- event recorder (R500). -/
  evr : Recorder := {}
  /-- lifetime counters (R506). -/
  ctr : Counters := {}
  /-- incident table (R512). -/
  incidents : Vector Incident 256 := Vector.replicate 256 {}
  /-- start in progress (R516). -/
  boot : Boot := {}
  /-- slipway and download buffer (R532). -/
  fw : FwState := {}
  /-- VDD_AON domain (R474). -/
  aon : Aon := {}
  /-- non-volatile content (R471). -/
  nv : Nv := {}
  deriving DecidableEq, Repr

/-- The machine right after reset: every field at its default. -/
def State.reset : State := {}

end Sys2Proof.Machine
end

