-- ==== Sys2Proof/Machine/Bits.lean ====
section
/-! DEFINITION. Bits: vectors by index, sparse maps, byte order, packed words, checks. -/

namespace Sys2Proof.Machine

/-- `v` with entry `i` changed by `f`. -/
def vupd {α : Type} {n : Nat} (v : Vector α n) (i : Fin n) (f : α → α) : Vector α n :=
  v.set i.val (f v[i]) i.isLt

/-! ### Sparse maps -/

/-- The entry of key `k`. -/
def smGet {α : Type} : SMap α → Nat → Option α
  | [], _ => none
  | (k', v) :: m, k => if k = k' then some v else smGet m k

/-- `m` without an entry of key `k`. -/
def smErase {α : Type} : SMap α → Nat → SMap α
  | [], _ => []
  | (k', v) :: m, k => if k = k' then m else (k', v) :: smErase m k

/-- `m` with `v` at key `k`, kept sorted. -/
def smPut {α : Type} : SMap α → Nat → α → SMap α
  | [], k, v => [(k, v)]
  | (k', v') :: m, k, v =>
    if k < k' then (k, v) :: (k', v') :: m
    else if k = k' then (k, v) :: m
    else (k', v') :: smPut m k v

/-- Keys strictly rising. -/
def smSorted {α : Type} : SMap α → Bool
  | [] => true
  | [_] => true
  | a :: b :: m => decide (a.1 < b.1) && smSorted (b :: m)

/-- The value at `k` of a map whose unlisted keys read `d`. -/
def smRead {α : Type} (d : α) (m : SMap α) (k : Nat) : α := (smGet m k).getD d

/-- Write `v` at `k` in a map whose unlisted keys read `d`: writing `d` removes the entry. -/
def smWrite {α : Type} [DecidableEq α] (d : α) (m : SMap α) (k : Nat) (v : α) : SMap α :=
  if v = d then smErase m k else smPut m k v

/-- The canonical form: keys strictly rising and no entry equal to what an unlisted key reads. -/
def smWf {α : Type} [DecidableEq α] (d : α) (m : SMap α) : Bool :=
  smSorted m && m.all fun e => decide (e.2 ≠ d)

/-- Consecutive bytes from `k`, a byte map whose unlisted keys read 0. -/
def smReadBytes (m : SMap Byte) (k : Nat) : Nat → List Byte
  | 0 => []
  | n + 1 => smRead 0 m k :: smReadBytes m (k + 1) n

/-- Consecutive bytes written from `k`. -/
def smWriteBytes (m : SMap Byte) (k : Nat) : List Byte → SMap Byte
  | [] => m
  | b :: bs => smWriteBytes (smWrite 0 m k b) (k + 1) bs

/-! ### Bytes and words -/

/-- `n` bytes of `v`, low byte first (R425). -/
def leBytes : Nat → Nat → List Byte
  | 0, _ => []
  | n + 1, v => BitVec.ofNat 8 v :: leBytes n (v / 256)

/-- The number whose bytes are given low byte first. -/
def leNat : List Byte → Nat
  | [] => 0
  | b :: bs => b.toNat + 256 * leNat bs

/-- A signed number as its `w`-bit two's complement pattern. -/
def toPat (w : Nat) (i : Int) : Nat := (i % (2 ^ w : Int)).toNat

/-- The signed number of a `w`-bit pattern. -/
def ofPat (w : Nat) (n : Nat) : Int :=
  let m := n % 2 ^ w
  if m < 2 ^ (w - 1) then (m : Int) else (m : Int) - (2 ^ w : Int)

/-- The field of `w` bits from bit `lo`. -/
def fld (v lo w : Nat) : Nat := v / 2 ^ lo % 2 ^ w

/-- One bit of a word. -/
def bitAt (v i : Nat) : Bool := decide (v / 2 ^ i % 2 = 1)

/-- A word from its fields: (low bit, width, value), each value cut to its width. -/
def packF : List (Nat × Nat × Nat) → Nat
  | [] => 0
  | (lo, w, v) :: fs => v % 2 ^ w * 2 ^ lo + packF fs

/-- A truth value as a bit. -/
def b2n (b : Bool) : Nat := if b then 1 else 0

/-- A count that saturates at `m`. -/
def satInc (m n : Nat) : Nat := if n < m then n + 1 else m

/-- A number held within two bounds. -/
def clampI (lo hi x : Int) : Int := if x < lo then lo else if hi < x then hi else x

/-- Serial-number order modulo 2^32 (R500): `a` comes before `b`. -/
def serialLt (a b : Nat) : Bool :=
  let d := (b + 2 ^ 32 - a % 2 ^ 32) % 2 ^ 32
  decide (0 < d ∧ d < 2 ^ 31)

/-- `a` comes before `b` or is `b`, modulo 2^32. -/
def serialLe (a b : Nat) : Bool := decide (a % 2 ^ 32 = b % 2 ^ 32) || serialLt a b

/-- The times of a list that lie within the last `win` µs. -/
def recent (now win : Nat) (ts : List Nat) : List Nat := ts.filter fun t => decide (now < t + win)

/-! ### Checks -/

/-- One bit of a reflected CRC of polynomial `p` (already reflected). -/
def crcBitR {w : Nat} (p c : BitVec w) : BitVec w :=
  if c.getLsbD 0 then (c >>> 1) ^^^ p else c >>> 1

/-- One byte of a reflected CRC. -/
def crcByteR {w : Nat} (p c : BitVec w) (b : Byte) : BitVec w :=
  Nat.repeat (crcBitR p) 8 (c ^^^ b.setWidth w)

/-- CRC-32C of R156: reflected polynomial 0x82F6_3B78, initial value and final exclusive-OR all ones. -/
def crc32c (bs : List Byte) : BitVec 32 :=
  bs.foldl (crcByteR 0x82F63B78#32) 0xFFFFFFFF#32 ^^^ 0xFFFFFFFF#32

/-- One bit of a CRC that is not reflected: shift out the top bit, with input bit `b`. -/
def crcBitF {w : Nat} (p c : BitVec w) (b : Bool) : BitVec w :=
  if c.msb != b then (c <<< 1) ^^^ p else c <<< 1

/-- A CRC over bits taken in order, not reflected. -/
def crcBits {w : Nat} (p init : BitVec w) (bits : List Bool) : BitVec w :=
  bits.foldl (crcBitF p) init

/-- The bits of an `n`-bit number, most significant first. -/
def msbBits : Nat → Nat → List Bool
  | 0, _ => []
  | n + 1, v => bitAt v n :: msbBits n v

/-! ### Arbitration -/

/-- R24: the first of `n` requesters at or after the pointer that asks. -/
def roundRobin (n ptr : Nat) (asks : Nat → Bool) : Option Nat :=
  ((List.range n).map fun k => (ptr + k) % n).find? asks

end Sys2Proof.Machine
end

