-- ==== Sys2Proof/Machine/Events.lean ====
section
/-! DEFINITION. Events: the named updates of the state, what leaves the device, event records,
notifications and incidents (chapter 18, R427). -/

namespace Sys2Proof.Machine

/-! ### Named updates -/

/-- Stream `m`, lakebed side, changed by `f`. -/
def updStream (s : State) (m : Strm) (f : Stream → Stream) : State :=
  { s with streams := vupd s.streams m f }
/-- Position guard of actuator `a` changed by `f`. -/
def updGuard (s : State) (a : Act) (f : Guard → Guard) : State :=
  { s with guards := vupd s.guards a f }
/-- Loop engine of actuator `a` changed by `f`. -/
def updAct (s : State) (a : Act) (f : Actuator → Actuator) : State :=
  { s with acts := vupd s.acts a f }
/-- Lakebed data of head `h` changed by `f`. -/
def updHead (s : State) (h : Hd) (f : HeadCfg → HeadCfg) : State :=
  { s with heads := vupd s.heads h f }
/-- Loop tables of head `h` changed by `f`. -/
def updHloop (s : State) (h : Hd) (f : HeadLoop → HeadLoop) : State :=
  { s with hloops := vupd s.hloops h f }
/-- The spindle drive changed by `f`. -/
def updSpn (s : State) (f : Spindle → Spindle) : State := { s with spn := f s.spn }
/-- Stream `m`, channel side, changed by `f`. -/
def updChn (s : State) (m : Strm) (f : ChnStream → ChnStream) : State :=
  { s with chn := vupd s.chn m f }
/-- Channel parameters of head `h` and zone `z` changed by `f`. -/
def updChz (s : State) (h : Hd) (z : Zn) (f : ChnHZ → ChnHZ) : State :=
  { s with chz := vupd s.chz h fun v => vupd v z f }
/-- Write path of actuator `a` changed by `f`. -/
def updWp (s : State) (a : Act) (f : WritePath → WritePath) : State :=
  { s with wps := vupd s.wps a f }
/-- Write side of head `h` changed by `f`. -/
def updWhead (s : State) (h : Hd) (f : WHead → WHead) : State :=
  { s with wheads := vupd s.wheads h f }
/-- Preamplifier link of actuator `a` changed by `f`. -/
def updPlk (s : State) (a : Act) (f : PLink → PLink) : State :=
  { s with plks := vupd s.plks a f }
/-- The power-stage link changed by `f`. -/
def updPsl (s : State) (f : PsLink → PsLink) : State := { s with psl := f s.psl }
/-- The berth tables changed by `f`. -/
def updTbl (s : State) (f : Tables → Tables) : State := { s with tbl := f s.tbl }
/-- The berth engine changed by `f`. -/
def updBrt (s : State) (f : BrtEng → BrtEng) : State := { s with brt := f s.brt }
/-- The rebuild engine changed by `f`. -/
def updRbld (s : State) (f : RbldEng → RbldEng) : State := { s with rbld := f s.rbld }
/-- Health counts of head `h` changed by `f`. -/
def updHeadRec (s : State) (h : Hd) (f : HeadRec → HeadRec) : State :=
  { s with headRecs := vupd s.headRecs h f }
/-- Failure counts of actuator `a` changed by `f`. -/
def updActRec (s : State) (a : Act) (f : ActRec → ActRec) : State :=
  { s with actRecs := vupd s.actRecs a f }
/-- The Host Quay changed by `f`. -/
def updQuay (s : State) (f : Quay → Quay) : State := { s with quay := f s.quay }
/-- Tags and pilots changed by `f`. -/
def updCmds (s : State) (f : Cmds → Cmds) : State := { s with cmds := f s.cmds }
/-- The DRAM controller changed by `f`. -/
def updDram (s : State) (f : Dram → Dram) : State := { s with dram := f s.dram }
/-- Sequencer `n` changed by `f`. -/
def updSeq (s : State) (n : Sq) (f : Sequencer → Sequencer) : State :=
  { s with seqs := vupd s.seqs n f }
/-- The control store changed by `f`. -/
def updSeqDev (s : State) (f : SeqDev → SeqDev) : State := { s with seqDev := f s.seqDev }
/-- Mailbox `mb` changed by `f`. -/
def updMbx (s : State) (mb : Mb) (f : Mailbox → Mailbox) : State :=
  { s with mbx := vupd s.mbx mb f }
/-- The breakwater changed by `f`. -/
def updBw (s : State) (f : Breakwater → Breakwater) : State := { s with bw := f s.bw }
/-- The security core changed by `f`. -/
def updSec (s : State) (f : Security → Security) : State := { s with sec := f s.sec }
/-- The event recorder changed by `f`. -/
def updEvr (s : State) (f : Recorder → Recorder) : State := { s with evr := f s.evr }
/-- Non-volatile content changed by `f`. -/
def updNv (s : State) (f : Nv → Nv) : State := { s with nv := f s.nv }
/-- The start in progress changed by `f`. -/
def updBoot (s : State) (f : Boot → Boot) : State := { s with boot := f s.boot }
/-- Slipway and download changed by `f`. -/
def updFw (s : State) (f : FwState → FwState) : State := { s with fw := f s.fw }
/-- The device counters changed by `f`. -/
def updDevCtr (s : State) (f : DevCtr → DevCtr) : State :=
  { s with ctr := { s.ctr with dev := f s.ctr.dev } }
/-- The counter set of head `h` changed by `f`. -/
def updHeadCtr (s : State) (h : Hd) (f : HeadCtr → HeadCtr) : State :=
  { s with ctr := { s.ctr with heads := vupd s.ctr.heads h f } }
/-- The counter set of actuator `a` changed by `f`. -/
def updActCtr (s : State) (a : Act) (f : ActCtr → ActCtr) : State :=
  { s with ctr := { s.ctr with acts := vupd s.ctr.acts a f } }

/-- R506: a counter advanced by `k`, saturating at 2^64 - 1. -/
def ctrAdd (n k : Nat) : Nat := min (n + k) (2 ^ 64 - 1)

/-- Send something to the outside world. -/
def emit (s : State) (o : Out) : State := { s with out := o :: s.out }

/-- Take the next free number. -/
def takeFree (s : State) : Nat × State :=
  (Config.freeNat s.freeCtr, { s with freeCtr := s.freeCtr + 1 })

/-- The number of the first head of actuator `a`: heads are numbered in actuator order (R6). -/
def firstHead (s : State) (a : Nat) : Nat := (s.nv.headsPerAct.toList.take a).foldl (· + ·) 0
/-- The heads of the drive configuration (R6). -/
def headCount (s : State) : Nat := firstHead s 4
/-- The actuator of a head (R6). -/
def actOf (s : State) (h : Hd) : Act :=
  if h.val < firstHead s 1 then 0
  else if h.val < firstHead s 2 then 1
  else if h.val < firstHead s 3 then 2
  else 3
/-- The place of a head on its actuator (R85). -/
def localHead (s : State) (h : Hd) : Fin 8 :=
  ⟨(h.val - firstHead s (actOf s h).val) % 8, Nat.mod_lt _ (by decide)⟩
/-- The actuator of a stream (R7). -/
def actOfStream (m : Strm) : Act := ⟨m.val / 2, by omega⟩
/-- The two streams of an actuator. -/
def stream0 (a : Act) : Strm := ⟨2 * a.val, by omega⟩
/-- The second stream of an actuator. -/
def stream1 (a : Act) : Strm := ⟨2 * a.val + 1, by omega⟩

/-- All heads, actuators, streams, mailboxes and sequencers, rising. -/
def allHeads : List Hd := List.finRange 32
/-- All actuators. -/
def allActs : List Act := List.finRange 4
/-- All streams. -/
def allStreams : List Strm := List.finRange 8
/-- All mailboxes. -/
def allMbs : List Mb := List.finRange 4
/-- All sequencers. -/
def allSeqs : List Sq := List.finRange 32
/-- All zones. -/
def allZones : List Zn := List.finRange 64
/-- A head of the drive configuration (R6). -/
def inDrive (s : State) (h : Hd) : Bool := decide (h.val < headCount s)
/-- The heads of an actuator (R6). -/
def headsOf (s : State) (a : Act) : List Hd := allHeads.filter fun h => inDrive s h && decide (actOf s h = a)

/-- The stream, if any, that serves a head. -/
def streamOfHead (s : State) (h : Hd) : Option Strm :=
  allStreams.find? fun m => s.streams[m].selected && s.streams[m].head = h

/-! ### Event records -/

/-- Group and place of an event without a number of its own (R498). -/
def Ev.place : Ev → Nat × Nat
  | .hostStrapReserved => (0xF, 0)
  | .recoveryBootIgnored => (0xF, 1)
  | .avsFail => (0xF, 2)
  | .socAtLimit => (0xF, 3)
  | .thermal105 => (0xF, 4)
  | .trackSlip => (0x4, 0)
  | .angleSlip => (0x4, 1)
  | .surfMismatch => (0x4, 2)
  | .formatErr => (0x4, 3)
  | .lost => (0x4, 4)
  | .rateOor => (0x4, 5)
  | .acqFail => (0x4, 6)
  | .vcmRetract => (0x5, 0)
  | .trajStop => (0x5, 1)
  | .seekFail => (0x5, 2)
  | .rmsHigh => (0x5, 3)
  | .holdRetract => (0x5, 4)
  | .twinFallback => (0x5, 5)
  | .ocTrip => (0x6, 0)
  | .spnFault => (0x6, 1)
  | .obsLoss => (0x6, 2)
  | .startFail => (0x6, 3)
  | .chopFault => (0x6, 4)
  | .syncBias => (0x7, 0)
  | .sqzCheck => (0x8, 0)
  | .assistFault => (0x8, 1)
  | .ffDrift => (0x8, 2)
  | .contact => (0x8, 3)
  | .contactBlocked => (0x8, 4)
  | .wearWarn => (0x8, 5)
  | .wearFull => (0x8, 6)
  | .otherCause => (0x8, 7)
  | .plkLoss => (0x9, 0)
  | .trainFail => (0x9, 1)
  | .headsMismatch => (0x9, 2)
  | .pslLoss => (0x9, 3)
  | .noEligible => (0xA, 0)
  | .piMismatch => (0xA, 1)
  | .patrolFix => (0xA, 2)
  | .patrolSuspect => (0xA, 3)
  | .headDeclared => (0xB, 0)
  | .actuatorFailed => (0xB, 1)
  | .rebuildSuspect => (0xB, 2)
  | .rowLost => (0xB, 3)
  | .berthLost => (0xB, 4)
  | .spreadLost => (0xB, 5)
  | .ckptMoved => (0xB, 6)
  | .reshapeDone => (0xB, 7)
  | .mooringPoison => (0xC, 0)
  | .ue => (0xD, 0)
  | .poisonUsed => (0xD, 1)
  | .substitute => (0xD, 2)
  | .lapWarn => (0xD, 3)
  | .overtemp => (0xD, 4)
  | .trainDrift => (0xD, 5)
  | .seqFault => (0xE, 0)
  | .auditFail => (0xE, 1)
  | .authFail => (0xE, 2)
  | .numbered c => (c / 4096 % 16, 0)

/-- Bits 15:12 of the event's CODE (R498). -/
def Ev.group (e : Ev) : Nat := e.place.1

/-- The event's CODE: its number where the spec gives one, else the group with free low bits. -/
def Ev.code : Ev → Nat
  | .numbered c => c % 65536
  | e => e.place.1 * 4096 + (Config.evLow e.place.1 e.place.2).toNat

/-- The first 28 bytes of a record (R495). -/
def evBody (r : EvRec) : List Byte :=
  leBytes 2 r.ev.code ++
  leBytes 6 (packF [(0, 3, r.sev), (3, 6, r.unit), (9, 5, r.inst), (14, 10, r.msec), (24, 24, r.cycles)]) ++
  leBytes 4 r.powerOnS ++ leBytes 4 r.recno ++ leBytes 4 r.p0 ++ leBytes 4 r.p1 ++ leBytes 4 r.p2

/-- The 32 bytes of a record, CHECK included (R495). -/
def evBytes (r : EvRec) : List Byte :=
  evBody r ++ leBytes 4 (crc32c (evBody r)).toNat

/-- A message header with its payload (R421). -/
def frameBytes (opc flags mb seq status aux : Nat) (payload : List Byte) : List Byte :=
  let h := leBytes 2 opc ++ leBytes 1 0 ++ leBytes 1 flags ++ leBytes 1 1 ++ leBytes 1 mb ++ leBytes 6 0 ++
    leBytes 4 seq ++ leBytes 2 payload.length ++ leBytes 2 0 ++ leBytes 2 status ++ leBytes 2 0 ++ leBytes 4 aux
  h ++ leBytes 4 (crc32c (h ++ payload)).toNat ++ payload

/-- A message as it travels on the UART: between 0x7E bytes, 0x7E and 0x7D escaped (R420). -/
def uartWire (bs : List Byte) : List Byte :=
  0x7E :: (bs.flatMap fun b => if b = 0x7E ∨ b = 0x7D then [0x7D, b ^^^ 0x20] else [b]) ++ [0x7E]

/-- A notification entry as bytes (R427). -/
def ntfBytes (mb : Mb) (n : Notif) : List Byte :=
  frameBytes n.op 2 mb.val n.seq n.status n.aux n.payload

/-- Entries of the notification ring not consumed. -/
def ntfUsed (x : Mailbox) : Nat := (x.ntfTail + 128 - x.ntfHead) % 128

/-- R427: write one notification entry; all but a DONE need more than 32 entries free. -/
def putNtf (x : Mailbox) (n : Notif) (always : Bool) : Mailbox :=
  if !always && 64 - ntfUsed x ≤ 32 then
    { x with ntfOvf := true, ntfLost := min (x.ntfLost + 1) 65535 }
  else
    { x with ntfs := smPut x.ntfs (x.ntfTail % 64) n, ntfTail := (x.ntfTail + 1) % 128,
             ntfCount := if always then x.ntfCount else x.ntfCount + 1 }

/-- What delivering an entry beyond polling sends (R412, R419, R420, R432). -/
def pushNtf (s : State) (mb : Mb) (n : Notif) : State :=
  let x := s.mbx[mb]
  if mb.val < 2 then
    if x.ntfInt && !s.quay.sas then emit s (.msix (512 * mb.val) x.vector) else s
  else if !x.push then s
  else if mb = 2 then { s with pins := { s.pins with mgAlertN := false } }
  else updMbx (emit s (.uartFrame (uartWire (ntfBytes mb n)))) mb fun x => { x with ntfHead := x.ntfTail }

/-- Send a notification on mailbox `mb`; nothing is posted from breakwater start on (R434). -/
def notify (s : State) (mb : Mb) (n : Notif) (always : Bool) : State :=
  if s.bw.started then s
  else
    let x := s.mbx[mb]
    let s1 := updMbx s mb fun x => putNtf x n always
    if s1.mbx[mb].ntfTail = x.ntfTail then s1 else pushNtf s1 mb n

/-- The mailbox has selected an event group and a severity (R427, R432). -/
def selects (x : Mailbox) (group sev : Nat) : Bool :=
  x.groups.getLsbD group && decide (x.minSev ≤ sev)

/-- Apply `f` for each element in order. -/
def forEach {α : Type} (l : List α) (s : State) (f : State → α → State) : State := l.foldl f s

/-- R427: EVENT notifications of a numbered record. -/
def notifyEvent (s : State) (r : EvRec) : State :=
  forEach allMbs s fun s mb =>
    if selects s.mbx[mb] r.ev.group r.sev then
      notify s mb { op := 0xFF01, seq := s.mbx[mb].ntfCount, payload := evBytes r } false
    else s

/-- Free entries of the recorder's buffer (R500, R501). -/
def evFree (v : Recorder) : Nat := 4096 - (v.buf.length + v.waiting.length)

/-- R501: a record of this severity is dropped. -/
def evDrops (v : Recorder) (sev : Nat) : Bool :=
  decide (evFree v = 0) || (decide (evFree v < 256) && decide (sev < 3))

/-- MSEC: milliseconds within the current second of POWER_ON_S (R508). -/
def msecOf (s : State) : Nat := min 999 ((s.us - s.aon.secUs) / 1000)

/-- Milliseconds of POWER_ON_S (R508). -/
def onMs (s : State) : Nat := 1000 * s.ctr.dev.powerOnS + msecOf s

/-- Calendar time in ms, 48 bits wide; none while invalid (R509). -/
def calNow (s : State) : Option Nat := s.aon.calendar.map fun (b : Int) => (b + (onMs s : Int)).toNat % 2 ^ 48

/-- The record of an event, stamped with the time (R495, R508). -/
def stamp (s : State) (ev : Ev) (sev unit inst p0 p1 p2 : Nat) : EvRec :=
  { ev := ev, sev := sev, unit := unit, inst := inst, msec := msecOf s,
    cycles := s.ctr.dev.powerCycles % 2 ^ 24, powerOnS := s.ctr.dev.powerOnS % 2 ^ 32,
    p0 := p0 % 2 ^ 32, p1 := p1 % 2 ^ 32, p2 := p2 % 2 ^ 32 }

/-- Number a record and hold it in the buffer (R500). -/
def number (s : State) (r : EvRec) : State :=
  let r' := { r with recno := s.evr.nextRecno }
  notifyEvent (updEvr s fun v =>
    { v with buf := v.buf ++ [r'], nextRecno := (v.nextRecno + 1) % 2 ^ 32 }) r'

/-- Raise an event: its record enters the buffer, numbered once the replay decision is made,
or is dropped (R500, R501). -/
def raise (s : State) (ev : Ev) (sev unit inst : Nat) (p0 p1 p2 : Nat := 0) : State :=
  let r := stamp s ev sev unit inst p0 p1 p2
  if evDrops s.evr sev then
    updEvr s fun v =>
      { v with dropped := v.dropped + 1,
               dropFirstS := if v.dropped = 0 then r.powerOnS else v.dropFirstS,
               dropMaxSev := max v.dropMaxSev sev }
  else if s.evr.numbering then number s r
  else updEvr s fun v => { v with waiting := v.waiting ++ [r] }

/-- R501: the one record that covers every record dropped, once 512 entries are free. -/
def coverDrops (s : State) : State :=
  if 0 < s.evr.dropped ∧ 512 ≤ evFree s.evr then
    let v := s.evr
    raise (updEvr s fun v => { v with dropped := 0, dropFirstS := 0, dropMaxSev := 0 })
      (.numbered 0x0002) 2 0x00 0 v.dropped v.dropFirstS v.dropMaxSev
  else s

/-! ### Incidents -/

/-- The open incident of a root key (R511). -/
def openIncident (s : State) (key : Nat × Nat) : Option (Fin 256) :=
  (List.finRange 256).find? fun i =>
    s.incidents[i].state = 1 ∧ s.incidents[i].rootClass = key.1 ∧ s.incidents[i].rootId = key.2

/-- The root key of a report about a head: its actuator's while that has an open incident (R510). -/
def headKey (s : State) (h : Hd) : Nat × Nat :=
  if (openIncident s (0x02, (actOf s h).val)).isSome then (0x02, (actOf s h).val) else (0x03, h.val)

/-- Close an incident and send its INCIDENT notification (R511, R513). -/
def closeIncident (s : State) (i : Fin 256) : State :=
  let x := s.incidents[i]
  if x.state = 1 then
    forEach allMbs { s with incidents := vupd s.incidents i fun x => { x with state := 2 } } fun s mb =>
      if selects s.mbx[mb] x.root.ev.group x.root.sev then
        notify s mb
          { op := 0xFF03, seq := s.mbx[mb].ntfCount,
            payload := leBytes 4 x.number ++ leBytes 4 x.reports ++ (evBytes x.root).take 24 } false
      else s
  else s

/-- R512: an entry that still holds an open incident is closed first and INCIDENT_EVICTED recorded. -/
def evictIncident (s : State) (i : Fin 256) : State :=
  let x := s.incidents[i]
  if x.state = 1 then raise (closeIncident s i) (.numbered 0x1002) 2 0x01 0 x.number x.reports
  else s

/-- Open a new incident whose root is this report (R511 to R513). -/
def openNew (s : State) (key : Nat × Nat) (ev : Ev) (sev unit inst p0 p1 p2 action : Nat) : State :=
  let num := ctrAdd s.ctr.dev.incidents 1
  let i : Fin 256 := ⟨num % 256, by omega⟩
  let s1 := evictIncident (updDevCtr s fun d => { d with incidents := num }) i
  let rno := s1.evr.nextRecno
  let s2 := raise s1 ev sev unit inst p0 p1 p2
  let root := { stamp s1 ev sev unit inst p0 p1 p2 with recno := rno }
  { s2 with incidents := vupd s2.incidents i fun _ =>
      { reporters := [unit], rootRecno := rno, reports := 1,
        firstS := root.powerOnS, lastS := root.powerOnS, firstMs := root.msec, lastMs := root.msec,
        action := action, sev := sev, rootId := key.2, rootClass := key.1, state := 1,
        number := num, root := root } }

/-- A report joins an open incident and writes no record (R513). -/
def joinIncident (s : State) (i : Fin 256) (sev unit action : Nat) : State :=
  { s with incidents := vupd s.incidents i fun x =>
      { x with reports := min (x.reports + 1) (2 ^ 32 - 1),
               reporters := if x.reporters.contains unit then x.reporters else x.reporters ++ [unit],
               lastS := s.ctr.dev.powerOnS % 2 ^ 32, lastMs := msecOf s,
               sev := max x.sev sev, action := max x.action action } }

/-- Report a fault to the harbourmaster under a root key (R510 to R513). -/
def report (s : State) (key : Nat × Nat) (ev : Ev) (sev unit inst : Nat)
    (p0 p1 p2 : Nat := 0) (action : Nat := 0) : State :=
  match openIncident s key with
  | some i => joinIncident s i sev unit action
  | none => openNew s key ev sev unit inst p0 p1 p2 action

/-- Count functions notified in the open incident of a key (R513). -/
def countFuncs (s : State) (key : Nat × Nat) (fs : List Nat) : State :=
  match openIncident s key, fs with
  | some i, f :: _ =>
    { s with incidents := vupd s.incidents i fun x =>
        { x with funcs := min (x.funcs + fs.length) 1024,
                 firstFunc := if x.funcs = 0 then fs.foldl min f else (fs.foldl min f).min x.firstFunc } }
  | _, _ => s

/-- The device serves: start-up is over and no breakwater sequence has begun. -/
def live (s : State) : Bool := decide (s.phase = .run)

/-- Host commands are served: the device runs, in a lifecycle state with host I/O (R470, R520). -/
def hostIo (s : State) : Bool := live s && decide (s.sec.life ≠ .blank) && decide (s.sec.life ≠ .decommissioned)

/-- The blocks of the device are clocked: start-up, running, or in the breakwater sequence. -/
def powered (s : State) : Bool :=
  decide (s.phase = .boot) || decide (s.phase = .run) || decide (s.phase = .sequence)

end Sys2Proof.Machine
end

