-- ==== Sys2Proof/Machine/Mail.lean ====
section
/-! DEFINITION. Mail: how a message is admitted, answered and followed up, and how the payload of a
MASK setter is checked and applied (R421 to R435). -/

namespace Sys2Proof.Machine

/-- What a message's own meaning gives back: the state, STATUS, AUX and the response payload. -/
structure Ans where
  st : State
  status : Nat := 0
  aux : Nat := 0
  payload : List Byte := []
  deriving DecidableEq, Repr

/-- SUCCESS with no payload. -/
def okA (s : State) : Ans := { st := s }
/-- SUCCESS with a payload. -/
def dataA (s : State) (p : List Byte) : Ans := { st := s, payload := p }
/-- A failing status that changes nothing. -/
def failA (s : State) (status : Nat) (aux : Nat := 0) : Ans := { st := s, status := status, aux := aux }
/-- MALFORMED: a non-zero reserved field, with the offset of its first byte (R5, R429). -/
def malformedA (s : State) (aux : Nat) : Ans := failA s 0x0002 aux
/-- PARAM_RANGE (R429). -/
def rangeA (s : State) (aux : Nat := 0) : Ans := failA s 0x000A aux
/-- STATE_CONFLICT. -/
def conflictA (s : State) (aux : Nat := 0) : Ans := failA s 0x000B aux
/-- NOT_FOUND. -/
def notFoundA (s : State) (aux : Nat := 0) : Ans := failA s 0x000E aux

/-- The privilege a message needs (R430); `db` names the right of R492 that also opens it. -/
inductive Need where
  | rd | op | cf | fa
  | db (scopeBit : Nat)
  | sg
  deriving DecidableEq, Repr

/-- What the catalogue says of one message (R435). -/
structure Msg where
  opc : Nat
  need : Need := .cf
  /-- the function it names, where scope applies (R431) -/
  scope : Option Nat := none
  setter : Bool := false
  /-- writes NOR whatever PERSIST holds (R428) -/
  writesNor : Bool := false
  /-- marked L (R424) -/
  long : Bool := false
  /-- request payload, for the digest of an armed authorisation (R433) -/
  body : List Byte := []
  deriving DecidableEq, Repr

/-- R430: the privilege a lifecycle state gives a mailbox: 0 none to 4 FACTORY. -/
def lifePriv (l : Life) (mb : Mb) : Nat :=
  match l with
  | .blank => if mb = 3 then 4 else 0
  | .manufacture => 4
  | .ret => 4
  | .field => if mb = 3 then 1 else 3
  | .decommissioned => 1

/-- The privilege in force: MBX_SET_PRIV may have lowered it. -/
def privOf (s : State) (mb : Mb) : Nat := min (lifePriv s.sec.life mb) s.mbx[mb].privCap

/-- A debug right is in force (R492). -/
def debugRight (s : State) (bit : Nat) : Bool :=
  decide (s.sec.life = .field) && s.sec.debugScope.getLsbD bit

/-- The mailbox holds the privilege (R430). -/
def holds (s : State) (mb : Mb) : Need → Bool
  | .rd => decide (1 ≤ privOf s mb)
  | .op => decide (2 ≤ privOf s mb)
  | .cf => decide (3 ≤ privOf s mb)
  | .fa => decide (4 ≤ privOf s mb)
  | .db b => decide (4 ≤ privOf s mb) || debugRight s b
  | .sg => decide (1 ≤ privOf s mb)

/-- R430: what DECOMMISSIONED accepts. -/
def lifeAccepts (s : State) (m : Msg) : Bool :=
  decide (s.sec.life ≠ .decommissioned) ||
    (decide (m.need = .rd) && [0x00, 0x07, 0x0C].contains (m.opc / 256))

/-- R431: the function is within the mailbox's scope. -/
def inScope (s : State) (mb : Mb) (f : Nat) : Bool :=
  s.quay.sas || decide (2 ≤ mb.val) ||
    (if mb = 0 then decide (f ≤ 511) else decide (512 ≤ f))

/-- An opcode of the messages a device without a valid slot still serves (R522). -/
def haltServes (opc : Nat) : Bool :=
  decide (opc / 256 = 0) || [0x0A05, 0x0A03, 0x0C05].contains opc

/-- Whether Fenxus takes a message now: 0 it does, 1 it takes nothing, 2 it answers STATE_CONFLICT
(R434, R519, R522, R532). -/
def gateOf (s : State) (mb : Mb) (opc : Nat) : Nat :=
  if s.bw.started then 1
  else if s.phase = .run then
    if s.fw.slip = .paused then 1
    else if s.sec.life = .blank ∧ mb ≠ 3 then 1 else 0
  else if s.phase = .boot then
    if mb.val < 2 ∨ s.boot.step < 7 then 1 else if opc / 256 = 0 ∨ opc = 0x0A05 then 0 else 2
  else if s.phase = .halted then
    if s.boot.halt = 3 then (if opc = 0x0001 then 0 else 1)
    else if s.boot.halt = 1 then 1
    else if mb.val < 2 then 1
    else if haltServes opc then 0 else 2
  else 1

/-- The armed authorisation matches this message (R433). -/
def authorised (s : State) (mb : Mb) (m : Msg) : Bool :=
  s.mbx[mb].armed == some (m.opc, Config.shake256 m.body)

/-- The status that refuses a message before its own meaning runs, if any (R424, R428 to R433). -/
def refusal (s : State) (r : Req) (m : Msg) : Option (Nat × Nat) :=
  if r.persist && !m.setter then some (0x0002, 3)
  else if !lifeAccepts s m then some (0x0006, 0)
  else if !holds s r.mb m.need then some (0x0005, 0)
  else if r.persist && !holds s r.mb .cf then some (0x0005, 0)
  else if (match m.scope with | some f => !inScope s r.mb f | none => false) then some (0x0007, 0)
  else if s.bw.inhibit && (r.persist || m.writesNor) then some (0x0013, 0)
  else if m.need = .sg && !authorised s r.mb m then some (0x0008, 0)
  else if m.long && decide (8 ≤ s.mbx[r.mb].lMsgs.length) then some (0x000B, 0)
  else none

/-- Record the answer formed on its mailbox (R421: no payload unless SUCCESS). -/
def answer (s : State) (r : Req) (opc status aux : Nat) (payload : List Byte) : State :=
  updMbx s r.mb fun x =>
    { x with reply := some { op := opc, seq := r.seq, status := status, aux := aux,
                             payload := if status = 0 then payload else [] } }

/-- R433: any result of the named message consumes the armed authorisation. -/
def consumeAuth (s : State) (r : Req) (m : Msg) : State :=
  if m.need = .sg ∧ (s.mbx[r.mb].armed.map (·.1)) = some m.opc then
    updMbx s r.mb fun x => { x with armed := none, armedRoles := 0 }
  else s

/-- R427: CONFIG_CHANGED on every other mailbox that asked for it. -/
def notifyConfig (s : State) (r : Req) (opc : Nat) : State :=
  forEach allMbs s fun s mb =>
    if mb ≠ r.mb ∧ s.mbx[mb].config then
      notify s mb { op := 0xFF04, seq := s.mbx[mb].ntfCount,
                    payload := leBytes 2 opc ++ leBytes 1 r.mb.val ++ leBytes 1 0 ++ leBytes 4 r.seq ++ leBytes 24 0 } false
    else s

/-- The answer waits for a transaction the message has begun (R423): no STATUS yet. -/
def deferA (s : State) : Ans := failA s 0xFFFF

/-- A response as bytes (R421). -/
def replyBytes (mb : Mb) (x : Reply) : List Byte := frameBytes x.op 1 mb.val x.seq x.status x.aux x.payload

/-- Post an answer on its mailbox: the response ring of a BAR2 or SAS mailbox, an NVMe-MI response, a
UART frame; mailboxes 2 and 3 return their credit with it (R412, R417 to R420). -/
def postReply (s : State) (mb : Mb) (x : Reply) : State :=
  let s1 := updMbx s mb fun m => { m with waitOp := none, waitPost := false }
  if mb.val < 2 then
    let m := s1.mbx[mb]
    let s2 := updMbx s1 mb fun m =>
      { m with respSlots := smPut m.respSlots (m.respTail % 32) (replyBytes mb x), respTail := (m.respTail + 1) % 64 }
    if m.respInt && !s.quay.sas then emit s2 (.msix (512 * mb.val) m.vector) else s2
  else
    let s2 := updMbx s1 mb fun m => { m with respTail := (m.respTail + 1) % 64, respHead := (m.respHead + 1) % 64 }
    emit s2 (if mb = 2 then .miReply (replyBytes mb x) else .uartFrame (uartWire (replyBytes mb x)))

/-- The answer that waited is formed, and posted where the request came through the ring (R423). -/
def lateAnswer (s : State) (mb : Mb) (status aux : Nat) (payload : List Byte) : State :=
  match s.mbx[mb].waitOp with
  | none => s
  | some (op, seq) =>
    let x : Reply := { op := op, seq := seq, status := status, aux := aux, payload := if status = 0 then payload else [] }
    let s1 := updMbx s mb fun m => { m with reply := some x }
    if s.mbx[mb].waitPost then postReply (updMbx s1 mb fun m => { m with lastReply := some x }) mb x else updMbx s1 mb fun m => { m with waitOp := none }

/-- What follows an accepted message: the setter's notification and drive configuration (R427,
R428), the L message's place in progress (R424). -/
def follow (s : State) (r : Req) (m : Msg) (i : Instr) (status : Nat) : State :=
  if status = 0 ∧ m.setter then
    let s1 := notifyConfig s r m.opc
    if r.persist then updNv s1 fun n => { n with config := i :: n.config } else s1
  else if status = 1 ∧ m.long then
    updMbx s r.mb fun x => { x with lMsgs := x.lMsgs ++ [{ op := m.opc, seq := r.seq }] }
  else s

/-- Serve one message: admit it, run its own meaning in one step, answer it. -/
def serve (s : State) (r : Req) (m : Msg) (i : Instr) (body : State → Ans) : State :=
  if gateOf s r.mb m.opc = 1 then s
  else if gateOf s r.mb m.opc = 2 then answer s r m.opc 0x000B 0 []
  else
    match refusal s r m with
    | some (st, aux) => answer (consumeAuth s r m) r m.opc st aux []
    | none =>
      let a := body (consumeAuth s r m)
      if a.status = 0xFFFF then updMbx a.st r.mb fun x => { x with reply := none, waitOp := some (m.opc, r.seq) }
      else answer (follow a.st r m i a.status) r m.opc a.status a.aux a.payload

/-- R427: the DONE of an L message; discarded after a re-initialisation of its mailbox (R434). -/
def postDone (s : State) (mb : Mb) (seq status aux result : Nat) : State :=
  match s.mbx[mb].lMsgs.find? fun l => l.seq = seq with
  | none => s
  | some l =>
    let s1 := updMbx s mb fun x => { x with lMsgs := x.lMsgs.erase l }
    if l.discard then s1
    else notify s1 mb { op := 0xFF02, seq := seq, status := status, aux := aux,
                        payload := leBytes 8 result ++ leBytes 24 0 } true

/-- An L message of this OPCODE is in progress on some mailbox. -/
def longBusy (s : State) (opcs : List Nat) : Bool :=
  allMbs.any fun mb => s.mbx[mb].lMsgs.any fun l => opcs.contains l.op

/-! ### MASK setters (R426) -/

/-- One parameter of a setter's list: its elements, its own range check and how it is set. -/
structure Par (α : Type) where
  n : Nat := 1
  fa : Bool := false
  ok : List Nat → Bool
  put : List Nat → α → α

/-- The first value of a parameter. -/
def v0 (vs : List Nat) : Nat := vs.headD 0
/-- The first value as a signed number. -/
def i0 (vs : List Nat) : Int := ofPat 32 (v0 vs)
/-- All values as signed numbers. -/
def ints (vs : List Nat) : List Int := vs.map (ofPat 32)

/-- An unsigned parameter of one element with a range. -/
def parN {α : Type} (lo hi : Nat) (put : Nat → α → α) (fa : Bool := false) : Par α :=
  { fa := fa, ok := fun vs => decide (lo ≤ v0 vs) && decide (v0 vs ≤ hi), put := fun vs => put (v0 vs) }
/-- A signed parameter of one element with a range. -/
def parI {α : Type} (lo hi : Int) (put : Int → α → α) (fa : Bool := false) : Par α :=
  { fa := fa, ok := fun vs => decide (lo ≤ i0 vs) && decide (i0 vs ≤ hi), put := fun vs => put (i0 vs) }
/-- An unsigned parameter of `n` elements with a range for each. -/
def parNs {α : Type} (n lo hi : Nat) (put : List Nat → α → α) : Par α :=
  { n := n, ok := fun vs => vs.all fun v => decide (lo ≤ v) && decide (v ≤ hi), put := put }
/-- A signed parameter of `n` elements with a range for each. -/
def parIs {α : Type} (n : Nat) (lo hi : Int) (put : List Int → α → α) : Par α :=
  { n := n, ok := fun vs => (ints vs).all fun v => decide (lo ≤ v) && decide (v ≤ hi),
    put := fun vs => put (ints vs) }
/-- A choice of two names. -/
def parB {α : Type} (put : Bool → α → α) (fa : Bool := false) : Par α :=
  parN 0 1 (fun v => put (decide (v = 1))) fa

/-- Check and apply the parameters of `m` one after another; the failing bit when a check fails. -/
def runPars {α : Type} (pars : List (Par α)) : Params → α → Except Nat α
  | [], x => .ok x
  | (b, ws) :: m, x =>
    match pars[b]? with
    | none => .error b
    | some p =>
      let vs := ws.map BitVec.toNat
      if vs.length = p.n ∧ p.ok vs then runPars pars m (p.put vs x) else .error b

/-- A relational limit: the bits it speaks about and whether it holds. -/
abbrev Rel := List Nat × Bool

/-- The failing bit of the first relational limit that does not hold: the lowest of its bits that
the message sets. -/
def relFail (m : Params) : List Rel → Option Nat
  | [] => none
  | (bs, ok) :: rs =>
    if ok then relFail m rs
    else some (((m.map (·.1)).filter bs.contains).foldl min ((m.map (·.1)).headD 0 + 32) % 32)

/-- Check the message as a whole, then apply it (R426). -/
def applyPars {α : Type} (pars : List (Par α)) (rels : α → List Rel) (m : Params) (x : α) : Except Nat α :=
  match runPars pars m x with
  | .error b => .error b
  | .ok y =>
    match relFail m (rels y) with
    | some b => .error b
    | none => .ok y

/-- A parameter marked FA is among those the message sets. -/
def asksFa {α : Type} (pars : List (Par α)) (m : Params) : Bool :=
  m.any fun e => ((pars[e.1]?).map (·.fa)).getD false

/-- The privilege of a setter that may carry FA parameters. -/
def needOf {α : Type} (pars : List (Par α)) (m : Params) : Need := if asksFa pars m then .fa else .cf

/-- The answer of a setter over one record of the state. -/
def setA {α : Type} (s : State) (pars : List (Par α)) (rels : α → List Rel) (m : Params) (x : α)
    (store : α → State) : Ans :=
  match applyPars pars rels m x with
  | .ok y => okA (store y)
  | .error b => rangeA s b

/-- Apply a checked change to each of several records; nothing applied where one fails. -/
def foldExcept {α : Type} : List α → State → (State → α → Except Nat State) → Except Nat State
  | [], s, _ => .ok s
  | a :: as, s, f =>
    match f s a with
    | .ok s' => foldExcept as s' f
    | .error b => .error b

/-- The answer of a checked change to several records. -/
def setAllA {α : Type} (s : State) (l : List α) (f : State → α → Except Nat State) : Ans :=
  match foldExcept l s f with
  | .ok s' => okA s'
  | .error b => rangeA s b

/-! ### Selectors (R425) -/

/-- The heads a HEAD selector names: 0xFF every head of the drive configuration. -/
def selHeads (s : State) (n : Nat) : List Hd :=
  if n = 0xFF then allHeads.filter fun h => inDrive s h
  else if h : n < 32 then (if inDrive s ⟨n, h⟩ then [⟨n, h⟩] else []) else []
/-- The zones a ZONE selector names: 0xFF every zone. -/
def selZones (n : Nat) : List Zn :=
  if n = 0xFF then allZones else if h : n < 64 then [⟨n, h⟩] else []
/-- The head a HEAD selector of a getter names. -/
def selHead (s : State) (n : Nat) : Option Hd :=
  if h : n < 32 then (if inDrive s ⟨n, h⟩ then some ⟨n, h⟩ else none) else none
/-- The actuator an ACT selector names. -/
def selAct (n : Nat) : Option Act := if h : n < 4 then some ⟨n, h⟩ else none
/-- The stream a STREAM selector names. -/
def selStream (n : Nat) : Option Strm := if h : n < 8 then some ⟨n, h⟩ else none
/-- The function a FUNC selector names. -/
def selFn (n : Nat) : Option Fn := if h : n < 1024 then some ⟨n, h⟩ else none
/-- The sequencer a SEQ selector names. -/
def selSq (n : Nat) : Option Sq := if h : n < 32 then some ⟨n, h⟩ else none

/-- A getter: the words it returns, each packed in `n` bytes, then the state it leaves. -/
def getA (s : State) (words : List (Nat × Nat)) : Ans :=
  dataA s (words.flatMap fun w => leBytes w.1 w.2)

/-- R426: a W1C bit of a word just read clears where CLEAR has a 1 in its place. -/
def w1c (clear : BitVec 64) (bit : Nat) (v : Bool) : Bool := v && !clear.getLsbD bit

end Sys2Proof.Machine
end

