-- ==== Sys2Proof/Machine/Ops.lean ====
section
/-! DEFINITION. Ops: where tracks, zones and slots lie, and what opens, ends and closes a write run
(R68 to R73, R153, R185 to R193, R199 to R209). -/

namespace Sys2Proof.Machine

/-! ### Geometry -/

/-- The surface mapped to a head (R81). -/
def surfOf (s : State) (h : Hd) : Surface :=
  s.surfaces[(⟨s.heads[h].surface % 32, Nat.mod_lt _ (by decide)⟩ : Fin 32)]

/-- The density zone of a lakebed track (R73). -/
def zoneAt (sf : Surface) (t : Nat) : Zn :=
  ⟨min (sf.zoneMap.filter fun f => decide (f ≤ t)).length 63, by omega⟩

/-- The WPR of the ring a lakebed track lies in (R59). -/
def wprAt (sf : Surface) (t : Nat) : Nat :=
  (sf.rings.foldl (fun acc r => if r.1 ≤ t then r.2 else acc) ((sf.rings.map (·.2)).headD 0))

/-- Tone cycles per revolution of a lakebed track (R59). -/
def cyclesAt (sf : Surface) (t : Nat) : Nat := wprAt sf t * 2560

/-- A lakebed track next to a ring boundary (R69). -/
def seamAt (sf : Surface) (t : Nat) : Bool :=
  sf.rings.any fun r => decide (0 < r.1) && (decide (t = r.1) || decide (t + 1 = r.1))

/-- The lakebed track a position lies in: the nearest centre (R65). -/
def trackOfPos (pos : Int) : Nat := ((pos + 512) / 1024).toNat

/-- The lakebed track of track `k` of a band (R204). -/
def bandTrack (d : BandDesc) (k : Nat) : Nat := if d.dir then d.firstTrack - k else d.firstTrack + k

/-- The data track centre of track `k` of a band, position units (R204). -/
def bandCentre (d : BandDesc) (k : Nat) : Int := (bandTrack d k : Int) * 1024 + d.offset

/-- Physical sector address: TRACK, SURFACE, SLOT (R154). -/
def psaOf (slot surface track : Nat) : BitVec 40 :=
  BitVec.ofNat 40 (packF [(0, 24, track), (24, 5, surface), (29, 11, slot)])

/-- Channel parameters of a head and zone. -/
def chzOf (s : State) (h : Hd) (z : Zn) : ChnHZ := s.chz[h][z]

/-- Slots of a track (R185). -/
def slotsAt (s : State) (h : Hd) (t : Nat) : Nat :=
  cyclesAt (surfOf s h) t / (chzOf s h (zoneAt (surfOf s h) t)).slotTc

/-- Angle of slot 0 of track `k` of a band, tone cycles (R205). -/
def bandAngle (s : State) (d : BandDesc) (k : Nat) : Nat :=
  let c := chzOf s d.head (zoneAt (surfOf s d.head) d.firstTrack)
  (d.offset0 + k * c.skew * c.slotTc) % cyclesAt (surfOf s d.head) (bandTrack d k)

/-- Linear interpolation over the five velocity points 4,800 to 7,200 rpm, the nearest outside (R196). -/
def interp5 (vals : List Nat) (meas8 : Nat) : Nat :=
  let m := min (max meas8 38400) 57600 - 38400
  let i := min (m / 4800) 3
  let f := m - 4800 * i
  let a := vals.getD i 0
  let b := vals.getD (i + 1) 0
  if a ≤ b then a + (b - a) * f / 4800 else a - (a - b) * f / 4800

/-- The stream that serves the writing head of an actuator (R183). -/
def writingStream (s : State) (a : Act) : Option Strm := streamOfHead s s.wps[a].sel

/-! ### Band contexts -/

/-- Band context `c` of a write path. -/
def bandOf (s : State) (a : Act) (c : Nat) : Option Band :=
  if h : c < 16 then s.wps[a].bands[(⟨c, h⟩ : Fin 16)] else none

/-- Band context `c` changed by `f`. -/
def updBand (s : State) (a : Act) (c : Nat) (f : Band → Band) : State :=
  if h : c < 16 then updWp s a fun p => { p with bands := vupd p.bands ⟨c, h⟩ (Option.map f) } else s

/-- A slot of the open track has become COMPLETE; the last slot of the last track closes the band (R205). -/
def bandComplete (s : State) (a : Act) (c slot : Nat) : State :=
  updBand s a c fun b =>
    let done := if b.complete.contains slot then b.complete else b.complete ++ [slot]
    { b with complete := done,
             closed := b.closed || (decide (b.openTrack + 1 = b.desc.tracks) &&
               decide (slotsAt s b.desc.head (bandTrack b.desc b.openTrack) ≤ done.length)) }

/-! ### Energy and wear -/

/-- Energies in nJ of amounts in fJ, in order: what lies below 1 nJ carries to the next one (R208). -/
def carryNj : Nat → List Nat → List Nat × Nat
  | rem, [] => ([], rem)
  | rem, x :: xs => (((rem + x) / 1000000) :: (carryNj ((rem + x) % 1000000) xs).1, (carryNj ((rem + x) % 1000000) xs).2)

/-- Assign energy to the head's lifetime counter, keeping the remainder below 1 mJ (R208). -/
def addEnergy (s : State) (h : Hd) (nj : Nat) : State :=
  let t := s.wheads[h].nj + nj
  updHeadCtr (updWhead s h fun w => { w with nj := t % 1000000 }) h fun c =>
    { c with assistMj := ctrAdd c.assistMj (t / 1000000) }

/-- Wear in steps of 0.01 %, of the budget in force (R209, R212). -/
def wearOf (s : State) (h : Hd) : Nat :=
  s.ctr.heads[h].assistUs * 10000 / (s.wheads[h].budgetNow * 3600000000)

/-- The write parameters in force on a head's path. -/
def parOf (s : State) (h : Hd) : RunPar := s.wps[actOf s h].par

/-- The wear events and write retirement of a head (R209). -/
def wearCheck (s : State) (h : Hd) : State :=
  let w := wearOf s h
  let s1 := if (parOf s h).wearWarn * 100 ≤ w ∧ !s.wheads[h].warnSent then
      raise (updWhead s h fun x => { x with warnSent := true }) .wearWarn 0 0x08 (actOf s h).val h.val w
    else s
  let s2 := if 10000 ≤ w ∧ !s1.wheads[h].fullSent then
      raise (updWhead s1 h fun x => { x with fullSent := true }) .wearFull 0 0x08 (actOf s h).val h.val w
    else s1
  if 10000 ≤ w ∧ (parOf s h).wearRetire then updWhead s2 h fun x => { x with retired := true } else s2

/-- The wear of a head as a start finds it: what was reached before raised its event before, and a head
at 100 % under RETIRE is write-retired (R209). -/
def wearLoad (s : State) (h : Hd) : State :=
  let w := wearOf s h
  updWhead s h fun x =>
    { x with warnSent := x.warnSent || decide ((parOf s h).wearWarn * 100 ≤ w), fullSent := x.fullSent || decide (10000 ≤ w),
             retired := x.retired || (decide (10000 ≤ w) && (parOf s h).wearRetire) }

/-- AEa falls: the on-time of the head advances by the frames since the rise (R208). -/
def aeFall (s : State) (a : Act) : State :=
  let h := s.wps[a].sel
  let ns := s.wheads[h].onNs + 80 * s.wps[a].framesSinceAe
  let s1 := updWp s a fun p => { p with ae := false, wg := false, assistReady := false, adrive := 0,
                                        framesSinceAe := 0, readyRun := 0, lowRun := 0, highRun := 0, hotRun := 0 }
  let s2 := updHeadCtr (updWhead s1 h fun w => { w with onNs := ns % 1000 }) h fun c =>
    { c with assistUs := ctrAdd c.assistUs (ns / 1000) }
  wearCheck s2 h

/-- One velocity point of FF moved toward the mean drive code, in 1/256 codes, rounded down (R200). -/
def ffStep (d256 ff w4800 : Nat) : Nat :=
  ((ff : Int) + ((d256 : Int) - ff) * w4800 / (16 * 4800)).toNat

/-- R200: FF of the head and zone learned from a run longer than 16 law frames. -/
def learnFF (s : State) (a : Act) (h : Hd) (z : Zn) (lawFrames : Nat) : State :=
  if lawFrames ≤ 16 then s
  else
    let d := (s.wps[a].driveLog.take 16).foldl (· + ·) 0 * 16
    let m := min (max s.spn.meas 38400) 57600 - 38400
    let i := min (m / 4800) 3
    let f := m - 4800 * i
    let s1 := updWhead s h fun w => { w with hz := vupd w.hz z fun t =>
      { t with ffNow := t.ffNow.mapIdx fun k v =>
          if k = i then ffStep d v (4800 - f) else if k = i + 1 then ffStep d v f else v } }
    let t := s1.wheads[h].hz[z]
    if (t.ffNow.zip t.ff).any fun p => decide (p.2 * 256 * s.wps[a].par.effLimit < p.1 * 100) then
      let s2 := updWp s1 a fun p => { p with ffDrift := true }
      if s1.wheads[h].driftSent then s2
      else raise (updWhead s2 h fun w => { w with driftSent := true }) .ffDrift 2 0x08 a.val h.val
    else s1

/-! ### Time -/

/-- So many ns can have passed since a µs count: the model's clock counts whole µs. -/
def passedNs (s : State) (since ns : Nat) : Bool := decide (since ≤ s.us ∧ ns < (s.us + 1 - since) * 1000)

/-! ### Orders -/

/-- The heater takes the write value for a head: HTR_READY waits for WH_LEAD (R201). -/
def heaterWrite (s : State) (h : Hd) : State :=
  if s.wheads[h].htrWriteVal then s else updWhead s h fun w => { w with htrWriteVal := true, htrSince := none }

/-- The heater takes the read value again and HTR_READY clears (R201). -/
def heaterRead (s : State) (h : Hd) : State :=
  updWhead s h fun w => { w with htrWriteVal := false, htrReady := false, htrSince := none }

/-- Ask for a head's selection for write on the preamplifier link (R222). -/
def selectWrite (s : State) (a : Act) (h : Hd) : State :=
  updPlk s a fun l => { l with wantHead := h, wantSel := true }

/-- After a run, however it ended: the read value returns where it was the last run of its order and no
order waits on the same head, and the run now in progress takes the path (R201, R222). -/
def afterRun (s : State) (a : Act) (o : WriteOrd) : State :=
  let more := (s.wps[a].run.map (·.ord)).toList ++ s.wps[a].queue
  let s1 := if o.last && !more.any (fun x => decide (x.head = o.head)) then heaterRead s o.head else s
  match s1.wps[a].run with
  | some n => selectWrite (heaterWrite s1 n.ord.head) a n.ord.head
  | none => s1

/-- The next run dispatched on the path, its first blocks in the buffer (R186, R201). -/
def startNext (p : WritePath) : WritePath :=
  match p.queue with
  | [] => p
  | o :: q => { p with queue := q, run := some { ord := o }, order := some o, runActive := true,
                       buffer := o.blocks.take 4, sel := o.head }

/-- VDDIO_18 is at or above 1.62 V: below it the balls WGa and AEa are low (R54). -/
def vddioUp (s : State) : Bool := decide (1620 ≤ s.bw.inputs[(10 : Fin 16)].mv)
/-- The level of ball WGa: low in reset and while VDDIO_18 is low, else the gate (R54). -/
def wgBall (s : State) (a : Act) : Bool := decide (s.phase ≠ .reset) && vddioUp s && s.wps[a].wg
/-- The level of ball AEa, with the same rule (R54). -/
def aeBall (s : State) (a : Act) : Bool := decide (s.phase ≠ .reset) && vddioUp s && s.wps[a].ae

/-! ### Read gates -/

/-- The sector whose read gate has closed waits for its decode (R162, R169). -/
def queueDecode (c : ChnStream) : ChnStream :=
  match c.cur with
  | some o => { c with cur := none, readGate := false, eqAdapt := false, decq := c.decq ++
      [{ ord := o, flagged := c.flagged, lostLock := c.lostLock, aborted := c.aborted, adapt := c.eqAdapt,
         par := c.curPar, mu := c.curMu, taps := c.taps }] }
  | none => { c with readGate := false, eqAdapt := false }

/-- An open read gate after `cycles` of travel, in 1/256 tone cycle: it closes 16 bits after the last postamble
bit (R162). -/
def gateTravel (cycles : Nat) (c : ChnStream) : ChnStream :=
  if !c.readGate then c
  else if c.gateLeft ≤ cycles then queueDecode { c with gateLeft := 0 }
  else { c with gateLeft := c.gateLeft - cycles }

/-! ### Ending a run -/

/-- A pilot operation changed by `f`. -/
def updOp (s : State) (a : Act) (id : Nat) (f : PilotOp → PilotOp) : State :=
  updCmds s fun c => { c with pilots := vupd c.pilots a fun p =>
    { p with entries := p.entries.map fun e => if e.id = id then f e else e } }

/-- The ratio of a head and zone. -/
def ratioOf (s : State) (h : Hd) (z : Zn) : Ratio := s.heads[h].ratio[z]

/-- The first bit of slot `slot` of an order on the writing stream's count: ceil(A x N / M) - W_ALIGN
(R153, R184). -/
def startBit (s : State) (b : Band) (o : WriteOrd) (slot : Nat) (wAlign : Int) : Int :=
  let c := chzOf s o.head b.zone
  let q := ratioOf s o.head b.zone
  let ang := (bandAngle s b.desc o.track + slot * c.slotTc) % cyclesAt (surfOf s o.head) (bandTrack b.desc o.track)
  (((ang * q.n + q.m - 1) / (max q.m 1) : Nat) : Int) - wAlign

/-- The sector in progress of a run had begun: the writing stream's bit count lies at or past its first
preamble bit, within half a revolution (R190, R208). Where no stream or band tells, an open gate says so. -/
def sectorBegun (s : State) (a : Act) (r : Run) : Bool :=
  s.wps[a].wg && decide (r.ended.length < r.ord.count) &&
    (match bandOf s a r.ord.ctx, writingStream s a with
     | some b, some m =>
       let q := ratioOf s r.ord.head b.zone
       let c := cyclesAt (surfOf s r.ord.head) (bandTrack b.desc r.ord.track)
       let bits : Int := c * q.n / (max q.m 1)
       let now : Int := s.streams[m].angle * q.n / (256 * max q.m 1)
       if bits = 0 then true
       else decide ((now - startBit s b r.ord (r.ord.slot + r.ended.length) r.wd.2.2.2) % bits * 2 < bits)
     | _, _ => true)

/-- STATUS of slot `k` of a run: 0 COMPLETE, 1 TORN, 2 NOT_STARTED (R190, R191). A trip tears the
`torn` sectors that ended last and the sector in progress, if it had `begun`. -/
def sectorStatus (tripped : Bool) (torn : Nat) (begun : Bool) (r : Run) (k : Nat) : Nat :=
  let n := r.ended.length
  if k < n then (if tripped && decide (n ≤ k + torn) then 1 else 0)
  else if tripped && decide (k = n) && begun then 1
  else 2

/-- The physical sector address of slot `k` of an order (R191). -/
def orderPsa (s : State) (a : Act) (o : WriteOrd) (k : Nat) : BitVec 40 :=
  let tr := match bandOf s a o.ctx with
    | some b => bandTrack b.desc o.track
    | none => 0
  psaOf (o.slot + k) s.heads[o.head].surface tr

/-- A result as the 64-bit word that is posted (R191). -/
def resultWordOf (x : WResult) : BitVec 64 :=
  BitVec.ofNat 64 (packF [(60, 4, x.status), (56, 4, x.cause), (40, 16, x.energy), (0, 40, x.psa.toNat)])

/-- Post one result to the actuator's servo sequencer (R191). -/
def postWord (s : State) (a : Act) (x : WResult) : State :=
  updWp s a fun w => { w with results := x :: w.results, posted := resultWordOf x :: w.posted }

/-- Post the result words of a run, oldest first, with what each COMPLETE or TORN sector counts; a slot
written torn is no longer COMPLETE (R190, R191, R205). -/
def postResults (s : State) (a : Act) (r : Run) (rs : List WResult) : State :=
  forEach (rs.zipIdx) s fun s p =>
    let s1 := postWord s a p.1
    if p.1.status = 0 then
      let s2 := updOp s1 a r.ord.op fun e =>
        { e with energy := e.energy + p.1.energy, res := e.res ++ [(r.ord.idx + p.2, 0, [])] }
      let s3 := bandComplete (updBand s2 a r.ord.ctx fun b => { b with wrote := true }) a r.ord.ctx (r.ord.slot + p.2)
      updHeadCtr s3 r.ord.head fun c => { c with bytesWritten := ctrAdd c.bytesWritten 4096 }
    else if p.1.status = 1 then
      updBand (updWp s1 a fun w => { w with tornCnt := satInc 255 w.tornCnt }) a r.ord.ctx fun b =>
        { b with torn := b.torn + 1, wrote := true, complete := b.complete.filter (· ≠ r.ord.slot + p.2) }
    else s1

/-- End the run of actuator `a`: results posted, gate and assist low, FF learned, wear counted, and
the next run dispatched becomes the run in progress (R188 to R191, R200, R201, R208). -/
def closeRun (s : State) (a : Act) (cause : Nat) (tripped : Bool) (torn : Nat) : State :=
  match s.wps[a].run with
  | none => s
  | some r =>
    let h := r.ord.head
    let e := carryNj s.wheads[h].fj (r.ended.reverse.map (·.2) ++ [r.fj])
    let begun := sectorBegun s a r
    let rs := (List.range r.ord.count).map fun k =>
      { status := sectorStatus tripped torn begun r k, cause := cause, energy := min (e.1.getD k 0) 65535,
        psa := orderPsa s a r.ord k : WResult }
    let s1 := addEnergy (updWhead s h fun w => { w with fj := e.2 }) h e.1.sum
    let s2 := aeFall (postResults s1 a r rs) a
    let z := match bandOf s a r.ord.ctx with | some b => b.zone | none => 0
    let s3 := learnFF (updWp s2 a fun p => startNext
      { p with run := none, runActive := false, pairedWrite := false, buffer := [],
               order := if cause = 0 ∧ r.ord.last then none else p.order,
               lastCause := if cause = 0 then p.lastCause else cause,
               trip := p.trip || tripped,
               underrun := p.underrun || decide (cause = 0xB) }) a h z r.lawFrames
    afterRun s3 a r.ord

/-- The causes that have a re-open condition (R188). -/
def reopens (cause : Nat) : Bool := decide (cause ≠ 0 ∧ cause ≠ 0xB ∧ cause ≠ 0xC)

/-- Note the re-open condition of a cause. DEDUCED: "set anew after the trip" clears WRITE_READY and its
count with the trip (R188). -/
def addReopen (s : State) (a : Act) (cause : Nat) : State :=
  let s1 := updWp s a fun p =>
    { p with reopen := if reopens cause && !p.reopen.contains cause then p.reopen ++ [cause] else p.reopen }
  if cause = 1 ∨ cause = 2 then updAct s1 a fun x => { x with writeReady := false, wreadyRun := 0 } else s1

/-- The causes that block the writing head (R192). -/
def blocks (cause : Nat) : Bool := [0x3, 0x4, 0x5].contains cause

/-- A TWIN cause ends the pair: the rest of the band is written unpaired, from the descriptor's own
place where no slot of track 0 is COMPLETE yet (R206). -/
def unpair (s : State) (a : Act) (ctx : Nat) : State :=
  updBand (updWp s a fun p => { p with pairSkipped := true }) a ctx fun b =>
    let b1 := { b with pairedNow := false }
    if b.openTrack = 0 ∧ b.complete.length < slotsAt s b.desc.head (bandTrack b.desc 0) then
      { b1 with desc := { b.desc with firstTrack := b.orig.1, offset := b.orig.2 }, complete := [], wrote := false,
                zone := zoneAt (surfOf s b.desc.head) b.orig.1 }
    else b1

/-- The band context of the run in progress. -/
def runCtx (s : State) (a : Act) : Nat := match s.wps[a].run with | some r => r.ord.ctx | none => 16

/-- The open bands of a path that are written as a pair now. -/
def pairedCtxs (s : State) (a : Act) : List Nat :=
  (List.range 16).filter fun c => match bandOf s a c with | some b => b.pairedNow | none => false

/-- A trip cause (R188): clear gate and assist at once, settle the sectors, note the re-open
condition. The last `torn` sectors that ended lie in the suspect span. A cause that comes while the gate
is closed sets its re-open condition in the same way (R189), BLOCKED with it (R192). -/
def tripGate (s : State) (a : Act) (cause torn : Nat) : State :=
  let h := s.wps[a].sel
  let s1 := addReopen s a cause
  let s2 := if s.wps[a].ae then closeRun s1 a cause true torn else s1
  let s3 := if cause = 6 then forEach (pairedCtxs s a) s2 fun t c => unpair t a c else s2
  let s4 := if blocks cause then updWhead s3 h fun w => { w with blocked := true } else s3
  if cause = 1 ∧ s.wps[a].ae then updHeadCtr s4 h fun c => { c with posTrips := ctrAdd c.posTrips 1 } else s4

/-- A trip whose suspect span begins when the cause is declared (R190, last row). -/
def tripNow (s : State) (a : Act) (cause : Nat) : State := tripGate s a cause 0

/-- An orderly cause (R188): the gate closes at the end of the sector in progress. -/
def orderlyClose (s : State) (a : Act) (cause : Nat) : State :=
  let s1 := addReopen s a cause
  if s.wps[a].wg then
    updWp s1 a fun p => { p with run := p.run.map fun r =>
      { r with orderly := some (match r.orderly with | some c => c | none => cause) } }
  else s1

/-- An excursion with the sign of R193: positive toward the band's written tracks. -/
def towardWritten (dir : Bool) (exc : Int) : Int := if dir then exc else -exc

/-- The slots of the previous track that overlap the check interval of R193: first and last. The
interval runs from the start of the span, `windows` windows before the end of the last one, to the gate
close, DEDUCED to be R23's bound of 2.5 µs after that end, 625 ns wider on each side. -/
def squeezeSlots (s : State) (m : Strm) (b : Band) (windows : Nat) : Nat × Nat :=
  let st := s.streams[m]
  let c := cyclesAt (surfOf s b.desc.head) (bandTrack b.desc b.openTrack)
  let step := c * s.spn.meas * 256 * 625 / 480000000000
  let k := b.openTrack - 1
  let off := bandAngle s b.desc k * 256
  let n := c * 256
  let tc := (chzOf s b.desc.head b.zone).slotTc * 256
  let rel := fun x : Nat => (x + n - off % n) % n / tc
  (rel ((st.angle + n - step * (windows + 1) % n) % n), rel ((st.angle + step * 5) % n))

/-- R193: what a position trip records: WRP_TRIP, and SQZ_CHECK with its event. -/
def recordTrip (s : State) (a : Act) (windows : Nat) (exc : Int) : State :=
  match s.wps[a].run with
  | none => s
  | some r =>
    let b := bandOf s a r.ord.ctx
    let e := clampI (-1023) 1023 (towardWritten (match b with | some b => b.desc.dir | none => false) exc)
    let s1 := updWp s a fun p =>
      { p with tripHead := r.ord.head, maxExc := e, tripSlot := r.ord.slot + r.ended.length }
    match b, writingStream s a with
    | some b, some m =>
      if 0 < e ∧ (s.wps[a].par.lim.tSqz : Int) ≤ e ∧ 0 < b.openTrack then
        let sl := squeezeSlots s m b windows
        raise (updWp s1 a fun p => { p with sqzCheck := true }) .sqzCheck 2 0x08 a.val
          (r.ord.head.val + 256 * bandTrack b.desc (b.openTrack - 1)) sl.1 sl.2
      else s1
    | _, _ => s1

/-- The larger excursion in size. -/
def largerExc (a b : Int) : Int := if a.natAbs < b.natAbs then b else a

/-- The largest excursion of the samples from window `span` on; the last sample's where the span holds
none (R193). -/
def spanExc (g : Guard) (span : Nat) : Int :=
  match (g.excs.filter fun e => decide (span ≤ e.1)).map (·.2) with
  | [] => g.exc
  | e :: es => es.foldl largerExc e

/-- The window of the writing head that the next sample closes. -/
def runWin (s : State) (a : Act) : Nat := match s.wps[a].run with | some r => r.win | none => 0

/-- Sectors of the run in progress whose postamble ended in window `span` or later (R190). -/
def endedSince (s : State) (a : Act) (span : Nat) : Nat :=
  match s.wps[a].run with
  | some r => (r.ended.filter fun e => decide (span ≤ e.1)).length
  | none => 0

/-- A position trip of R78 (cause 0x1) whose suspect span begins with window `span` and holds the end of
the last `torn` sectors. -/
def positionTrip (s : State) (a : Act) (span torn : Nat) : State :=
  tripGate (recordTrip s a (runWin s a - span) (spanExc s.guards[a] span)) a 0x1 torn

/-- The write gate is open on a head. -/
def gateOpenOn (s : State) (h : Hd) : Bool := s.wps[actOf s h].wg && decide (s.wps[actOf s h].sel = h)

/-- A re-open condition of R188 is still pending for the selected head (R187, code 0xC). -/
def reopenPending (s : State) (a : Act) : Bool :=
  let h := s.wheads[s.wps[a].sel]
  s.wps[a].reopen.any fun c =>
    if c = 0x3 then h.blocked
    else if c = 0x4 then h.blocked || h.htrHold
    else if c = 0x5 then h.blocked || decide (s.plks[a].l.st ≠ .up)
    else if c = 0x6 then
      (match s.wps[a].run with
       | some r => (match bandOf s a r.ord.ctx with
          | some b => b.pairedNow && decide (s.acts[a].mode ≠ .twin)
          | none => false)
       | none => false)
    else if c = 0x7 then !s.spn.xferOk
    else if c = 0x8 then (match writingStream s a with | some m => s.streams[m].rateClamped | none => true)
    else if c = 0x9 then s.bw.inhibit
    else true

/-- Every actuator's gate closes on an orderly cause. -/
def orderlyAll (s : State) (cause : Nat) : State := forEach allActs s fun s a => orderlyClose s a cause

/-- XFER_OK as it now stands: a clear closes every gate in order (R131, R188). -/
def setXfer (s : State) (v : Bool) : State :=
  let s1 := updSpn s fun p => { p with xferOk := v }
  if s.spn.xferOk && !v then orderlyAll s1 0x7 else s1

/-! ### Spindle, shared -/

/-- All gates off (R116). -/
def gatesOffNow (s : State) : State :=
  { updSpn s fun p => { p with gatesOff := true, shortBrake := false } with
    pins := { s.pins with spgEn := 0 } }

/-- The stream that has held ANGLE_VALID longest (R122). -/
def longestAngle (s : State) : Option Strm :=
  (allStreams.filter fun m => s.streams[m].angleValid).foldl (fun b m =>
    match b with
    | none => some m
    | some k => if s.streams[m].angleSince < s.streams[k].angleSince then some m else some k) none

/-- R122: the stream of the index crossings changes only when it loses ANGLE_VALID; LKB_REF clears
at once when no stream holds it. -/
def revCheck (s : State) : State :=
  match s.spn.revStream with
  | none => s
  | some r =>
    if s.streams[r].angleValid then s
    else updSpn s fun p =>
      { p with revStream := longestAngle s, lkbRef := p.lkbRef && (longestAngle s).isSome, lastIndex := none }

/-- The streams of a parked actuator hold no angle (R122). -/
def angleLost (s : State) (a : Act) : State :=
  revCheck (updStream (updStream s (stream0 a) fun x => { x with angleValid := false })
    (stream1 a) fun x => { x with angleValid := false })

/-- A register request of the LX-4's own joins the power-stage link's requests while it is UP (R230, R238). -/
def pslWrite (s : State) (addr data : Nat) : State :=
  if s.psl.l.st = .up then
    updPsl s fun p => { p with l := { p.l with wait := p.l.wait ++ [{ write := true, addr := addr, data := data }] } }
  else s

/-- QUIESCENT: every block but supply supervision is held in reset, so the gates are off and WGa
and AEa low (R139, R459). -/
def quiesce (s : State) : State :=
  { gatesOffNow s with
    phase := .quiescent, wps := s.wps.map (fun w => { w with wg := false, ae := false }),
    sec := { s.sec with slots := [] } }

end Sys2Proof.Machine
end

