-- ==== Sys2Proof/Machine/Sector.lean ====
section
/-! DEFINITION. Sector: the information block, its check, scrambling, the LDPC code, the frame
written on the medium, and P and Q (R152 to R159, R243, R244). -/

namespace Sys2Proof.Machine

/-! ### Codes and frames -/

/-- Parity block columns P_B of a code option (R159). -/
def codePB (code : Nat) : Nat := 10 + 2 * (code % 4)
/-- Codeword length n (R159). -/
def codeN (code : Nat) : Nat := 33024 + 256 * codePB code
/-- Bits of a frame without its gap (R152). -/
def frameLen (code : Nat) : Nat := 128 + codeN code
/-- CLK_STRm cycles of one stream iteration (R159). -/
def iterLen (code : Nat) : Nat := 142 + code % 4

/-- A format is valid for a ratio: the slot holds the frame and 128 bits of gap (R161). -/
def formatValid (code slotTc : Nat) (q : Ratio) : Bool :=
  decide (0 < q.n) && decide (512 ≤ slotTc) && decide (slotTc ≤ 8191) &&
    decide ((frameLen code + 128) * q.m ≤ slotTc * q.n)

/-- The iteration budget B of a sector (R169). -/
def iterBudget (code slotTc : Nat) (q : Ratio) : Nat :=
  if q.m = 0 then 0 else slotTc * q.n / q.m / 8 / iterLen code - 1

/-! ### Information block (R154 to R156) -/

/-- Header bits 63:0: where the sector lies (R154). -/
def headerLow (psa : BitVec 40) (gen : Nat) (parity : Bool) : Nat :=
  packF [(0, 40, psa.toNat), (40, 21, gen), (61, 1, b2n parity), (62, 2, 1)]

/-- Header bits 95:64: what the sector holds (R154). -/
def headerHigh (unreadable : Bool) (pifmt keyslot : Nat) : Nat :=
  packF [(19, 1, b2n unreadable), (20, 2, pifmt), (22, 10, keyslot)]

/-- The information block of a PSA, a GEN and 4,116 berth-protected bytes, CHECK computed (R154, R156). -/
def infoBlock (psa : BitVec 40) (gen : Nat) (parity : Bool) (protected_ : List Byte) : List Byte :=
  let h := leBytes 8 (headerLow psa gen parity) ++ protected_.take 4
  let rest := (protected_.drop 4).take 4112
  h ++ leBytes 4 (crc32c (h ++ rest)).toNat ++ rest

/-- The berth-protected bytes of an information block: header bytes 8 to 11, payload, protection field. -/
def protectedOf (blk : List Byte) : List Byte := (blk.drop 8).take 4 ++ (blk.drop 16).take 4112

/-- A field of the header's low or high half. -/
def hdr (blk : List Byte) (lo w : Nat) : Nat := fld (leNat (blk.take 16)) lo w

/-- CHECK holds (R156). -/
def checkOk (blk : List Byte) : Bool :=
  decide (hdr blk 96 32 = (crc32c (blk.take 12 ++ (blk.drop 16).take 4112)).toNat)

/-- The sector is a P or Q sector. -/
def isParity (blk : List Byte) : Bool := decide (hdr blk 61 1 = 1)
/-- The sector was written deliberately unreadable (R178); without meaning under PARITY. -/
def isUnreadable (blk : List Byte) : Bool := !isParity blk && decide (hdr blk 83 1 = 1)

/-- Berth-protected bytes from what a data sector holds (R154, R155). -/
def protectedBytes (unreadable : Bool) (pifmt keyslot : Nat) (payload pi : List Byte) : List Byte :=
  leBytes 4 (headerHigh unreadable pifmt keyslot) ++ payload ++ pi

/-- The protection field of PIFMT 0b00 (R155). -/
def pi00 (lba nsid : Nat) : List Byte := leBytes 8 lba ++ leBytes 4 nsid ++ leBytes 4 0

/-- A filler sector's berth-protected bytes (R244). -/
def fillerBytes : List Byte := List.replicate 4116 0

/-! ### Scrambling and the LDPC encoder (R157, R158) -/

/-- The bits of a byte list, byte 0 first, bit 0 of each byte first (R153). -/
def bitsOf (bs : List Byte) : List Bool := bs.flatMap fun b => (List.range 8).map fun i => b.getLsbD i

/-- The scrambling sequence: `n` bits from the register s (R157). -/
def scrambleSeq : Nat → BitVec 31 → List Bool
  | 0, _ => []
  | n + 1, s =>
    let q := s.getLsbD 30 != s.getLsbD 27
    q :: scrambleSeq n ((s <<< 1) ||| (if q then 1#31 else 0#31))

/-- The seed of a PSA (R157). -/
def scrambleSeed (track slot : Nat) : BitVec 31 := BitVec.ofNat 31 ((track * 2048 + slot) % (2 ^ 31 - 1) + 1)

/-- A 256-bit block read with a circulant of shift σ: bit t is bit (t + σ) mod 256 (R158). -/
def circ (sh : Nat) (v : BitVec 256) : BitVec 256 := v.rotateRight (sh % 256)

/-- Block rows and shifts of information column j (R158). -/
def infoBlocks (pb j : Nat) : List (Nat × Nat) :=
  (List.range 4).map fun k =>
    let row := (j + k * ((pb + 3) / 4)) % pb
    (row, (29 * (j + 1) * (k + 1) + 7 * row) % 256)

/-- The information columns, 129 blocks of 256 bits. -/
def infoCols (blk : List Byte) : List (BitVec 256) :=
  (List.range 129).map fun j => BitVec.ofNat 256 (leNat ((blk.drop (32 * j)).take 32))

/-- v_r: the sum of the information blocks of block row r (R158). -/
def rowSum (pb r : Nat) (cols : List (BitVec 256)) : BitVec 256 :=
  cols.zipIdx.foldl (fun acc c =>
    (infoBlocks pb c.2).foldl (fun a b => if b.1 = r then a ^^^ circ b.2 c.1 else a) acc) 0

/-- The parity blocks, from block row r on, after parity block `prev` (R158). -/
def parityBlocks (pb : Nat) (cols : List (BitVec 256)) : Nat → Nat → BitVec 256 → List (BitVec 256)
  | 0, _, _ => []
  | n + 1, r, prev =>
    let p := rowSum pb r cols ^^^ prev
    p :: parityBlocks pb cols n (r + 1) p

/-- The codeword of an information block (R158). -/
def codeword (code : Nat) (blk : List Byte) : List Bool :=
  bitsOf blk ++ (parityBlocks (codePB code) (infoCols blk) (codePB code) 0 0).flatMap fun p =>
    (List.range 256).map fun i => p.getLsbD i

/-- 0b0011 repeated, bit 0 first (R152). -/
def preamble (n : Nat) : List Bool := (List.range n).map fun i => decide (i % 4 < 2)

/-- The sync mark 0xE7A1_2D9B, bit 0 first (R152). -/
def syncMark : List Bool := (List.range 32).map fun i => bitAt 0xE7A12D9B i

/-- The frame written for an information block, without the gap (R152, R157). -/
def sectorFrame (code track slot : Nat) (blk : List Byte) : List Bool :=
  let c := codeword code blk
  preamble 64 ++ syncMark ++
    (c.zip (scrambleSeq c.length (scrambleSeed track slot))).map (fun p => p.1 != p.2) ++ preamble 32

/-! ### GF(2^8), P and Q (R243) -/

/-- Multiplication by g = 0x02 under 0x11D. -/
def gfDouble (a : Byte) : Byte := if a.msb then (a <<< 1) ^^^ 0x1D#8 else a <<< 1

/-- Multiplication, over the low `n` bits of `b`. -/
def gfMulN : Nat → Byte → Byte → Byte
  | 0, _, _ => 0
  | n + 1, a, b => (if b.getLsbD 0 then a else 0) ^^^ gfMulN n (gfDouble a) (b >>> 1)

/-- Multiplication in GF(2^8). -/
def gfMul (a b : Byte) : Byte := gfMulN 8 a b

/-- g to the power `r`. -/
def gfPow (r : Nat) : Byte := Nat.repeat gfDouble r 1#8

/-- The inverse, a^254. -/
def gfInv (a : Byte) : Byte := Nat.repeat (gfMul a) 253 a

/-- Bytes combined position by position, the shorter one read as zero beyond its end. -/
def xorBytes : List Byte → List Byte → List Byte
  | [], bs => bs
  | as, [] => as
  | a :: as, b :: bs => (a ^^^ b) :: xorBytes as bs

/-- Bytes times a constant. -/
def scaleBytes (k : Byte) (bs : List Byte) : List Byte := bs.map (gfMul k)

/-- P of the data roles (R243). -/
def parityP (ds : List (List Byte)) : List Byte := ds.foldl xorBytes []

/-- Q of the data roles, role 0 first (R243). -/
def parityQ (ds : List (List Byte)) : List Byte :=
  ds.zipIdx.foldl (fun acc d => xorBytes acc (scaleBytes (gfPow d.2) d.1)) []

/-- The sum of the known data roles, and the weighted sum. -/
def knownSums (known : List (Nat × List Byte)) : List Byte × List Byte :=
  (known.foldl (fun a d => xorBytes a d.2) [],
   known.foldl (fun a d => xorBytes a (scaleBytes (gfPow d.1) d.2)) [])

/-- Reconstruct the berth-protected bytes of role `want` from surviving (role, bytes); roles D and
D + 1 are P and Q (R243, R279). `none` where more is erased than the survivors bear. -/
def reconstruct (d k want : Nat) (have_ : List (Nat × List Byte)) : Option (List Byte) :=
  let known := have_.filter fun e => e.1 < d
  let missing := (List.range d).filter fun r => !known.any fun e => e.1 = r
  let p := (have_.find? fun e => e.1 = d).map (·.2)
  let q := if k = 2 then (have_.find? fun e => e.1 = d + 1).map (·.2) else none
  let sums := knownSums known
  let data : Option (List (Nat × List Byte)) := match missing, p, q with
    | [], _, _ => some []
    | [r], some p, _ => some [(r, xorBytes p sums.1)]
    | [r], none, some q => some [(r, scaleBytes (gfInv (gfPow r)) (xorBytes q sums.2))]
    | [r, t], some p, some q =>
      let a := xorBytes p sums.1
      let b := xorBytes q sums.2
      let dr := scaleBytes (gfInv (gfPow r ^^^ gfPow t)) (xorBytes b (scaleBytes (gfPow t) a))
      some [(r, dr), (t, xorBytes a dr)]
    | _, _, _ => none
  match data with
  | none => none
  | some extra =>
    let all := known ++ extra
    if want < d then (all.find? fun e => e.1 = want).map (·.2)
    else
      let rows := (List.range d).map fun r => ((all.find? fun e => e.1 = r).map (·.2)).getD []
      some (if want = d then parityP rows else parityQ rows)

end Sys2Proof.Machine
end

