-- ==== Sys2Proof/Machine/Lakebed.lean ====
section
/-! DEFINITION. Lakebed: position samples, address words, the tone clock, acquisition, the position
guard and the lakebed messages (chapter 3, R22, R438). -/

namespace Sys2Proof.Machine

/-! ### Line magnitudes and the position in the two-track cycle (R62 to R65) -/

/-- A segment of 8 tone cycles lies within one address symbol (R63). -/
def segCounts (g : Segment) : Bool := decide (g.ends.val = 0) || decide (8 ≤ g.ends.val)

/-- The segments of the input that RDSEL selects that contribute to the sample (R62, R63). -/
def windowSegs (rdsel : Nat) (x : PosSample) : List Segment :=
  (x.segs[(⟨rdsel % 3, Nat.mod_lt _ (by decide)⟩ : Fin 3)]).filter segCounts

/-- The sum of a segment's line magnitudes. -/
def segSum (g : Segment) : Nat := g.a + g.b + g.c + g.d

/-- AMP: the mean sum of the line magnitudes over the window, 0 where no segment counts. -/
def windowAmp (gs : List Segment) : Nat := (gs.map segSum).sum / (256 * max gs.length 1)

/-- The line magnitudes stayed at or above AMP_MIN throughout the window (R67). -/
def ampHeld (ampMin : Nat) (gs : List Segment) : Bool :=
  decide (gs ≠ []) && gs.all fun g => decide (ampMin * 256 ≤ segSum g)

/-- A ratio p1 or p2 in 1/512: (x - y) / (x + y), none where both lines are absent (R64). -/
def lineRatio (x y : Nat) : Option Int :=
  if x + y = 0 then none else some (((x : Int) - y) * 512 / ((x + y : Nat) : Int))

/-- The quadrature segment of the signs of p1 and p2: A and D, A and C, B and C, B and D (R60, R64).
DESIGN CHOICE: a ratio of 0 counts as positive. -/
def quadSegment (p1 p2 : Int) : Nat :=
  if 0 ≤ p1 then (if 0 ≤ p2 then 1 else 0) else (if 0 ≤ p2 then 2 else 3)

/-- The fine offset within a quadrature segment, 0 to 512 units, from the ratio nearer its null: p1 is
null at the start of segments 0 and 2 and p2 at that of 1 and 3 (R60, R64). DESIGN CHOICE: a ratio of
one half-track's full coverage is 512 units. -/
def fineOffset (p1 p2 : Int) : Nat :=
  let z := quadSegment p1 p2
  let atStart := if z % 2 = 0 then p1.natAbs else p2.natAbs
  let atEnd := if z % 2 = 0 then p2.natAbs else p1.natAbs
  if atStart ≤ atEnd then min atStart 512 else 512 - min atEnd 512

/-- The head's linearisation table: entry `k` of a segment is the offset in position units for the
k-th of 64 equal steps of the raw offset (R64). DESIGN CHOICE: no interpolation between entries, and
a head without a table takes the raw offset. -/
def linearised (lin : List Int) (z raw : Nat) : Int := lin.getD (64 * z + min (raw / 8) 63) raw

/-- The position within the two-track cycle, 0 to 2,047 units (R64); none where no line is measured. -/
def cyclePos (lin : List Int) (gs : List Segment) : Option Nat :=
  match lineRatio (gs.map (·.a)).sum (gs.map (·.b)).sum, lineRatio (gs.map (·.c)).sum (gs.map (·.d)).sum with
  | some p1, some p2 =>
    some ((512 * (quadSegment p1 p2 : Int) + linearised lin (quadSegment p1 p2) (fineOffset p1 p2)) % 2048).toNat
  | _, _ => none

/-! ### Position samples (R65 to R67) -/

/-- Fields of a prediction word (R92). -/
def predSeq (w : BitVec 64) : Nat := fld w.toNat 60 4
/-- VEL of a prediction word. -/
def predVelOf (w : BitVec 64) : Nat := fld w.toNat 34 16
/-- POS of a prediction word. -/
def predPos (w : BitVec 64) : Int := ofPat 34 (fld w.toNat 0 34)

/-- R65: the position of the two-track cycle nearest the prediction. DESIGN CHOICE: of two equally
near, the higher. -/
def nearestCycle (u : Nat) (p : Int) : Int :=
  (u : Int) + 2048 * ((p - u + 1024) / 2048)

/-- R67: a sample word from its fields. -/
def sampleWord (valid fine lock stale : Bool) (seq amp age : Nat) (resid pos : Int) : BitVec 64 :=
  BitVec.ofNat 64 (packF [(63, 1, b2n valid), (62, 1, b2n fine), (61, 1, b2n lock), (60, 1, b2n stale),
    (56, 4, seq), (48, 8, min amp 255), (44, 4, age), (34, 10, toPat 10 resid), (0, 34, toPat 34 pos)])

/-- VALID of a sample word. -/
def smpValid (w : BitVec 64) : Bool := w.getLsbD 63
/-- FINE of a sample word. -/
def smpFine (w : BitVec 64) : Bool := w.getLsbD 62
/-- RES_STALE of a sample word. -/
def smpStale (w : BitVec 64) : Bool := w.getLsbD 60
/-- SEQ of a sample word. -/
def smpSeq (w : BitVec 64) : Nat := fld w.toNat 56 4
/-- RESID of a sample word. -/
def smpResid (w : BitVec 64) : Int := ofPat 10 (fld w.toNat 34 10)
/-- POS of a sample word. -/
def smpPos (w : BitVec 64) : Int := ofPat 34 (fld w.toNat 0 34)

/-- R66: fine mode for the window. It is entered on three conditions and left only on the predicted
velocity or on two saturated residuals. -/
def fineMode (st : Stream) (vFine : Nat) (arrived : Bool) (vel : Nat) : Bool :=
  if st.fine then decide (vel ≤ vFine) && decide (st.residSat < 2)
  else st.trackValid && decide (vel ≤ vFine) && arrived

/-- The track counter moves to `t`: at a seam ANGLE_VALID clears, in another zone its ratio waits
(R69, R73). -/
def moveTrack (sf : Surface) (t : Nat) (x : Stream) : Stream :=
  let crossed := decide (wprAt sf t ≠ wprAt sf x.track)
  { x with track := t, seam := seamAt sf t
           wpr := if crossed then wprAt sf t else x.wpr
           angleValid := x.angleValid && !crossed
           ratioPend := x.ratioPend || (x.trackValid && decide (zoneAt sf t ≠ x.zone)) }

/-- The prediction for window `seq`, if it arrived: one whose SEQ is another is not used (R92). -/
def predFor (st : Stream) (seq : Nat) : Option (BitVec 64) := st.preds.find? fun w => decide (predSeq w = seq)

/-- The predictions for windows after `seq`: the others are used or discarded (R92). -/
def predsAfter (st : Stream) (seq : Nat) : List (BitVec 64) :=
  st.preds.filter fun w => decide (0 < (predSeq w + 16 - seq) % 16 ∧ (predSeq w + 16 - seq) % 16 < 8)

/-- The stream's side of one sample window: the sample word and what follows from it (R62 to R73), with
`u` the position in the two-track cycle. DEDUCED: VALID asks for lock and amplitude throughout the
window. DESIGN CHOICE: the window in which the TRACK field ended counts in AGE, so its AGE is 1. -/
def sampleStream (sf : Surface) (d : Demod) (x : PosSample) (u : Nat) (st : Stream) : Stream :=
  let gs := windowSegs d.rdsel x
  let seq := (st.seq + 1 + x.lost) % 16
  let arrived := (predFor st seq).isSome
  let p := (predFor st seq).getD st.lastPred
  let vel := predVelOf p
  let fine := fineMode st d.vFine arrived vel
  let low := !ampHeld d.ampMin gs
  let valid := st.toneLock && st.lockAll && !low
  let age := min (st.age + 1) 15
  let pos : Int := if fine then nearestCycle u (predPos p) else (st.lastField : Int) * 1024
  let resid := clampI (-511) 511 (pos - predPos p)
  let track := if !st.trackValid then st.track
    else if fine then (if valid then trackOfPos pos else st.track) else st.lastField
  let c := st.wpr * 2560 * 256
  moveTrack sf track { st with
      sample := sampleWord valid fine st.toneLock (!arrived) seq (windowAmp gs) (if fine then 0 else age) resid pos
      seq := seq, fresh := true, preds := predsAfter st seq, lastPred := p, predVel := vel
      fine := fine, age := age, ampLow := st.ampLow || low, lockAll := st.toneLock
      acqStep := if st.acqStep = 3 ∧ valid then 4 else st.acqStep
      residSat := if fine && decide (resid = 511 ∨ resid = -511) then min (st.residSat + 1) 2 else 0
      angle := (st.angle + x.cycles) % c }

/-- The position within the two-track cycle that a sample shows, free where no line is measured, and
the state after it. -/
def samplePos (s : State) (h : Hd) (x : PosSample) : Nat × State :=
  match cyclePos s.heads[h].lin (windowSegs s.heads[h].demod.rdsel x) with
  | some u => (u, s)
  | none => ((takeFree s).1 % 2048, (takeFree s).2)

/-! ### Position guard (R78) -/

/-- A SEQ that shows a gap: not one greater than the last sample's, a single missing sample apart,
which never trips (R22, R78). -/
def seqGap (g : Guard) (w : BitVec 64) : Bool :=
  match g.lastSeq with
  | some q => decide (smpSeq w ≠ (q + 1) % 16 ∧ smpSeq w ≠ (q + 2) % 16)
  | none => false

/-- |RESID| above T_RES. -/
def residHigh (g : Guard) (w : BitVec 64) : Bool := decide (g.cfg.tRes < (smpResid w).natAbs)

/-- The guard condition a sample of the writing head meets: how many windows before this one its
suspect span begins (R78, R190). RES_STALE and SEQ are judged on every sample; the position, the
residual and FINE only where VALID = 1, because a single sample with VALID = 0 does not trip (R22). -/
def guardSpan (g : Guard) (w : BitVec 64) (seam : Bool) : Option Nat :=
  if (smpValid w && decide (1 ≤ g.residRun) && residHigh g w) || (decide (1 ≤ g.staleRun) && smpStale w) then some 1
  else if seqGap g w then some 0
  else if smpValid w && (decide (g.cfg.tOt < (smpPos w - g.writeTarget).natAbs) || !smpFine w || seam) then some 0
  else none

/-- The guard's counts after a sample. -/
def guardCount (g : Guard) (w : BitVec 64) (win : Nat) : Guard :=
  { g with lastSeq := some (smpSeq w)
           residRun := if smpValid w && residHigh g w then min (g.residRun + 1) 2 else 0
           staleRun := if smpStale w then min (g.staleRun + 1) 2 else 0
           lastValid := if smpValid w then win else g.lastValid
           exc := if smpValid w then smpPos w - g.writeTarget else g.exc
           excs := if smpValid w then ((win, smpPos w - g.writeTarget) :: g.excs).take 256 else g.excs }

/-- Guard thresholds written take effect at the next sample strobe (R77). -/
def latchGuard (g : Guard) : Guard := { g with cfg := g.pend.getD g.cfg, pend := none }

/-- The guard judges one sample of actuator `a`'s writing head (R78). -/
def guardSample (s : State) (a : Act) (w : BitVec 64) (seam : Bool) : State :=
  let span := guardSpan s.guards[a] w seam
  let s1 := updWp (updGuard s a fun g => guardCount g w (runWin s a)) a fun p =>
    { p with run := p.run.map fun r => { r with win := r.win + 1 } }
  match span with
  | some k => positionTrip s1 a (runWin s a - k) (endedSince s a (runWin s a - k))
  | none => s1

/-- The read-position flag of the sector in progress (R79). -/
def flagRead (s : State) (m : Strm) (w : BitVec 64) : State :=
  let c := s.chn[m]
  match c.cur with
  | some _ =>
    let tRd := s.guards[actOfStream m].cfg.tRd
    if c.readGate && (decide ((tRd : Int) < (smpPos w - c.curTarget).natAbs) || !smpValid w || !smpFine w) then
      updChn s m fun c => { c with flagged := true }
    else s
  | none => s

/-! ### Lakebed verification (R528) -/

/-- One revolution of a followed track is over: the track is accepted, or rejected and recorded with the drive
configuration. -/
def judgeTrack (s : State) (m : Strm) (t : Nat) : State :=
  let st := s.streams[m]
  let sf : Fin 32 := ⟨s.heads[st.head].surface % 32, Nat.mod_lt _ (by decide)⟩
  let was := s.surfaces[sf].rejected
  let bad := st.followBad || decide (4 < st.followCrc)
  let now := if bad then (if was.contains t then was else was ++ [t]) else was.filter (· ≠ t)
  let s1 := updNv { s with surfaces := vupd s.surfaces sf fun x => { x with rejected := now } }
    fun n => { n with rejected := vupd n.rejected sf fun _ => now }
  let s2 := updStream s1 m fun x => { x with followBad := false, followCrc := 0, followCyc := 0 }
  if bad && !was.contains t then raise s2 (.numbered 0xF807) 1 0x12 0 st.head.val t 1 else s2

/-- Step F4 of manufacture: a track followed since acquisition is watched for one revolution. DESIGN CHOICE (log entry
210): in MANUFACTURE every whole revolution on one lakebed track is such a step. -/
def verifyTrack (m : Strm) (cycles : Nat) (s : State) : State :=
  let st := s.streams[m]
  if s.sec.life ≠ .manufacture then s
  else if !(st.trackValid && decide (st.acqStep = 5)) then updStream s m fun x => { x with follow := none }
  else if st.follow ≠ some st.track then
    updStream s m fun x => { x with follow := some st.track, followBad := !smpValid st.sample, followCrc := 0, followCyc := 0 }
  else
    let s1 := updStream s m fun x =>
      { x with followBad := x.followBad || !smpValid x.sample, followCyc := x.followCyc + cycles }
    if st.wpr * 2560 * 256 ≤ s1.streams[m].followCyc then judgeTrack s1 m st.track else s1

/-- POSITION_SAMPLE_ARRIVAL: the stream forms its sample word and the guard judges it (R64 to R67,
R78, R79). -/
def positionSample (m : Strm) (x : PosSample) (s : State) : State :=
  let st := s.streams[m]
  if powered s && st.selected then
    let u := samplePos s st.head x
    let s1 := verifyTrack m x.cycles
      (revCheck (updStream u.2 m (sampleStream (surfOf s st.head) s.heads[st.head].demod x u.1)))
    let w := s1.streams[m].sample
    let s2 := updChn (flagRead s1 m w) m (gateTravel x.cycles)
    if gateOpenOn s2 st.head then guardSample s2 (actOfStream m) w s1.streams[m].seam else s2
  else s

def execPositionSampleArrival (m : Strm) (x : PosSample) (s : State) : Host.Outcome State Fault Refusal :=
  .next (positionSample m x s)

/-- GUARD_GAP_TIMEOUT: no valid sample of the writing head within T_GAP (R22); the span begins with the
window after the last valid one (R190). -/
def execGuardGapTimeout (a : Act) (s : State) : Host.Outcome State Fault Refusal :=
  .next (if powered s && s.wps[a].wg then
      positionTrip s a (s.guards[a].lastValid + 1) (endedSince s a (s.guards[a].lastValid + 1))
    else s)

/-! ### Address words (R61, R68) -/

/-- Binary number of a binary-reflected Gray code word of `n` bits. -/
def grayDecode : Nat → Nat → Nat
  | 0, _ => 0
  | n + 1, g => let r := grayDecode n (g / 2); 2 * r + (g % 2 + r % 2) % 2

/-- CRC of an address word: bits 63:36 taken from bit 36 upward (R61). -/
def wordCrc (w : BitVec 80) : BitVec 16 :=
  crcBits 0x1021#16 0xFFFF#16 ((List.range 28).map fun k => w.getLsbD (36 + k))

/-- The CRC field agrees. -/
def wordCrcOk (w : BitVec 80) : Bool := decide (w.extractLsb' 64 16 = wordCrc w)

/-- The word begins with SYNC (R61): what does not is no address word. -/
def wordSync (w : BitVec 80) : Bool := decide (fld w.toNat 0 12 = 0xE2D)

/-- SURFACE of a word. -/
def wordSurface (w : BitVec 80) : Nat := fld w.toNat 36 5
/-- FORMAT is 0b001. -/
def wordFormatOk (w : BitVec 80) : Bool := decide (fld w.toNat 59 3 = 1)
/-- WPR of a word. -/
def wordWpr (w : BitVec 80) : Nat := fld w.toNat 50 9
/-- The angle at which a word begins, 1/256 tone cycle. -/
def wordAngle (w : BitVec 80) : Nat := fld w.toNat 41 9 * 2560 * 256

/-- The TRACK field as read: in fine mode, of two readings the one with the quadrature's parity (R66). -/
def wordTrack (fine : Bool) (w : BitVec 80) (f : WordFacts) : Nat :=
  let t := grayDecode 24 (fld w.toNat 12 24)
  match f.alt with
  | some g => if fine && decide (t % 2 ≠ b2n f.odd) then grayDecode 24 g else t
  | none => t

/-- A slip or a wrong identity word while a track is being verified: the track it leaves the stream on is not
accepted (R528). -/
def followSlip (x : Stream) : Stream := { x with follow := x.follow.map fun _ => x.track, followBad := true }

/-- A guard trip that an address word shows: the span begins with the word, `f.windows` windows back
(R190). -/
def wordTrip (s : State) (a : Act) (f : WordFacts) : State := positionTrip s a (runWin s a - f.windows) f.ended

/-- A TRACK field read and not refused is the most recent one (R67); in coarse mode the track counter
follows it (R68, R69). -/
def noteField (s : State) (m : Strm) (t : Nat) : State :=
  updStream s m fun x =>
    let y := { x with lastField := t, age := 0 }
    if x.trackValid && !x.fine then moveTrack (surfOf s x.head) t { y with disTrack := none } else y

/-- What a TRACK field does while tracks are held (R68, first two rows). -/
def trackField (m : Strm) (t : Nat) (f : WordFacts) (s : State) : State :=
  let st := s.streams[m]
  let d : Int := (t : Int) - ((st.track : Int) + f.dTrack)
  if !st.fine then s
  else if d = 0 then updStream s m fun x => { x with disTrack := none }
  else if gateOpenOn s st.head then wordTrip s (actOfStream m) f
  else if st.disTrack = some d then
    raise (updStream s m fun x => followSlip
      (moveTrack (surfOf s st.head) ((st.track : Int) + d).toNat { x with trackSlip := true, disTrack := none }))
      .trackSlip 2 0x04 m.val t
  else updStream s m fun x => { x with disTrack := some d, trackDisCnt := satInc 7 x.trackDisCnt }

/-- How far a word's angle stands from the angle counter, 1/256 tone cycle, nearest way round (R68). -/
def angleOff (c angle since wordAngle : Nat) : Int :=
  let d := (wordAngle + since + c - angle % c) % c
  if d * 2 ≤ c then (d : Int) else (d : Int) - c

/-- Two angles agree. DEDUCED: within half a tone cycle. -/
def anglesAgree (d e : Int) : Bool := decide ((d - e).natAbs < 128)

/-- The angle counter loads from a word (R68, R69, R76). -/
def loadAngle (w : BitVec 80) (f : WordFacts) (us : Nat) (x : Stream) : Stream :=
  { x with angle := (wordAngle w + f.since) % (wordWpr w * 2560 * 256), wpr := wordWpr w,
           angleSince := if x.angleValid then x.angleSince else us, angleValid := true, disAngle := none }

/-- What the angle fields of a good-CRC word do (R68, R69, R71). -/
def angleField (m : Strm) (w : BitVec 80) (f : WordFacts) (s : State) : State :=
  let st := s.streams[m]
  let d := angleOff (st.wpr * 2560 * 256) st.angle f.since (wordAngle w)
  let same := match st.disAngle with
    | some e => anglesAgree d e.1 && decide (wordWpr w = e.2)
    | none => false
  if !st.angleValid then updStream s m (loadAngle w f s.us)
  else if anglesAgree d 0 && decide (wordWpr w = st.wpr) then updStream s m fun x => { x with disAngle := none }
  else if gateOpenOn s st.head then wordTrip s (actOfStream m) f
  else if same then
    raise (updStream s m fun x => followSlip { loadAngle w f s.us x with angleSlip := true }) .angleSlip 2 0x04 m.val
  else updStream s m fun x => { x with disAngle := some (d, wordWpr w), angleDisCnt := satInc 255 x.angleDisCnt }

/-- A SURFACE or FORMAT fault with the write gate closed (R68): the bit, the event and the refusal of
gates. -/
def identityFault (m : Strm) (ev : Ev) (set : Stream → Stream) (s : State) : State :=
  raise (updHeadRec (updStream s m fun x => followSlip { set x with refused := true }) s.streams[m].head fun r =>
      if r.surfNow then r else { r with surfNow := true, surfFails := satInc 2 r.surfFails })
    ev 2 0x04 m.val s.streams[m].head.val

/-- SURFACE differs from the surface mapped to the stream's head (R68). -/
def surfaceWrong (s : State) (m : Strm) (w : BitVec 80) : Bool :=
  decide (wordSurface w ≠ s.heads[s.streams[m].head].surface)

/-- Both identity rows of R68 with the write gate closed. -/
def identityFaults (m : Strm) (w : BitVec 80) (s : State) : State :=
  let s1 := if surfaceWrong s m w then
      identityFault m .surfMismatch (fun x => { x with surfMismatch := true }) s
    else s
  if wordFormatOk w then s1 else identityFault m .formatErr (fun x => { x with formatErr := true }) s1

/-- Step 4 of acquisition succeeds with this word (R76). -/
def acquireWord (s : State) (m : Strm) (w : BitVec 80) (f : WordFacts) : Bool :=
  decide (s.streams[m].acqStep = 4) && !surfaceWrong s m w && wordFormatOk w &&
    decide (grayDecode 24 (fld w.toNat 12 24) % 2 = b2n f.odd)

/-- Step 5 of acquisition: the counters load and any refusal of R68 ends (R68, R76). DESIGN CHOICE: the
ratio of the zone loads with them, before any gate can be open, and ZONE_SETTLE stays 0. -/
def loadCounters (s : State) (m : Strm) (w : BitVec 80) (f : WordFacts) : State :=
  let h := s.streams[m].head
  let t := grayDecode 24 (fld w.toNat 12 24)
  let sf := surfOf s h
  updHeadRec (updStream s m fun x =>
    { loadAngle w f s.us x with
        track := t, lastField := t, trackValid := true, acqStep := 5, refused := false, age := 0,
        seam := seamAt sf t, disTrack := none,
        zone := zoneAt sf t, ratio := s.heads[h].ratio[zoneAt sf t], ratioPend := false, zoneSettle := false }) h
    fun r => { r with acqFails := 0 }

/-- A ring of which track `t` is part: its first lakebed track is the lowest one seen with its WPR. -/
def learnRing (rs : List (Nat × Nat)) (t wpr : Nat) : List (Nat × Nat) :=
  let first := match rs.find? fun r => decide (r.2 = wpr) with | some r => min r.1 t | none => t
  let rest := rs.filter fun r => decide (r.2 ≠ wpr)
  rest.filter (fun r => decide (r.1 < first)) ++ (first, wpr) :: rest.filter fun r => decide (first < r.1)

/-- R528: manufacture takes the ring boundaries from the WPR fields and records them with the drive
configuration. -/
def recordRing (s : State) (m : Strm) (t : Nat) (w : BitVec 80) : State :=
  if s.sec.life ≠ .manufacture ∧ s.sec.life ≠ .ret then s
  else
    let sf : Fin 32 := ⟨wordSurface w % 32, Nat.mod_lt _ (by decide)⟩
    let rs := learnRing (surfOf s s.streams[m].head).rings t (wordWpr w)
    updNv { s with surfaces := vupd s.surfaces sf fun x => { x with rings := rs } }
      fun n => { n with rings := vupd n.rings sf fun _ => rs }

/-- A word with a good CRC, SURFACE and FORMAT right (R68, R69, R76, R528). -/
def goodWord (m : Strm) (w : BitVec 80) (f : WordFacts) (s : State) : State :=
  let st := s.streams[m]
  if acquireWord s m w f then
    let t := grayDecode 24 (fld w.toNat 12 24)
    recordRing (loadCounters s m w f) m t w
  else if st.trackValid then
    let t := wordTrack st.fine w f
    let s1 := trackField m t f (noteField s m t)
    if gateOpenOn s st.head && !gateOpenOn s1 st.head then s1
    else recordRing (angleField m w f s1) m t w
  else s

/-- ADDRESS_WORD_DECODED (R61, R66, R68, R69, R76). A word whose CRC fails has no effect while the
head's write gate is open. DESIGN CHOICE: with the gate closed its TRACK field, which the CRC does not
cover, is still taken and compared. DEDUCED: the other fields of a word whose FORMAT is not 0b001 are
not compared. -/
def addressWord (m : Strm) (w : BitVec 80) (f : WordFacts) (s : State) : State :=
  let st := s.streams[m]
  let open_ := gateOpenOn s st.head
  if !(powered s && st.selected && st.toneLock && wordSync w) then s
  else if !wordCrcOk w then
    if open_ then s
    else
      let s1 := updStream s m fun x => { x with crcErrCnt := satInc 255 x.crcErrCnt, followCrc := x.followCrc + 1 }
      if st.trackValid then
        let t := wordTrack st.fine w f
        trackField m t f (noteField s1 m t)
      else s1
  else if surfaceWrong s m w || !wordFormatOk w then
    if open_ then wordTrip s (actOfStream m) f
    else
      let s1 := identityFaults m w s
      if wordFormatOk w && st.trackValid then
        let t := wordTrack st.fine w f
        angleField m w f (trackField m t f (noteField s1 m t))
      else s1
  else goodWord m w f s

def execAddressWordDecoded (m : Strm) (w : BitVec 80) (f : WordFacts) (s : State) : Host.Outcome State Fault Refusal :=
  .next (addressWord m w f s)

/-! ### Tone lock, holdover, acquisition (R70, R71, R76) -/

/-- TONE_LOCK_DECLARED: lock returns or acquisition step 2 ends; after ACQ_FAIL the stream stays idle
(R70, R71, R76). -/
def execToneLockDeclared (m : Strm) (s : State) : Host.Outcome State Fault Refusal :=
  .next (if powered s && s.streams[m].selected && !s.streams[m].toneLock then revCheck <| updStream s m fun x =>
      let y := { x with toneLock := true, lockAll := false, holdover := false }
      if x.lost then { y with acqStep := 3, trackValid := false, angleValid := false, fine := false }
      else { y with acqStep := if x.acqStep = 2 then 3 else x.acqStep }
    else s)

/-- TONE_LOCK_LOST: the synthesiser enters holdover (R70, R71). A sector in progress has lost its clock
(R164). -/
def execToneLockLost (m : Strm) (s : State) : Host.Outcome State Fault Refusal :=
  .next (if powered s && s.streams[m].toneLock then
      updChn (updStream s m fun x =>
          { x with toneLock := false, lockAll := false, unlockSeen := true, holdover := true,
                   acqStep := if x.acqStep = 3 ∨ x.acqStep = 4 then 2 else x.acqStep }) m fun c =>
        { c with lostLock := c.lostLock || c.readGate }
    else s)

/-- HOLDOVER_TIMEOUT: still in holdover 100 µs after the loss (R71). -/
def execHoldoverTimeout (m : Strm) (s : State) : Host.Outcome State Fault Refusal :=
  .next (if powered s && s.streams[m].holdover && !s.streams[m].toneLock && !s.streams[m].lost then
      raise (updStream s m fun x => { x with lost := true }) .lost 0 0x04 m.val s.streams[m].head.val
    else s)

/-- The tone-loop preset for a track and a measured speed: its tone frequency, Hz (R76). -/
def tonePreset (sf : Surface) (t meas : Nat) : Nat := cyclesAt sf t * meas / 480

/-- A stream as a head selection leaves it: acquisition runs from step 1, with the tone loop preset
from the spindle speed and the radius that the loop engine reports (R68, R76, R93). -/
def selectOn (sf : Surface) (h : Hd) (meas : Nat) (x : Stream) : Stream :=
  { x with head := h, selected := true, acqStep := 2, toneLock := false, fine := false, lockAll := false,
           trackValid := false, angleValid := false, zoneSettle := false, seam := false, lost := false,
           holdover := false, disTrack := none, disAngle := none, residSat := 0, preds := [],
           fresh := false, ratioPend := false, age := 0, wpr := wprAt sf (trackOfPos x.radius),
           preset := tonePreset sf (trackOfPos x.radius) meas,
           refused := if x.head = h then x.refused else false }

/-- The selection would take the writing head from its writing stream, which keeps it for the whole
run (R7). -/
def breaksRun (s : State) (m : Strm) (h : Hd) : Bool :=
  let p := s.wps[actOfStream m]
  p.runActive && (match writingStream s (actOfStream m) with
    | some w => if w = m then decide (h ≠ p.sel) else decide (h = p.sel)
    | none => false)

/-- HEAD_SELECT: the stream selects a head of its actuator; the stream that served it before gives it
up, and a refusal of R68 goes with the head (R7, R68, R76). -/
def headSelect (m : Strm) (h : Hd) (s : State) : State :=
  if powered s && inDrive s h && decide (actOf s h = actOfStream m) && !breaksRun s m h then
    let ref := allStreams.any fun k => decide (s.streams[k].head = h) && s.streams[k].refused
    let s1 := forEach allStreams s fun s k =>
      if k ≠ m ∧ s.streams[k].selected ∧ s.streams[k].head = h then
        updStream s k fun x => { x with selected := false, toneLock := false, angleValid := false, acqStep := 0, refused := false }
      else s
    revCheck (updHeadRec (updStream s1 m fun x => { selectOn (surfOf s h) h s.spn.meas x with refused := ref }) h fun r =>
      { r with surfFails := if r.surfNow then r.surfFails else 0, surfNow := false })
  else s

def execHeadSelect (m : Strm) (h : Hd) (s : State) : Host.Outcome State Fault Refusal := .next (headSelect m h s)

/-- ACQUISITION_FAIL: step 5 not reached in time; the head's consecutive failures count for R276. -/
def execAcquisitionFail (m : Strm) (s : State) : Host.Outcome State Fault Refusal :=
  .next (let st := s.streams[m]
    if powered s && st.selected && decide (2 ≤ st.acqStep ∧ st.acqStep ≤ 4) then
      raise (updHeadRec (updStream s m fun x => { x with acqFail := true, acqStep := 0 }) st.head fun r =>
        { r with acqFails := r.acqFails + 1 }) .acqFail 2 0x04 m.val st.head.val
    else s)

/-! ### Ratio, zone and rate (R72 to R74) -/

/-- The stream's read gate and the write gate of its head are closed. -/
def gatesClosed (s : State) (m : Strm) : Bool :=
  !s.chn[m].readGate && !gateOpenOn s s.streams[m].head

/-- ZONE_RATIO_APPLY: the new zone's ratio at the first edge with both gates closed (R73). -/
def execZoneRatioApply (m : Strm) (s : State) : Host.Outcome State Fault Refusal :=
  .next (let st := s.streams[m]
    if powered s && st.selected && st.ratioPend && gatesClosed s m then
      let z := zoneAt (surfOf s st.head) st.track
      updStream s m fun x =>
        { x with zone := z, ratio := s.heads[st.head].ratio[z], ratioPend := false, zoneSettle := true }
    else s)

/-- ZONE_SETTLE_END: the synthesiser lies within 100 ppm of its target (R73). -/
def execZoneSettleEnd (m : Strm) (s : State) : Host.Outcome State Fault Refusal :=
  .next (if powered s then updStream s m fun x => { x with zoneSettle := false } else s)

/-- RATE_OUT_OF_RANGE: the channel rate left its range; a gate already open closes in order (R74). -/
def execRateOutOfRange (m : Strm) (s : State) : Host.Outcome State Fault Refusal :=
  .next (if powered s && s.streams[m].selected && !s.streams[m].rateClamped then
      let s1 := raise (updStream s m fun x => { x with rateOor := true, rateClamped := true }) .rateOor 2 0x04 m.val
      if gateOpenOn s s.streams[m].head then orderlyClose s1 (actOfStream m) 0x8 else s1
    else s)

/-- CHANNEL_RATE_RETURN: the rate is back within its range (R74). -/
def execChannelRateReturn (m : Strm) (s : State) : Host.Outcome State Fault Refusal :=
  .next (if powered s then updStream s m fun x => { x with rateClamped := false } else s)

/-- DEMOD_PARAM_APPLY: a held message takes effect once the head's write gate is closed (R81). -/
def execDemodParamApply (h : Hd) (s : State) : Host.Outcome State Fault Refusal :=
  .next (if powered s && !gateOpenOn s h then
      let c := s.heads[h]
      let s1 := match c.bwHeld with | some (m, bw) => updStream s m fun x => { x with toneBw := bw } | none => s
      updHead s1 h fun c => { c with demod := c.demodHeld.getD c.demod, demodHeld := none, bwHeld := none }
    else s)

/-! ### Messages (R81, R438) -/

/-- The body of LKB_SET_SURFACE. -/
def setSurface (head surface pL : Nat) (index : Int) (lin : List Int) (s : State) : Ans :=
  if s.sec.life ≠ .manufacture ∧ s.sec.life ≠ .ret then failA s 0x0006
  else if surface < 32 ∧ 1200 ≤ pL ∧ pL ≤ 4000 ∧ selHeads s head ≠ [] then
    let sf : Fin 32 := ⟨surface % 32, Nat.mod_lt _ (by decide)⟩
    okA (forEach (selHeads s head) { s with surfaces := vupd s.surfaces sf fun x => { x with pL := pL } }
      fun s h => updHead s h fun c => { c with surface := surface, index := index, lin := lin })
  else rangeA s

def execLkbSetSurface (r : Req) (head surface pL : Nat) (index : Int) (lin : List Int) (s : State) :
    Host.Outcome State Fault Refusal :=
  .next (serve s r { opc := 0x0201, need := .fa, setter := true } (.lkbSetSurface r head surface pL index lin)
    (setSurface head surface pL index lin))

/-- Strictly rising. -/
def rising : List Nat → Bool
  | a :: b :: l => decide (a < b) && rising (b :: l)
  | _ => true

/-- The body of LKB_SET_ZONE_MAP. -/
def setZoneMap (surface : Nat) (first : List Nat) (s : State) : Ans :=
  if surface < 32 ∧ first.length = 63 ∧ rising first ∧ first.all (· < 2 ^ 24) then
    okA { s with surfaces := vupd s.surfaces (⟨surface % 32, Nat.mod_lt _ (by decide)⟩ : Fin 32)
                   fun x => { x with zoneMap := first } }
  else rangeA s

def execLkbSetZoneMap (r : Req) (surface : Nat) (first : List Nat) (s : State) : Host.Outcome State Fault Refusal :=
  .next (serve s r { opc := 0x0202, setter := true } (.lkbSetZoneMap r surface first) (setZoneMap surface first))

/-- A ratio the LX-4 accepts: unused, or from 8 to 64 (R72). -/
def ratioOk (n m : Nat) : Bool := decide (n = 0) || (decide (1 ≤ m) && decide (8 * m ≤ n) && decide (n ≤ 64 * m))

/-- One ratio entry written; a stream that uses the zone applies it under R73. -/
def putRatio (s : State) (h : Hd) (z : Zn) (x : Ratio) : State :=
  forEach allStreams (updHead s h fun c => { c with ratio := vupd c.ratio z fun _ => x }) fun s m =>
    if s.streams[m].selected ∧ s.streams[m].head = h ∧ s.streams[m].zone = z then
      updStream s m fun t => { t with ratioPend := true }
    else s

/-- The body of LKB_SET_RATIO. -/
def setRatio (head zone : Nat) (word : BitVec 32) (s : State) : Ans :=
  let n := fld word.toNat 16 16
  let m := fld word.toNat 0 10
  if fld word.toNat 10 6 ≠ 0 then malformedA s 37
  else if ratioOk n m ∧ selHeads s head ≠ [] ∧ selZones zone ≠ [] then
    okA (forEach (selHeads s head) s fun s h => forEach (selZones zone) s fun s z => putRatio s h z { n := n, m := m })
  else rangeA s

def execLkbSetRatio (r : Req) (head zone : Nat) (word : BitVec 32) (s : State) : Host.Outcome State Fault Refusal :=
  .next (serve s r { opc := 0x0203, setter := true } (.lkbSetRatio r head zone word) (setRatio head zone word))

/-- Thresholds within their ranges (R77). -/
def guardOk (g : GuardCfg) : Bool :=
  decide (41 ≤ g.tOt) && decide (g.tOt ≤ 256) && decide (20 ≤ g.tRes) && decide (g.tRes ≤ 256) &&
    decide (g.tOt ≤ g.tRd) && decide (g.tRd ≤ 512)

/-- The fields of an LKB_GUARD_CFG word (R77). -/
def guardWord (w : BitVec 32) : GuardCfg :=
  { tRd := fld w.toNat 20 10, tRes := fld w.toNat 10 10, tOt := fld w.toNat 0 10 }

/-- The body of LKB_SET_GUARD: the three fields wait together for the next sample strobe (R77). -/
def setGuard (act : Nat) (word : BitVec 32) (s : State) : Ans :=
  match selAct act with
  | some a =>
    if fld word.toNat 30 2 ≠ 0 then malformedA s 39
    else if guardOk (guardWord word) then okA (updGuard s a fun g => { g with pend := some (guardWord word) })
    else rangeA s
  | none => rangeA s

def execLkbSetGuard (r : Req) (act : Nat) (word : BitVec 32) (s : State) : Host.Outcome State Fault Refusal :=
  .next (serve s r { opc := 0x0204, setter := true } (.lkbSetGuard r act word) (setGuard act word))

/-- The parameters of LKB_SET_DEMOD over a head's demodulator and a stream's bandwidth, which comes in
counts of its 100 kHz step (R81, R426). -/
def demodPars : List (Par (Demod × Nat)) :=
  [parN 0 2 fun v x => ({ x.1 with rdsel := v }, x.2),
   parN 32 120 fun v x => ({ x.1 with ampMin := v }, x.2),
   parN 64 512 fun v x => ({ x.1 with vFine := v }, x.2),
   parN 2 20 fun v x => (x.1, v * 100)]

/-- The message names the bandwidth, or a parameter of the head. -/
def anyBit (ps : Params) (bits : List Nat) : Bool := ps.any fun e => bits.contains e.1

/-- LKB_SET_DEMOD for one head: a message that changes the head's RDSEL, AMP_MIN or V_FINE is held
whole while the head's write gate is open (R81). -/
def demodHead (m : Strm) (ps : Params) (s : State) (h : Hd) : Except Nat State :=
  let c := s.heads[h]
  match applyPars demodPars (fun _ => []) ps (c.demodHeld.getD c.demod, s.streams[m].toneBw) with
  | .ok (d, bw) =>
    let bwSet := anyBit ps [3]
    .ok (if anyBit ps [0, 1, 2] && gateOpenOn s h then
        updHead s h fun c => { c with demodHeld := some d, bwHeld := if bwSet then some (m, bw) else c.bwHeld }
      else
        updHead (updStream s m fun x => { x with toneBw := bw }) h fun c =>
          if anyBit ps [0, 1, 2] then { c with demod := d, demodHeld := none } else c)
  | .error b => .error b

/-- The body of LKB_SET_DEMOD (R81). -/
def setDemod (head stream : Nat) (ps : Params) (s : State) : Ans :=
  match selStream stream with
  | some m => if selHeads s head = [] then rangeA s else setAllA s (selHeads s head) (demodHead m ps)
  | none => rangeA s

def execLkbSetDemod (r : Req) (head stream : Nat) (ps : Params) (s : State) : Host.Outcome State Fault Refusal :=
  .next (serve s r { opc := 0x0205, setter := true } (.lkbSetDemod r head stream ps) (setDemod head stream ps))

/-- LKB_STREAM_STATUS (R80). -/
def lkbStatus (x : Stream) : Nat :=
  packF [(31, 1, b2n x.toneLock), (30, 1, b2n x.fine), (29, 1, b2n x.trackValid), (28, 1, b2n x.angleValid),
    (27, 1, b2n x.zoneSettle), (26, 1, b2n x.seam), (25, 1, b2n x.lost), (23, 1, b2n x.acqFail),
    (22, 1, b2n x.rateOor), (21, 1, b2n x.surfMismatch), (20, 1, b2n x.formatErr), (19, 1, b2n x.angleSlip),
    (18, 1, b2n x.trackSlip), (17, 1, b2n x.unlockSeen), (16, 1, b2n x.ampLow), (8, 8, x.crcErrCnt),
    (5, 3, x.trackDisCnt), (0, 5, x.head.val)]

/-- What reading LKB_STREAM_STATUS clears (R80, R426). -/
def lkbClear (c : BitVec 64) (x : Stream) : Stream :=
  { x with acqFail := w1c c 23 x.acqFail, rateOor := w1c c 22 x.rateOor, surfMismatch := w1c c 21 x.surfMismatch,
           formatErr := w1c c 20 x.formatErr, angleSlip := w1c c 19 x.angleSlip, trackSlip := w1c c 18 x.trackSlip,
           unlockSeen := w1c c 17 x.unlockSeen, ampLow := w1c c 16 x.ampLow, crcErrCnt := 0, trackDisCnt := 0 }

/-- The body of LKB_GET_STATUS. -/
def getLkbStatus (stream : Nat) (clear : BitVec 64) (s : State) : Ans :=
  match selStream stream with
  | some m => getA (updStream s m (lkbClear clear)) [(4, lkbStatus s.streams[m])]
  | none => rangeA s

def execLkbGetStatus (r : Req) (stream : Nat) (clear : BitVec 64) (s : State) : Host.Outcome State Fault Refusal :=
  .next (serve s r { opc := 0x0206, need := .rd } (.lkbGetStatus r stream clear) (getLkbStatus stream clear))

/-- The body of LKB_READ_POSITION: the last sample word and the angle counter. -/
def readPosition (stream : Nat) (s : State) : Ans :=
  match selStream stream with
  | some m => getA s [(8, s.streams[m].sample.toNat), (4, s.streams[m].angle)]
  | none => rangeA s

def execLkbReadPosition (r : Req) (stream : Nat) (s : State) : Host.Outcome State Fault Refusal :=
  .next (serve s r { opc := 0x0207, need := .rd } (.lkbReadPosition r stream) (readPosition stream))

end Sys2Proof.Machine
end

