-- ==== Sys2Proof/Machine/Loop.lean ====
section
/-! DEFINITION. Loop: section arithmetic, the loop engine's slots, mode hand-over, twin streams and
the loop messages (chapter 4). -/

namespace Sys2Proof.Machine

/-! ### Section arithmetic (R83, R102, R103) -/

/-- Divide by 2^k, to nearest, ties away from zero (R83). -/
def roundAway (n : Int) (k : Nat) : Int :=
  if k = 0 then n
  else if 0 ≤ n then (n + 2 ^ (k - 1)) / 2 ^ k else -((-n + 2 ^ (k - 1)) / 2 ^ k)

/-- Saturate to a signed width. -/
def satW (w : Nat) (x : Int) : Int := clampI (-(2 ^ (w - 1))) (2 ^ (w - 1) - 1) x

/-- One section: output in Q8.24 and the states after it, from an input in Q8.24 (R83). -/
def secStep (c : Section) (st : SecState) (x : Int) : Int × SecState :=
  let x32 := x * 256
  let y := satW 40 (roundAway (c.b0.toInt * x32 + st.s1 * 2 ^ 30) 30)
  (satW 32 (roundAway y (16 - c.shift)),
   { s1 := satW 40 (roundAway (c.b1.toInt * x32 - c.a1.toInt * y + st.s2 * 2 ^ 30) 30),
     s2 := satW 40 (roundAway (c.b2.toInt * x32 - c.a2.toInt * y) 30) })

/-- A cascade: output of the last section and the states after it (R83). -/
def cascade : List (Section × SecState) → Int → Int × List SecState
  | [], x => (x, [])
  | (c, st) :: l, x =>
    let r := secStep c st x
    let rest := cascade l r.1
    (rest.1, r.2 :: rest.2)

/-- The states after a sample in which the law's output saturates: sections with HOLD_ON_SAT keep
theirs (R84, R95). -/
def holdSat (sat : Bool) (old : List (Section × SecState)) (new : List SecState) : List SecState :=
  (old.zip new).map fun p => if sat && p.1.1.holdOnSat then p.1.2 else p.2

/-- Steady state of a section with INTEG = 0 for constant input, and its output (R102). DESIGN CHOICE:
its y is rounded down. -/
def steady (c : Section) (x : Int) : SecState × Int :=
  let x32 := x * 256
  let den := (2 : Int) ^ 30 + c.a1.toInt + c.a2.toInt
  let y := if den = 0 then 0 else satW 40 (x32 * (c.b0.toInt + c.b1.toInt + c.b2.toInt) / den)
  let s2 := satW 40 (roundAway (c.b2.toInt * x32 - c.a2.toInt * y) 30)
  ({ s1 := satW 40 (roundAway (c.b1.toInt * x32 - c.a1.toInt * y) 30 + s2), s2 := s2 },
   satW 32 (roundAway y (16 - c.shift)))

/-- Bumpless states of the sections before the last, and the input the last one sees (R102). -/
def bumplessInit : List Section → Int → List SecState × Int
  | [], x => ([], x)
  | c :: l, x =>
    let p : SecState × Int := if c.integ then ({}, (secStep c {} x).1) else steady c x
    let rest := bumplessInit l p.2
    (p.1 :: rest.1, rest.2)

/-- R102: states such that the first output for input `x` is `uOld`, where the format allows. -/
def bumpless (cs : List Section) (x uOld : Int) : List SecState :=
  match cs.reverse with
  | [] => []
  | last :: front =>
    let p := bumplessInit front.reverse x
    let base : SecState := if last.integ then {} else (steady last p.2).1
    let y := satW 40 (uOld * 2 ^ (16 - last.shift))
    p.1 ++ [{ base with s1 := satW 40 (y - roundAway (last.b0.toInt * p.2 * 256) 30) }]

/-- The sections of a law. -/
def lawSecs (secs : Vector Section 512) (l : Law) : List Section :=
  (List.range l.count).map fun k => secs[(⟨(l.start + k) % 512, Nat.mod_lt _ (by decide)⟩ : Fin 512)]

/-- A law's sections with their states. -/
def lawPairs (secs : Vector Section 512) (l : Law) : List (Section × SecState) :=
  (lawSecs secs l).zipIdx.map fun p => (p.1, l.st.getD p.2 {})

/-- The output with a blend in progress added, rounded down (DESIGN CHOICE), and the law after it:
`blendLeft` is N_BLEND + 1 - k in the k-th sample (R103). -/
def blendOut (l : Law) (u : Int) : Int × Law :=
  if l.blendLeft = 0 then (u, { l with out := u })
  else
    let v := u + l.blendDelta * ((l.blendLeft - 1 : Nat) : Int) / (max l.blendN 1 : Nat)
    (v, { l with out := v, blendLeft := l.blendLeft - 1 })

/-- Start a law under R102 and R103 on the input of its first sample, against the output last issued. -/
def startLaw (secs : Vector Section 512) (l : Law) (hBlend nBlend : Nat) (x uOld : Int) : Law :=
  let st := bumpless (lawSecs secs l) x uOld
  let u := (cascade (lawPairs secs { l with st := st }) x).1
  let d := uOld - u
  if d.natAbs ≤ hBlend * 2 ^ 9 then { l with st := st, blendLeft := 0, blendDelta := 0, pendStart := none }
  else { l with st := st, blendLeft := nBlend + 1, blendN := nBlend, blendDelta := d, pendStart := none }

/-- Run a law once on input `x`: a law that waits for its first sample starts on it. `add` is a
feedforward that the issued output holds besides, and `sat` says whether an output is clipped by its
command (R83, R84, R95, R102, R103). -/
def runLaw (secs : Vector Section 512) (l : Law) (hBlend nBlend : Nat) (sat : Int → Bool) (add x : Int) : Law :=
  let l0 := match l.pendStart with
    | some u => startLaw secs l hBlend nBlend x (u - add)
    | none => l
  let ps := lawPairs secs l0
  let r := cascade ps x
  let b := blendOut l0 r.1
  { b.2 with st := holdSat (sat (b.1 + add)) ps r.2, st0 := l.st, out0 := l.out }

/-- A law whose deadline was missed: output and states as before the slot (R90). -/
def undoLaw (l : Law) : Law := { l with st := l.st0, out := l.out0 }

/-! ### Laws of an actuator -/

/-- Allotted sections of a law of LE0 to LE3; 0 reserved (R88). -/
def allotment (l : Nat) : Nat :=
  if l ≤ 7 then 4 else if l ≤ 15 then 2 else if l ≤ 21 then 12 else if l = 22 then 8 else 0

/-- The VCM law of a mode, 0 for none (R82). -/
def vcmLaw : Mode → Nat
  | .seek => 16
  | .settle => 17
  | .follow => 18
  | .hold => 18
  | .twin => 19
  | .parked => 0
  | .ramp => 0

/-- Law `l` of an actuator. -/
def lawOf (x : Actuator) (l : Nat) : Law := if h : l < 32 then x.laws[(⟨l, h⟩ : Fin 32)] else {}

/-- Law `l` of an actuator changed by `f`. -/
def updLaw (x : Actuator) (l : Nat) (f : Law → Law) : Actuator :=
  if h : l < 32 then { x with laws := vupd x.laws ⟨l, h⟩ f } else x

/-- A law is loaded, not held by a coefficient error, and meets its deadline (R88, R90, R91). -/
def lawRuns (x : Actuator) (late : List Nat) (l : Nat) : Bool :=
  (lawOf x l).valid && !(lawOf x l).err && !late.contains l

/-- The partner head while the laws serve it: in TWIN, and on the way to it (R82, R94). -/
def activePartner (x : Actuator) : Option Hd :=
  if x.mode = .twin ∨ x.seekReq = .twinRead then x.partner else none

/-- The heads an actuator's laws serve. -/
def activeHeads (x : Actuator) : List Hd := x.leadHead :: (activePartner x).toList

/-- Micro-actuator laws run in these modes (R82). -/
def maRuns (m : Mode) : Bool := decide (m = .settle ∨ m = .follow ∨ m = .twin)

/-- The laws that run in the current mode (R82, R89). -/
def runningLaws (s : State) (a : Act) : List Nat :=
  let x := s.acts[a]
  if x.mode = .parked then []
  else
    [20, 21, 22] ++ (if vcmLaw x.mode = 0 then [] else [vcmLaw x.mode]) ++
    (activeHeads x).map (fun h => 8 + (localHead s h).val) ++
    (if maRuns x.mode then (activeHeads x).map (fun h => (localHead s h).val) else [])

/-- The slots a law runs in: the VCM law in slot 0, observer, shaping and heater in slots 1 to 3, the
others in every slot (R85). -/
def lawSlot (slot l : Nat) : Bool :=
  decide (l ≤ 15) || decide (16 ≤ l ∧ l ≤ 19 ∧ slot = 0) || decide (20 ≤ l ∧ l ≤ 22 ∧ slot = l - 19)

/-- A missed deadline of law `l`: the flag of its class, the count and, for the VCM law, the run of
missed frames; its output and states stand (R90). -/
def missLaw (x : Actuator) (l : Nat) : Actuator :=
  { x with dlMissMa := x.dlMissMa || decide (l ≤ 7)
           dlMissPred := x.dlMissPred || decide (8 ≤ l ∧ l ≤ 15)
           dlMissVcm := x.dlMissVcm || decide (16 ≤ l ∧ l ≤ 19)
           dlMissOther := x.dlMissOther || decide (20 ≤ l)
           dlMissCnt := satInc 255 x.dlMissCnt
           vcmMissRun := if 16 ≤ l ∧ l ≤ 19 then satInc 16 x.vcmMissRun else x.vcmMissRun }

/-! ### Targets and commands -/

/-- The reader-to-writer offset of a head at a lakebed track: linear between the first tracks of
consecutive zones (R93), rounded down (DESIGN CHOICE). -/
def rwoAt (s : State) (h : Hd) (t : Nat) : Int :=
  let sf := surfOf s h
  let z := zoneAt sf t
  let v := s.hloops[h].rwo[z]
  if hz : z.val < 63 then
    let t0 : Nat := if z.val = 0 then 0 else sf.zoneMap.getD (z.val - 1) 0
    let t1 : Nat := sf.zoneMap.getD z.val (t0 + 1)
    let v1 := s.hloops[h].rwo[(⟨z.val + 1, by omega⟩ : Fin 64)]
    if t0 < t1 then v + (v1 - v) * ((t : Int) - t0) / ((t1 : Int) - t0) else v
  else v

/-- The target a request makes of a data track centre (R93). -/
def targetOf (s : State) (h : Hd) (q : SeekReq) (centre : Int) : Int :=
  if q = .write then centre + rwoAt s h (trackOfPos centre) else centre

/-- The write target of a run: its track's centre moved by RWO (R93). -/
def runTarget (s : State) (a : Act) (o : WriteOrd) : Int :=
  match bandOf s a o.ctx with
  | some b => targetOf s o.head .write (bandCentre b.desc o.track)
  | none => 0

/-- Position units as lakebed tracks in Q8.24 (R83). -/
def toQ24 (units : Int) : Int := satW 32 (units * 2 ^ 14)

/-- Lakebed tracks in Q8.24 as position units. -/
def ofQ24 (x : Int) : Int := roundAway x 14

/-- A command clipped to ±I_LIM (R95). -/
def clipILim (iLim : Nat) (c : Int) : Int :=
  let lim : Int := min (32768 * iLim / 100) 32767
  clampI (-lim) lim c

/-- The VCM command of a law output: a signed 16-bit fraction of full scale, clipped to I_LIM (R95). -/
def vcmCommand (iLim : Nat) (u : Int) : Int := clipILim iLim (roundAway u 9)

/-- The VCM command is clipped. -/
def vcmClips (iLim : Nat) (u : Int) : Bool := decide (vcmCommand iLim u ≠ roundAway u 9)

/-- The micro-actuator command of a law output: 0.025 nm counts, clipped to ±32,000 (R95). -/
def maCommand (u : Int) : Int := clampI (-32000) 32000 (roundAway (u * 32000) 24)

/-- The micro-actuator command is clipped. -/
def maClips (u : Int) : Bool := decide (maCommand u ≠ roundAway (u * 32000) 24)

/-- The law output of a micro-actuator command in force, to nearest (R104). -/
def maOutput (c : Int) : Int := (c * 2 ^ 24 + 16000) / 32000

/-- A VCM command issued to the power-stage link (R86, R226). -/
def issueVcm (s : State) (a : Act) (cmd out : Int) (sat : Bool) : State :=
  updPsl (updAct s a fun x => { x with vcmCmd := cmd, vcmOut := out, vcmSat := sat })
    fun p => { p with vcm := vupd p.vcm a fun _ => cmd, vcmNew := true }

/-! ### Parking (R82, R90, R105, R454) -/

/-- The park of an actuator starts, by the mode it is in (R454). -/
def startPark (x : Actuator) : Actuator :=
  let y := { x with loadReq := false, unloadReq := false, seekPending := false, newSeek := none, writeReady := false,
                    blending := false, traj := [], stopPlan := false, stopFail := false, due := none }
  match x.mode with
  | .parked => y
  | .ramp => { y with park := .climb, retracting := true }
  | _ => { y with park := .stop, retracting := true, maRampLeft := 64, maRampFrom := x.maCmd,
                  refPos := if x.mode = .seek then x.refPos else x.refTarget,
                  refVel := if x.mode = .seek then x.refVel else 4 * x.obsVel, refAcc := 0 }

/-- Retract by the park sequence (R82, R90, R105). -/
def retract (s : State) (a : Act) : State :=
  updActRec (updActCtr (updAct s a fun x =>
    { startPark x with mode := .ramp, vcmMissRun := 0, vcmMissRun0 := 0, partner := none, fallback := none })
    a fun c => { c with retracts := ctrAdd c.retracts 1 })
    a fun c => { c with retractTimes := s.us :: c.retractTimes }

/-- An actuator is being parked without the mode machine (R454). -/
def parks (x : Actuator) : Bool := decide (x.park ≠ .none)

/-- An actuator is PARKED: VCM current and micro-actuator commands 0 (R82). -/
def parkedNow (x : Actuator) : Actuator :=
  { x with mode := .parked, retracting := false, park := .none, vcmCmd := 0, vcmOut := 0, vcmSat := false, rampRef := 0,
           maCmd := Vector.replicate 8 0, maRampLeft := 0, loadReq := false, unloadReq := false }

/-- The served head's stream. -/
def servedStream (s : State) (a : Act) : Strm := (streamOfHead s s.acts[a].leadHead).getD (stream0 a)

/-- P_L of an actuator's served head, 0.01 nm. -/
def pitchOf (s : State) (a : Act) : Nat := max (surfOf s s.acts[a].leadHead).pL 1

/-- A speed in mm/s as position units per frame, rounded down. -/
def frameSpeed (pL mms : Nat) : Nat := mms * 256000 / pL

/-- An acceleration in m/s² as position units per frame², rounded down. -/
def frameAcc (pL a : Nat) : Nat := a * 640 / pL

/-- A jerk in m/s³ as position units per frame³, rounded down. -/
def frameJerk (pL j : Nat) : Nat := j / (625 * pL)

/-- One frame of deceleration at A_MAX (R98). -/
def slowDown (acc : Nat) (x : Actuator) : Actuator :=
  let v : Int := if 0 ≤ x.refVel then max (x.refVel - acc) 0 else min (x.refVel + acc) 0
  { x with refAcc := v - x.refVel, refVel := v, refPos := x.refPos + v }

/-- The stop plan has brought the speed to V_FINE or below, per sample (R98). -/
def stopDone (vFine : Nat) (x : Actuator) : Bool := decide (x.refVel.natAbs ≤ 4 * vFine)

/-- One frame of the park (R454): stop plan, move toward the outer diameter at 0.50 m/s while position
is read, back-EMF velocity control at V_RAMP, open-loop drive at half of I_LIM. -/
def parkFrame (s : State) (a : Act) : State :=
  let x := s.acts[a]
  let pL := pitchOf s a
  let lim := x.seekPar.iLim
  let p := takeFree s
  match x.park with
  | .none => s
  | .stop =>
    let y := slowDown (frameAcc pL x.seekPar.aMax) x
    let z := if stopDone s.heads[x.leadHead].demod.vFine y then { y with park := .outward } else y
    let c := clipILim lim (Config.parkDrive z.refVel s.freeCtr).toInt
    issueVcm (updAct p.2 a fun _ => z) a c (c * 512) false
  | .outward =>
    let v : Int := -(frameSpeed pL 500 : Int)
    let reads := s.streams[servedStream s a].toneLock && decide (s.plks[a].l.st = .up)
    let y := { x with refVel := v, refPos := x.refPos + v, refAcc := 0,
                      park := if reads then .outward else .climb }
    let c := clipILim lim (Config.parkDrive v s.freeCtr).toInt
    issueVcm (updAct p.2 a fun _ => y) a c (c * 512) false
  | .climb =>
    let v : Int := -(x.seekPar.vRamp : Int)
    let c := clipILim lim (Config.rampDrive v s.freeCtr).toInt
    issueVcm (updAct p.2 a fun y => { y with rampRef := v }) a c (c * 512) false
  | .openLoop =>
    let m : Int := (32768 * lim / 200 : Nat)
    let c := if Config.rampNegative then -m else m
    issueVcm s a c (c * 512) false

/-- One frame of RAMP: the supervisor's velocity control at V_RAMP on back-EMF, away from the ramp stop
during a load and toward it during an unload (R82). -/
def rampFrame (s : State) (a : Act) : State :=
  let x := s.acts[a]
  let v : Int := if x.loadReq then (x.seekPar.vRamp : Int) else -(x.seekPar.vRamp : Int)
  let c := clipILim x.seekPar.iLim (Config.rampDrive v s.freeCtr).toInt
  issueVcm (updAct (takeFree s).2 a fun y => { y with rampRef := v }) a c (c * 512) false

/-! ### Seeks: the plan and the pilot (R96 to R99) -/

/-- Velocity that an acceleration of size `acc` adds while it falls to 0 by `jerk` a frame. -/
def tailSum (acc jerk : Nat) : Nat :=
  let n := (acc + jerk - 1) / jerk
  n * acc - jerk * (n * (n - 1) / 2)

/-- The velocity after a frame of acceleration `acc` and after that acceleration has fallen to 0 again
under J_MAX stays within V_MAX. -/
def velocityHolds (v jerk : Nat) (vel acc : Int) : Bool :=
  let peak : Int := vel + acc + (if 0 ≤ acc then (tailSum (acc.natAbs - jerk) jerk : Int)
    else -(tailSum (acc.natAbs - jerk) jerk : Int))
  decide (peak.natAbs ≤ v)

/-- The reference acceleration of a frame: what the plan asks, within A_MAX, within J_MAX of the last
one, and so that the velocity never exceeds V_MAX (R96). A plan that must first stop asks for
deceleration (R97). -/
def planAcc (pL : Nat) (x : Actuator) (want : Int) : Int :=
  let am : Int := frameAcc pL x.seekPar.aMax
  let jm := max (frameJerk pL x.seekPar.jMax) 1
  let w := if x.brake then (if 0 ≤ x.refVel then -am else am) else want
  let acc := clampI (x.refAcc - jm) (x.refAcc + jm) (clampI (-am) am w)
  if velocityHolds (frameSpeed pL x.seekPar.vMax) jm x.refVel acc then acc
  else if 0 ≤ x.refAcc then max (x.refAcc - jm) 0 else min (x.refAcc + jm) 0

/-- The distance to a stop under A_MAX and J_MAX, from no acceleration (R97). DESIGN CHOICE: v²/2A + vA/2J
whatever the speed. -/
def stopDistance (pL : Nat) (x : Actuator) : Nat :=
  let am := max (frameAcc pL x.seekPar.aMax) 1
  let jm := max (frameJerk pL x.seekPar.jMax) 1
  let v := x.refVel.natAbs
  v * v / (2 * am) + v * am / (2 * jm)

/-- The plan to a target first decelerates: it lies behind the motion or nearer than the stopping
distance (R97). -/
def mustBrake (pL : Nat) (x : Actuator) : Bool :=
  let d := x.target - x.refPos
  decide (x.refVel ≠ 0) && (decide (d * x.refVel < 0) || decide (d.natAbs < stopDistance pL x))

/-- The reference of the frame: the next trajectory point, the stop plan, or the held acceleration when
the FIFO is empty (R96 to R98). `accs` are the points that the supervisor core has fed since. -/
def trajStep (pL : Nat) (accs : List Int) (x : Actuator) : Actuator :=
  if x.mode ≠ .seek ∨ x.park ≠ .none then { x with traj := [], emptyFrames := 0 }
  else if x.stopPlan then slowDown (frameAcc pL x.seekPar.aMax) { x with traj := [], emptyFrames := 0 }
  else
    match (x.traj ++ accs).take 16 with
    | want :: rest =>
      let acc := planAcc pL x want
      let v := x.refVel + acc
      { x with traj := rest, refAcc := acc, refVel := v, refPos := x.refPos + v, emptyFrames := 0
               brake := x.brake && decide (0 < v * x.refVel) }
    | [] =>
      { x with traj := [], refVel := x.refVel + x.refAcc, refPos := x.refPos + x.refVel + x.refAcc,
               trajMiss := true, emptyFrames := satInc 7 x.emptyFrames }

/-- Operations of a pilot go back to its entries, not dispatched; those that are left in progress move up. -/
def undispatch (s : State) (a : Act) (ids : List Nat) : State :=
  updCmds s fun c => { c with pilots := vupd c.pilots a fun p =>
    let left := (p.busy.toList ++ p.twin.toList).filter fun i => !ids.contains i
    { p with entries := p.entries.map (fun e => if ids.contains e.id then { e with dispatched := false } else e),
             busy := left.head?, twin := (left.drop 1).head? } }

/-- A seek goes back to the pilot as failed (R98, R99): DESIGN CHOICE: its operations wait in the pilot
again. -/
def seekBack (s : State) (a : Act) : State :=
  let p := s.cmds.pilots[a]
  updCmds (undispatch s a (p.busy.toList ++ p.twin.toList)) fun c =>
    { c with pilots := vupd c.pilots a fun p => { p with seekFails := p.seekFails + 1 } }

/-- The operation in progress on a head goes back to the pilot as a single-stream read (R106, R110). -/
def headBack (s : State) (a : Act) (h : Hd) : State :=
  let p := s.cmds.pilots[a]
  undispatch s a ((p.entries.filter fun e => (p.busy.toList ++ p.twin.toList).contains e.id && decide (e.head = h)).map (·.id))

/-! ### Mode hand-over (R100 to R107) -/

/-- A new VCM law starts against the output last issued (R102). -/
def startVcm (m : Mode) (x : Actuator) : Actuator :=
  if vcmLaw m = 0 ∨ vcmLaw m = vcmLaw x.mode then x
  else updLaw x (vcmLaw m) fun l => { l with pendStart := some x.vcmOut, blendLeft := 0 }

/-- Micro-actuator laws that did not run before start against the command in force (R102, R104). `hs`
are the places of the heads that the new mode serves, `was` of those served by a running law before. -/
def startMas (hs was : List (Fin 8)) (x : Actuator) : Actuator :=
  (hs.filter fun i => !was.contains i).foldl (fun y i =>
    updLaw y i.val fun l => { l with pendStart := some (maOutput y.maCmd[i]), blendLeft := 0 }) x

/-- The reference that a seek starts from: the target followed so far, or the observer's state where no
target was followed (R97). -/
def seekFrom (x : Actuator) : Actuator :=
  if x.mode = .ramp ∨ x.mode = .hold then { x with refPos := x.obsPos, refVel := 4 * x.obsVel, refAcc := 0 }
  else { x with refPos := x.refTarget, refVel := 0, refAcc := 0 }

/-- Enter a mode at a frame boundary: laws that start wait for their first sample, counts begin anew, and
at the start of SEEK the micro-actuators ramp to 0 (R100, R102, R104). `place` gives a head's place. -/
def enterMode (place : Hd → Fin 8) (m : Mode) (x : Actuator) : Actuator :=
  let hs := (activeHeads { x with mode := m }).map place
  let was := if maRuns x.mode then (activeHeads x).map place else []
  let y := startVcm m x
  let z := if maRuns m then { startMas hs was y with maRampLeft := 0 } else y
  let w := if m = .seek then
      { updLaw (seekFrom z) 21 (fun l => { l with st := [], out := 0, pendStart := none }) with
          maRampLeft := 64, maRampFrom := x.maCmd, brake := false, traj := [] }
    else z
  { w with mode := m, goodRun := 0, goodRunP := 0, wreadyRun := 0, writeReady := false, missRun := 0, missRunP := 0,
           validRun := 0, holdMiss := false, rmsN := 0, rmsSum := 0, rmsSumP := 0, errFrames := 0, emptyFrames := 0,
           exitRun := 0, satRun := 0, due := none, shapeOut := 0, switchLeft := 0,
           refTarget := x.target, natInit := if m = .twin then x.natInit else false }

/-- The pair's registration: the one measured for the paired write in progress, else the pair record's
(R106 to R108). -/
def pairDW (x : Actuator) : Int :=
  match x.regDone, x.curPair with
  | some d, _ => d
  | none, some p => p.dW
  | none, none => 0

/-- The stroke demand of a pair in position units (R106). -/
def strokeDemand (x : Actuator) : Int := pairDW x - x.natFilt

/-- R106: the pair may enter TWIN. -/
def twinAllowed (s : State) (a : Act) : Bool :=
  let x := s.acts[a]
  match x.partner, x.curPair with
  | some p, some r =>
    decide (r.lead = x.leadHead ∧ r.partner = p) && s.streams[stream0 a].fine && s.streams[stream1 a].fine &&
      decide (s.pmu.level < 2) && !x.holdoff.contains (x.leadHead, p) &&
      decide ((strokeDemand x).natAbs * (surfOf s x.leadHead).pL ≤ x.twinPar.enter * 102400)
  | _, _ => false

/-- A target change that keeps the mode: one track or less on the heads served (R96). -/
def isSwitch (x : Actuator) (t : SeekTarget) : Bool :=
  decide (t.head = x.leadHead) && decide ((t.target - x.target).natAbs ≤ 1024) &&
    ((decide (x.mode = .follow) && decide (t.req ≠ .twinRead)) ||
     (decide (x.mode = .twin) && decide (t.req = .twinRead) && decide (x.partner = some t.partner)))

/-- The VCM laws a request needs (R82, R88). -/
def lawsFor (t : SeekTarget) : List Nat := if t.req = .twinRead then [16, 17, 18, 19] else [16, 17, 18]

/-- The new target takes the old one's place (R97). -/
def takeTarget (t : SeekTarget) (x : Actuator) : Actuator :=
  { x with target := t.target, seekReq := t.req, leadHead := t.head
           partner := if t.req = .twinRead then some t.partner else none
           curPair := if t.req = .twinRead then
               x.pairs.find? fun p => decide (p.lead = t.head ∧ p.partner = t.partner) else none
           newSeek := none, seekPending := false, traj := [], aborts := 0, stopPlan := false, stopFail := false,
           due := none }

/-- A target change larger than a track: SEEK, from where the reference stands (R97, R100). -/
def seekTo (s : State) (a : Act) (t : SeekTarget) : State :=
  updAct s a fun x =>
    let y := takeTarget t (if x.mode = .seek then x else enterMode (localHead s) .seek x)
    { y with refTarget := t.target, brake := mustBrake (pitchOf s a) y }

/-- A track switch: the reference step is smoothed over 16 frames by the seek shaping law (R96). -/
def switchTo (t : SeekTarget) (x : Actuator) : Actuator :=
  { updLaw x 21 (fun l => { l with st := [], out := 0, pendStart := none }) with
      target := t.target, seekReq := t.req, newSeek := none, seekPending := false,
      switchFrom := x.refTarget, switchLeft := 16, shapeOut := 0 }

/-- A target that waits is taken at the frame boundary (R96, R97, R100). -/
def takeSeek (s : State) (a : Act) (t : SeekTarget) : State :=
  let x := s.acts[a]
  if isSwitch x t then updAct s a (switchTo t)
  else
    match x.mode with
    | .parked => s
    | .ramp => updAct s a fun x => { takeTarget t x with refTarget := t.target }
    | .hold =>
      if t.head = x.leadHead ∧ (t.target - x.target).natAbs ≤ 1024 then
        updAct s a fun x => { takeTarget t x with refTarget := t.target }
      else seekTo s a t
    | _ => seekTo s a t

/-- HOLD on the nearest track centre (R98, R105). -/
def holdNearest (s : State) (x : Actuator) : Actuator :=
  let c : Int := (trackOfPos x.obsPos : Int) * 1024
  { enterMode (localHead s) .hold x with
      target := c, refTarget := c, stopPlan := false, stopFail := false, traj := [], newSeek := none, seekPending := false }

/-- The stop plan has ended: HOLD, the event, and the seek goes back to the pilot as failed (R98, R99). -/
def endStop (s : State) (a : Act) : State :=
  let x := s.acts[a]
  let s1 := seekBack (updAct s a (holdNearest s)) a
  if x.stopFail then
    raise (updActRec (updActCtr s1 a fun c => { c with seekFails := ctrAdd c.seekFails 1 }) a fun c =>
      { c with seekFailTimes := s.us :: c.seekFailTimes }) .seekFail 2 0x05 a.val x.leadHead.val
  else raise s1 .trajStop 0 0x05 a.val x.leadHead.val

/-- RAMP for an unload: micro-actuator commands 0 (R82, R100). -/
def rampDown (s : State) (a : Act) : State :=
  updAct s a fun x =>
    { enterMode (localHead s) .ramp x with
        unloadReq := false, loadReq := false, newSeek := none, seekPending := false, traj := [], stopPlan := false,
        stopFail := false, maCmd := Vector.replicate 8 0, maRampLeft := 0, dropRampLeft := 0,
        partner := if x.fallback.isSome then x.partner else none }

/-- The mode a met trigger leads to, entered where its law is loaded (R88, R100, R105, R106). -/
def takeDue (s : State) (a : Act) (m : Mode) : State :=
  let x := s.acts[a]
  let into := fun (s : State) (m : Mode) => updAct s a (enterMode (localHead s) m)
  match m with
  | .twin =>
    if twinAllowed s a ∧ (lawOf x 19).valid then
      updAct (into s .twin) a fun x => { x with regN := 0, regSum := 0, regDone := none }
    else if (lawOf x 18).valid then
      let s1 := match x.partner with | some p => headBack s a p | none => s
      updActCtr (updAct s1 a fun x => { enterMode (localHead s) .follow { x with seekReq := .read, partner := none } with curPair := none })
        a fun c => { c with twinRefused := ctrAdd c.twinRefused 1 }
    else s
  | .seek =>
    if (lawOf x 16).valid then
      updActCtr (updAct (into s .seek) a fun x => { x with loadReq := false }) a fun c =>
        { c with loadCycles := ctrAdd c.loadCycles 1 }
    else s
  | .follow => if (lawOf x 18).valid then into s .follow else s
  | .settle => if (lawOf x 17).valid then into s .settle else s
  | _ => s

/-- The mode changes a frame boundary makes: an unload first, then a load, the end of a stop plan, a new
target, and the trigger that a consumed sample met (R97, R98, R100). -/
def frameModes (s : State) (a : Act) : State :=
  let x := s.acts[a]
  if x.park ≠ .none then s
  else if x.unloadReq ∧ x.mode ≠ .parked then rampDown s a
  else if x.mode = .parked then
    (if x.loadReq then updAct s a fun x => { enterMode (localHead s) .ramp x with maCmd := Vector.replicate 8 0 } else s)
  else if x.stopPlan ∧ x.mode = .seek then
    (if stopDone s.heads[x.leadHead].demod.vFine x ∧ (lawOf x 18).valid then endStop s a else s)
  else
    match x.newSeek, x.due with
    | some t, _ => takeSeek s a t
    | none, some m => takeDue (updAct s a fun x => { x with due := none }) a m
    | none, none => s

/-! ### The input latch and the supervisor (R87, R99 to R101, R105, R107, R110) -/

/-- The sample an engine consumes from a stream: its position, whether it was valid, and the stream
with the sample taken (R87, R105). -/
def consume (s : State) (m : Strm) : Int × Bool × State :=
  let st := s.streams[m]
  let ok := st.fresh && smpValid st.sample
  ((if ok then smpPos st.sample else predPos st.lastPred), ok,
   updStream s m fun x =>
     { x with fresh := false, consumed := if x.fresh then x.sample else x.consumed,
              latchSeq := if x.fresh then smpSeq x.sample else (x.latchSeq + 1) % 16 })

/-- The mode whose trigger the served head's consumed sample meets (R100, R105). -/
def leadDue (st : Stream) (vFine : Nat) (pos : Int) (ok offRamp : Bool) (x : Actuator) : Option Mode :=
  match x.mode with
  | .ramp => if x.loadReq && offRamp && st.toneLock then some .seek else none
  | .seek =>
    if ok && smpFine st.consumed && decide ((x.target - pos).natAbs ≤ x.followPar.dSettle * 1024) &&
        decide (st.predVel ≤ vFine) && !x.stopPlan then some .settle
    else none
  | .settle => if x.followPar.nFollow ≤ x.goodRun ∧ x.seekReq ≠ .twinRead then some .follow else none
  | .hold => if x.holdMiss ∧ 16 ≤ x.validRun then some .settle else none
  | _ => none

/-- The supervisor's counts for the served head's consumed sample (R99, R100, R105). DESIGN CHOICE: a
replaced sample counts toward N_FOLLOW where the predicted position lies within T_FOLLOW. -/
def superviseLead (pos : Int) (ok : Bool) (x : Actuator) : Actuator :=
  let e := (pos - x.target).natAbs
  let runs := maRuns x.mode
  let rms := decide (x.mode = .follow ∨ x.mode = .twin)
  { x with inputLate := x.inputLate || (runs && !ok)
           missRun := if runs then (if ok then 0 else satInc 16 x.missRun) else 0
           validRun := if x.mode = .hold then (if ok then satInc 16 x.validRun else 0) else x.validRun
           goodRun := if x.mode = .settle ∧ e ≤ x.followPar.tFollow then satInc 255 x.goodRun else 0
           rmsN := if rms then min (x.rmsN + 1) 1024 else 0
           rmsSum := if rms then (if x.rmsN < 1024 then x.rmsSum + e * e else x.rmsSum) else 0 }

/-- The counts for the partner head in TWIN and on the way to it (R99, R100, R105, R107, R110). The
registration takes 64 consecutive samples that are valid on both heads. -/
def supervisePartner (posL posP dL dP : Int) (okL okP : Bool) (exitUnits : Nat) (x : Actuator) : Actuator :=
  let nat := (posP - dP) - (posL - dL)
  let e := (posP - (x.target + pairDW x)).natAbs
  let tw := decide (x.mode = .twin)
  let good := tw && okL && okP
  { x with inputLate := x.inputLate || (maRuns x.mode && !okP)
           missRunP := if okP then 0 else satInc 16 x.missRunP
           goodRunP := if x.mode = .settle ∧ e ≤ x.followPar.tFollow then satInc 255 x.goodRunP else 0
           due := if x.mode = .settle ∧ x.followPar.nFollow ≤ x.goodRun ∧ x.followPar.nFollow ≤ satInc 255 x.goodRunP ∧
               e ≤ x.followPar.tFollow ∧ x.due.isNone then some .twin else x.due
           natOff := if okL && okP then nat else x.natOff
           natFilt := if okL && okP && !x.natInit then nat else x.natFilt
           natInit := x.natInit || (okL && okP)
           regN := if good then min (x.regN + 1) 64 else if 64 ≤ x.regN then x.regN else 0
           regSum := if good then (if x.regN < 64 then x.regSum + nat else x.regSum) else if 64 ≤ x.regN then x.regSum else 0
           exitRun := if tw ∧ (exitUnits ≤ dL.natAbs ∨ exitUnits ≤ dP.natAbs) then satInc 127 x.exitRun else 0
           rmsSumP := if tw then (if x.rmsN < 1024 then x.rmsSumP + e * e else x.rmsSumP) else 0 }

/-- The writing head's distance from its write target, where its position is at hand: that of the run
dispatched, else that of the write target sought (R93, R101). -/
def writeError (s : State) (a : Act) (posL : Int) (partner : Option (Hd × Int)) : Option Int :=
  let x := s.acts[a]
  match s.wps[a].run with
  | some r =>
    if r.ord.head = x.leadHead then some (posL - runTarget s a r.ord)
    else match partner with
      | some p => if r.ord.head = p.1 then some (p.2 - runTarget s a r.ord) else none
      | none => none
  | none => if x.seekReq = .write then some (posL - x.target) else none

/-- The count of R101: DESIGN CHOICE: an invalid or missing sample of the writing head lies outside
T_WREADY and clears WRITE_READY and the count. -/
def superviseWrite (ok : Bool) (err : Option Int) (x : Actuator) : Actuator :=
  let near := decide (x.mode = .follow ∨ x.mode = .twin) && ok &&
    (match err with | some e => decide (e.natAbs ≤ x.followPar.tWready) | none => false)
  { x with wreadyRun := if near then satInc 255 x.wreadyRun else 0, writeReady := x.writeReady && near }

/-! ### The laws of a slot (R85 to R97) -/

/-- Issue the prediction of an active head three windows past the one the input latch stands for, unless
its predictor is held or missed; it reports the head's radius as well (R87, R90 to R93). The spec gives
the predictor no equations: VEL and POS are free. -/
def issuePrediction (late : List Nat) (a : Act) (s : State) (h : Hd) : State :=
  let x := s.acts[a]
  match streamOfHead s h with
  | none => s
  | some m =>
    if !lawRuns x late (8 + (localHead s h).val) then s
    else
      let ins := [x.obsPos, x.obsVel, x.maEst[localHead s h]] ++ x.obsMode.toList
      let vel := min (Config.estimate 20 ins s.freeCtr).natAbs 65535
      let pos := satW 34 (Config.estimate 21 ins s.freeCtr)
      let w := BitVec.ofNat 64 (packF [(60, 4, (s.streams[m].latchSeq + 3) % 16), (34, 16, vel), (0, 34, toPat 34 pos)])
      updStream (takeFree s).2 m fun x => { x with preds := (x.preds ++ [w]).drop (x.preds.length + 1 - 8), radius := pos }

/-- Run the micro-actuator law of an active head on its position error; while the link is not UP the
command is 0 (R94, R95, R104, R232). -/
def runMa (late : List Nat) (a : Act) (s : State) (h : Hd) (e : Int) : State :=
  let i := localHead s h
  let x := s.acts[a]
  if s.plks[a].l.st ≠ .up then updAct s a fun x => { x with maCmd := vupd x.maCmd i fun _ => 0 }
  else if !lawRuns x late i.val then s
  else
    let l' := runLaw x.secs (lawOf x i.val) x.followPar.hBlend x.followPar.nBlend maClips 0 (toQ24 e)
    updAct s a fun x => { updLaw x i.val (fun _ => l') with
      maCmd := vupd x.maCmd i fun _ => maCommand l'.out
      maSat := x.maSat || maClips l'.out
      satLead := x.satLead || (maClips l'.out && decide (h = x.leadHead))
      blending := x.blending || decide (l'.blendLeft ≠ 0) }

/-- Run the VCM law of the mode, with the shaped feedforward in SEEK, and issue its command (R82, R94, R95). -/
def runVcm (late : List Nat) (a : Act) (s : State) (x : Int) : State :=
  let v := s.acts[a]
  let l := vcmLaw v.mode
  if l = 0 ∨ !lawRuns v late l then s
  else
    let ff := if v.mode = .seek then v.shapeOut else 0
    let l' := runLaw v.secs (lawOf v l) v.followPar.hBlend v.followPar.nBlend (vcmClips v.seekPar.iLim) ff (toQ24 x)
    let u := satW 32 (l'.out + ff)
    issueVcm (updAct s a fun y => { updLaw y l (fun _ => l') with
        vcmMissRun := 0, blending := y.blending || decide (l'.blendLeft ≠ 0) })
      a (vcmCommand v.seekPar.iLim u) u (vcmClips v.seekPar.iLim u)

/-- The seek shaping law: in SEEK its input is the reference acceleration and its output the feedforward;
during a track switch its input is the step and its output the part of it that the reference has taken,
all of it after 16 frames (R94, R96). DESIGN CHOICE: both in lakebed tracks, the acceleration per frame². -/
def runShaping (late : List Nat) (a : Act) (s : State) : State :=
  updAct s a fun x =>
    let sw := decide (0 < x.switchLeft)
    if x.mode ≠ .seek ∧ !sw then x
    else
      let input := if sw then x.target - x.switchFrom else x.refAcc
      let y := if lawRuns x late 21 then
          let l' := runLaw x.secs (lawOf x 21) 0 0 (fun _ => false) 0 (toQ24 input)
          { updLaw x 21 (fun _ => l') with shapeOut := l'.out }
        else x
      if !sw then y
      else if y.switchLeft = 1 then { y with switchLeft := 0, refTarget := y.target, shapeOut := 0 }
      else { y with switchLeft := y.switchLeft - 1, refTarget := y.switchFrom + ofQ24 y.shapeOut }

/-- A consumed position as the observer takes it: none of an invalid sample (R92). -/
def obsInput (p : Int × Bool) : List Int := if p.2 then [1, p.1] else [0, 0]

/-- The observer's update: the actuator's estimate and one displacement per active head, from the commands
issued and the consumed samples; their values are free (R92). -/
def observe (late : List Nat) (a : Act) (smp : List (Int × Bool)) (s : State) : State :=
  let x := s.acts[a]
  if !lawRuns x late 20 then s
  else
    let ins := [x.obsPos, x.obsVel, x.vcmCmd] ++ x.obsMode.toList ++ x.maEst.toList ++ x.maCmd.toList ++ smp.flatMap obsInput
    let est := fun k => satW 44 (Config.estimate k ins s.freeCtr)
    updAct (takeFree s).2 a fun y => { y with
      obs0 := some (y.obsPos, y.obsVel, y.obsMode, y.maEst), obsPos := est 0, obsVel := est 1, obsMode := Vector.ofFn fun i : Fin 5 => est (2 + i.val)
      maEst := (activeHeads x).foldl (fun v h => vupd v (localHead s h) fun _ => satW 34 (est (8 + (localHead s h).val))) y.maEst }

/-- The heater table of a head and zone at the spindle speed, with the backoff of R202 (R201). -/
def heaterTable (s : State) (h : Hd) (z : Zn) : Nat :=
  let w := s.wheads[h]
  let t := interp5 (if w.htrWriteVal then w.hz[z].htrWrite else w.hz[z].htrRead) s.spn.meas
  let back := if w.htrWriteVal then w.hz[z].backWrite else w.hz[z].backRead
  if back then t * (100 - (parOf s h).htrBackoff) / 100 else t

/-- The heater law of one head, on its own states: the table, plus the sections' output on the clearance
estimate times HTR_FB where HTR_FB is not 0, clipped to 200.0 mW (R85, R201). The scalings between the
estimate, the sections and the power are free. -/
def heaterLaw (s : State) (a : Act) (h : Hd) (z : Zn) : State :=
  let w := s.wheads[h]
  let x := s.acts[a]
  let hl := s.hloops[h]
  let t := heaterTable s h z
  let l := { lawOf x 22 with st := hl.heatSt, out := hl.heatOut, blendLeft := 0,
                             pendStart := if hl.heatStart then some 0 else none }
  let r := runLaw x.secs l 32767 0 (fun _ => false) 0 (Config.heaterInput w.clear w.htrFbNow)
  let fb := decide (w.htrFbNow ≠ 0)
  let v := if fb then (clampI 0 2000 ((t : Int) + Config.heaterPower r.out)).toNat else min t 2000
  let out := if w.htrHold then 0 else v
  let s0 := updHloop s h fun y => { y with heatSt0 := y.heatSt, heatOut0 := y.heatOut, pwr0 := w.htrPwr }
  let s1 := if fb ∧ !w.htrHold then
      updHloop s0 h fun y => { y with heatSt := r.st, heatOut := r.out, heatStart := false } else s0
  let since := if w.htrWriteVal then some (w.htrSince.getD s.us) else none
  updPlk (updWhead s1 h fun w => { w with htrPwr := out, htrSince := since }) a fun l => { l with hcmd := some (h, out) }

/-- The heater law's turn for the head of this frame (R85); a miss or a coefficient error holds its output
(R90, R91). -/
def runHeater (late : List Nat) (a : Act) (s : State) : State :=
  let x := s.acts[a]
  if late.contains 22 ∨ (lawOf x 22).err ∨ x.frame % 5 ≠ 0 then s
  else
    match (headsOf s a)[x.frame % 40 / 5]? with
    | none => s
    | some h => heaterLaw s a h (match streamOfHead s h with | some m => s.streams[m].zone | none => 0)

/-- The micro-actuator ramps of R104 and R110 advance by one sample. -/
def rampStep (place : Hd → Fin 8) (x : Actuator) : Actuator :=
  let drop := if 0 < x.dropRampLeft then x.fallback.map place else none
  let y := if x.maRampLeft = 0 then x
    else { x with maRampLeft := x.maRampLeft - 1
                  maCmd := Vector.ofFn fun i : Fin 8 =>
                    if drop = some i then x.maCmd[i] else x.maRampFrom[i] * ((x.maRampLeft - 1 : Nat) : Int) / 64 }
  match drop with
  | some i => { y with dropRampLeft := y.dropRampLeft - 1
                       maCmd := vupd y.maCmd i fun _ => y.dropFrom * ((y.dropRampLeft - 1 : Nat) : Int) / 64 }
  | none => y

/-- An uncorrectable coefficient error in law `l`: COEF_ERR, the law held, and a guard trip condition of the
actuator's write gate for a VCM, micro-actuator or predictor law (R91, R189). -/
def coefError (a : Act) (s : State) (l : Nat) : State :=
  let s1 := updAct s a fun x => { updLaw x l (fun w => { w with err := true }) with coefErr := true }
  if l ≤ 19 then tripNow s1 a 0x2 else s1

/-- The filter of the natural offset once per frame, in TWIN and on the way to it; DRIFT and the strokes
are reported from it (R108, R113). -/
def twinFrame (s : State) (a : Act) : State :=
  let x := s.acts[a]
  match activePartner x with
  | some p =>
    if !x.natInit then s
    else
      let pL := (surfOf s x.leadHead).pL
      let f := satW 34 (Config.twinFilter x.twinPar.tau x.natFilt x.natOff)
      updAct s a fun y => { y with
        natFilt := f
        drift := satW 16 ((f - pairDW x) * pL * 4 / 102400)
        strokeLead := min ((y.maEst[localHead s x.leadHead]).natAbs * pL * 256 / 81920000) 255
        strokePartner := min ((y.maEst[localHead s p]).natAbs * pL * 256 / 81920000) 255 }
  | none => s

/-- The VCM law's input: seek on the reference, settle and follow on the served head, twin on the mean of
both heads rounded down (DESIGN CHOICE), hold on the observer's estimate (R94, R105). -/
def vcmInput (x : Actuator) (eL : Int) (eP : Option Int) : Int :=
  match x.mode with
  | .seek => x.refPos - x.obsPos
  | .twin => (match eP with | some e => (eL + e) / 2 | none => eL)
  | .hold => x.obsPos - x.target
  | _ => eL

/-- What drives the VCM in slot 0 (R82, R94, R454). -/
def vcmSlot (late : List Nat) (a : Act) (input : Int) (s : State) : State :=
  let x := s.acts[a]
  if x.park ≠ .none then parkFrame s a
  else match x.mode with
    | .parked => s
    | .ramp => rampFrame s a
    | _ => runVcm late a s input

/-- The partner's part of the input latch: its head, position and validity, and the state after it. -/
def latchPartner (s : State) (a : Act) (posL : Int) (okL : Bool) : Option (Hd × Int × Bool) × State :=
  let x := s.acts[a]
  match activePartner x with
  | some p =>
    let q := consume s ((streamOfHead s p).getD (stream1 a))
    (some (p, q.1, q.2.1), updAct q.2.2 a (supervisePartner posL q.1 x.maEst[localHead s x.leadHead] x.maEst[localHead s p]
      okL q.2.1 (x.twinPar.exit * 102400 / pitchOf s a)))
  | none => (none, s)

/-- MA_SAT of the sample and its run in TWIN (R95, R110). -/
def satCount (x : Actuator) : Actuator :=
  { x with satRun := if x.mode = .twin ∧ x.maSat then satInc 2 x.satRun else 0 }

/-- The laws and supervision of one slot after the input latch (R85, R94, R99 to R101, R105). -/
def slotLaws (a : Act) (late : List Nat) (offRamp : Bool) (s : State) : State :=
  let m := servedStream s a
  let c := consume s m
  let vFine := s.heads[s.acts[a].leadHead].demod.vFine
  let s1 := updAct c.2.2 a fun x =>
    let y := superviseLead c.1 c.2.1 { x with maSat := false, satLead := false, maCmd0 := x.maCmd }
    { y with due := match y.due with | some d => some d | none => leadDue c.2.2.streams[m] vFine c.1 c.2.1 offRamp y }
  let q := latchPartner s1 a c.1 c.2.1
  let pos := q.1.map fun p => (p.1, p.2.1)
  let wok := match s.wps[a].run, q.1 with
    | some r, some p => if r.ord.head = p.1 then p.2.2 else c.2.1
    | _, _ => c.2.1
  let s2 := updAct q.2 a (superviseWrite wok (writeError q.2 a c.1 pos))
  let x := s2.acts[a]
  let s3 := forEach (activeHeads x) s2 (issuePrediction late a)
  let eL := c.1 - x.refTarget
  let eP := pos.map fun p => p.2 - (x.refTarget + pairDW x)
  let s4 := if maRuns x.mode ∧ x.park = .none then
      let t := runMa late a s3 x.leadHead eL
      match pos, eP with | some p, some e => runMa late a t p.1 e | _, _ => t
    else s3
  let s5 := updAct s4 a satCount
  let dP := pos.map fun p => x.maEst[localHead s p.1]
  let input := vcmInput x (eL - x.maEst[localHead s x.leadHead]) (match eP, dP with | some e, some d => some (e - d) | _, _ => none)
  let s6 :=
    if x.slot = 0 then vcmSlot late a input (updAct s5 a fun x =>
      { x with vcmOut0 := x.vcmOut, vcmCmd0 := x.vcmCmd, vcmMissRun0 := x.vcmMissRun })
    else if x.slot = 1 then observe late a ((c.1, c.2.1) :: (q.1.map fun p => p.2).toList) s5
    else if x.slot = 2 then runShaping late a s5
    else runHeater late a s5
  updAct s6 a fun x => { rampStep (localHead s) x with maStep := (x.maStep + 1) % 16 }

/-- The following error of the frame (R99). -/
def errFrame (s : State) (a : Act) : State :=
  updAct s a fun x =>
    if x.mode = .seek ∧ !x.stopPlan then
      { x with errFrames := if (x.obsPos - x.refPos).natAbs ≤ x.seekPar.eSeek * 1024 then 0 else satInc 8 x.errFrames }
    else x

/-! ### Law writes and parameters (R89, R114) -/

/-- A law write takes effect: the law's own sections and descriptor, and, where it runs, a bumpless start
against the output last issued (R89, R102). -/
def applyLawWrite (running : List Nat) (place : Nat → Option (Fin 8)) (x : Actuator) (w : LawWrite) : Actuator :=
  let secs := w.secs.zipIdx.foldl (fun (v : Vector Section 512) p =>
    vupd v (⟨(w.start + p.2) % 512, Nat.mod_lt _ (by decide)⟩ : Fin 512) fun _ => p.1) x.secs
  let old : Int := if 16 ≤ w.law ∧ w.law ≤ 19 then x.vcmOut
    else match place w.law with | some i => maOutput x.maCmd[i] | none => (lawOf x w.law).out
  updLaw { x with secs := secs } w.law fun l =>
    { l with valid := true, count := w.count, start := w.start, err := false, st := [], blendLeft := 0,
             pendStart := if running.contains w.law then some old else none }

/-- The actuator-local place whose micro-actuator law has index `l`. -/
def maPlace (l : Nat) : Option (Fin 8) := if h : l < 8 then some ⟨l, h⟩ else none

/-- Parameters and laws accepted since the last frame take effect (R89, R114). -/
def latchFrame (running : List Nat) (x : Actuator) : Actuator :=
  let y := x.lawPend.foldl (applyLawWrite running maPlace) { x with lawPend := [] }
  { y with seekPar := y.seekPend.getD y.seekPar, seekPend := none,
           followPar := y.followPend.getD y.followPar, followPend := none,
           wreadyRun := match y.followPend with
             | some p => if p.tWready = y.followPar.tWready ∧ p.nWready = y.followPar.nWready then y.wreadyRun else 0
             | none => y.wreadyRun }

/-- With the laws in error reloaded, the re-open condition of COEF becomes that of POSITION (R188). -/
def reloadReopen (s : State) (a : Act) : State :=
  if s.wps[a].reopen.contains 0x2 && (s.acts[a].laws.toList.take 20).all fun l => !l.err then
    updWp s a fun p => { p with reopen := (p.reopen.filter fun c => decide (c ≠ 0x1 ∧ c ≠ 0x2)) ++ [0x1] }
  else s

/-! ### Assist laws (R195 to R199) -/

/-- Law `l` of LE4. -/
def law4 (s : State) (l : Nat) : Law := s.spn.laws[(⟨l % 32, Nat.mod_lt _ (by decide)⟩ : Fin 32)]

/-- Law `l` of LE4 changed by `f`. -/
def updLaw4 (s : State) (l : Nat) (f : Law → Law) : State :=
  updSpn s fun p => { p with laws := vupd p.laws (⟨l % 32, Nat.mod_lt _ (by decide)⟩ : Fin 32) f }

/-- The laws LE4 runs now: the spindle's while it turns, the assist law of each path with AEa high, and
the temperature filters. -/
def running4 (s : State) : List Nat :=
  (if s.spn.st = .stopped then [] else [0, 1, 2, 3]) ++
  ((allActs.filter fun a => s.wps[a].ae).map fun a => 4 + a.val) ++ allActs.map fun a => 8 + a.val

/-- A law write of LE4 takes effect: its sections and its descriptor, and, where the law runs, a bumpless
start against the output last issued (R84, R89, R102). -/
def loadLaw4 (running : List Nat) (p : Spindle) (w : LawWrite) : Spindle :=
  let ss := w.secs.zipIdx.foldl (fun (v : Vector Section 512) q =>
    vupd v (⟨(w.start + q.2) % 512, Nat.mod_lt _ (by decide)⟩ : Fin 512) fun _ => q.1) p.secs
  { p with secs := ss, laws := if h : w.law < 32 then vupd p.laws ⟨w.law, h⟩ fun x =>
      { x with valid := true, count := w.count, start := w.start, st := [], err := false, blendLeft := 0
               pendStart := if running.contains w.law then some x.out else none } else p.laws }

/-- Law writes of LE4 accepted since the last frame take effect (R89). -/
def latchLe4 (s : State) : State :=
  let run := running4 s
  updSpn s fun p => p.lawPend.foldl (loadLaw4 run) { p with lawPend := [] }

/-- The zone of the run in progress on a write path. -/
def runZone (s : State) (a : Act) : Zn :=
  match bandOf s a (runCtx s a) with | some b => b.zone | none => 0

/-- P_SET of the run's head and zone at the spindle speed, without a reduction (R196). -/
def pSetBase (s : State) (a : Act) : Nat :=
  interp5 (s.wheads[s.wps[a].sel].hz[runZone s a].pSet) s.spn.meas

/-- FF of the run's head and zone at the spindle speed, drive codes (R196, R200). -/
def ffOf (s : State) (a : Act) : Nat :=
  min (interp5 (s.wheads[s.wps[a].sel].hz[runZone s a].ffNow) s.spn.meas / 256) 65535

/-- The reduction in per cent for a filtered temperature above AT_LIMIT, 2 % for each °C, at most
20 % (R199). -/
def atReduction (atFilt atLimit : Nat) : Nat := min 20 (atFilt - 2 * atLimit)

/-- The clip of the drive code (R196). -/
def driveMax (p : WritePath) : Nat := 65535 * p.par.iAsMax / 100

/-- The drive code of a law output (R196). -/
def driveCode (p : WritePath) (u : Int) : Int := clampI 0 (driveMax p) (roundAway u 8)

/-- The input of the assist power law: (P_SET - P_MON) / P_SET in Q8.24 (R196). -/
def assistInput (pSet mon : Nat) : Int := satW 32 (((pSet : Int) - mon) * 2 ^ 24 / (max pSet 1))

/-- ASSIST_FAULT with the event of a completed condition 0 to 4 (R198). -/
def assistFault (s : State) (a : Act) (cond : Nat) : State :=
  let p := s.wps[a]
  raise (updWp s a fun p => { p with assistFault := true }) .assistFault 2 0x08 a.val (p.sel.val + 256 * cond) p.pSet p.pMon

/-- The trip of a completed assist condition 0 to 4 (R198). -/
def assistTrip (s : State) (a : Act) (cond : Nat) : State := tripNow (assistFault s a cond) a 0x3

/-- A trip cause that coincides with a lower one on head `h`: its re-open condition and the event (R189). -/
def otherTrip (s : State) (a : Act) (h : Hd) (cause : Nat) : State :=
  let s1 := addReopen s a cause
  let s2 := if blocks cause then updWhead s1 h fun w => { w with blocked := true } else s1
  raise s2 .otherCause 0 0x08 a.val h.val cause

/-- The temperature filter of a path: its law on the temperature of the last good telemetry frame; the
scalings of its input and output are free (R195, R199). -/
def tempFrame (late : List Nat) (a : Act) (s : State) : State :=
  let l := law4 s (8 + a.val)
  if late.contains 33 ∨ !l.valid ∨ l.err then s
  else
    let f := s.acts[a].followPar
    let l' := runLaw s.spn.secs l f.hBlend f.nBlend (fun _ => false) 0 (Config.tempInput s.plks[a].atemp)
    updWp (updLaw4 s (8 + a.val) fun _ => l') a fun p => { p with atFilt := (Config.tempOutput l'.out).toNat }

/-- The assist power law of a path runs once (R196). -/
def powerFrame (late : List Nat) (a : Act) (s : State) : State :=
  let p := s.wps[a]
  let l := law4 s (4 + a.val)
  let miss := late.contains 32
  let hold := miss || !l.valid || l.err
  let mon := if p.monN = 0 then p.pMon else p.monSum / p.monN
  let f := s.acts[a].followPar
  let sat := fun u => decide (driveCode p u ≠ roundAway u 8)
  let l' := if hold then l else runLaw s.spn.secs l f.hBlend f.nBlend sat 0 (assistInput p.pSet mon)
  let code := if hold then p.adrive else (driveCode p l'.out).toNat
  let clip := !hold && decide ((driveMax p : Int) < roundAway l'.out 8)
  updWp (updLaw4 s (4 + a.val) fun _ => l') a fun p =>
    { p with adrive := code, aseq := (p.aseq + 1) % 16, driveLog := (code :: p.driveLog).take 16,
             clipRun := if clip then satInc 8 p.clipRun else 0,
             missRun := if miss then satInc 4 p.missRun else 0, monSum := 0, monN := 0,
             run := p.run.map fun r => { r with lawFrames := r.lawFrames + 1 } }

/-- AE_LEAD has passed since AEa rose (R198). -/
def leadPassed (s : State) (a : Act) : Bool := decide (s.wps[a].par.lim.aeLead ≤ 80 * s.wps[a].framesSinceAe)

/-- The assist laws of one 2.5 µs frame (R195 to R199). -/
def assistFrame (late : List Nat) (a : Act) (s : State) : State :=
  let s1 := tempFrame late a s
  let red := atReduction s1.wps[a].atFilt s1.wps[a].par.atLimit
  let s2 := updWp s1 a fun p =>
    { p with pSet := pSetBase s1 a * (100 - red) / 100, atLimitHit := decide (0 < red) }
  if s2.wps[a].ae then powerFrame late a s2
  else updWp s2 a fun p => { p with adrive := 0, monSum := 0, monN := 0 }

/-- The assist condition that a law frame completes: 3 clipped, 4 missed (R198). -/
def frameCond (s : State) (a : Act) : Option Nat :=
  if !(s.wps[a].ae && leadPassed s a) then none
  else if 8 ≤ s.wps[a].clipRun then some 3
  else if 4 ≤ s.wps[a].missRun then some 4
  else none

/-! ### The slot (R85, R86) -/

/-- An uncorrectable error in the coefficients of law `l`: 0 to 22 the engine's own, 32 and 33 the path's
assist power law and temperature filter, which hold their output until reloaded (R91). -/
def uncorrError (a : Act) (s : State) (l : Nat) : State :=
  if l = 32 then updLaw4 s (4 + a.val) fun w => { w with err := true }
  else if l = 33 then updLaw4 s (8 + a.val) fun w => { w with err := true }
  else if l < 23 then coefError a s l
  else s

/-- The sample strobe an engine's slot stands for: the strobe in progress, or the next one where the engine
has run its slot already. Slot and frame are the same on all four engines; LE4's law writes take effect with
the first slot of a frame (R85, R89). -/
def strobeFor (a : Act) (s : State) : State :=
  let old := s.strobeDone.contains a
  let first := old || s.strobeDone.isEmpty
  let n := if old then s.strobe + 1 else s.strobe
  let s1 := { s with strobe := n, strobeDone := if old then [a] else a :: s.strobeDone }
  let s2 := if first && decide (n % 4 = 0) then latchLe4 s1 else s1
  updGuard (updAct s2 a fun x => { x with slot := n % 4, frame := n / 4 }) a latchGuard

/-- What the first slot of a frame does before its laws: new parameters and laws, the modes, the reference,
the pair and the assist laws (R85, R89, R98, R100, R107, R195). -/
def frameStart (late : List Nat) (accs : List Int) (a : Act) (s : State) : State :=
  let s1 := reloadReopen (updAct s a (latchFrame (runningLaws s a))) a
  let s2 := frameModes s1 a
  let s3 := updAct s2 a (trajStep (pitchOf s2 a) accs)
  assistFrame late a (twinFrame (errFrame s3 a) a)

/-- The frame's assist laws, the coefficient errors of the slot, and the trips both make: the lower cause is
reported, the other recorded (R91, R189, R198). -/
def slotTrips (late uncorr : List Nat) (accs : List Int) (a : Act) (s : State) : State :=
  let s1 := if s.acts[a].slot = 0 then frameStart late accs a s else s
  let cond := if s.acts[a].slot = 0 then frameCond s1 a else none
  let s2 := forEach uncorr s1 (uncorrError a)
  match cond with
  | none => s2
  | some c => if s2.wps[a].ae then assistTrip s2 a c else otherTrip (assistFault s2 a c) a s1.wps[a].sel 0x3

/-- The misses of the running laws that `late` names (R90). -/
def countMisses (late : List Nat) (s : State) (a : Act) (x : Actuator) : Actuator :=
  (late.filter fun l => (runningLaws s a).contains l && lawSlot x.slot l && (lawOf x l).valid &&
    (decide (l ≠ 22) || decide (x.frame % 5 = 0))).foldl missLaw x

/-- LOOP_SLOT: one 625 ns slot of an engine (R85 to R98, R101, R105, R108). `late` names the laws
that miss their deadline (32 and 33 the path's assist power law and temperature filter), `uncorr` those
whose coefficients show an uncorrectable error, `accs` the trajectory points the supervisor core has fed,
as reference accelerations; `offRamp` says that the head is off the ramp (R100). -/
def loopSlot (a : Act) (late uncorr : List Nat) (accs : List Int) (offRamp : Bool) (s : State) : State :=
  if !(powered s && !s.actRecs[a].failed) then s
  else
    let s1 := slotTrips late uncorr accs a (strobeFor a s)
    updAct (slotLaws a late offRamp s1) a (countMisses late s1 a)

def execLoopSlot (a : Act) (late uncorr : List Nat) (x : SlotFacts) (s : State) : Host.Outcome State Fault Refusal :=
  .next (loopSlot a late uncorr x.accs x.offRamp s)

/-! ### Events of the engine and the supervisor -/

/-- The output of law `l` in the slot in progress taken back: the command before it goes out again
(R90). -/
def reissue (s : State) (a : Act) (l : Nat) : State :=
  let s1 := updAct s a fun x => updLaw x l undoLaw
  if l ≤ 7 then
    match maPlace l with
    | some i => updAct s1 a fun x => { x with maCmd := vupd x.maCmd i fun _ => x.maCmd0[i] }
    | none => s1
  else if l ≤ 15 then
    match (headsOf s a)[l - 8]?.bind (streamOfHead s) with
    | some m => updStream s1 m fun x => { x with preds := x.preds.dropLast }
    | none => s1
  else if l ≤ 19 then
    let x := s.acts[a]
    issueVcm s1 a x.vcmCmd0 x.vcmOut0 (vcmClips x.seekPar.iLim x.vcmOut0)
  else if l = 20 then
    updAct s1 a fun x => match x.obs0 with
      | some o => { x with obsPos := o.1, obsVel := o.2.1, obsMode := o.2.2.1, maEst := o.2.2.2 }
      | none => x
  else if l = 21 then
    updAct s1 a fun x =>
      let y := { x with shapeOut := (lawOf x 21).out }
      if 0 < y.switchLeft then { y with refTarget := y.switchFrom + ofQ24 y.shapeOut } else y
  else
    match (headsOf s a)[s.acts[a].frame % 40 / 5]? with
    | some h => updPlk (updWhead (updHloop s1 h fun y => { y with heatSt := y.heatSt0, heatOut := y.heatOut0 }) h fun w =>
        { w with htrPwr := s.hloops[h].pwr0 }) a fun p => { p with hcmd := some (h, s.hloops[h].pwr0) }
    | none => s1

/-- LAW_DEADLINE_MISS: one running law of the slot in progress misses its deadline: its flag and the count,
its previous output and its states (R90). DESIGN CHOICE: a slot's misses can also be named by LOOP_SLOT;
this one tells of a miss after the slot's laws have run. -/
def lawDeadlineMiss (a : Act) (l : Nat) (s : State) : State :=
  if powered s && (runningLaws s a).contains l && lawSlot s.acts[a].slot l && (lawOf s.acts[a] l).valid then
    updAct (reissue s a l) a fun x => missLaw { x with vcmMissRun := if 16 ≤ l ∧ l ≤ 19 then x.vcmMissRun0 else x.vcmMissRun } l
  else s

def execLawDeadlineMiss (a : Act) (l : Nat) (s : State) : Host.Outcome State Fault Refusal :=
  .next (lawDeadlineMiss a l s)

/-- VCM_MISS_RETRACT: the VCM law missed in 16 consecutive frames (R90). -/
def vcmMissRetract (a : Act) (s : State) : State :=
  if powered s && decide (16 ≤ s.acts[a].vcmMissRun) && decide (s.acts[a].mode ≠ .parked) && !parks s.acts[a] then
    raise (retract s a) .vcmRetract 2 0x05 a.val a.val
  else s

def execVcmMissRetract (a : Act) (s : State) : Host.Outcome State Fault Refusal := .next (vcmMissRetract a s)

/-- A target can be posted: the actuator is loaded, is not being parked or unloaded, and has not failed. -/
def seekTaken (s : State) (a : Act) (t : SeekTarget) : Bool :=
  let x := s.acts[a]
  live s && decide (actOf s t.head = a) && inDrive s t.head && !s.actRecs[a].failed && !x.retracting &&
    decide (x.park = .none) && !x.unloadReq && !x.stopPlan && decide (x.mode ≠ .parked)

/-- SEEK_TARGET: the pilot posts a target, which the supervisor takes at the next frame boundary (R96, R97).
A target whose modes' VCM laws are not loaded is answered with LAW_MISSING (R88). -/
def seekTarget (a : Act) (t : SeekTarget) (s : State) : State :=
  if !seekTaken s a t then s
  else
    let t' := { t with target := targetOf s t.head t.req t.target }
    let x := s.acts[a]
    if isSwitch x t' ∨ (lawsFor t').all fun l => (lawOf x l).valid then
      updAct s a fun x => { x with newSeek := some t', seekPending := true, seekStatus := 0 }
    else updAct s a fun x => { x with seekStatus := 0x000D }

def execSeekTarget (a : Act) (t : SeekTarget) (s : State) : Host.Outcome State Fault Refusal :=
  .next (seekTarget a t s)

/-- TRAJ_STOP_PLAN: four consecutive frames without a trajectory point: the engine decelerates at A_MAX; HOLD,
the event and the failed seek follow at the frame boundary at which the speed is at most V_FINE (R98). -/
def trajStopPlan (a : Act) (s : State) : State :=
  let x := s.acts[a]
  if powered s && decide (4 ≤ x.emptyFrames) && decide (x.mode = .seek) && !x.stopPlan && !parks x then
    updAct s a fun x => { x with stopPlan := true, stopFail := false, traj := [] }
  else s

def execTrajStopPlan (a : Act) (s : State) : Host.Outcome State Fault Refusal := .next (trajStopPlan a s)

/-- SEEK_ABORT: a following error above E_SEEK for 8 frames: the plan starts again from the observer's state;
after N_ABORT aborts in one seek the stop plan ends it (R97, R99). -/
def seekAbort (a : Act) (s : State) : State :=
  let x := s.acts[a]
  if powered s && decide (8 ≤ x.errFrames) && decide (x.mode = .seek) && !x.stopPlan && !parks x then
    let stop := decide (x.seekPar.nAbort ≤ x.aborts + 1)
    updAct s a fun x =>
      let y := { x with seekAbort := true, aborts := x.aborts + 1, errFrames := 0, traj := [],
                        refPos := x.obsPos, refVel := 4 * x.obsVel, refAcc := 0, stopPlan := stop, stopFail := stop }
      { y with brake := mustBrake (pitchOf s a) y }
  else s

def execSeekAbort (a : Act) (s : State) : Host.Outcome State Fault Refusal := .next (seekAbort a s)

/-- The rms of e_h over the window lies above T_FOLLOW (R99). -/
def rmsHigh (x : Actuator) (sum : Nat) : Bool := decide (x.followPar.tFollow * x.followPar.tFollow * x.rmsN < sum)

/-- FOLLOW_RMS_CHECK: the rms of e_h of each head over 1,024 samples against T_FOLLOW (R99). -/
def followRmsCheck (a : Act) (s : State) : State :=
  let x := s.acts[a]
  if powered s && decide (1024 ≤ x.rmsN) then
    let s1 := updAct s a fun x => { x with rmsN := 0, rmsSum := 0, rmsSumP := 0 }
    let s2 := if rmsHigh x x.rmsSum then raise s1 .rmsHigh 0 0x05 a.val x.leadHead.val else s1
    match activePartner x with
    | some p => if rmsHigh x x.rmsSumP then raise s2 .rmsHigh 0 0x05 a.val p.val else s2
    | none => s2
  else s

def execFollowRmsCheck (a : Act) (s : State) : Host.Outcome State Fault Refusal := .next (followRmsCheck a s)

/-- ACTUATOR_LOAD: a load is requested with the spindle at or above 4,800 rpm; RAMP follows at the frame
boundary (R100). -/
def actuatorLoad (a : Act) (s : State) : State :=
  if powered s && !s.bw.started && decide (s.acts[a].mode = .parked) && decide (38400 ≤ s.spn.meas) &&
      !s.actRecs[a].failed && decide (s.plks[a].l.st = .up) && decide (s.psl.l.st = .up) then
    updPsl (updAct s a fun x => { x with loadReq := true, unloadReq := false, retracting := false, park := .none }) fun p =>
      { p with ven := vupd p.ven a fun _ => true }
  else s

def execActuatorLoad (a : Act) (s : State) : Host.Outcome State Fault Refusal := .next (actuatorLoad a s)

/-- The pair is lost to a write: a paired run in progress trips, and paired bands go on unpaired (R107, R188,
R206). -/
def pairLost (s : State) (a : Act) : State :=
  let cs := pairedCtxs s a
  if cs = [] then s
  else if s.wps[a].ae && !cs.contains (runCtx s a) then forEach cs (addReopen s a 0x6) fun t c => unpair t a c
  else tripNow s a 0x6

/-- The pair falls back: head `d` is dropped; the holdoff of the pair begins (R110, R111). -/
def dropPair (s : State) (a : Act) (d : Hd) (k : Nat) : State :=
  let x := s.acts[a]
  let pair : Hd × Hd := (x.leadHead, x.partner.getD d)
  pairLost (updActCtr (updAct s a fun x =>
    { x with twinFallback := true, fallback := some d, fbTrigger := k, fbPair := pair, fbDrift := x.drift,
             holdoff := pair :: x.holdoff.filter (· ≠ pair) })
    a fun c => { c with twinFallbacks := ctrAdd c.twinFallbacks 1 }) a

/-- Ask for an unload: a pending seek is discarded, a pair falls back; RAMP follows at the frame boundary
(R100, R110). -/
def unload (s : State) (a : Act) : State :=
  let x := s.acts[a]
  if x.mode = .parked then updAct s a fun x => { x with loadReq := false }
  else
    let s1 := match x.partner with
      | some p => if x.mode = .twin ∧ x.fallback.isNone then dropPair s a p 6 else s
      | none => s
    updAct s1 a fun x =>
      { x with unloadReq := true, loadReq := false, newSeek := none, seekPending := false, writeReady := false, wreadyRun := 0 }

/-- ACTUATOR_UNLOAD (R100). -/
def execActuatorUnload (a : Act) (s : State) : Host.Outcome State Fault Refusal :=
  .next (if powered s then unload s a else s)

/-- The head has reached the ramp stop: PARKED, VCM current 0, its streams without an angle (R82, R100). -/
def onRampStop (s : State) (a : Act) : State :=
  updPsl (angleLost (updAct s a parkedNow) a) fun p =>
    { p with vcm := vupd p.vcm a fun _ => 0, vcmNew := true, ven := vupd p.ven a fun _ => false }

/-- RAMP_STOP_REACHED: RAMP to PARKED, VCM current 0 (R82, R100). In the breakwater sequence R454 says instead
when an actuator is PARKED. -/
def rampStopReached (a : Act) (s : State) : State :=
  if powered s && decide (s.acts[a].mode = .ramp) && !s.acts[a].loadReq && !s.bw.started then onRampStop s a else s

def execRampStopReached (a : Act) (s : State) : Host.Outcome State Fault Refusal := .next (rampStopReached a s)

/-- WRITE_READY_SET: within T_WREADY for N_WREADY samples; the re-open condition of a position trip
is met (R101, R188). -/
def writeReadySet (a : Act) (s : State) : State :=
  let x := s.acts[a]
  if powered s && decide (x.mode = .follow ∨ x.mode = .twin) && decide (x.followPar.nWready ≤ x.wreadyRun) && !x.writeReady &&
      !parks x then
    updWp (updAct s a fun x => { x with writeReady := true }) a fun p =>
      { p with reopen := p.reopen.filter fun c => decide (c ≠ 0x1) }
  else s

def execWriteReadySet (a : Act) (s : State) : Host.Outcome State Fault Refusal := .next (writeReadySet a s)

/-- BLEND_END: with the last blended sample of a law its blend is over (R103). -/
def blendEnd (a : Act) (l : Nat) (s : State) : State :=
  if powered s && decide ((lawOf s.acts[a] l).blendLeft = 0) then
    updAct s a fun x =>
      let y := updLaw x l fun w => { w with blendDelta := 0 }
      { y with blending := y.laws.toList.any fun w => decide (w.blendLeft ≠ 0) }
  else s

def execBlendEnd (a : Act) (l : Nat) (s : State) : Host.Outcome State Fault Refusal := .next (blendEnd a l s)

/-- MA_RAMP_END: the micro-actuator ramp of a seek has reached 0 and the law states clear (R104). -/
def maRampEnd (a : Act) (s : State) : State :=
  if powered s && decide (s.acts[a].maRampLeft = 0) && decide (s.acts[a].mode = .seek) then
    updAct s a fun x => (List.range 8).foldl (fun y l => updLaw y l fun w => { w with st := [], out := 0 }) x
  else s

def execMaRampEnd (a : Act) (s : State) : Host.Outcome State Fault Refusal := .next (maRampEnd a s)

/-- HOLD_ENTRY: 16 consecutive missing samples on the only valid head (R105); HOLD needs the follow law
(R88). -/
def holdEntry (a : Act) (s : State) : State :=
  let x := s.acts[a]
  if powered s && maRuns x.mode && decide (16 ≤ x.missRun) && (decide (x.mode ≠ .twin) || decide (16 ≤ x.missRunP)) &&
      (lawOf x 18).valid && !parks x then
    updAct s a fun x => { enterMode (localHead s) .hold x with holdMiss := true }
  else s

def execHoldEntry (a : Act) (s : State) : Host.Outcome State Fault Refusal := .next (holdEntry a s)

/-- HOLD_TIMEOUT_RETRACT: no valid sample for 1.0 ms in HOLD (R105). -/
def holdTimeoutRetract (a : Act) (s : State) : State :=
  if powered s && decide (s.acts[a].mode = .hold) && decide (s.acts[a].validRun = 0) && !parks s.acts[a] then
    raise (retract s a) .holdRetract 2 0x05 a.val a.val
  else s

def execHoldTimeoutRetract (a : Act) (s : State) : Host.Outcome State Fault Refusal := .next (holdTimeoutRetract a s)

/-! ### Twin streams (R106 to R111) -/

/-- TWIN_REGISTRATION: the mean natural offset of 64 consecutive valid samples, rounded to the position unit,
with the junction temperature of the moment (R107, R207). -/
def twinRegistration (a : Act) (s : State) : State :=
  if powered s && decide (s.acts[a].mode = .twin) && decide (64 ≤ s.acts[a].regN) then
    updAct s a fun x => { x with regDone := some ((x.regSum + 32) / 64), regTemp := s.pmu.tj, regN := 0, regSum := 0 }
  else s

def execTwinRegistration (a : Act) (s : State) : Host.Outcome State Fault Refusal := .next (twinRegistration a s)

/-- A stream shows LOST or ACQ_FAIL. -/
def streamGone (s : State) (m : Option Strm) : Bool :=
  match m with | some m => s.streams[m].lost || s.streams[m].acqFail | none => false

/-- A trigger of R110 holds on the lead head, and on the partner: 1 stroke, 2 MA_SAT, 3 missing samples,
4 LOST or ACQ_FAIL. -/
def triggerOn (s : State) (a : Act) (p : Hd) (k : Nat) : Bool × Bool :=
  let x := s.acts[a]
  let units := x.twinPar.exit * 102400 / pitchOf s a
  if k = 1 then (decide (units ≤ (x.maEst[localHead s x.leadHead]).natAbs), decide (units ≤ (x.maEst[localHead s p]).natAbs))
  else if k = 2 then (x.satLead, x.maSat && !x.satLead)
  else if k = 3 then (decide (4 ≤ x.missRun), decide (4 ≤ x.missRunP))
  else if k = 4 then (streamGone s (streamOfHead s x.leadHead), streamGone s (streamOfHead s p))
  else (false, false)

/-- A trigger of R110 is met: 1 stroke, 2 MA_SAT, 3 missing samples, 4 LOST or ACQ_FAIL, 5 temperature. An
unload (6) falls back as it is requested. -/
def fallbackTrigger (s : State) (a : Act) (p : Hd) (k : Nat) : Bool :=
  let x := s.acts[a]
  let on := triggerOn s a p k
  if k = 1 then decide (x.twinPar.nExit ≤ x.exitRun)
  else if k = 2 then decide (2 ≤ x.satRun)
  else if k = 5 then decide (2 ≤ s.pmu.level)
  else on.1 || on.2

/-- TWIN_FALLBACK: the pair falls back on its first trigger. The lead is kept unless the trigger lies on its
stream; where the state shows it on both heads or on neither, the operand says which (R110). -/
def twinFallback (a : Act) (k : Nat) (onLead : Bool) (s : State) : State :=
  let x := s.acts[a]
  match x.partner with
  | some p =>
    if powered s && decide (x.mode = .twin) && x.fallback.isNone && fallbackTrigger s a p k && !parks x then
      let on := triggerOn s a p k
      let lead := if on.1 = on.2 then onLead && decide (k ≤ 4) else on.1
      dropPair s a (if lead then x.leadHead else p) k
    else s
  | none => s

def execTwinFallback (a : Act) (trigger : Nat) (onLead : Bool) (s : State) : Host.Outcome State Fault Refusal :=
  .next (twinFallback a trigger onLead s)

/-- The kept head of a fallback becomes the lead with its own target, in FOLLOW; the dropped head's command
ramps to 0 (R110). -/
def handOver (s : State) (a : Act) (d p : Hd) : State :=
  updAct s a fun x =>
    let lost := decide (d = x.leadHead)
    let y := { x with leadHead := if lost then p else x.leadHead, partner := some d, seekReq := .read
                      target := if lost then x.target + pairDW x else x.target }
    { enterMode (localHead s) .follow y with dropRampLeft := 64, dropFrom := x.maCmd[localHead s d] }

/-- TWIN_FALLBACK_HANDOVER: the dropped head's read gate has closed; the follow law takes over on the
kept head (R88, R110). -/
def twinHandover (a : Act) (s : State) : State :=
  let x := s.acts[a]
  match x.fallback, x.partner with
  | some d, some p =>
    let gate := match streamOfHead s d with | some m => s.chn[m].readGate | none => false
    if powered s && decide (x.mode = .twin) && !gate && (lawOf x 18).valid && !parks x then handOver s a d p else s
  | _, _ => s

def execTwinFallbackHandover (a : Act) (s : State) : Host.Outcome State Fault Refusal := .next (twinHandover a s)

/-- A stream of a pilot's operations is free again (R110). -/
def releaseStream (s : State) (a : Act) (m : Option Strm) : State :=
  updCmds s fun c => { c with pilots := vupd c.pilots a fun p =>
    { p with strm := if p.strm = m then none else p.strm, twinStrm := if p.twinStrm = m then none else p.twinStrm } }

/-- TWIN_STREAM_RELEASE: 64 samples later the dropped micro-actuator is at 0; the unread sectors and the
stream go back to the pilot and the event is raised with pair, DRIFT and trigger (R110, R111). -/
def twinRelease (a : Act) (s : State) : State :=
  let x := s.acts[a]
  match x.fallback with
  | some d =>
    if powered s && decide (x.mode ≠ .twin) && decide (x.dropRampLeft = 0) then
      let s1 := updAct (releaseStream (headBack s a d) a (streamOfHead s d)) a fun x =>
        { x with fallback := none, partner := if x.partner = some d then none else x.partner }
      raise s1 .twinFallback 2 0x05 a.val (x.fbPair.1.val + 256 * x.fbPair.2.val) (toPat 32 x.fbDrift) x.fbTrigger
    else s
  | none => s

def execTwinStreamRelease (a : Act) (s : State) : Host.Outcome State Fault Refusal := .next (twinRelease a s)

/-- TWIN_HOLDOFF_EXPIRY: TWIN_HOLDOFF has passed for a pair (R111). -/
def execTwinHoldoffExpiry (a : Act) (lead partner : Hd) (s : State) : Host.Outcome State Fault Refusal :=
  .next (if powered s then
      updAct s a fun x => { x with holdoff := x.holdoff.filter (· ≠ (lead, partner)) }
    else s)

/-! ### Messages (R114, R438) -/

/-- A section from its six words (R84). -/
def sectionOf (w : List (BitVec 32)) : Section :=
  let c := (w.getD 5 0).toNat
  { b0 := w.getD 0 0, b1 := w.getD 1 0, b2 := w.getD 2 0, a1 := w.getD 3 0, a2 := w.getD 4 0,
    integ := bitAt c 15, holdOnSat := bitAt c 14, shift := fld c 0 5 }

/-- Cut a list of words into sections. -/
def sectionsOf : Nat → List (BitVec 32) → List Section
  | 0, _ => []
  | n + 1, ws => sectionOf (ws.take 6) :: sectionsOf n (ws.drop 6)

/-- The first reserved field of a control word that is not 0, as its byte of the word: bits 13:5 from byte 0
on, bits 31:16 from byte 2 on (R5, R84). -/
def controlBad (c : Nat) : Option Nat :=
  if fld c 5 9 ≠ 0 then some 0 else if fld c 16 16 ≠ 0 then some 2 else none

/-- The payload offset of the first reserved field that is not 0 among the sections' control words (R5, R84):
the sections begin at byte 8, and each control word is the last of six. -/
def sectionsBad : Nat → Nat → List (BitVec 32) → Option Nat
  | 0, _, _ => none
  | n + 1, off, ws =>
    match controlBad (ws.getD 5 0).toNat with
    | some b => some (off + 20 + b)
    | none => sectionsBad n (off + 24) (ws.drop 6)

/-- Allotted sections of a law of LE4: spindle laws of R123, assist laws of R195; 0 reserved. -/
def allotment4 (l : Nat) : Nat := if l ≤ 3 then 4 else if l ≤ 7 then 12 else if l ≤ 11 then 6 else 0

/-- The descriptor fits its allotment and the memory (R88). -/
def lawFits (allot count start : Nat) : Bool :=
  decide (1 ≤ count) && decide (count ≤ allot) && decide (start + count ≤ 512)

/-- A section range meets the sections of a law. -/
def overlapsLaw (x : Law) (start count : Nat) : Bool :=
  x.valid && decide (start < x.start + x.count) && decide (x.start < start + count)

/-- The laws whose sections LE4 is running (R89). -/
def overlaps4 (s : State) (start count : Nat) : Bool :=
  (running4 s).any fun l => overlapsLaw (if h : l < 32 then s.spn.laws[(⟨l, h⟩ : Fin 32)] else {}) start count

/-- The body of LOOP_SET_LAW: the write waits for the frame boundary; ACT 4 is LE4 (R5, R84, R88, R89). -/
def setLaw (act law count start : Nat) (words : List (BitVec 32)) (s : State) : Ans :=
  let secs := sectionsOf count words
  let wordsOk := decide (words.length = 6 * count) && secs.all fun c => decide (c.shift ≤ 16)
  let w : LawWrite := { law := law, count := count, start := start, secs := secs }
  match sectionsBad count 8 words with
  | some k => malformedA s (32 + k)
  | none =>
    match selAct act with
    | some a =>
      if !(lawFits (allotment law) count start && wordsOk) then rangeA s
      else if (runningLaws s a).any fun l => overlapsLaw (lawOf s.acts[a] l) start count then conflictA s
      else okA (updAct s a fun x => { x with lawPend := x.lawPend ++ [w] })
    | none =>
      if act ≠ 4 ∨ !(lawFits (allotment4 law) count start && wordsOk) then rangeA s
      else if overlaps4 s start count then conflictA s
      else okA (updSpn s fun p => { p with lawPend := p.lawPend ++ [w] })

def execLoopSetLaw (r : Req) (act law count start : Nat) (words : List (BitVec 32)) (s : State) :
    Host.Outcome State Fault Refusal :=
  .next (serve s r { opc := 0x0211, setter := true } (.loopSetLaw r act law count start words)
    (setLaw act law count start words))

/-- The body of LOOP_SET_RWO. -/
def setRwo (head : Nat) (vals : List Int) (s : State) : Ans :=
  if selHeads s head ≠ [] ∧ vals.length = 64 ∧ vals.all (fun v => decide (-8388608 ≤ v ∧ v ≤ 8388607)) then
    okA (forEach (selHeads s head) s fun s h =>
      updHloop s h fun x => { x with rwo := Vector.ofFn fun z : Fin 64 => vals.getD z.val 0 })
  else rangeA s

def execLoopSetRwo (r : Req) (head : Nat) (vals : List Int) (s : State) : Host.Outcome State Fault Refusal :=
  .next (serve s r { opc := 0x0212, setter := true } (.loopSetRwo r head vals) (setRwo head vals))

/-- The body of LOOP_SET_MA_GAIN: Q4.12 in bits 15:0. -/
def setMaGain (head gain : Nat) (s : State) : Ans :=
  if selHeads s head ≠ [] ∧ gain < 65536 then
    okA (forEach (selHeads s head) s fun s h => updHloop s h fun x => { x with maGain := gain })
  else rangeA s

def execLoopSetMaGain (r : Req) (head gain : Nat) (s : State) : Host.Outcome State Fault Refusal :=
  .next (serve s r { opc := 0x0213, setter := true } (.loopSetMaGain r head gain) (setMaGain head gain))

/-- LOOP_SET_SEEK's list; V_MAX and V_RAMP in mm/s (R114, R426). -/
def seekPars : List (Par SeekPar) :=
  [parN 500 6000 fun v x => { x with aMax := v },
   parN 1000000 100000000 fun v x => { x with jMax := v },
   parN 500 6000 fun v x => { x with vMax := v },
   parN 50 500 fun v x => { x with vRamp := v },
   parN 10 100 fun v x => { x with iLim := v },
   parN 4 1024 fun v x => { x with eSeek := v },
   parN 1 8 fun v x => { x with nAbort := v }]

/-- The body of LOOP_SET_SEEK: in effect from the next frame boundary. -/
def setSeek (act : Nat) (ps : Params) (s : State) : Ans :=
  match selAct act with
  | some a =>
    let x := s.acts[a]
    setA s seekPars (fun _ => []) ps (x.seekPend.getD x.seekPar) fun v =>
      updAct s a fun x => { x with seekPend := some v }
  | none => rangeA s

def execLoopSetSeek (r : Req) (act : Nat) (ps : Params) (s : State) : Host.Outcome State Fault Refusal :=
  .next (serve s r { opc := 0x0214, setter := true } (.loopSetSeek r act ps) (setSeek act ps))

/-- LOOP_SET_FOLLOW's list (R114). -/
def followPars : List (Par FollowPar) :=
  [parN 1 64 fun v x => { x with dSettle := v },
   parN 20 256 fun v x => { x with tFollow := v },
   parN 4 255 fun v x => { x with nFollow := v },
   parN 20 512 fun v x => { x with tWready := v },
   parN 8 255 fun v x => { x with nWready := v },
   parN 0 32767 fun v x => { x with hBlend := v },
   parN 4 256 fun v x => { x with nBlend := v }]

/-- The body of LOOP_SET_FOLLOW: T_WREADY at most T_OT; in effect from the next frame boundary. -/
def setFollow (act : Nat) (ps : Params) (s : State) : Ans :=
  match selAct act with
  | some a =>
    let x := s.acts[a]
    let g := s.guards[a]
    setA s followPars (fun v => [([3], decide (v.tWready ≤ (g.pend.getD g.cfg).tOt))]) ps
      (x.followPend.getD x.followPar) fun v => updAct s a fun x => { x with followPend := some v }
  | none => rangeA s

def execLoopSetFollow (r : Req) (act : Nat) (ps : Params) (s : State) : Host.Outcome State Fault Refusal :=
  .next (serve s r { opc := 0x0215, setter := true } (.loopSetFollow r act ps) (setFollow act ps))

/-- A pair record loaded: it replaces a record of the same two heads (R108). -/
def loadPair (rs : List PairRec) (p : PairRec) : List PairRec :=
  p :: rs.filter fun q => !(decide (q.lead = p.lead) && decide (q.partner = p.partner))

/-- The head of a number below 32. -/
def hdOf (n : Nat) : Hd := ⟨n % 32, Nat.mod_lt _ (by decide)⟩

/-- LOOP_SET_TWIN's list over the parameters and the pair records (R108, R114). -/
def twinPars : List (Par (TwinPar × List PairRec)) :=
  [parN 0 1559 fun v x => ({ x.1 with enter := v }, x.2),
   parN 400 780 fun v x => ({ x.1 with exit := v }, x.2),
   parN 1 64 fun v x => ({ x.1 with nExit := v }, x.2),
   parN 100 100000 fun v x => ({ x.1 with tau := v }, x.2),
   parN 10 10000 fun v x => ({ x.1 with holdoff := v }, x.2),
   { n := 4, ok := fun vs => decide (vs.getD 0 32 < 32 ∧ vs.getD 1 32 < 32 ∧ vs.getD 0 0 ≠ vs.getD 1 0),
     put := fun vs x => (x.1, loadPair x.2
       { lead := hdOf (vs.getD 0 0), partner := hdOf (vs.getD 1 0), dW := ofPat 32 (vs.getD 2 0),
         temp := ofPat 32 (vs.getD 3 0) }) }]

/-- The body of LOOP_SET_TWIN. -/
def setTwin (act : Nat) (ps : Params) (s : State) : Ans :=
  match selAct act with
  | some a =>
    let x := s.acts[a]
    setA s twinPars (fun v => [([0, 1], decide (v.1.enter + 1 ≤ 2 * v.1.exit))]) ps (x.twinPar, x.pairs) fun v =>
      updAct s a fun x => { x with twinPar := v.1, pairs := v.2 }
  | none => rangeA s

def execLoopSetTwin (r : Req) (act : Nat) (ps : Params) (s : State) : Host.Outcome State Fault Refusal :=
  .next (serve s r { opc := 0x0216, setter := true } (.loopSetTwin r act ps) (setTwin act ps))

/-- MODE encoding (R82). -/
def modeCode : Mode → Nat
  | .parked => 0
  | .ramp => 1
  | .seek => 2
  | .settle => 3
  | .follow => 4
  | .twin => 5
  | .hold => 6

/-- LOOP_ACT_STATUS (R112). -/
def actStatus (x : Actuator) : Nat :=
  packF [(29, 3, modeCode x.mode), (28, 1, b2n x.writeReady), (27, 1, b2n x.blending), (26, 1, b2n x.vcmSat),
    (25, 1, b2n x.maSat), (24, 1, b2n x.dlMissVcm), (23, 1, b2n x.dlMissMa), (22, 1, b2n x.dlMissPred),
    (21, 1, b2n x.dlMissOther), (20, 1, b2n x.inputLate), (19, 1, b2n x.trajMiss), (18, 1, b2n x.seekAbort),
    (17, 1, b2n x.twinFallback), (16, 1, b2n x.coefErr), (8, 8, x.dlMissCnt), (0, 5, x.leadHead.val)]

/-- LOOP_TWIN_STATUS (R113). -/
def twinStatus (x : Actuator) : Nat :=
  packF [(16, 16, toPat 16 x.drift), (8, 8, x.strokeLead), (0, 8, x.strokePartner)]

/-- What reading LOOP_ACT_STATUS clears (R112). -/
def actClear (c : BitVec 64) (x : Actuator) : Actuator :=
  { x with dlMissVcm := w1c c 24 x.dlMissVcm, dlMissMa := w1c c 23 x.dlMissMa, dlMissPred := w1c c 22 x.dlMissPred,
           dlMissOther := w1c c 21 x.dlMissOther, inputLate := w1c c 20 x.inputLate, trajMiss := w1c c 19 x.trajMiss,
           seekAbort := w1c c 18 x.seekAbort, twinFallback := w1c c 17 x.twinFallback, coefErr := w1c c 16 x.coefErr,
           dlMissCnt := 0 }

/-- The body of LOOP_GET_STATUS. -/
def getLoopStatus (act : Nat) (clear : BitVec 64) (s : State) : Ans :=
  match selAct act with
  | some a => getA (updAct s a (actClear clear)) [(4, actStatus s.acts[a]), (4, twinStatus s.acts[a])]
  | none => rangeA s

def execLoopGetStatus (r : Req) (act : Nat) (clear : BitVec 64) (s : State) : Host.Outcome State Fault Refusal :=
  .next (serve s r { opc := 0x0217, need := .rd } (.loopGetStatus r act clear) (getLoopStatus act clear))

end Sys2Proof.Machine
end

