-- ==== Sys2Proof/Machine/SeqCore.lean ====
section
/-! DEFINITION. Sequencer core: banks, event lines, interrupts, swaps and faults, which other blocks
reach through the event lines (R397 to R403, R407). -/

namespace Sys2Proof.Machine

/-- The bank a sequencer executes from (R403). -/
def seqBank (s : State) (q : Sequencer) : Bank := if q.bankB then s.seqDev.banks[(1 : Fin 2)] else s.seqDev.banks[(0 : Fin 2)]
/-- A word of a bank. -/
def bankWord (b : Bank) (a : Nat) : BitVec 32 := smRead 0 b.words a

/-- R397, R401: a fault aborts the step, restores the last restart point and halts the sequencer. -/
def seqFault (s : State) (n : Sq) (code : Nat) : State :=
  let pc := s.seqs[n].r.pc.toNat
  let s1 := updSeq s n fun q =>
    { q with held := [], r := q.snap, st := .halted, fcode := code, netErr := false,
             wdog := q.wdog || decide (code = 1) || decide (code = 2), mchk := q.mchk || decide (code = 3),
             fault := q.fault || decide (4 ≤ code) }
  report s1 (0x05, n.val) .seqFault 2 0x0E n.val n.val code pc

/-- Continue at the address that a table word holds; bits 31:16 of one must be 0 (R403). The place
reached is the sequencer's restart point. -/
def enterAt (s : State) (n : Sq) (word : BitVec 32) : State :=
  if word.toNat / 65536 ≠ 0 then seqFault s n 4
  else updSeq s n fun q =>
    { q with st := .run, r := { q.r with pc := word.setWidth 16 }, snap := { q.r with pc := word.setWidth 16 }, yieldUs := s.us }

/-- A swap is taken: the other bank from its INIT, with registers, flags and return stack cleared and
queue, IMASK and PENDING kept (R407). -/
def takeSwap (s : State) (n : Sq) : State :=
  let b := s.seqs[n].bankB
  let s1 := updSeq s n fun q => { q with bankB := !b, r := {}, snap := {}, lines := [], pend := q.pend &&& ~~~2#16 }
  let s2 := updSeqDev s1 fun d => { d with swap := d.swap.map fun x =>
    { x with mask := x.mask &&& ~~~(1#32 <<< n.val), done := x.done ||| (1#32 <<< n.val) } }
  enterAt s2 n (bankWord (seqBank s2 s2.seqs[n]) 0x0810)

/-- The line that a sequencer takes at an interrupt point (R399): BREAKWATER first, even inside a handler;
outside one, R24 over the enabled lines, SWAP only with no order active. -/
def takeable (q : Sequencer) : Option Nat :=
  if q.pend.getLsbD 0 then some 0
  else if q.inHandler then none
  else roundRobin 16 q.linePtr fun k =>
    q.pend.getLsbD k && q.imask.getLsbD k && (decide (k ≠ 1) || decide (q.active = []))

/-- A line is taken: ILR, the handler and its vector; or the swap (R399). -/
def takeLine (s : State) (n : Sq) (k : Nat) : State :=
  if k = 1 then takeSwap (updSeq s n fun q => { q with linePtr := 2 }) n
  else
    let w := bankWord (seqBank s s.seqs[n]) (0x0800 + k)
    enterAt (updSeq s n fun q =>
      { q with ilr := q.r.pc, inHandler := true, pend := q.pend &&& ~~~(1#16 <<< k),
               linePtr := if k = 0 then q.linePtr else (k + 1) % 16 }) n w

/-- A sleeping sequencer whose wait is over leaves SLEEP, into a handler where a line is taken; the watchdog's
time goes on from here (R399, R400). -/
def wake (s : State) (n : Sq) : State :=
  let q := s.seqs[n]
  if q.st ≠ .sleep then s
  else match takeable q with
    | some k => takeLine s n k
    | none =>
      if (q.wait = 1 ∧ q.queue ≠ []) ∨ (q.wait = 2 ∧ q.pend &&& q.evmask ≠ 0) then
        updSeq s n fun q => { q with st := .run, yieldUs := s.us }
      else s

/-- An edge on an event line of a sequencer (R398). -/
def setLine (s : State) (n : Sq) (k : Nat) : State :=
  if s.seqs[n].st = .off then s
  else wake (updSeq s n fun q => { q with pend := q.pend ||| (1#16 <<< k) }) n

end Sys2Proof.Machine
end

