-- ==== Sys2Proof/Machine/Tap.lean ====
section
/-! DEFINITION. Tap: the test access port and the lifecycle states in which it scans the boundary (R55), and
the lifecycle state that OTP derives (R467). -/

namespace Sys2Proof.Machine

/-- The lifecycle state of the OTP words LC and KILL (R467). -/
def lifeOf (o : Otp) : Life :=
  if o.kill then .decommissioned
  else if o.lc = 0 then .blank
  else if o.lc = 1 then .manufacture
  else if o.lc % 2 = 0 then .field
  else .ret

/-- SAMPLE/PRELOAD and EXTEST execute: in BLANK, MANUFACTURE and RETURN, and in FIELD after a debug unlock with
scope bit 0 (R55, R492). -/
def tapScans (s : State) : Bool :=
  match lifeOf s.nv.otp with
  | .blank => true
  | .manufacture => true
  | .ret => true
  | .field => s.sec.debugScope.getLsbD 0
  | .decommissioned => false

/-- The instruction the TAP acts on: a boundary-scan instruction that may not execute is BYPASS (R55). -/
def tapInstr (s : State) : TapCode :=
  match s.tap.ir with
  | .bypass => .bypass
  | .idcode => .idcode
  | .samplePreload => if tapScans s then .samplePreload else .bypass
  | .extest => if tapScans s then .extest else .bypass

/-- The TDO bits of a data-register scan: the bypass register captures 0 and delays by one bit, the IDCODE register
captures the device's identification, the boundary register captures the balls; the spec gives neither the
identification nor the order of the cells, so both are free (log entry 195). -/
def tapTdo (s : State) (tdi : List Bool) : List Bool :=
  match tapInstr s with
  | .bypass => (false :: tdi).take tdi.length
  | .idcode => ((List.range 32).map Config.idcode.getLsbD ++ tdi).take tdi.length
  | .samplePreload => (List.range tdi.length).map fun i => (Config.freeWord tdi.length s.freeCtr).getLsbD i
  | .extest => (List.range tdi.length).map fun i => (Config.freeWord tdi.length s.freeCtr).getLsbD i

/-- One scan of the TAP (R55): what is shifted into the boundary register becomes its update latch. -/
def tapScan (s : State) : TapScan → State
  | .testLogicReset => { s with tap := {} }
  | .ir code => { s with tap := { s.tap with ir := code } }
  | .dr tdi =>
    let keeps := match tapInstr s with
      | .samplePreload => true
      | .extest => true
      | .bypass => false
      | .idcode => false
    emit { s with tap := if keeps then { s.tap with latch := tdi } else s.tap, freeCtr := s.freeCtr + 1 } (.tap (tapTdo s tdi))

end Sys2Proof.Machine
end

