-- ==== Sys2Proof/Machine/Breakwater.lean ====
section
/-! DEFINITION. Breakwater: supply supervision, NV-write inhibit, the breakwater sequence, the vault
and the dirty bound (chapter 16, R46, R135). -/

namespace Sys2Proof.Machine

/-! ### Dirty bound (R135, R251, R462); counts in blocks of 4 KiB -/

/-- The dirty count: write-cache blocks that hold dirty data or a changed chart page (R251). -/
def dirtyBlocks (s : State) : Nat := (s.cache.blocks.filter fun b => !b.dead && !b.copy).length

/-- 1.5 GiB in blocks. -/
def bound15 : Nat := 393216
/-- 2 GiB in blocks. -/
def bound20 : Nat := 524288

/-- The bound of R135: both speeds at or above 5,400 rpm give 2 GiB. -/
def bound135 (s : State) : Nat :=
  if 43200 ≤ s.spn.meas ∧ 43200 ≤ s.spn.ref then bound20 else bound15

/-- Whether vault area `k` is ERASED (R456). -/
def erased (s : State) (k : Fin 2) : Bool := decide (s.nv.areas[k].st = 0)

/-- The effective bound B_eff (R462). -/
def bEff (s : State) : Nat :=
  if erased s 0 || erased s 1 then
    let t := if bound135 s = bound20 then 2000 else 1500
    min (bound135 s) (min (s.nv.vaultRate * t / 4096 - 152 * 256)
      (min s.nv.areas[(0 : Fin 2)].goodMib s.nv.areas[(1 : Fin 2)].goodMib * 256 - 408 * 256))
  else 0

/-- R462: VAULT_DERATE when the effective bound falls below the bound of R135. -/
def derateCheck (s : State) : State :=
  let low := decide (bEff s < bound135 s)
  let s1 := if low && !s.bw.derated then raise s (.numbered 0x200A) 2 0x02 0 (s.nv.vaultRate / 1000) (bEff s / 256) else s
  updBw s1 fun b => { b with derated := low }

/-! ### The image (R455 to R457) -/

/-- Distinct numbers of a list. -/
def distinct (l : List Nat) : List Nat := l.foldl (fun acc x => if acc.contains x then acc else x :: acc) []

/-- Pages of a table, `per` records to a page, whose records differ between two versions. -/
def changedPages {α : Type} [DecidableEq α] (per : Nat) (key : α → Nat) (old new : List α) : Nat :=
  (distinct (((new.filter fun r => !old.contains r) ++ (old.filter fun r => !new.contains r)).map fun r => key r / per)).length

/-- The 4 KiB pages changed from one set of tables to another: berth records of 64 bytes, segment records of 32
bytes, directory entries of 8 bytes, the zone table (R249, R250, R264, R271). The spec gives the zone table no
record size: the pages of its changed records are a free value. -/
def tablePages (o t : Tables) : Nat :=
  changedPages 64 (·.id) o.berths t.berths + changedPages 128 (·.id) o.segs t.segs +
    changedPages 512 (fun d => d.1 * 2 ^ 40 + d.2.1) o.chartDir t.chartDir +
    Config.zonePages ((t.zones.filter fun z => !o.zones.contains z) ++ o.zones.filter fun z => !t.zones.contains z).length

/-- The pages a checkpoint writes: those and the manifest ring's, entries of 32 bytes (R256, R271). -/
def ckptPages (o t : Tables) : Nat := tablePages o t + changedPages 128 (·.slot) o.manifest t.manifest

/-- Table pages changed since the last committed checkpoint (R271, R455). -/
def deltaPages (s : State) : Nat :=
  let o := match s.nv.ckpts with | c :: _ => c.tables | [] => {}
  tablePages o s.tbl + changedPages 128 (·.id) o.rblds s.tbl.rblds +
    changedPages 256 (·.id) o.relocs s.tbl.relocs + changedPages 256 (·.berth) o.losts s.tbl.losts

/-- The 4 KiB blocks of an image: data, index, manifest, table delta, tally rings, staging (R455). -/
def imageBlocks (s : State) : Nat := dirtyBlocks s + 2048 + 32 + deltaPages s + 23085 + 256

/-- Lines in a state other than CLEAN (R457). -/
def poisonList (s : State) : List (Nat × Poison) :=
  s.dram.lines.filterMap fun e => if e.2.poison = .clean then none else some (e.1, e.2.poison)

/-- MAP pages of one copy. -/
def mapPages (blocks : Nat) : Nat := (blocks + 4095) / 4096
/-- Pages of an image, START and COMMIT included (R457). -/
def imagePages (s : State) : Nat :=
  let b := imageBlocks s
  1 + 2 * mapPages b + (b + 3) / 4 + ((poisonList s).length + 1 + 2047) / 2048 + 1

/-- The open minute of a ring closed under its minute number and start time (R333, R334). -/
def closeRing (s : State) (part : Bool) (r : TRing) : TRing :=
  let rec_ : TRec := { r.cur with
    partialMin := part || r.nextPartial, suspect := s.quay.tally.suspectMin,
    minute := s.ctr.dev.powerOnS / 60 % 2 ^ 32, tsValid := s.quay.tally.startValid,
    timestamp := s.quay.tally.startMs }
  { r with closed := (rec_ :: r.closed).take 1440, cur := {}, nextPartial := false }

/-- The 1,026 tally rings (R335). -/
def allRings (s : State) : List TRing :=
  (List.range 1026).map fun k => (s.quay.tally.rings.find? fun r => r.key = k).getD { key := k }

/-- The open minute of a ring as an image saves it: closed with PARTIAL (R333, R452). -/
def partialRing (s : State) (r : TRing) : TRing := closeRing s true r

/-- The content of the image: the save list as it stands at the end of step 1 (R455). -/
def imageContent (s : State) : Content :=
  { cache := s.cache, tables := s.tbl, tally := (allRings s).map (partialRing s),
    events := s.evr.buf ++ s.evr.waiting, counters := s.ctr,
    ff := s.wheads.toList.flatMap fun w => w.hz.toList.map (·.ffNow),
    incidents := (s.incidents.toList.filter fun i => decide (i.state ≠ 0)).map fun i => { i with state := 2 },
    nextRecno := s.evr.nextRecno, tablesBad := s.dram.tableBad, poison := poisonList s }

/-- The START page (R457). -/
def startPage (s : State) (seq : Nat) : StartPage :=
  { seq := seq, cause := s.bw.cause,
    flags := b2n s.bw.holdup + 2 * b2n s.bw.upgraded + 4 * b2n (decide (8 ≤ s.bw.cause)),
    powerOnS := s.ctr.dev.powerOnS, cycles := s.ctr.dev.powerCycles % 2 ^ 24, ckptSeq := s.brt.ckptSeq,
    blocks := imageBlocks s, mapPages := mapPages (imageBlocks s), speed := s.bw.speedAtStart,
    regions := s.dram.regions }

/-- One greater than the highest IMAGE_SEQ found (R457). -/
def nextImageSeq (s : State) : Nat :=
  max s.nv.areas[(0 : Fin 2)].lastSeq s.nv.areas[(1 : Fin 2)].lastSeq + 1

/-- The area the save uses: the one ERASED; of two, the one whose last image is older (R456). -/
def saveArea (s : State) : Option (Fin 2) :=
  if erased s 0 && erased s 1 then
    some (if s.nv.areas[(1 : Fin 2)].lastSeq < s.nv.areas[(0 : Fin 2)].lastSeq then 1 else 0)
  else if erased s 0 then some 0
  else if erased s 1 then some 1
  else none

/-! ### Breakwater start (R450 to R452) -/

/-- A media read in progress ends without a sector: its result is ABORTED (R164, R452). -/
def closeReads (s : State) : State :=
  forEach allStreams s fun s m =>
    if s.chn[m].readGate then updChn s m fun c => { c with readGate := false, aborted := true } else s

/-- Event line `k` becomes pending on every sequencer that is not off (R398). -/
def seqLine (s : State) (k : Nat) : State := forEach allSeqs s fun s n => setLine s n k

/-- An actuator that the park moves: every one not PARKED at breakwater start counts a park (R454,
R506). -/
def parkAct (s : State) (a : Act) : State :=
  if s.acts[a].mode = .parked then
    updBw s fun b => { b with parked := b.parked ++ [a], parkDone := b.parkDone ++ [a] }
  else
    updActCtr (updAct s a startPark) a fun c => { c with bwParks := ctrAdd c.bwParks 1 }

/-- PARK_DONE, once: the PARKED mask and the time of the last park (R454, R466). -/
def parkReport (s : State) : State :=
  if s.bw.parkReported then s
  else
    let mask := s.bw.parked.foldl (fun n a => n + 2 ^ a.val) 0
    updBw (raise s (.numbered 0x2005) 0 0x02 0 mask s.bw.parkMs) fun b => { b with parkReported := true }

/-- Step 1 ends: the staging copy, then the save, or the close where there is nothing to save to. PARK_DONE waits
under CAUSE 0x6 for the actuators whose RETRACT_T ends later (R453 to R456, R466). -/
def endPark (s : State) : State :=
  let s1 := if s.bw.cause = 6 ∧ !allActs.all (fun a => decide (s.acts[a].mode = .parked)) then s else parkReport s
  let s2 := { s1 with staged := imageContent s1 }
  match saveArea s2 with
  | some k =>
    if s2.bw.noSave then quiesce (updBw s2 fun b => { b with step := .close })
    else updBw s2 fun b =>
      { b with step := .save, saveStartUs := s.us, area := k.val, page := 0, pagesTotal := imagePages s2 }
  | none => quiesce (updBw s2 fun b => { b with step := .close, noSave := true })

/-- End step 1 once every actuator is settled. -/
def parkCheck (s : State) : State :=
  if s.bw.step = .park ∧ allActs.all s.bw.parkDone.contains then endPark s else s

/-- A later trigger is recorded, and a supply trigger upgrades a vault-then-reset (R450, R451). -/
def laterTrigger (s : State) (cause : Nat) : State :=
  let s1 := raise s (.numbered 0x2004) 0 0x02 0 cause (s.us - s.bw.startUs)
  if 8 ≤ s.bw.cause ∧ !s.bw.upgraded ∧ [1, 2, 3, 6].contains cause then
    updDevCtr (updPsl (updSpn (updBw s1 fun b => { b with upgraded := true })
      fun p => { p with frozen := false }) fun p => { p with isolate := true })
      fun d => { d with breakwaters := ctrAdd d.breakwaters 1 }
  else s1

/-- What each block does at breakwater start (R452). -/
def bwBlocks (s : State) (cause : Nat) : State :=
  let s1 := forEach allActs s fun s a => tripNow s a 0xA
  let s2 := closeReads s1
  let s3 := seqLine { s2 with
    quay := { s2.quay with stopFetch := true }
    ledger := { s2.ledger with stopped := true }
    dram := { s2.dram with vaultFirst := true, scrubStop := true }
    pmu := { s2.pmu with seqStopped := true }
    evr := { s2.evr with stopped := true }
    seqDev := { s2.seqDev with swap := none, swapRefused := true }
    fw := { s2.fw with slip := .idle }
    psl := { s2.psl with isolate := s2.psl.isolate || decide (cause < 8) }
    spn := { s2.spn with frozen := decide (8 ≤ cause) }
    wheads := (s2.wheads.map fun w => { w with htrPwr := 0 }) } 0
  forEach (List.finRange 256) s3 closeIncident

/-- Breakwater start (R450 to R455); during a start the sequence runs without step 3 (R521). -/
def startBreakwater (s : State) (cause : Nat) : State :=
  if s.phase = .quiescent ∨ s.phase = .reset then s
  else if s.bw.started then laterTrigger s cause
  else
    let s1 := { updBw s fun b =>
      { b with started := true, cause := cause, startUs := s.us, step := .park, parked := [], parkDone := [],
               openLoop := [], parkMs := 0, parkReported := false, holdup := false, upgraded := false, dirtyAtStart := dirtyBlocks s,
               speedAtStart := s.spn.meas, noSave := decide (s.phase ≠ .run), page := 0, grown := 0, rewrites := 0 }
      with phase := .sequence }
    let s2 := raise s1 (.numbered 0x2003) 2 0x02 0 cause (s1.bw.dirtyAtStart / 256) (s1.bw.speedAtStart / 8)
    let s3 := bwBlocks s2 cause
    let s4 := if cause < 8 then updDevCtr s3 fun d => { d with breakwaters := ctrAdd d.breakwaters 1 } else s3
    parkCheck (forEach allActs s4 parkAct)

/-! ### Resets -/

/-- The device in reset: everything but the non-volatile content, the VDD_AON domain, the balls and
the supervision of the supplies starts from its reset values (R44, R46, R459). -/
def intoReset (s : State) : State :=
  { pending := s.pending, us := s.us, freeCtr := s.freeCtr, out := s.out, nv := s.nv, aon := s.aon,
    pins := { s.pins with spgEn := 0, thermN := true, mgAlertN := true },
    bw := { inputs := s.bw.inputs }, tap := s.tap, ctr := s.ctr, straps := s.straps,
    wheads := s.wheads.map fun w => { driftSent := w.driftSent },
    boot := { porReset := s.boot.porReset, nssr := s.boot.nssr, mayBeLost := s.boot.mayBeLost } }

/-- A power-on reset: the lifetime counters are no longer held, and the always-on time and IDX_NEXT are invalid
(R46, R474, R508, R509). -/
def powerReset (s : State) : State :=
  let t := intoReset s
  { t with ctr := {}, boot := { porReset := true }, wheads := Vector.replicate 32 {},
           aon := { t.aon with calendar := none, calendarWas := t.aon.calendarWas || t.aon.calendar.isSome, idxNext := {} } }

/-! ### Stage 1 and stage 2 -/

/-- Nominal of a supervised device rail in mV, by its input number: for VDD_CPU and VDD_SOC the voltage last
acknowledged (R41, R447). -/
def railNominal (s : State) (i : Nat) : Nat :=
  if i = 2 then s.pmu.cpu.ackedMv else if i = 3 then s.pmu.soc.ackedMv
  else [900, 900, 750, 500, 750, 1200, 1800, 1200].getD (i - 4) 0

/-- The range of R41 of the supervised rail in row `k`, from the voltage at its balls in mV. -/
def railInRange (k mv : Nat) : Bool :=
  let nom := [900, 900, 750, 500, 750, 1200, 1800, 1200].getD (k - 2) 0
  let tol := [3, 3, 3, 3, 3, 5, 5, 5].getD (k - 2) 0
  if k = 0 then decide (600 ≤ mv ∧ mv ≤ 900)
  else if k = 1 then decide (650 ≤ mv ∧ mv ≤ 850)
  else decide (nom * (100 - tol) ≤ mv * 100 ∧ mv * 100 ≤ nom * (100 + tol))

/-- What a sample of an input is compared as: the ADC inputs in mV before the divider times 4,096, the rails in mV
times 1,000 (R47, R447). -/
def sampleNum (x : SupplySample) (i : Nat) : Nat :=
  if i = 0 then x.code12.toNat * 15000 else if i = 1 then x.code5.toNat * 7500
  else if i = 15 then (if x.vrPgood then 1000 else 0)
  else if i < 12 then x.rails.toList.getD (i - 2) 0 * 1000 else 1000

/-- The sample of an input in mV. -/
def sampleMv (x : SupplySample) (i : Nat) : Nat :=
  if i < 2 then sampleNum x i / 4096 else if i = 15 then sampleNum x i else sampleNum x i / 1000

/-- Entry level, leave level and stage-2 level of a supervised input on the scale of `sampleNum`, with the samples
stage 2 needs (R447, R448, R450). -/
def levels (s : State) (i : Nat) : Nat × Nat × Nat × Nat :=
  if i = 0 then (10900 * 4096, 11100 * 4096, 10200 * 4096, 51)
  else if i = 1 then (4600 * 4096, 4700 * 4096, 0, 51)
  else if i = 15 then (1000, 1000, 1000, 21)
  else if i < 12 then (950 * railNominal s i, 960 * railNominal s i, 900 * railNominal s i, 21)
  else (0, 0, 0, 21)

/-- What a sample of one input counts. -/
def sampleInput (l : Nat × Nat × Nat × Nat) (v mv : Nat) (x : SupplyIn) : SupplyIn :=
  { mv := mv, entryRun := if v < l.1 then satInc 3 x.entryRun else 0,
    leaveRun := if l.2.1 ≤ v then satInc 10001 x.leaveRun else 0,
    trigRun := if v < l.2.2.1 then satInc 51 x.trigRun else 0 }

/-- The balls as a sample finds them: a strap follows its level, an input found high has risen; its fall is
recognised by a command of its own, after its filter (R40, R46). -/
def sampleBalls (b : Balls) (p : Pins) : Pins :=
  { p with strapHost := b.strapHost.val, strapBoot := b.strapBoot, strapTest := b.strapTest,
           resetN := p.resetN || b.resetN, porstN := p.porstN || b.porstN, pwrfailN := p.pwrfailN || b.pwrfailN }

/-- SUPPLY_SAMPLE: one µs of supply supervision (R447), with the balls and the TAP scan of that microsecond (R40,
R46, R55; log entry 195). -/
def execSupplySample (sm : SupplySample) (s : State) : Host.Outcome State Fault Refusal :=
  .next (let s1 := { s with us := s.us + 1, pins := sampleBalls sm.balls s.pins, bw := { s.bw with inputs :=
      (Vector.ofFn fun i : Fin 16 => sampleInput (levels s i.val) (sampleNum sm i.val) (sampleMv sm i.val) s.bw.inputs[i]) } }
    match sm.tap with
    | some x => tapScan s1 x
    | none => s1)

/-- The first input whose entry condition holds (R448). -/
def entryInput (s : State) : Option (Fin 16) :=
  (List.finRange 16).find? fun i => decide (3 ≤ s.bw.inputs[i].entryRun)

/-- Every input has met its leave condition for 10 ms (R448). -/
def leaveHolds (s : State) : Bool := s.bw.inputs.toList.all fun x => decide (10001 ≤ x.leaveRun)

/-- A level in mV for INHIBIT_ON (R466). -/
def levelMv (s : State) (i : Fin 16) : Nat := s.bw.inputs[i].mv

/-- NV_WRITE_INHIBIT_ENTRY (R448, R449). -/
def execNvWriteInhibitEntry (s : State) : Host.Outcome State Fault Refusal :=
  .next (match entryInput s with
    | some i =>
      if powered s && !s.bw.inhibit then
        let s1 := updBw s fun b => { b with inhibit := true, inhibitSince := s.us }
        raise (seqLine (orderlyAll { s1 with ledger := { s1.ledger with skip := true } } 0x9) 2)
          (.numbered 0x2001) 1 0x02 0 i.val (levelMv s i)
      else s
    | none => s)

/-- A key-store entry written to both copies, its GEN one greater (R485). -/
def putKey (s : State) (e : KeyEntry) : State :=
  updNv s fun v => { v with keys := { e with gen := e.gen + 1, copyB := true } :: v.keys.filter fun k => k.nsid ≠ e.nsid }

/-- Step 6 of R488 after a checkpoint has committed; key-store writes wait while NV-write inhibit is
active (R486). -/
def eraseFinish (s : State) : State :=
  if s.bw.inhibit then updFw s fun w => { w with eraseDue := true }
  else
    forEach (s.nv.keys.filter (·.erasePending)) (updFw s fun w => { w with eraseDue := false }) fun s k =>
      putKey s { k with erasePending := false }

/-- R480: one logical bit of a security version burned per step up to the running image's, in FIELD; the
burn waits while NV-write inhibit is active (R449). `cls` is 0 Fenxus and boot, 1 microcode. -/
def raiseSvn (s : State) : State :=
  let pkg := (s.nv.slots.toList[s.boot.slot - 1]?).bind (·.pkg)
  match pkg with
  | none => s
  | some p =>
    if s.sec.life ≠ .field ∨ s.boot.slot = 0 then s
    else if s.bw.inhibit then updFw s fun w => { w with svnDue := true }
    else
      let o := s.nv.otp
      let fw := max o.fwSvn (min p.fwSvn 32)
      let uc := max o.ucSvn (min p.ucSvn 32)
      let s1 := updFw (updNv s fun v => { v with otp := { v.otp with fwSvn := fw, ucSvn := uc } }) fun w => { w with svnDue := false }
      let s2 := if o.fwSvn < fw then raise s1 (.numbered 0x3009) 0 0x03 0 0 fw else s1
      if o.ucSvn < uc then raise s2 (.numbered 0x3009) 0 0x03 0 1 uc else s2

/-- NV_WRITE_INHIBIT_END: the writes of NOR and OTP that waited are made (R448, R449, R480, R486). -/
def execNvWriteInhibitEnd (s : State) : Host.Outcome State Fault Refusal :=
  .next (if powered s && s.bw.inhibit && leaveHolds s then
      let s1 := raise (seqLine (updBw s fun b => { b with inhibit := false }) 2) (.numbered 0x2002) 0 0x02 0
        (s.us - s.bw.inhibitSince)
      let s2 := if s.fw.eraseDue then eraseFinish s1 else s1
      if s.fw.svnDue then raiseSvn s2 else s2
    else s)

/-- A stage-2 trigger of R450 holds. -/
def triggerHolds (s : State) (cause : Nat) : Bool :=
  if cause = 1 then decide (51 ≤ s.bw.inputs[(0 : Fin 16)].trigRun)
  else if cause = 2 then !s.pins.pwrfailN
  else if cause = 3 then (List.finRange 16).any fun i => decide (2 ≤ i.val) && decide (21 ≤ s.bw.inputs[i].trigRun)
  else if cause = 4 then s.pmu.overTrip
  else if cause = 5 then s.spn.underspeed
  else if cause = 6 then s.psl.l.lost
  else if cause = 7 then !s.pins.resetN && s.bw.inhibit
  else if cause = 8 then !s.pins.resetN && !s.bw.inhibit
  else decide (cause = 9) && s.boot.nssr

/-- BREAKWATER_START: supply supervision declares a stage-2 trigger (R450). -/
def execBreakwaterStart (cause : Nat) (s : State) : Host.Outcome State Fault Refusal :=
  .next (if triggerHolds s cause then startBreakwater s cause else s)

/-- PWRFAIL_N and RESET_N asserted in the same 1 µs: PWRFAIL_N takes effect and RESET_N is ignored (R46). The
sequence that RESET_N began in this microsecond is the breakwater of CAUSE 0x2 from its start. -/
def pwrfailWins (s : State) : State :=
  let ctr := if 8 ≤ s.bw.cause then updDevCtr s fun d => { d with breakwaters := ctrAdd d.breakwaters 1 } else s
  let fix := fun r : EvRec => if r.ev = .numbered 0x2003 ∧ r.p0 = s.bw.cause then { r with p0 := 2 } else r
  { updBw ctr fun b => { b with cause := 2, upgraded := false } with
    psl := { s.psl with isolate := true }, spn := { s.spn with frozen := false },
    evr := { s.evr with buf := s.evr.buf.map fix, waiting := s.evr.waiting.map fix } }

/-- PWRFAIL_N recognised (R46, R450). -/
def execPwrfailNAssert (s : State) : Host.Outcome State Fault Refusal :=
  .next (let s1 := { s with pins := { s.pins with pwrfailN := false } }
    if s.bw.started ∧ s.bw.step ≠ .close ∧ (s.bw.cause = 7 ∨ s.bw.cause = 8) ∧ s.bw.startUs = s.us then pwrfailWins s1
    else startBreakwater s1 0x2)

/-- RESET_N recognised: vault-then-reset, or CAUSE 0x7 during the inhibit; ignored once the sequence
has started (R46, R450). -/
def execResetNAssert (s : State) : Host.Outcome State Fault Refusal :=
  .next (let s1 := { s with pins := { s.pins with resetN := false } }
    if s.bw.started then s1 else startBreakwater s1 (if s.bw.inhibit then 0x7 else 0x8))

/-- PORST_N recognised: immediate reset, ignored once the sequence has started (R46). -/
def execPorstNAssert (s : State) : Host.Outcome State Fault Refusal :=
  .next (if s.phase = .sequence then { s with pins := { s.pins with porstN := false } }
    else powerReset { s with pins := { s.pins with porstN := false } })

/-- The power-on detector fires: VDD_AON fell below 0.70 V; it resets the device at any time and the
always-on state is lost (R46, R474). -/
def execPowerOnDetect (s : State) : Host.Outcome State Fault Refusal :=
  .next (let t := powerReset s
    { t with aon := { t.aon with secUs := s.us, sinceBlock := 0 },
             bw := { inputs := Vector.replicate 16 {} }, tap := {} })

/-! ### Step 1: park (R454) -/

/-- Clear an actuator's VEN bit. -/
def clearVen (s : State) (a : Act) : State := updPsl s fun p => { p with ven := vupd p.ven a fun _ => false }

/-- An actuator counted as settled in step 1. -/
def settleAct (s : State) (a : Act) : State :=
  updBw s fun b => { b with parkDone := if b.parkDone.contains a then b.parkDone else b.parkDone ++ [a] }

/-- ACTUATOR_PARKED: back-EMF velocity below 10 % of V_RAMP for 2 ms (R454). -/
def execActuatorParked (a : Act) (s : State) : Host.Outcome State Fault Refusal :=
  .next (if s.phase = .sequence && decide (s.acts[a].mode ≠ .parked) then
      let s1 := onRampStop s a
      let late := s.bw.parkDone.contains a
      parkCheck (settleAct (updBw s1 fun b =>
        { b with parked := if late then b.parked else b.parked ++ [a],
                 openLoop := b.openLoop.filter (· ≠ a),
                 parkMs := (s.us - b.startUs) / 1000 }) a)
    else s)

/-- PARK_TIMEOUT: not PARKED 150 ms after the start: open-loop drive and PARK_FAIL, except under
CAUSE 0x6 where the power stage retracts on its own (R454). -/
def execParkTimeout (a : Act) (s : State) : Host.Outcome State Fault Refusal :=
  .next (if s.phase = .sequence && decide (s.bw.step = .park) && !s.bw.parkDone.contains a then
      if s.bw.cause = 6 then parkCheck (settleAct s a)
      else
        let s1 := updActCtr (updAct (updBw s fun b => { b with openLoop := b.openLoop ++ [a] }) a fun x =>
          { x with park := .openLoop }) a fun c => { c with parkFails := ctrAdd c.parkFails 1 }
        parkCheck (settleAct (raise s1 (.numbered 0x2006) 3 0x02 0 a.val) a)
    else s)

/-- PARK_OPEN_LOOP_END: 100 ms of open-loop drive have passed; VEN is cleared (R454). -/
def execParkOpenLoopEnd (a : Act) (s : State) : Host.Outcome State Fault Refusal :=
  .next (if s.bw.openLoop.contains a then
      clearVen (updAct (updBw s fun b => { b with openLoop := b.openLoop.filter (· ≠ a) }) a fun x =>
        { x with park := .none, vcmCmd := 0, vcmOut := 0 }) a
    else s)

/-- RETRACT_T_EXPIRY: under CAUSE 0x6 the actuators the power stage retracts count as PARKED; one
settled earlier by the 150 ms bound keeps its PARKED bit 0, and PARK_DONE reports the time of its park (R234, R454). -/
def execRetractTExpiry (s : State) : Host.Outcome State Fault Refusal :=
  .next (if s.phase = .sequence && decide (s.bw.cause = 6) && passedNs s s.psl.lossUs (s.psl.retractT * 2000000) then
      parkReport (parkCheck (forEach allActs s fun s a =>
        if s.acts[a].mode = .parked then s
        else
          let late := s.bw.parkDone.contains a
          settleAct (updBw (onRampStop s a) fun b =>
            { b with parked := if late then b.parked else b.parked ++ [a], parkMs := (s.us - b.startUs) / 1000 }) a))
    else s)

/-! ### Step 3: save (R455 to R458) -/

/-- The area of a save in progress. -/
def saveIdx (s : State) : Fin 2 := ⟨s.bw.area % 2, Nat.mod_lt _ (by decide)⟩

/-- A page passed: START makes the area PARTIAL with the image's content, COMMIT makes it an IMAGE
and ends step 3; step 4 holds every block in reset (R456, R457, R459). PAGE_CRC is a free value: it covers page
bytes that the spec does not lay out (log entry 209). -/
def pagePassed (s : State) : State :=
  let k := saveIdx s
  let s1 := if s.bw.page = 0 then
      updNv s fun n => { n with areas := vupd n.areas k fun x =>
        { x with st := 2, start := startPage s (nextImageSeq s), commit := none, content := s.staged } }
    else s
  if s.bw.pagesTotal ≤ s.bw.page + 1 then
    let ms := (s.us - s.bw.saveStartUs) / 1000
    let parked := s.bw.parked.foldl (fun n a => n + 2 ^ a.val) 0
    quiesce (updBw (updNv { s1 with freeCtr := s1.freeCtr + 1 } fun n =>
        { n with vaultRate := if ms = 0 then n.vaultRate else s.bw.pagesTotal * 16384 / ms,
                 areas := vupd n.areas k fun x =>
          { x with st := 1, lastSeq := x.start.seq, grown := x.grown + s.bw.grown,
                   commit := some { seq := x.start.seq, pages := s.bw.pagesTotal, pageCrc := (Config.freeWord 32 s.freeCtr).toNat,
                                    saveMs := ms, speed := s.spn.meas, parked := parked, grown := s.bw.grown } } })
        fun b => { b with step := .close, page := b.page + 1 })
  else updBw s1 fun b => { b with page := b.page + 1 }

/-- A page failed: its block is marked grown-bad and the page is written again; past the room for
rewrites the image stays PARTIAL (R458). The block's number is a free value: the spec does not say how many pages a
block of the NAND holds (log entry 209). -/
def pageFailed (s : State) : State :=
  let s1 := raise { updBw s fun b => { b with grown := b.grown + 1, rewrites := b.rewrites + 1 } with freeCtr := s.freeCtr + 1 }
    (.numbered 0x200B) 1 0x02 0 s.bw.area (Config.freeNat s.freeCtr)
  if 16384 ≤ s.bw.rewrites + 1 then
    quiesce (updBw s1 fun b => { b with step := .close })
  else s1

/-- VAULT_PAGE_PROGRAM_DONE (R457, R458). -/
def execVaultPageProgramDone (ok : Bool) (s : State) : Host.Outcome State Fault Refusal :=
  .next (if s.phase = .sequence && decide (s.bw.step = .save) then
      (if ok then pagePassed s else pageFailed s)
    else s)

/-- The condition under which internal reset release may follow QUIESCENT (R459). -/
def releaseHolds (s : State) : Bool :=
  let supply := leaveHolds s && s.pins.pwrfailN && s.pins.resetN
  let vtr := decide (s.bw.cause = 8) && s.pins.resetN || decide (s.bw.cause = 9)
  if s.bw.cause < 8 then supply && (decide (s.bw.cause ≠ 4) || decide (10000 ≤ s.pmu.coolRun))
  else vtr && (!s.bw.upgraded || supply)

/-- QUIESCENT_RELEASE: 1.0 ms after the condition of R459 the device goes to its next internal reset
release. -/
def execQuiescentRelease (s : State) : Host.Outcome State Fault Refusal :=
  .next (if s.phase = .quiescent && releaseHolds s then
      intoReset { s with boot := { s.boot with nssr := decide (s.bw.cause = 9) } }
    else s)

/-- VAULT_AREA_ERASE_DONE: a background erase has made an area ERASED (R449, R464, R465). -/
def execVaultAreaEraseDone (ar : Fin 2) (s : State) : Host.Outcome State Fault Refusal :=
  .next (if powered s && s.nv.areas[ar].erasing && !s.bw.started then
      derateCheck (updNv s fun n => { n with areas := vupd n.areas ar fun x =>
        { x with st := 0, erasing := false, commit := none, content := {} } })
    else s)

end Sys2Proof.Machine
end

