-- ==== Sys2Proof/Machine/Spindle.lean ====
section
/-! DEFINITION. Spindle: the drive waveform, the spindle states, set-points and ramps, the speed
policy, under-speed and hold-up (chapter 5). Speeds are in 1/8 rpm unless a name says rpm. -/

namespace Sys2Proof.Machine

/-! ### Compare values and shunt samples (R115 to R120) -/

/-- A compare value held within T_MIN to 1,250 - T_MIN (R117). -/
def clampCmp (tMin c : Nat) : Nat := min (max c tMin) (1250 - tMin)

/-- Phase indices 0 U, 1 V, 2 W by falling compare, equal ones ordered U, V, W (R118). -/
def cmpOrder (c : List Nat) : List Nat :=
  let u := c.getD 0 0
  let v := c.getD 1 0
  let w := c.getD 2 0
  if v ≤ u ∧ w ≤ v then [0, 1, 2] else if w ≤ u ∧ v ≤ w then [0, 2, 1]
  else if u < v ∧ w ≤ u then [1, 0, 2] else if u < v ∧ w ≤ v then [1, 2, 0]
  else if v ≤ u then [2, 0, 1] else [2, 1, 0]

/-- The widths w1 and w2 that fall short of T_MIN, as d1 and d2 (R119). -/
def shiftBy (tMin : Nat) (c : List Nat) : Nat × Nat :=
  let o := cmpOrder c
  let hi := c.getD (o.getD 0 0) 0
  let mid := c.getD (o.getD 1 0) 0
  let lo := c.getD (o.getD 2 0) 0
  (tMin - (hi - mid), tMin - (mid - lo))

/-- Up-half and down-half compares of a duty (R119). -/
def shiftEdges (tMin : Nat) (c : List Nat) : List Nat × List Nat :=
  let o := cmpOrder c
  let d := shiftBy tMin c
  (c.mapIdx fun i v => if i = o.getD 0 0 then v + d.1 else if i = o.getD 2 0 then v - d.2 else v,
   c.mapIdx fun i v => if i = o.getD 0 0 then v - d.1 else if i = o.getD 2 0 then v + d.2 else v)

/-- A shunt code lies at an end of its 12-bit range (R120). -/
def codeBad (c : Int) : Bool := decide (c ≤ -2048) || decide (2047 ≤ c)

/-- A shunt code as mA: full scale is 200 mV over the shunt (R38, R118). -/
def shuntMa (shunt : Nat) (c : Int) : Int := c * 200000 / (2048 * (max shunt 1 : Nat))

/-- The three phase currents from i_max and i_min, in the order U, V, W (R118). -/
def phaseCurrents (c : List Nat) (iMax iMin : Int) : List Int :=
  let o := cmpOrder c
  (List.range 3).map fun i =>
    if i = o.getD 0 0 then iMax else if i = o.getD 2 0 then iMin else -(iMax + iMin)

/-- A free signed current, mA: the observer's value, whose equations the spec does not give. -/
def freeMa (s : State) : Int × State :=
  let p := takeFree s
  (ofPat 14 p.1, p.2)

/-- Law `l` of LE4 run once on the difference it takes, or missed (R90, R123). The scalings between the
difference, the law and the output are free. DESIGN CHOICE: a law of LE4 blends with the reset values of
H_BLEND and N_BLEND, which are set per actuator only. -/
def runLaw4 (late : List Nat) (l : Fin 32) (diff : Int) (s : State) : State :=
  if late.contains l.val then updSpn s fun p => { p with dlMiss := true }
  else if !s.spn.laws[l].valid || s.spn.laws[l].err then s
  else
    let clips := fun u => decide (2 ≤ l.val) && decide (s.spn.lim.iSpinMax < (Config.spindleOutput l.val u).natAbs)
    let w := runLaw s.spn.secs s.spn.laws[l] 328 32 clips 0 (Config.spindleInput l.val diff)
    updSpn s fun p => { p with laws := vupd p.laws l fun _ => w }

/-- Iq_ref of a law's output in force, mA. -/
def lawMa (p : Spindle) (l : Fin 32) : Int := Config.spindleOutput l.val p.laws[l].out

/-- The breakwater sequence keeps the gates off: it has started with isolation, and the drive is not in
HOLDUP (R124, R139). -/
def heldOff (s : State) : Bool :=
  s.bw.started && (decide (s.bw.cause < 8) || s.bw.upgraded) && decide (s.spn.st ≠ .holdup)

/-- The drive is in a state that turns gates on by its current laws (R124). -/
def drives (p : Spindle) : Bool :=
  decide (p.st = .align ∨ p.st = .forced ∨ p.st = .run ∨ p.st = .holdup)

/-- The electrical angle the current laws turn in: the held or forced angle, the observer's, or their blend
over 64 periods (R123, R127). The observer's angle is free; DESIGN CHOICE: the blend is linear. -/
def driveAngle (s : State) : Nat :=
  let p := s.spn
  let obs := (Config.estimate 32 p.samples s.freeCtr).toNat % 2 ^ 32
  if p.st = .align ∨ p.st = .forced then p.vecAngle
  else if 0 < p.blendLeft then (p.vecAngle * p.blendLeft + obs * (64 - p.blendLeft)) / 64
  else obs

/-- The compares of the current laws' voltage vector, each within its clamp (R117). -/
def modCmp (s : State) : List Nat :=
  (List.range 3).map fun i =>
    clampCmp s.spn.lim.tMin (Config.modulate i s.spn.laws[(0 : Fin 32)].out s.spn.laws[(1 : Fin 32)].out s.spn.vBus (driveAngle s))

/-- Enter COAST with all gates off and a restart delay, 0 for none; XFER_OK clears with RUN (R120, R121, R123,
R127, R131). -/
def enterCoast (s : State) (ms : Nat) : State :=
  updSpn (setXfer (gatesOffNow s) false) fun p => { p with st := .coast, coastMs := ms, coastUs := s.us, blendLeft := 0 }

/-- Enter a state in which the phase voltages are watched: LISTEN or BRAKE (R125, R126). -/
def enterWatch (s : State) (st : SpnSt) : State :=
  updSpn (gatesOffNow s) fun p =>
    { p with st := st, coastMs := 0, vphN := 0, vphLast := none, vphPeak := 0, quietN := 0, crossN := 0,
             crossLast := none, crossPrev := 0, crossDir := 0, crossHalf := 0 }

/-- SPG_EN of one leg, low bit the high side, `n` cycles of 10 ns after the period start: the high side is on
while the counter is at or above 1,250 minus the compare of the half, the low side otherwise, both held off for
`dead` cycles from each transition. `before` is the down-half compare of the period before (R115, R116). -/
def legAt (dead up down before n : Nat) : Nat :=
  if 1250 ≤ n + up ∧ n ≤ 1250 + down then b2n (decide (1250 + dead ≤ n + up))
  else if n ≤ 1250 then 2 * b2n (decide (before + 1 + dead ≤ n + 1250))
  else 2 * b2n (decide (1251 + down + dead ≤ n))

/-- SPG_EN `n` cycles after the period start (R115, R116). -/
def gatesAt (dead : Nat) (up down before : List Nat) (n : Nat) : Nat :=
  let leg := fun i => legAt dead (up.getD i 0) (down.getD i 0) (before.getD i 0) n
  leg 0 + 4 * leg 1 + 16 * leg 2

/-- The cycles at which a gate may change within a period (R115, R116). -/
def legEdges (dead up down before : Nat) : List Nat :=
  [before + 1 + dead - 1250, 1250 - up, 1250 + dead - up, 1251 + down, 1251 + down + dead]

/-- A number put into its place in a rising list without repeats. -/
def insertUp (n : Nat) : List Nat → List Nat
  | [] => [n]
  | x :: xs => if n < x then n :: x :: xs else if n = x then x :: xs else x :: insertUp n xs

/-- The gates of a period (R115, R116). -/
def gateWave (dead : Nat) (up down before : List Nat) : List (Nat × Nat) :=
  let edges := (List.range 3).flatMap fun i => legEdges dead (up.getD i 0) (down.getD i 0) (before.getD i 0)
  ((0 :: edges.filter (· < 2500)).foldl (fun l n => insertUp n l) []).map fun n => (n, gatesAt dead up down before n)

/-- The gates at a cycle of the period in progress (R116). -/
def spgNow (p : Spindle) (n : Nat) : Nat :=
  if p.gatesOff then 0 else if p.shortBrake then 0b101010
  else (p.wave.foldl (fun g e => if e.1 ≤ n then e.2 else g) 0)

/-- The current vector of ALIGN and FORCED after one more period: ALIGN holds I_ALIGN at angle 0, FORCED turns
it at a speed that rises at A_START (R127). -/
def forceStep (p : Spindle) : Spindle :=
  if p.st = .align then { p with alignN := satInc 65535 p.alignN }
  else if p.st = .forced then
    { p with forced := p.forced + p.lim.aStart * 200
             vecAngle := (p.vecAngle + p.forced * p.motor.poles * 2 ^ 32 / 19200000000000) % 2 ^ 32 }
  else p

/-- With the chopper failed, field-oriented control returns in a period that needs no braking, with motoring
torque only (R138). -/
def motorOnly (held : Bool) (p : Spindle) : Spindle :=
  if p.chopFail ∧ p.st = .run then
    let q := { p with iqRef := max p.iqRef 0 }
    if p.meas ≤ p.ref + 80 ∧ !held then { q with gatesOff := false, shortBrake := false } else q
  else p

/-- PWM_PERIOD_START: compares load at count 0 and make the period's gates; T_DEAD and T_MIN apply; the forced
vector turns (R115, R116, R127, R138, R143). -/
def pwmPeriodStart (s : State) : State :=
  if powered s then
    let s1 := updSpn s fun p =>
      let lim := match p.pwmPend with | some (d, m) => { p.lim with tDead := d, tMin := m } | none => p.lim
      motorOnly (heldOff s) (forceStep
        { p with cmpUp := p.cmpNextUp, cmpDown := p.cmpNextDown, blendLeft := p.blendLeft - 1, lim := lim, pwmPend := none,
                 wave := gateWave (lim.tDead / 10) p.cmpNextUp p.cmpNextDown p.cmpDown })
    { s1 with pins := { s1.pins with spgEn := spgNow s1.spn 0 } }
  else s

def execPwmPeriodStart (s : State) : Host.Outcome State Fault Refusal := .next (pwmPeriodStart s)

/-- The samples of a period: an invalid code takes the observer's current instead (R118, R120). -/
def takeSamples (code1 code2 : Int) (s : State) : State :=
  let a : Int × State := if codeBad code1 then freeMa s else (shuntMa s.spn.motor.shunt code1, s)
  let b : Int × State := if codeBad code2 then freeMa a.2 else (-shuntMa s.spn.motor.shunt code2, a.2)
  let n := b2n (codeBad code1) + b2n (codeBad code2)
  updSpn b.2 fun p =>
    { p with samples := phaseCurrents p.cmpUp a.1 b.1, sampleBad := p.sampleBad || decide (0 < n),
             badCnt := min 255 (p.badCnt + n) }

/-- The duty of the next period (R117, R119). -/
def nextDuty (s : State) : State :=
  let c := modCmp s
  let e := shiftEdges s.spn.lim.tMin c
  updSpn (takeFree s).2 fun p =>
    { p with cmpNextUp := e.1, cmpNextDown := e.2,
             shifted := p.shifted || decide (shiftBy p.lim.tMin c ≠ (0, 0)) }

/-- The current of an axis, 0 d and 1 q, from the samples: free, since the observer's angle is (R121). -/
def axisMa (s : State) (axis : Nat) : Int := Config.estimate (30 + axis) s.spn.samples s.freeCtr

/-- The bus law of HOLDUP: Iq_ref negative, clipped to -I_SPIN_MAX, Id_ref 0 (R139). -/
def busLaw (late : List Nat) (s : State) : State :=
  if s.spn.st = .holdup then
    let s1 := runLaw4 late 3 ((s.spn.lim.vHold : Int) - s.spn.vBus) s
    updSpn s1 fun p => { p with idRef := 0, iqRef := clampI (-(p.lim.iSpinMax : Int)) 0 (lawMa p 3) }
  else s

/-- CURRENT_SAMPLES_READY (R118 to R121, R123, R139). -/
def currentSamples (code1 code2 : Int) (late : List Nat) (s : State) : State :=
  if powered s then
    let s1 := takeSamples code1 code2 s
    if drives s1.spn && !s1.spn.gatesOff then
      let s2 := busLaw late s1
      let s3 := runLaw4 late 1 (s2.spn.iqRef - axisMa s2 1) (runLaw4 late 0 (s2.spn.idRef - axisMa s2 0) s2)
      if late.contains 0 || late.contains 1 then updSpn s3 fun p => { p with missRun := satInc 8 p.missRun }
      else nextDuty (updSpn s3 fun p => { p with missRun := 0 })
    else s1
  else s

def execCurrentSamplesReady (code1 code2 : Int) (late : List Nat) (s : State) : Host.Outcome State Fault Refusal :=
  .next (currentSamples code1 code2 late s)

/-- OVERCURRENT_TRIP: gates off, OC_TRIP, COAST for 10 ms; the third trip within 1 s sets SPN_FAULT.
A drive in HOLDUP keeps that state with its gates off (R120, R124). -/
def execOvercurrentTrip (s : State) : Host.Outcome State Fault Refusal :=
  .next (if powered s then
      let ts := s.us :: recent s.us 1000000 s.spn.ocTimes
      let s1 := raise (updSpn (gatesOffNow s) fun p => { p with ocTrip := true, ocTimes := ts }) .ocTrip 2 0x06 0
      if s.spn.st = .holdup ∨ s.spn.st = .stopped then s1
      else if 3 ≤ ts.length then raise (updSpn (enterCoast s1 0) fun p => { p with fault := true }) .spnFault 0 0x06 0
      else enterCoast s1 10
    else s)

/-- COAST_RESTART: the COAST delay has expired; the drive restarts through LISTEN unless SPN_FAULT
holds it or a supply loss has started the breakwater sequence (R120, R124, R139). -/
def execCoastRestart (s : State) : Host.Outcome State Fault Refusal :=
  .next (if powered s && decide (s.spn.st = .coast) && !s.spn.fault && !heldOff s && passedNs s s.spn.coastUs (s.spn.coastMs * 1000000) then
      enterWatch s .listen
    else s)

/-- OBSERVER_LOCK: locked, at 300 rpm or more; FORCED hands over to RUN with a blend over 64 periods and Iq_ref
at the forced current's projection, whose angle is free (R121, R127). -/
def observerLock (s : State) : State :=
  if powered s && decide (2400 ≤ s.spn.meas) then
    if s.spn.st = .forced ∧ !heldOff s then
      let x := freeMa s
      updSpn x.2 fun p => { p with obsLock := true, st := .run, blendLeft := 64, idRef := 0,
                                   iqRef := clampI (-p.vecMa) p.vecMa x.1, ref := p.meas,
                                   refFrac := 0, spinUp := true, starts := 0 }
    else updSpn s fun p => { p with obsLock := true }
  else s

def execObserverLock (s : State) : Host.Outcome State Fault Refusal := .next (observerLock s)

/-- OBSERVER_LOCK_LOSS: in RUN gates off, OBS_LOSS, COAST for 5 ms (R121). -/
def execObserverLockLoss (s : State) : Host.Outcome State Fault Refusal :=
  .next (if powered s then
      let s1 := updSpn s fun p => { p with obsLock := false }
      if s.spn.st = .run then
        raise (updSpn (enterCoast s1 5) fun p => { p with obsLoss := true }) .obsLoss 2 0x06 0
      else s1
    else s)

/-- The stream whose index crossings are used now (R122). -/
def revOf (s : State) : Option Strm :=
  match s.spn.revStream with
  | some r => some r
  | none => longestAngle s

/-- INDEX_CROSSING: LKB_REF sets, the trim takes the index-to-index period and one revolution is
counted (R122, R506). -/
def indexCrossing (m : Strm) (stamp : Nat) (s : State) : State :=
  if powered s && s.streams[m].angleValid && decide (revOf s = some m) then
    updDevCtr (updSpn s fun p =>
      { p with revStream := some m, lkbRef := true, lastIndex := some stamp,
               trim := match p.lastIndex with | some t => if p.revStream = some m then stamp - t else p.trim | none => p.trim })
      fun d => { d with spindleRevs := ctrAdd d.spindleRevs 1 }
  else s

def execIndexCrossing (m : Strm) (stamp : Nat) (s : State) : Host.Outcome State Fault Refusal :=
  .next (indexCrossing m stamp s)

/-- CURRENT_LAW_MISS_COAST: eight consecutive periods with a missed current law; a drive in HOLDUP keeps that
state with its gates off (R123, R124). -/
def currentLawCoast (s : State) : State :=
  if powered s && drives s.spn && decide (8 ≤ s.spn.missRun) then
    updSpn (if s.spn.st = .holdup then gatesOffNow s else enterCoast s 10) fun p => { p with missRun := 0 }
  else s

def execCurrentLawMissCoast (s : State) : Host.Outcome State Fault Refusal := .next (currentLawCoast s)

/-! ### Reference speed (R128 to R135, R140) -/

/-- Some actuator is loaded: not PARKED. -/
def anyLoaded (s : State) : Bool := allActs.any fun a => decide (s.acts[a].mode ≠ .parked)

/-- A media operation is in progress on some actuator (R132). -/
def mediaBusy (s : State) : Bool := allActs.any fun a => s.cmds.pilots[a].busy.isSome

/-- The speed the reference moves toward and whether its class is FREE (R129, R133, R140). -/
def aimOf (s : State) : Nat × Bool :=
  let p := s.spn
  if p.stopping then (if anyLoaded s then 38400 else 9600, true)
  else if p.capThermal then (8 * min p.setPoint 5400, false)
  else (8 * p.setPoint, p.free)

/-- The slope from reference `r` toward `aim`, half rpm/s (R128, R129). -/
def slopeOf (p : Spindle) (aim : Nat) (free : Bool) : Nat :=
  let c := if p.spinUp ∧ p.ref < aim then p.lim.aStart else if free then p.lim.slewFree else p.lim.slewXfer
  if p.decelHalf ∧ aim < p.ref then c else 2 * c

/-- The reference in millionths of 1/8 rpm after one sample of 250 µs, by a slope in half rpm/s (R129). -/
def moveRef (r aim slope : Nat) : Nat :=
  if r < aim then min aim (r + slope * 1000) else max aim (r - slope * 1000)

/-- R130: a new set-point starts from the measured speed where it differs by more than 10 rpm. -/
def replan (p : Spindle) : Spindle :=
  if p.newSet then
    if 80 < ((p.meas : Int) - p.ref).natAbs then { p with newSet := false, ref := p.meas, refFrac := 0 }
    else { p with newSet := false }
  else p

/-- The reference neither moves nor re-plans: not RUN, a FREE drain, DIRTY_HOLD, or frozen (R132, R135, R451). -/
def refHeld (p : Spindle) : Bool :=
  decide (p.st ≠ .run) || p.freeDrain || p.frozen || p.dirtyHold

/-- The reference speed of one speed-law sample (R128 to R130, R135, R140). -/
def refStep (s : State) : State :=
  if refHeld s.spn then updSpn s fun p => { p with ramping := false }
  else
    let p := replan s.spn
    let aim := aimOf s
    let r0 := p.ref * 1000000 + p.refFrac
    let slope := slopeOf p aim.1 aim.2
    let r1 := moveRef r0 (aim.1 * 1000000) slope
    let hold := decide (aim.1 < 43200) && decide (43200000000 ≤ r0) && decide (r1 ≤ 43200000000) &&
      decide (bound15 < dirtyBlocks s)
    let r := if hold then 43200000000 else r1
    let s1 := updSpn s fun _ =>
      { p with ref := r / 1000000, refFrac := r % 1000000, dirtyHold := hold, ramping := decide (r ≠ r0),
               spinUp := p.spinUp && decide (r < aim.1 * 1000000) }
    if p.stopping ∧ r ≤ 9600000000 then enterWatch s1 .brake else s1

/-- XFER_OK as R131 states it, `slope` being how fast the reference moves now, half rpm/s. -/
def xferHolds (p : Spindle) (slope : Nat) : Bool :=
  decide (p.st = .run) && decide (38400 ≤ p.meas) && decide (p.meas ≤ 57600) &&
    decide (((p.meas : Int) - p.ref).natAbs ≤ 80) && !p.freeDrain &&
    (!p.ramping || decide (slope ≤ 2 * p.lim.slewXfer))

/-- The largest |Iq_ref| in mA whose regenerated power Kt x |Iq| x ωm stays within P_REGEN at the measured
speed, with 2π taken as 6.283185307; no limit where that product is 0. The torque constant is free: the spec
does not tie it to the motor parameters (R137). -/
def regenMa (p : Spindle) : Nat :=
  let d := Config.torqueConst p.motor.ke * p.meas * 6283185307
  if d = 0 then p.lim.iSpinMax else min p.lim.iSpinMax (p.lim.pRegen * 480 * 10 ^ 18 / d)

/-- Iq_ref of the speed law: within ±I_SPIN_MAX; while the reference falls the negative side is
clipped to the regeneration limit, and with the chopper failed to motoring (R123, R137, R138). -/
def speedLaw (late : Bool) (s : State) : State :=
  if s.spn.st ≠ .run then s
  else
    updSpn (runLaw4 (if late then [2] else []) 2 ((s.spn.ref : Int) - s.spn.meas) s) fun p =>
      let low : Int := if p.chopFail then 0
        else if p.ramping ∧ (aimOf s).1 < p.ref then -(regenMa p : Int) else -(p.lim.iSpinMax : Int)
      { p with iqRef := clampI low p.lim.iSpinMax (lawMa p 2) }

/-- The under-speed counts of R136, in samples of 250 µs. -/
def underCount (s : State) : State :=
  let inService := decide (s.spn.st = .run) && !s.spn.stopping && !s.spn.spinUp
  updSpn s fun p =>
    { p with underDirtyN := if inService ∧ p.meas < 40000 ∧ bound15 < dirtyBlocks s then satInc 80 p.underDirtyN else 0,
             underN := if inService ∧ p.meas < 36800 then satInc 80 p.underN else 0 }

/-- SPEED_LAW_SAMPLE: limits apply, the speed is measured, the reference moves, XFER_OK is evaluated
(R123, R128 to R131, R135 to R138, R142, R143), and with them the dirty bound (R462). -/
def execSpeedLawSample (meas8 : Nat) (late : Bool) (s : State) : Host.Outcome State Fault Refusal :=
  .next (if powered s then
      let s0 := updSpn s fun p =>
        { p with meas := meas8 % 65536, obsLock := p.obsLock && decide (2400 ≤ meas8 % 65536),
                 lim := (match p.limPend with
                   | some l => { l with tDead := p.lim.tDead, tMin := p.lim.tMin }
                   | none => p.lim),
                 limPend := none }
      let s1 := if s0.spn.lim.vChopOn = s.spn.lim.vChopOn then s0
        else pslWrite s0 0x12 ((s0.spn.lim.vChopOn - 12000) / 10)
      let aim := aimOf s1
      let slope := slopeOf s1.spn aim.1 aim.2
      let s2 := speedLaw late (refStep s1)
      let s3 := underCount (setXfer s2 (xferHolds s2.spn slope))
      derateCheck (if s3.spn.st = .holdup ∧ s3.spn.meas < 9600 then gatesOffNow s3 else s3)
    else s)

/-! ### Listening, braking, starting (R125 to R128) -/

/-- Whether a line voltage crosses zero between two samples, and rising (R125). -/
def crosses (a b : Int) : Option Bool :=
  if a < 0 ∧ 0 ≤ b then some true else if 0 ≤ a ∧ b < 0 then some false else none

/-- The order of two consecutive crossings: 1 forward, 2 backward, 3 neither. In the sequence U, V, W
a rising crossing of U - V is followed by a rising one of V - W, then falling ones in that order. -/
def pairDir (a b : Bool × Bool) : Nat :=
  if a.1 = b.1 then 3
  else if a.1 = false then (if a.2 = b.2 then 1 else 2)
  else (if a.2 = b.2 then 2 else 1)

/-- One zero crossing noted (R125). -/
def noteCross (line rising : Bool) (p : Spindle) : Spindle :=
  match p.crossLast with
  | none => { p with crossN := 1, crossLast := some (line, rising, p.vphN) }
  | some (l, r, n) =>
    let d := pairDir (l, r) (line, rising)
    { p with crossN := p.crossN + 1, crossLast := some (line, rising, p.vphN), crossPrev := n,
             crossHalf := if 2 ≤ p.crossN then p.vphN - p.crossPrev else 0,
             crossDir := if p.crossDir = 0 ∨ p.crossDir = d then d else 3 }

/-- The phase voltages are watched for back-EMF: in LISTEN, and in BRAKE with all gates off (R125, R126). -/
def watches (p : Spindle) : Bool := decide (p.st = .listen) || (decide (p.st = .brake) && p.gatesOff)

/-- A phase voltage in mV: a 12-bit code with 1.500 V at full scale, before its divider, whose ratio the spec
leaves to the integrator (R47). -/
def vphMv (c : BitVec 12) : Nat := Config.vphRatio * 1500 * c.toNat / 4096

/-- What a set of phase voltages in mV shows of the back-EMF (R125, R126). -/
def watchEmf (u v w : Nat) (p : Spindle) : Spindle :=
  let e : Int × Int := ((u : Int) - v, (v : Int) - w)
  let peak := max e.1.natAbs e.2.natAbs
  let p1 := { p with vphN := p.vphN + 1, vphPeak := max p.vphPeak peak,
                     quietN := if peak < 50 then satInc 10000 p.quietN else 0 }
  let p2 := match p.vphLast with
    | some l =>
      let q := match crosses l.1 e.1 with | some r => noteCross false r p1 | none => p1
      (match crosses l.2 e.2 with | some r => noteCross true r q | none => q)
    | none => p1
  { p2 with vphLast := some e }

/-- PHASE_VOLTAGE_SAMPLE: the three codes at count 1,250 of every period, or every 10 µs where they are
watched (R47, R118, R125, R126). -/
def phaseVoltages (u v w : BitVec 12) (s : State) : State :=
  if powered s then
    let a := vphMv u
    let b := vphMv v
    let c := vphMv w
    let s1 := updSpn s fun p => { (if watches p then watchEmf a b c p else p) with vph := (a, b, c) }
    if watches s.spn then s1 else { s1 with pins := { s1.pins with spgEn := spgNow s1.spn 1250 } }
  else s

def execPhaseVoltageSample (u v w : BitVec 12) (s : State) : Host.Outcome State Fault Refusal := .next (phaseVoltages u v w s)

/-- The speed of the crossings: one electrical half period of 10 µs samples (R125). -/
def listenSpeed (p : Spindle) : Nat :=
  if p.crossHalf = 0 then 0 else 24000000 / (p.crossHalf * max p.motor.poles 1)

/-- The finding of LISTEN: 0 standstill, 1 forward, 2 backward, 3 undetermined (R125). -/
def listenFinding (p : Spindle) : Nat :=
  if p.vphPeak < 50 then 0
  else if 0 < p.crossHalf ∧ listenSpeed p < 480 then 0
  else if 4 ≤ p.crossN ∧ (p.crossDir = 1 ∨ p.crossDir = 2) then p.crossDir
  else 3

/-- Start current laws 0 and 1 against the outputs last issued (R102, R125). -/
def startCurrentLaws (p : Spindle) : Spindle :=
  let start := fun l : Law => { l with pendStart := some l.out }
  { p with laws := vupd (vupd p.laws 0 start) 1 start }

/-- LISTEN_COMPLETE: LISTEN_T has ended, in samples of 10 µs (R118, R125). Where the breakwater sequence keeps
the gates off, the drive stays in BRAKE with its gates off (R124). -/
def listenComplete (s : State) : State :=
  if powered s && decide (s.spn.st = .listen) && decide (100 * s.spn.lim.listenT ≤ s.spn.vphN) then
    let f := listenFinding s.spn
    let v := listenSpeed s.spn
    let s1 := updSpn s fun p => { p with direction := if f = 3 then 0 else f }
    if f = 1 ∧ 8 * s.spn.lim.catchMin < v ∧ !s.spn.stopping ∧ !heldOff s then
      updSpn s1 fun p => { startCurrentLaws p with
        st := .run, gatesOff := false, shortBrake := false, ref := v, refFrac := 0, iqRef := 0,
        idRef := 0, spinUp := true, starts := 0, newSet := false }
    else enterWatch s1 .brake
  else s

def execListenComplete (s : State) : Host.Outcome State Fault Refusal := .next (listenComplete s)

/-- R126: I_sc ≤ I_WIND_MAX, with E in mV and the electrical speed from 1/8 rpm; both sides squared
and scaled, π² taken as 9.869604401. -/
def brakeAllowed (p : Spindle) (emfMv rpm8 : Nat) : Bool :=
  let d := 230400 * 10 ^ 15
  let x := rpm8 * p.motor.poles * p.motor.lph
  decide ((1000 * emfMv) ^ 2 * d ≤ p.lim.iWindMax ^ 2 * (p.motor.rph ^ 2 * d + x ^ 2 * 4 * 9869604401))

/-- Braking is needed with the chopper failed (R138). -/
def brakeNeeded (p : Spindle) : Bool := decide (p.st = .run) && p.chopFail && decide (p.ref + 80 < p.meas)

/-- The quiet time after a braking decision: the millisecond under short brake before it counts by the back-EMF
of the decision, a line peak of √3 times it. DEDUCED: a short brake leaves nothing to sample (R126). -/
def quietBrake (emfMv : Nat) (p : Spindle) : Nat :=
  if 2500 ≤ 3 * emfMv * emfMv then 0
  else if p.shortBrake then min 10000 (p.quietN + 100) else p.quietN

/-- BRAKE_DECISION: every 1 ms in BRAKE, and with the chopper failed while braking is needed
(R124, R126, R138). -/
def brakeDecision (emfMv rpm8 : Nat) (s : State) : State :=
  if powered s && (decide (s.spn.st = .brake) || brakeNeeded s.spn) then
    let s1 := updSpn s fun p => { p with quietN := quietBrake emfMv p }
    if brakeAllowed s.spn emfMv rpm8 && !heldOff s then
      { updSpn s1 fun p => { p with shortBrake := true, gatesOff := false } with
        pins := { s.pins with spgEn := 0b101010 } }
    else gatesOffNow s1
  else s

def execBrakeDecision (emfMv rpm8 : Nat) (s : State) : Host.Outcome State Fault Refusal :=
  .next (brakeDecision emfMv rpm8 s)

/-- STANDSTILL_DECLARED: 100 ms with no line back-EMF of 50 mV or more, in samples of 10 µs: STOPPED after a
stop, else ALIGN with its current vector at angle 0 (R124, R126, R127, R140). -/
def standstill (s : State) : State :=
  if powered s && decide (s.spn.st = .brake) && decide (10000 ≤ s.spn.quietN) then
    if s.spn.stopping then updSpn (gatesOffNow s) fun p => { p with st := .stopped, stopping := false, ref := 0 }
    else if heldOff s then s
    else updSpn s fun p =>
      let i := p.lim.iAlign * p.lim.iSpinMax / 100
      { p with st := .align, shortBrake := false, gatesOff := false, alignN := 0, forced := 0, vecAngle := 0,
               vecMa := i, idRef := i, iqRef := 0 }
  else s

def execStandstillDeclared (s : State) : Host.Outcome State Fault Refusal := .next (standstill s)

/-- ALIGN_COMPLETE: T_ALIGN has ended, in periods of 25 µs (R127). -/
def alignComplete (s : State) : State :=
  if powered s && decide (s.spn.st = .align) && decide (40 * s.spn.lim.tAlign ≤ s.spn.alignN) then
    updSpn s fun p => { p with st := .forced, forced := 0 }
  else s

def execAlignComplete (s : State) : Host.Outcome State Fault Refusal := .next (alignComplete s)

/-- START_FAIL: forced speed at 600 rpm without lock: COAST for 500 ms; SPN_FAULT after three (R127). -/
def startFail (s : State) : State :=
  if powered s && decide (s.spn.st = .forced) && !s.spn.obsLock && decide (4800000000 ≤ s.spn.forced) then
    let n := s.spn.starts + 1
    raise (updSpn (enterCoast s (if 3 ≤ n then 0 else 500)) fun p =>
      { p with startFail := true, starts := n, fault := p.fault || decide (3 ≤ n) }) .startFail 2 0x06 0 n
  else s

def execStartFail (s : State) : Host.Outcome State Fault Refusal := .next (startFail s)

/-! ### Set-points, policy, under-speed, hold-up -/

/-- FREE_RAMP_START: the drain of R132 has ended. -/
def execFreeRampStart (s : State) : Host.Outcome State Fault Refusal :=
  .next (if powered s && s.spn.freeDrain && !mediaBusy s then updSpn s fun p => { p with freeDrain := false } else s)

/-- The class in force is FREE: the 110 °C step makes it XFER (R133). -/
def freeNow (p : Spindle) : Bool := p.free && !p.capThermal

/-- A set-point or class that comes into force now: FREE clears XFER_OK at once and drains (R132, R133). -/
def startClass (s : State) : State :=
  let s1 := updSpn s fun p => { p with newSet := true, freeDrain := freeNow p && decide (p.st = .run) }
  if freeNow s.spn then setXfer s1 false else s1

/-- Accept a set-point and its class (R129, R130, R132, R133). -/
def acceptSet (s : State) (rpm : Nat) (free : Bool) : State :=
  startClass (updSpn s fun p =>
    { p with setPoint := rpm, free := free, dirtyHold := p.dirtyHold && decide (rpm < 5400) })

/-- The 110 °C step begins or ends: the effective set-point becomes the lower of S and 5,400 rpm with class XFER,
or S with its own class, which drains where the reference has to move (R132, R133). -/
def thermalCap (s : State) (cap : Bool) : State :=
  if s.spn.capThermal = cap then s
  else
    let s1 := updSpn s fun p => { p with capThermal := cap }
    if cap || decide (8 * s.spn.setPoint ≠ s.spn.ref) then startClass s1 else updSpn s1 fun p => { p with newSet := true }

/-- SPEED_POLICY_EVAL: the load of each actuator over the last 10 s, in per cent (R134). -/
def execSpeedPolicyEval (busy : List Nat) (s : State) : Host.Outcome State Fault Refusal :=
  .next (if live s && s.spn.pol.demand then
      let l := busy.foldl max 0
      let pol := s.spn.pol
      let s1 := updSpn s fun p =>
        { p with highN := if pol.lHi < l then satInc 2 p.highN else 0,
                 lowN := if l < pol.lLo then satInc 3600 p.lowN else 0, sinceRaise := satInc 3600 p.sinceRaise }
      if 2 ≤ s1.spn.highN ∧ s.spn.setPoint < pol.sMax then
        acceptSet (updSpn s1 fun p => { p with sinceRaise := 0 }) (min (s.spn.setPoint + pol.sStep) pol.sMax) false
      else if pol.tDwell ≤ s1.spn.lowN ∧ pol.tDwell ≤ s1.spn.sinceRaise ∧ pol.sMin < s.spn.setPoint then
        acceptSet s1 (max (s.spn.setPoint - pol.sStep) pol.sMin) false
      else s1
    else s)

/-- DIRTY_HOLD_RELEASE: the cache holds 1.5 GiB or less; a FREE ramp drains again first (R132, R135). -/
def execDirtyHoldRelease (s : State) : Host.Outcome State Fault Refusal :=
  .next (if powered s && s.spn.dirtyHold && decide (dirtyBlocks s ≤ bound15) then
      let s1 := updSpn s fun p => { p with dirtyHold := false, freeDrain := freeNow p }
      if freeNow s.spn then setXfer s1 false else s1
    else s)

/-- UNDERSPEED: a condition of R136 has held for 20 ms; the breakwater sequence starts. -/
def execUnderspeed (s : State) : Host.Outcome State Fault Refusal :=
  .next (if powered s && (decide (80 ≤ s.spn.underDirtyN) || decide (80 ≤ s.spn.underN)) then
      startBreakwater (updSpn s fun p => { p with underspeed := true }) 0x5
    else s)

/-- CHOPPER_FAULT: CHOP_FAULT reported, or V_BUS above V_OV for 20 µs with the chopper on (R138). -/
def execChopperFault (s : State) : Host.Outcome State Fault Refusal :=
  .next (if powered s && !s.spn.chopFail && (s.psl.chopFault || decide (20000 ≤ s.spn.ovNs)) then
      raise (updSpn s fun p => { p with chopFail := true, decelHalf := true }) .chopFault 0 0x06 0 s.spn.vBus
    else s)

/-- HOLDUP_ENTRY: the first period start after a breakwater start, or after an upgrade: a locked
drive enters HOLDUP, any other has its gates off (R124, R139, R451). -/
def execHoldupEntry (s : State) : Host.Outcome State Fault Refusal :=
  .next (if powered s && s.bw.started && (decide (s.bw.cause < 8) || s.bw.upgraded) && decide (s.spn.st ≠ .holdup) then
      if s.spn.obsLock then
        updBw (setXfer (updSpn s fun p =>
          { p with st := .holdup, gatesOff := false, shortBrake := false, idRef := 0, ramping := false }) false)
          fun b => { b with holdup := true }
      else gatesOffNow s
    else s)

/-- Enter LISTEN from STOPPED once the power-stage link is UP (R124, R231). -/
def spinStart (s : State) : State :=
  if s.psl.l.st = .up then updSpn (enterWatch s .listen) fun p => { p with startWait := false, starts := 0, fault := false }
  else updSpn s fun p => { p with startWait := true }

/-! ### Messages (R129, R134, R140 to R143) -/

/-- The body of SPN_SET_SPEED. -/
def spnSetSpeed (rpm cls : Nat) (s : State) : Ans :=
  if s.spn.pol.demand then failA s 0x000C
  else if 4800 ≤ rpm ∧ rpm ≤ 7200 ∧ cls ≤ 1 then okA (acceptSet s rpm (decide (cls = 1)))
  else rangeA s

def execSpnSetSpeed (r : Req) (rpm cls : Nat) (s : State) : Host.Outcome State Fault Refusal :=
  .next (serve s r { opc := 0x0601, setter := true } (.spnSetSpeed r rpm cls) (spnSetSpeed rpm cls))

/-- The parameters of SPN_SET_POLICY (R143). -/
def policyPars : List (Par SpnPolicy) :=
  [parB fun v p => { p with demand := v },
   parN 4800 7200 fun v p => { p with sFixed := v },
   parN 4800 7200 fun v p => { p with sMin := v },
   parN 4800 7200 fun v p => { p with sMax := v },
   parN 100 2400 fun v p => { p with sStep := v },
   parN 10 95 fun v p => { p with lHi := v },
   parN 10 95 fun v p => { p with lLo := v },
   parN 10 3600 fun v p => { p with tDwell := v }]

/-- The body of SPN_SET_POLICY: in FIXED mode the set-point is S_FIXED with class XFER (R134). -/
def spnSetPolicy (ps : Params) (s : State) : Ans :=
  setA s policyPars (fun p => [([2, 3], decide (p.sMin ≤ p.sMax)), ([5, 6], decide (p.lLo < p.lHi))]) ps s.spn.pol
    fun p =>
      let s1 := updSpn s fun x => { x with pol := p }
      if !p.demand && anyBit ps [0, 1] then acceptSet s1 p.sFixed false else s1

def execSpnSetPolicy (r : Req) (ps : Params) (s : State) : Host.Outcome State Fault Refusal :=
  .next (serve s r { opc := 0x0602, setter := true } (.spnSetPolicy r ps) (spnSetPolicy ps))

/-- The parameters of SPN_SET_LIMITS (R143); T_DEAD counts its step of 10 ns. -/
def limitPars : List (Par SpnLimits) :=
  [parN 100 8000 fun v p => { p with iSpinMax := v },
   parN 100 10000 fun v p => { p with iWindMax := v },
   parN 5 100 fun v p => { p with tDead := 10 * v },
   parN 40 250 fun v p => { p with tMin := v },
   parN 10 100 fun v p => { p with listenT := v },
   parN 200 1000 fun v p => { p with catchMin := v },
   parN 10 100 fun v p => { p with iAlign := v },
   parN 50 1000 fun v p => { p with tAlign := v },
   parN 100 1500 fun v p => { p with aStart := v },
   parN 10 150 fun v p => { p with slewXfer := v },
   parN 150 1500 fun v p => { p with slewFree := v },
   parN 12400 13600 fun v p => { p with vChopOn := v },
   parN 0 14500 fun v p => { p with vOv := v },
   parN 0 60 fun v p => { p with pRegen := v },
   parN 9000 11800 fun v p => { p with vHold := v }]

/-- The body of SPN_SET_LIMITS: it applies at the next speed-law sample, T_DEAD and T_MIN at the next
period start (R143). -/
def spnSetLimits (ps : Params) (s : State) : Ans :=
  let base := s.spn.limPend.getD s.spn.lim
  let base := match s.spn.pwmPend with | some (d, m) => { base with tDead := d, tMin := m } | none => base
  setA s limitPars (fun p => [([0], decide (p.iSpinMax * s.spn.motor.shunt ≤ 200000)),
      ([11, 12], decide (p.vChopOn + 200 ≤ p.vOv))]) ps base
    fun p => updSpn s fun x => { x with limPend := some p, pwmPend := some (p.tDead, p.tMin) }

def execSpnSetLimits (r : Req) (ps : Params) (s : State) : Host.Outcome State Fault Refusal :=
  .next (serve s r { opc := 0x0603, setter := true } (.spnSetLimits r ps) (spnSetLimits ps))

/-- The parameters of SPN_SET_MOTOR (R143). -/
def motorPars : List (Par SpnMotor) :=
  [parN 2 8 fun v p => { p with poles := v },
   parN 100 20000 fun v p => { p with rph := v },
   parN 10 5000 fun v p => { p with lph := v },
   parN 100 5000 fun v p => { p with ke := v },
   parN 20 2000 fun v p => { p with inertia := v },
   parN 5 200 fun v p => { p with shunt := v }]

/-- The body of SPN_SET_MOTOR: MANUFACTURE and RETURN only (R142). -/
def spnSetMotor (ps : Params) (s : State) : Ans :=
  if s.sec.life = .manufacture ∨ s.sec.life = .ret then
    setA s motorPars (fun p => [([5], decide (s.spn.lim.iSpinMax * p.shunt ≤ 200000))]) ps s.spn.motor
      fun p => updSpn s fun x => { x with motor := p }
  else failA s 0x0006

def execSpnSetMotor (r : Req) (ps : Params) (s : State) : Host.Outcome State Fault Refusal :=
  .next (serve s r { opc := 0x0604, need := .fa, setter := true } (.spnSetMotor r ps) (spnSetMotor ps))

/-- The body of SPN_START: from STOPPED, or from a COAST that SPN_FAULT holds (R120, R124). -/
def spnStart (s : State) : Ans :=
  if s.spn.st = .stopped ∨ (s.spn.st = .coast ∧ s.spn.fault) then okA (spinStart s) else conflictA s

def execSpnStart (r : Req) (s : State) : Host.Outcome State Fault Refusal :=
  .next (serve s r { opc := 0x0605 } (.spnStart r) spnStart)

/-- The body of SPN_STOP: every actuator unloads, then a FREE ramp to 1,200 rpm, BRAKE and STOPPED
(R140). A drive not yet in RUN brakes at once. -/
def spnStop (s : State) : Ans :=
  let p := s.spn
  if p.st = .stopped then okA (updSpn s fun p => { p with startWait := false })
  else if p.st = .holdup then conflictA s
  else
    let s1 := forEach allActs (updSpn s fun p =>
      { p with stopping := true, spinUp := false, newSet := true, freeDrain := decide (p.st = .run), dirtyHold := false }) unload
    if p.st = .run then okA (setXfer s1 false)
    else if p.st = .coast then okA s1
    else okA (enterWatch s1 .brake)

def execSpnStop (r : Req) (s : State) : Host.Outcome State Fault Refusal :=
  .next (serve s r { opc := 0x0606 } (.spnStop r) spnStop)

/-- The code of a spindle state (R124). -/
def spnCode : SpnSt → Nat
  | .stopped => 0
  | .listen => 1
  | .brake => 2
  | .align => 3
  | .forced => 4
  | .run => 5
  | .coast => 6
  | .holdup => 7

/-- SPN_STATUS (R141). -/
def spnStatus (p : Spindle) : Nat :=
  packF [(28, 4, spnCode p.st), (27, 1, b2n p.obsLock), (26, 1, b2n p.lkbRef), (25, 1, b2n p.xferOk),
    (24, 1, b2n p.ramping), (23, 1, b2n p.capThermal), (22, 1, b2n p.dirtyHold), (21, 1, b2n p.chopFail),
    (20, 1, b2n p.decelHalf), (19, 1, b2n p.fault), (18, 1, b2n p.ocTrip), (17, 1, b2n p.obsLoss),
    (16, 1, b2n p.dlMiss), (15, 1, b2n p.sampleBad), (14, 1, b2n p.underspeed), (13, 1, b2n p.startFail),
    (12, 1, b2n p.shifted), (10, 2, p.direction), (0, 8, p.badCnt)]

/-- SPN_SPEED (R142). -/
def spnSpeed (p : Spindle) : Nat := packF [(16, 16, p.meas), (0, 16, p.ref)]

/-- What reading SPN_STATUS clears (R141). -/
def spnClear (c : BitVec 64) (p : Spindle) : Spindle :=
  { p with ocTrip := w1c c 18 p.ocTrip, obsLoss := w1c c 17 p.obsLoss, dlMiss := w1c c 16 p.dlMiss,
           sampleBad := w1c c 15 p.sampleBad, underspeed := w1c c 14 p.underspeed,
           startFail := w1c c 13 p.startFail, shifted := w1c c 12 p.shifted, badCnt := 0 }

/-- The body of SPN_GET_STATUS. -/
def spnGetStatus (clear : BitVec 64) (s : State) : Ans :=
  getA (updSpn s (spnClear clear)) [(4, spnStatus s.spn), (4, spnSpeed s.spn)]

def execSpnGetStatus (r : Req) (clear : BitVec 64) (s : State) : Host.Outcome State Fault Refusal :=
  .next (serve s r { opc := 0x0607, need := .rd } (.spnGetStatus r clear) (spnGetStatus clear))

end Sys2Proof.Machine
end

