-- ==== Sys2Proof/Machine/Channel.lean ====
section
/-! DEFINITION. Channel: opening a read gate, finding and judging a sector, its result word, the
recovery ladder and the channel messages (chapter 6). -/

namespace Sys2Proof.Machine

/-! ### Opening a read gate (R144 to R148, R153, R161 to R164) -/

/-- FMT_ERR: the format of the stream's head and zone is invalid (R161). -/
def fmtErr (s : State) (m : Strm) : Bool :=
  let st := s.streams[m]
  let c := chzOf s st.head st.zone
  st.selected && !formatValid c.code c.slotTc (ratioOf s st.head st.zone)

/-- The recovery record of a sector. -/
def recOf (c : ChnStream) (o : ReadOrd) : Option RecRec :=
  c.ladder.find? fun r => r.ord.track = o.track ∧ r.ord.slot = o.slot ∧ r.ord.head = o.head

/-- The variant of rung 3 with which a sector is read: 0 reader 0, 1 reader 1, 2 and 3 an offset of +RR_OFS and
-RR_OFS (R174). -/
def variantOf (c : ChnStream) (o : ReadOrd) : Option Nat :=
  match recOf c o with | some r => if r.rung = 3 then some r.variant else none | none => none

/-- The read target with a variant's offset (R174). -/
def targetWith (ofs : Nat) (o : ReadOrd) (v : Option Nat) : Int :=
  if v = some 2 then o.target + ofs else if v = some 3 then o.target - ofs else o.target

/-- The reader selection with a variant's (R144, R174). -/
def selWith (sel : Nat) (v : Option Nat) : Nat := if v = some 0 then 1 else if v = some 1 then 2 else sel

/-- R162: the stream may open its read gate for a read order, whose sector then starts with the parameters set
by now (R181). -/
def readGateOk (s : State) (m : Strm) (o : ReadOrd) : Bool :=
  let st := s.streams[m]
  let c := chzOf s o.head o.zone
  let target := targetWith s.chnDev.par.rrOfs o (variantOf s.chn[m] o)
  st.selected && decide (st.head = o.head) && st.toneLock && st.fine && st.trackValid && st.angleValid &&
    !st.zoneSettle && !st.seam && !st.lost && !st.rateClamped && !st.refused &&
    formatValid c.code c.slotTc (ratioOf s o.head o.zone) &&
    decide ((smpPos st.consumed - target).natAbs ≤ s.guards[actOfStream m].cfg.tRd) &&
    !s.wps[actOfStream m].wg && s.spn.xferOk

/-- The PSA a read order expects (R168). -/
def readPsa (s : State) (o : ReadOrd) : BitVec 40 := psaOf o.slot s.heads[o.head].surface o.track

/-- One tap between two anchors, `f` of the way of 1,200 rpm, in 1/8 rpm (R148). DESIGN CHOICE: rounded down. -/
def tapAt (a b : Int) (f : Nat) : Int := a + (b - a) * f / 9600

/-- The interpolated anchors at a speed (R148). -/
def anchorsAt (c : ChnHZ) (meas8 : Nat) : List Int :=
  let m := min (max meas8 38400) 57600 - 38400
  let i := if m < 9600 then 0 else 1
  (List.range 32).map fun k => tapAt (c.anchors.getD (32 * i + k) 0) (c.anchors.getD (32 * i + 32 + k) 0) (m - 9600 * i)

/-- The taps of the reader that is not selected are zero (R144). -/
def maskTaps (sel : Nat) (f : List Int) : List Int :=
  f.mapIdx fun k v => if (sel = 1 ∧ 16 ≤ k) ∨ (sel = 2 ∧ k < 16) then 0 else v

/-- The taps in use at a sector start (R144, R148). -/
def tapsFor (c : ChnHZ) (sel meas8 : Nat) : List Int :=
  maskTaps sel ((anchorsAt c meas8).mapIdx fun k v => v + clampI (-(c.deltaMax : Int)) c.deltaMax (c.delta.getD k 0))

/-- A result word (R170). -/
def resultWord (status iter : Nat) (flagged alt missed combined : Bool) (source delta : Nat) (psa : BitVec 40) :
    BitVec 64 :=
  BitVec.ofNat 64 (packF [(60, 4, status), (54, 6, min iter 63), (53, 1, b2n flagged), (52, 1, b2n alt),
    (51, 1, b2n missed), (50, 1, b2n combined), (48, 2, source), (40, 8, delta), (0, 40, psa.toNat)])

/-- The recovery record of a sector replaced. -/
def putRec (c : ChnStream) (r : RecRec) : ChnStream :=
  { c with ladder := (c.ladder.filter fun x =>
      !(decide (x.ord.track = r.ord.track ∧ x.ord.slot = r.ord.slot ∧ x.ord.head = r.ord.head))) ++ [r] }

/-- The recovery record of a sector freed. -/
def dropRec (c : ChnStream) (o : ReadOrd) : ChnStream :=
  { c with ladder := c.ladder.filter fun x =>
      !(decide (x.ord.track = o.track ∧ x.ord.slot = o.slot ∧ x.ord.head = o.head)) }

/-- A result waits to be posted. -/
def pushRes (s : State) (m : Strm) (r : ReadRes) : State :=
  updChn s m fun c => { c with results := c.results ++ [r] }

/-- The same sector of the same command (R175). -/
def sameRead (a b : ReadOrd) : Bool :=
  decide (a.op = b.op ∧ a.head = b.head ∧ a.track = b.track ∧ a.slot = b.slot)

/-- The GATE_REFUSED results of a sector within its command, one more taken (R175). -/
def countRefusal (l : List (ReadOrd × Nat)) (o : ReadOrd) : Nat × List (ReadOrd × Nat) :=
  let n := (match l.find? fun x => sameRead x.1 o with | some x => x.2 | none => 0) + 1
  let rest := l.filter fun x => !sameRead x.1 o
  (n, if 3 ≤ n then rest else (o, n) :: rest)

/-- The gate's travel in 1/256 tone cycle: 16 bits before the frame, the frame, and 16 bits after it (R162). -/
def gateSpan (c : ChnHZ) (q : Ratio) : Nat := (frameLen c.code + 32) * 256 * q.m / max q.n 1

/-- The expected sync position of a sector: its first preamble bit, 64 bits and SYNC_OFS (R153). -/
def expectedSync (s : State) (o : ReadOrd) : Int :=
  let c := chzOf s o.head o.zone
  let q := ratioOf s o.head o.zone
  let ang := (o.offset + o.slot * c.slotTc) % cyclesAt (surfOf s o.head) o.track
  (((ang * q.n + q.m - 1) / (max q.m 1) : Nat) : Int) + 64 + c.syncOfs

/-- A sector starts: its parameters are those set by now (R181); the gain and the sampling phase, which its
preamble gives, are free within their ranges (R144, R145, R148, R153, R162). -/
def sectorStart (s : State) (m : Strm) (o : ReadOrd) : State :=
  let c := chzOf s o.head o.zone
  let g := takeFree s
  let f := takeFree g.2
  let v := variantOf s.chn[m] o
  let sel := selWith c.datasel v
  let good := s.chnDev.headGood[o.head]
  updChn { f.2 with chnDev := { f.2.chnDev with now := f.2.chnDev.par } } m fun k => { queueDecode k with
    readGate := true, cur := some o, flagged := false, lostLock := false, aborted := false,
    eqAdapt := good, taps := tapsFor c sel s.spn.meas, curPar := { c with datasel := sel }, curMu := k.mu,
    curTarget := targetWith s.chnDev.par.rrOfs o v, recovNow := k.recovSlots,
    gateLeft := gateSpan c (ratioOf s o.head o.zone), expSync := expectedSync s o,
    gain := g.1 % 97, smpPhase := f.1 % 64, adcOn := (decide (sel ≠ 2), decide (sel ≠ 1)) }

/-! ### Equaliser and detector (R147, R149 to R151, R157, R165) -/

/-- Reader samples of one bit, and the ones before it, newest first. -/
abbrev Samples := List (Int × Int)

/-- The sum of tap by sample. -/
def dot : List Int → List Int → Int
  | f :: fs, x :: xs => f * x + dot fs xs
  | _, _ => 0

/-- The equaliser output y[n] in 1/1024 ADC code, from taps with `mu` more fraction bits (R147). -/
def firOut (mu : Nat) (taps : List Int) (w : Samples) : Int :=
  (dot (taps.take 16) (w.map (·.1)) + dot (taps.drop 16) (w.map (·.2))) / 2 ^ mu

/-- One LMS step for the bit at the head of the history: every tap moves against the error by its sample (R149).
The history holds readers, decision and output, newest first. DESIGN CHOICE: the error counts in 1/1024 ADC code and
a tap moves by 2^-MU of their product, kept exactly until the sector ends. -/
def lmsStep (g1 g2 : Int) (taps : List Int) (h : List (Int × Int × Int × Int)) : List Int :=
  let d := fun k => (h.getD k (0, 0, 0, 0)).2.2.1
  let y := (h.getD 0 (0, 0, 0, 0)).2.2.2
  let e := y - (Config.targetLevel * (1024 * d 0 + g1 * d 1 + g2 * d 2)) / 1024
  taps.mapIdx fun k f => f - e * (if k < 16 then (h.getD k (0, 0, 0, 0)).1 else (h.getD (k - 16) (0, 0, 0, 0)).2.1)

/-- LMS over the bits of a sector, the error of each bit applied 24 bits later (R149). -/
def lmsRun (mu : Nat) (g1 g2 : Int) : List (Int × Int × Int) → List (Int × Int × Int × Int) → List Int → List Int
  | [], _, f => f
  | (a, b, d) :: rest, hist, f =>
    let y := firOut mu f ((a, b) :: hist.map fun x => (x.1, x.2.1))
    let h := ((a, b, d, y) :: hist).take 48
    lmsRun mu g1 g2 rest h (if 24 < h.length then lmsStep g1 g2 f (h.drop 24) else f)

/-- The LLR of a detector output: times LLR_SCALE, to the nearest, saturating at ±31 (R150). -/
def llrOf (scale : Nat) (v : Int) : Int := clampI (-31) 31 ((v * scale + 32) / 64)

/-- The hard decision of an LLR. DESIGN CHOICE: an LLR of 0 reads as 0 (R150). -/
def hardBit (l : Int) : Bool := decide (l < 0)

/-- The adapted taps of a sector, Q2.10, rounded down (R149). -/
def adaptTaps (x : ReadCtx) (d : DecodeFacts) (llr : List Int) : List Int :=
  let bits := llr.map fun l => if hardBit l then (1 : Int) else -1
  let ins := (d.adc0.zip d.adc1).zip bits |>.map fun p => (p.1.1, p.1.2, p.2)
  (lmsRun x.mu x.par.g1 x.par.g2 ins [] (x.taps.map (· * 2 ^ x.mu))).map fun f => clampI (-2048) 2047 (f / 2 ^ x.mu)

/-- Bits in which a window differs from the sync mark; a window not complete differs in all (R165). -/
def syncDist (w : List Bool) : Nat :=
  if w.length < 32 then 32 else ((w.zip syncMark).filter fun p => p.1 != p.2).length

/-- The earliest of `n` windows of hard decisions that matches the mark, as its place (R165). -/
def findSync (hd : Nat) : Nat → Nat → List Bool → Option Nat
  | 0, _, _ => none
  | n + 1, k, bits => if syncDist (bits.take 32) ≤ hd then some k else findSync hd n (k + 1) bits.tail

/-- F - E of the search window, which begins WIN bits before E (R165). -/
def foundSync (c : ChnHZ) (llr : List Int) : Option Int :=
  (findSync c.syncHd (2 * c.win + 1) 0 (llr.map hardBit)).map fun k => (k : Int) - c.win

/-- The descrambled LLRs of the codeword of a sync position, `at_` bits from E (R157, R165). -/
def codeLlrs (c : ChnHZ) (track slot : Nat) (at_ : Int) (llr : List Int) : List Int :=
  let n := codeN c.code
  let cut := (llr.drop ((c.win : Int) + at_ + 32).toNat).take n
  (cut.zip (scrambleSeq n (scrambleSeed track slot))).map fun p => if p.2 then -p.1 else p.1

/-! ### Judging a sector (R165 to R172) -/

/-- The status of one candidate within its iteration limit: 0 good, 2 syndrome not zero, 3 to 6 as
R171 (R168). -/
def judge (psa : BitVec 40) (gen limit : Nat) (c : Option Candidate) : Nat :=
  match c with
  | none => 2
  | some c =>
    let b := c.block
    if limit < c.iters then 2
    else if !checkOk b || decide (hdr b 62 2 ≠ 1) || (!isParity b && decide (hdr b 84 2 = 3)) then 3
    else if hdr b 0 40 ≠ psa.toNat then 4
    else if hdr b 40 21 ≠ gen % 2 ^ 21 then 5
    else if isUnreadable b then 6
    else 0

/-- A candidate that satisfies R168. -/
def passes (st : Nat) : Bool := decide (st = 0 ∨ st = 6)

/-- What the decode of one sector gives. -/
structure Verdict where
  status : Nat := 2
  iter : Nat := 0
  alt : Bool := false
  missed : Bool := false
  delta : Nat := 0x80
  block : List Byte := []
  deriving DecidableEq, Repr

/-- The verdict of a list of (candidate, at F beyond TOL, iteration limit), tried in order (R166, R169). -/
def tryCandidates (psa : BitVec 40) (gen : Nat) : List (Option Candidate × Bool × Nat) → Verdict
  | [] => {}
  | (c, atF, lim) :: cs =>
    let st := judge psa gen lim c
    if passes st then
      { status := st, iter := (c.map (·.iters)).getD 0, alt := atF, block := (c.map (·.block)).getD [] }
    else
      let v := tryCandidates psa gen cs
      if passes v.status then v else if st = 2 then v else { v with status := st }

/-- The candidates of a sector in order: which position, whether it lies beyond TOL, and its iteration limit
(R166, R169). -/
def candidates (tol : Nat) (found : Option Int) (d : DecodeFacts) (l1 l2 : Nat) : List (Option Candidate × Bool × Nat) :=
  match found with
  | none => [(d.atE, false, l1)]
  | some x => if x.natAbs ≤ tol then [(d.atF, false, l1)] else [(d.atE, false, l1), (d.atF, true, l2)]

/-- SYNC_DELTA (R166). -/
def syncDelta (found : Option Int) : Nat := match found with | some x => toPat 8 x | none => 0x80

/-- The stream decode of a sector: positions, budgets, verdict (R165 to R169, R171). -/
def streamVerdict (s : State) (x : ReadCtx) (found : Option Int) (d : DecodeFacts) : Verdict :=
  let c := x.par
  let b := iterBudget c.code c.slotTc (ratioOf s x.ord.head x.ord.zone)
  let lim := min c.iterOtf b
  { tryCandidates (readPsa s x.ord) x.ord.gen (candidates c.tol found d lim (b - lim)) with
      missed := found.isNone, delta := syncDelta found }

/-- The LLR sets of a sector's decoded candidates, at E and at F (R166, R173). -/
def llrSets (x : ReadCtx) (found : Option Int) (llr : List Int) : List Int × List Int :=
  let get := fun p => codeLlrs x.par x.ord.track x.ord.slot p llr
  match found with
  | none => (get 0, [])
  | some p => if p.natAbs ≤ x.par.tol then ([], get p) else (get 0, get p)

/-! ### The ladder (R173 to R177) -/

/-- The rung a first status enters at; 0 where the sector does not enter (R172, R175). -/
def enterRung (status : Nat) (flagged : Bool) : Nat :=
  if status = 2 ∨ status = 3 then (if flagged then 2 else 1)
  else if status = 4 ∨ status = 8 ∨ status = 0xA then 2
  else if status = 5 ∨ status = 7 then 4
  else if status = 6 then 5
  else 0

/-- The rung after the re-reads: parity unless it has run (R174, R177). -/
def afterRereads (r : RecRec) : RecRec := { r with rung := if r.parityTried then 5 else 4 }

/-- The next rung after a failed attempt (R174, R175, R177). -/
def advance (dev : RecovPar) (r : RecRec) : RecRec :=
  let r := { r with waitDeep := false, inDeep := false }
  let toReread := fun r : RecRec =>
    if r.expired then afterRereads r
    else if 0 < dev.rrMax then { r with rung := 2 }
    else if r.first = 4 then afterRereads r else { r with rung := 3, variant := 0 }
  if r.rung = 1 then (if dev.parityFirst then { r with rung := 4 } else toReread r)
  else if r.rung = 2 then
    (if r.expired then afterRereads r
     else if r.attempts < dev.rrMax then r
     else if r.first = 4 then afterRereads r else { r with rung := 3, variant := 0 })
  else if r.rung = 3 then
    (if r.expired ∨ 3 ≤ r.variant then afterRereads r else { r with variant := r.variant + 1 })
  else if r.rung = 4 then
    (let r := { r with parityTried := true }
     if dev.parityFirst ∧ r.entry = 1 then toReread r else { r with rung := 5 })
  else r

/-- R276: a sector that reaches rung 4 counts against its head. -/
def countRung4 (s : State) (old : Nat) (r : RecRec) : State :=
  if r.rung = 4 ∧ old ≠ 4 then
    updHeadRec s r.ord.head fun h => { h with uncTimes := s.us :: h.uncTimes }
  else s

/-- Store a recovery record after an attempt: rung 5 ends the ladder and posts its status (R174, R176). -/
def storeRec (s : State) (m : Strm) (old : Nat) (r : RecRec) : State :=
  let s1 := countRung4 s old r
  if r.rung = 5 then
    pushRes (updChn s1 m fun c => dropRec c r.ord) m
      { ord := r.ord, word := resultWord r.first 0 false false false false 0 0x80 (readPsa s r.ord), ends := true, early := r.expired }
  else updChn s1 m fun c => putRec c r

/-- A free LLR record of the stream (R173). -/
def llrFree (c : ChnStream) : Bool := decide ((c.ladder.filter (·.hasLlr)).length < c.recovNow)

/-- GATE_REFUSED: the pilot places the sector again; the third refusal of one sector within one command enters it at
rung 2 (R162, R175). -/
def gateRefused (s : State) (m : Strm) (o : ReadOrd) : State :=
  let n := countRefusal s.chnDev.refused o
  let s1 := { s with chnDev := { s.chnDev with refused := n.2 } }
  let s2 := if n.1 < 3 ∨ (recOf s.chn[m] o).isSome then s1
    else
      let r : RecRec := { ord := o, rung := 2, entry := 2, first := 9 }
      storeRec s1 m 0 (if s.chnDev.now.rrMax = 0 then advance s.chnDev.now r else r)
  pushRes s2 m { ord := o, word := resultWord 0x9 0 false false false false 0 0x80 (readPsa s o) }

/-- SECTOR_READ_START (R144, R145, R148, R162); no sector starts on the head that a twin fallback drops (R110). -/
def sectorReadStart (m : Strm) (o : ReadOrd) (s : State) : State :=
  if powered s && !s.bw.started && decide (s.acts[actOfStream m].fallback ≠ some o.head) then
    if readGateOk s m o then sectorStart s m o else gateRefused s m o
  else s

def execSectorReadStart (m : Strm) (o : ReadOrd) (s : State) : Host.Outcome State Fault Refusal :=
  .next (sectorReadStart m o s)

/-- A first failure enters the ladder with its LLRs, where a record is free (R173, R175). -/
def enterLadder (s : State) (m : Strm) (x : ReadCtx) (status : Nat) (found : Option Int) (sets : List Int × List Int) : State :=
  let e := enterRung status x.flagged
  let free := llrFree s.chn[m]
  let keep := free && decide (e = 1 ∨ e = 2)
  let rung := if e = 1 ∧ !free then 2 else e
  let r : RecRec := { ord := x.ord, rung := rung, entry := e, first := status, hasLlr := keep,
                      sets := if keep then [sets] else [], found := found, tol := x.par.tol, flagged := x.flagged,
                      waitDeep := decide (rung = 1) }
  storeRec s m 0 (if rung = 2 ∧ s.chnDev.now.rrMax = 0 then advance s.chnDev.now { r with attempts := 0 } else r)

/-- A failed re-read: on rung 2 its LLRs join those read so far, on rung 3 they stand alone, and a deep decode
follows where a record holds them; a flagged re-read skips it (R172, R174). -/
def rereadFailed (s : State) (m : Strm) (r : RecRec) (x : ReadCtx) (status : Nat) (found : Option Int)
    (sets : List Int × List Int) : State :=
  let r1 := { (if r.rung = 2 then { r with attempts := r.attempts + 1 } else r) with
    found := found, tol := x.par.tol, flagged := x.flagged }
  if (r.hasLlr || llrFree s.chn[m]) && decide (status = 2 ∨ status = 3 ∨ status = 4) then
    let r2 := { r1 with hasLlr := true, sets := if r.rung = 2 then sets :: r.sets else [sets] }
    if x.flagged then storeRec s m r.rung (advance s.chnDev.now r2) else storeRec s m r.rung { r2 with waitDeep := true }
  else storeRec s m r.rung (advance s.chnDev.now r1)

/-! ### SECTOR_DECODE_DONE -/

/-- Mean sync offset of the last 256 sectors (R167). -/
def syncBiasStep (s : State) (m : Strm) (o : ReadOrd) (x : Int) : State :=
  let hist := (x :: s.chn[m].syncHist).take 256
  let sum := hist.foldl (· + ·) 0
  let beyond := decide (hist.length = 256) && decide (512 < sum.natAbs)
  let run := if beyond then satInc 257 s.chn[m].biasRun else 0
  let s1 := updChn s m fun c => { c with syncHist := hist, biasRun := run, syncBias := c.syncBias || decide (run = 256) }
  if run = 256 then raise s1 .syncBias 2 0x07 m.val o.head.val o.zone.val (toPat 32 (sum / 256)) else s1

/-- The direction in which LLR_SCALE steps: up while the LLR magnitudes predict more bit errors than the hard
decisions have against the decoded bits (R151). -/
def scaleStep (llrs : List Int) (bits : List Bool) : Int :=
  let pred := llrs.foldl (fun a l => a + Config.llrError l.natAbs) 0
  let meas := ((llrs.zip bits).filter fun p => hardBit p.1 != p.2).length * 2 ^ 32
  if meas < pred then 1 else if pred < meas then -1 else 0

/-- Predictors moved 1/64 of the way to what a sector shows by itself, rounded down (R151). -/
def forget (old new : List Int) : List Int :=
  if new = [] then old else if old.length ≠ new.length then new else (old.zip new).map fun p => p.1 + (p.2 - p.1) / 64

/-- What a decoded GOOD sector teaches the head and zone (R149, R151). -/
def learn (s : State) (x : ReadCtx) (d : DecodeFacts) (llr : List Int) (pos : Int) (block : List Byte) : State :=
  if x.flagged then s
  else updChz s x.ord.head x.ord.zone fun c =>
    let base := maskTaps x.par.datasel (anchorsAt x.par s.spn.meas)
    let lim : Int := x.par.deltaMax
    { c with delta := if x.adapt then ((adaptTaps x d llr).zip base).map fun p => clampI (-lim) lim (p.1 - p.2) else c.delta,
             predictors := forget c.predictors d.predictors,
             llrScale := (clampI 16 256 ((c.llrScale : Int) +
               scaleStep (codeLlrs x.par x.ord.track x.ord.slot pos llr) (codeword x.par.code block))).toNat }

/-- The status bits and counts of a decode (R180). -/
def chnFlags (v : Verdict) (status : Nat) (c : ChnStream) : ChnStream :=
  let failed := decide (2 ≤ status ∧ status ≤ 5) || decide (status = 7)
  { c with syncMiss := c.syncMiss || v.missed, syncAlt := c.syncAlt || v.alt,
           syncEvtCnt := if v.missed || v.alt then satInc 255 c.syncEvtCnt else c.syncEvtCnt,
           otfFail := c.otfFail || failed, otfFailCnt := if failed then satInc 255 c.otfFailCnt else c.otfFailCnt,
           checkFail := c.checkFail || decide (status = 3), psaMismatch := c.psaMismatch || decide (status = 4),
           genMismatch := c.genMismatch || decide (status = 5), clockLoss := c.clockLoss || decide (status = 8) }

/-- The status of a decoded sector (R163, R164, R168, R171). -/
def finalStatus (s : State) (m : Strm) (x : ReadCtx) (v : Verdict) (d : DecodeFacts) : Nat :=
  let weak := (match recOf s.chn[m] x.ord with | some r => decide (2 ≤ r.rung) | none => false)
  if x.aborted then 0xA
  else if x.lostLock then 8
  else if v.status = 0 then
    (if weak || decide (x.par.iterWeak < v.iter) then 1 else 0)
  else if v.status = 2 ∧ d.lowEnergy then 7
  else v.status

/-- The sector being decoded: the oldest whose gate has closed, else the one whose gate closes now. -/
def takeDecode (s : State) (m : Strm) : Option (ReadCtx × State) :=
  match (queueDecode s.chn[m]).decq with
  | x :: rest =>
    some (x, updChn s m fun c => if c.decq = [] then { queueDecode c with decq := rest } else { c with decq := rest })
  | [] => none

/-- What a decoded sector counts on its head (R280, R506). -/
def countRead (s : State) (h : Hd) (ok weak : Bool) : State :=
  updHeadCtr s h fun c =>
    { c with bytesRead := if ok then ctrAdd c.bytesRead 4096 else c.bytesRead,
             weakSectors := if weak then ctrAdd c.weakSectors 1 else c.weakSectors }

/-- A stream decode ends (R163 to R176). -/
def decodeDone (m : Strm) (d : DecodeFacts) (s : State) : State :=
  match takeDecode s m with
  | none => s
  | some (x, s1) =>
    let llr := d.soft.map (llrOf x.par.llrScale)
    let found := foundSync x.par llr
    let v := streamVerdict s1 x found d
    let st := finalStatus s1 m x v d
    let good := decide (st = 0 ∨ st = 1)
    let s2 := { updChn s1 m (chnFlags v st) with
      chnDev := { s1.chnDev with headGood := vupd s1.chnDev.headGood x.ord.head fun _ => decide (st = 0) } }
    let s3 := match found with
      | some y => if y.natAbs ≤ x.par.tol then syncBiasStep s2 m x.ord y else s2
      | none => s2
    let at_ := match found with | some y => if y.natAbs ≤ x.par.tol || v.alt then y else 0 | none => 0
    let s4 := if st = 0 then learn s3 x d llr at_ v.block else s3
    let old := (recOf s4.chn[m] x.ord).filter fun r => decide (2 ≤ r.rung)
    let s5 := pushRes s4 m
      { ord := x.ord, word := resultWord st v.iter x.flagged v.alt v.missed false 0 v.delta (readPsa s x.ord),
        block := if good || decide (st = 6) then v.block else [], ends := good || decide (st = 6),
        reloc := decide (st = 1) && (match old with | some r => decide (r.rung = 3) | none => false) }
    let s6 := countRead s5 x.ord.head (good || decide (st = 6)) (decide (st = 1) && old.isNone)
    if good || decide (st = 6) then updChn s6 m fun c => dropRec c x.ord
    else if s.bw.started then s6
    else match old with
      | some r => rereadFailed s6 m r x st found (llrSets x found llr)
      | none => enterLadder s6 m x st found (llrSets x found llr)

/-- SECTOR_DECODE_DONE. -/
def execSectorDecodeDone (m : Strm) (d : DecodeFacts) (s : State) : Host.Outcome State Fault Refusal :=
  .next (if powered s then decodeDone m d s else s)

/-! ### SECTOR_RESULT_POST -/

/-- A member sector joins those to relocate (R270, R280). -/
def wantReloc (s : State) (b j n : Nat) : State :=
  updRbld s fun e => { e with relocPend := if e.relocPend.contains (b, j, n) then e.relocPend else e.relocPend ++ [(b, j, n)] }

/-- R280: a sector delivered GOOD_WEAK from a deep decode or a variant of rung 3 is relocated under WEAK_RELOC. -/
def relocWeak (s : State) (a : Act) (r : ReadRes) : State :=
  match s.cmds.pilots[a].entries.find? fun o => o.id = r.ord.op with
  | some o => if r.reloc && s.rbld.par.weakReloc then wantReloc s o.berth o.member (o.n + r.ord.idx) else s
  | none => s

/-- The oldest result goes to the servo sequencer; a result that ends its sector is noted in the sector's
operation, with the block the pond holds (R11, R170). -/
def postResult (s : State) (m : Strm) (r : ReadRes) (rest : List ReadRes) : State :=
  let s1 := updChn s m fun c => { c with results := rest, posted := r.word :: c.posted }
  if r.ends then
    relocWeak (updOp s1 (actOfStream m) r.ord.op fun e =>
      { e with res := e.res ++ [(r.ord.idx, r.word.toNat / 2 ^ 60 + (if r.early then 16 else 0), r.block)] }) (actOfStream m) r
  else s1

/-! ### Deep decoders (R174, R176, R177) -/

/-- A stream has a sector waiting for a deep decoder. -/
def wantsDeep (s : State) (k : Nat) : Bool :=
  if h : k < 8 then s.chn[(⟨k, h⟩ : Fin 8)].ladder.any (·.waitDeep) else false

/-- The lowest free deep decoder. -/
def freeDeep (s : State) : Option (Fin 2) := (List.finRange 2).find? fun d => s.chnDev.deep[d].isNone

/-- The mean of LLR sets, bit by bit, with two more fraction bits, rounded down (R174). DESIGN CHOICE: so the 6-bit
LLRs fill the 8 bits of a deep decode. -/
def meanLlrs (sets : List (List Int)) : List Int :=
  match sets.filter (· ≠ []) with
  | [] => []
  | x :: xs =>
    let sum := xs.foldl (fun a b => (a.zip b).map fun p => p.1 + p.2) x
    sum.map fun v => 4 * v / (xs.length + 1 : Nat)

/-- Grant decoder `d` to stream `m` (R174). -/
def grantDeep (s : State) (d : Fin 2) (m : Strm) : State :=
  match s.chn[m].ladder.find? (·.waitDeep) with
  | none => s
  | some r =>
    let sets := (meanLlrs (r.sets.map (·.1)), meanLlrs (r.sets.map (·.2)))
    let s1 := updChn s m fun c => putRec c { r with waitDeep := false, inDeep := true, deepIn := sets }
    { s1 with chnDev := { s1.chnDev with
        deep := vupd s1.chnDev.deep d fun _ => some (m, (readPsa s r.ord).toNat), deepPtr := (m.val + 1) % 8 } }

/-- DEEP_DECODE_START: a free deep decoder is granted under R24. -/
def execDeepDecodeStart (s : State) : Host.Outcome State Fault Refusal :=
  .next (if powered s then
      match freeDeep s, roundRobin 8 s.chnDev.deepPtr (wantsDeep s) with
      | some d, some k => if h : k < 8 then grantDeep s d ⟨k, h⟩ else s
      | _, _ => s
    else s)

/-- A deep decode ends for a record (R166, R168, R170, R174, R176). -/
def deepDone (s : State) (m : Strm) (r : RecRec) (d : DecodeFacts) : State :=
  let psa := readPsa s r.ord
  let lim := s.chnDev.now.iterDeep
  let v := tryCandidates psa r.ord.gen (candidates r.tol r.found d lim lim)
  if passes v.status then
    let st := if v.status = 6 then 6 else 1
    pushRes (countRead (updChn s m fun c => dropRec c r.ord) r.ord.head true false) m
      { ord := r.ord, block := v.block, ends := true, reloc := decide (st = 1),
        word := resultWord st v.iter r.flagged v.alt r.found.isNone (decide (1 < r.sets.length)) 1 (syncDelta r.found) psa }
  else storeRec s m r.rung (advance s.chnDev.now r)

/-- DEEP_DECODE_DONE: decoder `d` ends the sector it was given. -/
def deepDecodeDone (d : Fin 2) (f : DecodeFacts) (s : State) : State :=
  match s.chnDev.deep[d] with
  | some (m, psa) =>
    if powered s then
      let s1 := { s with chnDev := { s.chnDev with deep := vupd s.chnDev.deep d fun _ => none } }
      match s1.chn[m].ladder.find? fun r => r.inDeep && decide ((readPsa s r.ord).toNat = psa) with
      | some r => deepDone s1 m r f
      | none => s1
    else s
  | none => s

def execDeepDecodeDone (d : Fin 2) (f : DecodeFacts) (s : State) : Host.Outcome State Fault Refusal :=
  .next (deepDecodeDone d f s)

/-- RECOV_LIMIT of the command a sector is read for, ms; the device default for work of no command (R177, R329). -/
def recovLimitOf (s : State) (r : RecRec) : Nat :=
  match s.cmds.pilots[actOf s r.ord.head].entries.findSome? fun o => if o.id = r.ord.op then o.tag else none with
  | some t => (match s.cmds.tags.find? fun x => decide (x.tag = t) with | some x => x.recovMs | none => s.chnDev.now.recovLimit)
  | none => s.chnDev.now.recovLimit

/-- A re-read of the sector is under way: its gate is open, or its decode has not ended. -/
def rereading (c : ChnStream) (o : ReadOrd) : Bool :=
  let same := fun x : ReadOrd => decide (x.track = o.track ∧ x.slot = o.slot ∧ x.head = o.head)
  (match c.cur with | some x => same x | none => false) || c.decq.any fun x => same x.ord

/-- RECOVERY_LIMIT_EXPIRY: the rung in progress finishes and no further re-read starts; a limit of 0 never
expires (R177). -/
def recoveryExpiry (m : Strm) (h : Hd) (track slot : Nat) (s : State) : State :=
  match s.chn[m].ladder.find? fun r => r.ord.head = h ∧ r.ord.track = track ∧ r.ord.slot = slot with
  | some r =>
    if powered s && decide (recovLimitOf s r ≠ 0) then
      let r1 := { r with expired := true }
      if (r.rung = 2 ∨ r.rung = 3) ∧ !r.waitDeep ∧ !r.inDeep ∧ !rereading s.chn[m] r.ord then
        storeRec s m r.rung (afterRereads r1)
      else storeRec s m r.rung r1
    else s
  | none => s

def execRecoveryLimitExpiry (m : Strm) (place : Hd × Nat) (slot : Nat) (s : State) : Host.Outcome State Fault Refusal :=
  .next (recoveryExpiry m place.1 place.2 slot s)

/-! ### Parameters that wait (R161, R181) -/

/-- No gate is open on a head. -/
def noGate (s : State) (h : Hd) : Bool :=
  !gateOpenOn s h && allStreams.all fun m => !(s.chn[m].readGate && decide (s.streams[m].head = h))

/-- A head and zone are in use by a stream. -/
def zoneInUse (s : State) (h : Hd) (z : Zn) : Bool :=
  allStreams.any fun m => s.streams[m].selected && decide (s.streams[m].head = h) && decide (s.streams[m].zone = z)

/-- FORMAT_APPLY: a slot start with no gate open on the head of the stream (R161). -/
def execFormatApply (m : Strm) (s : State) : Host.Outcome State Fault Refusal :=
  .next (let st := s.streams[m]
    if powered s && st.selected && noGate s st.head then
      updChz s st.head st.zone fun c =>
        match c.fmtPend with
        | some (a, b, k) => { c with code := a, slotTc := b, skew := k, fmtPend := none }
        | none => c
    else s)

/-- SYNC_PARAM_APPLY: a slot start with no read gate open (R181). -/
def execSyncParamApply (h : Hd) (z : Zn) (s : State) : Host.Outcome State Fault Refusal :=
  .next (if powered s && (allStreams.all fun m => !(s.chn[m].readGate && decide (s.streams[m].head = h))) then
      updChz s h z fun c =>
        match c.syncPend with
        | some (t, w, d, o) => { c with tol := t, win := w, syncHd := d, syncOfs := o, syncPend := none }
        | none => c
    else s)

/-! ### Messages (R160, R161, R180, R181) -/

/-- Every head and zone a setter names. -/
def selHz (s : State) (head zone : Nat) : List (Hd × Zn) :=
  (selHeads s head).flatMap fun h => (selZones zone).map fun z => (h, z)

/-- A checked change to the channel parameters of one head and zone. -/
def hzStep (f : ChnHZ → Except Nat ChnHZ) (s : State) (p : Hd × Zn) : Except Nat State :=
  match f s.chz[p.1][p.2] with
  | .ok c => .ok (updChz s p.1 p.2 fun _ => c)
  | .error b => .error b

/-- A checked change to the channel parameters of each head and zone named. -/
def setHz (s : State) (head zone : Nat) (f : ChnHZ → Except Nat ChnHZ) : Ans :=
  if selHz s head zone = [] then rangeA s else setAllA s (selHz s head zone) (hzStep f)

/-- A format for one head and zone: an invalid one is rejected; the zone in use waits (R161). A SLOT_TC of 0
marks the zone unformatted. -/
def fmtStep (code tc skew : Nat) (s : State) (p : Hd × Zn) : Except Nat State :=
  if tc = 0 ∨ formatValid code tc (ratioOf s p.1 p.2) then
    .ok (updChz s p.1 p.2 fun c =>
      if zoneInUse s p.1 p.2 then { c with fmtPend := some (code, tc, skew) }
      else { c with code := code, slotTc := tc, skew := skew, fmtPend := none })
  else .error 0

/-- The body of CHN_SET_FORMAT (R161). -/
def setFormat (head zone : Nat) (word : BitVec 32) (s : State) : Ans :=
  let w := word.toNat
  if fld w 0 9 ≠ 0 then malformedA s 36
  else if selHz s head zone = [] then rangeA s
  else setAllA s (selHz s head zone) (fmtStep (fld w 30 2) (fld w 17 13) (fld w 9 8))

def execChnSetFormat (r : Req) (head zone : Nat) (word : BitVec 32) (s : State) : Host.Outcome State Fault Refusal :=
  .next (serve s r { opc := 0x0301, setter := true } (.chnSetFormat r head zone word) (setFormat head zone word))

/-- The parameters of CHN_SET_FRONTEND; skew trim and phase count 1/64 UI (R145). -/
def frontendPars : List (Par ChnHZ) :=
  [parN 0 12 fun v c => { c with peaking := v },
   parI (-33) 33 fun v c => { c with skewTrim := v },
   parN 0 63 fun v c => { c with phase := v },
   parN 0 2 fun v c => { c with datasel := v }]

/-- The body of CHN_SET_FRONTEND. -/
def setFrontend (head zone : Nat) (ps : Params) (s : State) : Ans :=
  setHz s head zone fun c => applyPars frontendPars (fun _ => []) ps c

def execChnSetFrontend (r : Req) (head zone : Nat) (ps : Params) (s : State) : Host.Outcome State Fault Refusal :=
  .next (serve s r { opc := 0x0302, setter := true } (.chnSetFrontend r head zone ps) (setFrontend head zone ps))

/-- The parameters of CHN_SET_EQ over a head and zone and a stream's MU (R147, R148, R181). -/
def eqPars : List (Par (ChnHZ × Nat)) :=
  [parIs 96 (-2048) 2047 fun v x => ({ x.1 with anchors := v }, x.2),
   parI (-2048) 2047 fun v x => ({ x.1 with g1 := v }, x.2),
   parI (-2048) 2047 fun v x => ({ x.1 with g2 := v }, x.2),
   parN 8 20 fun v x => (x.1, v),
   parN 0 511 fun v x => ({ x.1 with deltaMax := v }, x.2)]

/-- CHN_SET_EQ for one head and zone; a sector in progress keeps what it started with (R181). -/
def eqStep (m : Strm) (ps : Params) (s : State) (p : Hd × Zn) : Except Nat State :=
  match applyPars eqPars (fun _ => []) ps (s.chz[p.1][p.2], s.chn[m].mu) with
  | .ok (c, mu) => .ok (updChn (updChz s p.1 p.2 fun _ => c) m fun x => { x with mu := mu })
  | .error b => .error b

/-- The body of CHN_SET_EQ. -/
def setEq (head zone stream : Nat) (ps : Params) (s : State) : Ans :=
  match selStream stream with
  | none => rangeA s
  | some m => if selHz s head zone = [] then rangeA s else setAllA s (selHz s head zone) (eqStep m ps)

def execChnSetEq (r : Req) (head zone stream : Nat) (ps : Params) (s : State) : Host.Outcome State Fault Refusal :=
  .next (serve s r { opc := 0x0303, setter := true } (.chnSetEq r head zone stream ps) (setEq head zone stream ps))

/-- The parameters of CHN_SET_DETECTOR; LLR_SCALE counts 1/64 (R181). -/
def detectorPars : List (Par ChnHZ) :=
  [parIs 24 (-(2 ^ 31)) (2 ^ 31 - 1) fun v c => { c with predictors := v },
   parN 16 256 fun v c => { c with llrScale := v },
   parN 1 63 fun v c => { c with iterOtf := v },
   parN 1 63 fun v c => { c with iterWeak := v }]

/-- The body of CHN_SET_DETECTOR. -/
def setDetector (head zone : Nat) (ps : Params) (s : State) : Ans :=
  setHz s head zone fun c => applyPars detectorPars (fun c => [([2, 3], decide (c.iterWeak ≤ c.iterOtf))]) ps c

def execChnSetDetector (r : Req) (head zone : Nat) (ps : Params) (s : State) : Host.Outcome State Fault Refusal :=
  .next (serve s r { opc := 0x0304, setter := true } (.chnSetDetector r head zone ps) (setDetector head zone ps))

/-- The parameters of CHN_SET_SYNC: TOL, WIN, SYNC_HD, SYNC_OFS (R181). -/
def syncPars : List (Par (Nat × Nat × Nat × Int)) :=
  [parN 1 8 fun v x => (v, x.2.1, x.2.2.1, x.2.2.2),
   parN 2 32 fun v x => (x.1, v, x.2.2.1, x.2.2.2),
   parN 0 8 fun v x => (x.1, x.2.1, v, x.2.2.2),
   parI (-64) 63 fun v x => (x.1, x.2.1, x.2.2.1, v)]

/-- CHN_SET_SYNC over one head and zone: the change waits for a slot start with no read gate open. -/
def syncPut (ps : Params) (c : ChnHZ) : Except Nat ChnHZ :=
  match applyPars syncPars (fun x => [([0, 1], decide (x.1 + 1 ≤ x.2.1))]) ps
      (c.syncPend.getD (c.tol, c.win, c.syncHd, c.syncOfs)) with
  | .ok x => .ok { c with syncPend := some x }
  | .error b => .error b

/-- The body of CHN_SET_SYNC. -/
def setSync (head zone : Nat) (ps : Params) (s : State) : Ans := setHz s head zone (syncPut ps)

def execChnSetSync (r : Req) (head zone : Nat) (ps : Params) (s : State) : Host.Outcome State Fault Refusal :=
  .next (serve s r { opc := 0x0305, setter := true } (.chnSetSync r head zone ps) (setSync head zone ps))

/-- The parameters of CHN_SET_RECOVERY over the device and a stream's RECOV_SLOTS (R181). -/
def recoveryPars : List (Par (RecovPar × Nat)) :=
  [parN 1 255 fun v x => ({ x.1 with iterDeep := v }, x.2),
   parN 0 8 fun v x => ({ x.1 with rrMax := v }, x.2),
   parN 10 205 fun v x => ({ x.1 with rrOfs := v }, x.2),
   parB fun v x => ({ x.1 with parityFirst := v }, x.2),
   parN 16 256 fun v x => (x.1, v),
   parN 0 60000 fun v x => ({ x.1 with recovLimit := v }, x.2)]

/-- The body of CHN_SET_RECOVERY. -/
def setRecovery (stream : Nat) (ps : Params) (s : State) : Ans :=
  match selStream stream with
  | none => rangeA s
  | some m => setA s recoveryPars (fun _ => []) ps (s.chnDev.par, s.chn[m].recovSlots) fun x =>
      updChn { s with chnDev := { s.chnDev with par := x.1 } } m fun c => { c with recovSlots := x.2 }

def execChnSetRecovery (r : Req) (stream : Nat) (ps : Params) (s : State) : Host.Outcome State Fault Refusal :=
  .next (serve s r { opc := 0x0306, setter := true } (.chnSetRecovery r stream ps) (setRecovery stream ps))

/-- CHN_STREAM_STATUS (R180). -/
def chnStatus (s : State) (m : Strm) : Nat :=
  let c := s.chn[m]
  packF [(31, 1, b2n c.readGate), (30, 1, b2n (c.eqAdapt && c.readGate && !c.flagged)),
    (29, 1, b2n (c.ladder.any fun r => r.waitDeep || r.inDeep)), (28, 1, b2n (fmtErr s m)),
    (23, 1, b2n c.syncMiss), (22, 1, b2n c.syncAlt), (21, 1, b2n c.otfFail), (20, 1, b2n c.checkFail),
    (19, 1, b2n c.psaMismatch), (18, 1, b2n c.genMismatch), (17, 1, b2n c.clockLoss), (16, 1, b2n c.syncBias),
    (8, 8, c.otfFailCnt), (0, 8, c.syncEvtCnt)]

/-- What reading CHN_STREAM_STATUS clears (R180). -/
def chnClear (k : BitVec 64) (c : ChnStream) : ChnStream :=
  { c with syncMiss := w1c k 23 c.syncMiss, syncAlt := w1c k 22 c.syncAlt, otfFail := w1c k 21 c.otfFail,
           checkFail := w1c k 20 c.checkFail, psaMismatch := w1c k 19 c.psaMismatch,
           genMismatch := w1c k 18 c.genMismatch, clockLoss := w1c k 17 c.clockLoss,
           syncBias := w1c k 16 c.syncBias, otfFailCnt := 0, syncEvtCnt := 0 }

/-- The body of CHN_GET_STATUS. -/
def getChnStatus (stream : Nat) (clear : BitVec 64) (s : State) : Ans :=
  match selStream stream with
  | some m => getA (updChn s m (chnClear clear)) [(4, chnStatus s m)]
  | none => rangeA s

def execChnGetStatus (r : Req) (stream : Nat) (clear : BitVec 64) (s : State) : Host.Outcome State Fault Refusal :=
  .next (serve s r { opc := 0x0307, need := .rd } (.chnGetStatus r stream clear) (getChnStatus stream clear))

/-- The body of CHN_CAPTURE: started on the stream that serves the head, in MANUFACTURE and RETURN,
and in FIELD after debug unlock. -/
def chnCapture (r : Req) (head slot track count : Nat) (s : State) : Ans :=
  match selHead s head with
  | none => rangeA s
  | some h =>
    if count = 0 ∨ 65536 < count then rangeA s
    else match streamOfHead s h with
      | none => conflictA s
      | some m =>
        if s.chn[m].capture.isSome then conflictA s
        else { okA (updChn s m fun c => { c with capture := some (slot, track, count, r.mb, r.seq) }) with status := 1 }

def execChnCapture (r : Req) (head slot track count : Nat) (s : State) : Host.Outcome State Fault Refusal :=
  .next (serve s r { opc := 0x0308, need := .db 1, long := true } (.chnCapture r head slot track count)
    (chnCapture r head slot track count))

end Sys2Proof.Machine
end

