-- ==== Sys2Proof/Machine/WritePath.lean ====
section
/-! DEFINITION. WritePath: write orders, opening and closing the gate, assist, heater and contact
steps, bands, wear, and the write-path messages (chapter 7). -/

namespace Sys2Proof.Machine

/-! ### Runs (R182 to R187, R191, R205, R206) -/

/-- Slots a run may cover: a run ends at the latest with the last slot of its track (R185). -/
def orderFits (s : State) (b : Band) (o : WriteOrd) : Bool :=
  decide (0 < o.count) && decide (o.track < b.desc.tracks) &&
    decide (o.slot + o.count ≤ slotsAt s b.desc.head (bandTrack b.desc o.track))

/-- The slot's track is the open track of an open band on the head, or the next one (R187, R205). -/
def trackOpen (s : State) (b : Band) (o : WriteOrd) : Bool :=
  !b.closed && decide (b.desc.head = o.head) && orderFits s b o &&
    (decide (o.track = b.openTrack) ||
     (decide (o.track = b.openTrack + 1) &&
      decide (slotsAt s b.desc.head (bandTrack b.desc b.openTrack) ≤ b.complete.length)))

/-- R187, code 0x1: the writing stream stands on its track. -/
def streamReady (s : State) (a : Act) (h : Hd) : Bool :=
  match streamOfHead s h with
  | none => false
  | some m =>
    let st := s.streams[m]
    decide (actOfStream m = a) && st.toneLock && st.fine && st.trackValid && st.angleValid &&
      !st.zoneSettle && !st.seam && !st.lost && !st.rateClamped && !st.refused

/-- R187, code 0x2: the zone's format is valid and its ratio loaded. -/
def zoneReady (s : State) (h : Hd) (z : Zn) : Bool :=
  let c := chzOf s h z
  formatValid c.code c.slotTc (ratioOf s h z)

/-- R187, code 0x8: the link is up and has acknowledged the head's selection for write. -/
def selectAcked (s : State) (a : Act) (h : Hd) : Bool :=
  let l := s.plks[a]
  decide (l.l.st = .up) && l.wackV && decide (l.wack = h)

/-- The conditions of R187 in table order: code and whether it holds. -/
def gateConds (s : State) (a : Act) (r : Run) : List (Nat × Bool) :=
  let o := r.ord
  let b := bandOf s a o.ctx
  let p := s.wps[a]
  [(0x1, streamReady s a o.head),
   (0x2, match b with | some b => zoneReady s o.head b.zone | none => true),
   (0x3, s.acts[a].writeReady),
   (0x4, s.spn.xferOk),
   (0x5, !s.bw.inhibit && !s.bw.started),
   (0x6, s.wheads[o.head].htrReady),
   (0x7, p.assistReady),
   (0x8, selectAcked s a o.head),
   (0x9, !s.wheads[o.head].blocked && !s.wheads[o.head].retired),
   (0xA, match b with | some b => trackOpen s b o | none => false),
   (0xB, decide (p.buffer ≠ [])),
   (0xC, !reopenPending s a)]

/-- The first condition of a list that does not hold. -/
def firstFail (cs : List (Nat × Bool)) : Option Nat := (cs.find? fun c => !c.2).map (·.1)

/-- The code that refuses the WGa rise (R187). -/
def gateCode (s : State) (a : Act) (r : Run) : Option Nat := firstFail (gateConds s a r)

/-- The code that refuses the AEa rise: all but ASSIST_READY (R185). -/
def assistCode (s : State) (a : Act) (r : Run) : Option Nat :=
  firstFail ((gateConds s a r).filter fun c => c.1 ≠ 0x7)

/-- The result of slot `k` of a refused run; what the assist gave before the refusal goes to the run's first
slot (R191, R208). -/
def refusedWord (s : State) (a : Act) (o : WriteOrd) (code nj k : Nat) : WResult :=
  { status := 3, cause := code, energy := if k = 0 then min nj 65535 else 0, psa := orderPsa s a o k }

/-- A run that cannot start: AEa low, every slot REFUSED with the code, the next run dispatched in progress
(R185, R187, R191, R201, R208). -/
def refuseRun (s : State) (a : Act) (r : Run) (code : Nat) : State :=
  let h := r.ord.head
  let e := carryNj s.wheads[h].fj [r.fj]
  let nj := e.1.sum
  let s1 := addEnergy (updWhead s h fun w => { w with fj := e.2 }) h nj
  let s2 := if s1.wps[a].ae then aeFall s1 a else s1
  let s3 := forEach (List.range r.ord.count) s2 fun t k => postWord t a (refusedWord s a r.ord code nj k)
  afterRun (updWp s3 a fun p => startNext { p with run := none, runActive := false, buffer := [] }) a r.ord

/-- A write order is dispatched: the heater takes the write value, and the run waits for its angle (R185,
R201). A run dispatched behind the one in progress starts at its end. -/
def writeOrderDispatch (a : Act) (o : WriteOrd) (s : State) : State :=
  if live s && !s.bw.started && decide (actOf s o.head = a) && decide (0 < o.count) then
    let s1 := heaterWrite s o.head
    if (s.wps[a].run).isSome then updWp s1 a fun p => { p with queue := p.queue ++ [o] }
    else selectWrite (updWp s1 a fun p => startNext { p with queue := [o] }) a o.head
  else s

/-- HTR_READY_SET: WH_LEAD after the first heater slot with the write value (R201). -/
def execHtrReadySet (h : Hd) (s : State) : Host.Outcome State Fault Refusal :=
  .next (match s.wheads[h].htrSince with
    | some t => if powered s && passedNs s t (s.wdev.whLead * 1000) then updWhead s h fun w => { w with htrReady := true } else s
    | none => s)

/-- The write parameters as set now (R212). -/
def takePar (d : WrpDev) : RunPar :=
  { lim := d.lim, iAsMax := d.iAsMax, atLimit := d.atLimit, atTrip := d.atTrip, effLimit := d.effLimit,
    htrBackoff := d.htrBackoff, wearWarn := d.wearWarn, wearRetire := d.wearRetire }

/-- A run start puts the parameters set before it in force: the path's and the head's own (R209, R212). -/
def latchPars (s : State) (a : Act) (h : Hd) : State :=
  wearCheck (updWhead (updWp s a fun p => { p with par := takePar s.wdev }) h fun w =>
    { w with htrFbNow := w.htrFb, budgetNow := w.wearBudget }) h

/-- The write-data parameters of a run's head and zone (R183, R184). -/
def takeWd (s : State) (h : Hd) (z : Zn) : Nat × Nat × Nat × Int :=
  let w := s.wheads[h]
  (w.wdSwing, w.hz[z].pc1, w.hz[z].pc2, w.hz[z].wAlign)

/-- The assist law starts under R102 from the feedforward drive code, which is sent meanwhile (R196, R197). -/
def startAssist (s : State) (a : Act) : State :=
  let ff := min (ffOf s a) (driveMax s.wps[a])
  let s1 := updLaw4 s (4 + a.val) fun l =>
    { l with pendStart := some ((ff : Int) * 256), out := (ff : Int) * 256, blendLeft := 0, blendDelta := 0 }
  updWp s1 a fun p => { p with adrive := ff, driveLog := [], monSum := 0, monN := 0, clipRun := 0, missRun := 0 }

/-- The set-point in use, reduced by 2 % for each °C of the filtered temperature above AT_LIMIT (R196, R199). -/
def takeSetPoint (s : State) (a : Act) : State :=
  let red := atReduction s.wps[a].atFilt s.wps[a].par.atLimit
  updWp s a fun p => { p with pSet := pSetBase s a * (100 - red) / 100, atLimitHit := decide (0 < red) }

/-- AEa rises (R185, R196, R197, R212). -/
def riseAssist (s : State) (a : Act) (r : Run) : State :=
  let z := match bandOf s a r.ord.ctx with | some b => b.zone | none => 0
  let s1 := updWp (latchPars s a r.ord.head) a fun p =>
    { p with ae := true, assistReady := false, readyRun := 0, framesSinceAe := 0, codeSent := none, lowRun := 0, highRun := 0,
             hotRun := 0, run := some { r with phase := 1, wd := takeWd s r.ord.head z } }
  updGuard (startAssist (takeSetPoint s1 a) a) a fun g => { g with writeTarget := runTarget s a r.ord }

/-- ASSIST_ENABLE_RISE: AE_LEAD before the WGa rise (R185); no ball rises while VDDIO_18 is low (R54). -/
def execAssistEnableRise (a : Act) (s : State) : Host.Outcome State Fault Refusal :=
  .next (match s.wps[a].run with
    | some r =>
      if live s && vddioUp s && decide (r.phase = 0) && !s.wps[a].ae then
        match assistCode s a r with
        | some c => refuseRun s a r c
        | none => riseAssist s a r
      else s
    | none => s)

/-! ### Bands (R203 to R206) -/

/-- The descriptor's tracks lie in its window (R204). -/
def inWindow (d : BandDesc) : Bool :=
  let t := bandTrack d (d.tracks - 1)
  decide (1 ≤ d.tracks) && (!d.dir || decide (d.tracks ≤ d.firstTrack + 1)) &&
    decide (d.winLo ≤ min t d.firstTrack) && decide (max t d.firstTrack ≤ d.winHi)

/-- No track of the descriptor is a seam track, and all lie in one density zone (R204). -/
def oneZone (s : State) (d : BandDesc) : Bool :=
  let sf := surfOf s d.head
  let lo := min d.firstTrack (bandTrack d (d.tracks - 1))
  let hi := max d.firstTrack (bandTrack d (d.tracks - 1))
  decide (zoneAt sf lo = zoneAt sf hi) &&
    !sf.rings.any fun r => decide (0 < r.1) && decide (lo ≤ r.1) && decide (r.1 ≤ hi + 1)

/-- GEN differs from that of the band last written at the same FIRST_TRACK (R204). -/
def genFresh (p : WritePath) (d : BandDesc) : Bool :=
  !p.lastGen.any fun g => decide (g = (d.head.val, d.firstTrack, d.gen))

/-- A descriptor that R204 accepts, the pair aside. -/
def descOk (s : State) (a : Act) (d : BandDesc) : Bool := inWindow d && oneZone s d && genFresh s.wps[a] d

/-- A PAIRED descriptor finds its lead band (R204). -/
def leadRecorded (p : WritePath) (d : BandDesc) : Bool :=
  !d.paired || p.pairData.any fun e => decide (e.1 = d.leadHead.val) && decide (e.2.1 = d.dir) && decide (e.2.2.1 = d.tracks)

/-- The placed descriptor of a pair (R206). -/
def placedDesc (d : BandDesc) (dW : Int) : BandDesc :=
  let tp := (d.leadT0 : Int) + dW
  let t := (tp + 512) / 1024
  { d with firstTrack := t.toNat, offset := tp - 1024 * t }

/-- Place a PAIRED band at the first opening of its track 0 (R206). -/
def placeBand (s : State) (a : Act) (ctx : Nat) : State :=
  match bandOf s a ctx with
  | none => s
  | some b =>
    if !b.desc.paired || b.placed then s
    else
      match s.acts[a].regDone with
      | some dW =>
        let d := placedDesc b.desc dW
        let b1 := { b with placed := true, dW := dW, temp := s.acts[a].regTemp }
        if 0 ≤ (b.desc.leadT0 : Int) + dW + 512 ∧ descOk s a d then
          updBand s a ctx fun _ => { b1 with desc := d, zone := zoneAt (surfOf s d.head) d.firstTrack, pairedNow := true }
        else updBand (updWp s a fun p => { p with pairSkipped := true }) a ctx fun _ => b1
      | none => updBand (updWp s a fun p => { p with pairSkipped := true }) a ctx fun b => { b with placed := true }

/-- The open track of a band moves on with the first gate on the next track (R205). -/
def stepTrack (s : State) (a : Act) (o : WriteOrd) : State :=
  updBand s a o.ctx fun b =>
    if o.track = b.openTrack + 1 then { b with openTrack := o.track, complete := [], tries := [], wrote := false } else b

/-- Note the GEN of the band written at a FIRST_TRACK (R204). -/
def noteGen (s : State) (a : Act) (ctx : Nat) : State :=
  match bandOf s a ctx with
  | none => s
  | some b => updWp s a fun p =>
      { p with lastGen := (b.desc.head.val, b.desc.firstTrack, b.desc.gen) ::
          p.lastGen.filter fun g => !(decide (g.1 = b.desc.head.val) && decide (g.2.1 = b.desc.firstTrack)) }

/-- A write gate forces the sectors in progress on the actuator's read gates to ABORTED (R163). -/
def abortReads (s : State) (a : Act) : State :=
  forEach [stream0 a, stream1 a] s fun s m =>
    if s.chn[m].readGate then updChn s m fun c => { c with aborted := true } else s

/-- The swing of WDa, mVppd (R183). -/
def wdMv (swing : Nat) : Nat := 400 + 50 * swing

/-- Bits as they leave on WDa: each with the delay of the transition that begins it, 1/64 UI, PC1 one bit and
PC2 two bits after the transition before, none otherwise (R183); `t` is the level before them and the bits since
its transition. -/
def precomp (pc1 pc2 : Nat) : Bool × Nat → List Bool → List (Bool × Nat) × (Bool × Nat)
  | t, [] => ([], t)
  | t, b :: bs =>
    let d := if b = t.1 then 0 else if t.2 = 1 then pc1 else if t.2 = 2 then pc2 else 0
    let r := precomp pc1 pc2 (if b = t.1 then (t.1, min (t.2 + 1) 3) else (b, 1)) bs
    ((b, d) :: r.1, r.2)

/-- WDa sends bits from bit `start` of the writing stream's count on (R183, R184). -/
def sendBits (s : State) (a : Act) (start : Int) (bits : List Bool) : State :=
  match s.wps[a].run with
  | none => s
  | some r =>
    let x := precomp r.wd.2.1 r.wd.2.2.1 r.tail bits
    emit (updWp s a fun p => { p with run := some { r with tail := x.2 } }) (.wd a.val (wdMv r.wd.1) start x.1)

/-- WGa rises: WDa sends the lead-in, the guard starts with the run, the band's track opens (R78, R185, R187, R205,
R206). -/
def openGate (s : State) (a : Act) (r : Run) : State :=
  let s1 := if r.ord.track = 0 then placeBand s a r.ord.ctx else stepTrack s a r.ord
  let s2 := noteGen (abortReads s1 a) a r.ord.ctx
  let paired := match bandOf s2 a r.ord.ctx with | some b => b.pairedNow | none => false
  let s3 := updWp s2 a fun p => { p with wg := true, pairedWrite := paired, run := some { r with phase := 2, tail := (true, 3) } }
  let s4 := updGuard s3 a fun g =>
    { g with lastSeq := none, residRun := 0, staleRun := 0, lastValid := 0, exc := 0, excs := [],
             writeTarget := runTarget s3 a r.ord }
  match bandOf s4 a r.ord.ctx with
  | some b =>
    let lead := s4.wps[a].par.lim.wgLead
    sendBits s4 a (startBit s4 b r.ord r.ord.slot r.wd.2.2.2 - lead) (preamble lead)
  | none => s4

/-- WRITE_GATE_OPEN (R187). -/
def execWriteGateOpen (a : Act) (s : State) : Host.Outcome State Fault Refusal :=
  .next (match s.wps[a].run with
    | some r =>
      if live s && vddioUp s && decide (r.phase = 1) && s.wps[a].ae && !s.wps[a].wg then
        match gateCode s a r with
        | some c => refuseRun s a r c
        | none => openGate s a r
      else s
    | none => s)

/-- Bits of the gap of slot `k` of a run: up to the next slot start, or 32 where the run ends with this sector
(R152, R185). -/
def gapBits (s : State) (b : Band) (o : WriteOrd) (k : Nat) (ends : Bool) : Nat :=
  if ends then 32
  else
    let q := ratioOf s o.head b.zone
    let bits : Int := (cyclesAt (surfOf s o.head) (bandTrack b.desc o.track) * q.n / max q.m 1 : Nat)
    let next := startBit s b o (o.slot + k + 1) 0 - startBit s b o (o.slot + k) 0
    ((if next < 0 then next + bits else next) - frameLen (chzOf s o.head b.zone).code).toNat

/-- What WDa sends for slot `k` of a run, its gap included (R152, R182 to R185). -/
def sendSector (s : State) (a : Act) (r : Run) (k : Nat) (ends : Bool) : State :=
  match bandOf s a r.ord.ctx, r.ord.blocks[k]? with
  | some b, some blk =>
    let o := r.ord
    let info := infoBlock (orderPsa s a o k) b.desc.gen o.parity blk
    sendBits s a (startBit s b o (o.slot + k) r.wd.2.2.2)
      (sectorFrame (chzOf s o.head b.zone).code (bandTrack b.desc o.track) (o.slot + k) info ++ preamble (gapBits s b o k ends))
  | _, _ => s

/-- The run ends with the sector in progress: it is the last, an orderly cause waits, or the next block is not in
the buffer (R185, R186, R188). -/
def endsHere (p : WritePath) (r : Run) : Bool :=
  decide (r.ord.count ≤ r.ended.length + 1) || r.orderly.isSome || decide (p.buffer.length ≤ 1)

/-- A sector of the run ends: its energy stays with it, the next block enters the buffer (R186, R190, R208). -/
def endSector (s : State) (a : Act) (r : Run) : State :=
  let n := r.ended.length
  updWp (sendSector s a r n (endsHere s.wps[a] r)) a fun p =>
    { p with buffer := (r.ord.blocks.drop (n + 1)).take 4,
             run := p.run.map fun x => { x with ended := (r.win, r.fj) :: r.ended, fj := 0 } }

/-- WRITE_SECTOR_END: an orderly cause closes the gate here, an empty buffer ends the run with UNDERRUN (R186,
R188, R191). -/
def writeSectorEnd (a : Act) (s : State) : State :=
  match s.wps[a].run with
  | some r =>
    if powered s && s.wps[a].wg && decide (r.ended.length < r.ord.count) && decide (s.wps[a].buffer ≠ []) then
      let s1 := endSector s a r
      match r.orderly with
      | some c => closeRun s1 a c false 0
      | none => if r.ended.length + 1 < r.ord.count ∧ s1.wps[a].buffer = [] then closeRun s1 a 0xB false 0 else s1
    else s
  | none => s

def execWriteSectorEnd (a : Act) (s : State) : Host.Outcome State Fault Refusal := .next (writeSectorEnd a s)

/-- WRITE_UNDERRUN: 500 ns before its first preamble bit the next sector's information block is not complete in
the buffer (R186). -/
def writeUnderrun (a : Act) (s : State) : State :=
  match s.wps[a].run with
  | some r =>
    if powered s && s.wps[a].wg && decide (r.ended.length + 1 < r.ord.count) && decide (s.wps[a].buffer.length ≤ 1) then
      orderlyClose s a 0xB
    else s
  | none => s

def execWriteUnderrun (a : Act) (s : State) : Host.Outcome State Fault Refusal := .next (writeUnderrun a s)

/-- WRITE_RUN_END: WGa and AEa fall 32 bits after the run's last postamble (R185, R191). -/
def writeRunEnd (a : Act) (s : State) : State :=
  match s.wps[a].run with
  | some r =>
    if powered s && s.wps[a].wg && decide (r.ended.length = r.ord.count) then closeRun s a 0 false 0 else s
  | none => s

def execWriteRunEnd (a : Act) (s : State) : Host.Outcome State Fault Refusal := .next (writeRunEnd a s)

/-! ### Feedforward, heater and contact (R200, R202) -/

/-- The learned FF tables, head by head and zone by zone. -/
def ffTables (s : State) : List (List Nat) :=
  s.wheads.toList.flatMap fun w => w.hz.toList.map (·.ffNow)

/-- FF_PERSIST: every 10 minutes (R200). -/
def execFfPersist (s : State) : Host.Outcome State Fault Refusal :=
  .next (if live s && !s.bw.inhibit then updNv s fun n => { n with tableFF := ffTables s } else s)

/-- HEATER_HOLD_END: 100 ms after a contact the head's heater law restarts, with both values of every zone of
that head reduced by HTR_BACKOFF (R102, R202). -/
def heaterHoldEnd (h : Hd) (s : State) : State :=
  if powered s && s.wheads[h].htrHold then
    updHloop (updWhead s h fun w => { w with htrHold := false, hz := w.hz.map fun z => { z with backRead := true, backWrite := true } })
      h fun y => { y with heatStart := true }
  else s

def execHeaterHoldEnd (h : Hd) (s : State) : Host.Outcome State Fault Refusal := .next (heaterHoldEnd h s)

/-- CONTACT_REARM: 1 ms without the flag (R202). -/
def execContactRearm (h : Hd) (s : State) : Host.Outcome State Fault Refusal :=
  .next (if powered s && decide (s.wheads[h].contactRun = 0) then
      updWhead s h fun w => { w with contactArmed := true }
    else s)

/-! ### Messages (R203 to R212) -/

/-- A checked change to the write records of one head and zone. -/
def whzStep (f : WHead × WHeadZ × WrpDev → Except Nat (WHead × WHeadZ × WrpDev)) (s : State) (p : Hd × Zn) :
    Except Nat State :=
  match f (s.wheads[p.1], s.wheads[p.1].hz[p.2], s.wdev) with
  | .ok x => .ok { updWhead s p.1 fun _ => { x.1 with hz := vupd x.1.hz p.2 fun _ => x.2.1 } with wdev := x.2.2 }
  | .error b => .error b

/-- A checked change to the write records of each head and zone named. -/
def setWhz (s : State) (head zone : Nat)
    (f : WHead × WHeadZ × WrpDev → Except Nat (WHead × WHeadZ × WrpDev)) : Ans :=
  if selHz s head zone = [] then rangeA s else setAllA s (selHz s head zone) (whzStep f)

/-- A per-head parameter of the write records. -/
def onHead (f : WHead → WHead) (x : WHead × WHeadZ × WrpDev) : WHead × WHeadZ × WrpDev := (f x.1, x.2)
/-- A per-head-and-zone parameter of the write records. -/
def onZone (f : WHeadZ → WHeadZ) (x : WHead × WHeadZ × WrpDev) : WHead × WHeadZ × WrpDev := (x.1, f x.2.1, x.2.2)
/-- A device-wide parameter of the write records. -/
def onDev (f : WrpDev → WrpDev) (x : WHead × WHeadZ × WrpDev) : WHead × WHeadZ × WrpDev := (x.1, x.2.1, f x.2.2)

/-- WRP_SET_FORMAT's list (R212). -/
def wrpFormatPars : List (Par (WHead × WHeadZ × WrpDev)) :=
  [parN 0 8 fun v => onHead fun h => { h with wdSwing := v },
   parN 0 15 fun v => onZone fun z => { z with pc1 := v },
   parN 0 15 fun v => onZone fun z => { z with pc2 := v },
   parI (-4096) 4095 fun v => onZone fun z => { z with wAlign := v }]

/-- The body of WRP_SET_FORMAT. -/
def wrpFormat (head zone : Nat) (ps : Params) (s : State) : Ans :=
  setWhz s head zone (applyPars wrpFormatPars (fun _ => []) ps)

def execWrpSetFormat (r : Req) (head zone : Nat) (ps : Params) (s : State) : Host.Outcome State Fault Refusal :=
  .next (serve s r { opc := 0x0401, setter := true } (.wrpSetFormat r head zone ps) (wrpFormat head zone ps))

/-- WRP_SET_ASSIST's list; EFF_LIMIT counts 0.01 (R212). -/
def wrpAssistPars : List (Par (WHead × WHeadZ × WrpDev)) :=
  [parB (fun v => onDev fun d => { d with sto := v }) true,
   parNs 5 1 65535 fun v => onZone fun z => { z with pSet := v },
   parNs 5 0 65535 fun v => onZone fun z => { z with ff := v, ffNow := v.map (· * 256) },
   parN 10 100 fun v => onDev fun d => { d with iAsMax := v },
   parN 100 500 fun v => onDev fun d => { d with atLimit := v },
   parN 110 550 fun v => onDev fun d => { d with atTrip := v },
   parN 105 200 fun v => onDev fun d => { d with effLimit := v }]

/-- The body of WRP_SET_ASSIST: the assist kind in MANUFACTURE and RETURN only. -/
def wrpAssist (head zone : Nat) (ps : Params) (s : State) : Ans :=
  if (ps.any fun e => e.1 = 0) ∧ s.sec.life ≠ .manufacture ∧ s.sec.life ≠ .ret then failA s 0x0006
  else setWhz s head zone (applyPars wrpAssistPars
    (fun x => [([4, 5], decide (x.2.2.atLimit + 10 ≤ x.2.2.atTrip))]) ps)

def execWrpSetAssist (r : Req) (head zone : Nat) (ps : Params) (s : State) : Host.Outcome State Fault Refusal :=
  .next (serve s r { opc := 0x0402, need := needOf wrpAssistPars ps, setter := true }
    (.wrpSetAssist r head zone ps) (wrpAssist head zone ps))

/-- WRP_SET_FH's list; powers count 0.1 mW, HTR_FB 0.001 mW per nm (R212, R426). -/
def wrpFhPars : List (Par (WHead × WHeadZ × WrpDev)) :=
  [parNs 5 0 2000 fun v => onZone fun z => { z with htrRead := v, backRead := false },
   parNs 5 0 2000 fun v => onZone fun z => { z with htrWrite := v, backWrite := false },
   parN 0 15990 fun v => onHead fun h => { h with htrFb := v },
   parN 0 2000 fun v => onDev fun d => { d with whLead := v },
   parN 0 50 fun v => onDev fun d => { d with htrBackoff := v }]

/-- The body of WRP_SET_FH. -/
def wrpFh (head zone : Nat) (ps : Params) (s : State) : Ans := setWhz s head zone (applyPars wrpFhPars (fun _ => []) ps)

def execWrpSetFh (r : Req) (head zone : Nat) (ps : Params) (s : State) : Host.Outcome State Fault Refusal :=
  .next (serve s r { opc := 0x0403, setter := true } (.wrpSetFh r head zone ps) (wrpFh head zone ps))

/-- WRP_SET_LIMITS's list; AE_LEAD counts 10 ns (R212, R426). -/
def wrpLimitPars : List (Par WrpLimits) :=
  [parN 16 256 fun v l => { l with wgLead := v },
   parN 0 500 fun v l => { l with aeLead := 10 * v },
   parN 2 20 fun v l => { l with assistTol := v },
   parN 50 95 fun v l => { l with assistLo := v },
   parN 105 150 fun v l => { l with assistHi := v },
   parN 20 1023 fun v l => { l with tSqz := v },
   parN 0 7 fun v l => { l with wrRetry := v },
   parN 1 16 fun v l => { l with contactMax := v }]

/-- The body of WRP_SET_LIMITS: T_SQZ at most T_OT of every actuator. -/
def wrpLimits (ps : Params) (s : State) : Ans :=
  setA s wrpLimitPars (fun l => [([5], s.guards.all fun g => decide (l.tSqz ≤ g.cfg.tOt))]) ps s.wdev.lim
    fun l => { s with wdev := { s.wdev with lim := l } }

def execWrpSetLimits (r : Req) (ps : Params) (s : State) : Host.Outcome State Fault Refusal :=
  .next (serve s r { opc := 0x0404, setter := true } (.wrpSetLimits r ps) (wrpLimits ps))

/-- WRP_SET_WEAR's list over a head's budget and the device (R212). -/
def wrpWearPars : List (Par (WHead × WrpDev)) :=
  [parN 1 65535 fun v x => ({ x.1 with wearBudget := v }, x.2),
   parN 50 99 fun v x => (x.1, { x.2 with wearWarn := v }),
   parB fun v x => (x.1, { x.2 with wearRetire := v })]

/-- WRP_SET_WEAR for one head. -/
def wearStep (ps : Params) (s : State) (h : Hd) : Except Nat State :=
  match applyPars wrpWearPars (fun _ => []) ps (s.wheads[h], s.wdev) with
  | .ok x => .ok { updWhead s h fun _ => x.1 with wdev := x.2 }
  | .error b => .error b

/-- The body of WRP_SET_WEAR: the values take effect at the next run start (R209, R212). -/
def wrpWear (head : Nat) (ps : Params) (s : State) : Ans :=
  if selHeads s head = [] then rangeA s
  else match foldExcept (selHeads s head) s (wearStep ps) with
    | .ok s' => okA s'
    | .error b => rangeA s b

def execWrpSetWear (r : Req) (head : Nat) (ps : Params) (s : State) : Host.Outcome State Fault Refusal :=
  .next (serve s r { opc := 0x0405, setter := true } (.wrpSetWear r head ps) (wrpWear head ps))

/-- A descriptor's fields (R203). -/
def descOf (d : BitVec 256) : BandDesc :=
  let w := d.toNat
  { leadT0 := fld w 222 34, winHi := fld w 198 24, winLo := fld w 174 24,
    leadHead := ⟨fld w 169 5, Nat.mod_lt _ (by decide)⟩, paired := bitAt w 168, dir := bitAt w 167,
    gen := fld w 146 21, head := ⟨fld w 141 5, Nat.mod_lt _ (by decide)⟩, offset0 := fld w 120 21,
    offset := ofPat 10 (fld w 110 10), tracks := fld w 99 11, firstTrack := fld w 75 24 }

/-- Load a checked descriptor into a context (R203 to R206). -/
def loadBand (s : State) (a : Act) (c : Fin 16) (d : BandDesc) : State :=
  let b : Band := { desc := d, orig := (d.firstTrack, d.offset), zone := zoneAt (surfOf s d.head) d.firstTrack }
  updWp s a fun p =>
    { p with bands := vupd p.bands c fun _ => some b,
             pairData := if d.paired then p.pairData
               else (d.head.val, d.dir, d.tracks, d.firstTrack) ::
                 p.pairData.filter fun e => !(decide (e.1 = d.head.val) && decide (e.2.2.2 = d.firstTrack)) }

/-- The lowest free context. -/
def freeCtx (p : WritePath) : Option (Fin 16) := (List.finRange 16).find? fun c => p.bands[c].isNone

/-- Open a band from a descriptor: its context, or `none` when R204 rejects it or no context is free. -/
def openBand (s : State) (a : Act) (d : BandDesc) : Except Nat (Fin 16 × State) :=
  if !(decide (actOf s d.head = a) && inDrive s d.head && descOk s a d && leadRecorded s.wps[a] d) then .error 0x000A
  else
    match freeCtx s.wps[a] with
    | none => .error 0x000B
    | some c => .ok (c, loadBand s a c d)

/-- The body of WRP_OPEN_BAND (R203, R204). -/
def wrpOpen (act : Nat) (d : BitVec 256) (s : State) : Ans :=
  match selAct act with
  | none => rangeA s
  | some a =>
    match (List.range 10).find? fun k => decide (fld d.toNat (8 * k) (if k = 9 then 3 else 8) ≠ 0) with
    | some k => malformedA s (33 + k)
    | none =>
      match openBand s a (descOf d) with
      | .ok (c, s1) => getA s1 [(1, c.val)]
      | .error e => failA s e

def execWrpOpenBand (r : Req) (act : Nat) (desc : BitVec 256) (s : State) : Host.Outcome State Fault Refusal :=
  .next (serve s r { opc := 0x0406, need := .db 4 } (.wrpOpenBand r act desc) (wrpOpen act desc))

/-- Tracks a band has written (R207). DESIGN CHOICE: the open track counts once one of its slots has been
written, whole or torn (log entry 201). -/
def tracksWritten (b : Band) : Nat := b.openTrack + (if b.wrote then 1 else 0)

/-- What closing a band returns (R207). -/
def bandWords (b : Band) : List (Nat × Nat) :=
  [(4, b.desc.firstTrack), (4, toPat 32 b.desc.offset), (4, toPat 32 b.dW), (4, toPat 32 b.temp),
   (4, tracksWritten b), (4, b.torn), (1, b2n b.pairedNow)]

/-- Free a context (R205). -/
def freeBand (s : State) (a : Act) (c : Nat) : State :=
  if h : c < 16 then updWp s a fun p => { p with bands := vupd p.bands ⟨c, h⟩ fun _ => none } else s

/-- The body of WRP_CLOSE_BAND: a context with a run in progress is busy. -/
def wrpClose (act ctx : Nat) (s : State) : Ans :=
  match selAct act with
  | none => rangeA s
  | some a =>
    match bandOf s a ctx with
    | none => notFoundA s
    | some b =>
      if runCtx s a = ctx then conflictA s else getA (freeBand s a ctx) (bandWords b)

def execWrpCloseBand (r : Req) (act ctx : Nat) (s : State) : Host.Outcome State Fault Refusal :=
  .next (serve s r { opc := 0x0407, need := .db 4 } (.wrpCloseBand r act ctx) (wrpClose act ctx))

/-- The body of WRP_STOP (R188). -/
def wrpStop (act : Nat) (s : State) : Ans :=
  match selAct act with
  | none => rangeA s
  | some a => okA (orderlyClose s a 0xC)

def execWrpStop (r : Req) (act : Nat) (s : State) : Host.Outcome State Fault Refusal :=
  .next (serve s r { opc := 0x0408, need := .db 4 } (.wrpStop r act) (wrpStop act))

/-- The body of WRP_RELEASE (R188, R192, R202). -/
def wrpRelease (head : Nat) (s : State) : Ans :=
  match selHead s head with
  | none => rangeA s
  | some h => okA (updHeadRec (updWhead s h fun w => { w with blocked := false }) h fun r =>
      { r with releaseTimes := s.us :: r.releaseTimes })

def execWrpRelease (r : Req) (head : Nat) (s : State) : Host.Outcome State Fault Refusal :=
  .next (serve s r { opc := 0x0409 } (.wrpRelease r head) (wrpRelease head))

/-- WRP_STATUS (R210). -/
def wrpStatus (s : State) (a : Act) : Nat :=
  let p := s.wps[a]
  let h := s.wheads[p.sel]
  packF [(31, 1, b2n p.wg), (30, 1, b2n p.ae), (29, 1, b2n h.htrReady), (28, 1, b2n p.assistReady),
    (27, 1, b2n p.runActive), (26, 1, b2n h.blocked), (25, 1, b2n p.pairedWrite), (24, 1, b2n p.atLimitHit),
    (23, 1, b2n p.trip), (22, 1, b2n p.assistFault), (21, 1, b2n p.contact), (20, 1, b2n p.underrun),
    (19, 1, b2n p.sqzCheck), (18, 1, b2n p.pairSkipped), (17, 1, b2n p.ffDrift), (8, 8, p.tornCnt),
    (4, 4, p.lastCause)]

/-- WRP_TRIP (R211). -/
def wrpTrip (p : WritePath) : Nat := packF [(27, 5, p.tripHead.val), (16, 11, toPat 11 p.maxExc), (5, 11, p.tripSlot)]

/-- What reading WRP_STATUS clears (R210). -/
def wrpClear (k : BitVec 64) (p : WritePath) : WritePath :=
  { p with trip := w1c k 23 p.trip, assistFault := w1c k 22 p.assistFault, contact := w1c k 21 p.contact,
           underrun := w1c k 20 p.underrun, sqzCheck := w1c k 19 p.sqzCheck,
           pairSkipped := w1c k 18 p.pairSkipped, ffDrift := w1c k 17 p.ffDrift, tornCnt := 0 }

/-- The body of WRP_GET_STATUS. -/
def wrpGet (act : Nat) (clear : BitVec 64) (s : State) : Ans :=
  match selAct act with
  | none => rangeA s
  | some a => getA (updWp s a (wrpClear clear)) [(4, wrpStatus s a), (4, wrpTrip s.wps[a])]

def execWrpGetStatus (r : Req) (act : Nat) (clear : BitVec 64) (s : State) : Host.Outcome State Fault Refusal :=
  .next (serve s r { opc := 0x040A, need := .rd } (.wrpGetStatus r act clear) (wrpGet act clear))

/-- The body of WRP_GET_WEAR: wear, on-time and energy; u64 fields start at multiples of 8 (R425). -/
def wrpGetWear (head : Nat) (s : State) : Ans :=
  match selHead s head with
  | none => rangeA s
  | some h => getA s
      [(4, wearOf s h), (4, 0), (8, s.ctr.heads[h].assistUs), (8, s.ctr.heads[h].assistMj)]

def execWrpGetWear (r : Req) (head : Nat) (s : State) : Host.Outcome State Fault Refusal :=
  .next (serve s r { opc := 0x040B, need := .rd } (.wrpGetWear r head) (wrpGetWear head))

end Sys2Proof.Machine
end

