-- ==== Sys2Proof/Machine/Links.lean ====
section
/-! DEFINITION. Links: the frames of the preamplifier and power-stage links, register access,
training, loss and the link messages (chapter 8). -/

namespace Sys2Proof.Machine

/-! ### Frames (R213 to R217) -/

/-- The scrambling bits of a frame: bit k for payload bit k (R215). -/
def frameScramble : Nat → BitVec 15 → List Bool
  | 0, _ => []
  | n + 1, s =>
    let q := s.getLsbD 14 != s.getLsbD 13
    q :: frameScramble n ((s <<< 1) ||| (if q then 1#15 else 0#15))

/-- The number of bits given lowest first. -/
def natOfBits : List Bool → Nat
  | [] => 0
  | b :: bs => b2n b + 2 * natOfBits bs

/-- The scrambling word of a frame number (R215). -/
def scrambleWord (fseq : Nat) : Nat := natOfBits (frameScramble 96 (0x2A55#15 ^^^ BitVec.ofNat 15 (fseq * 256)))

/-- The CRC of frame bits 0 to 111 before scrambling (R216). -/
def frameCrc (raw : Nat) : BitVec 16 :=
  crcBits 0x8BB7#16 0xFFFF#16 ((List.range 112).map (bitAt raw))

/-- A frame from its SYNC, TYPE, FSEQ and its payload fields at their frame bits (R214 to R216). -/
def mkFrame (sync ty fseq fields : Nat) : BitVec 128 :=
  let raw := sync + fseq % 64 * 2 ^ 8 + ty * 2 ^ 14 + fields
  BitVec.ofNat 128 ((frameCrc raw).toNat * 2 ^ 112) ^^^ BitVec.ofNat 128 raw ^^^ BitVec.ofNat 128 (scrambleWord (fseq % 64) * 2 ^ 16)

/-- FSEQ of a frame. -/
def frameSeq (f : BitVec 128) : Nat := fld f.toNat 8 6
/-- TYPE of a frame. -/
def frameType (f : BitVec 128) : Nat := fld f.toNat 14 2
/-- Frame bits 0 to 111 with the payload descrambled (R215). -/
def frameRaw (f : BitVec 128) : Nat :=
  (f.setWidth 112 ^^^ BitVec.ofNat 112 (scrambleWord (frameSeq f) * 2 ^ 16)).toNat

/-- SYNC of the lane and a correct CRC (R214, R216). -/
def frameIntact (sync : Nat) (f : BitVec 128) : Bool :=
  decide (fld f.toNat 0 8 = sync) && decide (f.extractLsb' 112 16 = frameCrc (frameRaw f))

/-- A good frame of an UP link (R217). -/
def frameGood (sync : Nat) (l : Link) (f : BitVec 128) : Bool :=
  frameIntact sync f && decide (frameType f = 0) && decide (frameSeq f = (l.rxFseq + l.sinceGood + 1) % 64)

/-! ### Register requests (R227, R228) -/

/-- A frame may carry this waiting request: no read of an address with a write outstanding. -/
def mayTake (l : Link) (q : RegReq) : Bool :=
  q.write || !l.reqs.any fun r => r.write && decide (r.addr = q.addr)

/-- The lowest tag without a request outstanding. -/
def freeTag (n : Nat) (l : Link) : Option Nat := (List.range n).find? fun t => !l.reqs.any fun r => decide (r.tag = t)

/-- Bit list with bit `k` set to `v`. -/
def setBit (bs : List Bool) (k : Nat) (v : Bool) : List Bool :=
  (List.range (max bs.length (k + 1))).map fun i => if i = k then v else bs.getD i false

/-- The request the next frame carries, if any, and the link with it sent: a resend first, then the
oldest waiting request on a free tag with TOGGLE inverted. -/
def nextReq (n : Nat) (l : Link) : Option RegReq × Link :=
  match l.reqs.find? fun r => !r.sent with
  | some r => (some r, { l with reqs := l.reqs.map fun x => if x.tag = r.tag then { x with sent := true, frames := 0 } else x })
  | none =>
    match l.wait, freeTag n l with
    | q :: rest, some t =>
      if mayTake l q then
        let r := { q with tag := t, toggle := !l.toggles.getD t false, sent := true, frames := 0 }
        (some r, { l with wait := rest, reqs := l.reqs ++ [r], toggles := setBit l.toggles t r.toggle })
      else (none, l)
    | _, _ => (none, l)

/-- OP of a request. -/
def reqOp (q : Option RegReq) : Nat := match q with | some r => (if r.write then 1 else 2) | none => 0

/-- Which link: 0 to 3 a preamplifier link, 4 the power-stage link. -/
def linkOf (s : State) (k : Nat) : Link := if h : k < 4 then s.plks[(⟨k, h⟩ : Act)].l else s.psl.l

/-- The shared part of a link changed by `f`. -/
def updLink (s : State) (k : Nat) (f : Link → Link) : State :=
  if h : k < 4 then updPlk s ⟨k, h⟩ fun p => { p with l := f p.l }
  else updPsl s fun p => { p with l := f p.l }

/-- Bytes of a register of a link. -/
def regBytes (k : Nat) : Nat := if k < 4 then 2 else 1

/-- HEADS or KIND disagrees with the drive configuration (R229). -/
def idMismatch (s : State) (a : Act) (regs : List (Nat × Nat)) : Bool :=
  regs.any fun r => (decide (r.1 = 1) && decide (r.2 ≠ s.nv.headsPerAct[a])) ||
    (decide (r.1 = 2) && decide (r.2 ≠ b2n s.wdev.sto))

/-- A register read of the LX-4's own after training: ID, HEADS and KIND (R229). -/
def ownRead (s : State) (k addr data : Nat) : State :=
  if h : k < 4 then
    let a : Act := ⟨k, h⟩
    let s1 := updPlk s a fun p => { p with idRegs := p.idRegs ++ [(addr, data)] }
    if idMismatch s a [(addr, data)] ∧ !s.plks[a].noWrite then
      raise (updActRec (updPlk s1 a fun p => { p with noWrite := true }) a fun r =>
        { r with kindMismatch := satInc 3 r.kindMismatch }) .headsMismatch 0 0x09 a.val addr data
    else s1
  else s

/-- A request ends with a status (R228). -/
def endReq (s : State) (k : Nat) (r : RegReq) (status aux data : Nat) : State :=
  let s1 := updLink s k fun l => { l with reqs := l.reqs.filter fun x => x.tag ≠ r.tag }
  match r.mb with
  | some mb => lateAnswer s1 mb status aux (leBytes (regBytes k) data)
  | none => if status = 0 ∧ !r.write then ownRead s1 k r.addr data else s1

/-- No usable response: send again, or end with the timeout status (R228). -/
def retryReq (s : State) (k : Nat) (r : RegReq) : State :=
  if r.tries < s.lnk.regRetry then
    updLink s k fun l => { l with reqs := l.reqs.map fun x =>
      if x.tag = r.tag then { x with tries := x.tries + 1, sent := false, frames := 0 } else x }
  else endReq (updLink s k fun l => { l with regTimeout := true }) k r 0x000F 0 0

/-- The response fields of a good frame: data, TOGGLE, TAG and RSTAT (R220, R225, R228). -/
def regResponse (s : State) (k data : Nat) (toggle : Bool) (tag rstat : Nat) : State :=
  if rstat = 0 then s
  else
    match (linkOf s k).reqs.find? fun r => decide (r.tag = tag) && decide (r.toggle = toggle) with
    | none => s
    | some r =>
      if rstat = 1 then endReq s k r 0 0 data
      else if rstat = 2 then endReq s k r 0x000E r.addr 0
      else retryReq s k r

/-- Every request outstanding or waiting ends with the link-down status (R228). -/
def endAllReqs (s : State) (k : Nat) : State :=
  let l := linkOf s k
  let s1 := updLink s k fun l => { l with reqs := [], wait := [] }
  forEach (l.reqs ++ l.wait) s1 fun s r => match r.mb with | some mb => lateAnswer s mb 0x0010 0 [] | none => s

/-- Every request that was sent has waited one frame time longer (R228). -/
def tickReqs (s : State) (k : Nat) : State :=
  updLink s k fun l => { l with reqs := l.reqs.map fun r => if r.sent then { r with frames := satInc 8 r.frames } else r }

/-- REG_REQUEST_TIMEOUT: 8 frame times without a response (R228). -/
def regRequestTimeout (link tag : Nat) (s : State) : State :=
  match (linkOf s link).reqs.find? fun r => decide (r.tag = tag) && r.sent with
  | some r => if powered s && decide ((linkOf s link).st = .up) && decide (8 ≤ r.frames) then retryReq s link r else s
  | none => s

def execRegRequestTimeout (link tag : Nat) (s : State) : Host.Outcome State Fault Refusal :=
  .next (regRequestTimeout link tag s)

/-! ### Downstream frames (R218, R219, R221, R222, R224, R226) -/

/-- The link sends frames at all: it trains or is UP. -/
def linkSends (l : Link) : Bool := decide (l.st = .up) || decide (0 < l.trainStep)

/-- The link sends DATA: UP, or from training step 3 on (R231). -/
def sendsData (l : Link) : Bool := decide (l.st = .up) || decide (3 ≤ l.trainStep)

/-- The readers named on the link: the stream's head, unchanged while its gate is open (R221). -/
def readerOf (s : State) (m : Strm) (old : Option Hd) : Option Hd :=
  if s.chn[m].readGate then old else if s.streams[m].selected then some s.streams[m].head else none

/-- The micro-actuator drive code of a reader's head (R95, R221). DESIGN CHOICE (log entry 200): the product of
the command and LOOP_MA_GAIN is rounded down and saturated to 16 bits. -/
def maDrive (s : State) (a : Act) (h : Option Hd) : Int :=
  match h with
  | some h => satW 16 (s.acts[a].maCmd[localHead s h] * s.hloops[h].maGain / 4096)
  | none => 0

/-- The request fields of PLDa_0 (R218). -/
def plkReqBits (q : Option RegReq) : List (Nat × Nat × Nat) :=
  match q with
  | some r => [(87, 16, r.data), (75, 12, r.addr), (74, 1, b2n r.toggle), (72, 2, r.tag), (70, 2, reqOp q)]
  | none => []

/-- The payload of PLDa_0 (R218). -/
def plkPayload0 (p : PLink) (q : Option RegReq) : Nat :=
  let r0 := p.rhead.getD 0 none
  let r1 := p.rhead.getD 1 none
  packF (plkReqBits q ++
    [(54, 16, toPat 16 (p.ma.getD 1 0)), (38, 16, toPat 16 (p.ma.getD 0 0)), (34, 4, p.mseq), (33, 1, b2n p.wsel),
     (28, 5, p.whead.val), (27, 1, b2n r1.isSome), (22, 5, (r1.getD 0).val), (21, 1, b2n r0.isSome), (16, 5, (r0.getD 0).val)])

/-- The payload of PLDa_1 (R219). -/
def plkPayload1 (p : PLink) (w : WritePath) : Nat :=
  packF ((match p.hcmd with
    | some (h, v) => [(57, 1, 1), (46, 11, v), (41, 5, h.val)]
    | none => []) ++ [(37, 4, w.aseq), (21, 16, if w.ae then w.adrive else 0), (16, 5, w.sel.val)])

/-- The readers, micro-actuator commands and writing head of the next frame pair: MSEQ is the number of the
commands in force, and WHEAD and WSEL change only while WGa has been low for a frame time (R221, R222, R229). -/
def refreshPlk (s : State) (a : Act) (p : PLink) : PLink :=
  let rh := [readerOf s (stream0 a) (p.rhead.getD 0 none), readerOf s (stream1 a) (p.rhead.getD 1 none)]
  let p1 := { p with rhead := rh, ma := if p.l.st = .up then rh.map (maDrive s a) else [0, 0], mseq := s.acts[a].maStep,
                     wgLow := !s.wps[a].wg }
  if !s.wps[a].wg && p.wgLow then { p1 with whead := p.wantHead, wsel := p.wantSel && !p.noWrite } else p1

/-- One frame pair is sent (R213, R214, R218, R219, R221, R231). -/
def plkSend (a : Act) (s : State) : State :=
  let p := refreshPlk s a s.plks[a]
  let q : Option RegReq × Link := if p.l.st = .up then nextReq 4 p.l else (none, p.l)
  let ty := if sendsData p.l then 0 else 1
  let f0 := mkFrame 0x1E ty p.l.txFseq (if ty = 0 then plkPayload0 p q.1 else 0)
  let f1 := mkFrame 0x2D ty p.l.txFseq (if ty = 0 then plkPayload1 p s.wps[a] else 0)
  let s1 := updPlk s a fun _ => { p with l := { q.2 with txFseq := (p.l.txFseq + 1) % 64, txFrames := [f0, f1] } }
  let s2 := if s.wps[a].ae ∧ ty = 0 then
      updWp s1 a fun w => { w with codeSent := some (w.codeSent.getD w.framesSinceAe) }
    else s1
  emit (emit s2 (.plk a.val 0 f0)) (.plk a.val 1 f1)

/-- PREAMP_DOWNSTREAM_FRAME (R221). -/
def execPreampDownstreamFrame (a : Act) (s : State) : Host.Outcome State Fault Refusal :=
  .next (if powered s && linkSends s.plks[a].l then plkSend a s else s)

/-- The payload of PSL_TX (R224). -/
def pslPayload (p : PsLink) (chop : Bool) (q : Option RegReq) : Nat :=
  packF ((match q with
    | some r => [(102, 8, r.data), (94, 8, r.addr), (93, 1, b2n r.toggle), (92, 1, r.tag), (90, 2, reqOp q)]
    | none => []) ++
    [(86, 1, b2n p.ven[0]), (87, 1, b2n p.ven[1]), (88, 1, b2n p.ven[2]), (89, 1, b2n p.ven[3]),
     (85, 1, b2n p.isolate), (84, 1, b2n chop),
     (20, 16, toPat 16 p.vcm[0]), (36, 16, toPat 16 p.vcm[1]), (52, 16, toPat 16 p.vcm[2]), (68, 16, toPat 16 p.vcm[3]),
     (16, 4, p.vseq)])

/-- One power-stage frame is sent (R224, R226, R231). -/
def pslSend (s : State) : State :=
  let p := if s.psl.vcmNew then { s.psl with vseq := (s.psl.vseq + 1) % 16, vcmNew := false } else s.psl
  let q : Option RegReq × Link := if p.l.st = .up then nextReq 2 p.l else (none, p.l)
  let ty := if sendsData p.l then 0 else 1
  let f := mkFrame 0x72 ty p.l.txFseq (if ty = 0 then pslPayload p s.spn.chopOn q.1 else 0)
  emit { s with psl := { p with l := { q.2 with txFseq := (p.l.txFseq + 1) % 64, txFrames := [f] } } } (.psl f)

/-- PSL_TX_FRAME (R226). -/
def execPslTxFrame (s : State) : Host.Outcome State Fault Refusal :=
  .next (if powered s && linkSends s.psl.l then pslSend s else s)

/-! ### Training (R231) -/

/-- A bad upstream frame time (R217, R231, R236). -/
def badFrame (l : Link) : Link :=
  { l with rxCrcCnt := satInc 255 l.rxCrcCnt, sinceGood := l.sinceGood + 1, trainRun := 0,
           badRun := satInc 7 l.badRun, badTotal := l.badTotal + 1 }

/-- A good frame of the step in progress: 32 TRAIN frames, then 8 DATA frames (R231). -/
def trainFrame (f : BitVec 128) (l : Link) : Link :=
  let want := if l.trainStep < 3 then 1 else 0
  if frameType f = want then
    let n := l.trainRun + 1
    let l1 := { l with trainRun := n, rxFseq := frameSeq f, sinceGood := 0 }
    if l.trainStep < 3 ∧ 32 ≤ n then { l1 with trainStep := 3, trainRun := 0 } else l1
  else { l with trainRun := 0 }

/-- Start training at step 1. -/
def trainStart (l : Link) : Link := { l with trainStep := 1, trainRun := 0 }

/-- A link that is UP again keeps no count of its training. -/
def linkUp (l : Link) : Link :=
  { l with st := .up, trainStep := 0, trainRun := 0, attempts := 0, badRun := 0, badTotal := 0, sinceGood := 0,
           failSince := none, lost := false }

/-- A preamplifier link comes UP: the partner registers are read, the micro-actuator laws restart
(R229, R231, R232). -/
def plkUp (s : State) (a : Act) : State :=
  let s1 := updPlk s a fun p =>
    { p with noWrite := false, idRegs := [],
             l := { linkUp p.l with wait := [{ addr := 0 }, { addr := 1 }, { addr := 2 }] } }
  updAct s1 a fun x =>
    { x with laws := Vector.ofFn fun i : Fin 32 =>
        if i.val < 8 then { x.laws[i] with pendStart := some 0, out := 0, blendLeft := 0 }
        else x.laws[i] }

/-- What the LX-4 writes to the power stage after every training (R230, R238). -/
def pslSetup (s : State) : List (Nat × Nat) :=
  [(0x10, s.psl.retractV), (0x11, s.psl.retractT), (0x12, (s.spn.lim.vChopOn - 12000) / 10), (0x13, s.psl.psUv)]

/-- The power-stage link comes UP: its registers are written, a start that waited goes on (R230, R231). -/
def pslUp (s : State) : State :=
  let s1 := updPsl s fun p => { p with l := linkUp p.l }
  let s2 := forEach (pslSetup s) s1 fun s w => pslWrite s w.1 w.2
  if s2.spn.startWait then spinStart s2 else s2

/-- LINK_TRAINING_TIMEOUT: 100 µs, 200 µs for the power-stage link; the third timeout fails the link,
and a retry of a failed link ends (R231, R510). -/
def trainTimeout (link : Nat) (s : State) : State :=
  let l := linkOf s link
  if l.trainStep = 0 then s
  else if l.st = .fail then updLink s link fun l => { l with trainStep := 0, trainRun := 0 }
  else if l.attempts < 2 then updLink s link fun l => trainStart { l with attempts := l.attempts + 1 }
  else
    let s1 := updLink s link fun l =>
      { l with st := .fail, trainFail := true, trainStep := 0, trainRun := 0, attempts := 3, failSince := some s.us }
    if link < 4 then report s1 (0x02, link) .trainFail 2 0x09 link link
    else report s1 (0x07, 0) .trainFail 2 0x0A 0 link

def execLinkTrainingTimeout (link : Nat) (s : State) : Host.Outcome State Fault Refusal :=
  .next (if powered s && decide (link < 5) then trainTimeout link s else s)

/-- LINK_TRAINING_RETRY: every 100 ms a failed link runs the steps again (R231). -/
def execLinkTrainingRetry (link : Nat) (s : State) : Host.Outcome State Fault Refusal :=
  .next (if powered s && decide (link < 5) && decide ((linkOf s link).st = .fail) &&
        decide ((linkOf s link).trainStep = 0) then updLink s link trainStart
    else s)

/-! ### Upstream frames: preamplifier (R220, R223, R197, R198, R202, R208) -/

/-- The monitor lies within ASSIST_TOL of P_SET (R197). -/
def withinTol (p : WritePath) (mon : Nat) : Bool :=
  decide (((mon : Int) - p.pSet).natAbs * 100 ≤ p.par.lim.assistTol * p.pSet)

/-- The frame arrives at least 160 ns after the end of the first frame with the new drive code (R197). -/
def afterCode (p : WritePath) : Bool :=
  match p.codeSent with | some n => decide (n + 3 ≤ p.framesSinceAe) | none => false

/-- What one good telemetry frame counts while AEa is high (R196 to R198, R223). -/
def countTelemetry (lead : Bool) (mon atemp : Nat) (p : WritePath) : WritePath :=
  let n := if afterCode p then (if withinTol p mon then satInc 4 p.readyRun else 0) else 0
  let low := lead && decide (mon * 100 < p.par.lim.assistLo * p.pSet)
  let high := lead && decide (p.par.lim.assistHi * p.pSet < mon * 100)
  let hot := lead && decide (2 * p.par.atTrip < atemp)
  { p with pMon := mon, monSum := p.monSum + mon, monN := p.monN + 1, readyRun := n, assistReady := decide (4 ≤ n),
           lowRun := if low then satInc 4 p.lowRun else 0, highRun := if high then satInc 2 p.highRun else 0,
           hotRun := if hot then satInc 2 p.hotRun else 0 }

/-- The first assist condition a telemetry frame completes (R198). -/
def assistCond (p : WritePath) : Option Nat :=
  if 4 ≤ p.lowRun then some 0 else if 2 ≤ p.highRun then some 1 else if 2 ≤ p.hotRun then some 2 else none

/-- An amount of energy in fJ joins the gap of the sector that ended last. -/
def toLast (fj : Nat) (r : Run) : Run :=
  match r.ended with
  | e :: es => { r with ended := (e.1, e.2 + fj) :: es }
  | [] => { r with fj := r.fj + fj }

/-- The energy of one 80 ns frame at the reported drive power, 10 µW steps, while AEa is high: in a gap it
belongs to the sector before, else to the lead-in or the sector in progress (R208, R223). -/
def frameEnergy (apwr : Nat) (a : Act) (s : State) : State :=
  if !s.wps[a].ae then s
  else
    updWp s a fun p => { p with
      framesSinceAe := p.framesSinceAe + 1
      run := p.run.map fun r =>
        if sectorBegun s a r then { r with fj := r.fj + 800 * apwr } else toLast (800 * apwr) r }

/-- Telemetry of a good frame: energy, ASSIST_READY and the assist trips (R197, R198, R208). -/
def telemetry (s : State) (a : Act) (mon atemp apwr : Nat) : State :=
  let s1 := updPlk s a fun p => { p with mon := mon, atemp := atemp, apwr := apwr }
  let s2 := frameEnergy apwr a s1
  if s2.wps[a].ae then
    let lead := leadPassed s2 a
    let s3 := updWp s2 a (countTelemetry lead mon atemp)
    match assistCond s3.wps[a] with
    | some c => assistTrip s3 a c
    | none => s3
  else updWp s2 a fun p => { p with pMon := mon }

/-- A contact is declared on a head (R202). `other` says that an assist trip fell in the same frame:
the lower cause stands and the contact is recorded (R189). -/
def declareContact (s : State) (a : Act) (h : Hd) (other : Bool) : State :=
  let writing := s.wps[a].ae && decide (s.wps[a].sel = h)
  let s1 := if writing then tripNow s a 0x4
    else if other && decide (s.wps[a].sel = h) then otherTrip s a h 0x4
    else s
  let times := s.us :: recent s.us 10000000 s.wheads[h].contactTimes
  let s2 := updPlk (updWp (updWhead s1 h fun w =>
      { w with htrPwr := 0, htrHold := true, contactArmed := false, contactTimes := times })
      a fun p => { p with contact := true }) a fun l => { l with hcmd := some (h, 0) }
  let s3 := updHeadCtr s2 h fun c => { c with contacts := ctrAdd c.contacts 1 }
  let s4 := raise s3 .contact 2 0x08 a.val h.val
  if (parOf s h).lim.contactMax < times.length then
    raise (updWhead s4 h fun w => { w with blocked := true }) .contactBlocked 0 0x08 a.val h.val times.length
  else s4

/-- The contact flag of one head in a good frame (R202). -/
def contactFlag (a : Act) (other : Bool) (s : State) (p : Hd × Bool) : State :=
  if p.2 then
    let s1 := updWhead s p.1 fun w => { w with contactRun := satInc 2 w.contactRun }
    if 2 ≤ s1.wheads[p.1].contactRun ∧ s1.wheads[p.1].contactArmed then declareContact s1 a p.1 other else s1
  else updWhead s p.1 fun w => { w with contactRun := 0 }

/-- The link fields of a good upstream frame (R220, R236). -/
def plkFields (w : Nat) (f : BitVec 128) (p : PLink) : PLink :=
  { p with wackV := bitAt w 87, wack := ⟨fld w 82 5, Nat.mod_lt _ (by decide)⟩, peerFault := p.peerFault || bitAt w 89,
           l := { p.l with rxFseq := frameSeq f, sinceGood := 0, badRun := 0,
                           peerReset := p.l.peerReset || bitAt w 88,
                           peerCrcCnt := if bitAt w 90 then satInc 255 p.l.peerCrcCnt else p.l.peerCrcCnt } }

/-- A good upstream DATA frame of an UP preamplifier link (R220). -/
def plkGood (s : State) (a : Act) (f : BitVec 128) : State :=
  let w := frameRaw f
  let s1 := updPlk s a (plkFields w f)
  let s2 := updWhead s1 ⟨fld w 77 5, Nat.mod_lt _ (by decide)⟩ fun h => { h with clear := fld w 67 10 }
  let s3 := telemetry s2 a (fld w 16 16) (fld w 32 11) (fld w 43 16)
  let tripped := s2.wps[a].ae && !s3.wps[a].ae
  let s4 := forEach ((headsOf s a).zipIdx.map fun e => (e.1, bitAt w (59 + e.2))) s3 (contactFlag a tripped)
  regResponse s4 a.val (fld w 96 16) (bitAt w 95) (fld w 93 2) (fld w 91 2)

/-- An upstream frame time ends on a preamplifier link (R217, R223, R231). -/
def plkFrame (a : Act) (frame : Option (BitVec 128)) (s0 : State) : State :=
  let s := tickReqs s0 a.val
  let l := s.plks[a].l
  let ok := match frame with | some f => (if l.st = LinkSt.up then frameGood 0x4B l f else frameIntact 0x4B f) | none => false
  match frame, ok with
  | some f, true =>
    if l.st = LinkSt.up then plkGood s a f
    else
      let s1 := updLink s a.val (trainFrame f)
      if l.trainStep = 3 ∧ 8 ≤ s1.plks[a].l.trainRun then plkUp s1 a else s1
  | _, _ =>
    let s1 := updLink s a.val badFrame
    if l.st = LinkSt.up then frameEnergy s.plks[a].apwr a s1 else s1

/-- PREAMP_UPSTREAM_FRAME (R217); `none` when no frame boundary is found. -/
def execPreampUpstreamFrame (a : Act) (frame : Option (BitVec 128)) (s : State) : Host.Outcome State Fault Refusal :=
  .next (if powered s && linkSends s.plks[a].l then plkFrame a frame s else s)

/-- The loss of a preamplifier link (R188, R228, R231, R232, R510). -/
def plkLose (s : State) (a : Act) : State :=
  let n := s.plks[a].l.badTotal
  let s1 := updPlk s a fun p =>
    { p with ma := [0, 0], l := trainStart { p.l with st := .train, loss := true, lost := true, attempts := 0 } }
  let s2 := updAct s1 a fun x => { x with maCmd := x.maCmd.map fun _ => 0 }
  let x := takeFree (endAllReqs (tripNow s2 a 0x5) a.val)
  report x.2 (0x02, a.val) .plkLoss 2 0x09 a.val a.val n (x.1 % 2)

/-- PREAMP_LINK_LOST: three consecutive bad frame times (R232). -/
def execPreampLinkLost (a : Act) (s : State) : Host.Outcome State Fault Refusal :=
  .next (if powered s && decide (s.plks[a].l.st = .up) && decide (3 ≤ s.plks[a].l.badRun) then plkLose s a else s)

/-! ### Upstream frames: power stage (R225, R234) -/

/-- The chopper command and the time above V_OV after a bus reading (R137, R138). -/
def busReading (mv : Nat) (p : Spindle) : Spindle :=
  let on := if p.lim.vChopOn < mv then true else if mv + 400 < p.lim.vChopOn then false else p.chopOn
  let above := on && decide (p.lim.vOv < mv)
  { p with vBus := mv, chopOn := on, ovAbove := above, ovNs := if above && p.ovAbove then min (p.ovNs + 320) 32000 else 0 }

/-- The measured VCM currents of a frame. -/
def ivcmOf (w : Nat) : Vector Int 4 := Vector.ofFn fun i : Fin 4 => ofPat 12 (fld w (40 + 12 * i.val) 12)

/-- The fields of a good PSL_RX frame (R225, R237). -/
def pslFields (w : Nat) (f : BitVec 128) (p : PsLink) : PsLink :=
  { p with isolated := bitAt w 90, chop := bitAt w 88, chopFault := bitAt w 89, overtemp := bitAt w 91,
           ivcm := ivcmOf w, vin12 := fld w 28 12,
           l := { p.l with rxFseq := frameSeq f, sinceGood := 0, badRun := 0,
                           peerReset := p.l.peerReset || bitAt w 92,
                           peerCrcCnt := if bitAt w 93 then satInc 255 p.l.peerCrcCnt else p.l.peerCrcCnt } }

/-- An upstream frame time ends on the power-stage link (R217, R225, R231). -/
def pslFrame (frame : Option (BitVec 128)) (s0 : State) : State :=
  let s := tickReqs s0 4
  let l := s.psl.l
  let ok := match frame with | some f => (if l.st = LinkSt.up then frameGood 0x8D l f else frameIntact 0x8D f) | none => false
  match frame, ok with
  | some f, true =>
    if l.st = LinkSt.up then
      let w := frameRaw f
      let s1 := updSpn (updPsl s (pslFields w f)) (busReading (5 * fld w 16 12))
      regResponse s1 4 (fld w 98 8) (bitAt w 97) (fld w 96 1) (fld w 94 2)
    else
      let s1 := updLink s 4 (trainFrame f)
      if l.trainStep = 3 ∧ 8 ≤ s1.psl.l.trainRun then pslUp s1 else s1
  | _, _ => updLink s 4 badFrame

/-- PSL_RX_FRAME (R225); `none` when no frame boundary is found. -/
def execPslRxFrame (frame : Option (BitVec 128)) (s : State) : Host.Outcome State Fault Refusal :=
  .next (if powered s && linkSends s.psl.l then pslFrame frame s else s)

/-- PSL_LINK_LOST: four consecutive bad frame times; the breakwater starts with PSL_LOSS and the link
does not train again (R234). -/
def execPslLinkLost (s : State) : Host.Outcome State Fault Refusal :=
  .next (if powered s && decide (s.psl.l.st = .up) && decide (4 ≤ s.psl.l.badRun) then
      let s1 := updPsl s fun p => { p with lossUs := s.us, l := { p.l with st := .down, loss := true, lost := true } }
      let s2 := report (endAllReqs s1 4) (0x07, 0) .pslLoss 2 0x0A 0 s.psl.l.badTotal
      if s.bw.started then s2 else startBreakwater s2 6
    else s)

/-! ### Messages (R236 to R238) -/

/-- STATE of a link (R236). -/
def linkCode (l : Link) : Nat := match l.st with | .down => 0 | .train => 1 | .up => 2 | .fail => 3

/-- PLK_STATUS (R236). -/
def plkStatus (p : PLink) : Nat :=
  packF [(30, 2, linkCode p.l), (29, 1, b2n p.wackV), (24, 5, p.wack.val), (23, 1, b2n p.l.loss),
    (22, 1, b2n p.l.trainFail), (21, 1, b2n p.l.peerReset), (20, 1, b2n p.peerFault), (19, 1, b2n p.l.regTimeout),
    (8, 8, p.l.rxCrcCnt), (0, 8, p.l.peerCrcCnt)]

/-- What reading PLK_STATUS clears. -/
def plkClear (k : BitVec 64) (p : PLink) : PLink :=
  { p with peerFault := w1c k 20 p.peerFault
           l := { p.l with loss := w1c k 23 p.l.loss, trainFail := w1c k 22 p.l.trainFail, rxCrcCnt := 0,
                           peerReset := w1c k 21 p.l.peerReset, regTimeout := w1c k 19 p.l.regTimeout, peerCrcCnt := 0 } }

/-- The body of PLK_GET_STATUS. -/
def plkGet (act : Nat) (clear : BitVec 64) (s : State) : Ans :=
  match selAct act with
  | none => rangeA s
  | some a => getA (updPlk s a (plkClear clear)) [(4, plkStatus s.plks[a])]

def execPlkGetStatus (r : Req) (act : Nat) (clear : BitVec 64) (s : State) : Host.Outcome State Fault Refusal :=
  .next (serve s r { opc := 0x0902, need := .rd } (.plkGetStatus r act clear) (plkGet act clear))

/-- PSL_STATUS (R237). -/
def pslStatus (p : PsLink) : Nat :=
  packF [(30, 2, linkCode p.l), (29, 1, b2n p.isolated), (28, 1, b2n p.chop), (27, 1, b2n p.chopFault),
    (26, 1, b2n p.overtemp), (23, 1, b2n p.l.loss), (22, 1, b2n p.l.trainFail), (21, 1, b2n p.l.peerReset),
    (20, 1, b2n p.l.regTimeout), (8, 8, p.l.rxCrcCnt), (0, 8, p.l.peerCrcCnt)]

/-- What reading PSL_STATUS clears. -/
def pslClear (k : BitVec 64) (p : PsLink) : PsLink :=
  { p with l := { p.l with loss := w1c k 23 p.l.loss, trainFail := w1c k 22 p.l.trainFail, rxCrcCnt := 0,
                           peerReset := w1c k 21 p.l.peerReset, regTimeout := w1c k 20 p.l.regTimeout, peerCrcCnt := 0 } }

/-- The body of PSL_GET_STATUS. -/
def pslGet (clear : BitVec 64) (s : State) : Ans := getA (updPsl s (pslClear clear)) [(4, pslStatus s.psl)]

def execPslGetStatus (r : Req) (clear : BitVec 64) (s : State) : Host.Outcome State Fault Refusal :=
  .next (serve s r { opc := 0x0903, need := .rd } (.pslGetStatus r clear) (pslGet clear))

/-- Begin a register access of a mailbox; its answer waits for the partner (R227, R228). -/
def regAccess (s : State) (k : Nat) (mb : Mb) (op addr data : Nat) : Ans :=
  if (linkOf s k).st ≠ .up then failA s 0x0010
  else deferA (updLink s k fun l => { l with wait := l.wait ++ [{ write := decide (op = 1), addr := addr, data := data, mb := some mb }] })

/-- The body of PLK_REG_ACCESS. -/
def plkReg (mb : Mb) (act op addr data : Nat) (s : State) : Ans :=
  match selAct act with
  | none => rangeA s
  | some a => if op = 0 ∨ 2 < op ∨ 4095 < addr ∨ 65535 < data then rangeA s else regAccess s a.val mb op addr data

def execPlkRegAccess (r : Req) (act op addr data : Nat) (s : State) : Host.Outcome State Fault Refusal :=
  .next (serve s r { opc := 0x0904, need := if op = 1 then .db 2 else .rd } (.plkRegAccess r act op addr data)
    (plkReg r.mb act op addr data))

/-- The body of PSL_REG_ACCESS. -/
def pslReg (mb : Mb) (op addr data : Nat) (s : State) : Ans :=
  if op = 0 ∨ 2 < op ∨ 255 < addr ∨ 255 < data then rangeA s else regAccess s 4 mb op addr data

def execPslRegAccess (r : Req) (op addr data : Nat) (s : State) : Host.Outcome State Fault Refusal :=
  .next (serve s r { opc := 0x0905, need := if op = 1 then .db 2 else .rd } (.pslRegAccess r op addr data)
    (pslReg r.mb op addr data))

/-- The body of LNK_SET_LIMITS. -/
def lnkLimits (ps : Params) (s : State) : Ans :=
  setA s [parN 0 7 fun v (p : LnkPar) => { p with regRetry := v }] (fun _ => []) ps s.lnk fun p => { s with lnk := p }

def execLnkSetLimits (r : Req) (ps : Params) (s : State) : Host.Outcome State Fault Refusal :=
  .next (serve s r { opc := 0x0906, setter := true } (.lnkSetLimits r ps) (lnkLimits ps))

/-- PSL_SET_SAFE's list: 0.02 V, 2 ms and 0.05 V steps; PS_UV is held as UV_TH's code (R230, R238). -/
def safePars : List (Par PsLink) :=
  [parN 0 255 fun v p => { p with retractV := v },
   parN 0 255 fun v p => { p with retractT := v },
   parN 180 220 fun v p => { p with psUv := v - 160 }]

/-- The body of PSL_SET_SAFE: the values reach the power stage by register write (R238). -/
def pslSafe (ps : Params) (s : State) : Ans :=
  setA s safePars (fun _ => []) ps s.psl fun p =>
    pslWrite (pslWrite (pslWrite { s with psl := p } 0x10 p.retractV) 0x11 p.retractT) 0x13 p.psUv

def execPslSetSafe (r : Req) (ps : Params) (s : State) : Host.Outcome State Fault Refusal :=
  .next (serve s r { opc := 0x0B02, setter := true } (.pslSetSafe r ps) (pslSafe ps))

end Sys2Proof.Machine
end

