-- ==== Sys2Proof/Machine/Media.lean ====
section
/-! DEFINITION. Media: functions and their accounts, the tally's counts, pilot entries, and where a
member sector lies (R239 to R250, R279, R282, R287, R317, R320, R332, R346). -/

namespace Sys2Proof.Machine

/-! ### Functions and tally -/

/-- The record of function `f`. -/
def fnOf (s : State) (f : Fn) : Func := (s.quay.funcs.find? fun x => x.idx = f).getD { idx := f }

/-- A list of function records with that of `f` changed by `g`. -/
def putFn (f : Fn) (g : Func → Func) : List Func → List Func
  | [] => [g { idx := f }]
  | x :: xs => if x.idx = f then g x :: xs else if f.val < x.idx.val then g { idx := f } :: x :: xs else x :: putFn f g xs

/-- Function `f` changed by `g`. -/
def updFn (s : State) (f : Fn) (g : Func → Func) : State := updQuay s fun q => { q with funcs := putFn f g q.funcs }

/-- A charge of `us` actuator-µs to A_M, negative for a correction (R317, R320). -/
def chargeM (s : State) (f : Fn) (us : Int) : State :=
  updFn s f fun x => { x with aM := x.aM + us * 2 ^ 48 / (4000000 * (max x.allot.wMedia 1 : Nat)) }

/-- Actual actuator time of a function: A_M and its use of the cap window (R319, R320). -/
def chargeUs (s : State) (f : Fn) (us : Nat) : State :=
  updFn (chargeM s f us) f fun x => { x with mtUsed := x.mtUsed + us }

/-- The rings with that of `key` changed by `g`. -/
def putRing (key : Nat) (g : TRing → TRing) : List TRing → List TRing
  | [] => [g { key := key }]
  | x :: xs =>
    if x.key = key then g x :: xs else if key < x.key then g { key := key } :: x :: xs else x :: putRing key g xs

/-- Tally ring `key` changed by `g`: 0 to 1,023 functions, 1,024 device, 1,025 background (R335). -/
def updRing (s : State) (key : Nat) (g : TRing → TRing) : State :=
  updQuay s fun q => { q with tally := { q.tally with rings := putRing key g q.tally.rings } }

/-- A count of a function and of the device total (R332). -/
def tallyF (s : State) (f : Fn) (g : TRec → TRec) : State :=
  updRing (updRing s f.val fun r => { r with cur := g r.cur }) 1024 fun r => { r with cur := g r.cur }

/-- A count of the background record. -/
def tallyBg (s : State) (g : TRec → TRec) : State := updRing s 1025 fun r => { r with cur := g r.cur }

/-- Energy of a function: whole mJ to its record and the device total, the remainder kept (R332). -/
def tallyEnergy (s : State) (f : Fn) (nj : Nat) : State :=
  let old := ((s.quay.tally.rings.find? fun r => r.key = f.val).map (·.nj)).getD 0
  let mj := (old + nj) / 1000000
  updRing (updRing s f.val fun r => { r with nj := (old + nj) % 1000000, cur := { r.cur with energy := r.cur.energy + mj } })
    1024 fun r => { r with cur := { r.cur with energy := r.cur.energy + mj } }

/-- Energy of background work (R332). -/
def tallyBgEnergy (s : State) (nj : Nat) : State :=
  updRing s 1025 fun r =>
    { r with nj := (r.nj + nj) % 1000000, cur := { r.cur with energy := r.cur.energy + (r.nj + nj) / 1000000 } }

/-- The functions of a list of blocks with their block counts, ascending. -/
def blockShares (bs : List CBlock) : List (Fn × Nat) :=
  let fs := (List.finRange 1024).filter fun f => bs.any fun b => b.func = f
  fs.map fun f => (f, (bs.filter fun b => b.func = f).length)

/-- A quantity split in proportion to block counts; the remainder goes to the function with the most
blocks, the lower index on a tie (R320). -/
def splitShares (q : Nat) (shares : List (Fn × Nat)) : List (Fn × Nat) :=
  let total := shares.foldl (fun a x => a + x.2) 0
  let parts := shares.map fun x => (x.1, q * x.2 / max total 1)
  let rest := q - parts.foldl (fun a x => a + x.2) 0
  let best := (shares.foldl (fun (b : Option (Fn × Nat)) x =>
    match b with | some y => if y.2 < x.2 then some x else some y | none => some x) none).map (·.1)
  parts.map fun x => if some x.1 = best then (x.1, x.2 + rest) else x

/-! ### Layouts (R239, R240, R242) -/

/-- D of a layout. -/
def layD (c : Nat) : Nat := if c < 2 then 16 else 6
/-- K of a layout. -/
def layK (c : Nat) : Nat := if c = 0 then 1 else 2
/-- Members of a layout. -/
def layN (c : Nat) : Nat := layD c + layK c
/-- STRIPES of a layout. -/
def layStripes (c : Nat) : Nat := (4096 + layD c - 1) / layD c
/-- Data blocks of a stripe. -/
def layBlocks (c : Nat) : Nat := 64 * layD c

/-- Stripe, data role and strip sector of a block index (R242). -/
def mapBlock (c i : Nat) : Nat × Nat × Nat := (i / layBlocks c, i / 64 % layD c, i % 64)

/-- The member of role `r` of stripe `st` (R242). -/
def memberOf (c r st : Nat) : Nat := (r + layN c * (st / layN c + 1) - st) % layN c

/-- The role of member `j` in stripe `st`. -/
def roleOf (c j st : Nat) : Nat := (j + st) % layN c

/-- The block index of a data role's sector. -/
def blockOf (c st r k : Nat) : Nat := st * layBlocks c + 64 * r + k

/-! ### Berths, segments and member sectors -/

/-- The berth of a number. -/
def berthAt (s : State) (b : Nat) : Option Berth := s.tbl.berths.find? fun x => x.id = b
/-- The segment record of a number. -/
def segAt (s : State) (i : Nat) : Option Seg := s.tbl.segs.find? fun x => x.id = i
/-- Berth `b` changed by `f`. -/
def updBerth (s : State) (b : Nat) (f : Berth → Berth) : State :=
  updTbl s fun t => { t with berths := t.berths.map fun x => if x.id = b then f x else x }
/-- Segment `i` changed by `f`. -/
def updSeg (s : State) (i : Nat) (f : Seg → Seg) : State :=
  updTbl s fun t => { t with segs := t.segs.map fun x => if x.id = i then f x else x }

/-- The segments linked from segment `i`, at most `n` (R250). -/
def chainFrom (s : State) : Nat → Nat → List Seg
  | 0, _ => []
  | n + 1, i => match segAt s i with | some g => g :: chainFrom s n g.next | none => []

/-- The segments of member `j` of a berth, oldest first. -/
def memberSegs (s : State) (b : Berth) (j : Nat) : List Seg := chainFrom s 8 (b.member.getD j 4194303)

/-- The head of a member: that of its newest segment. -/
def memberHead (s : State) (b : Berth) (j : Nat) : Option Hd := (memberSegs s b j).getLast?.map (·.head)

/-- Slots of a track of a segment. -/
def segSlots (s : State) (g : Seg) : Nat := max (slotsAt s g.head g.firstTrack) 1

/-- A member sector lies in a segment (R247). -/
def inSeg (g : Seg) (n : Nat) : Bool :=
  decide (g.firstN ≤ n) && (decide (n < g.firstN + g.countN) || g.openCtx.isSome)

/-- Where a sector lies: head, track, slot and the GEN expected. -/
structure Loc where
  head : Hd := 0
  track : Nat := 0
  slot : Nat := 0
  gen : Nat := 0
  reloc : Bool := false
  seg : Nat := 4194303
  deriving DecidableEq, Repr

/-- The place of member sector `n` in a segment (R247). -/
def segLoc (s : State) (g : Seg) (n : Nat) : Loc :=
  let st := segSlots s g
  { head := g.head, track := g.firstTrack + (n - g.firstN) / st, slot := (n - g.firstN) % st, gen := g.gen, seg := g.id }

/-- A relocation entry of a member sector (R282). -/
def relocAt (s : State) (b j n : Nat) : Option Reloc :=
  s.tbl.relocs.find? fun r => r.berth = b ∧ r.member = j ∧ r.n = n

/-- The rebuild entry, WAITING or ACTIVE, of a member (R285). -/
def rebuildAt (s : State) (b j : Nat) : Option Rbld :=
  s.tbl.rblds.find? fun e => e.berth = b ∧ e.member = j ∧ (e.st = 1 ∨ e.st = 2)

/-- The head is FAILED (R275). -/
def headDead (s : State) (h : Hd) : Bool := decide (s.tbl.heads[h] = .failed)

/-- The segments that hold member `j`'s stripe `st` for a reader; `none` where R287 or a FAILED head
calls for a degraded read (R279, R287). -/
def readSegs (s : State) (b : Berth) (j st : Nat) : Option (List Seg) :=
  let old := memberSegs s b j
  let keep := match old.getLast? with | some g => if headDead s g.head then none else some old | none => some []
  match rebuildAt s b.id j with
  | none => keep
  | some e =>
    if e.st ≠ 2 then keep
    else if e.start ≤ st ∨ (!e.copy ∧ st < e.progress) then some (chainFrom s 8 e.replSeg)
    else if e.copy then keep
    else none

/-- Where member sector `n` is read; `none` for a degraded read (R279, R282, R287). -/
def readLoc (s : State) (b : Berth) (j n : Nat) : Option Loc :=
  match readSegs s b j (n / 64) with
  | none => none
  | some gs =>
    match relocAt s b.id j n with
    | some r => some { head := r.head, track := r.track, slot := r.slot, gen := r.gen, reloc := true }
    | none => (gs.find? fun g => inSeg g n).map fun g => segLoc s g n

/-- The role of a member is lost in a listed row (R294). -/
def rowLostAt (s : State) (b st k j : Nat) : Bool :=
  s.tbl.losts.any fun l => decide (l.berth = b) && l.members.contains j &&
    (l.berthType || (decide (l.stripe = st) && decide (l.row = k)))

/-- The survivors of a row a degraded read asks for: (member, place) (R279). -/
def survivors (s : State) (b : Berth) (st k : Nat) : List (Nat × Loc) :=
  (List.range (layN b.layout)).filterMap fun j => (readLoc s b j (64 * st + k)).map fun l => (j, l)

/-! ### Pilot entries (R346) -/

/-- Operations of a pilot that count against its 960 host places. -/
def hostOps (p : Pilot) : Nat := (p.entries.filter fun e => decide (e.cls = 0)).length
/-- Background operations of a pilot. -/
def backOps (p : Pilot) : Nat := p.entries.length - hostOps p

/-- The lowest entry index not in use. -/
def freeEntry (p : Pilot) : Nat :=
  ((List.range (p.entries.length + 1)).find? fun i => !p.entries.any fun e => decide (e.id = i)).getD 1023

/-- A pilot has room for an operation of a class (R346). -/
def pilotRoom (p : Pilot) (cls : Nat) : Bool :=
  if cls = 0 then decide (hostOps p < 960) else decide (backOps p < 64)

/-- An operation joins those that wait for a pilot entry, in order. -/
def queueOp (s : State) (a : Act) (o : PilotOp) : State :=
  updCmds s fun c => { c with pilots := vupd c.pilots a fun p => { p with waiting := p.waiting ++ [o] } }

/-- From 115 °C a pilot takes and dispatches nothing new: only operations of commands already in a pilot,
and recovery re-reads (R52). -/
def hotOp (s : State) (o : PilotOp) : Bool :=
  decide (s.pmu.level < 3) || decide (o.cls = 5) ||
    (o.tag.isSome && s.cmds.pilots.toList.any fun p => p.entries.any fun e => decide (e.tag = o.tag))

/-- Background operations wait like host operations, each class for its own room (R346). -/
def firstEnter (ok : PilotOp → Bool) (p : Pilot) : Option PilotOp := p.waiting.find? fun o => ok o && pilotRoom p o.cls

/-- Time of the current 1 s window that a class has used (R347). -/
def usedOf (p : Pilot) (cls : Nat) : Nat := ((p.used.find? fun e => e.1 = cls).map (·.2)).getD 0

/-- An entry ends after `us` µs: it leaves the pilot, its class has used the time, and the entry that was
dispatched with it is the one in progress (R347). -/
def endEntry (p : Pilot) (id cls us : Nat) : Pilot :=
  { p with entries := p.entries.filter fun e => e.id ≠ id,
           busy := if p.busy = some id then p.twin else p.busy,
           twin := if p.busy = some id ∨ p.twin = some id then none else p.twin,
           strm := if p.busy = some id then p.twinStrm else p.strm,
           twinStrm := if p.busy = some id ∨ p.twin = some id then none else p.twinStrm,
           used := (cls, usedOf p cls + us) :: p.used.filter fun e => e.1 ≠ cls }

/-- The first waiting operation with room enters the pilot (R346). -/
def enterPilot (now : Nat) (ok : PilotOp → Bool) (p : Pilot) : Pilot :=
  match firstEnter ok p with
  | some o => { p with waiting := p.waiting.erase o,
                       entries := p.entries ++ [{ o with id := freeEntry p, entered := now }] }
  | none => p

end Sys2Proof.Machine
end

