-- ==== Sys2Proof/Machine/Berths.lean ====
section
/-! DEFINITION. Berths: windows, binding, segments, the stripe's way through parity, manifest and
completion, builders, dredging, patrol, checkpoints and the berth messages (chapter 9). -/

namespace Sys2Proof.Machine

/-! ### Free tracks and windows (R241, R246) -/

/-- The ranges taken on a surface. -/
def usedOn (s : State) (sf : Nat) : List (Nat × Nat) :=
  (s.tbl.usedTracks.filter fun u => u.1 = sf).map (·.2)

/-- A head of the configuration, in service and not write-retired (R241, R275). -/
def headWritable (s : State) (h : Hd) : Bool :=
  inDrive s h && decide (s.tbl.heads[h] = .inService) && !s.wheads[h].retired

/-- Tracks of a surface that are never free: the seam tracks, the rejected tracks, and the tracks within GUARD of
either, as ranges (R69, R246, R528). -/
def barredOn (s : State) (sf : Surface) : List (Nat × Nat) :=
  let g := s.brtPar.guard
  (sf.rings.filter fun r => decide (0 < r.1)).map (fun r => (r.1 - 1 - g, r.1 + g)) ++ sf.rejected.map fun t => (t - g, t + g)

/-- A run of tracks is free, in one density zone and without a seam track (R246, R528). -/
def runFree (s : State) (h : Hd) (first len : Nat) : Bool :=
  let sf := surfOf s h
  let last := first + len - 1
  decide (0 < len) && decide (first + len ≤ sf.tracks) && decide (zoneAt sf first = zoneAt sf last) &&
    !(barredOn s sf ++ usedOn s s.heads[h].surface).any fun u => decide (u.1 ≤ last) && decide (first ≤ u.2)

/-- W of R246 for a run that starts at track `t`; 0 where the zone is not formatted. -/
def windowLen (s : State) (h : Hd) (stripes t : Nat) : Nat :=
  let st := slotsAt s h t
  if st = 0 then 0 else (64 * stripes + st - 1) / st + s.brtPar.slack + s.brtPar.guard

/-- Tracks at which a free run can begin. -/
def runStarts (s : State) (h : Hd) : List Nat :=
  let sf := surfOf s h
  0 :: (sf.zoneMap ++ (barredOn s sf ++ usedOn s s.heads[h].surface).map (·.2 + 1))

/-- The smaller of two numbers, the first of which may be absent. -/
def minOpt (o : Option Nat) (n : Nat) : Option Nat := match o with | some m => some (min m n) | none => some n

/-- The outermost free run of a length that depends on where it starts (R246). -/
def findWindow (s : State) (h : Hd) (len : Nat → Nat) : Option (Nat × Nat) :=
  (((runStarts s h).filter fun t => runFree s h t (len t)).foldl minOpt none).map fun t => (t, len t)

/-- A range joined to rising ranges that do not touch each other. -/
def joinRange (a b : Nat) : List (Nat × Nat) → List (Nat × Nat)
  | [] => [(a, b)]
  | x :: l => if b < x.1 then (a, b) :: x :: l else if x.2 < a then x :: joinRange a b l else joinRange (min a x.1) (max b x.2) l

/-- Free tracks of a head's surface (R241, R528). -/
def freeTracks (s : State) (h : Hd) : Nat :=
  let sf := surfOf s h
  let taken := (barredOn s sf ++ usedOn s s.heads[h].surface).foldl (fun l u => joinRange u.1 (min u.2 (sf.tracks - 1)) l) []
  sf.tracks - taken.foldl (fun a u => a + (u.2 + 1 - u.1)) 0

/-- A head is eligible for a berth of a layout (R241). -/
def eligible (s : State) (stripes : Nat) (h : Hd) : Bool :=
  headWritable s h && (findWindow s h (windowLen s h stripes)).isSome

/-- Insert a head in the order of R241: more free tracks first, then the lower number. -/
def insertHead (s : State) (h : Hd) : List Hd → List Hd
  | [] => [h]
  | x :: xs =>
    if freeTracks s x < freeTracks s h ∨ (freeTracks s x = freeTracks s h ∧ h.val < x.val) then h :: x :: xs
    else x :: insertHead s h xs

/-- The eligible heads in the order of R241. -/
def headOrder (s : State) (stripes : Nat) : List Hd :=
  (allHeads.filter (eligible s stripes)).foldl (fun l h => insertHead s h l) []

/-- Take heads in order; under AS6P2 at most two on an actuator (R241). -/
def takeHeads (s : State) (layout : Nat) (hs : List Hd) : List Hd :=
  (hs.foldl (fun acc h =>
    if acc.length = layN layout ∨ (layout = 2 ∧ 2 ≤ (acc.filter fun x => actOf s x = actOf s h).length) then acc
    else acc ++ [h]) [])

/-- The member heads of a new berth, ascending (R241). -/
def chooseHeads (s : State) (layout : Nat) : Option (List Hd) :=
  let hs := takeHeads s layout (headOrder s (layStripes layout))
  if hs.length = layN layout then some (allHeads.filter hs.contains) else none

/-- Note a window as taken. -/
def takeTracks (s : State) (h : Hd) (first last : Nat) : State :=
  updTbl s fun t => { t with usedTracks := t.usedTracks ++ [(s.heads[h].surface, first, last)] }

/-- A range of tracks leaves the ranges taken on a surface. -/
def dropRange (sf first last : Nat) (us : List (Nat × Nat × Nat)) : List (Nat × Nat × Nat) :=
  us.flatMap fun u =>
    if u.1 = sf ∧ first ≤ u.2.2 ∧ u.2.1 ≤ last then
      (if u.2.1 < first then [(sf, u.2.1, first - 1)] else []) ++ (if last < u.2.2 then [(sf, last + 1, u.2.2)] else [])
    else [u]

/-- A range given up: free once a committed checkpoint holds the change (R259). -/
def giveTracks (s : State) (h : Hd) (first last : Nat) : State :=
  if first ≤ last then
    updTbl s fun t => { t with giving := t.giving ++ [(s.heads[h].surface, first, last, s.brt.ckptSeq + 1)] }
  else s

/-! ### Binding a berth (R241, R246, R248) -/

/-- The lowest number not used by a list of numbers. -/
def lowestFree (used : List Nat) : Nat :=
  ((List.range (used.length + 1)).find? fun i => !used.contains i).getD used.length

/-- A segment record added under the lowest free index. -/
def addSeg (s : State) (g : Seg) : Nat × State :=
  let i := lowestFree (s.tbl.segs.map (·.id))
  (i, updTbl s fun t => { t with segs := t.segs ++ [{ g with id := i }] })

/-- A segment that begins a window of a head (R246, R247). -/
def windowSeg (s : State) (h : Hd) (first len firstN : Nat) : Seg :=
  { head := h, firstN := firstN, firstTrack := first, winFirst := first, winEnd := first + len - 1,
    winHi := first + len - 1 - s.brtPar.guard, tracks := min (len - s.brtPar.guard) 2047, nextTrk := first }

/-- The window beside a lead's, where the pair's last registration puts the partner (R248). -/
def partnerWindow (s : State) (lead : Seg) (h : Hd) (stripes : Nat) : Option (Nat × Nat) :=
  match s.tbl.dEst.find? fun e => e.1 = lead.head ∧ e.2.1 = h with
  | none => none
  | some e =>
    let f : Int := lead.firstTrack + (e.2.2 + 512) / 1024 - 1
    if f < 0 then none
    else
      let len := windowLen s h stripes f.toNat
      if 0 < len ∧ runFree s h f.toNat (len + 2) then some (f.toNat, len + 2) else none

/-- The first segment of one member: paired with the waiting lead of its actuator where R248 allows. -/
def bindMember (stripes : Nat) (acc : Option (State × List Nat × List Seg)) (h : Hd) : Option (State × List Nat × List Seg) :=
  match acc with
  | none => none
  | some (s, ms, leads) =>
    let lead := leads.find? fun g => actOf s g.head = actOf s h
    let plain := (findWindow s h (windowLen s h stripes)).map fun w => (windowSeg s h w.1 w.2 0, w)
    let pick : Option (Seg × (Nat × Nat)) := match lead with
      | some g =>
        (match partnerWindow s g h stripes with
         | some w =>
           let p := windowSeg s h w.1 w.2 0
           some ({ p with tracks := g.tracks, leadSeg := some g.id }, w)
         | none => plain)
      | none => plain
    match pick with
    | none => none
    | some (g, w) =>
      let r := addSeg (takeTracks s h w.1 (w.1 + w.2 - 1)) g
      some (r.2, ms ++ [r.1],
        match lead with
        | some l => leads.filter fun x => x.id ≠ l.id
        | none => leads ++ [{ g with id := r.1 }])

/-- No berth can be bound: the event with the layout and the eligible count (R241). -/
def noEligible (s : State) (layout : Nat) : State :=
  raise s .noEligible 0 0x0B 0 layout (headOrder s (layStripes layout)).length

/-- Bind a berth of a kind and layout: its number and the state, or none (R241). -/
def bindBerth (s : State) (kind layout owner nsid : Nat) : Option (Nat × State) :=
  match chooseHeads s layout with
  | none => none
  | some hs =>
    match hs.foldl (bindMember (layStripes layout)) (some (s, [], [])) with
    | none => none
    | some (s1, ms, _) =>
      let id := lowestFree (s1.tbl.berths.map (·.id))
      let b : Berth := { id := id, member := ms, owner := owner, kind := kind, layout := layout, st := .opened,
                         bound := s.brt.nextBind, nsid := nsid }
      some (id, updBrt (updTbl s1 fun t => { t with berths := t.berths ++ [b] })
        fun e => { e with nextBind := e.nextBind + 1 })

/-! ### Segments: opening, closing, continuing (R247) -/

/-- The GEN counter of a surface (R247). -/
def segGenOf (s : State) (sf : Nat) : Nat := ((s.tbl.segGen.find? fun e => e.1 = sf).map (·.2)).getD 0

/-- The GEN counter of a surface advanced. -/
def bumpGen (s : State) (sf : Nat) : State :=
  let g := (segGenOf s sf + 1) % 2 ^ 21
  updTbl s fun t => { t with segGen := (sf, g) :: t.segGen.filter fun e => e.1 ≠ sf }

/-- The band descriptor of a segment (R203, R246 to R248). -/
def segDesc (s : State) (g : Seg) (gen : Nat) : BandDesc :=
  let lead := match g.leadSeg with | some i => segAt s i | none => none
  let base : BandDesc :=
    { winLo := g.winFirst, winHi := g.winHi, gen := gen, head := g.head, offset0 := g.offset0,
      tracks := g.tracks, firstTrack := g.firstTrack }
  match lead with
  | some l => { base with paired := true, leadHead := l.head, tracks := l.tracks,
                          leadT0 := ((l.firstTrack : Int) * 1024 + l.offset).toNat }
  | none => base

/-- Open a segment's band; a GEN that R204 rejects advances the counter (R247). -/
def openTry : Nat → State → Nat → Option State
  | 0, _, _ => none
  | n + 1, s, i =>
    match segAt s i with
    | none => none
    | some g =>
      let sf := s.heads[g.head].surface
      let s1 := bumpGen s sf
      let gen := segGenOf s1 sf
      match openBand s1 (actOf s g.head) (segDesc s1 g gen) with
      | .ok (c, s2) =>
        some (updSeg s2 i fun x => { x with openCtx := some c.val, gen := gen, opened := true, lastUse := s.us })
      | .error e => if e = 0x000A then openTry n s1 i else none

/-- A member strip of a manifest entry still to be written (R255). -/
def stripOpen (m : ManEnt) (j : Nat) : Bool := (decide (m.st = 1) || decide (m.st = 2)) && !m.done.contains j

/-- A strip of the segment's member is in progress (R247). -/
def stripBusy (s : State) (i : Nat) : Bool :=
  s.tbl.manifest.any fun m =>
    match berthAt s m.berth with
    | some b => (List.range (layN b.layout)).any fun j => stripOpen m j && (memberSegs s b j).any fun g => decide (g.id = i)
    | none => false

/-- A band context's placement and pairing enter the segment as it closes (R207, R247, R248). -/
def closeSeg (s : State) (i : Nat) : State :=
  match segAt s i with
  | none => s
  | some g =>
    match g.openCtx with
    | none => s
    | some c =>
      let a := actOf s g.head
      match bandOf s a c with
      | none => updSeg s i fun x => { x with openCtx := none }
      | some b =>
        let s1 := updSeg (freeBand s a c) i fun x =>
          { x with openCtx := none, firstTrack := b.desc.firstTrack, offset := b.desc.offset, paired := b.pairedNow,
                   pair := if b.pairedNow then x.leadSeg.getD 4194303 else 4194303, dW := b.dW,
                   temp := b.temp.toNat % 256, nextTrk := b.desc.firstTrack + tracksWritten b, leadSeg := none }
        match g.leadSeg.bind (segAt s) with
        | some l =>
          if b.placed ∧ b.desc.paired then
            updTbl (updSeg s1 l.id fun x => if b.pairedNow then { x with pair := i, paired := true } else x) fun t =>
              { t with dEst := (l.head, g.head, b.dW) :: t.dEst.filter fun e => !(decide (e.1 = l.head) && decide (e.2.1 = g.head)) }
          else s1
        | none => s1

/-- The least recently written open segment of an actuator with no strip in progress (R247). -/
def closable (s : State) (a : Act) : Option Seg :=
  (s.tbl.segs.filter fun g => g.openCtx.isSome && decide (actOf s g.head = a) && !stripBusy s g.id).foldl
    (fun o g => match o with | some x => if g.lastUse < x.lastUse then some g else some x | none => some g) none

/-- Open a segment, closing another where every context of the actuator is in use (R247). -/
def openSeg (s : State) (i : Nat) : Option State :=
  match segAt s i with
  | none => none
  | some g =>
    let a := actOf s g.head
    if (freeCtx s.wps[a]).isSome then openTry 3 s i
    else match closable s a with
      | some x => openTry 3 (closeSeg s x.id) i
      | none => none

/-- A continuation segment of a chain for member sector `n`: in the window while the next strip fits,
else in a new window on the same surface (R247). -/
def continueSeg (s : State) (g : Seg) (stripes n : Nat) : Option (Nat × State) :=
  let st := segSlots s g
  let link := fun r : Nat × State => (r.1, updSeg r.2 g.id fun x => { x with next := r.1 })
  if 64 ≤ (g.winHi + 1 - g.nextTrk) * st then
    let c : Seg := { g with next := 4194303, firstN := n, countN := 0, firstTrack := g.nextTrk, offset := 0,
                            tracks := min (g.winHi + 1 - g.nextTrk) 2047, paired := false, pair := 4194303, dW := 0,
                            temp := 0, openCtx := none, opened := false, leadSeg := none }
    some (link (addSeg s c))
  else
    match findWindow s g.head (windowLen s g.head (stripes - n / 64)) with
    | some w => some (link (addSeg (takeTracks s g.head w.1 (w.1 + w.2 - 1)) (windowSeg s g.head w.1 w.2 n)))
    | none => none

/-- The chain a member's stripe is written to: a replacement from START upward (R286), else its own. -/
def writeChain (s : State) (b : Berth) (j st : Nat) : List Seg :=
  match rebuildAt s b.id j with
  | some e => if e.st = 2 ∧ e.start ≤ st then chainFrom s 8 e.replSeg else memberSegs s b j
  | none => memberSegs s b j

/-- Stripes of a berth that have, or have had, a manifest entry reach this one (R286). -/
def nextStripe (s : State) (b : Berth) : Nat :=
  let open_ := (s.tbl.manifest.filter fun m => decide (m.berth = b.id)).map fun m => m.stripe + 1
  (open_ ++ b.doneAhead.map fun x => x + 1).foldl max b.wstripe

/-- The lowest stripe of a berth whose manifest entry is RECORDED or WRITING and satisfies `p`, else
the next stripe to be recorded (R286). -/
def startStripe (s : State) (b : Berth) (p : ManEnt → Bool) : Nat :=
  ((s.tbl.manifest.filter fun m => decide (m.berth = b.id) && decide (m.st ≠ 3) && p m).map (·.stripe)).foldl min (nextStripe s b)

/-- A fresh segment split at stripe `start`: what lies below is written beside, in ascending order,
and a continuation takes what lies above (R284, R299). -/
def splitSeg (s : State) (i start : Nat) : State :=
  match segAt s i with
  | none => s
  | some g =>
    if start = 0 then s
    else
      let st := segSlots s g
      let first := g.firstTrack + (64 * start + st - 1) / st + s.brtPar.guard
      let c : Seg := { g with firstN := 64 * start, firstTrack := first, nextTrk := first, paired := false, leadSeg := none,
                              tracks := min (g.winHi + 1 - first) 2047 }
      let r := addSeg s c
      updSeg r.2 i fun x => { x with next := r.1, leadSeg := none }

/-- What belongs to stripes from `start` of berth `b` goes to berth `nb` (R299): cache places, waiting
stripes and manifest entries, whose strips start again. -/
def retarget (s : State) (b : Berth) (nb start : Nat) : State :=
  let mv := fun x : Nat × Nat => if x.1 = b.id ∧ start ≤ x.2 then (nb, x.2) else x
  let s1 := { s with cache := { s.cache with blocks := s.cache.blocks.map fun c =>
    { c with place := c.place.map fun x => if x.1 = b.id ∧ start * layBlocks b.layout ≤ x.2 then (nb, x.2) else x } } }
  let s2 := updBrt s1 fun e =>
    { e with destage := e.destage.map mv, ready := e.ready.map mv, parity := e.parity.map fun o => o.map mv,
             pbufs := e.pbufs.map fun x => if x.1 = b.id ∧ start ≤ x.2.1 then (nb, x.2) else x }
  let slots := (s.tbl.manifest.filter fun m => decide (m.berth = b.id) && decide (start ≤ m.stripe)).map (·.slot)
  let keep := fun o : PilotOp => !(match o.man with | some k => slots.contains k | none => false)
  let s3 := updCmds s2 fun c => { c with pilots := c.pilots.map fun p =>
    { p with entries := p.entries.filter keep, waiting := p.waiting.filter keep } }
  updTbl s3 fun t =>
    { t with manifest := t.manifest.map fun m =>
               if m.berth = b.id ∧ start ≤ m.stripe ∧ m.st ≠ 3 then { m with berth := nb, done := [], held := [] } else m,
             builders := t.builders.map fun x => if x.berth = some b.id ∧ start ≤ x.stripe then { x with berth := some nb } else x }

/-- A MOVE begins: a berth of the same layout is bound beside the old one (R298, R299). -/
def startMove (s : State) (b : Nat) (mb : Option (Mb × Nat)) : Option State :=
  match berthAt s b with
  | none => none
  | some x =>
    match bindBerth s x.kind x.layout x.owner x.nsid with
    | none => none
    | some (nb, s1) =>
      let st := startStripe s x fun _ => true
      let s2 := match berthAt s1 nb with
        | some y => forEach y.member s1 fun s i => splitSeg s i st
        | none => s1
      some (updTbl (retarget s2 x nb st) fun t =>
        { t with reshapes := t.reshapes ++
          [{ move := true, target := b, layout := x.layout, newBerth := some nb, oldBerth := some b, start := st, mb := mb }] })

/-- A berth whose member would need a ninth segment moves to a new berth (R247, R298). -/
def needMove (s : State) (b : Nat) : State :=
  if s.tbl.reshapes.any fun r => decide (r.oldBerth = some b) then s
  else match startMove s b none with
    | some s1 => s1
    | none => s

/-- The open segment that takes member sector `n` of a member, opened or continued as needed. -/
def ensureOpen (s : State) (b : Berth) (j n : Nat) : Option Seg × State :=
  let ch := writeChain s b j (n / 64)
  match ch.getLast? with
  | none => (none, s)
  | some g =>
    if !headWritable s g.head then (none, s)
    else if g.openCtx.isSome then (some g, s)
    else if !g.opened then
      match openSeg s g.id with
      | some s1 => (segAt s1 g.id, s1)
      | none => (none, s)
    else if 8 ≤ ch.length then (none, needMove s b.id)
    else match continueSeg s g (layStripes b.layout) n with
      | none => (none, s)
      | some (i, s1) =>
        match openSeg s1 i with
        | some s2 => (segAt s2 i, s2)
        | none => (none, s1)

/-! ### Manifest and strips (R255 to R257) -/

/-- The manifest entry in ring place `k`. -/
def manAt (s : State) (k : Nat) : Option ManEnt := s.tbl.manifest.find? fun m => m.slot = k
/-- The manifest entry in ring place `k` changed by `f`. -/
def updMan (s : State) (k : Nat) (f : ManEnt → ManEnt) : State :=
  updTbl s fun t => { t with manifest := t.manifest.map fun m => if m.slot = k then f m else m }
/-- A set of members as bits. -/
def memberBits (l : List Nat) : Nat := l.foldl (fun a j => a ||| 1 <<< j) 0

/-- The 28 bytes of a manifest entry before its CHECK (R256). -/
def manBody (m : ManEnt) : List Byte :=
  leBytes 28 (packF [(192, 32, m.seq), (160, 32, m.buf), (142, 18, memberBits m.done), (131, 11, m.blocks), (128, 3, m.kind),
    (110, 18, memberBits m.held), (100, 10, m.stripe), (83, 17, m.berth), (80, 2, m.st)])

/-- A manifest entry as it stands in the deep-code region, CHECK in bits 255:224 (R256). -/
def manBytes (m : ManEnt) : List Byte := manBody m ++ leBytes 4 (crc32c (manBody m)).toNat

/-- FREE manifest entries. -/
def freeMan (s : State) : Nat := 4096 - s.tbl.manifest.length

/-- The cache blocks of a stripe (R251). -/
def stripeBlocks (s : State) (b : Berth) (st : Nat) : List CBlock :=
  s.cache.blocks.filter fun c => match c.place with
    | some (x, i) => decide (x = b.id) && decide (i / layBlocks b.layout = st)
    | none => false

/-- The 64-bit word of a chart entry on the media: a CACHED entry is stored as the value its write
replaced (R262, R264). -/
def chartWord (s : State) (nsid lba : Nat) : Nat :=
  match s.tbl.chart.find? fun e => e.nsid = nsid ∧ e.lba = lba with
  | none => 0
  | some e =>
    if e.cached then
      (match (s.cache.blocks.find? fun b => b.id = e.loc).bind (·.prev) with
       | some (b, i) => 2 ^ 63 + b * 2 ^ 18 + i
       | none => 0)
    else 2 ^ 63 + e.loc

/-- The 4,116 berth-protected bytes of a cache block (R154, R155). -/
def blockProt (s : State) (c : CBlock) : List Byte :=
  if c.chartPage then
    protectedBytes false 0 0 ((List.range 512).flatMap fun k => leBytes 8 (chartWord s c.nsid (c.lba * 512 + k)))
      (pi00 c.lba c.nsid)
  else protectedBytes c.unreadable c.pifmt c.keyslot c.data c.pi

/-- The berth-protected bytes of a stripe's data sector, filler where it has none (R239, R244). -/
def sectorProt (s : State) (b : Berth) (st r k : Nat) : List Byte :=
  match s.cache.blocks.find? fun c => c.place = some (b.id, blockOf b.layout st r k) with
  | some c => blockProt s c
  | none => fillerBytes

/-- P, and under K = 2 Q, of every row of a stripe (R243). -/
def stripeParity (s : State) (b : Berth) (st : Nat) : List (List Byte) :=
  let rows := (List.range 64).map fun k => (List.range (layD b.layout)).map fun r => sectorProt s b st r k
  rows.map parityP ++ (if layK b.layout = 2 then rows.map parityQ else [])

/-- KIND of a stripe's manifest entry (R256). -/
def entryKind (b : Berth) (bs : List CBlock) : Nat :=
  if b.kind = 2 then 4 else if bs.any (·.copy) then (if b.kind = 1 then 2 else 3) else b.kind

/-- A stripe waits for parity or a manifest entry below this one (R255: ascending s). -/
def lowerWaits (s : State) (b st : Nat) : Bool :=
  let lower := fun x : Nat × Nat => decide (x.1 = b) && decide (x.2 < st)
  s.brt.destage.any lower || s.brt.ready.any lower ||
    s.brt.parity.toList.any fun x => match x with | some y => lower y | none => false

/-- Write the manifest entry of the first stripe that may have one, if an entry is FREE (R255, R256). -/
def recordEntry (s : State) : State :=
  match s.brt.ready.find? fun x => !lowerWaits s x.1 x.2 with
  | none => s
  | some x =>
    let k := s.brt.manSeq % 4096
    match berthAt s x.1 with
    | none => updBrt s fun e => { e with ready := e.ready.erase x }
    | some b =>
      if (manAt s k).isSome then s
      else
        let bs := stripeBlocks s b x.2
        let m : ManEnt := { slot := k, seq := s.brt.manSeq, buf := lowestFree (s.tbl.manifest.map (·.buf)),
                            blocks := bs.length, kind := entryKind b bs, stripe := x.2, berth := x.1, st := 1 }
        updBrt (updTbl s fun t => { t with manifest := t.manifest ++ [m] }) fun e =>
          { e with ready := e.ready.erase x, manSeq := (e.manSeq + 1) % 2 ^ 32 }

/-- Send one member's strip to its pilot, or hold it (R255, R257). -/
def startStrip (k : Nat) (s : State) (j : Nat) : State :=
  match manAt s k with
  | none => s
  | some m =>
    match berthAt s m.berth with
    | none => s
    | some b =>
      match ensureOpen s b j (64 * m.stripe) with
      | (some g, s1) =>
        let l := segLoc s1 g (64 * m.stripe)
        let s2 := updMan (updSeg s1 g.id fun x => { x with lastUse := s.us }) k fun x =>
          { x with held := x.held.filter (· ≠ j) }
        queueOp s2 (actOf s g.head)
          { cls := 0, head := g.head, track := l.track, slot := l.slot, count := 64, gen := g.gen, berth := b.id,
            member := j, n := 64 * m.stripe, write := true, man := some k }
      | (none, s1) => updMan s1 k fun x => { x with held := if x.held.contains j then x.held else x.held ++ [j] }

/-- The strip write of a manifest entry's member in its pilot. -/
def stripOp (s : State) (k j : Nat) : Option (Act × PilotOp) :=
  allActs.findSome? fun a =>
    ((s.cmds.pilots[a].entries ++ s.cmds.pilots[a].waiting).find? fun o => decide (o.man = some k) && decide (o.member = j)).map fun o => (a, o)

/-- The strips of an entry that are neither done, held nor in a pilot are sent. -/
def startEntry (s : State) (m : ManEnt) : State :=
  match berthAt s m.berth with
  | none => s
  | some b =>
    forEach ((List.range (layN b.layout)).filter fun j =>
      !m.done.contains j && !m.held.contains j && (stripOp s m.slot j).isNone) s (startStrip m.slot)

/-- The strips of the entries that a MOVE took to its new berth start there (R299). -/
def restartMoved (s : State) : State :=
  forEach (s.tbl.manifest.filter fun m => decide (m.st = 2) &&
    s.tbl.reshapes.any fun r => decide (r.newBerth = some m.berth)) s startEntry

/-- A cache block changed by `f`. -/
def updBlock (s : State) (id : Nat) (f : CBlock → CBlock) : State :=
  { s with cache := { s.cache with blocks := s.cache.blocks.map fun c => if c.id = id then f c else c } }

/-- A consumer uses a poisoned line: POISON_USED and an event with the address, the state and the
consumer's row in the table of R370. -/
def consumed (s : State) (addr : Nat) (p : Poison) (row : Nat) : State :=
  let st : Nat := match p with | .clean => 0 | .detected => 1 | .propagated => 2 | .replayed => 3
  raise (updDram s fun d => { d with poisonUsed := true }) .poisonUsed 2 0x0D 0 addr (addr / 2 ^ 32) (st + 4 * row)

/-- The substitute of a poisoned write-cache block of host data (R371). -/
def substituteOf (c : CBlock) : CBlock :=
  { c with data := List.replicate 4096 0, pi := pi00 c.lba c.nsid, unreadable := true, pifmt := 0,
           keyslot := c.nsid - 1, poison := false }

/-- A destage meets a poisoned block of host data and goes on with its substitute (R371). -/
def substBlock (s : State) (c : CBlock) : State :=
  raise (updBlock s c.id substituteOf) .substitute 0 0x0D 0 c.nsid c.lba (c.lba / 2 ^ 32)

/-- The poisoned blocks of a stripe give way to their substitutes as its parity is computed (R370, R371).
The line's address is not known to the model at this point: a free value. -/
def substStripe (s : State) (b : Berth) (st : Nat) : State :=
  forEach ((stripeBlocks s b st).filter fun c => c.poison && !c.chartPage && !c.copy) s fun s c =>
    let t := takeFree s
    substBlock (consumed t.2 (t.1 % 2 ^ 35 * 64) .replayed 2) c

/-- STRIPE_DESTAGE_START: a complete stripe takes a parity engine and its buffers (R245, R255). DESIGN CHOICE:
the arbiter's pointer rotates over the four engines and the command names the stripe served, where R25 does
not say which of the two rotates (log entry 202). -/
def execStripeDestageStart (berth stripe : Nat) (s : State) : Host.Outcome State Fault Refusal :=
  .next (match berthAt s berth, roundRobin 4 s.brt.parityPtr fun k =>
      if h : k < 4 then s.brt.parity[(⟨k, h⟩ : Fin 4)].isNone else false with
    | some b, some k =>
      if live s && !s.bw.started && s.brt.destage.contains (berth, stripe) &&
          (!s.brt.destage.any fun x => decide (x.1 = berth) && decide (x.2 < stripe)) &&
          decide (s.brt.parityBufs + layK b.layout ≤ 1024) then
        if h : k < 4 then
          updBrt (substStripe s b stripe) fun e =>
            { e with destage := e.destage.erase (berth, stripe), parityBufs := e.parityBufs + layK b.layout,
                     parityPtr := (k + 1) % 4, parity := vupd e.parity ⟨k, h⟩ fun _ => some (berth, stripe) }
        else s
      else s
    | _, _ => s)

/-- PARITY_ENGINE_DONE: P and Q stand in their buffers; the stripe asks for a manifest entry (R243, R255). -/
def execParityEngineDone (e : Fin 4) (s : State) : Host.Outcome State Fault Refusal :=
  .next (match s.brt.parity[e] with
    | none => s
    | some x =>
      if powered s then
        let s1 := updBrt s fun t => { t with parity := vupd t.parity e fun _ => none, ready := t.ready ++ [x] }
        match berthAt s x.1 with
        | some b => recordEntry (updBrt s1 fun t => { t with pbufs := t.pbufs ++ [(x.1, x.2, stripeParity s b x.2)] })
        | none => s1
      else s)

/-- MANIFEST_ENTRY_RECORDED: the entry is acknowledged in DRAM; the member writes go to the pilots (R255). -/
def execManifestEntryRecorded (slot : Nat) (s : State) : Host.Outcome State Fault Refusal :=
  .next (match manAt s slot with
    | some m =>
      if live s && !s.bw.started && decide (m.st = 1) then
        match berthAt s m.berth with
        | some b =>
          restartMoved (forEach ((List.range (layN b.layout)).filter fun j => !m.done.contains j)
            (updMan s slot fun x => { x with st := 2 }) (startStrip slot))
        | none => s
      else s
    | none => s)

/-! ### Builders (R260, R261, R264) -/

/-- The builder of a kind and layout: 0 log, 1 dredge, 2 metadata (R260). -/
def builderOf (s : State) (kind layout : Nat) : Builder :=
  (s.tbl.builders.find? fun b => b.kind = kind ∧ b.layout = layout).getD { kind := kind, layout := layout }

/-- A builder stored. -/
def putBuilder (s : State) (b : Builder) : State :=
  updTbl s fun t => { t with builders := b :: t.builders.filter fun x => !(decide (x.kind = b.kind) && decide (x.layout = b.layout)) }

/-- A builder's stripe goes to destaging and the builder moves to the next (R255, R260). -/
def closeStripe (s : State) (b : Builder) : State :=
  match b.berth with
  | none => s
  | some i =>
    let s1 := updBrt s fun e => { e with destage := e.destage ++ [(i, b.stripe)] }
    if b.stripe + 1 = layStripes b.layout then
      putBuilder (updBerth s1 i fun x => { x with finish := some (layStripes b.layout) }) { b with berth := none, stripe := 0, blocks := [] }
    else putBuilder s1 { b with stripe := b.stripe + 1, blocks := [] }

/-- A builder with a berth bound (R241); none when no berth can be bound. -/
def readyBuilder (s : State) (kind layout : Nat) : Option (Builder × State) :=
  let b := builderOf s kind layout
  match b.berth with
  | some _ => some (b, s)
  | none =>
    match bindBerth s (if kind = 2 then 2 else 1) layout 0 0 with
    | some (i, s1) => some ({ b with berth := some i, stripe := 0, blocks := [] }, s1)
    | none => none

/-- Give a cache block the next place of a builder (R260). -/
def placeBlock (s : State) (kind layout id : Nat) : State :=
  match readyBuilder s kind layout with
  | none => noEligible s layout
  | some (b, s1) =>
    let i := b.stripe * layBlocks layout + b.blocks.length
    let b1 := { b with blocks := b.blocks ++ [id], since := if b.blocks = [] then s.us else b.since }
    let s2 := { s1 with cache := { s1.cache with blocks := s1.cache.blocks.map fun c =>
      if c.id = id then { c with place := b1.berth.map fun x => (x, i) } else c } }
    if b1.blocks.length = layBlocks layout then closeStripe s2 b1 else putBuilder s2 b1

/-- A stripe of a berth has a manifest entry or is on its way to one (R254). -/
def inManifest (s : State) (b st : Nat) : Bool :=
  (s.tbl.manifest.any fun m => decide (m.berth = b) && decide (m.stripe = st) && decide (m.st ≠ 3)) ||
    s.brt.ready.contains (b, st) || s.brt.parity.toList.contains (some (b, st))

/-- The stripe of a cache block has a manifest entry (R254). -/
def blockRecorded (s : State) (c : CBlock) : Bool :=
  match c.place with
  | some (b, i) => match berthAt s b with | some x => inManifest s b (i / layBlocks x.layout) | none => false
  | none => false

/-- A changed chart page is a dirty block of the metadata builder (R251, R264). -/
def touchPage (s : State) (nsid page : Nat) : State :=
  let cur := s.cache.blocks.find? fun c => c.chartPage && decide (c.nsid = nsid) && decide (c.lba = page) && !c.old && !c.dead
  match cur with
  | some c =>
    if blockRecorded s c then
      let id := s.brt.nextBlock
      let s1 := { s with cache := { s.cache with blocks := (s.cache.blocks.map fun x =>
        if x.id = c.id then { x with old := true } else x) ++ [{ id := id, nsid := nsid, lba := page, chartPage := true }] } }
      placeBlock (updBrt s1 fun e => { e with nextBlock := e.nextBlock + 1 }) 2 1 id
    else s
  | none =>
    let id := s.brt.nextBlock
    let s1 := { s with cache := { s.cache with blocks := s.cache.blocks ++
      [{ id := id, nsid := nsid, lba := page, chartPage := true }] } }
    placeBlock (updBrt s1 fun e => { e with nextBlock := e.nextBlock + 1 }) 2 1 id

/-- The chart entry of a block. -/
def chartAt (s : State) (nsid lba : Nat) : Option Chart := s.tbl.chart.find? fun e => e.nsid = nsid ∧ e.lba = lba

/-- Set a chart entry, or clear MAPPED with none; its page changes (R262, R264). -/
def setChart (s : State) (nsid lba : Nat) (e : Option (Bool × Nat)) : State :=
  let rest := s.tbl.chart.filter fun x => !(decide (x.nsid = nsid) && decide (x.lba = lba))
  touchPage (updTbl s fun t =>
    { t with chart := match e with
        | some (c, l) => rest ++ [{ nsid := nsid, lba := lba, cached := c, loc := l }]
        | none => rest }) nsid (lba / 512)

/-- LIVE of a berth moved by one (R249, R262). -/
def liveUp (s : State) (b : Nat) : State := updBerth s b fun x => { x with live := x.live + 1 }
/-- LIVE of a berth lowered by one. -/
def liveDown (s : State) (b : Nat) : State := updBerth s b fun x => { x with live := x.live - 1 }

/-- LOG_STRIPE_AGED: a builder stripe with a block, not full LOG_AGE after it took the first, is destaged with
filler (R261). -/
def execLogStripeAged (kind layout : Nat) (s : State) : Host.Outcome State Fault Refusal :=
  .next (let b := builderOf s kind layout
    if live s && !s.bw.started && decide (b.blocks ≠ []) && decide (b.since + 1000 * s.brtPar.logAge ≤ s.us) then closeStripe s b
    else s)

/-! ### Completion (R256 to R259, R263) -/

/-- WSTRIPE after one more complete stripe (R257). -/
def advanceW : Nat → Nat → List Nat → Nat × List Nat
  | 0, w, l => (w, l)
  | n + 1, w, l => if l.contains w then advanceW n (w + 1) (l.filter (· ≠ w)) else (w, l)

/-- A berth after stripe `st` completes. -/
def berthDone (st : Nat) (b : Berth) : Berth :=
  let l := if b.doneAhead.contains st ∨ st < b.wstripe then b.doneAhead else st :: b.doneAhead
  let w := advanceW (l.length + 1) b.wstripe l
  { b with wstripe := w.1, doneAhead := w.2 }

/-- A segment closes after its member's last strip; the window's unwritten tail is given up (R247, R258). -/
def trimMember (s : State) (b : Berth) (j : Nat) : State :=
  match (memberSegs s b j).getLast? with
  | none => s
  | some g =>
    let s1 := closeSeg s g.id
    match segAt s1 g.id with
    | some x =>
      let s2 := updSeg s1 g.id fun y => { y with winEnd := min y.winEnd (x.nextTrk + s.brtPar.guard - 1) }
      giveTracks s2 g.head (x.nextTrk + s.brtPar.guard) x.winEnd
    | none => s1

/-- Seal a berth whose stripes are all complete (R249, R258). -/
def sealBerth (s : State) (b : Nat) : State :=
  match berthAt s b with
  | some x =>
    let fin := x.finish.getD (layStripes x.layout)
    if x.st = .opened ∧ fin ≤ x.wstripe then
      forEach (List.range (layN x.layout)) (updBerth s b fun y => { y with st := .sealed }) fun s j =>
        match berthAt s b with | some y => trimMember s y j | none => s
    else s
  | none => s

/-- One block of a complete stripe enters the chart where the entry still holds what it expects
(R257, R263). -/
def installBlock (s : State) (c : CBlock) : State :=
  match c.place with
  | none => s
  | some (b, i) =>
    if c.chartPage then
      let old := s.tbl.chartDir.find? fun d => d.1 = c.nsid ∧ d.2.1 = c.lba
      let s1 := match old with | some d => liveDown s d.2.2.1 | none => s
      updTbl (liveUp s1 b) fun t =>
        { t with chartDir := (c.nsid, c.lba, b, i) :: t.chartDir.filter fun d => !(decide (d.1 = c.nsid) && decide (d.2.1 = c.lba)),
                 chartMedia := (t.chartMedia.filter fun e => !(decide (e.nsid = c.nsid) && decide (e.lba / 512 = c.lba))) ++
                   (t.chart.filter fun e => decide (e.nsid = c.nsid) && decide (e.lba / 512 = c.lba)).filterMap fun e =>
                     if e.cached then
                       ((s.cache.blocks.find? fun x => x.id = e.loc).bind (·.prev)).map fun p =>
                         { e with cached := false, loc := p.1 * 2 ^ 18 + p.2 }
                     else some e }
    else
      match chartAt s c.nsid c.lba with
      | none => s
      | some e =>
        if c.copy then
          (match c.prev with
           | some (vb, vi) =>
             if !e.cached && decide (e.loc = vb * 2 ^ 18 + vi) then
               setChart (liveUp (liveDown s vb) b) c.nsid c.lba (some (false, b * 2 ^ 18 + i))
             else s
           | none => s)
        else if e.cached && decide (e.loc = c.id) then
          setChart (liveUp s b) c.nsid c.lba (some (false, b * 2 ^ 18 + i))
        else s

/-- The blocks of a complete stripe return to the pond, those with a reader once it has copied them (R257). -/
def returnBlocks (s : State) (ids : List Nat) : State :=
  let keep := fun c : CBlock =>
    if ids.contains c.id then (if c.refs = 0 then none else some { c with dead := true, place := none }) else some c
  { s with cache := { s.cache with blocks := s.cache.blocks.filterMap keep } }

/-- The destage's charges: estimates subtracted, time and energy split over the owners (R320, R332). -/
def chargeStripe (s : State) (m : ManEnt) (bs : List CBlock) : State :=
  let host := bs.filter fun c => !c.chartPage && !c.copy
  if host = [] then
    tallyBgEnergy (tallyBg s fun r => { r with actWrite := r.actWrite + m.actUs }) m.energy
  else
    let sh := blockShares host
    let s1 := forEach host s fun s c => chargeM s c.func (-(c.est : Int))
    let s2 := forEach (splitShares m.actUs sh) s1 fun s p =>
      tallyF (chargeUs s p.1 p.2) p.1 fun r => { r with actWrite := r.actWrite + p.2 }
    forEach (splitShares m.energy sh) s2 fun s p => tallyEnergy s p.1 p.2

/-- A stripe completes in one step (R256, R257). -/
def completeStripe (s : State) (m : ManEnt) (b : Berth) : State :=
  let bs := stripeBlocks s b m.stripe
  let s1 := updBerth (updMan s m.slot fun x => { x with st := 3, held := [] }) b.id (berthDone m.stripe)
  let s2 := if b.kind = 0 then s1 else forEach bs s1 installBlock
  let s3 := updBrt (returnBlocks (chargeStripe s2 m bs) (bs.map (·.id))) fun e =>
    { e with parityBufs := e.parityBufs - layK b.layout,
             pbufs := e.pbufs.filter fun p => !(decide (p.1 = b.id) && decide (p.2.1 = m.stripe)) }
  sealBerth s3 b.id

/-- All 64 places of a strip write are COMPLETE. -/
def stripDone (o : PilotOp) : Bool := (List.range 64).all fun k => o.res.any fun r => decide (r.1 = k) && decide (r.2.1 = 0)

/-- The DONE bit of a member (R255); the last one completes the stripe. -/
def setDone (s : State) (m : ManEnt) (b : Berth) (j energy us : Nat) : State :=
  let s1 := updMan s m.slot fun x =>
    { x with done := if x.done.contains j then x.done else x.done ++ [j], held := x.held.filter (· ≠ j),
             energy := x.energy + energy, actUs := x.actUs + us }
  match manAt s1 m.slot with
  | some m1 => if (List.range (layN b.layout)).all m1.done.contains then completeStripe s1 m1 b else s1
  | none => s1

/-- The strip now belongs to its segment: COUNT_N reaches its end (R247). -/
def countStrip (s : State) (g : Seg) (st : Nat) : State :=
  updSeg s g.id fun x => { x with countN := max x.countN (64 * (st + 1) - x.firstN), lastUse := s.us }

/-- Strips that waited for a context of an actuator are tried again: a segment with no strip in progress may
now close for them (R247). -/
def retryHeld (s : State) (a : Act) : State :=
  forEach (s.tbl.manifest.filter fun m => decide (m.st = 2)) s fun s m =>
    match berthAt s m.berth with
    | some b => forEach (m.held.filter fun j =>
        ((writeChain s b j m.stripe).getLast?.map fun g => actOf s g.head) = some a) s (startStrip m.slot)
    | none => s

/-- MEMBER_STRIP_COMPLETE: all 64 slots of a member strip are COMPLETE (R255, R257). Its pilot entry
ends; `actUs` is the time from its dispatch to the end of its last run (R320). -/
def execMemberStripComplete (slot member energyNj actUs : Nat) (s : State) : Host.Outcome State Fault Refusal :=
  .next (match manAt s slot, stripOp s slot member with
    | some m, some (a, o) =>
      if powered s && decide (m.st = 2) && stripDone o && !m.done.contains member then
        match berthAt s m.berth with
        | some b =>
          let s1 := updCmds s fun c => { c with pilots := vupd c.pilots a fun p => endEntry p o.id 0 actUs }
          let s2 := match (writeChain s1 b member m.stripe).getLast? with
            | some g => countStrip s1 g m.stripe
            | none => s1
          retryHeld (setDone s2 m b member (o.energy + energyNj) actUs) a
        | none => s
      else s
    | _, _ => s)

/-! ### Failed slots (R192, R247, R257) -/

/-- The segment that a band context serves. -/
def segOfCtx (s : State) (a : Act) (c : Nat) : Option Seg :=
  s.tbl.segs.find? fun g => decide (g.openCtx = some c) && decide (actOf s g.head = a)

/-- The strip of a segment that is being written: manifest entry and member. -/
def stripOfSeg (s : State) (i : Nat) : Option (ManEnt × Nat) :=
  s.tbl.manifest.findSome? fun m =>
    match berthAt s m.berth with
    | some b =>
      ((List.range (layN b.layout)).find? fun j =>
        stripOpen m j && decide (((writeChain s b j m.stripe).getLast?.map (·.id)) = some i)).map fun j => (m, j)
    | none => none

/-- A slot fails for good: the segment closes at the start of the strip in progress, HELD is set and
the strip is written again in the continuation (R247, R257). -/
def failSlot (s : State) (a : Act) (g : Seg) : State :=
  let strip := stripOfSeg s g.id
  let s1 := updBrt (closeSeg s g.id) fun e => { e with segFail := true }
  match strip with
  | none => s1
  | some (m, j) =>
    let s2 := updCmds s1 fun c => { c with pilots := vupd c.pilots a fun p =>
      { p with entries := p.entries.filter fun o => !(decide (o.man = some m.slot) && decide (o.member = j)),
               waiting := p.waiting.filter fun o => !(decide (o.man = some m.slot) && decide (o.member = j)) } }
    restartMoved (startStrip m.slot (updMan s2 m.slot fun x => { x with held := if x.held.contains j then x.held else x.held ++ [j] }) j)

/-- Rewrites made of a slot of the open track. -/
def triesOf (b : Band) (slot : Nat) : Nat := ((b.tries.find? fun t => t.1 = slot).map (·.2)).getD 0

/-- STATUS of the newest result of a slot of a band's open track (R191). -/
def slotStatus (s : State) (a : Act) (b : Band) (slot : Nat) : Option Nat :=
  (s.wps[a].results.find? fun r =>
    decide (r.psa = psaOf slot s.heads[b.desc.head].surface (bandTrack b.desc b.openTrack))).map (·.status)

/-- A copy's write failed for good: CKPT_FAIL, its window closes and its next checkpoint is full in the
other (R271). -/
def ckptCopyFail (s : State) (c : Fin 2) : State :=
  updBrt s fun e => { e with ckptFail := true, ckptFull := if e.ckptFull.contains c.val then e.ckptFull else e.ckptFull ++ [c.val] }

/-- A spare band takes no more sectors (R192, R281). -/
def closeSpare (s : State) (a : Act) (ctx : Nat) (b : Band) : State :=
  updTbl (freeBand s a ctx) fun t => { t with spares := t.spares.map fun p =>
    if p.head = b.desc.head ∧ p.gen = b.desc.gen then { p with used := p.tracks * max (slotsAt s p.head p.first) 1 } else p }

/-- A failed write reaches whoever owns the band: a member's segment, a checkpoint copy, a spare band (R192). -/
def failedWrite (s : State) (a : Act) (ctx : Nat) (b : Band) : State :=
  match segOfCtx s a ctx with
  | some g => failSlot s a g
  | none =>
    if s.tbl.spares.any fun p => decide (p.head = b.desc.head) && decide (p.gen = b.desc.gen) then closeSpare s a ctx b
    else if b.desc.head = s.brtPar.ckptHeadA then ckptCopyFail (freeBand s a ctx) 0
    else if b.desc.head = s.brtPar.ckptHeadB then ckptCopyFail (freeBand s a ctx) 1
    else freeBand s a ctx

/-- SECTOR_REWRITE: a sector whose newest result is TORN or NOT_STARTED is placed again while its track is
open, at most WR_RETRY times; then it is a failed write. A REFUSED sector counts nothing (R192). -/
def sectorRewrite (a : Act) (ctx slot : Nat) (s : State) : State :=
  match bandOf s a ctx with
  | some b =>
    let st := slotStatus s a b slot
    if live s && !s.bw.started && !b.complete.contains slot && (decide (st = some 1) || decide (st = some 2)) then
      if !b.closed && decide (triesOf b slot < s.wps[a].par.lim.wrRetry) then
        updBand s a ctx fun x => { x with tries := (slot, triesOf b slot + 1) :: x.tries.filter fun t => t.1 ≠ slot }
      else failedWrite s a ctx b
    else s
  | none => s

def execSectorRewrite (a : Act) (ctx slot : Nat) (s : State) : Host.Outcome State Fault Refusal :=
  .next (sectorRewrite a ctx slot s)

/-- The berth-protected bytes the DMA reads for a place of a strip write: the data block of its role, or P or
Q from its buffer (R243, R244, R255). -/
def stripBlock (s : State) (b : Berth) (member n : Nat) : List Byte :=
  let st := n / 64
  let r := roleOf b.layout member st
  if r < layD b.layout then sectorProt s b st r (n % 64)
  else (((s.brt.pbufs.find? fun p => p.1 = b.id ∧ p.2.1 = st).map (·.2.2)).getD []).getD
    ((r - layD b.layout) * 64 + n % 64) []

/-- LBA and namespace of a block of a zone berth; 0 and 0 for any other berth (R292). -/
def lostOwner (s : State) (b : Berth) (i : Nat) : Nat × Nat :=
  if b.kind = 0 then
    (match s.tbl.zones.find? fun z => z.berth = some b.id with
     | some z => (z.no * 262144 + i, z.nsid)
     | none => (0, 0))
  else (0, 0)

/-- The sector written for an erased data role of a lost row: UNREADABLE, a zero payload, PIFMT 0b00 (R178, R292). -/
def lostSector (s : State) (b : Berth) (member n : Nat) : List Byte :=
  let o := lostOwner s b (blockOf b.layout (n / 64) (roleOf b.layout member (n / 64)) (n % 64))
  protectedBytes true 0 (o.2 - 1) (List.replicate 4096 0) (pi00 o.1 o.2)

/-- A member sector stands written UNREADABLE for a lost row (R292). -/
def isUnread (s : State) (b member n : Nat) : Bool := s.tbl.unread.contains (b, member, n)

/-- A stripe's data is still in the write cache behind its manifest entry (R286). -/
def stripeCached (s : State) (b stripe : Nat) : Bool :=
  s.tbl.manifest.any fun m => decide (m.berth = b) && decide (m.stripe = stripe) && decide (m.st ≠ 3)

/-- The bytes of one place of a write operation: from the stripe where the cache holds it, an UNREADABLE sector for
an erased role of a lost row, else what the order carries (R185, R255, R286, R292). -/
def placeBytes (s : State) (b : Berth) (e : PilotOp) (n : Nat) (given : List Byte) : List Byte :=
  if e.man.isSome || stripeCached s b.id (n / 64) then stripBlock s b e.member n
  else if isUnread s b.id e.member n then lostSector s b e.member n
  else given

/-- The blocks of an order. -/
def orderBlocks (s : State) (a : Act) (o : WriteOrd) : List (List Byte) :=
  match s.cmds.pilots[a].entries.find? fun e => decide (e.id = o.op) && e.write with
  | some e =>
    (match berthAt s e.berth with
     | some b => (List.range o.count).map fun k => placeBytes s b e (e.n + o.idx + k) (o.blocks.getD k [])
     | none => o.blocks)
  | none => o.blocks

/-- WRITE_ORDER_DISPATCH (R185, R201). -/
def execWriteOrderDispatch (a : Act) (ord : WriteOrd) (s : State) : Host.Outcome State Fault Refusal :=
  .next (writeOrderDispatch a { ord with blocks := orderBlocks s a ord } s)

/-! ### The log pool and dredging (R261, R265, R266) -/

/-- Berths a conventional namespace reserves (R261). -/
def poolOf (n : Ns) : Nat := if n.zoned then 0 else (n.size * (100 + n.convOp) + 26214400 - 1) / 26214400
/-- The log pool. -/
def logPool (s : State) : Nat := s.nv.namespaces.foldl (fun a n => a + poolOf n) 0
/-- Log berths bound. -/
def logUsed (s : State) : Nat := (s.tbl.berths.filter fun b => b.kind = 1).length
/-- FREE berths of the pool. -/
def logFree (s : State) : Nat := logPool s - logUsed s
/-- F < `pct` per cent (R265). -/
def fBelow (s : State) (pct : Nat) : Bool := decide (logFree s * 100 < pct * logPool s)
/-- Conventional writes are held: F below DREDGE_CRIT, until it exceeds it by one berth (R265). -/
def convHeld (s : State) : Bool :=
  fBelow s s.brtPar.dredgeCrit || (s.brt.dredgeCrit && decide ((logFree s - 1) * 100 < s.brtPar.dredgeCrit * logPool s))

/-- A berth is lost: its FAILED members exceed K (R295). -/
def berthLostAt (s : State) (b : Nat) : Bool := s.tbl.losts.any fun l => l.berthType && decide (l.berth = b)

/-- A namespace is being reshaped away from a layout (R300). -/
def oldLayout (s : State) (b : Berth) : Bool :=
  s.tbl.reshapes.any fun r => !r.move && r.oldBerth.isNone && decide (r.layout ≠ b.layout) &&
    s.tbl.chart.any fun e => decide (e.nsid = r.target) && !e.cached && decide (e.loc / 2 ^ 18 = b.id)

/-- Rank of a dredging victim: lost berths, then old-layout berths, then the least LIVE, then the
older binding (R266, R295, R300). -/
def victimRank (s : State) (b : Berth) : Nat × Nat × Nat :=
  (if berthLostAt s b.id then 0 else if oldLayout s b then 1 else 2, b.live, b.bound)

/-- Lexicographic order of ranks. -/
def rankLt (a b : Nat × Nat × Nat) : Bool :=
  decide (a.1 < b.1) || (decide (a.1 = b.1) && (decide (a.2.1 < b.2.1) || (decide (a.2.1 = b.2.1) && decide (a.2.2 < b.2.2))))

/-- The dredging victim (R266). -/
def chooseVictim (s : State) : Option Berth :=
  (s.tbl.berths.filter fun b => decide (b.kind = 1) && (decide (b.st = .sealed) || berthLostAt s b.id)).foldl
    (fun o b => match o with
      | some x => if rankLt (victimRank s b) (victimRank s x) then some b else some x
      | none => some b) none

/-- The read of one block of the victim enters a pilot (R266). -/
def dredgeRead (b : Berth) (s : State) (e : Chart) : State :=
  let m := mapBlock b.layout (e.loc % 2 ^ 18)
  let j := memberOf b.layout m.2.1 m.1
  let n := 64 * m.1 + m.2.2
  let l := (readLoc s b j n).getD (match survivors s b m.1 m.2.2 with | x :: _ => x.2 | [] => {})
  queueOp s (actOf s l.head)
    { cls := 2, head := l.head, track := l.track, slot := l.slot, count := 1, gen := l.gen, berth := b.id, member := j, n := n }

/-- Dredging may run: F below DREDGE_LOW, a layout change to finish, a lost berth, or running and
below DREDGE_LOW + 2 % (R265, R295, R300). -/
def dredgeWanted (s : State) : Bool :=
  fBelow s s.brtPar.dredgeLow || (s.brt.dredge && fBelow s (s.brtPar.dredgeLow + 2)) ||
    (match chooseVictim s with | some b => berthLostAt s b.id || oldLayout s b | none => false)

/-- DREDGE_START: a victim is selected and its live blocks are read (R265, R266). -/
def execDredgeStart (s : State) : Host.Outcome State Fault Refusal :=
  .next (if live s && !s.bw.started && s.brt.victim.isNone && dredgeWanted s then
      match chooseVictim s with
      | none => s
      | some b =>
        let s1 := updBrt (updBerth s b.id fun x => { x with st := .dredging }) fun e =>
          { e with dredge := true, dredgeCrit := convHeld s, victim := some b.id }
        forEach (s.tbl.chart.filter fun e => !e.cached && decide (e.loc / 2 ^ 18 = b.id)) s1 (dredgeRead b)
    else s)

/-- A block read from a dredging victim joins the dredge builder; one that cannot be read or rebuilt
is written UNREADABLE (R266). `blk` is its information block. -/
def dredgeMove (s : State) (b : Berth) (index : Nat) (blk : Option (List Byte)) : State :=
  match s.tbl.chart.find? fun e => !e.cached && decide (e.loc = b.id * 2 ^ 18 + index) with
  | none => s
  | some e =>
    let id := s.brt.nextBlock
    let c : CBlock := match blk with
      | some x => { id := id, nsid := e.nsid, lba := e.lba, copy := true, data := (x.drop 16).take 4096, pi := x.drop 4112,
                    keyslot := hdr x 86 10, pifmt := hdr x 84 2, unreadable := isUnreadable x, prev := some (b.id, index) }
      | none => { id := id, nsid := e.nsid, lba := e.lba, copy := true, data := List.replicate 4096 0, pi := pi00 e.lba e.nsid,
                  unreadable := true, prev := some (b.id, index) }
    let lay := (s.nv.namespaces.find? fun n => n.nsid = e.nsid).map (·.layout)
    placeBlock (updBrt { s with cache := { s.cache with blocks := s.cache.blocks ++ [c] } }
      fun t => { t with nextBlock := t.nextBlock + 1 }) 1 (lay.getD b.layout) id

/-- A berth is given up: RELEASING until its last stripe completes and a checkpoint commits (R259). -/
def releaseBerth (s : State) (b : Nat) : State :=
  updTbl (updBerth s b fun x => { x with st := .releasing }) fun t =>
    { t with rblds := t.rblds.map fun e => if e.berth = b ∧ (e.st = 1 ∨ e.st = 2) then { e with st := 5 } else e }

/-- A LAYOUT reshape ends when no berth of its namespace has the old layout (R300). -/
def reshapeEnd (s : State) : State :=
  match s.tbl.reshapes.find? fun r => !r.move && r.oldBerth.isNone && !s.tbl.berths.any fun b =>
      decide (b.st ≠ .releasing) && decide (b.layout ≠ r.layout) &&
      ((decide (b.kind = 0) && decide (b.nsid = r.target)) || oldLayout s b) with
  | none => s
  | some r =>
    let s1 := raise (updTbl s fun t => { t with reshapes := t.reshapes.erase r }) .reshapeDone 0 0x0B 0 r.target r.layout
    match r.mb with | some (mb, q) => postDone s1 mb q 0 0 0 | none => s1

/-- A pilot entry still reads a berth. -/
def berthRead (s : State) (b : Nat) : Bool :=
  allActs.any fun a => (s.cmds.pilots[a].entries ++ s.cmds.pilots[a].waiting).any fun o => decide (o.berth = b) && !o.write

/-- DREDGE_VICTIM_DONE: LIVE is 0 and no read is outstanding (R265, R266, R300). -/
def execDredgeVictimDone (s : State) : Host.Outcome State Fault Refusal :=
  .next (match s.brt.victim.bind (berthAt s) with
    | some b =>
      if live s && decide (b.live = 0) && !berthRead s b.id then
        let s1 := updBrt (releaseBerth s b.id) fun e => { e with victim := none }
        reshapeEnd (updBrt s1 fun e => { e with dredge := fBelow s1 (s1.brtPar.dredgeLow + 2), dredgeCrit := convHeld s1 })
      else s
    | none => s)

/-! ### Patrol (R269, R270) -/

/-- A stripe patrol visits. -/
def patrolVisits (b : Berth) (st : Nat) : Bool :=
  (decide (b.st = .opened) || decide (b.st = .sealed) || decide (b.st = .dredging)) && (decide (st < b.wstripe) || b.doneAhead.contains st)

/-- The sectors of a row by role. -/
def byRole (layout st : Nat) (sec : List (Option (List Byte))) (r : Nat) : Option (List Byte) :=
  (sec.getD (memberOf layout r st) none)

/-- S_P and S_Q of a row whose every sector decodes (R270). -/
def rowSyndromes (layout st : Nat) (sec : List (Option (List Byte))) : Option (List Byte × List Byte) :=
  let rs := (List.range (layN layout)).map (byRole layout st sec)
  if rs.any (·.isNone) then none
  else
    let vs := rs.map fun x => x.getD []
    let ds := vs.take (layD layout)
    some (xorBytes (parityP ds) (vs.getD (layD layout) []),
      if layK layout = 2 then xorBytes (parityQ ds) (vs.getD (layD layout + 1) []) else [])

/-- Every byte is zero. -/
def allZero (bs : List Byte) : Bool := bs.all fun b => decide (b = 0)

/-- One role explains both syndromes at every nonzero position (R270). -/
def roleFits (r : Nat) (p : List Byte × List Byte) : Bool :=
  (p.1.zip p.2).all fun x => decide (x.2 = gfMul (gfPow r) x.1)

/-- What a stripe check finds (R270): the bad role with its rows, or a suspect stripe with its first row. -/
inductive Finding where
  | ok
  | role (r : Nat) (rows : List Nat)
  | suspect (row : Nat)
  deriving DecidableEq, Repr

/-- The finding of the rows' syndromes (R270). -/
def judgeStripe (layout : Nat) (syn : List (Nat × (List Byte × List Byte))) : Finding :=
  let badP := (syn.filter fun x => !allZero x.2.1).map (·.1)
  let badQ := (syn.filter fun x => !allZero x.2.2).map (·.1)
  if badP = [] ∧ badQ = [] then .ok
  else if layK layout = 1 then .suspect (badP.headD 0)
  else if badP = [] then .role (layD layout + 1) badQ
  else if badQ = [] then .role (layD layout) badP
  else match (List.range (layD layout)).find? fun r => syn.all fun x => roleFits r x.2 with
    | some r => .role r badP
    | none => .suspect (badP.headD 0)

/-- Whether every visit of a lap has been made with this stripe: no berth or stripe lies after it. -/
def lapEnds (s : State) (berth stripe : Nat) : Bool :=
  !s.tbl.berths.any fun b =>
    (List.range (layStripes b.layout)).any fun st => patrolVisits b st &&
      (decide (berth < b.id) || (decide (berth = b.id) && decide (stripe < st)))

/-- A lap ends: its duration is reported and the next starts at the lowest berth (R269). -/
def lapDone (s : State) : State :=
  let now := s.ctr.dev.powerOnS
  updBrt s fun e => { e with patrolBerth := 0, patrolStripe := 0, lapHours := (now - e.lapStartS) / 3600, lapStartS := now }

/-- The lap moves on; its end sets the duration reported (R269). -/
def nextVisit (s : State) (berth stripe : Nat) : State :=
  if lapEnds s berth stripe then lapDone s
  else updBrt s fun e => { e with patrolBerth := berth, patrolStripe := stripe + 1 }

/-- Ascending berth and stripe order. -/
def visitLt (p q : Nat × Nat) : Bool := decide (p.1 < q.1) || (decide (p.1 = q.1) && decide (p.2 < q.2))

/-- The stripes patrol visits. -/
def visits (s : State) : List (Nat × Nat) :=
  s.tbl.berths.flatMap fun b => ((List.range (layStripes b.layout)).filter (patrolVisits b)).map fun st => (b.id, st)

/-- A stripe is the next one of the lap: the lowest from the lap's place on, or the lowest of all where none is
left (R269). -/
def visitNext (s : State) (v : Nat × Nat) : Bool :=
  let vs := visits s
  let ahead := vs.filter fun x => !visitLt x (s.brt.patrolBerth, s.brt.patrolStripe)
  let cand := if ahead = [] then vs else ahead
  cand.contains v && cand.all fun x => !visitLt x v

/-- A rebuild entry is ACTIVE: patrol stops (R290). -/
def rebuilding (s : State) : Bool := s.tbl.rblds.any fun e => decide (e.st = 2)

/-- The stripe check on the rows read (R270, R294): sectors that fail rungs 0 to 3 are `none`. -/
def patrolCheck (b : Berth) (stripe : Nat) (rows : List (Nat × List (Option (List Byte)))) (s : State) : State :=
  let use := rows.filter fun r => !s.tbl.losts.any fun l =>
    decide (l.berth = b.id) && !l.berthType && decide (l.stripe = stripe) && decide (l.row = r.1)
  let s1 := forEach use s fun s r =>
    forEach ((r.2.zipIdx).filter fun x => x.1.isNone) s fun s x => wantReloc s b.id x.2 (64 * stripe + r.1)
  let syn := use.filterMap fun r => (rowSyndromes b.layout stripe r.2).map fun x => (r.1, x)
  match judgeStripe b.layout syn with
  | .ok => s1
  | .role r ks =>
    let j := memberOf b.layout r stripe
    raise (updBrt (forEach ks s1 fun s k => wantReloc s b.id j (64 * stripe + k)) fun e => { e with patrolFix := true })
      .patrolFix 2 0x0B 0 b.id stripe j
  | .suspect k =>
    raise (updBrt (updBerth s1 b.id fun x => { x with suspect := true }) fun e => { e with patrolSuspect := true })
      .patrolSuspect 2 0x0B 0 b.id stripe k

/-- PATROL_STRIPE_CHECK (R269, R270). -/
def execPatrolStripeCheck (berth stripe : Nat) (rows : List (Nat × List (Option (List Byte)))) (s : State) :
    Host.Outcome State Fault Refusal :=
  .next (match berthAt s berth with
    | some b =>
      if live s && !s.bw.started && !rebuilding s && visitNext s (berth, stripe) then
        let s1 := if visitLt (berth, stripe) (s.brt.patrolBerth, s.brt.patrolStripe) then lapDone s else s
        nextVisit (patrolCheck b stripe rows (updBrt s1 fun e => { e with patrol := true })) berth stripe
      else s
    | none => s)

/-! ### Checkpoints (R271) -/

/-- A checkpoint begins: the changed pages as they stand are written to both copies (R271). -/
def ckptBegin (s : State) : State :=
  { updBrt s fun e => { e with ckptRun := true, ckptStart := s.us } with ckptPend := some s.tbl }

/-- A checkpoint is due: CKPT_MS after the last began, or fewer than 256 manifest entries are FREE (R271). -/
def ckptDue (s : State) : Bool :=
  decide (freeMan s < 256) || decide (s.brt.ckptStart + 1000 * s.brtPar.ckptMs ≤ s.us)

/-- CHECKPOINT_START (R271). -/
def execCheckpointStart (s : State) : Host.Outcome State Fault Refusal :=
  .next (if live s && !s.bw.started && !s.brt.ckptRun && ckptDue s then ckptBegin s else s)

/-- The tables of the newest checkpoint a copy holds. -/
def copyTables (s : State) (c : Nat) : Tables :=
  ((s.nv.ckpts.find? fun k => k.copies.contains c).map (·.tables)).getD {}

/-- A copy's part of a checkpoint is written: in its window behind the last one, or, where that window is full or
closed, whole in the copy's other window under a new GEN (R271). -/
def ckptWrite (p : Tables) (s : State) (c : Fin 2) : State :=
  let n := ckptPages (copyTables s c.val) p + 2
  if s.brt.ckptFull.contains c.val ∨ 256 * s.brtPar.ckptMib < s.brt.ckptFill[c] + n then
    updBrt s fun e => { e with ckptWin := vupd e.ckptWin c (1 - ·), ckptGen := vupd e.ckptGen c fun g => (g + 1) % 2 ^ 21,
                               ckptFill := vupd e.ckptFill c fun _ => ckptPages {} p + 2 }
  else updBrt s fun e => { e with ckptFill := vupd e.ckptFill c (· + n) }

/-- The windows of a berth's members. -/
def berthWindows (s : State) (b : Berth) : List (Nat × Nat × Nat) :=
  (List.range (layN b.layout)).flatMap fun j =>
    (memberSegs s b j).map fun g => (s.heads[g.head].surface, g.winFirst, g.winEnd)

/-- A RELEASING berth is freed: its records, relocations, lost entries and windows (R259, R282, R293). -/
def freeBerth (s : State) (b : Berth) : State :=
  let ids := (List.range (layN b.layout)).flatMap fun j => (memberSegs s b j).map (·.id)
  let wins := berthWindows s b
  updTbl s fun t =>
    { t with berths := t.berths.filter (·.id ≠ b.id), segs := t.segs.filter fun g => !ids.contains g.id,
             relocs := t.relocs.filter (·.berth ≠ b.id), losts := t.losts.filter (·.berth ≠ b.id),
             unread := t.unread.filter (·.1 ≠ b.id),
             usedTracks := wins.foldl (fun u w => dropRange w.1 w.2.1 w.2.2 u) t.usedTracks }

/-- The checkpoint that committed holds the berth as RELEASING with no stripe in flight. -/
def releasable (p : Tables) (s : State) (b : Berth) : Bool :=
  decide (b.st = .releasing) && (p.berths.any fun x => decide (x.id = b.id) && decide (x.st = .releasing)) &&
    (!p.manifest.any fun m => decide (m.berth = b.id) && decide (m.st ≠ 3)) &&
    !s.tbl.manifest.any fun m => decide (m.berth = b.id) && decide (m.st ≠ 3)

/-- What a committed checkpoint frees (R256, R259, R285). -/
def commitFrees (s : State) (p : Tables) (seq : Nat) : State :=
  let s1 := forEach (s.tbl.berths.filter (releasable p s)) s freeBerth
  updTbl s1 fun t =>
    { t with manifest := t.manifest.filter fun m => !p.manifest.any fun x => decide (x.seq = m.seq) && decide (x.st = 3),
             rblds := t.rblds.filter fun e => !p.rblds.any fun x => decide (x.id = e.id) && (decide (x.st = 4) || decide (x.st = 5)),
             usedTracks := t.giving.foldl (fun u g => if g.2.2.2 ≤ seq then dropRange g.1 g.2.1 g.2.2.1 u else u) t.usedTracks,
             giving := t.giving.filter fun g => decide (seq < g.2.2.2) }

/-- A checkpoint commits under the next sequence number (R271). -/
def ckptCommit (s : State) (p : Tables) (copies : List Nat) (single : Bool) : State :=
  let seq := (s.brt.ckptSeq + 1) % 2 ^ 32
  let s0 := forEach ((List.finRange 2).filter fun c => copies.contains c.val) s (ckptWrite p)
  let s1 := updNv s0 fun n => { n with ckpts := { seq := seq, tables := p, copies := copies } :: n.ckpts.take 1 }
  let s2 := updBrt { commitFrees s1 p seq with ckptPend := none } fun e =>
    { e with ckptRun := false, ckptSeq := seq, ckptSingle := single, ckptFull := e.ckptFull.filter fun c => !copies.contains c }
  let s3 := forEach s.brt.ckptMbs (updBrt s2 fun e => { e with ckptMbs := [] }) fun s m => postDone s m.1 m.2 0 0 seq
  recordEntry (eraseFinish s3)

/-- The head of a checkpoint copy is out of service (R271, R297). -/
def ckptHeadGone (s : State) (c : Nat) : Bool :=
  decide (s.tbl.heads[if c = 0 then s.brtPar.ckptHeadA else s.brtPar.ckptHeadB] ≠ .inService) || s.brt.ckptFull.contains (2 + c)


/-- CHECKPOINT_COMMIT: both commit sectors are COMPLETE, or that of the copy in service (R271). -/
def execCheckpointCommit (okA okB : Bool) (s : State) : Host.Outcome State Fault Refusal :=
  .next (match s.ckptPend with
    | none => s
    | some p =>
      if powered s && !s.bw.started then
        let goneA := ckptHeadGone s 0
        let goneB := ckptHeadGone s 1
        if okA && okB then ckptCommit s p [0, 1] false
        else if okA && goneB then ckptCommit s p [0] true
        else if okB && goneA then ckptCommit s p [1] true
        else
          let s1 := if !okA && !goneA then ckptCopyFail s 0 else s
          let s2 := if !okB && !goneB then ckptCopyFail s1 1 else s1
          { updBrt s2 fun e => { e with ckptRun := false } with ckptPend := none }
      else s)

/-! ### Messages (R249, R250, R273, R274) -/

/-- A layout's need is met on the drive (R240). -/
def layoutNeed (s : State) (c : Nat) : Bool :=
  let ok := fun h => headWritable s h
  if c < 2 then decide (layN c ≤ (allHeads.filter ok).length)
  else allActs.all fun a => decide (2 ≤ ((headsOf s a).filter ok).length)

/-- A namespace holds nothing: no cache block, no chart entry, no zone in use. -/
def nsEmpty (s : State) (nsid : Nat) : Bool :=
  (!s.cache.blocks.any fun c => decide (c.nsid = nsid)) && (!s.tbl.chart.any fun e => decide (e.nsid = nsid)) &&
    !s.tbl.zones.any fun z => decide (z.nsid = nsid)

/-- The body of BRT_SET_LAYOUT (R240, R274). -/
def brtLayout (nsid layout : Nat) (s : State) : Ans :=
  if 2 < layout ∨ !layoutNeed s layout then rangeA s
  else if nsid = 0 then okA { s with brtPar := { s.brtPar with defLayout := layout } }
  else match s.nv.namespaces.find? fun n => n.nsid = nsid with
    | none => notFoundA s
    | some n =>
      if n.attached ≠ [] ∨ !nsEmpty s nsid then conflictA s
      else okA (updNv s fun v => { v with namespaces := v.namespaces.map fun x =>
        if x.nsid = nsid then { x with layout := layout } else x })

def execBrtSetLayout (r : Req) (nsid layout : Nat) (s : State) : Host.Outcome State Fault Refusal :=
  .next (serve s r { opc := 0x0501, setter := true } (.brtSetLayout r nsid layout) (brtLayout nsid layout))

/-- BRT_SET_LIMITS's list (R274). -/
def brtPars : List (Par BrtPar) :=
  [parN 0 8 fun v p => { p with slack := v },
   parN 1 8 (fun v p => { p with guard := v }) true,
   parN 25 75 fun v p => { p with tailShare := v },
   parN 10 10000 fun v p => { p with logAge := v },
   parN 3 50 fun v p => { p with convOp := v },
   parN 2 20 fun v p => { p with dredgeLow := v },
   parN 1 19 fun v p => { p with dredgeCrit := v },
   parN 1 50 fun v p => { p with dredgeShare := v }]

/-- The body of BRT_SET_LIMITS: GUARD in MANUFACTURE and RETURN only; DREDGE_CRIT below DREDGE_LOW. -/
def brtLimits (ps : Params) (s : State) : Ans :=
  if (ps.any fun e => e.1 = 1) ∧ s.sec.life ≠ .manufacture ∧ s.sec.life ≠ .ret then failA s 0x0006
  else setA s brtPars (fun p => [([5, 6], decide (p.dredgeCrit + 1 ≤ p.dredgeLow))]) ps s.brtPar fun p => { s with brtPar := p }

def execBrtSetLimits (r : Req) (ps : Params) (s : State) : Host.Outcome State Fault Refusal :=
  .next (serve s r { opc := 0x0502, need := needOf brtPars ps, setter := true } (.brtSetLimits r ps) (brtLimits ps))

/-- The body of BRT_SET_PATROL (R274). -/
def brtPatrol (ps : Params) (s : State) : Ans :=
  setA s [parN 0 20 fun v (p : BrtPar) => { p with patrolShare := v }, parN 0 100 fun v p => { p with patrolIdle := v }]
    (fun _ => []) ps s.brtPar fun p => { s with brtPar := p }

def execBrtSetPatrol (r : Req) (ps : Params) (s : State) : Host.Outcome State Fault Refusal :=
  .next (serve s r { opc := 0x0503, setter := true } (.brtSetPatrol r ps) (brtPatrol ps))

/-- BRT_SET_CKPT's list (R274). -/
def ckptPars : List (Par BrtPar) :=
  [parN 100 60000 fun v p => { p with ckptMs := v },
   parN 0 31 (fun v p => { p with ckptHeadA := hdOf v }) true,
   parN 0 31 (fun v p => { p with ckptHeadB := hdOf v }) true,
   parN 256 2048 (fun v p => { p with ckptMib := v }) true]

/-- The body of BRT_SET_CKPT: heads of the drive on different actuators, in MANUFACTURE and RETURN only. -/
def brtCkpt (ps : Params) (s : State) : Ans :=
  if (ps.any fun e => e.1 ≠ 0) ∧ s.sec.life ≠ .manufacture ∧ s.sec.life ≠ .ret then failA s 0x0006
  else setA s ckptPars (fun p => [([1, 2], decide (actOf s p.ckptHeadA ≠ actOf s p.ckptHeadB) &&
    inDrive s p.ckptHeadA && inDrive s p.ckptHeadB)]) ps s.brtPar fun p => { s with brtPar := p }

def execBrtSetCkpt (r : Req) (ps : Params) (s : State) : Host.Outcome State Fault Refusal :=
  .next (serve s r { opc := 0x0504, need := needOf ckptPars ps, setter := true } (.brtSetCkpt r ps) (brtCkpt ps))

/-- The body of BRT_CHECKPOINT: a checkpoint at once; the DONE carries its sequence number. -/
def brtCheckpoint (r : Req) (s : State) : Ans :=
  let s1 := updBrt s fun e => { e with ckptMbs := e.ckptMbs ++ [(r.mb, r.seq)] }
  { st := if s.brt.ckptRun then s1 else ckptBegin s1, status := 1 }

def execBrtCheckpoint (r : Req) (s : State) : Host.Outcome State Fault Refusal :=
  .next (serve s r { opc := 0x0505, long := true } (.brtCheckpoint r) (brtCheckpoint r))

/-- STATE of a berth (R249). -/
def berthState : BSt → Nat
  | .free => 0 | .opened => 1 | .sealed => 2 | .dredging => 3 | .releasing => 4

/-- BRT_BERTH as bytes (R249). -/
def berthBytes (b : Berth) : List Byte :=
  leBytes 64 (packF ([(10, 1, b2n b.suspect), (11, 1, b2n b.degraded), (12, 3, berthState b.st), (15, 4, b.layout),
    (19, 2, b.kind), (21, 17, b.owner), (38, 10, b.wstripe), (48, 19, b.live)] ++
    (List.range 18).map fun j => (67 + 22 * j, 22, b.member.getD j 4194303)))

/-- BRT_SEG as bytes (R250). -/
def segBytes (g : Seg) : List Byte :=
  leBytes 32 (packF [(234, 22, g.next), (218, 16, g.firstN), (202, 16, g.countN), (181, 21, g.gen), (157, 24, g.firstTrack),
    (147, 10, toPat 10 g.offset), (136, 11, g.tracks), (115, 21, g.offset0), (91, 24, g.winEnd), (86, 5, g.head.val),
    (85, 1, b2n g.dir), (84, 1, b2n g.paired), (62, 22, g.pair), (30, 32, toPat 32 g.dW), (22, 8, g.temp)])

/-- The body of BRT_GET_BERTH: the record, then segments in member and NEXT order from the SKIP-th. -/
def brtGetBerth (berth skip : Nat) (s : State) : Ans :=
  match berthAt s berth with
  | none => notFoundA s
  | some b =>
    let gs := (List.range (layN b.layout)).flatMap (memberSegs s b)
    let out := (gs.drop skip).take 60
    dataA s (berthBytes b ++ leBytes 2 gs.length ++ leBytes 2 out.length ++ out.flatMap segBytes)

def execBrtGetBerth (r : Req) (berth skip : Nat) (s : State) : Host.Outcome State Fault Refusal :=
  .next (serve s r { opc := 0x0506, need := .rd } (.brtGetBerth r berth skip) (brtGetBerth berth skip))

/-- The shared tail reserve in blocks: TAIL_SHARE of 1.5 GiB (R253). -/
def tailReserve (s : State) : Nat := bound15 * s.brtPar.tailShare / 100
/-- What an open zone of a layout charges, in blocks (R253). -/
def tailCharge (layout : Nat) : Nat := layBlocks layout
/-- What the zones charge now. -/
def tailUsed (s : State) : Nat :=
  (s.tbl.zones.filter (·.charged)).foldl (fun a z =>
    a + tailCharge (((s.nv.namespaces.find? fun n => n.nsid = z.nsid).map (·.layout)).getD 0)) 0

/-- TAIL_FULL (R273). -/
def tailFull (s : State) : Bool :=
  let ls := (s.nv.namespaces.filter (·.zoned)).map (·.layout)
  decide (ls ≠ []) && ls.all fun l => decide (tailReserve s < tailUsed s + tailCharge l)

/-- BRT_STATUS (R273). -/
def brtStatus (s : State) : Nat :=
  let e := s.brt
  packF [(31, 1, b2n (decide (e.held ≠ []))), (30, 1, b2n e.dredge), (29, 1, b2n (convHeld s && decide (0 < logPool s))),
    (28, 1, b2n e.patrol), (27, 1, b2n e.ckptSingle), (26, 1, b2n (tailFull s)), (23, 1, b2n e.piMismatch),
    (22, 1, b2n e.patrolFix), (21, 1, b2n e.patrolSuspect), (20, 1, b2n e.segFail), (19, 1, b2n e.ckptFail),
    (0, 12, dirtyBlocks s / 256)]

/-- What reading BRT_STATUS clears. -/
def brtClear (k : BitVec 64) (e : BrtEng) : BrtEng :=
  { e with piMismatch := w1c k 23 e.piMismatch, patrolFix := w1c k 22 e.patrolFix,
           patrolSuspect := w1c k 21 e.patrolSuspect, segFail := w1c k 20 e.segFail, ckptFail := w1c k 19 e.ckptFail }

/-- F in 0.01 % (R265, R441). -/
def fReport (s : State) : Nat := if logPool s = 0 then 10000 else logFree s * 10000 / logPool s

/-- The body of BRT_GET_STATUS. -/
def brtGet (clear : BitVec 64) (s : State) : Ans :=
  getA (updBrt s (brtClear clear)) [(4, brtStatus s), (4, fReport s), (4, s.brt.lapHours), (4, freeMan s)]

def execBrtGetStatus (r : Req) (clear : BitVec 64) (s : State) : Host.Outcome State Fault Refusal :=
  .next (serve s r { opc := 0x0507, need := .rd } (.brtGetStatus r clear) (brtGet clear))

end Sys2Proof.Machine
end

