-- ==== Sys2Proof/Machine/Host.lean ====
section
/-! DEFINITION. Host: moorings, tags and completions by name, error log entries and asynchronous
events, which every host-facing chapter shares (R312, R330, R338 to R341, R353, R356 to R359). -/

namespace Sys2Proof.Machine

/-! ### Moorings and tags -/

/-- The mooring of a queue. -/
def moorAt (s : State) (f : Fn) (qid : Nat) : Option Mooring := s.quay.moorings.find? fun m => m.func = f ∧ m.qid = qid

/-- The mooring of a queue changed by `g`. -/
def updMoor (s : State) (f : Fn) (qid : Nat) (g : Mooring → Mooring) : State :=
  updQuay s fun q => { q with moorings := q.moorings.map fun m => if m.func = f ∧ m.qid = qid then g m else m }

/-- The record of a tag in use. -/
def tagAt (s : State) (t : Tag) : Option TagRec := s.cmds.tags.find? fun r => r.tag = t

/-- The record of a tag changed by `g`. -/
def updTag (s : State) (t : Tag) (g : TagRec → TagRec) : State :=
  updCmds s fun c => { c with tags := c.tags.map fun r => if r.tag = t then g r else r }

/-- Tags not in use (R338). -/
def freeTags (s : State) : Nat := 4096 - s.cmds.tags.length

/-- The free list hands out tags under R24 (R338). -/
def nextTag (s : State) : Option Tag :=
  if 4096 ≤ s.cmds.tags.length then none
  else
    (((List.range (s.cmds.tags.length + 1)).map fun k => (s.cmds.tagPtr.val + k) % 4096).find? fun k =>
      !s.cmds.tags.any fun r => decide (r.tag.val = k)).map fun k => ⟨k % 4096, Nat.mod_lt _ (by decide)⟩

/-- Tags a function holds. -/
def tagsOf (s : State) (f : Fn) : Nat := (s.cmds.tags.filter fun r => r.func = f).length

/-- A status: type, code and DNR as the tag holds them (R356). -/
abbrev St := Nat × Bool

/-- Success. -/
def stOk : St := (0, false)
/-- A generic command status with DNR 1. -/
def stG (code : Nat) : St := (code, true)
/-- A command-specific status with DNR 1. -/
def stC (code : Nat) : St := (0x100 + code, true)
/-- A media error status with DNR 1. -/
def stM (code : Nat) : St := (0x200 + code, true)

/-- The status of a tag is fixed: it enters POSTING (R341); the first status stands (R356). -/
def finish (s : State) (t : Tag) (st : St) (dw0 : Nat := 0) : State :=
  updTag s t fun r => { r with stage := 5, held := false, parked := false, status := some (r.status.getD st), dw0 := dw0 }

/-- The commit point of a tag (R342, R353): the latch is set with ABORTED = 0. -/
def commitTag (s : State) (t : Tag) : State :=
  updTag s t fun r => if r.latch then r else { r with latch := true, stage := max r.stage 4 }

/-- A command acts, succeeds and is fixed in one step. -/
def finishOk (s : State) (t : Tag) (dw0 : Nat := 0) : State := finish (commitTag s t) t stOk dw0

/-- Data sent to the host for a command. -/
def sendData (s : State) (t : Tag) (bytes : List Byte) : State :=
  match tagAt s t with
  | some r => emit s (.data r.func.val r.cid bytes)
  | none => s

/-! ### Error information log and asynchronous events (R356, R358, R359) -/

/-- One entry of a controller's error information log, which holds 64. -/
def logErr (s : State) (f : Fn) (sqid cid status nsid spec : Nat) : State :=
  updFn s f fun x => { x with errLog := ((sqid, cid, status, nsid, spec) :: x.errLog).take 64, errCount := x.errCount + 1 }

/-- A feature value of a function; 0 where the host has not set it. -/
def featOf (s : State) (f : Fn) (fid nsid : Nat) : Nat :=
  (((fnOf s f).features.find? fun e => e.1 = fid ∧ e.2.1 = nsid).map (·.2.2)).getD 0

/-- Deliver an event to a controller: the parked request completes with it, or it is held; further
events of its type are masked until their log is read (R339, R359). -/
def asyncEvent (s : State) (f : Fn) (typ info page : Nat) : State :=
  let x := fnOf s f
  if x.aerMasked.contains typ ∨ (x.aerHeld.any fun e => e.1 = typ) then s
  else match x.aerParked with
    | some t =>
      finish (updFn s f fun x => { x with aerParked := none, aerMasked := typ :: x.aerMasked }) t stOk
        (typ + info * 2 ^ 8 + page * 2 ^ 16)
    | none => updFn s f fun x => { x with aerHeld := x.aerHeld ++ [(typ, info, page)] }

/-- An event that waits meets a new request (R359). -/
def parkAer (s : State) (f : Fn) (t : Tag) : State :=
  match (fnOf s f).aerHeld with
  | e :: rest =>
    finish (updFn s f fun x => { x with aerHeld := rest, aerMasked := e.1 :: x.aerMasked }) t stOk
      (e.1 + e.2.1 * 2 ^ 8 + e.2.2 * 2 ^ 16)
  | [] => updTag (updFn s f fun x => { x with aerParked := some t }) t fun r => { r with parked := true, stage := 3 }

/-- Reading a log unmasks the events that name it. -/
def logRead (s : State) (f : Fn) (typ : Nat) : State := updFn s f fun x => { x with aerMasked := x.aerMasked.erase typ }

/-- Controllers the host has enabled. -/
def enabledFns (s : State) : List Fn := (s.quay.funcs.filter fun x => x.en).map (·.idx)

/-- An event for every enabled controller whose Asynchronous Event Configuration has its bit. -/
def asyncAll (s : State) (cfgBit typ info page : Nat) : State :=
  if s.quay.sas then s
  else forEach (enabledFns s) s fun s f => if bitAt (featOf s f 0x0B 0) cfgBit then asyncEvent s f typ info page else s

/-- A bit of the SMART critical warning; a bit newly set raises one event (R330). -/
def setSmart (s : State) (bit : Nat) : State :=
  if bitAt s.quay.critWarn bit then s
  else asyncAll (updQuay s fun q => { q with critWarn := q.critWarn + 2 ^ bit }) bit 1 0 2

/-- A new lost row raises the LBA Status Information Alert (R330). -/
def lbaAlert (s : State) : State := asyncAll s 13 2 5 0x0E

/-! ### Namespaces and zones by name -/

/-- The namespace of an NSID. -/
def nsAt (s : State) (nsid : Nat) : Option Ns := s.nv.namespaces.find? fun n => n.nsid = nsid

/-- The zone record of a namespace's zone. -/
def zoneOf (s : State) (nsid no : Nat) : Option Zone := s.tbl.zones.find? fun z => z.nsid = nsid ∧ z.no = no

/-- The zone record changed by `g`. -/
def updZone (s : State) (nsid no : Nat) (g : Zone → Zone) : State :=
  updTbl s fun t => { t with zones := t.zones.map fun z => if z.nsid = nsid ∧ z.no = no then g z else z }

/-- A zone enters Read Only: the changed zone list and its event (R295, R327). -/
def zoneReadOnly (s : State) (nsid no : Nat) : State :=
  let s1 := updZone s nsid no fun z => { z with st := .readOnly, charged := false }
  let fs := ((nsAt s nsid).map (·.attached)).getD []
  forEach fs s1 fun s f =>
    let s2 := updFn s f fun x => { x with chgZones := if x.chgZones.contains (nsid, no) then x.chgZones else x.chgZones ++ [(nsid, no)] }
    if !s.quay.sas && (fnOf s f).en && bitAt (featOf s f 0x0B 0) 27 then asyncEvent s2 f 2 0xEF 0xBF else s2

end Sys2Proof.Machine
end

