-- ==== Sys2Proof/Machine/Rebuild.lean ====
section
/-! DEFINITION. Rebuild: head and actuator declarations, member replacement, relocation, lost rows and
berths, checkpoint heads, reshaping, and their messages (chapter 10). -/

namespace Sys2Proof.Machine

/-! ### Margin, lost rows and lost berths (R285, R292 to R295) -/

/-- Members of a berth on FAILED heads, or without a place. -/
def failedMembers (s : State) (b : Berth) : List Nat :=
  (List.range (layN b.layout)).filter fun j =>
    match memberHead s b j with | some h => headDead s h | none => true

/-- MARGIN of a berth (R285). -/
def marginOf (s : State) (b : Berth) : Nat := layK b.layout - (failedMembers s b).length

/-- MARGIN of every entry as it now stands (R291). -/
def remargin (s : State) : State :=
  let f := fun e : Rbld => match berthAt s e.berth with
    | some b => if e.st = 1 ∨ e.st = 2 then { e with margin := marginOf s b } else e
    | none => e
  updTbl s fun t => { t with rblds := t.rblds.map f }

/-- DEGRADED of a berth: a member lies on a FAILED head. -/
def redegrade (s : State) (b : Nat) : State :=
  match berthAt s b with
  | some x => updBerth s b fun y => { y with degraded := decide (failedMembers s x ≠ []) || berthLostAt s b }
  | none => s

/-- List a loss; when the list is full LOST_OVF sets and it is not listed (R293). -/
def listLost (s : State) (l : Lost) : State :=
  let same := fun x : Lost => decide (x.berthType = l.berthType) && decide (x.berth = l.berth) &&
    decide (x.stripe = l.stripe) && decide (x.row = l.row)
  let join := fun x : Lost =>
    if same x then { x with members := x.members ++ l.members.filter fun j => !x.members.contains j } else x
  if s.tbl.losts.any same then updTbl s fun t => { t with losts := t.losts.map join }
  else if 65536 ≤ s.tbl.losts.length then updRbld s fun e => { e with lostOvf := true }
  else updTbl s fun t => { t with losts := t.losts ++ [{ l with time := s.ctr.dev.powerOnS % 2 ^ 32 }] }

/-- The erased data roles of a lost row that are written: each stands as an UNREADABLE sector (R178, R292). -/
def markUnread (s : State) (b : Berth) (members : List Nat) (n : Nat) : State :=
  let new := (members.filter fun j => decide (roleOf b.layout j (n / 64) < layD b.layout) && !isUnread s b.id j n).map fun j =>
    (b.id, j, n)
  updTbl s fun t => { t with unread := t.unread ++ new }

/-- A row is lost (R292): listed, ROW_LOST, an event and the LBA status alert; the erased roles on
heads that can be written are relocated. -/
def rowLost (s : State) (b : Berth) (stripe row : Nat) (members : List Nat) : State :=
  let s1 := listLost s { berth := b.id, stripe := stripe, row := row, members := members }
  let s2 := raise (updRbld s1 fun e => { e with rowLost := true }) .rowLost 2 0x0B 0 b.id stripe row
  forEach (members.filter fun j => match memberHead s b j with | some h => headWritable s h | none => false) (lbaAlert s2)
    fun s j => wantReloc s b.id j (64 * stripe + row)

/-- A berth is lost: its FAILED members exceed K (R295). -/
def loseBerth (s : State) (b : Berth) : State :=
  if berthLostAt s b.id then s
  else
    let s1 := listLost s { berthType := true, berth := b.id, members := failedMembers s b }
    let s2 := raise (updRbld s1 fun e => { e with berthLost := true }) .berthLost 2 0x0B 0 b.id b.kind
    let s3 := updTbl (updBerth s2 b.id fun x => { x with degraded := true }) fun t =>
      { t with rblds := t.rblds.map fun e => if e.berth = b.id ∧ (e.st = 1 ∨ e.st = 2) then { e with st := 5 } else e }
    if b.kind = 0 then
      match s3.tbl.zones.find? fun z => z.berth = some b.id with
      | some z => zoneReadOnly s3 z.nsid z.no
      | none => s3
    else if b.kind = 2 then forEach (s3.tbl.chartDir.filter fun d => d.2.2.1 = b.id) s3 fun s d => touchPage s d.1 d.2.1
    else s3

/-! ### Declarations (R275 to R278, R291) -/

/-- STATE of a head as its code (R302). -/
def headCode : HSt → Nat
  | .inService => 0 | .writeRetired => 1 | .failed => 2

/-- A declaration moves the head (R275). -/
def mayDeclare (was new : HSt) : Bool :=
  decide (was = .inService ∧ new ≠ .inService) || decide (was = .writeRetired ∧ new = .failed)

/-- Pair records and pairings that name a head end (R278). -/
def clearPairs (s : State) (h : Hd) : State :=
  let s1 := forEach allActs s fun s a => updAct s a fun x =>
    { x with pairs := x.pairs.filter fun p => !(decide (p.lead = h) || decide (p.partner = h)) }
  let onHead := fun o : Option Nat => match o.bind (segAt s) with | some g => decide (g.head = h) | none => false
  updTbl s1 fun t =>
    { t with dEst := t.dEst.filter fun e => !(decide (e.1 = h) || decide (e.2.1 = h)),
             segs := t.segs.map fun g => if decide (g.head = h) || onHead g.leadSeg then { g with leadSeg := none } else g }

/-- The segments of a replacement, released with their windows (R287, R291). -/
def dropChain (s : State) (gs : List Seg) : State :=
  let s1 := forEach gs s fun s g => closeSeg s g.id
  let wins := (gs.map fun g => (g.head, g.winFirst, g.winEnd)).eraseDups
  updTbl (forEach wins s1 fun s w => giveTracks s w.1 w.2.1 w.2.2) fun t =>
    { t with segs := t.segs.filter fun g => !gs.any fun x => decide (x.id = g.id) }

/-- Strips in progress on a head are held until the member is decided (R257). -/
def holdHead (s : State) (h : Hd) : State :=
  let a := actOf s h
  let held := (s.cmds.pilots[a].entries ++ s.cmds.pilots[a].waiting).filter fun o => decide (o.head = h) && o.man.isSome
  let keep := fun o : PilotOp => !(decide (o.head = h) && o.man.isSome)
  let s1 := updCmds s fun c => { c with pilots := vupd c.pilots a fun p =>
    { p with entries := p.entries.filter keep, waiting := p.waiting.filter keep,
             busy := p.busy.filter fun i => !held.any fun o => decide (o.id = i) } }
  forEach held s1 fun s o => match o.man with
    | some k => updMan s k fun m => { m with held := if m.held.contains o.member then m.held else m.held ++ [o.member] }
    | none => s

/-- What a declaration does to one rebuild entry (R291). -/
def entryAfter (h : Hd) (st : HSt) (s : State) (e : Rbld) : State :=
  if e.st = 2 ∧ e.newHead = h then
    let s1 := updTbl (dropChain s (chainFrom s 8 e.replSeg)) fun t =>
      { t with rblds := t.rblds.map fun x =>
                 if x.id = e.id then { x with st := 1, progress := 0, start := 0, replSeg := 4194303 } else x,
               manifest := t.manifest.map fun m =>
                 if m.berth = e.berth ∧ m.st ≠ 3 ∧ e.start ≤ m.stripe then { m with done := m.done.filter (· ≠ e.member) } else m }
    updCmds s1 fun c => { c with pilots := c.pilots.map fun p =>
      { p with waiting := p.waiting.filter fun o => !(decide (o.cls = 1) && decide (o.berth = e.berth) && decide (o.member = e.member)) } }
  else if e.oldHead = h ∧ e.copy ∧ st = .failed ∧ (e.st = 1 ∨ e.st = 2) then
    updTbl s fun t => { t with rblds := t.rblds.map fun x => if x.id = e.id then { x with copy := false } else x }
  else s

/-- Berths with a member on a head. -/
def berthsOn (s : State) (h : Hd) : List Berth :=
  s.tbl.berths.filter fun b => (List.range (layN b.layout)).any fun j => decide (memberHead s b j = some h)

/-- The effects of a declaration on entries and berths (R291, R295). -/
def declareEffects (s : State) (h : Hd) (st : HSt) : State :=
  let bs := berthsOn s h
  let s1 := remargin (forEach s.tbl.rblds (holdHead s h) (entryAfter h st))
  if st = .failed then
    forEach bs s1 fun s b =>
      let s2 := redegrade s b.id
      match berthAt s2 b.id with
      | some x => if layK x.layout < (failedMembers s2 x).length then loseBerth s2 x else s2
      | none => s2
  else s1

/-- Declare a head (R275 to R278, R301, R330): its state and REASON, the status bit, the report, the
health report to the host, and what follows for its members. -/
def declareHead (s : State) (h : Hd) (reason : Nat) (st : HSt) (sev : Nat) : State :=
  let was := s.tbl.heads[h]
  if mayDeclare was st then
    let s1 := updTbl (updWhead s h fun w => { w with retired := true }) fun t =>
      { t with heads := vupd t.heads h fun _ => st, reasons := vupd t.reasons h fun _ => reason }
    let s2 := updRbld s1 fun e => if st = .failed then { e with headFailed := true } else { e with headRetired := true }
    let s3 := report (clearPairs s2 h) (headKey s2 h) .headDeclared sev 0x0B 0 h.val reason (headCode was)
    declareEffects (setSmart s3 2) h st
  else s

/-- A trigger of R276 holds. -/
def headTrigger (s : State) (h : Hd) (reason : Nat) : Bool :=
  let r := s.headRecs[h]
  let p := s.rbld.par
  let hour := 3600000000
  if reason = 1 then decide (p.headAcqMax ≤ r.acqFails)
  else if reason = 2 then decide (p.headUncMax < (recent s.us hour r.uncTimes).length)
  else if reason = 3 then decide (2 ≤ r.surfFails)
  else if reason = 4 then decide (p.relocFail < (recent s.us (24 * hour) r.relocTimes).length)
  else if reason = 5 then s.wheads[h].blocked && decide (p.releaseMax ≤ (recent s.us hour r.releaseTimes).length)
  else if reason = 6 then (parOf s h).wearRetire && decide (10000 ≤ wearOf s h)
  else if reason = 7 then s.actRecs[actOf s h].failed
  else if reason = 8 then decide (s.sec.life = .manufacture) && decide ((surfOf s h).tracks < 200 * (surfOf s h).rejected.length)
  else false

/-- The state a REASON declares (R276). -/
def reasonState (reason : Nat) : HSt := if reason = 4 ∨ reason = 5 ∨ reason = 6 then .writeRetired else .failed

/-- HEAD_DECLARED (R276). -/
def execHeadDeclared (h : Hd) (reason : Nat) (s : State) : Host.Outcome State Fault Refusal :=
  .next (if live s && inDrive s h && headTrigger s h reason then
      declareHead s h reason (reasonState reason) (if reason = 7 then 3 else 2)
    else s)

/-- A trigger of R277 holds. -/
def actTrigger (s : State) (a : Act) : Bool :=
  let r := s.actRecs[a]
  let l := s.plks[a].l
  (match l.failSince with | some t => decide (l.st = .fail) && decide (t + 1000000 ≤ s.us) | none => false) ||
    decide (s.rbld.par.actSeekMax < (recent s.us 60000000 r.seekFailTimes).length) ||
    decide (3 ≤ (recent s.us 60000000 r.retractTimes).length) || decide (3 ≤ r.kindMismatch)

/-- ACTUATOR_DECLARED_FAILED: PARKED with VEN 0, and all its heads FAILED, as one incident (R277). -/
def execActuatorDeclaredFailed (a : Act) (s : State) : Host.Outcome State Fault Refusal :=
  .next (if live s && !s.actRecs[a].failed && actTrigger s a then
      let s1 := updActRec s a fun r => { r with failed := true }
      let s2 := updTbl s1 fun t => { t with actFailed := if t.actFailed.contains a then t.actFailed else t.actFailed ++ [a] }
      let s3 := onRampStop (updAct s2 a fun x => { x with seekPending := false, newSeek := none }) a
      let s4 := report (updRbld s3 fun e => { e with actFailed := true }) (0x02, a.val) .actuatorFailed 4 0x0B 0 a.val
      forEach (headsOf s a) s4 fun s h => declareHead s h 7 .failed 3
    else s)

/-! ### Rebuild entries (R278, R283 to R289) -/

/-- An entry is WAITING or ACTIVE. -/
def entryLive (e : Rbld) : Bool := decide (e.st = 1) || decide (e.st = 2)

/-- A new entry of a member on head `h`. -/
def addEntry (s : State) (b : Berth) (j : Nat) (h : Hd) (copy : Bool) : State :=
  let id := lowestFree (s.tbl.rblds.map (·.id))
  if b.st = .releasing ∨ berthLostAt s b.id ∨ 262144 ≤ id ∨
      (s.tbl.rblds.any fun e => decide (e.berth = b.id) && decide (e.member = j) && entryLive e) then s
  else updTbl s fun t => { t with rblds := t.rblds ++
    [{ id := id, berth := b.id, member := j, oldHead := h, copy := copy, st := 1, margin := marginOf s b }] }

/-- REBUILD_ENTRY_CREATE (R278, R283): every berth with a member on the head. -/
def execRebuildEntryCreate (h : Hd) (s : State) : Host.Outcome State Fault Refusal :=
  .next (if live s && decide (s.tbl.heads[h] ≠ .inService) then
      forEach (berthsOn s h) s fun s b =>
        forEach ((List.range (layN b.layout)).filter fun j => decide (memberHead s b j = some h)) s fun s j =>
          addEntry s b j h (decide (s.tbl.heads[h] = .writeRetired))
    else s)

/-- The entry of a number. -/
def entryAt (s : State) (e : Nat) : Option Rbld := s.tbl.rblds.find? fun x => x.id = e
/-- The entry of a number changed by `f`. -/
def updEntry (s : State) (e : Nat) (f : Rbld → Rbld) : State :=
  updTbl s fun t => { t with rblds := t.rblds.map fun x => if x.id = e then f x else x }

/-- Berth KIND in the order of R289: metadata, zone, log. -/
def kindRank (b : Berth) : Nat := if b.kind = 2 then 0 else if b.kind = 0 then 1 else 2

/-- The order in which entries are served (R289). -/
def entryRank (s : State) (e : Rbld) : List Nat :=
  match berthAt s e.berth with
  | some b => [e.margin, kindRank b, if b.st = .opened then 0 else 1, b.id, e.member]
  | none => [3]

/-- Lexicographic order. -/
def lexLt : List Nat → List Nat → Bool
  | [], [] => false
  | [], _ => true
  | _, [] => false
  | a :: as, b :: bs => decide (a < b) || (decide (a = b) && lexLt as bs)

/-- Heads sorted as R241 orders them. -/
def sortHeads (s : State) (hs : List Hd) : List Hd := hs.foldl (fun l h => insertHead s h l) []

/-- The window of a replacement: W + GUARD tracks (R284). -/
def replLen (s : State) (h : Hd) (stripes t : Nat) : Nat :=
  let w := windowLen s h stripes t
  if w = 0 then 0 else w + s.brtPar.guard

/-- Heads a berth's members and replacements lie on. -/
def berthHeads (s : State) (b : Berth) : List Hd :=
  (List.range (layN b.layout)).filterMap (memberHead s b) ++
    (s.tbl.rblds.filter fun e => decide (e.berth = b.id) && decide (e.st = 2)).map (·.newHead)

/-- Members of a berth other than `j` on an actuator. -/
def membersOn (s : State) (b : Berth) (j : Nat) (a : Act) : Nat :=
  ((List.range (layN b.layout)).filter fun i => decide (i ≠ j) &&
    match rebuildAt s b.id i with
    | some e => if e.st = 2 then decide (actOf s e.newHead = a) else false
    | none => (match memberHead s b i with | some h => decide (actOf s h = a) | none => false)).length

/-- The replacement head of an entry, with its window (R283). -/
def replacement (s : State) (b : Berth) (e : Rbld) : Option (Hd × (Nat × Nat)) :=
  let used := berthHeads s b
  let win := fun h => findWindow s h (replLen s h (layStripes b.layout))
  let ok := sortHeads s (allHeads.filter fun h => headWritable s h && !used.contains h && (win h).isSome)
  let same := ok.filter fun h => actOf s h = actOf s e.oldHead
  let fewest := ok.foldl (fun o h => match o with
    | some x => if membersOn s b e.member (actOf s h) < membersOn s b e.member (actOf s x) ∨
        (membersOn s b e.member (actOf s h) = membersOn s b e.member (actOf s x) ∧ (actOf s h).val < (actOf s x).val)
      then some h else some x
    | none => some h) none
  let pick := if b.layout = 2 then (match same with | h :: _ => some h | [] => fewest) else ok.head?
  match pick with
  | none => none
  | some h => (win h).map fun w => (h, w)

/-- Berths with an ACTIVE entry. -/
def activeBerths (s : State) : List Nat := ((s.tbl.rblds.filter fun e => e.st = 2).map (·.berth)).eraseDups


/-- Survivors that the rebuild of a stripe reads: with two parity roles and one member erased, the
data and P (R279, R288). -/
def rebuildReads (s : State) (b : Berth) (e : Rbld) (stripe : Nat) : List (Nat × Loc) :=
  if stripeCached s b.id stripe then []
  else if e.copy then
    ((memberSegs s b e.member).find? fun g => inSeg g (64 * stripe)).toList.map fun g => (e.member, segLoc s g (64 * stripe))
  else
    let sv := (survivors s b stripe 0).filter fun x => x.1 ≠ e.member
    if layK b.layout = 2 ∧ sv.length + 1 = layN b.layout then
      sv.filter fun x => roleOf b.layout x.1 stripe ≠ layD b.layout + 1
    else sv

/-- The rebuild's pilot work for one stripe: its reads and the strip write on the replacement (R288, R346). -/
def queueRebuild (s : State) (b : Berth) (e : Rbld) (stripe : Nat) : State :=
  let s1 := forEach (rebuildReads s b e stripe) s fun s x =>
    queueOp s (actOf s x.2.head)
      { cls := 1, head := x.2.head, track := x.2.track, slot := x.2.slot, count := 64, gen := x.2.gen, berth := b.id,
        member := x.1, n := 64 * stripe }
  match (chainFrom s 8 e.replSeg).find? fun g => decide (g.firstN ≤ 64 * stripe) &&
      (decide (stripe < e.start ∧ g.firstN < 64 * e.start) || decide (e.start ≤ stripe ∧ 64 * e.start ≤ g.firstN)) with
  | some g =>
    let l := segLoc s g (64 * stripe)
    queueOp s1 (actOf s g.head)
      { cls := 1, head := g.head, track := l.track, slot := l.slot, count := 64, gen := g.gen, berth := b.id,
        member := e.member, n := 64 * stripe, write := true }
  | none => s1

/-- Stripes at or above START that are complete already are written to the continuation too (R286). -/
def queueAhead (s : State) (b : Berth) (e : Rbld) : State :=
  forEach ((List.range (layStripes b.layout)).filter fun st =>
      decide (e.start ≤ st) && (decide (st < b.wstripe) || b.doneAhead.contains st)) s
    fun s st => queueRebuild s b e st

/-- Strips of member `j` from START upward start again on the replacement (R286). -/
def restartStrips (s : State) (b : Berth) (e : Rbld) : State :=
  let ms := s.tbl.manifest.filter fun m => decide (m.berth = b.id) && decide (m.st = 2) && decide (e.start ≤ m.stripe)
  let stale := fun o : PilotOp => (ms.any fun m => decide (o.man = some m.slot)) && decide (o.member = e.member)
  let s1 := updCmds s fun c => { c with pilots := c.pilots.map fun p =>
    { p with entries := p.entries.filter fun o => !stale o, waiting := p.waiting.filter fun o => !stale o } }
  forEach ms s1 fun s m =>
    startStrip m.slot (updMan s m.slot fun x => { x with done := x.done.filter (· ≠ e.member), held := x.held.filter (· ≠ e.member) }) e.member

/-- The member switches to its replacement in one step (R287). -/
def switchMember (s : State) (b : Berth) (e : Rbld) : State :=
  let old := memberSegs s b e.member
  let s1 := dropChain (updBerth s b.id fun x => { x with member := x.member.set e.member e.replSeg }) old
  let s2 := updTbl s1 fun t =>
    { t with relocs := t.relocs.filter fun r => !(decide (r.berth = b.id) && decide (r.member = e.member)) }
  remargin (redegrade (updEntry s2 e.id fun x => { x with st := 4 }) b.id)

/-- START of R286. -/
def rebuildStart (s : State) (b : Berth) (j : Nat) : Nat := startStripe s b fun m => !m.done.contains j

/-- An entry becomes ACTIVE on its replacement (R283, R284, R286, R296). -/
def activate (s : State) (b : Berth) (e : Rbld) (h : Hd) (w : Nat × Nat) : State :=
  let start := rebuildStart s b e.member
  let sf := s.heads[h].surface
  let r := addSeg (takeTracks s h w.1 (w.1 + w.2 - 1)) (windowSeg s h w.1 w.2 0)
  let s1 := splitSeg r.2 r.1 start
  let s2 := if 0 < start then
      let s' := bumpGen s1 sf
      updSeg s' r.1 fun g => { g with gen := segGenOf s' sf, opened := true }
    else s1
  let e1 : Rbld := { e with replSeg := r.1, start := start, progress := 0, newHead := h, st := 2 }
  let s3 := updEntry s2 e.id fun _ => e1
  let s4 := if b.layout = 2 ∧ 2 ≤ membersOn s b e.member (actOf s h) then
      raise s3 .spreadLost 0 0x0B 0 b.id b.nsid
    else s3
  let s5 := queueAhead (restartStrips s4 b e1) b e1
  if 0 < start then queueRebuild s5 b e1 0
  else if e1.copy then s5 else switchMember s5 b e1

/-- No WAITING entry that finds a replacement stands before `x` in the order of R289. -/
def goesFirst (s : State) (x : Rbld) : Bool :=
  !s.tbl.rblds.any fun y => decide (y.st = 1) && lexLt (entryRank s y) (entryRank s x) &&
    (match berthAt s y.berth with | some c => (replacement s c y).isSome | none => false)

/-- REBUILD_ENTRY_START (R283, R289): the first WAITING entry in order that finds a replacement;
without one NO_SPACE sets and it stays WAITING. -/
def execRebuildEntryStart (e : Nat) (s : State) : Host.Outcome State Fault Refusal :=
  .next (match entryAt s e with
    | some x =>
      match berthAt s x.berth with
      | some b =>
        if live s && !s.bw.started && decide (x.st = 1) then
          match replacement s b x with
          | none => updRbld s fun r => { r with noSpace := true }
          | some (h, w) =>
            let act := activeBerths s
            if goesFirst s x && (act.contains b.id || decide (act.length < 8)) then
              activate (updRbld s fun r => { r with noSpace := false }) b x h w
            else s
        else s
      | none => s
    | none => s)

/-- Pilot work of a class for a berth's stripe is outstanding. -/
def workLeft (s : State) (cls b : Nat) (p : PilotOp → Bool) : Bool :=
  allActs.any fun a => (s.cmds.pilots[a].entries ++ s.cmds.pilots[a].waiting).any fun o =>
    decide (o.cls = cls) && decide (o.berth = b) && p o

/-- The manifest entry of a rebuilt strip, COMPLETE (R288). -/
def recordRebuilt (s : State) (b : Berth) (e : Rbld) (stripe : Nat) : Option State :=
  match s.tbl.manifest.find? fun m => decide (m.berth = b.id) && decide (m.stripe = stripe) && decide (m.st ≠ 3) with
  | some m => some (setDone s m b e.member 0 0)
  | none =>
    let k := s.brt.manSeq % 4096
    if (manAt s k).isSome then none
    else
      some (updBrt (updTbl s fun t => { t with manifest := t.manifest ++
        [{ slot := k, seq := s.brt.manSeq, buf := lowestFree (t.manifest.map (·.buf)), kind := 3, stripe := stripe,
           berth := b.id, st := 3, done := List.range (layN b.layout) }] })
        fun x => { x with manSeq := (x.manSeq + 1) % 2 ^ 32 })

/-- The findings of a rebuilt stripe: lost rows, and rows whose P result failed the Q check (R288, R292). -/
def rebuildFindings (s : State) (b : Berth) (e : Rbld) (stripe : Nat) (lost : List (Nat × List Nat)) (suspect : List Nat) : State :=
  let s1 := forEach lost s fun s r =>
    markUnread (rowLost s b stripe r.1 (r.2.filter fun j => decide (j < layN b.layout))) b
      (r.2.filter fun j => decide (j = e.member)) (64 * stripe + r.1)
  let s2 := updEntry s1 e.id fun x => { x with lostRows := min (x.lostRows + lost.length) 65535 }
  forEach suspect s2 fun s k =>
    raise (updBerth s b.id fun x => { x with suspect := true }) .rebuildSuspect 0 0x0B 0 b.id stripe k

/-- REBUILD_STRIPE_COMPLETE (R287, R288, R292): the strip stands on the replacement and PROGRESS
advances; the last strip of a reconstruction switches the member. -/
def execRebuildStripeComplete (e : Nat) (lostRows : List (Nat × List Nat)) (suspectRows : List Nat) (energyNj actUs : Nat)
    (s : State) : Host.Outcome State Fault Refusal :=
  .next (match entryAt s e with
    | some x =>
      match berthAt s x.berth with
      | some b =>
        if live s && !s.bw.started && decide (x.st = 2) && decide (x.progress < x.start) &&
            !workLeft s 1 b.id (fun o => decide (o.n = 64 * x.progress)) then
          match recordRebuilt s b x x.progress with
          | none => s
          | some s1 =>
            let s2 := updSeg s1 x.replSeg fun g => { g with countN := max g.countN (64 * (x.progress + 1)), lastUse := s.us }
            let s3 := rebuildFindings s2 b x x.progress lostRows suspectRows
            let s4 := tallyBgEnergy (tallyBg s3 fun r => { r with actWrite := r.actWrite + actUs }) energyNj
            let s5 := updEntry s4 e fun y => { y with progress := x.progress + 1 }
            match entryAt s5 e, berthAt s5 b.id with
            | some y, some c =>
              if y.st ≠ 2 then s5
              else if y.progress < y.start then queueRebuild s5 c y y.progress
              else if y.copy then s5 else switchMember s5 c y
            | _, _ => s5
        else s
      | none => s
    | none => s)

/-- COPY_SWITCH: the last copied strip is complete (R287). -/
def execCopySwitch (e : Nat) (s : State) : Host.Outcome State Fault Refusal :=
  .next (match entryAt s e with
    | some x =>
      match berthAt s x.berth with
      | some b =>
        if live s && !s.bw.started && decide (x.st = 2) && x.copy && decide (x.progress = x.start) then switchMember s b x else s
      | none => s
    | none => s)

/-! ### Relocation (R280 to R282) -/

/-- Slots of a spare band. -/
def spareSlots (s : State) (p : Spare) : Nat := p.tracks * max (slotsAt s p.head p.first) 1

/-- The open spare band of a head, opened in a new window where none has room (R281). -/
def openSpare (s : State) (h : Hd) : Option (Spare × State) :=
  match s.tbl.spares.find? fun p => decide (p.head = h) && decide (p.used < spareSlots s p) with
  | some p => some (p, s)
  | none =>
    match findWindow s h fun _ => s.rbld.par.relocTracks with
    | none => none
    | some w =>
      let sf := s.heads[h].surface
      let s1 := bumpGen (takeTracks s h w.1 (w.1 + w.2 - 1)) sf
      let p : Spare := { head := h, first := w.1, tracks := w.2, gen := segGenOf s1 sf }
      some (p, updTbl s1 fun t => { t with spares := t.spares ++ [p] })

/-- A full spare window that no relocation entry points into is given up (R259, R281). -/
def freeSpares (s : State) : State :=
  let dead := s.tbl.spares.filter fun p => decide (spareSlots s p ≤ p.used) &&
    !s.tbl.relocs.any fun r => decide (r.head = p.head) && decide (p.first ≤ r.track) && decide (r.track < p.first + p.tracks)
  updTbl (forEach dead s fun s p => giveTracks s p.head p.first (p.first + p.tracks - 1)) fun t =>
    { t with spares := t.spares.filter fun p => !dead.contains p }

/-- The relocation leaves the list of those wanted. -/
def relocTaken (s : State) (b j n : Nat) : State :=
  updRbld s fun e => { e with relocPend := e.relocPend.filter (· ≠ (b, j, n)) }

/-- The relocation entries of every other sector: a new entry replaces the sector's own (R282). -/
def otherRelocs (s : State) (berth member n : Nat) : List Reloc :=
  s.tbl.relocs.filter fun r => !(decide (r.berth = berth) && decide (r.member = member) && decide (r.n = n))

/-- The sector takes the next slot of the spare band and its entry is recorded (R281, R282). -/
def placeReloc (s : State) (p : Spare) (berth member n : Nat) (h : Hd) : State :=
  let st := max (slotsAt s h p.first) 1
  let rest := otherRelocs s berth member n
  let r : Reloc := { id := lowestFree (rest.map (·.id)), berth := berth, member := member, n := n, head := h,
                     track := p.first + p.used / st, slot := p.used % st, gen := p.gen }
  let s1 := updTbl s fun t =>
    { t with relocs := rest ++ [r], spares := t.spares.map fun x => if x = p then { x with used := x.used + 1 } else x }
  updHeadCtr (updHeadRec s1 h fun x => { x with relocTimes := s.us :: x.relocTimes }) h fun c =>
    { c with reallocs := ctrAdd c.reallocs 1 }

/-- RELOCATION: the sector is appended to the head's spare band and its entry recorded; with no entry
free the member is replaced by copy (R281, R282). -/
def execRelocation (berth member n : Nat) (s : State) : Host.Outcome State Fault Refusal :=
  .next (match berthAt s berth with
    | none => relocTaken s berth member n
    | some b =>
      match memberHead s b member with
      | none => s
      | some h =>
        if live s && !s.bw.started && s.rbld.relocPend.contains (berth, member, n) && decide (s.tbl.heads[h] = .inService) then
          if 262144 ≤ (otherRelocs s berth member n).length then
            addEntry (relocTaken (updRbld s fun e => { e with relocFull := true }) berth member n) b member h true
          else
            match openSpare s h with
            | none => s
            | some (p, s1) =>
              let s2 := freeSpares (relocTaken (placeReloc s1 p berth member n h) berth member n)
              if rowLostAt s berth (n / 64) (n % 64) member then markUnread s2 b [member] n else s2
        else s)

/-! ### Reshaping (R298 to R300) -/

/-- Stripes a reshape copies: those below START for a MOVE, all written ones for a LAYOUT (R299). -/
def reshapeTotal (s : State) (r : Reshape) : Nat :=
  if r.move then r.start
  else match r.oldBerth.bind (berthAt s) with
    | some b => b.finish.getD (layStripes b.layout)
    | none => 0

/-- The reads of the stripe a reshape copies next (R299). -/
def queueReshape (s : State) (r : Reshape) : State :=
  match r.oldBerth.bind (berthAt s) with
  | some b =>
    if r.copied < reshapeTotal s r then
      forEach ((survivors s b r.copied 0).filter fun x => decide (roleOf b.layout x.1 r.copied < layD b.layout)) s fun s x =>
        queueOp s (actOf s x.2.head)
          { cls := 3, head := x.2.head, track := x.2.track, slot := x.2.slot, count := 64, gen := x.2.gen, berth := b.id,
            member := x.1, n := 64 * r.copied }
    else s
  | none => s

/-- A reshape's stripe has been read and written: the next one follows (R299). -/
def reshapeStep (s : State) (b : Nat) : State :=
  match s.tbl.reshapes.find? fun r => decide (r.oldBerth = some b) with
  | some r =>
    if workLeft s 3 b (fun _ => true) ∨ reshapeTotal s r ≤ r.copied then s
    else
      let r1 := { r with copied := r.copied + 1 }
      queueReshape (updTbl s fun t => { t with reshapes := t.reshapes.map fun x => if x = r then r1 else x }) r1
  | none => s

/-- Copies in progress. -/
def copying (s : State) : Nat := (s.tbl.reshapes.filter fun r => r.oldBerth.isSome).length

/-- One more sealed zone berth of a namespace in LAYOUT reshape is taken (R298, R299). -/
def takeReshape (s : State) (r : Reshape) : State :=
  match s.tbl.berths.find? fun b => decide (b.kind = 0) && decide (b.nsid = r.target) && decide (b.layout ≠ r.layout) &&
      decide (b.st = .sealed) && !s.tbl.reshapes.any fun x => decide (x.oldBerth = some b.id) with
  | none => s
  | some b =>
    match bindBerth s 0 r.layout b.owner b.nsid with
    | none => s
    | some (nb, s1) =>
      let c : Reshape := { r with oldBerth := some b.id, newBerth := some nb, mb := none, copied := 0 }
      queueReshape (updTbl s1 fun t => { t with reshapes := t.reshapes ++ [c] }) c

/-- Up to RESHAPE_PAR berths reshape at once (R299). -/
def fillReshapes (s : State) : State :=
  forEach (s.tbl.reshapes.filter fun r => !r.move && r.oldBerth.isNone) s fun s r =>
    forEach (List.range s.rbld.par.reshapePar) s fun s _ => if copying s < s.rbld.par.reshapePar then takeReshape s r else s

/-- The segments of a new berth hold what was copied. -/
def settleSegs (s : State) (nb stripes : Nat) : State :=
  match berthAt s nb with
  | none => s
  | some b => forEach b.member s fun s i =>
    match segAt s i with
    | some g =>
      if g.opened ∨ stripes = 0 then s
      else
        let s1 := bumpGen s s.heads[g.head].surface
        updSeg s1 i fun x => { x with opened := true, gen := segGenOf s1 s.heads[g.head].surface, countN := 64 * stripes }
    | none => s

/-- The new berth as it stands at the switch. -/
def reshapedBerth (old : Berth) (r : Reshape) (b : Berth) : Berth :=
  if r.move then
    let w := advanceW (b.doneAhead.length + 1) (max b.wstripe r.start) b.doneAhead
    { b with wstripe := w.1, doneAhead := w.2, live := b.live + old.live, finish := old.finish, st := old.st, suspect := old.suspect }
  else
    let blocks := old.finish.getD (layStripes old.layout) * layBlocks old.layout
    let n := min ((blocks + layBlocks b.layout - 1) / layBlocks b.layout) (layStripes b.layout)
    { b with wstripe := n, finish := some n, live := old.live, st := .sealed }

/-- Everything that named the old berth names the new one (R299). -/
def pointTo (s : State) (old nb : Nat) : State :=
  let s1 := updTbl s fun t =>
    { t with zones := t.zones.map fun z => if z.berth = some old then { z with berth := some nb } else z,
             chart := t.chart.map fun e => if !e.cached ∧ e.loc / 2 ^ 18 = old then { e with loc := nb * 2 ^ 18 + e.loc % 2 ^ 18 } else e,
             chartMedia := t.chartMedia.map fun e => if e.loc / 2 ^ 18 = old then { e with loc := nb * 2 ^ 18 + e.loc % 2 ^ 18 } else e,
             chartDir := t.chartDir.map fun d => if d.2.2.1 = old then (d.1, d.2.1, nb, d.2.2.2) else d,
             builders := t.builders.map fun x => if x.berth = some old then { x with berth := some nb } else x }
  { s1 with cache := { s1.cache with blocks := s1.cache.blocks.map fun c =>
    { c with prev := c.prev.map fun p => if p.1 = old then (nb, p.2) else p,
             place := c.place.map fun p => if p.1 = old then (nb, p.2) else p } } }

/-- RESHAPE_SWITCH: the last copied stripe is COMPLETE, so the zone table points to the new berth and
the old berth is RELEASING (R299). -/
def execReshapeSwitch (berth : Nat) (s : State) : Host.Outcome State Fault Refusal :=
  .next (match s.tbl.reshapes.find? fun r => decide (r.oldBerth = some berth) with
    | some r =>
      match berthAt s berth, r.newBerth with
      | some old, some nb =>
        if live s && !s.bw.started && decide (reshapeTotal s r ≤ r.copied) && !workLeft s 3 berth (fun _ => true) then
          let s1 := settleSegs (updBerth s nb (reshapedBerth old r)) nb
            (match berthAt (updBerth s nb (reshapedBerth old r)) nb with | some b => if r.move then r.start else b.wstripe | none => 0)
          let s2 := releaseBerth (pointTo s1 berth nb) berth
          let s3 := updTbl s2 fun t => { t with reshapes := t.reshapes.erase r }
          let s4 := if r.move then
              (let s5 := raise s3 .reshapeDone 0 0x0B 0 berth nb
               match r.mb with | some (mb, q) => postDone s5 mb q 0 0 0 | none => s5)
            else s3
          reshapeEnd (fillReshapes s4)
        else s
      | _, _ => s
    | none => s)

/-- SHARE_WINDOW: a new 1 s window begins; parameters set since the last one take effect (R290, R304). -/
def execShareWindow (s : State) : Host.Outcome State Fault Refusal :=
  .next (if powered s then
      let s1 := updRbld s fun e => { e with par := e.parNext }
      let s2 := updCmds s1 fun c => { c with pilots := c.pilots.map fun p => { p with used := [], winUs := s.us } }
      if live s then reshapeEnd (fillReshapes s2) else s2
    else s)

/-! ### Checkpoint heads (R297) -/

/-- Tracks of one checkpoint window on a head from track `t`. -/
def ckptLen (s : State) (h : Hd) (t : Nat) : Nat :=
  let st := slotsAt s h t
  if st = 0 then 0 else (s.brtPar.ckptMib * 256 + st - 1) / st + s.brtPar.guard

/-- Two checkpoint windows taken on a head, if they are free. -/
def takeCkpt (s : State) (h : Hd) : Option State :=
  match findWindow s h (ckptLen s h) with
  | none => none
  | some w =>
    let s1 := takeTracks s h w.1 (w.1 + w.2 - 1)
    (findWindow s1 h (ckptLen s1 h)).map fun v => takeTracks s1 h v.1 (v.1 + v.2 - 1)

/-- The checkpoint head of copy `c`. -/
def ckptHead (s : State) (c : Nat) : Hd := if c = 0 then s.brtPar.ckptHeadA else s.brtPar.ckptHeadB

/-- The move of one copy whose head is out of service (R297); the drive configuration takes the new head. -/
def moveCkpt (s : State) (c : Nat) : State :=
  let old := ckptHead s c
  if s.tbl.heads[old] = .inService then s
  else
    let ok := sortHeads s (allHeads.filter fun h => headWritable s h && decide (actOf s h ≠ actOf s (ckptHead s (1 - c))) &&
      (takeCkpt s h).isSome)
    match ok.head?.bind fun h => (takeCkpt s h).map fun s1 => (h, s1) with
    | none => s
    | some (h, s1) =>
      let s2 := { s1 with brtPar := if c = 0 then { s1.brtPar with ckptHeadA := h } else { s1.brtPar with ckptHeadB := h } }
      let s3 := updNv s2 fun n => { n with config := .brtSetCkpt {} [(1 + c, [BitVec.ofNat 32 h.val])] :: n.config }
      let s4 := updBrt s3 fun e =>
        { e with ckptFull := (e.ckptFull.filter fun k => k ≠ c ∧ k ≠ 2 + c) ++ [c, 2 + c], ckptSingle := true }
      raise (updRbld s4 fun e => { e with ckptMoved := true }) .ckptMoved 2 0x0B 0 old.val h.val

/-- CHECKPOINT_HEAD_MOVE (R297). -/
def execCheckpointHeadMove (s : State) : Host.Outcome State Fault Refusal :=
  .next (if live s && !s.bw.started then moveCkpt (moveCkpt s 0) 1 else s)

/-! ### Messages (R275, R282, R285, R293, R294, R298, R302 to R304) -/

/-- The state of a STATE code. -/
def headStateOf (n : Nat) : HSt := if n = 1 then .writeRetired else if n = 2 then .failed else .inService

/-- A head returns to service without berth members (R275). -/
def serveHead (s : State) (h : Hd) : State :=
  let s1 := forEach (berthsOn s h) s fun s b =>
    forEach ((List.range (layN b.layout)).filter fun j => decide (memberHead s b j = some h)) s fun s j =>
      dropChain (updBerth s b.id fun x => { x with member := x.member.set j 4194303 }) (memberSegs s b j)
  updWhead (updHeadRec (updTbl s1 fun t =>
      { t with heads := vupd t.heads h fun _ => .inService, reasons := vupd t.reasons h fun _ => 8 }) h fun _ => {}) h
    fun w => { w with retired := false }

/-- The body of BRT_SET_HEAD (R275, R276). -/
def brtSetHead (head state : Nat) (s : State) : Ans :=
  if 2 < state then rangeA s
  else match selHead s head with
    | none => rangeA s
    | some h =>
      if state = 0 then (if s.tbl.heads[h] = .inService then okA s else okA (serveHead s h))
      else if s.tbl.heads[h] = headStateOf state then okA s
      else if mayDeclare s.tbl.heads[h] (headStateOf state) then okA (declareHead s h 8 (headStateOf state) 2)
      else conflictA s

def execBrtSetHead (r : Req) (head state : Nat) (s : State) : Host.Outcome State Fault Refusal :=
  .next (serve s r { opc := 0x0508, need := if state = 0 then .fa else .cf, setter := true } (.brtSetHead r head state)
    (brtSetHead head state))

/-- The body of BRT_SET_HEALTH (R304). -/
def brtSetHealth (ps : Params) (s : State) : Ans :=
  setA s [parN 1 16 fun v (p : RbldPar) => { p with headAcqMax := v },
          parN 1 65535 fun v p => { p with headUncMax := v },
          parN 64 65535 fun v p => { p with relocFail := v },
          parN 1 16 fun v p => { p with releaseMax := v },
          parN 1 64 fun v p => { p with actSeekMax := v },
          parB fun v p => { p with weakReloc := v }]
    (fun _ => []) ps s.rbld.parNext fun p => updRbld s fun e => { e with parNext := p }

def execBrtSetHealth (r : Req) (ps : Params) (s : State) : Host.Outcome State Fault Refusal :=
  .next (serve s r { opc := 0x0509, setter := true } (.brtSetHealth r ps) (brtSetHealth ps))

/-- The body of BRT_SET_REBUILD: REBUILD_CRIT is not below REBUILD_FLOOR (R304). -/
def brtSetRebuild (ps : Params) (s : State) : Ans :=
  setA s [parN 8 256 fun v (p : RbldPar) => { p with relocTracks := v },
          parN 1 50 fun v p => { p with rebuildFloor := v },
          parN 1 100 fun v p => { p with rebuildCrit := v },
          parN 0 50 fun v p => { p with reshapeShare := v },
          parN 1 16 fun v p => { p with reshapePar := v }]
    (fun p => [([1, 2], decide (p.rebuildFloor ≤ p.rebuildCrit))]) ps s.rbld.parNext
    fun p => updRbld s fun e => { e with parNext := p }

def execBrtSetRebuild (r : Req) (ps : Params) (s : State) : Host.Outcome State Fault Refusal :=
  .next (serve s r { opc := 0x050A, setter := true } (.brtSetRebuild r ps) (brtSetRebuild ps))

/-- Free slots of a surface, zone by zone (R298). -/
def freeSlots (s : State) (h : Hd) : Nat :=
  let sf := surfOf s h
  let starts := 0 :: sf.zoneMap
  starts.zipIdx.foldl (fun acc p =>
    let last := ((starts.drop (p.2 + 1)).head?).getD sf.tracks
    let used := (usedOn s s.heads[h].surface).foldl (fun a u => a + (min last (u.2 + 1) - max p.1 u.1)) 0
    acc + ((last - p.1) - used) * slotsAt s h p.1) 0

/-- Media sectors of one berth of a layout. -/
def berthSectors (c : Nat) : Nat := layStripes c * 64 * layN c

/-- The growth of a namespace under a new layout, with RESHAPE_PAR berths of it (R298). -/
def growth (s : State) (n : Ns) (layout : Nat) : Nat :=
  (n.size * layN layout / layD layout - n.size * layN n.layout / layD n.layout) + s.rbld.par.reshapePar * berthSectors layout

/-- The body of BRT_RESHAPE (R298). -/
def brtReshape (r : Req) (kind layout target : Nat) (s : State) : Ans :=
  if kind = 0 then
    if 2 < layout ∨ !layoutNeed s layout then rangeA s
    else match nsAt s target with
      | none => notFoundA s
      | some n =>
        if s.tbl.reshapes.any fun x => !x.move && decide (x.target = target) then conflictA s
        else if (allHeads.filter (headWritable s)).foldl (fun a h => a + freeSlots s h) 0 < growth s n layout then failA s 0x0011
        else
          let s1 := updNv s fun v => { v with namespaces := v.namespaces.map fun x =>
            if x.nsid = target then { x with layout := layout } else x }
          let s2 := updTbl s1 fun t => { t with reshapes := t.reshapes ++
            [{ move := false, target := target, layout := layout, mb := some (r.mb, r.seq) }] }
          { st := fillReshapes s2, status := 1 }
  else if kind = 1 then
    match berthAt s target with
    | none => notFoundA s
    | some b =>
      if b.st = .releasing ∨ (s.tbl.reshapes.any fun x => decide (x.oldBerth = some target)) then conflictA s
      else match startMove s target (some (r.mb, r.seq)) with
        | none => failA (noEligible s b.layout) 0x0011
        | some s1 =>
          let s2 := restartMoved s1
          { st := (match s2.tbl.reshapes.getLast? with | some x => queueReshape s2 x | none => s2), status := 1 }
  else rangeA s

def execBrtReshape (r : Req) (kind layout target : Nat) (s : State) : Host.Outcome State Fault Refusal :=
  .next (serve s r { opc := 0x050B, long := true } (.brtReshape r kind layout target) (brtReshape r kind layout target))

/-- BRT_RBLD as bytes (R285). -/
def rbldBytes (e : Rbld) : List Byte :=
  leBytes 32 (packF [(234, 22, e.replSeg), (224, 10, e.start), (214, 10, e.progress), (197, 17, e.berth), (192, 5, e.member),
    (187, 5, e.oldHead.val), (182, 5, e.newHead.val), (180, 2, b2n e.copy), (177, 3, e.st), (175, 2, e.margin), (159, 16, e.lostRows)])

/-- BRT_RELOC as bytes (R282). -/
def relocBytes (r : Reloc) : List Byte :=
  leBytes 16 (packF [(127, 1, 1), (110, 17, r.berth), (105, 5, r.member), (89, 16, r.n), (84, 5, r.head.val), (60, 24, r.track),
    (49, 11, r.slot), (28, 21, r.gen)])

/-- An entry with MARGIN 0 is WAITING or ACTIVE (R303). -/
def critical (s : State) : Bool := s.tbl.rblds.any fun e => entryLive e && decide (e.margin = 0)

/-- Members of a berth that lie on an actuator, each on its replacement while its entry is ACTIVE. -/
def spreadOn (s : State) (b : Berth) (a : Act) : Nat := membersOn s b (layN b.layout) a

/-- SPREAD_LOST: an AS6P2 berth has more than 2 members on an actuator (R296, R303). -/
def spreadLostNow (s : State) : Bool :=
  s.tbl.berths.any fun b => decide (b.layout = 2) && decide (b.st ≠ .releasing) && allActs.any fun a => decide (2 < spreadOn s b a)

/-- BRT_RBLD_STATUS (R303). -/
def rbldStatus (s : State) : Nat :=
  let e := s.rbld
  packF [(31, 1, b2n (rebuilding s)), (30, 1, b2n (decide (s.tbl.reshapes ≠ []))), (29, 1, b2n (critical s)),
    (28, 1, b2n e.noSpace), (27, 1, b2n (spreadLostNow s)), (26, 1, b2n (rebuilding s)), (23, 1, b2n e.headFailed),
    (22, 1, b2n e.headRetired), (21, 1, b2n e.actFailed), (20, 1, b2n e.rowLost), (19, 1, b2n e.berthLost),
    (18, 1, b2n e.lostOvf), (17, 1, b2n e.relocFull), (16, 1, b2n e.ckptMoved),
    (0, 16, min (s.tbl.rblds.filter entryLive).length 65535)]

/-- What reading BRT_RBLD_STATUS clears. -/
def rbldClear (k : BitVec 64) (e : RbldEng) : RbldEng :=
  { e with headFailed := w1c k 23 e.headFailed, headRetired := w1c k 22 e.headRetired, actFailed := w1c k 21 e.actFailed,
           rowLost := w1c k 20 e.rowLost, berthLost := w1c k 19 e.berthLost, lostOvf := w1c k 18 e.lostOvf,
           relocFull := w1c k 17 e.relocFull, ckptMoved := w1c k 16 e.ckptMoved }

/-- The body of BRT_GET_REBUILD. -/
def brtGetRebuild (berth : Nat) (clear : BitVec 64) (s : State) : Ans :=
  let es := (s.tbl.rblds.filter fun e => decide (e.berth = berth)).take 18
  dataA (updRbld s (rbldClear clear)) (leBytes 4 (rbldStatus s) ++ leBytes 4 es.length ++ es.flatMap rbldBytes)

def execBrtGetRebuild (r : Req) (berth : Nat) (clear : BitVec 64) (s : State) : Host.Outcome State Fault Refusal :=
  .next (serve s r { opc := 0x050C, need := .rd } (.brtGetRebuild r berth clear) (brtGetRebuild berth clear))

/-- The block indexes of the lost data roles of one entry (R294, R295). -/
def lostIndexes (b : Berth) (l : Lost) : List Nat :=
  let rows := if l.berthType then (List.range b.wstripe).flatMap fun st => (List.range 64).map fun k => (st, k)
    else [(l.stripe, l.row)]
  rows.flatMap fun p => (l.members.map fun j => roleOf b.layout j p.1).filterMap fun r =>
    if r < layD b.layout then some (blockOf b.layout p.1 r p.2) else none

/-- A block's place in its namespace, while it is still there (R294). -/
def lostLba (s : State) (b : Berth) (nsid i : Nat) : List Nat :=
  if b.kind = 0 then
    match s.tbl.zones.find? fun z => z.berth = some b.id with
    | some z => if z.nsid = nsid then [z.no * 262144 + i] else []
    | none => []
  else (s.tbl.chart.filter fun e => decide (e.nsid = nsid) && !e.cached && decide (e.loc = b.id * 2 ^ 18 + i)).map (·.lba)

/-- A number put in its place in an ascending list without repeats. -/
def insertAsc (n : Nat) : List Nat → List Nat
  | [] => [n]
  | x :: xs => if n < x then n :: x :: xs else if n = x then x :: xs else x :: insertAsc n xs

/-- The lost LBAs of a namespace, ascending (R294). -/
def lostLbas (s : State) (nsid : Nat) : List Nat :=
  (s.tbl.losts.flatMap fun l => match berthAt s l.berth with
    | some b => (lostIndexes b l).flatMap (lostLba s b nsid)
    | none => []).foldl (fun acc n => insertAsc n acc) []

/-- The body of BRT_GET_LOST. -/
def brtGetLost (nsid start : Nat) (s : State) : Ans :=
  if (nsAt s nsid).isNone then notFoundA s
  else
    let all := lostLbas s nsid
    let out := (all.drop start).take 250
    dataA s (leBytes 4 all.length ++ leBytes 4 out.length ++ out.flatMap (leBytes 8))

def execBrtGetLost (r : Req) (nsid start : Nat) (s : State) : Host.Outcome State Fault Refusal :=
  .next (serve s r { opc := 0x050D, need := .rd } (.brtGetLost r nsid start) (brtGetLost nsid start))

/-- The body of BRT_GET_RELOC: the entries of the table from INDEX, an entry not VALID as zeros. -/
def brtGetReloc (index : Nat) (s : State) : Ans :=
  if 262144 ≤ index then rangeA s
  else
    let n := min 120 (262144 - index)
    dataA s (leBytes 4 n ++ (List.range n).flatMap fun k =>
      match s.tbl.relocs.find? fun r => r.id = index + k with | some r => relocBytes r | none => leBytes 16 0)

def execBrtGetReloc (r : Req) (index : Nat) (s : State) : Host.Outcome State Fault Refusal :=
  .next (serve s r { opc := 0x050E, need := .rd } (.brtGetReloc r index) (brtGetReloc index))

/-- The body of BRT_GET_HEAD (R302). -/
def brtGetHead (head : Nat) (s : State) : Ans :=
  match selHead s head with
  | none => rangeA s
  | some h => getA s [(4, packF [(30, 2, headCode s.tbl.heads[h]), (26, 4, s.tbl.reasons[h])])]

def execBrtGetHead (r : Req) (head : Nat) (s : State) : Host.Outcome State Fault Refusal :=
  .next (serve s r { opc := 0x050F, need := .rd } (.brtGetHead r head) (brtGetHead head))

end Sys2Proof.Machine
end

