-- ==== Sys2Proof/Machine/Quay.lean ====
section
/-! DEFINITION. Quay: doorbells and their violations, the mooring cache, eligibility, the two arbiters'
choices, the cap window, the tally's minutes, and the Quay's messages (chapter 11, R357 to R359, R361). -/

namespace Sys2Proof.Machine

/-! ### Ports and queues -/

/-- The port of a function (R305). -/
def portOf (s : State) (f : Fn) : Fin 2 := if s.quay.x4 ∨ f.val < 512 then 0 else 1
/-- The PF of a function. -/
def pfOf (f : Fn) : Fn := if f.val < 512 then 0 else 512
/-- A function is a PF. -/
def isPf (f : Fn) : Bool := decide (f.val = 0) || decide (f.val = 512)

/-! ### What a port and a controller report (R306, R307, R309, R314)

The offsets in the configuration space of a register field are those of the standards the rules name (PRESUMED,
log entry 204). -/

/-- The offset of a PF's first VF: 1 in ×2 mode, in ×4 mode 2 for PF0 and 512 for PF1; the VF stride is 1 (R306). -/
def firstVfOffset (x4 : Bool) (pf : Fn) : Nat := if !x4 then 1 else if pf = 0 then 2 else 512

/-- The routing identifier of a function on its port: the PFs of a port come first, then their VFs (R305, R306). -/
def routingId (x4 : Bool) (f : Fn) : Nat :=
  let pfId := if x4 ∧ pfOf f = 512 then 1 else 0
  if isPf f then pfId else pfId + firstVfOffset x4 (pfOf f) + (f.val - (pfOf f).val - 1)

/-- The bytes of a function's BAR pair 0/1 and 4/5; 2/3 is the mailbox's, which a VF lacks (R307, R413). -/
def barBytes (f : Fn) (bar : Nat) : Nat :=
  if bar = 0 then 1048576 else if bar = 4 then 65536 else if bar = 2 ∧ isPf f then 262144 else 0

/-- The offset of a doorbell in BAR0 (R314). -/
def doorbellOffset (qid : Nat) (cq : Bool) : Nat := 0x1000 + 8 * qid + (if cq then 4 else 0)

/-- CAP: MQES, CQR, AMS, TO, DSTRD, NSSRS, CSS, MPSMIN and MPSMAX (R309). -/
def capReg : Nat :=
  packF [(0, 16, 0xFFFF), (16, 1, 1), (17, 2, 1), (24, 8, 120), (32, 4, 0), (36, 1, 1), (37, 8, 0x41), (48, 4, 0), (52, 4, 0)]

/-- VS (R309). -/
def vsReg : Nat := 0x00020000

/-- CSTS of a controller: RDY, CFS (R519, R520, R522). -/
def cstsReg (s : State) (f : Fn) : Nat := packF [(0, 1, b2n (fnOf s f).rdy), (1, 1, b2n (fnOf s f).cfs)]

/-- A 32-bit register of BAR0: CAP, VS, CC.EN and CC.AMS, CSTS; doorbells and every other place read 0 (R309, R314). -/
def bar0Reg (s : State) (f : Fn) (offset : Nat) : Nat :=
  if offset = 0x00 then capReg % 2 ^ 32
  else if offset = 0x04 then capReg / 2 ^ 32
  else if offset = 0x08 then vsReg
  else if offset = 0x14 then packF [(0, 1, b2n (fnOf s f).en), (11, 3, (fnOf s f).ams), (16, 4, 6), (20, 4, 4)]
  else if offset = 0x1C then cstsReg s f
  else 0

/-! ### Serving -/

/-- The NVMe personality serves (R305). -/
def nvmeUp (s : State) : Bool := live s && !s.bw.started && !s.quay.disabled && !s.quay.sas
/-- The SAS personality serves (R305). -/
def sasUp (s : State) : Bool := live s && !s.bw.started && !s.quay.disabled && s.quay.sas

/-- A mooring can be used at once: compact mode holds all on chip (R311, R313). -/
def moorReady (s : State) (f : Fn) (qid : Nat) : Bool := !s.quay.par.full || s.quay.cache.contains (f, qid)

/-- A fetch of the queue is in progress, so its cache entry is pinned (R313). -/
def pinned (s : State) (e : Fn × Nat) : Bool := s.quay.grants.contains e

/-- The entry leaves a full mooring cache that is least recently used and not pinned (R313). -/
def evictCache (s : State) (l : List (Fn × Nat)) : List (Fn × Nat) :=
  if l.length < 4096 then l
  else match l.reverse.find? fun e => !pinned s e with
    | some e => l.erase e
    | none => l

/-- A mooring is used: it becomes the most recent entry of the cache (R313). -/
def touchMoor (s : State) (f : Fn) (qid : Nat) : State :=
  if s.quay.par.full then
    updQuay s fun q => { q with cache := (f, qid) :: (if q.cache.contains (f, qid) then q.cache.erase (f, qid) else evictCache s q.cache) }
  else s

/-! ### Eligibility (R315, R318, R319, R344) -/

/-- A submission queue has an entry to grant. -/
def hasEntry (m : Mooring) : Bool := decide (m.st = 1) && m.sqMade && decide (m.sqFetch ≠ m.sqTail)

/-- The queues of a function with an entry that the fetch engine can read. -/
def openQueues (s : State) (f : Fn) : List Mooring :=
  s.quay.moorings.filter fun m => decide (m.func = f) && hasEntry m && moorReady s f m.qid

/-- The next identifier at or after a rotating pointer (R24, R316). -/
def nextQid (ptr : Nat) (qs : List Nat) : Option Nat :=
  qs.foldl (fun o q => match o with
    | some b => if (q + 65536 - ptr) % 65536 < (b + 65536 - ptr) % 65536 then some q else some b
    | none => some q) none

/-- The class of an I/O queue: 0 urgent, 1 high, 2 medium, 3 low; one class without weights (R316). -/
def classOf (x : Func) (m : Mooring) : Nat := if x.ams = 1 then m.qprio else 1

/-- Grants left to a class in the round (R316). -/
def leftOf (x : Func) (c : Nat) : Nat := if c = 1 then x.hLeft else if c = 2 then x.mLeft else x.lLeft

/-- A new round of grants (R316). -/
def newRound (x : Func) : Func := { x with hLeft := x.hpw + 1, mLeft := x.mpw + 1, lLeft := x.lpw + 1 }

/-- The class that is served next: urgent, else the first with an entry and grants left (R316). -/
def nextClass (x : Func) (cs : List Nat) : Option Nat :=
  if cs.contains 0 then some 0 else [1, 2, 3].find? fun c => cs.contains c && decide (0 < leftOf x c)

/-- The queue a function's own arbiter chooses, and the function's arbiter with it (R316). -/
def chooseQueue (s : State) (f : Fn) : Option (Mooring × Func) :=
  let x := fnOf s f
  let ms := openQueues s f
  match ms.find? fun m => m.qid = 0 with
  | some m => some (m, x)
  | none =>
    let cs := ms.map (classOf x)
    let y := if (nextClass x cs).isSome then x else newRound x
    match nextClass y cs with
    | none => none
    | some c =>
      match nextQid y.qPtr ((ms.filter fun m => classOf y m = c).map (·.qid)) with
      | none => none
      | some q => (ms.find? fun m => m.qid = q).map fun m => (m, y)

/-- The function's arbiter after a grant to queue `m`: the queue keeps the grant for up to 2^AB
entries, and a weighted class has one grant less (R316). -/
def grantedQueue (x : Func) (m : Mooring) : Func × Nat :=
  if m.qid = 0 then (x, 0)
  else
    let n := m.granted + 1
    let more := decide (x.ab = 7 ∨ n < 2 ^ x.ab) && decide ((m.sqFetch + 1) % (m.sqSize + 1) ≠ m.sqTail)
    let c := classOf x m
    ({ x with qPtr := if more then m.qid else (m.qid + 1) % 65536,
              hLeft := if c = 1 then x.hLeft - 1 else x.hLeft,
              mLeft := if c = 2 then x.mLeft - 1 else x.mLeft,
              lLeft := if c = 3 then x.lLeft - 1 else x.lLeft }, if more then n else 0)

/-- The SAS commands of a logical unit that wait for the arbiter (R323). -/
def sasWaiting (s : State) (f : Fn) : List TagRec := s.cmds.tags.filter fun r => decide (r.func = f) && r.await

/-- The next command of a function would be admitted (R344). -/
def admits (s : State) (f : Fn) (admin : Bool) : Bool :=
  (if admin then decide (0 < freeTags s) else decide (s.quay.par.adminRes < freeTags s)) &&
    decide (tagsOf s f < (fnOf s f).tagLimit)

/-- A function has a command that its admission limits would accept, its cap apart (R315, R344). -/
def offers (s : State) (f : Fn) : Bool :=
  let x := fnOf s f
  live s && !s.bw.started && !s.quay.stopFetch && decide (s.fw.slip ≠ .paused) && !x.reinit &&
    (if s.quay.sas then decide (sasWaiting s f ≠ [])
     else x.en && x.rdy && !x.d3 &&
      (match openQueues s f with | [] => false | ms => admits s f (ms.any fun m => decide (m.qid = 0))))

/-- A function has reached its media-time cap (R319). -/
def capped (s : State) (f : Fn) : Bool :=
  let x := fnOf s f
  decide (0 < x.allot.mtCap) && decide (x.allot.mtCap * 40000 ≤ x.mtUsed)

/-- The functions with a record. -/
def knownFns (s : State) : List Fn := s.quay.funcs.map (·.idx)

/-- A function is eligible: its cap holds it only while another is eligible, or always when hard (R319). -/
def isEligible (s : State) (f : Fn) : Bool :=
  offers s f && (!capped s f ||
    (!(fnOf s f).allot.capHard && !(knownFns s).any fun g => decide (g ≠ f) && offers s g && !capped s g))

/-- K(f) (R318). -/
def keyOf (x : Func) : Int := max x.aC (max x.aB x.aM)

/-- The smallest of a list of keys. -/
def minKey : List Int → Option Int
  | [] => none
  | k :: ks => match minKey ks with | some m => some (min k m) | none => some k

/-- V of R318: the smallest key of the functions that stayed eligible, else that of the last granted. -/
def virtualKey (s : State) (now : List Fn) : Int :=
  match minKey ((s.quay.funcs.filter fun x => x.eligible && now.contains x.idx).map keyOf) with
  | some k => k
  | none => match s.quay.lastFn with | some f => keyOf (fnOf s f) | none => 0

/-- The accounts raised to at least `v`. -/
def raiseTo (v : Int) (x : Func) : Func := { x with aC := max x.aC v, aB := max x.aB v, aM := max x.aM v }

/-- Held time of a function up to now enters the open minute (R334). -/
def addHeld (s : State) (x : Func) : State :=
  match x.capSince with
  | some t => tallyF s x.idx fun r => { r with heldUs := r.heldUs + (s.us - t) }
  | none => s

/-- The arbiter looks again: eligibility, the accounts of functions newly eligible, and the time a cap
holds a function (R318, R319). -/
def refresh (s : State) : State :=
  let now := (knownFns s).filter (isEligible s)
  let v := virtualKey s now
  let held := fun f : Fn => offers s f && capped s f && !now.contains f
  let ended := s.quay.funcs.filter fun x => x.capHeld && !held x.idx
  let s1 := ended.foldl addHeld s
  let f := fun x : Func =>
    let e := now.contains x.idx
    let y := if e && !x.eligible then raiseTo v x else x
    { y with eligible := e, capHeld := held x.idx,
             capSince := if held x.idx then (if x.capHeld then x.capSince else some s.us) else none }
  updQuay s1 fun q => { q with funcs := q.funcs.map f }

/-- The eligible function with the smallest key, ties by the rotating pointer (R24, R318). -/
def chooseFn (s : State) : Option Fn :=
  let dist := fun f : Fn => (f.val + 1024 - s.quay.funcPtr) % 1024
  ((s.quay.funcs.filter (·.eligible)).foldl (fun (o : Option Func) x => match o with
    | some b => if keyOf x < keyOf b ∨ (keyOf x = keyOf b ∧ dist x.idx < dist b.idx) then some x else some b
    | none => some x) none).map (·.idx)

/-- When an account exceeds 2^62 the same power of two is taken from every account (R318). -/
def rescale (s : State) : State :=
  if s.quay.funcs.any fun x => decide ((2 ^ 62 : Int) < x.aC) || decide ((2 ^ 62 : Int) < x.aB) || decide ((2 ^ 62 : Int) < x.aM) then
    updQuay s fun q => { q with funcs := q.funcs.map fun x =>
      { x with aC := x.aC - 2 ^ 61, aB := x.aB - 2 ^ 61, aM := x.aM - 2 ^ 61 } }
  else s

/-- The charge of one command to A_C (R317). -/
def chargeC (s : State) (f : Fn) : State :=
  updFn s f fun x => { x with aC := x.aC + 2 ^ 48 / (s.quay.par.cmdCap * max x.allot.wCmd 1 : Nat) }

/-- The charge of `n` blocks to A_B (R317). -/
def chargeB (s : State) (f : Fn) (n : Nat) : State :=
  updFn s f fun x => { x with aB := x.aB + (n * 2 ^ 48 : Nat) / (s.quay.par.blkCap * max x.allot.wByte 1 : Nat) }

/-! ### Queue protocol violations (R357 to R359) -/

/-- A violation: a log entry, the event, and in full mode a frozen queue (R358). -/
def violate (s : State) (f : Fn) (qid value info : Nat) : State :=
  let s1 := logErr s f qid 0xFFFF 0 0 (value + info * 2 ^ 32)
  let s2 := if s.quay.par.full ∧ info ≠ 0 then updMoor s1 f qid fun m => if m.st = 1 then { m with st := 2 } else m else s1
  asyncEvent s2 f 0 info 1

/-- What a doorbell write is, against its mooring: no mooring for it, a wrong value, ignored, or accepted (R357). -/
inductive DbCheck where
  | absent
  | wrong
  | ignored
  | ok (m : Mooring)
  deriving DecidableEq, Repr

/-- The check of a doorbell write (R357, R358, R352). -/
def checkDb (s : State) (d : DbWrite) : DbCheck :=
  match moorAt s d.func d.qid with
  | none => .absent
  | some m =>
    if m.st = 0 ∨ (if d.cq then !m.cqMade else !m.sqMade) then .absent
    else if !d.cq ∧ (m.st = 2 ∨ m.st = 3) then .ignored
    else if d.cq then
      let n := m.cqSize + 1
      if 65536 ≤ d.value ∨ m.cqSize < d.value ∨
          (m.cqTail + n - m.cqHead) % n < (m.cqTail + n - d.value) % n then .wrong else .ok m
    else
      let n := m.sqSize + 1
      if 65536 ≤ d.value ∨ m.sqSize < d.value ∨
          (d.value + n - m.sqFetch) % n < (m.sqTail + n - m.sqFetch) % n then .wrong else .ok m

/-- A doorbell write takes effect (R314, R357, R358). -/
def applyDb (s : State) (d : DbWrite) : State :=
  match checkDb s d with
  | .absent => violate s d.func d.qid d.value 0
  | .wrong => violate s d.func d.qid d.value 1
  | .ignored => s
  | .ok _ =>
    refresh (touchMoor (updMoor s d.func d.qid fun m =>
      if d.cq then { m with cqHead := d.value } else { m with sqTail := d.value }) d.func d.qid)

/-- Entries of a port's doorbell FIFO (R314). -/
def fifoDepth : Nat := 2048

/-- The port withholds posted-header credits: its doorbell FIFO is full (R314). -/
def creditsHeld (s : State) (p : Fin 2) : Bool := decide (fifoDepth ≤ s.quay.fifos[p].length)

/-- A doorbell write arrives at its port: in full mode a write to a mooring that is not in the cache,
or that follows one, waits in the FIFO. A full FIFO delays the write and never drops it: an entry beyond
`fifoDepth` is one that the port holds back by its credits, still in arrival order (R314; log entry 203). -/
def arriveDb (s : State) (d : DbWrite) : State :=
  let p := portOf s d.func
  if s.quay.par.full && (moorAt s d.func d.qid).isSome &&
      (!moorReady s d.func d.qid || s.quay.fifos[p].any fun x => decide (x.func = d.func) && decide (x.qid = d.qid)) then
    updQuay s fun q => { q with fifos := vupd q.fifos p fun l => l ++ [d] }
  else applyDb s d

/-- SQ_TAIL_DOORBELL (R314, R357). -/
def execSqTailDoorbell (f : Fn) (qid value : Nat) (s : State) : Host.Outcome State Fault Refusal :=
  .next (if nvmeUp s && decide (qid < 65536) then arriveDb s { func := f, qid := qid, value := value % 2 ^ 32 } else s)

/-- CQ_HEAD_DOORBELL (R314, R357). -/
def execCqHeadDoorbell (f : Fn) (qid value : Nat) (s : State) : Host.Outcome State Fault Refusal :=
  .next (if nvmeUp s && decide (qid < 65536) then arriveDb s { func := f, qid := qid, cq := true, value := value % 2 ^ 32 } else s)

/-- The writes of a FIFO whose moorings are filled are applied, in arrival order. -/
def drainFifo (s : State) (p : Fin 2) : State :=
  let go := s.quay.fifos[p].filter fun d => moorReady s d.func d.qid || (moorAt s d.func d.qid).isNone
  let s1 := updQuay s fun q => { q with fifos := vupd q.fifos p fun l => l.filter fun d => !go.contains d }
  go.foldl applyDb s1

/-- DOORBELL_FIFO_APPLY (R314). -/
def execDoorbellFifoApply (port : Fin 2) (s : State) : Host.Outcome State Fault Refusal :=
  .next (if nvmeUp s then drainFifo s port else s)

/-! ### CAP_WINDOW and the tally's minutes -/

/-- CAP_WINDOW: a new 1 s window (R319). -/
def execCapWindow (s : State) : Host.Outcome State Fault Refusal :=
  .next (if powered s then refresh (updQuay s fun q => { q with funcs := q.funcs.map fun x => { x with mtUsed := 0 } }) else s)

/-- TALLY_MINUTE_CLOSE: the open minute of every ring closes and the next begins (R333 to R335). -/
def execTallyMinuteClose (s : State) : Host.Outcome State Fault Refusal :=
  .next (if powered s then
      let s1 := s.quay.funcs.foldl addHeld s
      let part := s1.quay.tally.cutDue
      updQuay s1 fun q =>
        { q with funcs := q.funcs.map fun x => { x with capSince := x.capSince.map fun _ => s.us },
                 tally := { q.tally with
                   rings := (allRings s1).map (closeRing s1 part), suspectMin := false,
                   calendar := q.tally.calendar || part, cutDue := false,
                   startMs := (calNow s).getD 0, startValid := s.aon.calendar.isSome } }
    else s)

/-- A tally record as bytes 0 to 59 (R334). -/
def tallyBody (r : TRec) : List Byte :=
  leBytes 6 r.timestamp ++ leBytes 2 (packF [(13, 1, b2n r.tsValid), (14, 1, b2n r.partialMin), (15, 1, b2n r.suspect)]) ++
  leBytes 4 r.minute ++ leBytes 4 r.reads ++ leBytes 4 r.writes ++ leBytes 4 r.other ++ leBytes 8 r.bytesRead ++
  leBytes 8 r.bytesWritten ++ leBytes 4 r.actRead ++ leBytes 4 r.actWrite ++ leBytes 4 r.actOther ++ leBytes 4 r.energy ++
  leBytes 4 r.heldUs

/-- A tally record with its CHECK; one whose line was poisoned reads as zeros with a CHECK that fails
(R334, R370). -/
def tallyBytes (r : TRec) : List Byte :=
  let zeros := List.replicate 60 (0 : Byte)
  if r.bad then zeros ++ leBytes 4 (~~~(crc32c zeros)).toNat
  else tallyBody r ++ leBytes 4 (crc32c (tallyBody r)).toNat

/-- The closed records of a ring, newest first. -/
def closedOf (s : State) (key : Nat) : List TRec := ((s.quay.tally.rings.find? fun r => r.key = key).map (·.closed)).getD []

/-! ### Messages -/

/-- The body of QUAY_SET_MOORMODE. -/
def quayMoormode (fullNext : Nat) (s : State) : Ans :=
  if 1 < fullNext then rangeA s
  else okA (updNv (updQuay s fun q => { q with par := { q.par with fullNext := decide (fullNext = 1) } }) fun n =>
    { n with fullNext := decide (fullNext = 1) })

/-- QUAY_SET_MOORMODE: FULL_NEXT, recorded in NOR (R311). -/
def execQuaySetMoormode (r : Req) (fullNext : Nat) (s : State) : Host.Outcome State Fault Refusal :=
  .next (serve s r { opc := 0x0101, setter := true, writesNor := true } (.quaySetMoormode r fullNext) (quayMoormode fullNext))

/-- QUAY_SET_ARB's list (R337). -/
def arbPars : List (Par QuayPar) :=
  [parN 10000 1000000 fun v p => { p with cmdCap := v },
   parN 100000 2000000 fun v p => { p with blkCap := v },
   parN 100 20000 fun v p => { p with mtEstRd := v },
   parN 1 100 fun v p => { p with mtEstWr := v }]

/-- The body of QUAY_SET_ARB. -/
def quayArb (ps : Params) (s : State) : Ans :=
  setA s arbPars (fun _ => []) ps s.quay.par fun p => updQuay s fun q => { q with par := p }

def execQuaySetArb (r : Req) (ps : Params) (s : State) : Host.Outcome State Fault Refusal :=
  .next (serve s r { opc := 0x0102, setter := true } (.quaySetArb r ps) (quayArb ps))

/-- The allotment of a QUAY_ALLOT word (R322). -/
def allotOf (w : Nat) : Allot :=
  { wMedia := fld w 48 16, wByte := fld w 32 16, wCmd := fld w 16 16, mtCap := fld w 8 8, capHard := bitAt w 7 }

/-- The QUAY_ALLOT word of an allotment. -/
def allotWord (a : Allot) : Nat :=
  packF [(48, 16, a.wMedia), (32, 16, a.wByte), (16, 16, a.wCmd), (8, 8, a.mtCap), (7, 1, b2n a.capHard)]

/-- The body of QUAY_SET_ALLOT: no weight 0, MT_CAP at most 100 (R322). -/
def quayAllot (func : Nat) (word : BitVec 64) (s : State) : Ans :=
  match selFn func with
  | none => notFoundA s
  | some f =>
    let a := allotOf word.toNat
    if fld word.toNat 0 7 ≠ 0 then malformedA s 40
    else if a.wMedia = 0 ∨ a.wByte = 0 ∨ a.wCmd = 0 ∨ 100 < a.mtCap then rangeA s
    else okA (refresh (updFn s f fun x => { x with allot := a }))

def execQuaySetAllot (r : Req) (func : Nat) (word : BitVec 64) (s : State) : Host.Outcome State Fault Refusal :=
  .next (serve s r { opc := 0x0103, need := .op, scope := some func, setter := true } (.quaySetAllot r func word) (quayAllot func word))

/-- The body of QUAY_GET_ALLOT. -/
def quayGetAllot (func : Nat) (s : State) : Ans :=
  match selFn func with
  | none => notFoundA s
  | some f => getA s [(8, allotWord (fnOf s f).allot)]

def execQuayGetAllot (r : Req) (func : Nat) (s : State) : Host.Outcome State Fault Refusal :=
  .next (serve s r { opc := 0x0104, need := .rd, scope := some func } (.quayGetAllot r func) (quayGetAllot func))

/-- QUAY_SET_ADMIT's list: ADMIN_RES, TAG_LIMIT of the function, PILOT_AGE (R361). -/
def admitPars : List (Par (QuayPar × Nat)) :=
  [parN 8 256 fun v p => ({ p.1 with adminRes := v }, p.2),
   parN 1 4096 fun v p => (p.1, v),
   parN 50 10000 fun v p => ({ p.1 with pilotAge := v }, p.2)]

/-- The body of QUAY_SET_ADMIT: TAG_LIMIT at most 4,096 - ADMIN_RES (R361). -/
def quayAdmit (func : Nat) (ps : Params) (s : State) : Ans :=
  match selFn func with
  | none => notFoundA s
  | some f =>
    setA s admitPars (fun p => [([0, 1], decide (p.2 + p.1.adminRes ≤ 4096) || !ps.any fun e => decide (e.1 ≤ 1))]) ps
      (s.quay.par, (fnOf s f).tagLimit) fun p =>
        refresh (updFn (updQuay s fun q => { q with par := p.1 }) f fun x => { x with tagLimit := p.2 })

def execQuaySetAdmit (r : Req) (func : Nat) (ps : Params) (s : State) : Host.Outcome State Fault Refusal :=
  .next (serve s r { opc := 0x0105, need := if ps.all fun e => decide (e.1 = 1) then .op else .cf, scope := some func, setter := true }
    (.quaySetAdmit r func ps) (quayAdmit func ps))

/-- The body of QUAY_SET_DRIVE_POWER: PS0's maximum power, with PERSIST = 1 (R309, R337). -/
def quayPower (r : Req) (maxpwr : Nat) (s : State) : Ans :=
  if !r.persist then malformedA s 3
  else if maxpwr < 100 ∨ 6000 < maxpwr then rangeA s
  else okA (updQuay s fun q => { q with par := { q.par with maxPower := maxpwr } })

def execQuaySetDrivePower (r : Req) (maxpwr : Nat) (s : State) : Host.Outcome State Fault Refusal :=
  .next (serve s r { opc := 0x010A, need := .fa, setter := true } (.quaySetDrivePower r maxpwr) (quayPower r maxpwr))

/-- A mooring as bytes (R312). -/
def moorBytes (m : Mooring) : List Byte :=
  leBytes 64 (packF [(448, 64, m.sqBase), (384, 64, m.cqBase), (368, 16, m.sqSize), (352, 16, m.cqSize), (336, 16, m.sqTail),
    (320, 16, m.sqFetch), (304, 16, m.cqTail), (288, 16, m.cqHead), (277, 11, m.vector), (276, 1, b2n m.ien),
    (275, 1, b2n m.phase), (272, 3, m.st), (262, 10, m.func.val), (260, 2, m.qprio), (240, 16, m.qid), (228, 12, m.inflight)])

/-- The body of QUAY_GET_MOORING: a queue without a mooring, or a function that does not exist, is NOT_FOUND. -/
def quayMooring (func qid : Nat) (s : State) : Ans :=
  match selFn func with
  | none => notFoundA s
  | some f =>
    if 65535 < qid then rangeA s
    else match moorAt s f qid with
      | some m => dataA s (moorBytes m)
      | none => notFoundA s

def execQuayGetMooring (r : Req) (func qid : Nat) (s : State) : Host.Outcome State Fault Refusal :=
  .next (serve s r { opc := 0x0907, need := .rd, scope := some func } (.quayGetMooring r func qid) (quayMooring func qid))

/-- The record of a tag (R340); a FREE tag reads its reset values. -/
def tagWord (s : State) (t : Tag) : Nat :=
  match tagAt s t with
  | some r => packF [(61, 3, r.stage), (60, 1, b2n r.latch), (59, 1, b2n r.aborted), (58, 1, b2n r.held), (57, 1, b2n r.parked),
      (47, 10, r.func.val), (31, 16, r.qid), (15, 16, r.cid), (5, 10, r.ops), (2, 3, r.kind)]
  | none => 0

/-- The function of a tag in use. -/
def tagFunc (s : State) (tag : Nat) : Option Nat := (s.cmds.tags.find? fun r => r.tag.val = tag).map fun r => r.func.val

/-- The body of QUAY_GET_TAG. -/
def quayTag (tag : Nat) (s : State) : Ans :=
  if h : tag < 4096 then getA s [(8, tagWord s ⟨tag, h⟩)] else notFoundA s

def execQuayGetTag (r : Req) (tag : Nat) (s : State) : Host.Outcome State Fault Refusal :=
  .next (serve s r { opc := 0x0908, need := .rd, scope := tagFunc s tag } (.quayGetTag r tag) (quayTag tag))

/-- The privilege and scope of a tally message: device records need CONFIGURE on mailboxes 0 and 1 (R435). -/
def tallyNeed (mb : Mb) (func : Nat) (n : Need) : Need := if 1024 ≤ func ∧ mb.val < 2 then .cf else n

/-- The body of TALLY_READ: HELD, COUNT, then the records from the START-th newest (R336). -/
def tallyRead (func start count : Nat) (s : State) : Ans :=
  if 1025 < func then notFoundA s
  else if 31 < count then rangeA s
  else
    let all := closedOf s func
    let out := (all.drop start).take count
    dataA s (leBytes 2 all.length ++ leBytes 1 out.length ++ out.flatMap tallyBytes)

def execTallyRead (r : Req) (func start count : Nat) (s : State) : Host.Outcome State Fault Refusal :=
  .next (serve s r { opc := 0x0801, need := tallyNeed r.mb func .rd, scope := if func < 1024 then some func else none }
    (.tallyRead r func start count) (tallyRead func start count))

/-- The body of TALLY_CLEAR: one ring restarts empty; its next record carries PARTIAL (R335). -/
def tallyClear (func : Nat) (s : State) : Ans :=
  if 1025 < func then notFoundA s
  else okA (updRing s func fun x => { x with closed := [], nextPartial := true })

def execTallyClear (r : Req) (func : Nat) (s : State) : Host.Outcome State Fault Refusal :=
  .next (serve s r { opc := 0x0802, need := if 1024 ≤ func then .cf else .op, scope := if func < 1024 then some func else none }
    (.tallyClear r func) (tallyClear func))

end Sys2Proof.Machine
end

