-- ==== Sys2Proof/Machine/Life.lean ====
section
/-! DEFINITION. Life: what a command names, who waits for whom, protection information and encryption,
zones, the write-cache index, lookups, and how a command ends (chapter 12, R252 to R259, R262, R326 to
R331, R536). -/

namespace Sys2Proof.Machine

/-! ### What a command names -/

/-- What an I/O command is to the ordering and admission rules. -/
inductive IoOp where
  | read | verify | write | zeroes | append | dealloc | zone | flush | other
  deriving DecidableEq, Repr

/-- The I/O operation of an opcode, NVMe or SCSI (R324). -/
def ioOp (sas : Bool) (c : HostCmd) : IoOp :=
  if sas then
    (if c.opc = 0x88 then .read else if c.opc = 0x8A then .write else if c.opc = 0x8F then .verify
     else if c.opc = 0x42 then .dealloc else if c.opc = 0x94 then .zone else if c.opc = 0x91 then .flush else .other)
  else if c.opc = 0x02 then .read else if c.opc = 0x01 then .write else if c.opc = 0x08 then .zeroes
  else if c.opc = 0x09 then .dealloc else if c.opc = 0x0C then .verify else if c.opc = 0x7D then .append
  else if c.opc = 0x79 then .zone else if c.opc = 0x00 then .flush else .other

/-- SCSI operation codes of R324 that are not I/O of the logical unit's data: they count as admin work. -/
def sasAdminOps : List Nat := [0x12, 0xA0, 0x00, 0x03, 0x9E, 0x5A, 0x55, 0x4D, 0x1B, 0x3B, 0x3C, 0xA2, 0xB5, 0x04, 0x48, 0xC0, 0xC1]

/-- A command is an I/O command. -/
def isIo (s : State) (r : TagRec) : Bool := if s.quay.sas then !sasAdminOps.contains r.cmd.opc else decide (r.qid ≠ 0)

/-- The I/O operation of a tag; an admin command is `other`. -/
def opOf (s : State) (r : TagRec) : IoOp := if isIo s r then ioOp s.quay.sas r.cmd else .other

/-- The namespace a command names (R305: logical unit n presents namespace n + 1). -/
def nsidOf (s : State) (r : TagRec) : Nat := if s.quay.sas then r.func.val + 1 else r.cmd.nsid

/-- First block of a command. -/
def slbaOf (c : HostCmd) : Nat := c.dw10 + c.dw11 * 2 ^ 32

/-- Blocks of a command. -/
def nlbOf (sas : Bool) (c : HostCmd) : Nat := if sas then c.dw12 else c.dw12 % 65536 + 1

/-- A number whose bytes are given high byte first. -/
def beNat (bs : List Byte) : Nat := bs.foldl (fun a b => a * 256 + b.toNat) 0
/-- `n` bytes of `v`, high byte first. -/
def beBytes (n v : Nat) : List Byte := (leBytes n v).reverse

/-- The ranges of a deallocation, (first block, blocks), as Dataset Management or UNMAP lists them. -/
def deallocRanges (sas : Bool) (c : HostCmd) : List (Nat × Nat) :=
  if sas then
    (List.range ((c.data.length - 8) / 16)).map fun i =>
      let d := (c.data.drop (8 + 16 * i)).take 16
      (beNat (d.take 8), beNat ((d.drop 8).take 4))
  else
    (List.range (min (c.dw10 % 256 + 1) (c.data.length / 16))).map fun i =>
      let d := (c.data.drop (16 * i)).take 16
      (leNat (d.drop 8), leNat ((d.drop 4).take 4))

/-- A zone command names every zone. -/
def allZonesAct (sas : Bool) (c : HostCmd) : Bool := if sas then bitAt c.dw15 0 else bitAt c.dw13 8

/-- The block ranges of a tag's command. -/
def rangesOf (s : State) (r : TagRec) : List (Nat × Nat) :=
  match opOf s r with
  | .read | .verify | .write | .zeroes => [(slbaOf r.cmd, nlbOf s.quay.sas r.cmd)]
  | .append => (match r.taken with | some x => [(x.2.1, x.2.2)] | none => [(slbaOf r.cmd, 262144)])
  | .dealloc => deallocRanges s.quay.sas r.cmd
  | .zone => if allZonesAct s.quay.sas r.cmd then [(0, 2 ^ 36)] else [(slbaOf r.cmd / 262144 * 262144, 262144)]
  | _ => []

/-- Two ranges intersect. -/
def meets (a b : Nat × Nat) : Bool := decide (a.1 < b.1 + b.2) && decide (b.1 < a.1 + a.2)

/-- Two commands overlap (R348). -/
def overlap (s : State) (a b : TagRec) : Bool :=
  decide (nsidOf s a = nsidOf s b) && (rangesOf s a).any fun x => (rangesOf s b).any (meets x)

/-- The operation counts as a write (R348). -/
def writesOp : IoOp → Bool
  | .write | .zeroes | .append | .dealloc => true
  | _ => false

/-- The operation counts as a read. -/
def readsOp : IoOp → Bool
  | .read | .verify => true
  | _ => false

/-- A tag is past its commit point (R342, R353). -/
def committed (r : TagRec) : Bool := r.latch && !r.aborted

/-- Tags before a tag in fetch order. -/
def earlier (s : State) (r : TagRec) : List TagRec := s.cmds.tags.filter fun x => decide (x.order < r.order) && !x.await

/-- The zones of two commands meet: one is a zone command and their ranges, rounded to zones, intersect (R349). -/
def zoneMeets (s : State) (a b : TagRec) : Bool :=
  let z := fun x : Nat × Nat => (x.1 / 262144 * 262144, (x.1 % 262144 + x.2 + 262143) / 262144 * 262144)
  decide (nsidOf s a = nsidOf s b) && (rangesOf s a).any fun x => (rangesOf s b).any fun y => meets (z x) (z y)

/-- The namespace is zoned. -/
def isZoned (s : State) (nsid : Nat) : Bool := match nsAt s nsid with | some n => n.zoned | none => false

/-- Zoned writes take their ranges in fetch order (R536). -/
def takesRange (s : State) (r : TagRec) : Bool :=
  isZoned s (nsidOf s r) && [IoOp.write, .zeroes, .append].contains (opOf s r)

/-- A command that formats, sanitizes, deletes or detaches (R349). -/
def wholeNs (s : State) (r : TagRec) : Bool :=
  if s.quay.sas then decide (r.cmd.opc = 0x04) || decide (r.cmd.opc = 0x48)
  else decide (r.qid = 0) && (decide (r.cmd.opc = 0x80) || decide (r.cmd.opc = 0x84) ||
    (decide (r.cmd.opc = 0x0D) && decide (r.cmd.dw10 % 16 = 1)) || (decide (r.cmd.opc = 0x15) && decide (r.cmd.dw10 % 16 = 1)))

/-- The namespace a whole-namespace command acts on; `none` every namespace. -/
def wholeTarget (s : State) (r : TagRec) : Option Nat :=
  if s.quay.sas then some (nsidOf s r)
  else if r.cmd.opc = 0x84 ∨ r.cmd.nsid = 0xFFFFFFFF then none else some r.cmd.nsid

/-- An earlier command that a command must wait for before it acts (R348, R349). -/
def blocks2 (s : State) (r x : TagRec) : Bool :=
  let o := opOf s r
  let p := opOf s x
  if s.quay.sas && decide (x.func = r.func) && (decide (r.cmd.attr = 2) || decide (x.cmd.attr = 2)) then true
  else if wholeNs s r then
    (isIo s x && (match wholeTarget s r with | some n => decide (nsidOf s x = n) | none => true)) ||
      (!s.quay.sas && decide (x.qid = 0) && decide (x.func = r.func) && decide (x.stage ≤ 2))
  else if !s.quay.sas && decide (r.qid = 0) then decide (x.qid = 0) && decide (x.func = r.func) && decide (x.stage ≤ 2)
  else if o = .zone then isIo s x && p ≠ .flush && p ≠ .other && zoneMeets s r x
  else if p = .zone then o ≠ .flush && o ≠ .other && zoneMeets s r x
  else if takesRange s r && takesRange s x && x.taken.isNone && decide (x.stage ≤ 2) && !x.aborted && zoneMeets s r x then true
  else readsOp o && writesOp p && !committed x && decide (x.stage < 5) && overlap s r x

/-- A command must wait in ORDER_WAIT (R341, R348, R349). -/
def mustWait (s : State) (r : TagRec) : Bool := (earlier s r).any (blocks2 s r)

/-- Every earlier command of the same kind has left admission (R341, R349, R536): I/O commands among
all, admin commands within their controller. -/
def firstInOrder (s : State) (r : TagRec) : Bool :=
  !s.cmds.tags.any fun x => decide (x.order < r.order) && (decide (x.stage = 1) && !x.held && !x.aborted && !(s.quay.sas && x.await)) &&
    (if s.quay.sas then decide (x.func = r.func)
     else if r.qid = 0 then decide (x.qid = 0) && decide (x.func = r.func) else decide (x.qid ≠ 0))

/-! ### Statuses -/

/-- A status with DNR 0. -/
def stRetry (code : Nat) : St := (code, false)
/-- A SCSI sense: key, ASC and ASCQ, packed above the status byte CHECK CONDITION. -/
def stS (key asc ascq : Nat) : St := (2 ^ 32 + 2 + key * 2 ^ 8 + (asc * 256 + ascq) * 2 ^ 16, true)
/-- A SCSI status byte without sense. -/
def stB (b : Nat) : St := (2 ^ 32 + b, true)

/-- The SAS form of an internal status (R328, R356, R490): status byte, sense key, ASC and ASCQ. -/
def sasOf (code : Nat) : Nat :=
  let k := fun (key asc ascq : Nat) => 2 + key * 2 ^ 8 + (asc * 256 + ascq) * 2 ^ 16
  if 2 ^ 32 ≤ code then code - 2 ^ 32
  else if code = 0 then 0
  else if code = 0x01 then k 5 0x20 0x00
  else if code = 0x0B then k 5 0x25 0x00
  else if code = 0x06 then k 4 0x44 0x00
  else if code = 0x1D then k 2 0x04 0x1B
  else if code = 0x21 then k 0xB 0x44 0x00
  else if code = 0x80 then k 5 0x21 0x00
  else if code = 0x81 then k 7 0x27 0x07
  else if code = 0x83 then 0x18
  else if code = 0x84 then k 2 0x04 0x04
  else if code = 0x1B8 then k 5 0x21 0x05
  else if code = 0x1BA then k 7 0x27 0x08
  else if code = 0x1BC then k 5 0x21 0x04
  else if code = 0x1BE then k 7 0x55 0x0E
  else if code = 0x281 then k 3 0x11 0x00
  else if code = 0x282 then k 0xB 0x10 0x01
  else if code = 0x283 then k 0xB 0x10 0x02
  else if code = 0x284 then k 0xB 0x10 0x03
  else if code = 0x286 then k 7 0x20 0x02
  else k 5 0x24 0x00

/-! ### Encryption and protection information (R326, R331) -/

/-- The 128-bit tweak (R331). -/
def tweakOf (lba nsid : Nat) : List Byte := leBytes 8 lba ++ leBytes 4 nsid ++ leBytes 4 0
/-- The media encryption key in a namespace's slot (R331, R484). -/
def mekOf (s : State) (nsid : Nat) : List Byte := ((s.sec.slots.find? fun e => e.1 = nsid - 1).map (·.2)).getD []
/-- A block as stored. -/
def encBlock (s : State) (nsid lba : Nat) (d : List Byte) : List Byte := Config.xtsEnc (mekOf s nsid) (tweakOf lba nsid) d
/-- A stored block in clear. -/
def decBlock (s : State) (nsid lba : Nat) (d : List Byte) : List Byte := Config.xtsDec (mekOf s nsid) (tweakOf lba nsid) d

/-- The 16-bit guard of NVMe and SBC-4: the T10 polynomial 0x8BB7, not reflected. -/
def guard16 (d : List Byte) : Nat := (crcBits 0x8BB7#16 0#16 (d.flatMap fun b => msbBits 8 b.toNat)).toNat
/-- The 64-bit guard of the NVM Command Set: reflected, all ones in and out. -/
def guard64 (d : List Byte) : Nat :=
  (d.foldl (crcByteR 0x9A6C9329AC4BC9B5#64) 0xFFFFFFFFFFFFFFFF#64 ^^^ 0xFFFFFFFFFFFFFFFF#64).toNat

/-- The guard of a block under an LBA format (R326). -/
def guardOf (lbaf : Nat) (d : List Byte) : Nat := if lbaf = 2 then guard64 d else guard16 d

/-- Protection information as the host transfers it (R155, R326). -/
def makePi (lbaf guard app ref : Nat) : List Byte :=
  if lbaf = 2 then beBytes 8 guard ++ beBytes 2 app ++ beBytes 6 ref else beBytes 2 guard ++ beBytes 2 app ++ beBytes 4 ref

/-- Guard, application tag and reference tag of protection information. -/
def readPi (lbaf : Nat) (p : List Byte) : Nat × Nat × Nat :=
  if lbaf = 2 then (beNat (p.take 8), beNat ((p.drop 8).take 2), beNat ((p.drop 10).take 6))
  else (beNat (p.take 2), beNat ((p.drop 2).take 2), beNat ((p.drop 4).take 4))

/-- Bytes of metadata of an LBA format (R326). -/
def piLen (lbaf : Nat) : Nat := if lbaf = 0 then 0 else if lbaf = 1 then 8 else 16

/-- The protection field of a stored block (R155). -/
def storePi (n : Ns) (lba : Nat) (p : List Byte) : List Byte :=
  if n.lbaf = 0 then pi00 lba n.nsid else (p ++ List.replicate 16 0).take 16

/-- PIFMT of a namespace (R155, R326). -/
def pifmtOf (n : Ns) : Nat := n.lbaf

/-- PRACT: the device inserts or strips the protection information. In SAS a protect field of 0
transfers none. -/
def practOf (sas : Bool) (c : HostCmd) : Bool := if sas then decide (c.dw15 % 8 = 0) else bitAt c.dw12 29

/-- PRCHK: guard, application tag, reference tag. -/
def prchkOf (sas : Bool) (c : HostCmd) : Bool × Bool × Bool :=
  if sas then (decide (c.dw15 % 8 ≠ 3), false, decide (c.dw15 % 8 ≠ 3)) else (bitAt c.dw12 28, bitAt c.dw12 27, bitAt c.dw12 26)

/-- The reference tag of block `k` of a command. -/
def refOf (sas : Bool) (n : Ns) (c : HostCmd) (lba k : Nat) : Nat :=
  let w := if n.lbaf = 2 then 2 ^ 48 else 2 ^ 32
  if sas then lba % w else (c.dw14 + k) % w

/-- The check of one block's protection information: its failing status (R326, R328). -/
def checkPi (sas : Bool) (n : Ns) (c : HostCmd) (lba k : Nat) (p d : List Byte) : Option St :=
  if n.lbaf = 0 ∨ n.piType = 0 then none
  else
    let x := readPi n.lbaf p
    let ones := if n.lbaf = 2 then 2 ^ 48 - 1 else 2 ^ 32 - 1
    let chk := prchkOf sas c
    let mask := if sas then 0 else c.dw15 / 65536 % 65536
    if x.2.1 = 0xFFFF ∧ (n.piType ≠ 3 ∨ x.2.2 = ones) then none
    else if chk.1 ∧ x.1 ≠ guardOf n.lbaf d then some (stM 0x82)
    else if chk.2.1 ∧ Nat.land (Nat.xor x.2.1 (c.dw15 % 65536)) mask ≠ 0 then some (stM 0x83)
    else if chk.2.2 ∧ n.piType ≠ 3 ∧ x.2.2 ≠ refOf sas n c lba k then some (stM 0x84)
    else none

/-! ### Zones (R253, R258, R259, R327, R536) -/

/-- The zone record, an Empty zone where the table holds none. -/
def getZone (s : State) (nsid no : Nat) : Zone := (zoneOf s nsid no).getD { nsid := nsid, no := no }

/-- The zone record stored; an Empty zone without a berth leaves the table. -/
def putZone (s : State) (z : Zone) : State :=
  if z.st = .empty ∧ z.berth = none then
    updTbl s fun t => { t with zones := t.zones.filter fun x => !(decide (x.nsid = z.nsid) && decide (x.no = z.no)) }
  else if (zoneOf s z.nsid z.no).isSome then updZone s z.nsid z.no fun x => { z with idx := x.idx }
  else updTbl s fun t => { t with zones := t.zones ++ [{ z with idx := lowestFree (t.zones.map (·.idx)) }] }

/-- Maximum open resources of a namespace (R253, R327). -/
def maxOpen (s : State) (n : Ns) : Nat := tailReserve s / layBlocks n.layout

/-- Open a zone: its charge against the tail reserve, kept while Closed (R253, R327). -/
def openZone (s : State) (n : Ns) (z : Zone) (st : ZSt) : Except St State :=
  if z.charged then .ok (putZone s { z with st := st })
  else if tailReserve s < tailUsed s + layBlocks n.layout then .error (stRetry 0x1BE)
  else .ok (putZone s { z with st := st, charged := true })

/-- A zone with a berth bound (R241, R259): the next write binds one. -/
def bindZone (s : State) (n : Ns) (no : Nat) : Except St State :=
  let z := getZone s n.nsid no
  match z.berth with
  | some _ => .ok s
  | none =>
    match bindBerth s 0 n.layout z.idx n.nsid with
    | some (b, s1) => .ok (updZone s1 n.nsid no fun x => { x with berth := some b })
    | none => .error (stRetry 0x81)

/-- A write takes the range of `len` blocks at the zone's write pointer (R536): the zone opens
implicitly, a berth is bound, and the pointer advances. -/
def takeRange (s : State) (n : Ns) (no at_ len : Nat) : Except St State :=
  let z := getZone s n.nsid no
  if z.st = .readOnly then .error (stC 0xBA)
  else if z.st = .full then .error (stC 0xB9)
  else if 262144 < at_ + len then .error (stC 0xB8)
  else if at_ ≠ z.wp then .error (stC 0xBC)
  else
    let st := if z.st = .expOpen then ZSt.expOpen else .impOpen
    match openZone s n z st with
    | .error e => .error e
    | .ok s1 =>
      match bindZone s1 n no with
      | .error e => .error e
      | .ok s2 =>
        let full := decide (z.wp + len = 262144)
        .ok (updZone s2 n.nsid no fun x =>
          { x with wp := z.wp + len, st := if full then .full else x.st, charged := x.charged && !full })

/-- The berth that holds a stripe of a zone's berth: a MOVE takes the stripes from START (R299). -/
def berthFor (s : State) (b st : Nat) : Nat :=
  match s.tbl.reshapes.find? fun r => r.move && decide (r.oldBerth = some b) && decide (r.start ≤ st) with
  | some r => r.newBerth.getD b
  | none => b

/-- Where block `i` of a zone is stored. -/
def zonePlace (s : State) (n : Ns) (z : Zone) (i : Nat) : Option (Nat × Nat) :=
  z.berth.map fun b => (berthFor s b (i / layBlocks n.layout), i)

/-- A stripe has a manifest entry that runs to completion (R259). -/
def hasEntryFor (s : State) (b st : Nat) : Bool :=
  s.tbl.manifest.any fun m => decide (m.berth = b) && decide (m.stripe = st) && decide (m.st ≠ 3)

/-- The stripes of a berth that have no manifest entry leave the queues and engines before it. -/
def dropStripes (s : State) (b : Berth) : State :=
  let gone := fun x : Nat × Nat => decide (x.1 = b.id) && !hasEntryFor s b.id x.2
  let bufs := ((s.brt.ready ++ s.brt.parity.toList.filterMap id).filter gone).length * layK b.layout
  updBrt s fun e =>
    { e with destage := e.destage.filter (!gone ·), ready := e.ready.filter (!gone ·),
             parity := e.parity.map fun o => match o with | some x => if gone x then none else some x | none => none,
             pbufs := e.pbufs.filter fun p => !gone (p.1, p.2.1), parityBufs := e.parityBufs - bufs }

/-- A berth of a zone is given up: what has no manifest entry is discarded, its estimates are
subtracted, and the berth is RELEASING (R259, R320). -/
def dropBerth (s : State) (id : Nat) : State :=
  match berthAt s id with
  | none => s
  | some b =>
    let gone := s.cache.blocks.filter fun c => match c.place with
      | some (x, i) => decide (x = id) && !hasEntryFor s id (i / layBlocks b.layout)
      | none => false
    let s1 := forEach gone s fun s c => chargeM s c.func (-(c.est : Int))
    releaseBerth (returnBlocks (dropStripes s1 b) (gone.map (·.id))) id

/-- A zone's berth, and the berth a MOVE has bound beside it, are given up. -/
def releaseZone (s : State) (z : Zone) : State :=
  match z.berth with
  | none => s
  | some b =>
    let rs := s.tbl.reshapes.filter fun r => decide (r.oldBerth = some b)
    let s1 := forEach (rs.filterMap (·.newBerth)) s dropBerth
    dropBerth (updTbl s1 fun t => { t with reshapes := t.reshapes.filter fun r => r.oldBerth ≠ some b }) b

/-- A zone reset (R259). -/
def resetZone (s : State) (z : Zone) : State :=
  putZone (releaseZone s z) { z with st := .empty, wp := 0, berth := none, charged := false }

/-- The blocks of a stripe that the cache holds. -/
def stripeCount (s : State) (b : Berth) (st : Nat) : Nat := (stripeBlocks s b st).length

/-- Blocks of a zone's stripe that carry data when the zone is full. -/
def stripeFull (layout st : Nat) : Nat := min (layBlocks layout) (262144 - st * layBlocks layout)

/-- A stripe of a zone berth whose data is complete in the cache goes to destaging (R255). -/
def destageFull (s : State) (b st : Nat) : State :=
  match berthAt s b with
  | some x =>
    if decide (stripeFull x.layout st ≤ stripeCount s x st) && !s.brt.destage.contains (b, st) && !inManifest s b st then
      updBrt s fun e => { e with destage := e.destage ++ [(b, st)] }
    else s
  | none => s

/-- A zone finish destages the tail with filler; the berth needs no stripe beyond it (R258). -/
def finishZone (s : State) (n : Ns) (z : Zone) : State :=
  let s1 := putZone s { z with st := .full, charged := false }
  match z.berth with
  | none => s1
  | some b =>
    let per := layBlocks n.layout
    let tail := z.wp / per
    let stripes := (z.wp + per - 1) / per
    let id := berthFor s b tail
    let ids := if id = b then [b] else [b, id]
    let s2 := forEach ids s1 fun s i => updBerth s i fun x => { x with finish := some stripes }
    let s3 := if z.wp % per = 0 ∨ s2.brt.destage.contains (id, tail) ∨ inManifest s2 id tail then s2
      else updBrt s2 fun e => { e with destage := e.destage ++ [(id, tail)] }
    forEach ids s3 sealBerth

/-! ### The write-cache index (R14, R251, R254, R262, R348) -/

/-- Every block of a stripe in the cache, for the zone berth of a block installed. -/
def installZoned (s : State) (n : Ns) (c : CBlock) : State :=
  let z := getZone s n.nsid (c.lba / 262144)
  match zonePlace s n z (c.lba % 262144) with
  | none => s
  | some (b, i) =>
    let s1 := { s with cache := { s.cache with blocks := s.cache.blocks ++ [{ c with id := s.brt.nextBlock, place := some (b, i) }] } }
    destageFull (updBrt s1 fun e => { e with nextBlock := e.nextBlock + 1 }) b (i / layBlocks n.layout)

/-- The value of an index entry's previous location that a new write keeps (R264). -/
def prevOf (s : State) (e : Option Chart) : Option (Nat × Nat) :=
  match e with
  | none => none
  | some x => if x.cached then (s.cache.blocks.find? fun b => b.id = x.loc).bind (·.prev) else some (x.loc / 2 ^ 18, x.loc % 2 ^ 18)

/-- The estimate of a replaced block is subtracted from the function that was charged it (R320). -/
def uncharge (s : State) (c : CBlock) : State := updBlock (chargeM s c.func (-(c.est : Int))) c.id fun x => { x with est := 0 }

/-- A fresh cache block takes the next index. -/
def addBlock (s : State) (c : CBlock) : Nat × State :=
  (s.brt.nextBlock, updBrt { s with cache := { s.cache with blocks := s.cache.blocks ++ [{ c with id := s.brt.nextBlock }] } }
    fun e => { e with nextBlock := e.nextBlock + 1 })

/-- The builders name a new block where they named an old one. -/
def swapInBuilders (s : State) (old new : Nat) : State :=
  updTbl s fun t => { t with builders := t.builders.map fun b => { b with blocks := b.blocks.map fun x => if x = old then new else x } }

/-- Install one block of a conventional namespace (R254, R262, R264). -/
def installConv (s : State) (n : Ns) (c : CBlock) : State :=
  let e := chartAt s n.nsid c.lba
  let cur := match e with | some x => if x.cached then s.cache.blocks.find? fun b => b.id = x.loc else none | none => none
  match cur with
  | some o =>
    if blockRecorded s o then
      let r := addBlock (updBlock (uncharge s o) o.id fun x => { x with old := true }) { c with prev := o.prev }
      setChart (placeBlock r.2 0 n.layout r.1) n.nsid c.lba (some (true, r.1))
    else if o.refs = 0 then
      updBlock (uncharge s o) o.id fun _ => { c with id := o.id, prev := o.prev, place := o.place }
    else
      let r := addBlock (updBlock (uncharge s o) o.id fun x => { x with dead := true, place := none }) { c with prev := o.prev, place := o.place }
      setChart (swapInBuilders r.2 o.id r.1) n.nsid c.lba (some (true, r.1))
  | none =>
    let r := addBlock s { c with prev := prevOf s e }
    let s1 := setChart (placeBlock r.2 0 n.layout r.1) n.nsid c.lba (some (true, r.1))
    match e with | some x => liveDown s1 (x.loc / 2 ^ 18) | none => s1

/-- Install one block (R14). -/
def installOne (n : Ns) (s : State) (c : CBlock) : State := if n.zoned then installZoned s n c else installConv s n c

/-- A mapped block of a conventional namespace is deallocated: MAPPED clears and LIVE falls; its cached
copy dies as in R254, R262. -/
def deallocOne (n : Ns) (s : State) (lba : Nat) : State :=
  match chartAt s n.nsid lba with
  | none => s
  | some e =>
    let s1 := setChart s n.nsid lba none
    if e.cached then
      match s.cache.blocks.find? fun b => b.id = e.loc with
      | some o =>
        updBlock (uncharge s1 o) o.id fun x => { x with old := true }
      | none => s1
    else liveDown s1 (e.loc / 2 ^ 18)

/-- Deallocate the mapped blocks of a range. -/
def deallocRange (s : State) (n : Ns) (x : Nat × Nat) : State :=
  forEach ((s.tbl.chart.filter fun e => decide (e.nsid = n.nsid) && decide (x.1 ≤ e.lba) && decide (e.lba < x.1 + x.2)).map (·.lba)) s (deallocOne n)

/-- A zero block of a namespace, with the protection information of R536. -/
def zeroBlock (s : State) (n : Ns) (f : Fn) (est lba : Nat) : CBlock :=
  let d := List.replicate 4096 (0 : Byte)
  { nsid := n.nsid, lba := lba, func := f, est := est, data := encBlock s n.nsid lba d,
    pi := storePi n lba (makePi n.lbaf (guardOf n.lbaf d) 0 (lba % (if n.lbaf = 2 then 2 ^ 48 else 2 ^ 32))),
    keyslot := n.nsid - 1, pifmt := pifmtOf n }

/-- R536: a range taken and not committed is filled with zero data. -/
def zeroFill (s : State) (r : TagRec) : State :=
  match r.taken with
  | some (nsid, first, len) =>
    if r.installed then s
    else match nsAt s nsid with
      | some n => forEach ((List.range len).map (first + ·)) s fun s lba => installOne n s (zeroBlock s n r.func 0 lba)
      | none => s
  | none => s

/-! ### Lookups (R17, R242, R343, R348) -/

/-- Where a block comes from: a cache block, a berth's block, zeros, or nowhere (listed lost). -/
def lookupAt (s : State) (b i : Nat) (lba : Nat) : BlkSrc :=
  match berthAt s b with
  | none => { lba := lba, src := 3, doneB := true, fail := stM 0x81 }
  | some x =>
    let m := mapBlock x.layout i
    let j := memberOf x.layout m.2.1 m.1
    if rowLostAt s b m.1 m.2.2 j ∧ (readLoc s x j (64 * m.1 + m.2.2)).isNone then
      { lba := lba, src := 3, berth := b, ref := i, doneB := true, fail := stM 0x81 }
    else if (readLoc s x j (64 * m.1 + m.2.2)).isNone ∧ (survivors s x m.1 m.2.2).length < layD x.layout then
      { lba := lba, src := 3, berth := b, ref := i, doneB := true, fail := stM 0x81 }
    else { lba := lba, src := 1, berth := b, ref := i }

/-- A cache block that serves a read, unless a line of it is poisoned (R17, R370). -/
def fromCache (lba : Nat) (c : CBlock) : BlkSrc :=
  if c.poison ∨ c.unreadable then { lba := lba, src := 3, doneB := true, fail := stM 0x81 }
  else { lba := lba, src := 0, ref := c.id, ok := true, doneB := true }

/-- The source of one block of a read (R348). -/
def lookupOne (s : State) (n : Ns) (lba : Nat) : BlkSrc :=
  let zero : BlkSrc := { lba := lba, src := 2, ok := true, doneB := true }
  if n.zoned then
    let z := getZone s n.nsid (lba / 262144)
    let i := lba % 262144
    if z.wp ≤ i then zero
    else match zonePlace s n z i with
      | none => zero
      | some (b, k) =>
        match s.cache.blocks.find? fun c => decide (c.place = some (b, k)) && !c.dead && !c.chartPage && !c.copy with
        | some c => fromCache lba c
        | none => lookupAt s b k lba
  else
    match chartAt s n.nsid lba with
    | none => zero
    | some e =>
      if e.cached then (match s.cache.blocks.find? fun c => c.id = e.loc with | some c => fromCache lba c | none => zero)
      else lookupAt s (e.loc / 2 ^ 18) (e.loc % 2 ^ 18) lba

/-- A place of the media that a block's read needs: member, member sector and location. -/
def mediaPlace (s : State) (b : BlkSrc) : Option (Berth × Nat × Nat × Option Loc) :=
  (berthAt s b.berth).map fun x =>
    let m := mapBlock x.layout b.ref
    let j := memberOf x.layout m.2.1 m.1
    (x, j, 64 * m.1 + m.2.2, readLoc s x j (64 * m.1 + m.2.2))

/-- An operation of one member sector (R343). -/
def readOp (t : Tag) (f : Fn) (l : Loc) (berth member n : Nat) : PilotOp :=
  { cls := 0, tag := some t, func := f, head := l.head, track := l.track, slot := l.slot, count := 1, gen := l.gen, berth := berth,
    member := member, n := n }

/-- One more block joins the operations of a read, or begins one (R343). -/
def joinOps (s : State) (t : Tag) (f : Fn) (acc : List (Act × PilotOp × Nat)) (b : BlkSrc) : List (Act × PilotOp × Nat) :=
  match mediaPlace s b with
  | none => acc
  | some (x, j, n, l) =>
    match l with
    | none =>
      (match survivors s x (n / 64) (n % 64) with
       | (_, y) :: _ => acc ++ [(actOf s y.head, readOp t f y x.id j n, 4194303)]
       | [] => acc)
    | some l =>
      let fresh := acc ++ [(actOf s l.head, readOp t f l x.id j n, if l.reloc then 4194303 else l.seg)]
      match acc.getLast? with
      | some (a, o, seg) =>
        if o.berth = x.id ∧ o.member = j ∧ o.n + o.count = n ∧ o.n / 64 = n / 64 ∧ seg = l.seg ∧ !l.reloc ∧ seg ≠ 4194303 then
          acc.dropLast ++ [(a, { o with count := o.count + 1 }, seg)]
        else fresh
      | none => fresh

/-- The media operations of a read (R343). -/
def readOps (s : State) (t : Tag) (f : Fn) (srcs : List BlkSrc) : List (Act × PilotOp × Nat) :=
  (srcs.filter fun b => decide (b.src = 1)).foldl (joinOps s t f) []

/-- References to cache blocks taken (R257). -/
def addRefs (s : State) (srcs : List BlkSrc) : State :=
  forEach (srcs.filter fun b => b.src = 0) s fun s b => updBlock s b.ref fun c => { c with refs := c.refs + 1 }

/-- References given back; a block out of its stripe returns with its last reader (R254, R257). -/
def dropRefs (s : State) (srcs : List BlkSrc) : State :=
  forEach (srcs.filter fun b => b.src = 0) s fun s b =>
    let s1 := updBlock s b.ref fun c => { c with refs := c.refs - 1 }
    let keep := fun c : CBlock => !(decide (c.id = b.ref) && c.dead && decide (c.refs = 0))
    { s1 with cache := { s1.cache with blocks := s1.cache.blocks.filter keep } }

/-- The content of a block that a read returns: stored bytes and protection field; `none` for zeros. -/
def srcBytes (s : State) (b : BlkSrc) : Option (List Byte × List Byte) :=
  if b.src = 0 then (s.cache.blocks.find? fun c => c.id = b.ref).map fun c => (c.data, c.pi)
  else if b.src = 1 then some ((b.data.drop 16).take 4096, b.data.drop 4112) else none

/-- One block checked at egress and in clear: its data and metadata, or its status (R268, R326, R331). -/
def egress (s : State) (n : Ns) (r : TagRec) (k : Nat) (b : BlkSrc) : Except St (List Byte) :=
  let free := (leBytes (piLen n.lbaf) (Config.freeWord 128 (s.freeCtr + k)).toNat)
  let withPi := fun (d p : List Byte) => if practOf s.quay.sas r.cmd then d else d ++ p
  match srcBytes s b with
  | none => .ok (withPi (List.replicate 4096 0) free)
  | some (c, p) =>
    let d := decBlock s n.nsid b.lba c
    match checkPi s.quay.sas n r.cmd b.lba k p d with
    | some e => .error e
    | none => .ok (withPi d (p.take (piLen n.lbaf)))

/-- The blocks of a read at egress, up to the first that fails. -/
def egressAll (s : State) (n : Ns) (r : TagRec) : Nat → List BlkSrc → List Byte × St
  | _, [] => ([], stOk)
  | k, b :: bs =>
    if !b.ok then ([], b.fail)
    else match egress s n r k b with
      | .error e => ([], e)
      | .ok d => let x := egressAll s n r (k + 1) bs
                 (d ++ x.1, x.2)

/-- VERIFY (16) with a byte check: the data sent with the command differs from the blocks. -/
def miscompares (s : State) (r : TagRec) (d : List Byte) : Bool :=
  s.quay.sas && decide (fld r.cmd.dw15 3 2 ≠ 0) &&
    decide (r.cmd.data ≠ if fld r.cmd.dw15 3 2 = 3 then d.take 4096 else d)

/-- A read whose every block has ended: its data is sent, its references are given back and its status
is fixed; a verify sends none (R342, R356). -/
def endRead (s : State) (r : TagRec) : State :=
  match nsAt s (nsidOf s r) with
  | none => finish s r.tag (stG 0x0B)
  | some n =>
    let x := egressAll s n r 0 r.srcs
    let s1 := { dropRefs s r.srcs with freeCtr := s.freeCtr + r.srcs.length }
    let s2 := updTag s1 r.tag fun y => { y with srcs := y.srcs.map fun b => { b with ref := 0, src := if b.src = 0 then 2 else b.src } }
    if opOf s r = .verify then finish s2 r.tag (if x.2 = stOk ∧ miscompares s r x.1 then stS 0xE 0x1D 0x00 else x.2)
    else finish (if x.1 = [] then s2 else sendData (commitTag s2 r.tag) r.tag x.1) r.tag x.2

/-- The read ends when its last block has (R176). -/
def endReadIfDone (s : State) (t : Tag) : State :=
  match tagAt s t with
  | some r => if r.lookedUp && decide (r.stage < 5) && r.srcs.all (·.doneB) then endRead s r else s
  | none => s

/-! ### Ending and freeing a tag (R338, R352 to R355) -/

/-- The media operations of a tag are withdrawn; a dispatched one finishes with its data discarded (R352). -/
def withdrawOps (s : State) (t : Tag) : State :=
  updCmds s fun c => { c with pilots := c.pilots.map fun p =>
    { p with waiting := p.waiting.filter fun o => o.tag ≠ some t,
             entries := (p.entries.filter fun o => !(decide (o.tag = some t) && !o.dispatched)).map fun o =>
               if o.tag = some t then { o with tag := none, withdrawn := true } else o } }

/-- What a command held goes back: operations, ponds, references, its place among the held (R352). -/
def stopWork (s : State) (r : TagRec) : State :=
  let s1 := dropRefs (zeroFill (withdrawOps s r.tag) r) r.srcs
  updTag (updBrt s1 fun e => { e with held := e.held.filter (· ≠ r.tag) }) r.tag fun x =>
    { x with inPond := [], srcs := [], ops := 0, held := false, taken := none }

/-- A tag leaves the tags in use; nothing waits for it any more. -/
def releaseTag (s : State) (t : Tag) : State :=
  updCmds s fun c => { c with tags := c.tags.filter (fun r => r.tag ≠ t),
                              tasks := c.tasks.map fun k => { k with tags := k.tags.filter (· ≠ t) } }

/-- A command is counted as posted: INFLIGHT and the completions ledger (R26, R338). -/
def countPosted (s : State) (r : TagRec) : State :=
  updFn (updMoor s r.func r.qid fun m => { m with inflight := m.inflight - 1 }) r.func fun x => { x with posted := x.posted + 1 }

/-- A command ends at once without a completion (R354). -/
def endTag (s : State) (t : Tag) : State :=
  match tagAt s t with
  | some r => releaseTag (stopWork s r) t
  | none => s

/-- The sweep: the latch of every tag of a scope that is not set is set with ABORTED (R352, R353). -/
def sweep (s : State) (p : TagRec → Bool) : State :=
  updCmds s fun c => { c with tags := c.tags.map fun r => if p r && !r.latch then { r with latch := true, aborted := true } else r }

end Sys2Proof.Machine
end

