-- ==== Sys2Proof/Machine/Flow.lean ====
section
/-! DEFINITION. Flow: from the entry's return to the completion, held writes, pilots and media
operations, sweeps, and the resets of a controller, a port or the subsystem (chapter 12, R313, R315, R320,
R332, R347, R434). -/

namespace Sys2Proof.Machine

/-! ### SQ_ENTRY_RETURN (R315, R317, R329, R340, R341) -/

/-- The admin opcodes of R324. -/
def adminOps : List Nat :=
  [0x00, 0x01, 0x02, 0x04, 0x05, 0x06, 0x08, 0x09, 0x0A, 0x0C, 0x0D, 0x10, 0x11, 0x14, 0x15, 0x1C, 0x80, 0x81, 0x82, 0x84, 0x86]

/-- The I/O opcodes of R324. -/
def ioOps : List Nat := [0x00, 0x01, 0x02, 0x08, 0x09, 0x0C, 0x0D, 0x0E, 0x11, 0x15, 0x79, 0x7A, 0x7D]

/-- KIND of a command (R340). -/
def kindOf (s : State) (r : TagRec) : Nat :=
  if !isIo s r then 3
  else match opOf s r with
    | .read | .verify => 0
    | .write | .zeroes | .append | .dealloc => 1
    | .zone => 2
    | _ => 4

/-- The media-time estimate of a command (R317). -/
def estimate (s : State) (r : TagRec) : Nat :=
  match opOf s r with
  | .read | .verify => s.quay.par.mtEstRd
  | .write | .append => s.quay.par.mtEstWr * nlbOf s.quay.sas r.cmd
  | .zeroes => if isZoned s (nsidOf s r) then s.quay.par.mtEstWr * nlbOf s.quay.sas r.cmd else 0
  | _ => 0

/-- Blocks a command transfers over the host interface, at least 1 (R317). -/
def xferBlocks (s : State) (r : TagRec) : Nat :=
  match opOf s r with
  | .read | .write | .append => max 1 (nlbOf s.quay.sas r.cmd)
  | _ => 1

/-- RECOV_LIMIT of a command in ms, 0 no limit (R329): TLER × 100 ms of its namespace, or the RECOVERY
TIME LIMIT of its logical unit's mode page, capped at 60,000 ms; else the device default. -/
def recovOf (s : State) (r : TagRec) : Nat :=
  if s.quay.sas then
    match (fnOf s r.func).modePages.find? fun p => p.1 = 1 with
    | some p => min (beNat ((p.2.drop 10).take 2)) 60000
    | none => s.chnDev.now.recovLimit
  else
    match (s.quay.funcs.flatMap (·.features)).find? fun e => decide (e.1 = 5) && decide (e.2.1 = r.cmd.nsid) with
    | some e => min (e.2.2 % 65536 * 100) 60000
    | none => s.chnDev.now.recovLimit

/-- The command of a tag is known: its kind, its charges and its limit (R317, R329, R340). -/
def knowCmd (s : State) (r : TagRec) : State :=
  let est := estimate s r
  let s1 := chargeM (chargeB s r.func (xferBlocks s r)) r.func est
  rescale (updTag s1 r.tag fun x => { x with kind := kindOf s r, charge := est, recovMs := recovOf s r })

/-- SQ_ENTRY_RETURN: the entry of the oldest grant returns; an unsupported opcode ends at once (R324). -/
def execSqEntryReturn (c : HostCmd) (s : State) : Host.Outcome State Fault Refusal :=
  .next (match s.quay.grants with
    | [] => s
    | (f, q) :: rest =>
      if powered s && !s.bw.started then
        let s1 := updQuay s fun x => { x with grants := rest }
        match s.cmds.tags.find? fun r => decide (r.func = f) && decide (r.qid = q) && r.await with
        | none => s1
        | some r =>
          let r1 := { r with cmd := c, cid := c.cid, await := false }
          let s2 := knowCmd (updTag s1 r.tag fun _ => r1) r1
          refresh (if (if q = 0 then adminOps.contains c.opc else ioOps.contains c.opc) then s2 else finish s2 r.tag (stG 0x01))
      else s)

/-! ### Writes (R13, R14, R252, R326, R331, R342, R348) -/

/-- Blocks of writes whose data is being fetched: they will join the dirty count (R251). -/
def reserved (s : State) : Nat :=
  (s.cmds.tags.filter fun r => decide (r.stage = 3) && !r.installed && !r.aborted &&
    ([IoOp.write, .append].contains (opOf s r) || takesRange s r)).foldl (fun a r => a + nlbOf s.quay.sas r.cmd) 0

/-- The blocks of a write would take the dirty count above the bound; on the way below 5,400 rpm no write is
admitted while the cache holds 1.5 GiB or more (R135, R252). -/
def overBound (s : State) (r : TagRec) : Bool :=
  decide (bEff s < dirtyBlocks s + reserved s + nlbOf s.quay.sas r.cmd) ||
    (decide ((aimOf s).1 < 43200) && decide (bound15 ≤ dirtyBlocks s))

/-- Dredging holds a conventional write (R252, R265). -/
def dredgeHolds (s : State) (r : TagRec) : Bool :=
  !isZoned s (nsidOf s r) && decide (0 < logPool s) && convHeld s

/-- The data fetch of a write starts; the zero data of a Write Zeroes needs none (R341). -/
def fetchData (s : State) (r : TagRec) : State :=
  let n := nlbOf s.quay.sas r.cmd
  match nsAt s (nsidOf s r) with
  | none => s
  | some ns =>
    let first := match r.taken with | some x => x.2.1 | none => slbaOf r.cmd
    let zs := (List.range n).map fun k => zeroBlock s ns r.func (r.charge / max n 1) (first + k)
    updTag s r.tag fun x =>
      { x with stage := 3, held := false, lba := first,
               inPond := if opOf s r = .zeroes ∧ ns.zoned then zs else [],
               fetchedBlks := if opOf s r = .zeroes then n else 0 }

/-- A write starts its data fetch, or is held in Quay fetch order (R252). -/
def startWrite (s : State) (r : TagRec) : State :=
  if overBound s r ∨ dredgeHolds s r then
    updTag (updBrt s fun e => { e with held := e.held ++ [r.tag] }) r.tag fun x => { x with held := true }
  else fetchData s r

/-- Held writes released in fetch order, up to one that the bound still holds; one that only dredging
holds does not keep zone writes (R252, R265). -/
def releaseHeld : List Tag → State → State
  | [], s => s
  | t :: ts, s =>
    match tagAt s t with
    | none => releaseHeld ts s
    | some r =>
      if dredgeHolds s r then releaseHeld ts s
      else if overBound s r then s
      else releaseHeld ts (fetchData (updBrt s fun e => { e with held := e.held.filter (· ≠ t) }) r)

/-- HELD_WRITE_RELEASE (R252). -/
def execHeldWriteRelease (s : State) : Host.Outcome State Fault Refusal :=
  .next (if live s && !s.bw.started then releaseHeld s.brt.held s else s)

/-- A write ends before its commit point: what it fetched goes back, its range is zero-filled (R536). -/
def failWrite (s : State) (r : TagRec) (st : St) : State := finish (stopWork s r) r.tag st

/-- Cut a list into pieces of `n`. -/
def chunks (n : Nat) : Nat → List Byte → List (List Byte)
  | 0, _ => []
  | k + 1, bs => bs.take n :: chunks n k (bs.drop n)

/-- The blocks of write data as they go to the pond, or the status of the first that fails its check. -/
def pondBlocks (s : State) (n : Ns) (r : TagRec) (data pi : List Byte) : Except St (List CBlock) :=
  let m := data.length / 4096
  let pract := practOf s.quay.sas r.cmd
  let ps := chunks (piLen n.lbaf) m pi
  let one := fun (x : List Byte × Nat) =>
    let k := r.fetchedBlks + x.2
    let lba := r.lba + k
    let p := if pract then makePi n.lbaf (guardOf n.lbaf x.1) (r.cmd.dw15 % 65536) (refOf s.quay.sas n r.cmd lba k)
      else ps.getD x.2 []
    let y := readPi n.lbaf p
    let q := if opOf s r = .append ∧ bitAt r.cmd.dw12 25 then makePi n.lbaf y.1 y.2.1 (y.2.2 + (r.lba - slbaOf r.cmd)) else p
    match (if pract then none else checkPi s.quay.sas n r.cmd lba k p x.1) with
    | some e => (Except.error e : Except St CBlock)
    | none => .ok { nsid := n.nsid, lba := lba, func := r.func, est := r.charge / max (nlbOf s.quay.sas r.cmd) 1,
                    data := encBlock s n.nsid lba x.1, pi := storePi n lba q, keyslot := n.nsid - 1, pifmt := pifmtOf n }
  ((chunks 4096 m data).zipIdx).mapM one

/-- HOST_DATA_RECEIVED: data of a write arrives, is checked and encrypted, and lies in ponds; poisoned
data or a failing check ends the write (R13, R268, R326, R331, R367). -/
def execHostDataReceived (t : Tag) (data : List Byte) (pi : List Byte) (poisoned : Bool) (s : State) :
    Host.Outcome State Fault Refusal :=
  .next (match tagAt s t with
    | some r =>
      let n := nlbOf s.quay.sas r.cmd
      let m := data.length / 4096
      if powered s && !s.bw.started && decide (r.stage = 3) && !r.latch && [IoOp.write, .append].contains (opOf s r) &&
          decide (0 < m) && decide (data.length % 4096 = 0) && decide (r.fetchedBlks + m ≤ n) then
        if poisoned then failWrite s r (stG 0x04)
        else match nsAt s (nsidOf s r) with
          | none => s
          | some ns =>
            match pondBlocks s ns r data pi with
            | .error e => failWrite s r e
            | .ok bs => updTag s t fun x => { x with inPond := x.inPond ++ bs, fetchedBlks := x.fetchedBlks + m }
      else s
    | none => s)

/-- Earlier overlapping reads have their lookups done and earlier overlapping writes stand (R348). -/
def mayInstall (s : State) (r : TagRec) : Bool :=
  !(earlier s r).any fun x => decide (x.stage < 5) && overlap s r x &&
    ((readsOp (opOf s x) && !x.lookedUp) || (writesOp (opOf s x) && !x.installed))

/-- A conventional write needs a log berth that can be bound (R241, R260). -/
def logRoom (s : State) (n : Ns) : Bool := n.zoned || (readyBuilder s 0 n.layout).isSome

/-- WRITE_INDEX_ACK: the index entries or chart changes are acknowledged; the write commits and its
status is fixed (R14, R342, R348). -/
def execWriteIndexAck (t : Tag) (s : State) : Host.Outcome State Fault Refusal :=
  .next (match tagAt s t with
    | some r =>
      let o := opOf s r
      let all := if o = .dealloc then true else decide (r.fetchedBlks = nlbOf s.quay.sas r.cmd)
      if live s && !s.bw.started && decide (r.stage = 3) && !r.latch && !r.installed && writesOp o && all && mayInstall s r then
        match nsAt s (nsidOf s r) with
        | none => s
        | some n =>
          let s1 := updTag s t fun x => { x with installed := true, inPond := [] }
          if o = .dealloc ∨ (o = .zeroes ∧ !n.zoned) then
            finishOk (forEach (rangesOf s r) s1 fun s x => deallocRange s n x) t
          else if !logRoom s n then finish (noEligible s n.layout) t (stRetry 0x81)
          else finishOk (forEach r.inPond s1 (installOne n)) t (if o = .append then r.zmLba else 0)
      else s
    | none => s)

/-! ### COMPLETION_POST (R15, R26, R332, R338, R355, R356) -/

/-- What a completion counts in the tally (R332). -/
def tallyPost (s : State) (r : TagRec) (ok : Bool) : State :=
  if !isIo s r then s
  else
    let o := opOf s r
    let bytes := 4096 * nlbOf s.quay.sas r.cmd
    let s1 := tallyF s r.func fun x => match o with
      | .read => { x with reads := x.reads + 1 }
      | .write | .append | .zeroes => { x with writes := x.writes + 1 }
      | _ => { x with other := x.other + 1 }
    if !ok then s1
    else match o with
      | .read => tallyF s1 r.func fun x => { x with bytesRead := x.bytesRead + bytes }
      | .write | .append => tallyF s1 r.func fun x => { x with bytesWritten := x.bytesWritten + bytes }
      | _ => s1

/-- The completion entry's status field: code, type and DNR. -/
def statusField (st : St) : Nat := st.1 % 2 ^ 11 + b2n st.2 * 2 ^ 14

/-- A completion entry is written to its queue, with its interrupt (R312, R338). -/
def postCqe (s : State) (r : TagRec) (m : Mooring) (st : St) : State :=
  let n := m.cqSize + 1
  let tail := (m.cqTail + 1) % n
  let s1 := emit s (.cqe r.func.val r.qid r.cid (statusField st) r.dw0 m.phase)
  let s2 := updMoor (touchMoor s1 r.func r.qid) r.func r.qid fun x =>
    { x with cqTail := tail, phase := if tail = 0 then !x.phase else x.phase }
  let s3 := if m.ien then emit s2 (.msix r.func.val m.vector) else s2
  if st.1 = 0 then s3 else logErr s3 r.func r.qid r.cid (statusField st) (nsidOf s r) 0

/-- Every task that a function of R355 swept has ended. -/
def taskDone (s : State) (k : TmTask) : Bool :=
  (s.cmds.tags.filter fun r => k.tags.contains r.tag).all fun r => decide (r.stage = 5) && r.noPost

/-- A swept task returns its tag and counts as posted (R26, R355). -/
def endSwept (s : State) (r : TagRec) : State := releaseTag (updFn s r.func fun x => { x with posted := x.posted + 1 }) r.tag

/-- The functions of R355 whose swept tasks have all ended are answered. -/
def endTasks (s : State) : State :=
  let ds := s.cmds.tasks.filter (taskDone s)
  let gone := s.cmds.tags.filter fun r => ds.any fun k => k.tags.contains r.tag
  let s1 := updCmds s fun c => { c with tasks := c.tasks.filter fun k => !ds.contains k }
  forEach (ds.filter fun k => decide (k.code ≠ 0)) (forEach gone s1 endSwept) fun s k => emit s (.taskResp k.func.val k.code 0)

/-- COMPLETION_POST: the completion entry or response is issued and the tag returns (R338, R356). -/
def execCompletionPost (t : Tag) (s : State) : Host.Outcome State Fault Refusal :=
  .next (match tagAt s t with
    | some r =>
      match r.status with
      | some st =>
        if live s && !s.bw.started && decide (r.stage = 5) then
          let done := fun s : State => refresh (endTasks (releaseTag (countPosted (tallyPost s r (decide (st.1 = 0))) r) t))
          if r.noPost then (if s.quay.sas then s else refresh (releaseTag s t))
          else if s.quay.sas then done (emit s (.sasResp r.func.val r.cid (sasOf st.1)))
          else match moorAt s r.func r.qid with
            | some m =>
              if m.cqMade && moorReady s r.func r.qid && decide ((m.cqTail + 1) % (m.cqSize + 1) ≠ m.cqHead) then done (postCqe s r m st)
              else s
            | none => s
        else s
      | none => s
    | none => s)

/-! ### Pilots (R346, R347) -/

/-- PILOT_ENTRY: the next waiting operation enters (R346). -/
def execPilotEntry (a : Act) (s : State) : Host.Outcome State Fault Refusal :=
  .next (if live s && !s.bw.started then updCmds s fun c => { c with pilots := vupd c.pilots a (enterPilot s.us (hotOp s)) } else s)

/-- An operation may be dispatched. -/
def waits (s : State) (o : PilotOp) : Bool := !o.dispatched && hotOp s o && (o.write || !headDead s o.head)

/-- The guaranteed shares in per cent, in the order of R347's ties: rebuild, dredging, reshaping, patrol. -/
def shareOf (s : State) (cls : Nat) : Nat :=
  if cls = 1 then (if critical s then s.rbld.par.rebuildCrit else s.rbld.par.rebuildFloor)
  else if cls = 2 then (if fBelow s s.brtPar.dredgeLow then s.brtPar.dredgeShare else 0)
  else if cls = 3 then s.rbld.par.reshapeShare
  else if cls = 4 then s.brtPar.patrolShare
  else 0

/-- A class is below its guaranteed share of the 1 s window. -/
def belowShare (s : State) (p : Pilot) (cls : Nat) : Bool := decide (usedOf p cls < shareOf s cls * 10000)

/-- The class furthest below its share, as a fraction of that share (R347 rule 2). -/
def shareClass (s : State) (p : Pilot) : Option Nat :=
  let cs := [1, 2, 3, 4].filter fun c => belowShare s p c && p.entries.any fun o => waits s o && decide (o.cls = c)
  cs.foldl (fun o c => match o with
    | some b => if usedOf p c * shareOf s b < usedOf p b * shareOf s c then some c else some b
    | none => some c) none

/-- Idle time of the window so far. -/
def idleUs (s : State) (p : Pilot) : Nat := (s.us - p.winUs) - p.used.foldl (fun a e => a + e.2) 0

/-- An operation is eligible under rule 3 (R347). -/
def opEligible (s : State) (p : Pilot) (o : PilotOp) : Bool :=
  if p.entries.any fun x => waits s x && decide (x.cls = 0) then
    decide (o.cls = 0) || decide (5 ≤ o.cls) || decide (o.cls = 1) ||
      (decide (o.cls = 2) && fBelow s s.brtPar.dredgeCrit) || belowShare s p o.cls
  else decide (o.cls ≠ 4) || decide (usedOf p 4 * 100 < s.brtPar.patrolIdle * idleUs s p) || belowShare s p 4

/-- The operation of lowest cost of a list, ties from the rotating pointer over entry index (R24, R347). -/
def cheapest (costs : List (Nat × Nat)) (ptr : Nat) (os : List PilotOp) : Option PilotOp :=
  let cost := fun o : PilotOp => ((costs.find? fun c => c.1 = o.id).map (·.2)).getD (2 ^ 32)
  let dist := fun o : PilotOp => (o.id + 1024 - ptr) % 1024
  os.foldl (fun b o => match b with
    | some x => if cost o < cost x ∨ (cost o = cost x ∧ dist o < dist x) then some o else some x
    | none => some o) none

/-- The oldest of a list of operations. -/
def oldest (os : List PilotOp) : Option PilotOp :=
  os.foldl (fun b o => match b with
    | some x => if o.entered < x.entered then some o else some x
    | none => some o) none

/-- The operation the pilot dispatches (R347). -/
def choose (s : State) (p : Pilot) (costs : List (Nat × Nat)) : Option PilotOp :=
  let ws := p.entries.filter (waits s)
  match oldest (ws.filter fun o => decide (o.entered + s.quay.par.pilotAge * 1000 < s.us)) with
  | some o => some o
  | none =>
    match shareClass s p with
    | some c => cheapest costs p.ptr (ws.filter fun o => decide (o.cls = c))
    | none => cheapest costs p.ptr (ws.filter (opEligible s p))

/-- The operation that forms a twin read with one (R106, R347). -/
def twinOf (s : State) (a : Act) (p : Pilot) (o : PilotOp) : Option PilotOp :=
  if o.write ∨ 2 ≤ s.pmu.level then none
  else
    let pairs := s.acts[a].pairs.filter fun x => !s.acts[a].holdoff.contains (x.lead, x.partner)
    p.entries.find? fun x => waits s x && !x.write && decide (x.id ≠ o.id) &&
      pairs.any fun y => (decide (y.lead = o.head) && decide (y.partner = x.head)) || (decide (y.lead = x.head) && decide (y.partner = o.head))

/-- The status of the places of an operation goes to its command's blocks (R176, R356): the block of
each place, or its failure. -/
def giveBlocks (s : State) (o : PilotOp) (b : Berth) (t : Tag) : State :=
  let idx := fun k => blockOf b.layout ((o.n + k) / 64) (roleOf b.layout o.member ((o.n + k) / 64)) ((o.n + k) % 64)
  let put := fun (x : BlkSrc) =>
    match (List.range o.count).find? fun k => decide (x.src = 1) && decide (x.berth = b.id) && decide (x.ref = idx k) && !x.doneB with
    | none => x
    | some k =>
      match o.res.find? fun r => r.1 = k with
      | some r =>
        if r.2.1 % 16 ≤ 1 then { x with doneB := true, ok := true, data := r.2.2 }
        else { x with doneB := true, fail := (0x281, !decide (r.2.1 / 16 % 2 = 1)) }
      | none => { x with doneB := true, fail := stM 0x81 }
  updTag s t fun r => { r with srcs := r.srcs.map put, ops := r.ops - 1 }

/-- A read whose FAILED head can no longer be asked: its survivors are read instead, or it fails (R279, R347). -/
def rehome (s : State) (a : Act) (o : PilotOp) : State :=
  let s1 := updCmds s fun c => { c with pilots := vupd c.pilots a fun p => { p with entries := p.entries.filter fun e => e.id ≠ o.id } }
  match berthAt s o.berth with
  | none => s1
  | some b =>
    match survivors s b (o.n / 64) (o.n % 64) with
    | (_, y) :: _ => queueOp s1 (actOf s y.head) { o with head := y.head, track := y.track, slot := y.slot, gen := y.gen }
    | [] => match o.tag with
      | some t => endReadIfDone (giveBlocks s1 { o with res := [] } b t) t
      | none => s1

/-- A stream of an actuator can take an operation: no read gate is open on it, and no run is written under it (R7). -/
def streamFree (s : State) (m : Strm) : Bool :=
  !s.chn[m].readGate && !(s.wps[actOfStream m].runActive && decide (writingStream s (actOfStream m) = some m))

/-- The stream a single operation takes: the one that serves its head, if free, else the free one, S2a where both
are (R7). -/
def streamFor (s : State) (a : Act) (h : Hd) : Option Strm :=
  let own := streamOfHead s h
  if own.any fun m => decide (actOfStream m = a) && streamFree s m then own
  else [stream0 a, stream1 a].find? (streamFree s)

/-- The streams of the operations dispatched: those of R7, and for a twin read S2a for the lead head and S2a + 1 for
the partner head (R106). -/
def streamsFor (s : State) (a : Act) (o : PilotOp) (tw : Option PilotOp) : Option Strm × Option Strm :=
  match tw with
  | none => (streamFor s a o.head, none)
  | some x =>
    if s.acts[a].pairs.any fun y => decide (y.lead = o.head) && decide (y.partner = x.head) then (some (stream0 a), some (stream1 a))
    else (some (stream1 a), some (stream0 a))

/-- PILOT_DISPATCH: the free actuator takes one operation, or the two of a twin read (R347). `costs`
holds the time until each entry's first slot passes under its head. -/
def execPilotDispatch (a : Act) (costs : List (Nat × Nat)) (s : State) : Host.Outcome State Fault Refusal :=
  .next (if live s && !s.bw.started && s.spn.xferOk && !s.spn.freeDrain && s.cmds.pilots[a].busy.isNone && !s.acts[a].failed then
      let s1 := forEach (s.cmds.pilots[a].entries.filter fun o => !o.dispatched && !o.write && headDead s o.head) s fun s o => rehome s a o
      let p := s1.cmds.pilots[a]
      match choose s1 p costs with
      | none => s1
      | some o =>
        let tw := twinOf s1 a p o
        let go := fun e : PilotOp => if e.id = o.id ∨ some e.id = tw.map (·.id) then { e with dispatched := true, startUs := s.us } else e
        let s2 := updCmds s1 fun c => { c with pilots := vupd c.pilots a fun p =>
          { p with entries := p.entries.map go, busy := some o.id, twin := tw.map (·.id), ptr := (o.id + 1) % 1024,
                   strm := (streamsFor s1 a o tw).1, twinStrm := (streamsFor s1 a o tw).2 } }
        match o.tag.bind (tagAt s2) with
        | some r => if opOf s2 r = .verify then commitTag s2 r.tag else s2
        | none => s2
    else s)

/-! ### MEDIA_OPERATION_END (R174, R267, R279, R280, R292, R320, R332) -/

/-- The result of place `k` of an operation. -/
def resAt (o : PilotOp) (k : Nat) : Option (Nat × List Byte) := (o.res.find? fun r => r.1 = k).map (·.2)

/-- The recovery record of a place that waits on rung 4 (R174). -/
def rung4At (s : State) (a : Act) (o : PilotOp) (k : Nat) : Option (Strm × RecRec) :=
  [stream0 a, stream1 a].findSome? fun m =>
    (s.chn[m].ladder.find? fun r => decide (r.ord.op = o.id) && decide (r.ord.idx = k) && decide (r.rung = 4)).map fun r => (m, r)

/-- A block as the berth checks it for a host read (R267). -/
def blockOk (n : Ns) (lba : Nat) (blk : List Byte) : Bool :=
  decide (hdr blk 84 2 = pifmtOf n) && (decide (n.lbaf ≠ 0) || decide (blk.drop 4112 = pi00 lba n.nsid))

/-- The namespace and LBA that a place of a host read serves. -/
def wantedLba (s : State) (o : PilotOp) (b : Berth) (k : Nat) : Option (Ns × Nat) :=
  match o.tag.bind (tagAt s) with
  | none => none
  | some r =>
    let i := blockOf b.layout ((o.n + k) / 64) (roleOf b.layout o.member ((o.n + k) / 64)) ((o.n + k) % 64)
    match nsAt s (nsidOf s r), r.srcs.find? fun x => decide (x.src = 1) && decide (x.berth = b.id) && decide (x.ref = i) with
    | some n, some x => some (n, x.lba)
    | _, _ => none

/-- A place's result replaced. -/
def setRes (s : State) (a : Act) (id k st : Nat) (blk : List Byte) : State :=
  updOp s a id fun e => { e with res := e.res.filter (fun r => r.1 ≠ k) ++ [(k, st, blk)] }

/-- The rebuilt berth-protected bytes of a place, from its row's survivors; none for a listed row (R279, R294). -/
def rebuildPlace (s : State) (o : PilotOp) (b : Berth) (k : Nat) (row : List (Option (List Byte))) : Option (List Byte) :=
  let st := (o.n + k) / 64
  if rowLostAt s b.id st ((o.n + k) % 64) o.member then none
  else
    let have_ := (row.zipIdx).filterMap fun x => if x.2 = o.member then none else x.1.map fun d => (roleOf b.layout x.2 st, d)
    reconstruct (layD b.layout) (layK b.layout) (roleOf b.layout o.member st) have_

/-- Rung 4 of a place: rebuilt from the row given, or failed; a failure with more than K erasures is a
lost row, and under PARITY_FIRST the re-reads follow (R174, R279, R280, R292). -/
def parityPlace (s : State) (a : Act) (o : PilotOp) (b : Berth) (k : Nat) (row : List (Option (List Byte))) : State :=
  let loc := readLoc s b o.member (o.n + k)
  match rebuildPlace s o b k row with
  | some prot =>
    let psa := match loc with | some l => psaOf l.slot s.heads[l.head].surface l.track | none => 0
    let gen := match loc with | some l => l.gen | none => 0
    let blk := infoBlock psa gen false prot
    let s1 := setRes s a o.id k (32 + (if isUnreadable blk then 6 else 1)) blk
    let s2 := match rung4At s a o k with
      | some (m, r) => pushRes (updChn s1 m fun c => dropRec c r.ord) m
          { ord := r.ord, word := resultWord (if isUnreadable blk then 6 else 1) 0 false false false false 2 0x80 (readPsa s r.ord) }
      | none => s1
    if loc.isSome then wantReloc s2 b.id o.member (o.n + k) else s2
  | none =>
    let gone := (((row.zipIdx).filter fun x => x.1.isNone || decide (x.2 = o.member)).map (·.2)).filter fun j => decide (j < layN b.layout)
    let s1 := if layK b.layout < gone.length then rowLost s b ((o.n + k) / 64) ((o.n + k) % 64) gone else s
    match rung4At s a o k with
    | some (m, r) => storeRec s1 m 4 (advance s.chnDev.now r)
    | none => setRes s1 a o.id k 2 []

/-- One place of the operation in progress: what still needs its row takes it (R267, R279). -/
def settlePlace (a : Act) (id : Nat) (b : Berth) (rows : List (Nat × List (Option (List Byte)))) (s : State) (k : Nat) : State :=
  match s.cmds.pilots[a].entries.find? fun e => e.id = id with
  | none => s
  | some o =>
    let row := (rows.find? fun r => r.1 = k).map (·.2)
    match resAt o k, row with
    | none, some w => if (rung4At s a o k).isSome ∨ (readLoc s b o.member (o.n + k)).isNone then parityPlace s a o b k w else s
    | some (st, blk), _ =>
      (match wantedLba s o b k with
       | some (n, lba) =>
         if st % 16 ≤ 1 ∧ !blockOk n lba blk then
           if 32 ≤ st then
             raise (setRes (updBrt s fun e => { e with piMismatch := true }) a id k 34 []) .piMismatch 2 0x0B 0 b.id
               ((o.n + k) / 64 + o.member * 2 ^ 16) lba
           else match row with | some w => parityPlace (setRes s a id k 50 []) a o b k w | none => setRes s a id k 64 blk
         else s
       | none => s)
    | none, none => s

/-- A sector of a lost row that reads back is the UNREADABLE sector that was written there (R178, R292). -/
def noteUnread (s : State) (a : Act) (id k : Nat) : State :=
  match s.cmds.pilots[a].entries.find? fun e => e.id = id with
  | some o =>
    (match berthAt s o.berth, resAt o k with
     | some b, some (st, _) =>
       if st % 16 ≤ 1 ∧ isUnread s b.id o.member (o.n + k) then
         setRes s a id k 6 (infoBlock (psaOf (o.slot + k) s.heads[o.head].surface o.track) o.gen false
           (lostSector s b o.member (o.n + k)))
       else s
     | _, _ => s)
  | none => s

/-- A sector that has succeeded is delivered at once, whatever the others of its command wait for (R176): its block
lies in the pond and may go to the host (R11, R342). -/
def deliverPlace (s : State) (a : Act) (id k : Nat) : State :=
  match s.cmds.pilots[a].entries.find? fun e => e.id = id with
  | none => s
  | some o =>
    match berthAt s o.berth, o.tag with
    | some b, some t =>
      let i := blockOf b.layout ((o.n + k) / 64) (roleOf b.layout o.member ((o.n + k) / 64)) ((o.n + k) % 64)
      (match resAt o k, wantedLba s o b k with
       | some (st, blk), some (n, lba) =>
         if st % 16 ≤ 1 ∧ blockOk n lba blk then
           let s1 := updTag s t fun r => { r with srcs := r.srcs.map fun x =>
             if x.src = 1 ∧ x.berth = b.id ∧ x.ref = i ∧ !x.doneB then { x with doneB := true, ok := true, data := blk } else x }
           match tagAt s1 t with
           | some r => if opOf s1 r = .verify then s1 else commitTag s1 t
           | none => s1
         else s
       | _, _ => s)
    | _, _ => s

/-- SECTOR_RESULT_POST (R11, R170, R176). -/
def execSectorResultPost (m : Strm) (s : State) : Host.Outcome State Fault Refusal :=
  .next (match s.chn[m].results with
    | r :: rest =>
      if powered s then
        let s1 := postResult s m r rest
        if r.ends then deliverPlace (noteUnread s1 (actOfStream m) r.ord.op r.ord.idx) (actOfStream m) r.ord.op r.ord.idx else s1
      else s
    | [] => s)

/-- A place whose block failed the berth's check waits for its row under this mark. -/
def pendingMark : Nat := 64

/-- Every place of an operation has ended. -/
def opDone (o : PilotOp) : Bool := (List.range o.count).all fun k => match resAt o k with | some r => decide (r.1 < pendingMark) | none => false

/-- The owner of an operation is charged its actual time, and the estimate comes off once (R320, R332). -/
def chargeOp (s : State) (o : PilotOp) (us : Nat) : State :=
  if o.cls = 0 then
    let r := o.tag.bind (tagAt s)
    let isVer : Bool := match r with | some r => decide (opOf s r = .verify) | none => false
    let s1 := tallyF (chargeUs s o.func us) o.func fun x =>
      if isVer then { x with actOther := x.actOther + us } else { x with actRead := x.actRead + us }
    match r with
    | some r => updTag (chargeM s1 o.func (-(r.charge : Int))) r.tag fun x => { x with charge := 0 }
    | none => s1
  else if o.write then s
  else tallyBg s fun x => { x with actRead := x.actRead + us }

/-- What a read of background work brings (R266, R299). -/
def backOp (s : State) (o : PilotOp) (b : Berth) : State :=
  if o.cls = 2 then
    forEach (List.range o.count) s fun s k =>
      let i := blockOf b.layout ((o.n + k) / 64) (roleOf b.layout o.member ((o.n + k) / 64)) ((o.n + k) % 64)
      dredgeMove s b i (match resAt o k with | some r => if r.1 % 16 ≤ 1 then some r.2 else none | none => none)
  else if o.cls = 3 then reshapeStep s b.id
  else s

/-- The operation in progress ends. -/
def endOp (s : State) (a : Act) (o : PilotOp) (b : Berth) : State :=
  let us := s.us - o.startUs
  let s1 := updCmds (chargeOp s o us) fun c => { c with pilots := vupd c.pilots a fun p => endEntry p o.id o.cls us }
  let mine := fun x : ReadOrd × Nat => decide (x.1.op = o.id) && decide (actOf s x.1.head = a)
  let s2 := refresh { s1 with chnDev := { s1.chnDev with refused := s1.chnDev.refused.filter fun x => !mine x } }
  if o.cls ≠ 0 then backOp s2 o b
  else match o.tag with
    | none => s2
    | some t =>
      let s3 := giveBlocks s2 o b t
      match tagAt s3 t with
      | some r => endReadIfDone (if opOf s3 r ≠ .verify ∧ r.srcs.any (fun x => x.ok && decide (x.src = 1)) then commitTag s3 t else s3) t
      | none => s3

/-- MEDIA_OPERATION_END: the actuator's operation in progress ends once every sector has; `rows` holds,
per place that needs rung 4, the berth-protected bytes of its row by member, none where erased. -/
def execMediaOperationEnd (a : Act) (rows : List (Nat × List (Option (List Byte)))) (s : State) : Host.Outcome State Fault Refusal :=
  .next (match s.cmds.pilots[a].busy with
    | none => s
    | some id =>
      match s.cmds.pilots[a].entries.find? fun e => e.id = id with
      | none => s
      | some o =>
        match berthAt s o.berth with
        | none => updCmds s fun c => { c with pilots := vupd c.pilots a fun p => endEntry p id o.cls (s.us - o.startUs) }
        | some b =>
          if powered s && o.man.isNone then
            if o.withdrawn then endOp s a o b
            else
              let s1 := if o.write then s else forEach (List.range o.count) s (settlePlace a id b rows)
              match s1.cmds.pilots[a].entries.find? fun e => e.id = id with
              | some o1 => if opDone o1 then endOp s1 a o1 b else s1
              | none => s1
          else s)

/-! ### Sweeps (R352, R353, R355) -/

/-- SWEPT_COMMAND_END: a command latched ABORTED stops at its next stage boundary (R352). In SAS it sends
no response of its own (R355). -/
def execSweptCommandEnd (t : Tag) (s : State) : Host.Outcome State Fault Refusal :=
  .next (match tagAt s t with
    | some r =>
      if live s && !s.bw.started && r.aborted && decide (r.stage < 5) && (s.quay.sas || !r.await) then
        let s1 := finish (stopWork s r) t (stRetry 0x08)
        if s.quay.sas then endTasks (updTag s1 t fun x => { x with noPost := true, await := false }) else s1
      else s
    | none => s)

/-- DELETE_SQ_COMPLETE: INFLIGHT of the mooring has reached 0 (R352). -/
def execDeleteSqComplete (t : Tag) (s : State) : Host.Outcome State Fault Refusal :=
  .next (match tagAt s t, s.cmds.deletes.find? fun d => d.1 = t with
    | some r, some d =>
      match moorAt s r.func d.2 with
      | some m =>
        if live s && !s.bw.started && decide (m.inflight = 0) then
          finish (updMoor (updCmds s fun c => { c with deletes := c.deletes.erase d }) r.func d.2 fun x => { x with sqMade := false }) t stOk
        else s
      | none => s
    | _, _ => s)

/-! ### MOORING_FILL (R313, R358) -/

/-- A poisoned mooring (R358): frozen, logged, its commands end as log entries that count as posted. -/
def poisonMoor (s : State) (f : Fn) (qid : Nat) : State :=
  let s1 := violate (updMoor s f qid fun m => { m with st := 2 }) f qid 0 4
  let s2 := report s1 (0x08, f.val * 65536 + qid) .mooringPoison 3 0x0C 0 f.val qid
  let s3 := updQuay s2 fun q => { q with grants := q.grants.filter fun g => g ≠ (f, qid) }
  forEach (s3.cmds.tags.filter fun r => decide (r.func = f) && decide (r.qid = qid) && !r.latch) s3 fun s r =>
    let s4 := logErr s f qid r.cid 0x08 (nsidOf s r) 0
    releaseTag (countPosted (stopWork s4 r) r) r.tag

/-- MOORING_FILL: a mooring that is not in the cache is read from DRAM (R313). -/
def execMooringFill (f : Fn) (qid : Nat) (poison : Bool) (s : State) : Host.Outcome State Fault Refusal :=
  .next (match moorAt s f qid with
    | some _ =>
      if nvmeUp s && s.quay.par.full && !s.quay.cache.contains (f, qid) then
        let s1 := touchMoor s f qid
        refresh (drainFifo (if poison then poisonMoor s1 f qid else s1) (portOf s f))
      else s
    | none => s)

/-! ### Controller, port and subsystem resets (R28, R354, R434, R519, R520, R522) -/

/-- Every command of a function ends without a completion, and its ledgers start empty (R28, R354). -/
def endCommands (s : State) (f : Fn) : State :=
  let s1 := forEach ((s.cmds.tags.filter fun r => r.func = f).map (·.tag)) s endTag
  let s2 := updCmds s1 fun c => { c with deletes := c.deletes.filter fun d => s1.cmds.tags.any fun r => decide (r.tag = d.1),
                                         tasks := c.tasks.filter fun k => k.func ≠ f }
  let s3 := { s2 with ledger := { s2.ledger with excluded := if s2.ledger.excluded.contains f.val then s2.ledger.excluded else s2.ledger.excluded ++ [f.val] } }
  updFn (updQuay s3 fun q => { q with grants := q.grants.filter fun g => g.1 ≠ f }) f fun x => { x with fetched := 0, posted := 0 }

/-- A controller goes back to its state at reset: queues, features, events; its allotment and resources
stay (R354, R530). -/
def clearController (s : State) (f : Fn) : State :=
  let s1 := endCommands s f
  let s2 := updQuay s1 fun q =>
    { q with moorings := q.moorings.filter fun m => m.func ≠ f, cache := q.cache.filter fun c => c.1 ≠ f,
             fifos := q.fifos.map fun l => l.filter fun d => d.func ≠ f }
  refresh (updFn s2 f fun x =>
    { x with en := false, rdy := false, cfs := false, ams := 0, ab := 0, lpw := 0, mpw := 0, hpw := 0, hLeft := 0, mLeft := 0,
             lLeft := 0, qPtr := 0, features := x.features.filter fun e => [0x05, 0x81, 0x83].contains e.1,
             errLog := [], aerParked := none, aerMasked := [], aerHeld := [], chgZones := [], reinit := false, d3 := false })

/-- A mailbox is re-initialised (R434): L messages run on and their DONE is discarded. -/
def reinitMbx (s : State) (mb : Mb) : State :=
  updMbx s mb fun x =>
    { enable := false, respInt := x.respInt, ntfInt := x.ntfInt, vector := x.vector, ready := x.ready, dbErr := x.dbErr,
      ntfOvf := x.ntfOvf, seqErr := x.seqErr, reinit := true, ntfLost := x.ntfLost, privCap := x.privCap,
      authFails := x.authFails, lockout := x.lockout, lMsgs := x.lMsgs.map fun l => { l with discard := true } }

/-- The mailbox of a PF. -/
def mbxOfPf (f : Fn) : Mb := if f.val < 512 then 0 else 1

/-- A controller the host may enable: a PF, or a VF that is online (R310). -/
def mayEnable (s : State) (f : Fn) : Bool := isPf f || (fnOf s f).online

/-- The admin queue pair's mooring. -/
def adminMoor (f : Fn) (asq acq asqs acqs : Nat) : Mooring :=
  { sqBase := asq / 4096 * 4096, cqBase := acq / 4096 * 4096, sqSize := asqs % 4096, cqSize := acqs % 4096, ien := true, st := 1,
    func := f, qid := 0, sqMade := true, cqMade := true }

/-- CONTROLLER_ENABLE: CC.EN to 1 with the admin queues; CSTS.RDY follows at admission (R519, R520), and a
halted device shows CSTS.CFS (R522). -/
def execControllerEnable (f : Fn) (ams asq acq asqs acqs : Nat) (s : State) : Host.Outcome State Fault Refusal :=
  .next (if s.quay.sas ∨ s.quay.disabled ∨ s.bw.started ∨ (fnOf s f).en ∨ !mayEnable s f then s
    else if s.phase = .halted then updFn s f fun x => { x with en := true, cfs := true }
    else if s.phase = .boot ∨ s.phase = .run then
      let s1 := updFn s f fun x => { x with en := true, rdy := hostIo s, ams := ams % 8 }
      let s2 := updQuay s1 fun q => { q with moorings := adminMoor f asq acq asqs acqs :: q.moorings.filter fun m => !(decide (m.func = f) && decide (m.qid = 0)) }
      refresh (touchMoor s2 f 0)
    else s)

/-- CONTROLLER_RESET: CC.EN to 0 (R354); the mailbox is not touched (R434). -/
def execControllerReset (f : Fn) (s : State) : Host.Outcome State Fault Refusal :=
  .next (if (powered s || decide (s.phase = .halted)) && !s.quay.sas && !s.bw.started && (fnOf s f).en then clearController s f else s)

/-- The VFs of a PF go offline with it. -/
def vfsOff (s : State) (pf : Fn) : State :=
  let off : Func → Func := fun x => if pfOf x.idx = pf ∧ x.idx ≠ pf then { x with online := false, vq := 0, vi := 0 } else x
  updQuay s fun q => { q with funcs := q.funcs.map off }

/-- The reset of one function; that of a PF takes its VFs and re-initialises its mailbox (R354, R434). -/
def resetFunction (s : State) (f : Fn) : State :=
  if isPf f then
    let fs := f :: (knownFns s).filter fun g => decide (pfOf g = f) && decide (g ≠ f)
    reinitMbx (vfsOff (forEach fs s clearController) f) (mbxOfPf f)
  else clearController s f

/-- FUNCTION_LEVEL_RESET (R354). -/
def execFunctionLevelReset (f : Fn) (s : State) : Host.Outcome State Fault Refusal :=
  .next (if powered s && !s.quay.sas && !s.quay.disabled && !s.bw.started then resetFunction s f else s)

/-- The PFs of a port (R305). -/
def pfsOf (s : State) (port : Fin 2) : List Fn :=
  if s.quay.x4 then (if port = 0 then [0, 512] else []) else if port = 0 then [0] else [512]

/-- A reset of a port resets its PFs (R354, R434). -/
def resetPort (s : State) (port : Fin 2) : State := forEach (pfsOf s port) s resetFunction

/-- HOT_RESET. -/
def execHotReset (port : Fin 2) (s : State) : Host.Outcome State Fault Refusal :=
  .next (if powered s && !s.quay.sas && !s.quay.disabled && !s.bw.started then resetPort s port else s)

/-- PERST_ASSERT. -/
def execPerstAssert (port : Fin 2) (s : State) : Host.Outcome State Fault Refusal :=
  .next (let s1 := updQuay s fun q => { q with perst := vupd q.perst port fun _ => true }
    if powered s && !s.quay.sas && !s.quay.disabled && !s.bw.started then resetPort s1 port else s1)

/-- PERST_DEASSERT: the port trains again (R519). -/
def execPerstDeassert (port : Fin 2) (s : State) : Host.Outcome State Fault Refusal :=
  .next (updQuay s fun q => { q with perst := vupd q.perst port fun _ => false })

/-- NVM_SUBSYSTEM_RESET: rung 3, the vault-then-reset sequence (R309, R354, R451, R517). -/
def execNvmSubsystemReset (s : State) : Host.Outcome State Fault Refusal :=
  .next (if powered s && !s.quay.sas && !s.quay.disabled then
      startBreakwater { s with boot := { s.boot with nssr := true } } 9
    else s)

/-- A sweep, and the function that waits for every task it visits; code 0 is answered to nobody (R355). -/
def sweepFor (s : State) (f : Fn) (nexus code : Nat) (p : TagRec → Bool) : State :=
  updCmds (sweep s p) fun c =>
    { c with tasks := c.tasks ++ [{ func := f, nexus := nexus, code := code, tags := (s.cmds.tags.filter p).map (·.tag) }] }

/-- IT_NEXUS_LOSS: the SAS mailbox of the port is re-initialised (R434). -/
def execItNexusLoss (port : Fin 2) (nexus : Nat) (s : State) : Host.Outcome State Fault Refusal :=
  .next (if powered s && s.quay.sas && !s.bw.started then
      let s1 := reinitMbx s (if port = 0 then 0 else 1)
      endTasks (sweepFor s1 0 nexus 0 fun r => decide (r.nexus = nexus))
    else s)

end Sys2Proof.Machine
end

