-- ==== Sys2Proof/Machine/Io.lean ====
section
/-! DEFINITION. Io: the NVMe I/O commands: admission checks, reads, writes, zones, reservations
(chapters 11 and 12, R252 to R259, R309, R324 to R328, R341 to R349, R490, R536). -/

namespace Sys2Proof.Machine

/-! ### Admission (R13, R341, R349, R356, R490) -/

/-- The tag has its entry, is ADMITTED, and every command before it has left admission. -/
def admissible (s : State) (r : TagRec) : Bool :=
  live s && !s.bw.started && decide (r.stage = 1) && !r.await && !r.aborted && !r.held && r.status.isNone && firstInOrder s r

/-- A command whose check fails ends with its status; one that must wait enters ORDER_WAIT; else it acts. -/
def admitCmd (s : State) (r : TagRec) (chk : Option St) (act : State → TagRec → State) : State :=
  match chk with
  | some e => finish s r.tag e
  | none => if mustWait s r then updTag s r.tag fun x => { x with stage := 2 } else act s r

/-- The controllers a Namespace Attachment names. -/
def ctrlList (c : HostCmd) : List Nat :=
  (List.range (leNat (c.data.take 2))).map fun i => leNat ((c.data.drop (2 + 2 * i)).take 2)

/-- What an earlier command in flight that formats, sanitizes, deletes or detaches leaves to a later
I/O command of its namespace (R349, R356). -/
def wholeStatus (s : State) (r x : TagRec) : Option St :=
  if wholeNs s x && (match wholeTarget s x with | some n => decide (n = nsidOf s r) | none => true) then
    if s.quay.sas then some (stRetry (if x.cmd.opc = 0x04 then 0x84 else 0x1D))
    else if x.cmd.opc = 0x80 then some (stRetry 0x84)
    else if x.cmd.opc = 0x84 then some (stRetry 0x1D)
    else if x.cmd.opc = 0x15 ∧ !(ctrlList x.cmd).contains r.func.val then none
    else some (stG 0x0B)
  else none

/-- The sender of a command as reservations know it: the controller, or the initiator. -/
def whoOf (s : State) (r : TagRec) : Nat := if s.quay.sas then r.nexus else r.func.val

/-- The reservation state of a namespace (R309). -/
def rsvOf (s : State) (nsid : Nat) : Rsv := (s.nv.rsv.find? fun x => x.nsid = nsid).getD { nsid := nsid }

/-- A sender is registered. -/
def registered (x : Rsv) (who : Nat) : Bool := x.registrants.any fun e => e.1 = who

/-- A reservation keeps a sender out (R309): types 1 Write Exclusive, 2 Exclusive Access, 3 and 4 the
same for registrants only, 5 and 6 for all registrants. -/
def conflicts (x : Rsv) (who : Nat) (write : Bool) : Bool :=
  match x.holder with
  | none => false
  | some (h, t) =>
    if t = 1 then write && decide (who ≠ h)
    else if t = 2 then decide (who ≠ h)
    else if t = 3 ∨ t = 5 then write && !registered x who
    else !registered x who

/-- The locking object that blocks a command (R490). -/
def lockBlocks (s : State) (nsid : Nat) (write : Bool) : Bool :=
  s.nv.locks.any fun l => decide (l.nsid = nsid) && if write then l.writeLocked else l.readLocked

/-- The operation changes stored data or zones. -/
def changes : IoOp → Bool
  | .write | .zeroes | .append | .dealloc | .zone => true
  | _ => false

/-- The check of an LBA range, of a transfer's length and of the command set (R308, R309, R324, R328, R356). -/
def rangeCheck (s : State) (n : Ns) (r : TagRec) : Option St :=
  let o := opOf s r
  let sas := s.quay.sas
  if (o = .append ∨ o = .zone) ∧ !n.zoned then some (stG 0x01)
  else if o = .dealloc ∧ n.zoned then some (stG 0x01)
  else if [IoOp.read, .write, .append].contains o && decide (512 < nlbOf sas r.cmd) then some (stG 0x02)
  else match o with
    | .read | .verify | .write | .zeroes => if n.size < slbaOf r.cmd + nlbOf sas r.cmd then some (stG 0x80) else none
    | .append =>
      if n.size ≤ slbaOf r.cmd then some (stG 0x80) else if slbaOf r.cmd % 262144 ≠ 0 then some (stG 0x02) else none
    | .dealloc => if (deallocRanges sas r.cmd).any fun x => n.size < x.1 + x.2 then some (stG 0x80) else none
    | .zone =>
      if allZonesAct sas r.cmd then none
      else if n.size ≤ slbaOf r.cmd then some (stG 0x80) else if slbaOf r.cmd % 262144 ≠ 0 then some (stG 0x02) else none
    | _ => none

/-- PRCHK's reference check of a type 1 namespace needs the first LBA as the initial reference tag. -/
def refCheck (s : State) (n : Ns) (r : TagRec) : Option St :=
  if !s.quay.sas && decide (n.piType = 1) && decide (n.lbaf ≠ 0) && bitAt r.cmd.dw12 26 &&
      [IoOp.read, .verify, .write, .append].contains (opOf s r) &&
      decide (r.cmd.dw14 % 2 ^ 32 ≠ slbaOf r.cmd % 2 ^ 32) then some (stC 0x81)
  else none

/-- The admission checks of an I/O command (R13 step 3). -/
def ioCheck (s : State) (r : TagRec) : Option St :=
  match nsAt s (nsidOf s r) with
  | none => some (stG 0x0B)
  | some n =>
    let o := opOf s r
    if !s.quay.sas && !n.attached.contains r.func then some (stG 0x0B)
    else match (earlier s r).findSome? (wholeStatus s r) with
      | some e => some e
      | none =>
        if (readsOp o && lockBlocks s n.nsid false) || (changes o && lockBlocks s n.nsid true) then some (stM 0x86)
        else if (readsOp o && conflicts (rsvOf s n.nsid) (whoOf s r) false) ||
            ((changes o || decide (o = .flush)) && conflicts (rsvOf s n.nsid) (whoOf s r) true) then some (stG 0x83)
        else match rangeCheck s n r with
          | some e => some e
          | none => refCheck s n r

/-! ### Reads and verifies (R16, R17, R342, R343, R348) -/

/-- A read or a verify: its lookup, its references and its media operations; it commits here where a
block needs no media, or for a verify where none does. -/
def readAct (s : State) (r : TagRec) : State :=
  match nsAt s (nsidOf s r) with
  | none => finish s r.tag (stG 0x0B)
  | some n =>
    let srcs := (List.range (nlbOf s.quay.sas r.cmd)).map fun k => lookupOne s n (slbaOf r.cmd + k)
    let ops := readOps s r.tag r.func srcs
    let s1 := updTag (addRefs s srcs) r.tag fun x =>
      { x with stage := 3, lba := slbaOf r.cmd, srcs := srcs, lookedUp := true, ops := ops.length }
    let s2 := forEach ops s1 fun s o => queueOp s o.1 o.2.1
    let early := if opOf s r = .verify then decide (ops = []) else srcs.any (·.ok)
    endReadIfDone (if early then commitTag s2 r.tag else s2) r.tag

/-! ### Writes, appends, Write Zeroes and deallocation (R13, R252, R262, R536) -/

/-- A write of a zoned namespace takes its range and starts, or ends with the zone's status. -/
def zonedAct (s : State) (n : Ns) (r : TagRec) : State :=
  let no := slbaOf r.cmd / 262144
  let len := nlbOf s.quay.sas r.cmd
  let first := if opOf s r = .append then (getZone s n.nsid no).wp else slbaOf r.cmd % 262144
  match takeRange s n no first len with
  | .error e => finish (if e.1 = 0x81 then noEligible s n.layout else s) r.tag e
  | .ok s1 =>
    let f := fun x : TagRec => { x with taken := some (n.nsid, no * 262144 + first, len), zmLba := no * 262144 + first }
    startWrite (updTag s1 r.tag f) (f r)

/-- A write, append, Write Zeroes or deallocation starts; clearing chart entries fetches no data. -/
def writeAct (s : State) (r : TagRec) : State :=
  match nsAt s (nsidOf s r) with
  | none => finish s r.tag (stG 0x0B)
  | some n =>
    if nlbOf s.quay.sas r.cmd = 0 ∧ opOf s r ≠ .dealloc then finishOk s r.tag
    else if takesRange s r then zonedAct s n r
    else match opOf s r with
      | .dealloc => updTag s r.tag fun x => { x with stage := 3 }
      | .zeroes => fetchData s r
      | _ => startWrite s r

/-! ### Zone management (R253, R258, R259, R327, R349) -/

/-- The zone action of a command: 1 close, 2 finish, 3 open, 4 reset (R324). -/
def zoneAction (c : HostCmd) : Nat := c.dw13 % 256

/-- Invalid Zone State Transition. -/
def stZone : St := stC 0xBF

/-- One zone opened explicitly. -/
def zoneOpenOne (s : State) (n : Ns) (z : Zone) : Except St State :=
  match z.st with
  | .empty | .impOpen | .closed => openZone s n z .expOpen
  | .expOpen => .ok s
  | _ => .error stZone

/-- One zone closed. -/
def zoneCloseOne (s : State) (z : Zone) : Except St State :=
  match z.st with
  | .impOpen | .expOpen => .ok (putZone s { z with st := .closed })
  | .closed => .ok s
  | _ => .error stZone

/-- One zone finished. -/
def zoneFinishOne (s : State) (n : Ns) (z : Zone) : Except St State :=
  match z.st with
  | .readOnly => .error stZone
  | .full => .ok s
  | _ => .ok (finishZone s n z)

/-- One zone reset. -/
def zoneResetOne (s : State) (z : Zone) : Except St State :=
  match z.st with
  | .readOnly => .error stZone
  | .empty => .ok s
  | _ => .ok (resetZone s z)

/-- One zone under an action. -/
def zoneOne (act : Nat) (n : Ns) (s : State) (z : Zone) : Except St State :=
  if act = 1 then zoneCloseOne s z
  else if act = 2 then zoneFinishOne s n z
  else if act = 3 then zoneOpenOne s n z
  else zoneResetOne s z

/-- The zones that an action on every zone changes. -/
def allFor (act : Nat) (z : Zone) : Bool :=
  if act = 1 then decide (z.st = .impOpen) || decide (z.st = .expOpen)
  else if act = 2 then decide (z.st = .impOpen) || decide (z.st = .expOpen) || decide (z.st = .closed)
  else if act = 3 then decide (z.st = .closed)
  else decide (z.st ≠ .empty) && decide (z.st ≠ .readOnly)

/-- Several zones under an action; none is changed where one fails. -/
def zonesUnder (act : Nat) (n : Ns) : List Zone → State → Except St State
  | [], s => .ok s
  | z :: zs, s => match zoneOne act n s z with | .ok s1 => zonesUnder act n zs s1 | .error e => .error e

/-- The zones a command names. -/
def zonesNamed (s : State) (n : Ns) (c : HostCmd) : List Zone :=
  if allZonesAct s.quay.sas c then (s.tbl.zones.filter fun z => z.nsid = n.nsid).filter (allFor (zoneAction c))
  else [getZone s n.nsid (slbaOf c / 262144)]

/-- A zone management command acts; another action than the four ends with Invalid Field in Command (R327). -/
def zoneAct (s : State) (r : TagRec) : State :=
  match nsAt s (nsidOf s r) with
  | none => finish s r.tag (stG 0x0B)
  | some n =>
    if zoneAction r.cmd = 0 ∨ 4 < zoneAction r.cmd then finish s r.tag (stG 0x02)
    else match zonesUnder (zoneAction r.cmd) n (zonesNamed s n r.cmd) s with
      | .ok s1 => finishOk s1 r.tag
      | .error e => finish s r.tag e

/-! ### Report Zones (R324, R327) -/

/-- The code of a zone state in a zone descriptor. -/
def zoneCode : ZSt → Nat
  | .empty => 1
  | .impOpen => 2
  | .expOpen => 3
  | .closed => 4
  | .readOnly => 0xD
  | .full => 0xE

/-- A zone is reported under an option: 0 all, 1 to 7 the zones of one state; none is Offline. -/
def reportsZone (opt : Nat) (z : Zone) : Bool :=
  if opt = 0 then true
  else if opt ≤ 4 then decide (zoneCode z.st = opt)
  else if opt = 5 then decide (z.st = .full)
  else if opt = 6 then decide (z.st = .readOnly) else false

/-- A zone has a valid write pointer. -/
def wpValid (z : Zone) : Bool := decide (z.st ≠ .full) && decide (z.st ≠ .readOnly)

/-- A zone descriptor of the Zoned Namespace command set. -/
def zoneDesc (z : Zone) : List Byte :=
  leBytes 1 2 ++ leBytes 1 (zoneCode z.st * 16) ++ leBytes 6 0 ++ leBytes 8 262144 ++ leBytes 8 (z.no * 262144) ++
    leBytes 8 (if wpValid z then z.no * 262144 + z.wp else 2 ^ 64 - 1) ++ leBytes 32 0

/-- The zones from one on that an option reports. -/
def zonesFrom (s : State) (n : Ns) (first opt : Nat) : List Zone :=
  ((List.range (n.size / 262144 - first)).map fun i => getZone s n.nsid (first + i)).filter (reportsZone opt)

/-- The Report Zones data, cut to the length asked. -/
def zoneReport (s : State) (n : Ns) (c : HostCmd) : List Byte :=
  let len := (c.dw12 % 2 ^ 32 + 1) * 4
  let zs := zonesFrom s n (slbaOf c / 262144) (fld c.dw13 8 8)
  let fit := zs.take ((len - 64) / 64)
  (leBytes 8 (if bitAt c.dw13 16 then fit.length else zs.length) ++ leBytes 56 0 ++ fit.flatMap zoneDesc).take len

/-- Report Zones acts. -/
def reportAct (s : State) (r : TagRec) : State :=
  match nsAt s (nsidOf s r) with
  | none => finish s r.tag (stG 0x0B)
  | some n =>
    if !n.zoned then finish s r.tag (stG 0x01)
    else if n.size ≤ slbaOf r.cmd then finish s r.tag (stG 0x80)
    else if r.cmd.dw13 % 256 ≠ 0 ∨ 7 < fld r.cmd.dw13 8 8 then finish s r.tag (stG 0x02)
    else finishOk (sendData s r.tag (zoneReport s n r.cmd)) r.tag

/-! ### Reservations (R309, R324) -/

/-- The reservation state of a namespace stored, in NOR: it persists through power loss (R309). -/
def putRsv (s : State) (x : Rsv) : State :=
  updNv s fun v => { v with rsv := x :: v.rsv.filter fun y => y.nsid ≠ x.nsid }

/-- Every registrant holds an all-registrants reservation. -/
def allReg (t : Nat) : Bool := decide (t = 5) || decide (t = 6)

/-- A sender's key. -/
def keyFor (x : Rsv) (who : Nat) : Option Nat := (x.registrants.find? fun e => e.1 = who).map (·.2)

/-- A sender holds the reservation. -/
def holdsRsv (x : Rsv) (who : Nat) : Bool :=
  match x.holder with | some (h, t) => if allReg t then registered x who else decide (h = who) | none => false

/-- A registrant leaves; the reservation goes with its holder, or with the last of all registrants. -/
def dropReg (x : Rsv) (who : Nat) : Rsv :=
  let rs := x.registrants.filter fun e => e.1 ≠ who
  let gone := match x.holder with | some (h, t) => if allReg t then decide (rs = []) else decide (h = who) | none => false
  { x with registrants := rs, holder := if gone then none else x.holder }

/-- Register (0), unregister (1), replace (2). -/
def rsvRegister (x : Rsv) (who key new act : Nat) (ignore : Bool) : Except St Rsv :=
  let mine := keyFor x who
  let ok := ignore || decide (mine = some key)
  if act = 0 then
    match mine with
    | none => .ok { x with registrants := x.registrants ++ [(who, new)], gen := x.gen + 1 }
    | some k => if k = new then .ok x else .error (stG 0x83)
  else if mine.isNone ∨ !ok then .error (stG 0x83)
  else if act = 1 then .ok { dropReg x who with gen := x.gen + 1 }
  else if act = 2 then .ok { x with registrants := x.registrants.map (fun e => if e.1 = who then (who, new) else e), gen := x.gen + 1 }
  else .error (stG 0x02)

/-- Acquire (0), preempt (1 and 2): what LX-4 aborts it aborts by queue resets only (R351). -/
def rsvAcquire (x : Rsv) (who key pkey act typ : Nat) (ignore : Bool) : Except St Rsv :=
  if typ = 0 ∨ 6 < typ then .error (stG 0x02)
  else if !registered x who ∨ (!ignore ∧ keyFor x who ≠ some key) then .error (stG 0x83)
  else if act = 0 then
    match x.holder with
    | none => .ok { x with holder := some (who, typ) }
    | some (h, t) => if holdsRsv x who ∧ t = typ then .ok { x with holder := some (h, t) } else .error (stG 0x83)
  else if act ≤ 2 then
    let all := match x.holder with | some (_, t) => allReg t && decide (pkey = 0) | none => false
    let hit := x.registrants.filter fun e => decide (e.1 ≠ who) && (all || decide (e.2 = pkey))
    let takes := match x.holder with
      | some (h, t) => if allReg t then decide (pkey = 0) else decide (keyFor x h = some pkey)
      | none => false
    if !takes ∧ hit = [] then .error (stG 0x83)
    else
      let y := hit.foldl (fun y e => dropReg y e.1) x
      .ok { y with holder := if takes then some (who, typ) else y.holder, gen := x.gen + 1 }
  else .error (stG 0x02)

/-- Release (0), clear (1). -/
def rsvRelease (x : Rsv) (who key act typ : Nat) (ignore : Bool) : Except St Rsv :=
  if !registered x who ∨ (!ignore ∧ keyFor x who ≠ some key) then .error (stG 0x83)
  else if act = 0 then
    match x.holder with
    | none => .ok x
    | some (_, t) => if !holdsRsv x who then .ok x else if t ≠ typ then .error (stG 0x02) else .ok { x with holder := none }
  else if act = 1 then .ok { x with registrants := [], holder := none, gen := x.gen + 1 }
  else .error (stG 0x02)

/-- The reservation notification an NVMe controller gets when it lost its registration (1: registration
preempted, 3: reservation preempted) or a reservation it was registrant of was released (2). -/
def rsvNotice (was now : Rsv) (who f : Nat) : Option Nat :=
  if f = who then none
  else if registered was f && !registered now f then some (if holdsRsv was f then 3 else 1)
  else if registered was f && was.holder.isSome && now.holder.isNone then some 2
  else none

/-- The notifications of a change to the other controllers, subject to the Reservation Notification Mask. -/
def rsvNotify (s : State) (was now : Rsv) (who : Nat) : State :=
  if s.quay.sas then s
  else forEach (enabledFns s) s fun s f =>
    match rsvNotice was now who f.val with
    | some t =>
      if bitAt (featOf s f 0x82 was.nsid) t then s
      else asyncEvent (updFn s f fun x => { x with rsvLog := x.rsvLog ++ [(t, was.nsid)] }) f 6 0 0x80
    | none => s

/-- A reservation command ends with the new state, its notifications, and success. -/
def rsvEnd (s : State) (r : TagRec) (x : Rsv) (e : Except St Rsv) : State :=
  match e with
  | .error st => finish s r.tag st
  | .ok y => finishOk (rsvNotify (putRsv s y) x y (whoOf s r)) r.tag

/-- The status structure of Reservation Report. -/
def rsvReport (x : Rsv) (ext : Bool) : List Byte :=
  let one := fun e : Nat × Nat =>
    let st := leBytes 1 (b2n (holdsRsv x e.1)) ++ leBytes 5 0
    if ext then leBytes 2 e.1 ++ st ++ leBytes 8 e.2 ++ leBytes 16 e.1 ++ leBytes 32 0
    else leBytes 2 e.1 ++ st ++ leBytes 8 e.1 ++ leBytes 8 e.2
  leBytes 4 x.gen ++ leBytes 1 (match x.holder with | some h => h.2 | none => 0) ++ leBytes 2 x.registrants.length ++
    leBytes 2 0 ++ leBytes 1 (b2n x.ptpl) ++ leBytes 14 0 ++ (if ext then leBytes 40 0 else []) ++ x.registrants.flatMap one

/-- A reservation command of the NVMe I/O set acts; writing NOR waits on NV-write inhibit elsewhere. -/
def rsvAct (s : State) (r : TagRec) : State :=
  let c := r.cmd
  let x := rsvOf s c.nsid
  let who := whoOf s r
  let key := leNat (c.data.take 8)
  let k2 := leNat ((c.data.drop 8).take 8)
  let ign := bitAt c.dw10 3
  if c.opc = 0x0D then
    let cpt := fld c.dw10 30 2
    rsvEnd s r x ((rsvRegister x who key k2 (c.dw10 % 8) ign).map fun y =>
      { y with ptpl := if cpt = 2 then false else if cpt = 3 then true else y.ptpl })
  else if c.opc = 0x11 then rsvEnd s r x (rsvAcquire x who key k2 (c.dw10 % 8) (fld c.dw10 8 8) ign)
  else if c.opc = 0x15 then rsvEnd s r x (rsvRelease x who key (c.dw10 % 8) (fld c.dw10 8 8) ign)
  else finishOk (sendData s r.tag ((rsvReport x (bitAt c.dw11 0)).take ((c.dw10 % 2 ^ 32 + 1) * 4))) r.tag

/-! ### The I/O commands -/

/-- What an I/O command does once nothing holds it. -/
def ioAct (s : State) (r : TagRec) : State :=
  match opOf s r with
  | .read | .verify => readAct s r
  | .write | .append | .zeroes | .dealloc => writeAct s r
  | .zone => zoneAct s r
  | .flush => finishOk s r.tag
  | .other => if r.cmd.opc = 0x7A then reportAct s r else rsvAct s r

/-- A Dataset Management without the deallocate attribute changes nothing (R324). -/
def noEffect (s : State) (r : TagRec) : Bool := !s.quay.sas && decide (opOf s r = .dealloc) && !bitAt r.cmd.dw11 2

/-- An I/O command is admitted: checked, then acts or waits. A Flush may name every namespace. -/
def ioAdmit (s : State) (r : TagRec) : State :=
  if opOf s r = .flush ∧ !s.quay.sas ∧ r.cmd.nsid = 0xFFFFFFFF then finishOk s r.tag
  else admitCmd s r (ioCheck s r) fun s r => if noEffect s r then finishOk s r.tag else ioAct s r

/-- The NVMe I/O command of a tag, if it is one of the kind a row names. -/
def ioRow (s : State) (t : Tag) (p : HostCmd → Bool) : State :=
  match tagAt s t with
  | some r => if !s.quay.sas && decide (r.qid ≠ 0) && p r.cmd && admissible s r then ioAdmit s r else s
  | none => s

/-- READ (R16, R17, R348). -/
def execRead (t : Tag) (s : State) : Host.Outcome State Fault Refusal := .next (ioRow s t fun c => c.opc = 0x02)

/-- WRITE (R13, R252, R536). -/
def execWrite (t : Tag) (s : State) : Host.Outcome State Fault Refusal := .next (ioRow s t fun c => c.opc = 0x01)

/-- FLUSH completes on admission: the write cache is non-volatile (R309, R349). -/
def execFlush (t : Tag) (s : State) : Host.Outcome State Fault Refusal := .next (ioRow s t fun c => c.opc = 0x00)

/-- WRITE_ZEROES (R536). -/
def execWriteZeroes (t : Tag) (s : State) : Host.Outcome State Fault Refusal := .next (ioRow s t fun c => c.opc = 0x08)

/-- DATASET_MANAGEMENT: deallocation in conventional namespaces (R262, R324). -/
def execDatasetManagement (t : Tag) (s : State) : Host.Outcome State Fault Refusal := .next (ioRow s t fun c => c.opc = 0x09)

/-- VERIFY (R342). -/
def execVerify (t : Tag) (s : State) : Host.Outcome State Fault Refusal := .next (ioRow s t fun c => c.opc = 0x0C)

/-- RESERVATION_REGISTER (R309, R324). -/
def execReservationRegister (t : Tag) (s : State) : Host.Outcome State Fault Refusal := .next (ioRow s t fun c => c.opc = 0x0D)

/-- RESERVATION_REPORT (R309, R324). -/
def execReservationReport (t : Tag) (s : State) : Host.Outcome State Fault Refusal := .next (ioRow s t fun c => c.opc = 0x0E)

/-- RESERVATION_ACQUIRE (R309, R324). -/
def execReservationAcquire (t : Tag) (s : State) : Host.Outcome State Fault Refusal := .next (ioRow s t fun c => c.opc = 0x11)

/-- RESERVATION_RELEASE (R309, R324). -/
def execReservationRelease (t : Tag) (s : State) : Host.Outcome State Fault Refusal := .next (ioRow s t fun c => c.opc = 0x15)

/-- ZONE_APPEND (R349, R536). -/
def execZoneAppend (t : Tag) (s : State) : Host.Outcome State Fault Refusal := .next (ioRow s t fun c => c.opc = 0x7D)

/-- ZONE_OPEN (R253, R327). -/
def execZoneOpen (t : Tag) (s : State) : Host.Outcome State Fault Refusal :=
  .next (ioRow s t fun c => decide (c.opc = 0x79) && decide (zoneAction c = 3))

/-- ZONE_CLOSE (R327). -/
def execZoneClose (t : Tag) (s : State) : Host.Outcome State Fault Refusal :=
  .next (ioRow s t fun c => decide (c.opc = 0x79) && decide (zoneAction c = 1))

/-- ZONE_FINISH (R258, R327). -/
def execZoneFinish (t : Tag) (s : State) : Host.Outcome State Fault Refusal :=
  .next (ioRow s t fun c => decide (c.opc = 0x79) && decide (zoneAction c = 2))

/-- ZONE_RESET (R259, R327). -/
def execZoneReset (t : Tag) (s : State) : Host.Outcome State Fault Refusal :=
  .next (ioRow s t fun c => decide (c.opc = 0x79) && decide (zoneAction c = 4))

/-- ZONE_OFFLINE ends with Invalid Field in Command, as does every action not supported (R324, R327). -/
def execZoneOffline (t : Tag) (s : State) : Host.Outcome State Fault Refusal :=
  .next (ioRow s t fun c => decide (c.opc = 0x79) && (decide (zoneAction c = 0) || decide (4 < zoneAction c)))

/-- REPORT_ZONES (R324, R327). -/
def execReportZones (t : Tag) (s : State) : Host.Outcome State Fault Refusal := .next (ioRow s t fun c => c.opc = 0x7A)

end Sys2Proof.Machine
end

