-- ==== Sys2Proof/Machine/Keys.lean ====
section
/-! DEFINITION. Keys: randomness, the key store, media encryption keys and the crypto-erase of a
namespace (R483 to R488, R490). -/

namespace Sys2Proof.Machine

/-- Random bytes from the spring, and the state after the draw (R482). -/
def draw (s : State) (n : Nat) : List Byte × State := (Config.spring n s.freeCtr, { s with freeCtr := s.freeCtr + 1 })

/-- The device-unique key; all ones once destroyed (R471). -/
def dukOf (s : State) : List Byte := if s.nv.otp.dukOnes then List.replicate 32 0xFF else s.nv.otp.duk.getD []

/-- ASCII bytes of a label. -/
def ascii (l : List Nat) : List Byte := l.map (BitVec.ofNat 8)

/-- The key-encryption key of one wrap (R487); `cred` is the credential term, zero for the device wrap. -/
def kekOf (s : State) (epoch nsid : Nat) (cred : List Byte) : List Byte :=
  (Config.shake256 (ascii [0x4E, 0x53, 0x4B, 0x57] ++ dukOf s ++ leBytes 1 epoch ++ leBytes 2 nsid ++ cred)).take 32

/-- The credential term of the device wrap (R487). -/
def zeroCred : List Byte := List.replicate 32 0

/-- The digest of an authority's credential (R487). -/
def credOf (s : State) (auth : Nat) : List Byte := ((s.nv.opalOwner.find? fun e => e.1 = auth).map (·.2)).getD zeroCred

/-- The locking object of a namespace with locking enabled (R489). -/
def lockAt (s : State) (nsid : Nat) : Option Lock := s.nv.locks.find? fun l => l.nsid = nsid

/-- The key-store entry of a namespace (R485). -/
def keyAt (s : State) (nsid : Nat) : Option KeyEntry := s.nv.keys.find? fun k => k.nsid = nsid

/-- The wraps of a key: one per authority with unlock rights, or the device wrap (R485, R490). -/
def wrapsOf (s : State) (nsid : Nat) (mek : List Byte) : List (List Byte × Nat) :=
  match lockAt s nsid with
  | some l => l.unlockers.map fun a => (Config.wrap (kekOf s s.sec.epoch nsid (credOf s a)) mek, a)
  | none => [(Config.wrap (kekOf s s.sec.epoch nsid zeroCred) mek, 0)]

/-- A namespace is both read-locked and write-locked, so its slot is zeroised (R490). -/
def fullyLocked (s : State) (nsid : Nat) : Bool :=
  match lockAt s nsid with | some l => l.readLocked && l.writeLocked | none => false

/-- A key slot loaded; it stays empty while the namespace is locked both ways (R484, R490). -/
def loadSlot (s : State) (nsid : Nat) (mek : List Byte) : State :=
  updSec s fun x => { x with slots := (if fullyLocked s nsid then [] else [(nsid - 1, mek)]) ++ x.slots.filter fun e => e.1 ≠ nsid - 1 }

/-- A key slot zeroised. -/
def clearSlot (s : State) (nsid : Nat) : State := updSec s fun x => { x with slots := x.slots.filter fun e => e.1 ≠ nsid - 1 }

/-- A new media encryption key: drawn, wrapped, written and loaded (R484, R485, R488). -/
def newKey (s : State) (nsid : Nat) (pending : Bool) : State :=
  let d := draw s 64
  let old := (keyAt s nsid).getD { nsid := nsid }
  loadSlot (putKey d.2 { old with epoch := s.sec.epoch, erasePending := pending, locking := (lockAt s nsid).isSome,
                                  wraps := wrapsOf s nsid d.1 }) nsid d.1

/-- Every zone of a namespace reset, or every chart entry cleared, so that reads return zeros (R488). -/
def clearNs (s : State) (n : Ns) : State :=
  if n.zoned then forEach (s.tbl.zones.filter fun z => z.nsid = n.nsid) s resetZone
  else deallocRange s n (0, n.size)

/-- The crypto-erase of one namespace up to step 5 (R488). -/
def cryptoErase (s : State) (n : Ns) : State :=
  let s1 := newKey s n.nsid true
  let gen := ((keyAt s1 n.nsid).map (·.gen)).getD 0
  clearNs (raise s1 (.numbered 0x300A) 0 0x03 0 n.nsid gen) n

/-- A command that needs randomness must wait for the spring (R483). -/
def springDown (s : State) : Bool := s.sec.springFailed

end Sys2Proof.Machine
end

