-- ==== Sys2Proof/Machine/Admin.lean ====
section
/-! DEFINITION. Admin: the NVMe admin commands: queues, identification, logs, features, namespaces,
virtualization, formats (R305 to R312, R324 to R330, R336, R339, R351, R352, R488, R509). -/

namespace Sys2Proof.Machine

/-! ### Data structures -/

/-- A data structure of `n` bytes with the fields given; every other byte is a free value. -/
def sheet (s : State) (n : Nat) (fs : List (Nat × List Byte)) : List Byte × State :=
  ((List.range n).map fun i =>
    match fs.findSome? fun f => if f.1 ≤ i then f.2[i - f.1]? else none with
    | some b => b
    | none => Config.freeWord 8 (s.freeCtr + i), { s with freeCtr := s.freeCtr + n })

/-- A number as hexadecimal digits in ASCII, most significant first. -/
def hexAscii : Nat → Nat → List Byte
  | 0, _ => []
  | n + 1, v => let d := v / 16 ^ n % 16
                BitVec.ofNat 8 (if d < 10 then 0x30 + d else 0x37 + d) :: hexAscii n v

/-- Bytes padded with zeros, or cut, to a length. -/
def padTo (n : Nat) (bs : List Byte) : List Byte := (bs ++ List.replicate (n - bs.length) 0).take n

/-- A list of identifiers of two or four bytes, zero where it ends. -/
def idList (w n : Nat) (ids : List Nat) : List Byte := padTo n (ids.flatMap (leBytes w))

/-! ### Resources of a controller (R310) -/

/-- Flexible queue pairs of a PF. -/
def vqPool (s : State) : Nat := if s.quay.par.full then 524224 else 8128
/-- Largest number of flexible queue pairs of a VF. -/
def vqMax (s : State) : Nat := if s.quay.par.full then 65536 else 8128

/-- Queue pairs and vectors assigned to the VFs of a PF. -/
def assignedOf (s : State) (pf : Fn) : Nat × Nat :=
  (s.quay.funcs.filter fun x => decide (pfOf x.idx = pf) && decide (x.idx ≠ pf)).foldl (fun a x => (a.1 + x.vq, a.2 + x.vi)) (0, 0)

/-- Queue pairs of a controller, the admin pair included (R310). -/
def vqOf (s : State) (f : Fn) : Nat := if isPf f then 64 + (vqPool s - (assignedOf s f).1) else (fnOf s f).vq
/-- Interrupt vectors of a controller (R306, R310). -/
def viOf (s : State) (f : Fn) : Nat := min 2048 (if isPf f then 64 + (32704 - (assignedOf s f).2) else (fnOf s f).vi)

/-- I/O queue pairs a controller may create: its resources, and what it asked for by Number of Queues. -/
def queueLimit (s : State) (f : Fn) : Nat :=
  match (fnOf s f).features.find? fun e => e.1 = 7 with
  | some e => min (vqOf s f - 1) (e.2.2 % 65536 + 1)
  | none => vqOf s f - 1

/-! ### Waiting (R349, R449, R483, R486, R526) -/

/-- The command writes NOR: it stays in flight while NV-write inhibit is active. -/
def writesNor (s : State) (r : TagRec) : Bool :=
  let c := r.cmd
  if s.quay.sas then [0x04, 0x48, 0x3B].contains c.opc || (decide (c.opc = 0x55) && bitAt c.dw15 0)
  else decide (r.qid = 0) && (decide (c.opc = 0x0D) || decide (c.opc = 0x15) || decide (c.opc = 0x80) || decide (c.opc = 0x84) ||
    decide (c.opc = 0x10))

/-- The command draws a key from the spring (R483). -/
def needsRandom (s : State) (r : TagRec) : Bool :=
  let c := r.cmd
  if s.quay.sas then decide (c.opc = 0x48)
  else decide (r.qid = 0) && (decide (c.opc = 0x0D) || (decide (c.opc = 0x80) && decide (fld c.dw10 9 3 = 2)) ||
    decide (c.opc = 0x84))

/-- The command must wait: for others, for the end of NV-write inhibit, or for the spring. -/
def heldUp (s : State) (r : TagRec) : Bool :=
  mustWait s r || (s.bw.inhibit && writesNor s r) || (springDown s && needsRandom s r)

/-- An admin command is admitted: it acts, or waits in ORDER_WAIT. -/
def adminAdmit (s : State) (r : TagRec) (act : State → TagRec → State) : State :=
  if heldUp s r then updTag s r.tag fun x => { x with stage := 2 } else act s r

/-- The NVMe admin command of a tag, if it is one that a row names. -/
def adminRow (s : State) (t : Tag) (p : HostCmd → Bool) (act : State → TagRec → State) : State :=
  match tagAt s t with
  | some r => if !s.quay.sas && decide (r.qid = 0) && p r.cmd && admissible s r then adminAdmit s r act else s
  | none => s

/-! ### Queues (R310, R312, R352) -/

/-- Create I/O Completion Queue. -/
def createCqAct (s : State) (r : TagRec) : State :=
  let c := r.cmd
  let qid := c.dw10 % 65536
  let iv := c.dw11 / 65536 % 65536
  if qid = 0 ∨ queueLimit s r.func < qid ∨ (moorAt s r.func qid).isSome then finish s r.tag (stC 0x01)
  else if c.dw10 / 65536 % 65536 = 0 then finish s r.tag (stC 0x02)
  else if !bitAt c.dw11 0 then finish s r.tag (stG 0x02)
  else if viOf s r.func ≤ iv then finish s r.tag (stC 0x08)
  else if c.prp1 % 4096 ≠ 0 then finish s r.tag (stG 0x13)
  else
    let m : Mooring := { cqBase := c.prp1, cqSize := c.dw10 / 65536 % 65536, vector := iv, ien := bitAt c.dw11 1, st := 1,
                         func := r.func, qid := qid, cqMade := true }
    finishOk (touchMoor (updQuay s fun q => { q with moorings := q.moorings ++ [m] }) r.func qid) r.tag

/-- Create I/O Submission Queue: it names the completion queue of its own identifier. -/
def createSqAct (s : State) (r : TagRec) : State :=
  let c := r.cmd
  let qid := c.dw10 % 65536
  let made : Bool := match moorAt s r.func qid with | some m => m.sqMade | none => false
  let hasCq : Bool := match moorAt s r.func qid with | some m => m.cqMade && decide (m.st = 1) | none => false
  if qid = 0 ∨ queueLimit s r.func < qid ∨ made then finish s r.tag (stC 0x01)
  else if c.dw11 / 65536 % 65536 ≠ qid ∨ !hasCq then
    finish s r.tag (stC 0x00)
  else if c.dw10 / 65536 % 65536 = 0 then finish s r.tag (stC 0x02)
  else if !bitAt c.dw11 0 then finish s r.tag (stG 0x02)
  else if c.prp1 % 4096 ≠ 0 then finish s r.tag (stG 0x13)
  else
    let g := fun m : Mooring =>
      { m with sqBase := c.prp1, sqSize := c.dw10 / 65536 % 65536, qprio := fld c.dw11 1 2, sqMade := true, sqTail := 0, sqFetch := 0 }
    finishOk (touchMoor (updMoor s r.func qid g) r.func qid) r.tag

/-- Delete I/O Submission Queue: DELETING, the sweep, and the wait for INFLIGHT 0 (R352). -/
def deleteSqAct (s : State) (r : TagRec) : State :=
  let qid := r.cmd.dw10 % 65536
  match moorAt s r.func qid with
  | some m =>
    if qid = 0 ∨ !m.sqMade ∨ m.st = 3 then finish s r.tag (stC 0x01)
    else
      let s1 := updMoor (touchMoor s r.func qid) r.func qid fun m => { m with st := 3 }
      let s2 := sweep s1 fun x => decide (x.func = r.func) && decide (x.qid = qid)
      refresh (updTag (updCmds s2 fun c => { c with deletes := c.deletes ++ [(r.tag, qid)] }) r.tag fun x => { x with stage := 4, latch := true })
  | none => finish s r.tag (stC 0x01)

/-- Delete I/O Completion Queue: STATE becomes FREE (R352). -/
def deleteCqAct (s : State) (r : TagRec) : State :=
  let qid := r.cmd.dw10 % 65536
  match moorAt s r.func qid with
  | some m =>
    if qid = 0 ∨ !m.cqMade then finish s r.tag (stC 0x01)
    else if m.sqMade then finish s r.tag (stC 0x0C)
    else
      let keep := fun x : Mooring => !(decide (x.func = r.func) && decide (x.qid = qid))
      finishOk (updQuay s fun q => { q with moorings := q.moorings.filter keep, cache := q.cache.erase (r.func, qid) }) r.tag
  | none => finish s r.tag (stC 0x01)

/-! ### Identify (R309, R310, R325 to R327) -/

/-- Identify Controller. -/
def idCtrl (s : State) (f : Fn) : List (Nat × List Byte) :=
  [(64, hexAscii 8 s.fw.activeVersion), (77, leBytes 1 9), (78, leBytes 2 f.val), (80, leBytes 4 vsReg), (256, leBytes 2 0x29F),
   (258, leBytes 1 3), (259, leBytes 1 0), (260, leBytes 1 0x14), (262, leBytes 1 63), (263, leBytes 1 0), (265, leBytes 1 0),
   (319, leBytes 1 1), (320, leBytes 2 0), (328, leBytes 1 1), (512, leBytes 1 0x66), (513, leBytes 1 0x44), (516, leBytes 4 1024),
   (520, leBytes 2 0xEC), (524, leBytes 1 4), (525, leBytes 1 0), (2048, leBytes 2 s.quay.par.maxPower)]

/-- Identify Namespace. -/
def idNs (n : Ns) : List (Nat × List Byte) :=
  [(0, leBytes 8 n.size), (8, leBytes 8 n.size), (25, leBytes 1 2), (26, leBytes 1 (n.lbaf + 16 * b2n n.extended)), (27, leBytes 1 3),
   (29, leBytes 1 n.piType), (31, leBytes 1 0x7F), (128, leBytes 3 0x0C0000), (132, leBytes 3 0x0C0008), (136, leBytes 3 0x0C0010)]

/-- Identify Namespace of the Zoned Namespace command set (R327). -/
def idZoned (s : State) (n : Ns) : List (Nat × List Byte) :=
  [(0, leBytes 2 0), (4, leBytes 4 (maxOpen s n - 1)), (8, leBytes 4 (maxOpen s n - 1)), (2816, leBytes 8 262144 ++ leBytes 1 0),
   (2832, leBytes 8 262144 ++ leBytes 1 0), (2848, leBytes 8 262144 ++ leBytes 1 0)]

/-- Primary Controller Capabilities (R310). -/
def idPrimary (s : State) (pf : Fn) : List (Nat × List Byte) :=
  let a := assignedOf s pf
  [(0, leBytes 2 pf.val), (4, leBytes 1 3), (32, leBytes 4 (vqPool s)), (36, leBytes 4 a.1), (42, leBytes 2 64),
   (44, leBytes 2 (min (vqMax s) 65535)), (64, leBytes 4 32704), (68, leBytes 4 a.2), (74, leBytes 2 64), (76, leBytes 2 2048)]

/-- One entry of the Secondary Controller List. -/
def secondary (s : State) (pf : Fn) (n : Nat) : List Byte :=
  let f : Fn := ⟨(pf.val + n) % 1024, Nat.mod_lt _ (by decide)⟩
  let x := fnOf s f
  leBytes 2 f.val ++ leBytes 2 pf.val ++ leBytes 1 (b2n x.online) ++ leBytes 3 0 ++ leBytes 2 n ++ leBytes 2 x.vq ++ leBytes 2 x.vi ++
    leBytes 18 0

/-- The Secondary Controller List from an identifier on: at most 127 entries. -/
def secondaryList (s : State) (pf : Fn) (from_ : Nat) : List Byte :=
  let ns := ((List.range 511).map (· + 1)).filter fun n => decide (from_ ≤ pf.val + n)
  leBytes 1 (min ns.length 127) ++ leBytes 31 0 ++ (ns.take 127).flatMap (secondary s pf)

/-- Namespaces above an identifier, ascending. -/
def nsAbove (s : State) (nsid : Nat) (p : Ns → Bool) : List Nat :=
  ((s.nv.namespaces.filter fun n => decide (nsid < n.nsid) && p n).map (·.nsid)).foldl (fun acc n => insertAsc n acc) []

/-- The Identify data of a CNS value: fields over a structure of free bytes, or a list whole. -/
def identifyOf (s : State) (r : TagRec) : Except St (List Byte × State) :=
  let c := r.cmd
  let cns := c.dw10 % 256
  let cnt := c.dw10 / 65536
  let csi := c.dw11 / 2 ^ 24 % 256
  let n := nsAt s c.nsid
  let mine := fun n : Ns => n.attached.contains r.func
  let whole := fun bs : List Byte => (Except.ok (padTo 4096 bs, s) : Except St (List Byte × State))
  let sheetE := fun fs => (Except.ok (sheet s 4096 fs) : Except St (List Byte × State))
  if cns = 0x00 ∨ cns = 0x11 then
    match n with
    | some n => if cns = 0x11 ∨ mine n then sheetE (idNs n) else whole []
    | none => if c.nsid = 0xFFFFFFFF then sheetE [(25, leBytes 1 2)] else .error (stG 0x0B)
  else if cns = 0x01 then sheetE (idCtrl s r.func)
  else if cns = 0x02 then whole (idList 4 4096 (nsAbove s c.nsid mine))
  else if cns = 0x03 then
    match n with
    | some n => whole (leBytes 1 4 ++ leBytes 1 1 ++ leBytes 2 0 ++ leBytes 1 (if n.zoned then 2 else 0))
    | none => .error (stG 0x0B)
  else if cns = 0x05 then
    match n with
    | some n =>
      if csi = (if n.zoned then 2 else 0) then (if n.zoned then sheetE (idZoned s n) else sheetE []) else .error (stC 0x29)
    | none => .error (stG 0x0B)
  else if cns = 0x06 then (if csi = 2 then sheetE [(0, leBytes 1 9)] else if csi = 0 then sheetE [] else .error (stG 0x02))
  else if cns = 0x07 then whole (idList 4 4096 (nsAbove s c.nsid fun n => mine n && decide (csi = if n.zoned then 2 else 0)))
  else if cns = 0x08 then
    match n with | some _ => sheetE [] | none => .error (stG 0x0B)
  else if cns = 0x10 then whole (idList 4 4096 (nsAbove s c.nsid fun _ => true))
  else if cns = 0x12 then
    match n with
    | some n =>
      let ids := ((n.attached.map (·.val)).filter (cnt ≤ ·)).foldl (fun acc x => insertAsc x acc) []
      whole (leBytes 2 (min ids.length 2047) ++ idList 2 4094 ids)
    | none => .error (stG 0x0B)
  else if cns = 0x13 then
    let ids := (List.range 1024).filter (cnt ≤ ·)
    whole (leBytes 2 ids.length ++ idList 2 4094 ids)
  else if cns = 0x14 then (if isPf r.func then sheetE (idPrimary s r.func) else .error (stG 0x02))
  else if cns = 0x15 then (if isPf r.func then whole (secondaryList s r.func cnt) else .error (stG 0x02))
  else if cns = 0x1C then whole (leBytes 8 5)
  else .error (stG 0x02)

/-- Identify acts. -/
def identifyAct (s : State) (r : TagRec) : State :=
  match identifyOf s r with
  | .ok x => finishOk (sendData x.2 r.tag x.1) r.tag
  | .error e => finish s r.tag e

/-! ### Log pages (R324, R327, R330, R336, R356) -/

/-- The error information log (R356, R358): entry 0 the newest. -/
def errPage (x : Func) : List Byte :=
  (x.errLog.zipIdx).flatMap fun e =>
    padTo 64 (leBytes 8 (x.errCount - e.2) ++ leBytes 2 e.1.1 ++ leBytes 2 e.1.2.1 ++ leBytes 2 (e.1.2.2.1 * 2) ++ leBytes 2 0xFFFF ++
      leBytes 8 0 ++ leBytes 4 e.1.2.2.2.1 ++ leBytes 4 0 ++ leBytes 8 e.1.2.2.2.2)

/-- The SMART / health fields the spec gives (R330, R356, R508). -/
def smartFields (s : State) (x : Func) : List (Nat × List Byte) :=
  [(0, leBytes 1 s.quay.critWarn), (112, leBytes 16 s.ctr.dev.powerCycles), (128, leBytes 16 (s.ctr.dev.powerOnS / 3600)),
   (144, leBytes 16 s.ctr.dev.imageInvalids), (176, leBytes 16 x.errCount)]

/-- The firmware slot page (R524, R525). -/
def slotPage (s : State) : List Byte :=
  let ver := fun i : Fin 2 => match s.nv.slots[i].pkg with | some p => hexAscii 8 p.version | none => leBytes 8 0
  let next := if s.nv.slots[(1 : Fin 2)].next then 2 else if s.nv.slots[(0 : Fin 2)].next then 1 else 0
  padTo 512 (leBytes 1 (s.boot.slot + 16 * next) ++ leBytes 7 0 ++ ver 0 ++ ver 1)

/-- The commands supported page: one double word per opcode, admin then I/O (R324). -/
def effectsPage : List Byte :=
  padTo 4096 ((List.range 256).flatMap (fun o => leBytes 4 (b2n (adminOps.contains o))) ++
    (List.range 256).flatMap fun o => leBytes 4 (b2n (ioOps.contains o)))

/-- The device self-test page. -/
def testPage (s : State) : List Byte :=
  padTo 564 (leBytes 4 0 ++ s.quay.selfTestLog.flatMap fun e => leBytes 1 (e.1 * 16 + e.2 % 16) ++ leBytes 27 0)

/-- Ascending numbers as runs of consecutive ones. -/
def runsOf : List Nat → List (Nat × Nat)
  | [] => []
  | x :: xs => match runsOf xs with
    | (y, n) :: rs => if x + 1 = y then (x, n + 1) :: rs else (x, 1) :: (y, n) :: rs
    | [] => [(x, 1)]

/-- The LBA status information page (R330). -/
def lbaPage (s : State) : List Byte :=
  let els := s.nv.namespaces.filterMap fun n =>
    let rs := runsOf (lostLbas s n.nsid)
    if rs = [] then none
    else some (leBytes 4 n.nsid ++ leBytes 4 rs.length ++ leBytes 1 0x10 ++ leBytes 7 0 ++
      rs.flatMap fun x => leBytes 8 x.1 ++ leBytes 4 x.2 ++ leBytes 4 0)
  let body := els.flatten
  leBytes 4 (16 + body.length) ++ leBytes 4 els.length ++ leBytes 8 0 ++ body

/-- The reservation notification page: the oldest notification, then it is consumed. -/
def rsvPage (x : Func) : List Byte :=
  match x.rsvLog with
  | e :: _ => padTo 64 (leBytes 8 (x.rsvSeen + 1) ++ leBytes 1 e.1 ++ leBytes 1 (min (x.rsvLog.length - 1) 255) ++ leBytes 2 0 ++ leBytes 4 e.2)
  | [] => padTo 64 (leBytes 8 x.rsvSeen)

/-- The changed zone list of a namespace (R327). -/
def chgPage (x : Func) (nsid : Nat) : List Byte :=
  let zs := (x.chgZones.filter fun z => z.1 = nsid).map (·.2)
  padTo 4096 (leBytes 2 (if 511 < zs.length then 0xFFFF else zs.length) ++ leBytes 6 0 ++ (zs.take 511).flatMap fun z => leBytes 8 (z * 262144))

/-- What reading a page consumes: events unmasked, lists emptied. -/
def consumeLog (s : State) (f : Fn) (lid nsid : Nat) : State :=
  if lid = 0x01 then logRead s f 0
  else if lid = 0x02 then logRead s f 1
  else if lid = 0x0E then logRead s f 2
  else if lid = 0xBF then logRead (updFn s f fun x => { x with chgZones := x.chgZones.filter fun z => z.1 ≠ nsid }) f 2
  else s

/-- The bytes of a log page, and the state after the free values taken. -/
def logOf (s : State) (r : TagRec) : Except St (List Byte × State) :=
  let x := fnOf s r.func
  let lid := r.cmd.dw10 % 256
  if lid = 0x01 then .ok (padTo 4096 (errPage x), s)
  else if lid = 0x02 then .ok (sheet s 512 (smartFields s x))
  else if lid = 0x03 then .ok (slotPage s, s)
  else if lid = 0x05 then .ok (effectsPage, s)
  else if lid = 0x06 then .ok (testPage s, s)
  else if lid = 0x0E then .ok (lbaPage s, s)
  else if lid = 0x80 then .ok (rsvPage x, updFn s r.func fun x => { x with rsvLog := x.rsvLog.drop 1, rsvSeen := x.rsvSeen + min x.rsvLog.length 1 })
  else if lid = 0xBF then
    (match nsAt s r.cmd.nsid with
     | some n => if n.zoned then .ok (chgPage x r.cmd.nsid, s) else .error (stG 0x02)
     | none => .error (stG 0x0B))
  else .error (stC 0x09)

/-- Bytes asked of a log page, and the offset. -/
def logSpan (c : HostCmd) : Nat × Nat :=
  ((c.dw10 / 65536 % 65536 + c.dw11 % 65536 * 65536 + 1) * 4, c.dw12 % 2 ^ 32 + c.dw13 * 2 ^ 32)

/-- A log page is sent from its offset. -/
def sendLog (s : State) (r : TagRec) (page : List Byte) : State :=
  let sp := logSpan r.cmd
  if sp.2 % 4 ≠ 0 ∨ page.length < sp.2 then finish s r.tag (stG 0x02)
  else finishOk (sendData s r.tag ((page.drop sp.2).take sp.1)) r.tag

/-- Get Log Page acts; without Retain Asynchronous Event the page's events are unmasked. -/
def logAct (s : State) (r : TagRec) : State :=
  match logOf s r with
  | .error e => finish s r.tag e
  | .ok x =>
    sendLog (if bitAt r.cmd.dw10 15 then x.2 else consumeLog x.2 r.func (r.cmd.dw10 % 256) r.cmd.nsid) r x.1

/-- Log page 0xC4 of a function (R336). -/
def tallyPage (s : State) (f : Nat) : List Byte :=
  let rs := closedOf s f
  padTo 92224 (padTo 64 (leBytes 2 f ++ leBytes 2 rs.length) ++ rs.flatMap tallyBytes)

/-- The function a tally log names (R336). -/
def tallyTarget (f : Fn) (lsi : Nat) : Option Nat :=
  if lsi = 0xFFFF then some f.val else if isPf f ∧ 1 ≤ lsi ∧ lsi ≤ 511 then some (f.val + lsi) else none

/-- Get Log Page of the tally acts. -/
def tallyLogAct (s : State) (r : TagRec) : State :=
  match tallyTarget r.func (r.cmd.dw11 / 65536 % 65536) with
  | some f => sendLog s r (tallyPage s f)
  | none => finish s r.tag (stG 0x02)

/-! ### Features (R316, R324, R329, R509) -/

/-- A feature value stored. -/
def putFeat (s : State) (f : Fn) (fid key v : Nat) : State :=
  updFn s f fun x => { x with features := (fid, key, v) :: x.features.filter fun e => !(decide (e.1 = fid) && decide (e.2.1 = key)) }

/-- Error Recovery belongs to the namespace: one value whichever controller set it (R329). -/
def putTler (s : State) (f : Fn) (nsid v : Nat) : State :=
  let drop := fun x : Func => { x with features := x.features.filter fun e => !(decide (e.1 = 5) && decide (e.2.1 = nsid)) }
  putFeat (updQuay s fun q => { q with funcs := q.funcs.map drop }) f 5 nsid v

/-- The namespaces a feature command names among those attached. -/
def featNs (s : State) (r : TagRec) : List Ns :=
  s.nv.namespaces.filter fun n => n.attached.contains r.func && (decide (r.cmd.nsid = n.nsid) || decide (r.cmd.nsid = 0xFFFFFFFF))

/-- A namespace-specific feature is set in each namespace named. -/
def setPerNs (s : State) (r : TagRec) (f : State → Ns → State) : State :=
  match featNs s r with
  | [] => finish s r.tag (stG 0x0B)
  | ns => finishOk (forEach ns s f) r.tag

/-- Set Features, the Timestamp apart (R324). -/
def setFeatAct (s : State) (r : TagRec) : State :=
  let c := r.cmd
  let fid := c.dw10 % 256
  let v := c.dw11 % 2 ^ 32
  let f := r.func
  if bitAt c.dw10 31 then finish s r.tag (stC 0x0D)
  else if fid = 0x01 then
    finishOk (updFn (putFeat s f 1 0 v) f fun x => newRound { x with ab := v % 8, lpw := fld v 8 8, mpw := fld v 16 8, hpw := fld v 24 8 }) r.tag
  else if fid = 0x02 then (if v % 32 = 0 then finishOk (putFeat s f 2 0 v) r.tag else finish s r.tag (stG 0x02))
  else if fid = 0x04 then finishOk (putFeat s f 4 (fld v 16 6) v) r.tag
  else if fid = 0x05 then setPerNs s r fun s n => putTler s f n.nsid v
  else if fid = 0x07 then
    (if s.quay.moorings.any fun m => decide (m.func = f) && decide (m.qid ≠ 0) then finish s r.tag (stG 0x0C)
     else if v % 65536 = 65535 ∨ v / 65536 = 65535 then finish s r.tag (stG 0x02)
     else
       let n := min (max (v % 65536) (v / 65536)) (vqOf s f - 2)
       finishOk (putFeat s f 7 0 (n + n * 65536)) r.tag (n + n * 65536))
  else if fid = 0x08 then finishOk (putFeat s f 8 0 v) r.tag
  else if fid = 0x09 then (if v % 65536 < viOf s f then finishOk (putFeat s f 9 (v % 65536) v) r.tag else finish s r.tag (stG 0x02))
  else if fid = 0x0B then finishOk (putFeat s f 0x0B 0 v) r.tag
  else if fid = 0x81 then finishOk (putFeat s f 0x81 0 (leNat (c.data.take (if bitAt v 0 then 16 else 8)))) r.tag
  else if fid = 0x82 then setPerNs s r fun s n => putFeat s f 0x82 n.nsid v
  else if fid = 0x83 then setPerNs s r fun s n => putRsv s { rsvOf s n.nsid with ptpl := bitAt v 0 }
  else finish s r.tag (stG 0x02)

/-- Set Features Timestamp: the calendar time, TIME_SET, and the end of the tally minute (R333, R509). -/
def setTimeAct (s : State) (r : TagRec) : State :=
  if bitAt r.cmd.dw10 31 then finish s r.tag (stC 0x0D)
  else
    let ms := leNat (r.cmd.data.take 6)
    let s1 := raise s (.numbered 0x0006) 0 0x00 0 (ms % 2 ^ 32) (ms / 2 ^ 32) (b2n s.aon.calendar.isSome)
    let s2 := { s1 with aon := { s1.aon with calendar := some ((ms : Int) - onMs s1), calendarWas := true } }
    finishOk (updQuay s2 fun q => { q with tally := { q.tally with cutDue := true } }) r.tag

/-- A feature's value: what was set, else its default; an unstated default is a free value. -/
def featValue (s : State) (r : TagRec) (fid : Nat) (dflt : Bool) : Nat :=
  let f := r.func
  let got := fun key => if dflt then none else ((fnOf s f).features.find? fun e => decide (e.1 = fid) && decide (e.2.1 = key)).map (·.2.2)
  if fid = 0x04 then (got (fld r.cmd.dw11 16 6)).getD (Config.freeNat s.freeCtr)
  else if fid = 0x05 then
    (if dflt then none else ((s.quay.funcs.flatMap (·.features)).find? fun e => decide (e.1 = 5) && decide (e.2.1 = r.cmd.nsid)).map (·.2.2)).getD
      (s.chnDev.par.recovLimit / 100)
  else if fid = 0x07 then (got 0).getD ((vqOf s f - 2) * 65537)
  else if fid = 0x09 then (got (r.cmd.dw11 % 65536)).getD (r.cmd.dw11 % 65536)
  else if fid = 0x82 then (got r.cmd.nsid).getD 0
  else if fid = 0x83 then (if dflt then 1 else b2n (rsvOf s r.cmd.nsid).ptpl)
  else (got 0).getD 0

/-- The features of R324. -/
def featureIds : List Nat := [0x01, 0x02, 0x04, 0x05, 0x07, 0x08, 0x09, 0x0B, 0x0E, 0x81, 0x82, 0x83]
/-- Those that belong to a namespace. -/
def nsFeatures : List Nat := [0x05, 0x82, 0x83]

/-- The Timestamp data: Timestamp Origin 0b001 while the time is valid, Synch 0 (R509). -/
def timeData (s : State) : List Byte :=
  match calNow s with
  | some ms => leBytes 6 ms ++ leBytes 2 2
  | none => leBytes 6 (Config.freeNat s.freeCtr) ++ leBytes 2 0

/-- Get Features. -/
def getFeatAct (s : State) (r : TagRec) : State :=
  let fid := r.cmd.dw10 % 256
  let sel := fld r.cmd.dw10 8 3
  let s1 := { s with freeCtr := s.freeCtr + 1 }
  if !featureIds.contains fid ∨ 3 < sel then finish s r.tag (stG 0x02)
  else if nsFeatures.contains fid ∧ featNs s r = [] then finish s r.tag (stG 0x0B)
  else if sel = 3 then finishOk s r.tag (4 + 2 * b2n (nsFeatures.contains fid))
  else if fid = 0x0E then finishOk (sendData s1 r.tag (timeData s)) r.tag
  else if fid = 0x81 then
    finishOk (sendData s r.tag (leBytes (if bitAt r.cmd.dw11 0 then 16 else 8) (featValue s r fid (decide (sel ≠ 0))))) r.tag
  else finishOk s1 r.tag (featValue s r fid (decide (sel ≠ 0)))

/-! ### Events and aborts (R339, R351) -/

/-- Asynchronous Event Request: one at a time (R339). -/
def aerAct (s : State) (r : TagRec) : State :=
  if (fnOf s r.func).aerParked.isSome then finish s r.tag (stC 0x05) else parkAer (commitTag s r.tag) r.func r.tag

/-- Abort completes with "command not aborted" (R351). -/
def abortAct (s : State) (r : TagRec) : State := finishOk s r.tag 1

/-! ### Namespaces (R240, R325, R326, R349, R488) -/

/-- Media sectors a namespace needs. -/
def sectorsOf (size layout convOp : Nat) (zoned : Bool) : Nat :=
  (if zoned then size else size * (100 + convOp) / 100) * layN layout / layD layout

/-- Media sectors of the heads in service. -/
def mediaSectors (s : State) : Nat :=
  (allHeads.filter (headWritable s)).foldl (fun a h =>
    a + freeSlots { s with tbl := { s.tbl with usedTracks := [] } } h) 0

/-- Namespaces with protection information apart from one. -/
def protectedNs (s : State) (nsid : Nat) : Nat :=
  (s.nv.namespaces.filter fun n => decide (n.lbaf ≠ 0) && decide (n.nsid ≠ nsid)).length

/-- Blocks of conventional namespaces that may exist (R325). -/
def convLimit (s : State) : Nat := if s.dram.gib ≤ 8 then 2 ^ 28 else 2 ^ 30

/-- The lowest NSID not in use. -/
def freeNsid (s : State) : Option Nat :=
  ((List.range 1024).map (· + 1)).find? fun i => !s.nv.namespaces.any fun n => decide (n.nsid = i)

/-- The check of a namespace to be created (R325, R326). -/
def createCheck (s : State) (c : HostCmd) : Option St :=
  let size := leNat (c.data.take 8)
  let cap := leNat ((c.data.drop 8).take 8)
  let lbaf := (leNat ((c.data.drop 26).take 1)) % 16
  let pi := (leNat ((c.data.drop 29).take 1)) % 8
  let csi := c.dw11 / 2 ^ 24 % 256
  let zoned := decide (csi = 2)
  let ns := s.nv.namespaces
  let demand := ns.foldl (fun a n => a + sectorsOf n.size n.layout n.convOp n.zoned) 0
  if csi ≠ 0 ∧ csi ≠ 2 then some (stC 0x29)
  else if 2 < lbaf ∨ 3 < pi ∨ (lbaf = 0 ∧ pi ≠ 0) then some (stC 0x0A)
  else if lbaf ≠ 0 ∧ 64 ≤ protectedNs s 0 then some (stC 0x0A)
  else if size = 0 then some (stG 0x02)
  else if (zoned ∧ (size % 262144 ≠ 0 ∨ cap ≠ size)) ∨ 2 ^ 35 < ns.foldl (fun a n => a + n.size) size ∨
      (!zoned ∧ convLimit s < (ns.filter (!·.zoned)).foldl (fun a n => a + n.size) size) ∨
      mediaSectors s < demand + sectorsOf size s.brtPar.defLayout s.brtPar.convOp zoned then some (stC 0x15)
  else if (freeNsid s).isNone then some (stC 0x16)
  else none

/-- Namespace Management create: the definition and its key; the NSID is returned (R325, R484). -/
def nsCreateAct (s : State) (r : TagRec) : State :=
  match createCheck s r.cmd, freeNsid s with
  | some e, _ => finish s r.tag e
  | none, none => finish s r.tag (stC 0x16)
  | none, some id =>
    let c := r.cmd
    let fl := leNat ((c.data.drop 26).take 1)
    let n : Ns := { nsid := id, zoned := decide (c.dw11 / 2 ^ 24 % 256 = 2), size := leNat (c.data.take 8), lbaf := fl % 16,
                    piType := (leNat ((c.data.drop 29).take 1)) % 8, extended := bitAt fl 4, layout := s.brtPar.defLayout,
                    created := (s.nv.namespaces.map (·.created)).foldl max 0 + 1, convOp := s.brtPar.convOp }
    finishOk (newKey (updNv s fun v => { v with namespaces := v.namespaces ++ [n] }) id false) r.tag id

/-- A namespace leaves: crypto-erased, its entry, reservations, lock and definition cleared (R488). -/
def deleteNs (s : State) (n : Ns) : State :=
  let s1 := clearSlot (cryptoErase s n) n.nsid
  updNv s1 fun v => { v with namespaces := v.namespaces.filter fun x => x.nsid ≠ n.nsid, keys := v.keys.filter fun k => k.nsid ≠ n.nsid,
                             rsv := v.rsv.filter fun x => x.nsid ≠ n.nsid, locks := v.locks.filter fun l => l.nsid ≠ n.nsid }

/-- The namespaces a whole-namespace command names. -/
def namedNs (s : State) (nsid : Nat) : List Ns := if nsid = 0xFFFFFFFF then s.nv.namespaces else (nsAt s nsid).toList

/-- Namespace Management delete. -/
def nsDeleteAct (s : State) (r : TagRec) : State :=
  if r.cmd.dw10 % 16 ≠ 1 then finish s r.tag (stG 0x02)
  else match namedNs s r.cmd.nsid with
    | [] => if r.cmd.nsid = 0xFFFFFFFF then finishOk s r.tag else finish s r.tag (stG 0x0B)
    | ns => finishOk (forEach ns s deleteNs) r.tag

/-- The controllers attached to a namespace replaced. -/
def putAttached (s : State) (nsid : Nat) (fs : List Fn) : State :=
  updNv s fun v => { v with namespaces := v.namespaces.map fun x => if x.nsid = nsid then { x with attached := fs } else x }

/-- The controllers of a list that exist. -/
def ctrlFns (c : HostCmd) : List Fn := (ctrlList c).filterMap selFn

/-- Namespace Attachment attach. -/
def attachAct (s : State) (r : TagRec) : State :=
  match nsAt s r.cmd.nsid with
  | none => finish s r.tag (stG 0x0B)
  | some n =>
    let fs := ctrlFns r.cmd
    if r.cmd.dw10 % 16 ≠ 0 then finish s r.tag (stG 0x02)
    else if fs = [] ∨ fs.length ≠ (ctrlList r.cmd).length then finish s r.tag (stC 0x1C)
    else if fs.any n.attached.contains then finish s r.tag (stC 0x18)
    else finishOk (putAttached s n.nsid (n.attached ++ fs)) r.tag

/-- Namespace Attachment detach (R349). -/
def detachAct (s : State) (r : TagRec) : State :=
  match nsAt s r.cmd.nsid with
  | none => finish s r.tag (stG 0x0B)
  | some n =>
    let fs := ctrlFns r.cmd
    if fs = [] ∨ fs.length ≠ (ctrlList r.cmd).length then finish s r.tag (stC 0x1C)
    else if !fs.all n.attached.contains then finish s r.tag (stC 0x1A)
    else finishOk (putAttached s n.nsid (n.attached.filter fun f => !fs.contains f)) r.tag

/-- Format NVM: SES 0b010 crypto-erases, otherwise the blocks are deallocated (R326, R349, R488). -/
def formatNs (lbaf pi : Nat) (ext : Bool) (crypto : Bool) (s : State) (n : Ns) : State :=
  let s1 := if crypto then cryptoErase s n else clearNs s n
  updNv s1 fun v => { v with namespaces := v.namespaces.map fun x =>
    if x.nsid = n.nsid then { x with lbaf := lbaf, piType := pi, extended := ext } else x }

/-- Format NVM acts. -/
def formatAct (s : State) (r : TagRec) : State :=
  let c := r.cmd
  let lbaf := c.dw10 % 16
  let pi := fld c.dw10 5 3
  let ses := fld c.dw10 9 3
  match namedNs s c.nsid with
  | [] => finish s r.tag (stG 0x0B)
  | ns =>
    if 2 < ses then finish s r.tag (stG 0x02)
    else if 2 < lbaf ∨ 3 < pi ∨ (lbaf = 0 ∧ pi ≠ 0) then finish s r.tag (stC 0x0A)
    else if lbaf ≠ 0 ∧ 64 < (s.nv.namespaces.filter fun n => decide (n.lbaf ≠ 0) || ns.any fun x => decide (x.nsid = n.nsid)).length then
      finish s r.tag (stC 0x0A)
    else if ns.any fun n => conflicts (rsvOf s n.nsid) (whoOf s r) true then finish s r.tag (stG 0x83)
    else finishOk (forEach ns s (formatNs lbaf pi (bitAt c.dw10 4) (decide (ses = 2)))) r.tag

/-- Sanitize: crypto erase of every namespace; no other action is supported (R324, R488). -/
def sanitizeAct (s : State) (r : TagRec) : State :=
  if r.cmd.dw10 % 8 ≠ 4 then finish s r.tag (stG 0x02) else finishOk (forEach s.nv.namespaces s cryptoErase) r.tag

/-! ### Virtualization Management (R310) -/

/-- The VF a secondary controller identifier names, of the PF that asks. -/
def ownVf (f : Fn) (id : Nat) : Option Fn :=
  if isPf f ∧ f.val < id ∧ id ≤ f.val + 511 then selFn id else none

/-- A secondary controller goes offline: its commands end and its flexible resources return. -/
def vfOffline (s : State) (v : Fn) : State :=
  updFn (clearController s v) v fun x => { x with online := false, vq := 0, vi := 0 }

/-- Virtualization Management acts. -/
def virtAct (s : State) (r : TagRec) : State :=
  let c := r.cmd
  let act := c.dw10 % 16
  let rt := fld c.dw10 8 3
  let id := c.dw10 / 65536 % 65536
  let nr := c.dw11 % 65536
  if act = 1 then
    (if id ≠ r.func.val ∨ !isPf r.func then finish s r.tag (stC 0x1F)
     else if 1 < rt then finish s r.tag (stC 0x22)
     else
       let left := if rt = 0 then vqPool s - (assignedOf s r.func).1 else 32704 - (assignedOf s r.func).2
       if nr = left then finishOk s r.tag nr else finish s r.tag (stC 0x21))
  else match ownVf r.func id with
    | none => finish s r.tag (stC 0x1F)
    | some v =>
      let x := fnOf s v
      let a := assignedOf s r.func
      if act = 7 then finishOk (vfOffline s v) r.tag
      else if act = 8 then
        (if x.online then finish s r.tag (stC 0x20)
         else if 1 < rt then finish s r.tag (stC 0x22)
         else if rt = 0 then
           (if vqMax s < nr ∨ vqPool s < a.1 - x.vq + nr then finish s r.tag (stC 0x21)
            else finishOk (updFn s v fun y => { y with vq := nr }) r.tag nr)
         else if 2048 < nr ∨ 32704 < a.2 - x.vi + nr then finish s r.tag (stC 0x21)
         else finishOk (updFn s v fun y => { y with vi := nr }) r.tag nr)
      else if act = 9 then
        (if x.vq < 2 ∨ x.vi < 1 then finish s r.tag (stC 0x20) else finishOk (updFn s v fun y => { y with online := true }) r.tag)
      else finish s r.tag (stG 0x02)

/-! ### Get LBA Status, Device Self-test, Firmware Image Download (R324, R330, R526) -/

/-- Get LBA Status with action type 0x10: the lost LBAs as tracked LBAs (R330). -/
def lbaStatusAct (s : State) (r : TagRec) : State :=
  let c := r.cmd
  match nsAt s c.nsid with
  | none => finish s r.tag (stG 0x0B)
  | some n =>
    if c.dw13 / 2 ^ 24 % 256 ≠ 0x10 then finish s r.tag (stG 0x02)
    else if n.size ≤ slbaOf c then finish s r.tag (stG 0x80)
    else
      let last := if c.dw13 % 65536 = 0 then n.size else slbaOf c + c.dw13 % 65536
      let rs := runsOf ((lostLbas s n.nsid).filter fun l => decide (slbaOf c ≤ l) && decide (l < last))
      let room := ((c.dw12 % 2 ^ 32 + 1) * 4 - 8) / 16
      let page := leBytes 4 (min rs.length room) ++ leBytes 1 (if room < rs.length then 2 else 1) ++ leBytes 3 0 ++
        (rs.take room).flatMap fun x => leBytes 8 x.1 ++ leBytes 4 x.2 ++ leBytes 4 0
      finishOk (sendData s r.tag page) r.tag

/-- Device Self-test: the outcome of a test is not stated, so its result is a free value. -/
def selfTestAct (s : State) (r : TagRec) : State :=
  let stc := r.cmd.dw10 % 16
  if stc = 1 ∨ stc = 2 then
    let x := takeFree s
    finishOk (updQuay x.2 fun q => { q with selfTestLog := ((stc, x.1 % 16) :: q.selfTestLog).take 20 }) r.tag
  else if stc = 15 then finishOk s r.tag
  else finish s r.tag (stG 0x02)

/-- The download buffer holds 64 MiB (R526). -/
def downloadSize : Nat := 67108864

/-- Bytes enter the download buffer. -/
def putDownload (s : State) (ofs : Nat) (bs : List Byte) : State :=
  updFw s fun w => { w with download := smWriteBytes w.download ofs bs }

/-- Firmware Image Download (R526). -/
def downloadAct (s : State) (r : TagRec) : State :=
  let len := (r.cmd.dw10 % 2 ^ 32 + 1) * 4
  let ofs := r.cmd.dw11 % 2 ^ 32 * 4
  if downloadSize < ofs + len then finish s r.tag (stG 0x02)
  else finishOk (putDownload s ofs (padTo len r.cmd.data)) r.tag

/-! ### The admin commands -/

/-- CREATE_IO_CQ (R310, R312). -/
def execCreateIoCq (t : Tag) (s : State) : Host.Outcome State Fault Refusal := .next (adminRow s t (fun c => c.opc = 0x05) createCqAct)

/-- CREATE_IO_SQ (R310, R312). -/
def execCreateIoSq (t : Tag) (s : State) : Host.Outcome State Fault Refusal := .next (adminRow s t (fun c => c.opc = 0x01) createSqAct)

/-- DELETE_IO_SQ (R352). -/
def execDeleteIoSq (t : Tag) (s : State) : Host.Outcome State Fault Refusal := .next (adminRow s t (fun c => c.opc = 0x00) deleteSqAct)

/-- DELETE_IO_CQ (R352). -/
def execDeleteIoCq (t : Tag) (s : State) : Host.Outcome State Fault Refusal := .next (adminRow s t (fun c => c.opc = 0x04) deleteCqAct)

/-- IDENTIFY (R309, R310, R325 to R327). -/
def execIdentify (t : Tag) (s : State) : Host.Outcome State Fault Refusal := .next (adminRow s t (fun c => c.opc = 0x06) identifyAct)

/-- A Get Log Page that names the tally. -/
def namesTally (c : HostCmd) : Bool := decide (c.dw10 % 256 = 0xC4)

/-- GET_LOG_PAGE (R324). -/
def execGetLogPage (t : Tag) (s : State) : Host.Outcome State Fault Refusal :=
  .next (adminRow s t (fun c => decide (c.opc = 0x02) && !namesTally c) logAct)

/-- GET_LOG_PAGE_TALLY (R336). -/
def execGetLogPageTally (t : Tag) (s : State) : Host.Outcome State Fault Refusal :=
  .next (adminRow s t (fun c => decide (c.opc = 0x02) && namesTally c) tallyLogAct)

/-- SET_FEATURES (R324). -/
def execSetFeatures (t : Tag) (s : State) : Host.Outcome State Fault Refusal :=
  .next (adminRow s t (fun c => decide (c.opc = 0x09) && decide (c.dw10 % 256 ≠ 0x0E)) setFeatAct)

/-- SET_FEATURES_TIMESTAMP (R509). -/
def execSetFeaturesTimestamp (t : Tag) (s : State) : Host.Outcome State Fault Refusal :=
  .next (adminRow s t (fun c => decide (c.opc = 0x09) && decide (c.dw10 % 256 = 0x0E)) setTimeAct)

/-- GET_FEATURES (R324, R509). -/
def execGetFeatures (t : Tag) (s : State) : Host.Outcome State Fault Refusal := .next (adminRow s t (fun c => c.opc = 0x0A) getFeatAct)

/-- ASYNC_EVENT_REQUEST (R339, R359). -/
def execAsyncEventRequest (t : Tag) (s : State) : Host.Outcome State Fault Refusal := .next (adminRow s t (fun c => c.opc = 0x0C) aerAct)

/-- ABORT (R351). -/
def execAbort (t : Tag) (s : State) : Host.Outcome State Fault Refusal := .next (adminRow s t (fun c => c.opc = 0x08) abortAct)

/-- NAMESPACE_MANAGEMENT_CREATE (R325). -/
def execNamespaceManagementCreate (t : Tag) (s : State) : Host.Outcome State Fault Refusal :=
  .next (adminRow s t (fun c => decide (c.opc = 0x0D) && decide (c.dw10 % 16 = 0)) nsCreateAct)

/-- NAMESPACE_MANAGEMENT_DELETE (R349, R488); a selection that is neither is an invalid field. -/
def execNamespaceManagementDelete (t : Tag) (s : State) : Host.Outcome State Fault Refusal :=
  .next (adminRow s t (fun c => decide (c.opc = 0x0D) && decide (c.dw10 % 16 ≠ 0)) nsDeleteAct)

/-- NAMESPACE_ATTACH (R324); a selection that is neither is an invalid field. -/
def execNamespaceAttach (t : Tag) (s : State) : Host.Outcome State Fault Refusal :=
  .next (adminRow s t (fun c => decide (c.opc = 0x15) && decide (c.dw10 % 16 ≠ 1)) attachAct)

/-- NAMESPACE_DETACH (R349). -/
def execNamespaceDetach (t : Tag) (s : State) : Host.Outcome State Fault Refusal :=
  .next (adminRow s t (fun c => decide (c.opc = 0x15) && decide (c.dw10 % 16 = 1)) detachAct)

/-- FIRMWARE_IMAGE_DOWNLOAD (R526). -/
def execFirmwareImageDownload (t : Tag) (s : State) : Host.Outcome State Fault Refusal :=
  .next (adminRow s t (fun c => c.opc = 0x11) downloadAct)

/-- VIRTUALIZATION_MANAGEMENT (R310). -/
def execVirtualizationManagement (t : Tag) (s : State) : Host.Outcome State Fault Refusal :=
  .next (adminRow s t (fun c => c.opc = 0x1C) virtAct)

/-- FORMAT_NVM (R349, R488). -/
def execFormatNvm (t : Tag) (s : State) : Host.Outcome State Fault Refusal := .next (adminRow s t (fun c => c.opc = 0x80) formatAct)

/-- SANITIZE_CRYPTO_ERASE (R349, R488). -/
def execSanitizeCryptoErase (t : Tag) (s : State) : Host.Outcome State Fault Refusal :=
  .next (adminRow s t (fun c => c.opc = 0x84) sanitizeAct)

/-- GET_LBA_STATUS (R330). -/
def execGetLbaStatus (t : Tag) (s : State) : Host.Outcome State Fault Refusal := .next (adminRow s t (fun c => c.opc = 0x86) lbaStatusAct)

/-- DEVICE_SELF_TEST (R324). -/
def execDeviceSelfTest (t : Tag) (s : State) : Host.Outcome State Fault Refusal := .next (adminRow s t (fun c => c.opc = 0x14) selfTestAct)

end Sys2Proof.Machine
end

