-- ==== Sys2Proof/Machine/Dram.lean ====
section
/-! DEFINITION. DRAM: lines, codes, poison, the merge buffer, scrubbing, refresh, self-refresh,
retraining and the DRC messages (chapter 13). -/

namespace Sys2Proof.Machine

/-! ### Regions and lines (R363, R364) -/

/-- A region word is VALID. -/
def regValid (w : BitVec 64) : Bool := w.getLsbD 63
/-- CLASS of a region word. -/
def regClass (w : BitVec 64) : Nat := fld w.toNat 61 2
/-- First line of a region: BASE is in 2 MiB units. -/
def regFirst (w : BitVec 64) : Nat := fld w.toNat 47 14 * 32768
/-- Lines of a region. -/
def regLines (w : BitVec 64) : Nat := (fld w.toNat 33 14 + 1) * 32768
/-- Lines of a region's carve-out: 0 for DATA (R364). -/
def carveLines (w : BitVec 64) : Nat := if regClass w = 0 then 0 else (fld w.toNat 33 14 + 8) / 8 * 32768
/-- First line of the carve-out. -/
def carveFirst (w : BitVec 64) : Nat := fld w.toNat 19 14 * 32768
/-- Where the slice of check bytes of a deep line lies: the carve-out line and the first of 8 bytes (R366). -/
def carveSlice (w : BitVec 64) (line : Nat) : Nat × Nat :=
  let k := line - regFirst w
  (carveFirst w + k / 8, 8 * (k % 8))

/-- The region of a line and its number. -/
def regionOf (s : State) (line : Nat) : Option (BitVec 64 × Nat) :=
  s.dram.regions.zipIdx.find? fun r =>
    regValid r.1 && decide (regFirst r.1 ≤ line) && decide (line < regFirst r.1 + regLines r.1)

/-- The channel of a line: lines alternate every 256 bytes (R363). -/
def chanOf (line : Nat) : Fin 2 := ⟨line / 4 % 2, Nat.mod_lt _ (by decide)⟩

/-- A line as stored; one not listed is zero and CLEAN (R382). -/
def lineAt (s : State) (line : Nat) : DLine := smRead {} s.dram.lines line
/-- The 64 data bytes of a line. -/
def lineData (l : DLine) : List Byte := (l.data ++ List.replicate 64 0).take 64
/-- A line in the one form it has in the list. -/
def normLine (l : DLine) : DLine :=
  { l with data := if (lineData l).all fun b => decide (b = 0) then [] else lineData l }
/-- Store a line. -/
def putLine (s : State) (line : Nat) (l : DLine) : State :=
  updDram s fun d => { d with lines := smWrite {} d.lines line (normLine l) }

/-- Bits that are 1 in a byte. -/
def onesOf (b : Byte) : Nat := ((List.range 8).filter fun i => b.getLsbD i).length
/-- Byte `i` of a list of bytes, 0 past its end. -/
def byteAt (bs : List Byte) (i : Nat) : Byte := bs.getD i 0

/-- What flipped bits make of a line under its code: 0 nothing, 1 correctable, 2 not (R365, R366). -/
def flipKind (light : Bool) (flip : List Byte) : Nat :=
  if light then
    ((List.range 8).map fun w =>
      min 2 (((List.range 8).map fun i => onesOf (byteAt flip (8 * w + i))).foldl (· + ·) 0 + onesOf (byteAt flip (64 + w)))).foldl max 0
  else
    let n := (flip.filter fun b => decide (b ≠ 0)).length
    if n = 0 then 0 else if n ≤ 8 then 1 else 2

/-- A whole line is written with a poison state; flips armed for it apply and are spent (R367, R383). -/
def writeLine (s : State) (line : Nat) (data : List Byte) (p : Poison) : State :=
  let l : DLine := { data := data, poison := p }
  match s.dram.inject.find? fun e => e.1 = line with
  | none => putLine s line l
  | some e =>
    let light := match regionOf s line with | some r => decide (regClass r.1 = 0) | none => true
    let k := flipKind light e.2
    let flipped := (List.range 64).map fun i => byteAt (lineData l) i ^^^ byteAt e.2 i
    let l2 : DLine := { l with ceBits := decide (k = 1), ueBits := decide (k = 2), data := if k = 2 then flipped else data }
    putLine (updDram s fun d => { d with inject := d.inject.erase e }) line l2

/-- What a read of a line finds: the medium's own result, or the errors known to lie in the line. -/
def foundIn (l : DLine) (r : ReadResult) : ReadResult :=
  match r with
  | .uncorrectable d => .uncorrectable d
  | _ => if l.ueBits then .uncorrectable (lineData l) else if l.ceBits then .corrected else r

/-- Every read of a line: corrected and written back, or marked DETECTED with UE and an event (R368). -/
def readLine (s : State) (line : Nat) (r : ReadResult) : State :=
  let l := lineAt s line
  match foundIn l r with
  | .clean => s
  | .corrected =>
    putLine (updDram s fun d => { d with ceCnt := satInc 255 d.ceCnt }) line { l with ceBits := false }
  | .uncorrectable d =>
    let s1 := putLine (updDram s fun x => { x with ueCnt := satInc 255 x.ueCnt, ue := true }) line
      { data := lineData { data := d }, poison := .detected }
    raise s1 .ue 2 0x0D 0 (line * 64) (line * 64 / 2 ^ 32) (((regionOf s line).map (·.2)).getD 16)

/-! ### The merge buffer (R369) -/

/-- The merge-buffer entry of a line. -/
def mergeAt (s : State) (line : Nat) : Option MergeEnt := s.dram.merge.find? fun e => e.line = line
/-- An entry leaves the buffer. -/
def dropMerge (s : State) (line : Nat) : State :=
  updDram s fun d => { d with merge := d.merge.filter fun e => e.line ≠ line }
/-- The bytes of a line with an entry's bytes over them. -/
def overlay (data : List Byte) (e : MergeEnt) : List Byte :=
  (List.range 64).map fun i => ((e.bytes.find? fun b => b.1 = i).map (·.2)).getD (byteAt data i)

/-- An entry is read, merged and written; a merge read that fails leaves the line DETECTED (R369). -/
def mergeOut (s : State) (e : MergeEnt) (r : ReadResult) : State :=
  let s1 := readLine s e.line r
  let l := lineAt s1 e.line
  let bad : Bool := match foundIn (lineAt s e.line) r with | .uncorrectable _ => true | _ => false
  let s2 := if bad then updDram s1 fun d => { d with mergeUe := true } else s1
  writeLine (dropMerge s2 e.line) e.line (overlay (lineData l) e) l.poison

/-- An entry whose every byte is valid is written whole, without a read (R369). -/
def mergeFull (s : State) (line : Nat) : State :=
  match mergeAt s line with
  | some e => if e.bytes.length = 64 then writeLine (dropMerge s line) line (overlay [] e) .clean else s
  | none => s

/-- The bytes of a narrow write join an entry, the newest byte standing (R369). -/
def mergeInto (e : MergeEnt) (off : Nat) (bytes : List Byte) : MergeEnt :=
  { e with bytes := (e.bytes.filter fun b => !(decide (off ≤ b.1) && decide (b.1 < off + bytes.length))) ++
      bytes.zipIdx.map fun b => (off + b.2, b.1) }

/-- One line's part of a narrow write (R369). -/
def narrowPart (s : State) (line off : Nat) (bytes : List Byte) : State :=
  match mergeAt s line with
  | some _ =>
    mergeFull (updDram s fun d => { d with merge := d.merge.map fun e => if e.line = line then mergeInto e off bytes else e }) line
  | none =>
    let s1 := match s.dram.merge with
      | e :: _ => if 64 ≤ s.dram.merge.length then mergeOut s e .clean else s
      | [] => s
    mergeFull (updDram s1 fun d => { d with merge := d.merge ++ [mergeInto { line := line, since := s.us } off bytes] }) line

/-! ### Requests and self-refresh (R380) -/

/-- A channel changed by `f`. -/
def updChan (s : State) (ch : Fin 2) (f : DChan → DChan) : State :=
  updDram s fun d => { d with chans := vupd d.chans ch f }

/-- Full training of a channel (R381). -/
def fullTrain (now : Nat) (c : DChan) : DChan := { c with fullDue := false, delay := 0, lastTemp := c.temp, trainUs := now }

/-- A channel is out of self-refresh: after a full training where it stayed longer than 10 ms or a drift asked for
one (R380, R381). -/
def leaveSr (now : Nat) (c : DChan) : DChan :=
  { (if c.srSince + 10000 < now ∨ c.fullDue then fullTrain now c else c) with sr := 0 }

/-- A request reaches a channel: entry to self-refresh is aborted, and in self-refresh or at its exit the request
waits for the exit and is then served (R380). -/
def request (s : State) (ch : Fin 2) : State :=
  let s1 := if s.dram.chans[ch].sr = 1 then
      updDram (updChan s ch fun c => { c with sr := 0 }) fun d => { d with sreAbort := true }
    else if s.dram.chans[ch].sr = 0 then s
    else updChan s ch (leaveSr s.us)
  updChan s1 ch fun c => { c with lastReq := s.us }

/-! ### The order of service (R374, R375, R377) -/

/-- The effective class of a request: C0 once it has waited AGE_LIMIT (R375). -/
def effClass (s : State) (r : DReq) : Nat :=
  if s.dram.ageLimit ≤ r.wait then 0
  else match r.cls with
    | some c => if r.port = 6 then c.val else s.dram.ports[r.port].cls
    | none => s.dram.ports[r.port].cls

/-- The urgency of a port whose oldest request has waited so long (R375). -/
def urgency (lat wait : Nat) : Nat :=
  if 2 * wait < lat then 0 else if 4 * wait < 3 * lat then 1 else if wait < lat then 2 else 3

/-- How long the oldest request of a port has waited. -/
def oldestWait (rs : List DReq) (p : Fin 16) : Nat := ((rs.filter fun r => r.port = p).map (·.wait)).foldl max 0

/-- The order of R375 among the requests `rs`, lowest first: port 14 after breakwater start, the effective class,
the urgency, the rotating pointer over ports, then arrival. -/
def reqKey (s : State) (rs : List DReq) (r : DReq) : List Nat :=
  [if s.dram.vaultFirst && decide (r.port = 14) then 0 else 1, effClass s r,
   3 - urgency s.dram.ports[r.port].lat (oldestWait rs r.port), (r.port.val + 16 - s.dram.portPtr) % 16,
   oldestWait rs r.port - r.wait]

/-- A request is the one served among those whose next command is legal (R375). -/
def granted (s : State) (me : DReq) (others : List DReq) : Bool :=
  others.all fun o => !lexLt (reqKey s (me :: others) o) (reqKey s (me :: others) me)

/-- The arbiter's pointer moves past the port served (R24). -/
def portServed (s : State) (p : Fin 16) : State := updDram s fun d => { d with portPtr := (p.val + 1) % 16 }

/-! ### Consumption (R370, R371) -/

/-- A chart page has changed since it was stored: a dirty cache block holds it (R251, R264). -/
def pageChanged (s : State) (nsid page : Nat) : Bool :=
  s.cache.blocks.any fun c => c.chartPage && decide (c.nsid = nsid) && decide (c.lba = page) && !c.dead

/-- Put a chart entry at an unreadable sector written for its LBA through the log builder (R370). -/
def chartUnreadable (s : State) (e : Chart) : State :=
  match nsAt s e.nsid with
  | none => s
  | some n => installOne n s (substituteOf { nsid := e.nsid, lba := e.lba })

/-- A host block in a read pond: read once more from the media, or failed the second time (R370). -/
def pondAgain (s : State) (t : Tag) (lba : Nat) : State :=
  match tagAt s t with
  | none => s
  | some r =>
    match r.srcs.find? fun b => decide (b.lba = lba) && decide (b.src = 1) && b.doneB with
    | none => s
    | some b =>
      let put := fun f : BlkSrc → BlkSrc => updTag s t fun x =>
        { x with srcs := x.srcs.map fun y => if y.lba = lba then f y else y }
      if b.again then
        put fun y => { y with ok := false, fail := stM 0x81, data := [] }
      else
        let s1 := put fun y => { y with ok := false, doneB := false, again := true, data := [] }
        forEach (joinOps s1 t r.func [] b) s1 fun s o => queueOp (updTag s t fun x => { x with ops := x.ops + 1 }) o.1 o.2.1

/-- A recovery record is freed and its sector continues at rung 2 (R174, R370). -/
def freeRecord (s : State) (m : Strm) (k : Nat) : State :=
  match s.chn[m].ladder[k]? with
  | some r =>
    if r.hasLlr then
      updChn s m fun c => putRec c { r with hasLlr := false, sets := [], waitDeep := false, inDeep := false, rung := 2 }
    else s
  | none => s

/-- Rung 3 of the recovery ladder: an incident, then vault-then-reset with CAUSE 0x9 (R531). -/
def climb (s : State) (line : Nat) (p : Poison) (row : Nat) : State :=
  let st : Nat := match p with | .clean => 0 | .detected => 1 | .propagated => 2 | .replayed => 3
  startBreakwater (report s (0x04, line) .poisonUsed 3 0x0D 0 (line * 64) (line * 64 / 2 ^ 32) (st + 4 * row) 3) 9

/-- What a consumer does with a poisoned line (R370). -/
def consumeLine (s : State) (line : Nat) (p : Poison) (u : Consumer) : State :=
  let ev := fun row => consumed s (line * 64) p row
  match u with
  | .readPond t lba => endReadIfDone (pondAgain (ev 0) t lba) t
  | .cacheRead id => updBlock (ev 1) id fun c => { c with poison := true }
  | .destage id =>
    (match s.cache.blocks.find? fun c => c.id = id with
     | some c => if c.chartPage ∨ c.copy then ev 2 else substBlock (ev 2) c
     | none => ev 2)
  | .parityBuffer berth stripe =>
    (match berthAt s berth with
     | some b => updBrt (ev 3) fun e => { e with pbufs := e.pbufs.map fun x =>
         if x.1 = berth ∧ x.2.1 = stripe then (berth, stripe, stripeParity s b stripe) else x }
     | none => ev 3)
  | .backgroundPond a op k => updOp (ev 4) a op fun e => { e with res := e.res.filter fun r => r.1 ≠ k }
  | .recovery m k => freeRecord (ev 5) m k
  | .mooring f qid => poisonMoor (ev 6) f qid
  | .cacheIndex => ev 7
  | .chart nsid l =>
    if pageChanged s nsid (l / 64) then
      forEach (s.tbl.chart.filter fun e => decide (e.nsid = nsid) && decide (e.lba / 8 = l) && !e.cached) (ev 8) chartUnreadable
    else ev 8
  | .table => climb (updDram s fun d => { d with poisonUsed := true, tableBad := true }) line p 9
  | .tally key k =>
    updQuay (ev 10) fun q => { q with tally := { q.tally with
      rings := q.tally.rings.map fun r => if r.key = key then { r with closed := r.closed.modify k fun x => { x with bad := true } } else r } }
  | .code => ev 11
  | .fenxus => climb (updDram s fun d => { d with poisonUsed := true }) line p 12
  | .key => ev 13
  | .vault => ev 14

/-! ### Commands -/

/-- DRAM_READ: the merge buffer first, then the line, corrected, with its poison state; a consumer acts
on a poisoned line (R368, R369, R370, R377). An address outside every region is never accessed (R364). -/
def dramRead (line : Nat) (result : ReadResult) (user : Option Consumer) (s1 : State) : State :=
  let s2 := match mergeAt s1 line with | some e => mergeOut s1 e result | none => readLine s1 line result
  let l := lineAt s2 line
  let s3 := updDram s2 fun d => { d with lastRead := lineData l, lastPoison := l.poison }
  match user with
  | some u => if l.poison = .clean then s3 else consumeLine s3 line l.poison u
  | none => s3

def execDramRead (q : DAsk) (result : ReadResult) (user : Option Consumer) (s : State) : Host.Outcome State Fault Refusal :=
  if (regionOf s q.line).isNone then .fault .noRegion
  else .next (if powered s && granted s q.me q.others then
      dramRead q.line result user (request (portServed s q.me.port) (chanOf q.line))
    else s)

/-- DRAM_WRITE: a whole line with its code; good data is CLEAN, a poisoned source is PROPAGATED, and a
merge-buffer entry of the line is discarded (R363, R367, R369). -/
def execDramWrite (q : DAsk) (data : List Byte) (poisoned : Bool) (s : State) : Host.Outcome State Fault Refusal :=
  if (regionOf s q.line).isNone then .fault .noRegion
  else .next (if powered s && granted s q.me q.others then
      writeLine (dropMerge (request (portServed s q.me.port) (chanOf q.line)) q.line) q.line data
        (if poisoned then .propagated else .clean)
    else s)

/-- The parts of a narrow write that fall in the line of its address and in the next. -/
def narrowLines (addr : Nat) (bytes : List Byte) : List (Nat × Nat × List Byte) :=
  let room := 64 - addr % 64
  [(addr / 64, addr % 64, bytes.take room)] ++
    (if room < bytes.length then [(addr / 64 + 1, 0, (bytes.drop room).take 64)] else [])

/-- DRAM_NARROW_WRITE: fewer bytes than a line enter the merge buffer (R369). -/
def execDramNarrowWrite (addr : Nat) (bytes : List Byte) (s : State) : Host.Outcome State Fault Refusal :=
  if (narrowLines addr (bytes.take 63)).any fun p => (regionOf s p.1).isNone then .fault .noRegion
  else
    .next (if powered s then
        forEach (narrowLines addr (bytes.take 63)) s fun s p => narrowPart (request s (chanOf p.1)) p.1 p.2.1 p.2.2
      else s)


/-- MERGE_ENTRY_TIMEOUT: MERGE_T has passed since the entry's first write (R369). -/
def execMergeEntryTimeout (line : Nat) (result : ReadResult) (s : State) : Host.Outcome State Fault Refusal :=
  .next (match mergeAt s line with
    | some e => if powered s && passedNs s e.since s.dram.mergeT then mergeOut (request s (chanOf line)) e result else s
    | none => s)

/-! ### Scrubbing (R372, R373) -/

/-- A run of lines put before the first that does not begin below it. -/
def putRun (x : Nat × Nat) : List (Nat × Nat) → List (Nat × Nat)
  | [] => [x]
  | y :: ys => if x.1 ≤ y.1 then x :: y :: ys else y :: putRun x ys
/-- The lines of a class, region by region, rising. -/
def classRegions (s : State) (c : Fin 4) : List (Nat × Nat) :=
  ((s.dram.regions.filter fun w => regValid w && decide (regClass w = c.val)).map fun w => (regFirst w, regLines w)).foldr putRun []
/-- How many lines a class has. -/
def classLines (s : State) (c : Fin 4) : Nat := (classRegions s c).foldl (fun n r => n + r.2) 0
/-- The `k`-th line of a list of regions. -/
def nthLine : List (Nat × Nat) → Nat → Option Nat
  | [], _ => none
  | (f, n) :: rs, k => if k < n then some (f + k) else nthLine rs (k - n)

/-- A scrub class changed by `f`. -/
def updScrub (s : State) (c : Fin 4) (f : ScrubCls → ScrubCls) : State :=
  updDram s fun d => { d with scrub := vupd d.scrub c f }

/-- The lap of a class ends: its figures stand, and one that took too long records an event (R373). -/
def lapEnd (s : State) (c : Fin 4) : State :=
  let x := s.dram.scrub[c]
  let t := s.ctr.dev.powerOnS - x.startS
  let s1 := updScrub s c fun x =>
    { x with lastLap := t % 2 ^ 32, ceLap := x.ce, ueLap := x.ue, progress := 0, ptr := 0, ce := 0, ue := 0,
             startS := s.ctr.dev.powerOnS }
  if s.dram.lapWarn * 3600 < t then raise s1 .lapWarn 0 0x0D 0 c.val else s1

/-- A scrub class may read its next line: it has one, SCRUB_NS can have passed since its last, and the line's channel
is not in self-refresh (R372). -/
def scrubReady (s : State) (c : Fin 4) : Bool :=
  match nthLine (classRegions s c) s.dram.scrub[c].ptr with
  | some line => passedNs s s.dram.scrub[c].lastUs s.dram.scrub[c].scrubNs && decide (s.dram.chans[chanOf line].sr = 0)
  | none => false

/-- The class served among those due in an idle cycle (R24, R372). -/
def scrubClass (s : State) (due : List (Fin 4)) : Option (Fin 4) :=
  (roundRobin 4 s.dram.scrubClsPtr fun k => due.any fun c => decide (c.val = k) && scrubReady s c).bind fun k =>
    if h : k < 4 then some ⟨k, h⟩ else none

/-- The next line of a class is read; a poisoned line is counted and left as it is; the class's pointer and the
rotating pointer advance (R24, R372). -/
def scrubOne (cls : Fin 4) (result : ReadResult) (s : State) : State :=
  match nthLine (classRegions s cls) s.dram.scrub[cls].ptr with
  | none => s
  | some line =>
    let l := lineAt s line
    let poisoned := decide (l.poison ≠ .clean)
    let f := foundIn l result
    let ce : Bool := !poisoned && decide (f = .corrected)
    let ue : Bool := poisoned || (match f with | .uncorrectable _ => true | _ => false)
    let s1 := if poisoned then s else readLine s line result
    let n := classLines s cls
    let s2 := updDram (updScrub s1 cls fun x =>
      { x with ptr := x.ptr + 1, ce := if ce then satInc 255 x.ce else x.ce, ue := if ue then satInc 255 x.ue else x.ue,
               progress := (x.ptr + 1) * 100 / n, lastUs := s.us }) fun d => { d with scrubClsPtr := (cls.val + 1) % 4 }
    if n ≤ s.dram.scrub[cls].ptr + 1 then lapEnd s2 cls else s2

/-- SCRUB_LINE: in an idle cycle one of the classes `due` is served under R24 (R372). -/
def execScrubLine (due : List (Fin 4)) (result : ReadResult) (s : State) : Host.Outcome State Fault Refusal :=
  .next (if powered s && !s.dram.scrubStop then
      match scrubClass s due with
      | some c => scrubOne c result s
      | none => s
    else s)

/-! ### Refresh, temperature, self-refresh and training (R378 to R381) -/

/-- DRAM_REFRESH: HOT is set from the refresh after a device reports above 85 °C (R378, R379). -/
def execDramRefresh (ch : Fin 2) (s : State) : Host.Outcome State Fault Refusal :=
  .next (if powered s && decide (s.dram.chans[ch].sr ≠ 2) then
      updDram (updChan s ch fun c => { c with refreshes := c.refreshes + 1 }) fun d =>
        { d with hot := d.hot || decide (85 < d.chans[(0 : Fin 2)].temp) || decide (85 < d.chans[(1 : Fin 2)].temp) }
    else s)

/-- A reading of one device. -/
def tempRead (t : Int) (c : DChan) : DChan := { c with temp := t, hotLow := if t ≤ 85 then min 4 (c.hotLow + 1) else 0 }

/-- DRAM_TEMP_READ: HOT clears after 4 readings at 85 °C or below; above 95 °C sets OVERTEMP (R379). -/
def execDramTempRead (t0 t1 : Int) (s : State) : Host.Outcome State Fault Refusal :=
  .next (if powered s then
      let s1 := updChan (updChan s 0 (tempRead t0)) 1 (tempRead t1)
      let low := decide (4 ≤ s1.dram.chans[(0 : Fin 2)].hotLow) && decide (4 ≤ s1.dram.chans[(1 : Fin 2)].hotLow)
      let s2 := updDram s1 fun d => { d with hot := d.hot && !low }
      if 95 < t0 ∨ 95 < t1 then
        raise (updDram s2 fun d => { d with overtemp := true }) .overtemp 2 0x0D 0 (toPat 32 t0) (toPat 32 t1)
      else s2
    else s)

/-- The standby state of R51, apart from the host link's own state. -/
def standby (s : State) : Bool :=
  decide (s.spn.st = .stopped) && allActs.all fun a => decide (s.acts[a].mode = .parked)

/-- The entries of a channel leave the merge buffer (R380). -/
def drainMerge (s : State) (ch : Fin 2) : State :=
  forEach (s.dram.merge.filter fun e => decide (chanOf e.line = ch)) s fun s e => mergeOut s e .clean

/-- SELF_REFRESH_ENTRY: a channel in standby that has had no request for SR_IDLE writes what it holds and is
ENTERING; the next one issues SRE (R380). -/
def execSelfRefreshEntry (ch : Fin 2) (s : State) : Host.Outcome State Fault Refusal :=
  .next (if live s && !s.bw.started && s.dram.srEnable && standby s &&
        decide (s.dram.chans[ch].lastReq + s.dram.srIdle ≤ s.us) then
      if s.dram.chans[ch].sr = 0 then updChan (drainMerge s ch) ch fun c => { c with sr := 1 }
      else if s.dram.chans[ch].sr = 1 then updChan s ch fun c => { c with sr := 2, srSince := s.us }
      else s
    else s)

/-- SELF_REFRESH_EXIT: where a request asks (`asked`) or a breakwater start ends it, entry is aborted or SRX is
issued; once EXITING, tXSR has passed, after a full retraining where the stay was longer than 10 ms or a drift asked
for it (R380, R381). SRE_ABORT is the mark of a request's abort. -/
def execSelfRefreshExit (ch : Fin 2) (asked : Bool) (s : State) : Host.Outcome State Fault Refusal :=
  .next (if !powered s then s
    else if s.dram.chans[ch].sr = 3 then updChan s ch (leaveSr s.us)
    else if asked then
      if s.dram.chans[ch].sr = 1 then request s ch
      else if s.dram.chans[ch].sr = 2 then updChan s ch fun c => { c with sr := 3 }
      else s
    else if s.bw.started then
      if s.dram.chans[ch].sr = 1 then updChan s ch fun c => { c with sr := 0 }
      else if s.dram.chans[ch].sr = 2 then updChan s ch fun c => { c with sr := 3 }
      else s
    else s)

/-- A channel's retraining is due: RETRAIN_MS after its last, or its temperature has moved by RETRAIN_DT since
(R381). -/
def retrainDue (s : State) (ch : Fin 2) : Bool :=
  let c := s.dram.chans[ch]
  decide (c.trainUs + 1000 * s.dram.retrainMs ≤ s.us) || decide (s.dram.retrainDt ≤ (c.temp - c.lastTemp).natAbs)

/-- DRAM_RETRAIN: a drift above 1/64 UI moves the delays, at most by 1/8 UI; `drift64` is in 1/64 UI (R381). -/
def execDramRetrain (ch : Fin 2) (drift64 : Int) (s : State) : Host.Outcome State Fault Refusal :=
  .next (if powered s && !s.dram.scrubStop && decide (s.dram.chans[ch].sr = 0) && retrainDue s ch then
      let far := decide (8 < drift64) || decide (drift64 < -8)
      let move : Int := if 1 < drift64 ∨ drift64 < -1 then clampI (-8) 8 drift64 else 0
      let s1 := updChan s ch fun c =>
        { c with delay := c.delay + move, lastTemp := c.temp, fullDue := c.fullDue || far, trainUs := s.us }
      if far then raise (updDram s1 fun d => { d with trainDrift := true }) .trainDrift 2 0x0D 0 ch.val (toPat 32 drift64)
      else s1
    else s)

/-! ### Messages (R373, R383, R384) -/

/-- DRC_STATUS (R383). -/
def drcStatus (s : State) : Nat :=
  let d := s.dram
  packF [(30, 2, d.chans[(0 : Fin 2)].sr), (28, 2, d.chans[(1 : Fin 2)].sr), (27, 1, b2n d.hot),
    (26, 1, b2n (powered s && !d.scrubStop && d.regions.any regValid)), (23, 1, b2n d.ue), (22, 1, b2n d.poisonUsed),
    (21, 1, b2n d.mergeUe), (20, 1, b2n d.trainDrift), (19, 1, b2n d.overtemp), (18, 1, b2n d.sreAbort),
    (8, 8, d.ceCnt), (0, 8, d.ueCnt)]

/-- DRC_SCRUB_STATUS[c] (R373). -/
def scrubWord (x : ScrubCls) : Nat := packF [(32, 32, x.lastLap), (25, 7, x.progress), (8, 8, x.ceLap), (0, 8, x.ueLap)]

/-- What reading DRC_STATUS clears. -/
def drcClear (k : BitVec 64) (d : Dram) : Dram :=
  { d with ue := w1c k 23 d.ue, poisonUsed := w1c k 22 d.poisonUsed, mergeUe := w1c k 21 d.mergeUe,
           trainDrift := w1c k 20 d.trainDrift, overtemp := w1c k 19 d.overtemp, sreAbort := w1c k 18 d.sreAbort,
           ceCnt := 0, ueCnt := 0 }

/-- The body of DRC_GET_STATUS. -/
def drcGet (clear : BitVec 64) (s : State) : Ans :=
  dataA (updDram s (drcClear clear)) (leBytes 4 (drcStatus s) ++ leBytes 4 0 ++
    s.dram.scrub.toList.flatMap fun x => leBytes 8 (scrubWord x))

def execDrcGetStatus (r : Req) (clear : BitVec 64) (s : State) : Host.Outcome State Fault Refusal :=
  .next (serve s r { opc := 0x090A, need := .rd } (.drcGetStatus r clear) (drcGet clear))

/-- The body of DRC_GET_REGIONS: the 16 words (R364). -/
def drcRegions (s : State) : Ans :=
  dataA s ((s.dram.regions ++ List.replicate 16 0).take 16 |>.flatMap fun w : BitVec 64 => leBytes 8 w.toNat)

def execDrcGetRegions (r : Req) (s : State) : Host.Outcome State Fault Refusal :=
  .next (serve s r { opc := 0x0909, need := .rd } (.drcGetRegions r) drcRegions)

/-- DRC_SET_SCRUB's list (R384). -/
def scrubPars : List (Par Dram) :=
  [parNs 4 1000 10000000 fun vs d =>
     { d with scrub := d.scrub.mapFinIdx fun i x _ => { x with scrubNs := vs.getD i x.scrubNs } },
   parN 1 168 fun v d => { d with lapWarn := v }]

/-- The body of DRC_SET_SCRUB. -/
def drcScrub (ps : Params) (s : State) : Ans := setA s scrubPars (fun _ => []) ps s.dram fun d => { s with dram := d }

def execDrcSetScrub (r : Req) (ps : Params) (s : State) : Host.Outcome State Fault Refusal :=
  .next (serve s r { opc := 0x0106, setter := true } (.drcSetScrub r ps) (drcScrub ps))

/-- DRC_SET_PORT's list for one port; CLASS and LAT_TARGET of ports 0 to 3 are read-only (R374, R384). -/
def portPars (p : Fin 16) : List (Par Dram) :=
  let rw := decide (4 ≤ p.val)
  [parN 500 10000 fun v d => { d with ageLimit := v },
   { ok := fun vs => rw && decide (v0 vs ≤ 3), put := fun vs d => { d with ports := vupd d.ports p fun x => { x with cls := v0 vs } } },
   { ok := fun vs => rw && decide (100 ≤ v0 vs) && decide (v0 vs ≤ 10000),
     put := fun vs d => { d with ports := vupd d.ports p fun x => { x with lat := v0 vs } } },
   parN 50 2000 fun v d => { d with mergeT := v }]

/-- The body of DRC_SET_PORT. -/
def drcPort (port : Nat) (ps : Params) (s : State) : Ans :=
  if h : port < 16 then setA s (portPars ⟨port, h⟩) (fun _ => []) ps s.dram fun d => { s with dram := d } else rangeA s

def execDrcSetPort (r : Req) (port : Nat) (ps : Params) (s : State) : Host.Outcome State Fault Refusal :=
  .next (serve s r { opc := 0x0107, setter := true } (.drcSetPort r port ps) (drcPort port ps))

/-- DRC_SET_TRAIN's list (R384). -/
def trainPars : List (Par Dram) :=
  [parN 100 10000 fun v d => { d with retrainMs := v }, parN 1 20 fun v d => { d with retrainDt := v }]

/-- The body of DRC_SET_TRAIN. -/
def drcTrain (ps : Params) (s : State) : Ans := setA s trainPars (fun _ => []) ps s.dram fun d => { s with dram := d }

def execDrcSetTrain (r : Req) (ps : Params) (s : State) : Host.Outcome State Fault Refusal :=
  .next (serve s r { opc := 0x0108, setter := true } (.drcSetTrain r ps) (drcTrain ps))

/-- DRC_SET_POWER's list (R384). -/
def drcPowerPars : List (Par Dram) :=
  [parB fun v d => { d with srEnable := v }, parN 10 100000 fun v d => { d with srIdle := v }]

/-- The body of DRC_SET_POWER. -/
def drcPower (ps : Params) (s : State) : Ans := setA s drcPowerPars (fun _ => []) ps s.dram fun d => { s with dram := d }

def execDrcSetPower (r : Req) (ps : Params) (s : State) : Host.Outcome State Fault Refusal :=
  .next (serve s r { opc := 0x0B03, setter := true } (.drcSetPower r ps) (drcPower ps))

/-- The body of DRC_INJECT: flips wait for the line's next write; aimed at the KEY region it returns
SCOPE (R383, R493). -/
def drcFlip (addr : Nat) (flip : List Byte) (s : State) : Ans :=
  if addr % 64 ≠ 0 ∨ (regionOf s (addr / 64)).isNone then rangeA s
  else if (match regionOf s (addr / 64) with | some r => decide (regClass r.1 = 3) | none => false) then failA s 0x0007
  else okA (updDram s fun d => { d with inject := (d.inject.filter fun e => e.1 ≠ addr / 64) ++ [(addr / 64, flip.take 72)] })

/-- DRC_INJECT: MANUFACTURE, RETURN, or FIELD after debug unlock (R383, R492). -/
def execDrcInject (r : Req) (addr : Nat) (flip : List Byte) (s : State) : Host.Outcome State Fault Refusal :=
  .next (serve s r { opc := 0x090B, need := .db 3 } (.drcInject r addr flip) (drcFlip addr flip))

end Sys2Proof.Machine
end

