-- ==== Sys2Proof/Machine/Secure.lean ====
section
/-! DEFINITION. Security core: lifecycle, signature blocks, identity and session keys, attestation,
debug unlock, the spring and Opal (chapter 17). -/

namespace Sys2Proof.Machine

/-! ### Signature blocks (R473, R478, R479) -/

/-- Encoding of a lifecycle state (R416). -/
def lifeNum : Life → Nat
  | .blank => 0 | .manufacture => 1 | .field => 2 | .ret => 3 | .decommissioned => 4

/-- 32 bytes of SHAKE256. -/
def shake32 (bs : List Byte) : List Byte := (Config.shake256 bs).take 32

/-- Bytes of a signature under a parameter set; 0 for an OID of none (R473). -/
def sigLenOf (oid : Nat) : Nat := if oid = 0x10 then 2500 else if oid = 0x11 then 2692 else if oid = 0x12 then 2820 else 0

/-- An entry of a signature block: ROLE, OID, PK, SIG. -/
abbrev SigEnt := Nat × List Byte × List Byte × List Byte

/-- The `n` entries of a block; `none` where one is malformed (R478). -/
def parseEntries : Nat → List Byte → Option (List SigEnt)
  | 0, bs => if bs = [] then some [] else none
  | n + 1, bs =>
    let role := leNat (bs.take 1)
    let oid := (bs.drop 4).take 4
    let len := leNat ((bs.drop 72).take 4)
    if bs.length < 76 + len ∨ 2 < role ∨ !allZero ((bs.drop 1).take 3) ∨ sigLenOf (leNat oid) = 0 ∨ len ≠ sigLenOf (leNat oid) then none
    else (parseEntries n (bs.drop (76 + len))).map fun es => (role, oid, (bs.drop 8).take 64, (bs.drop 76).take len) :: es

/-- A signature block's entries; `none` where it is malformed or a ROLE stands twice (R478). -/
def parseBlock (bs : List Byte) : Option (List SigEnt) :=
  let n := leNat ((bs.drop 6).take 1)
  if bs.length < 16 ∨ leNat (bs.take 4) ≠ 0x5347424B ∨ leNat ((bs.drop 4).take 2) ≠ 1 ∨ n = 0 ∨ 3 < n ∨ !allZero ((bs.drop 7).take 9) then none
  else (parseEntries n (bs.drop 16)).bind fun es => if (es.map (·.1)).Nodup then some es else none

/-- The digest of a signer's key. -/
def keyDigest (e : SigEnt) : List Byte := shake32 (e.2.1 ++ e.2.2.1)

/-- "ENDORSE" and the endorsed key. -/
def endorsed (e : SigEnt) : List Byte := ascii [0x45, 0x4E, 0x44, 0x4F, 0x52, 0x53, 0x45] ++ e.2.1 ++ e.2.2.1

/-- An entry's signature verifies: an endorsement under the Yarkar-root entry's key (R478). -/
def sigGood (es : List SigEnt) (msg : List Byte) (e : SigEnt) : Bool :=
  if e.1 = 2 then
    match es.find? fun x => x.1 = 0 with
    | some y => Config.sigVerify (y.2.1 ++ y.2.2.1) (endorsed e) e.2.2.2
    | none => false
  else Config.sigVerify (e.2.1 ++ e.2.2.1) msg e.2.2.2

/-- An entry's key is the one its ROLE's OTP digest names; a drive-maker key with no digest yet is
named by its endorsement (R468, R478). -/
def keyGood (s : State) (es : List SigEnt) (e : SigEnt) : Bool :=
  let root : Bool := es.any fun x => decide (x.1 = 0) && decide (s.nv.otp.ykDigest = some (keyDigest x))
  if e.1 = 0 then root
  else if e.1 = 2 then root
  else match s.nv.otp.dmDigest with
    | some d => decide (d = keyDigest e)
    | none => root && es.any fun x => decide (x.1 = 2) && decide (keyDigest x = keyDigest e)

/-- The ROLEs with a valid entry; `none` where the block is rejected as a whole (R478). -/
def blockRoles (s : State) (bs msg : List Byte) : Option (List Nat) :=
  (parseBlock bs).bind fun es => if es.all (sigGood es msg) then some ((es.filter (keyGood s es)).map (·.1)) else none

/-- The digest of the drive-maker key that a block endorses. -/
def endorsedDm (bs : List Byte) : List Byte :=
  (((parseBlock bs).getD []).find? fun e => e.1 = 2).elim [] keyDigest

/-- Whether an image is accepted (R470, R479, R480): `none`, or the reason of IMAGE_REJECT: 0 signature,
1 version, 2 missing role. `cls` is 0 Fenxus and boot, 1 microcode. -/
def imageReason (s : State) (cls svn : Nat) (digest sigs : List Byte) (unsigned : Bool) : Option Nat :=
  let msg := Config.shake256 (ascii [0x4C, 0x58, 0x34, 0x2D, 0x49, 0x4D, 0x47] ++ leBytes 1 cls ++ leBytes 1 svn ++ digest)
  let o := s.nv.otp
  let need : List Nat := match s.sec.life with
    | .blank => if sigs = [] then [] else [0]
    | .manufacture => if o.dmDigest.isSome then [0, 1] else [0]
    | .ret => if o.dmDigest.isSome then [0, 1] else [0]
    | .field => [0, 1]
    | .decommissioned => [0, 1]
  if svn < (if cls = 0 then o.fwSvn else o.ucSvn) ∨ 32 < svn then some 1
  else if need = [] ∨ (unsigned ∧ s.sec.life ≠ .field ∧ s.sec.life ≠ .decommissioned) then none
  else match blockRoles s sigs msg with
    | none => some 0
    | some rs => if need.all rs.contains then none else some 2

/-- An image rejected: IMAGE_REJECT (R494). -/
def imageRejected (s : State) (cls svn reason : Nat) : State := raise s (.numbered 0x3008) 0 0x03 0 cls svn reason

/-! ### Authorisation (R433, R468, R481) -/

/-- The staged bytes of a mailbox. -/
def staged (s : State) (mb : Mb) (ofs len : Nat) : List Byte := smReadBytes s.mbx[mb].staging ofs len
/-- Bytes of a staging buffer: 32 MiB. -/
def stageSize : Nat := 33554432

/-- The ROLEs a lifecycle transition needs; `none` where R468 has no such row from this state. -/
def lcRoles (s : State) (target : Nat) : Option (List Nat) :=
  match s.sec.life with
  | .blank => if target = 1 then some [0] else none
  | .manufacture =>
    if target = 2 then some (if s.nv.otp.dmDigest.isSome then [1] else [1, 2]) else if target = 4 then some [0] else none
  | .field => if target = 3 then (if s.nv.otp.lc < 16 then some [0, 1] else none) else if target = 4 then some [1] else none
  | .ret => if target = 2 then some [1] else if target = 4 then some [1] else none
  | .decommissioned => none

/-- The valid ROLEs let a message be armed (R481); LC_CHANGE's row is the one whose payload digest is
named, or any row of the state where none is. -/
def rolesArm (s : State) (op : Nat) (digest : List Byte) (rs : List Nat) : Bool :=
  let any := rs.contains 0 || rs.contains 1
  let field := decide (s.sec.life = .field)
  if op = 0x0C03 then
    match (List.range 5).find? fun t => decide (Config.shake256 (leBytes 1 t) = digest) && (lcRoles s t).isSome with
    | some t => (match lcRoles s t with | some need => need.all rs.contains | none => false)
    | none => (List.range 5).any fun t => match lcRoles s t with | some need => need.all rs.contains | none => false
  else if op = 0x0C04 then (if field then rs.contains 0 && rs.contains 1 else any)
  else if field then rs.contains 1
  else any

/-- A set of ROLEs as bits. -/
def roleBits (rs : List Nat) : Nat := (if rs.contains 0 then 1 else 0) + (if rs.contains 1 then 2 else 0) + (if rs.contains 2 then 4 else 0)

/-- The body of AUTH_CHALLENGE: a nonce from the spring (R433); while it has FAILED the answer waits (R483). -/
def authChallenge (mb : Mb) (opcode : Nat) (digest : List Byte) (s : State) : Ans :=
  if s.mbx[mb].lockout then failA s 0x0009
  else if springDown s then deferA s
  else
    let d := draw s 32
    let nonce := padTo 32 d.1
    dataA (updMbx d.2 mb fun x => { x with nonce := some nonce, nonceOp := opcode, nonceDigest := digest }) nonce

def execAuthChallenge (r : Req) (opcode : Nat) (digest : List Byte) (s : State) : Host.Outcome State Fault Refusal :=
  .next (serve s r { opc := 0x0C01, need := .rd } (.authChallenge r opcode digest) (authChallenge r.mb opcode digest))

/-- One hour, µs. -/
def hourUs : Nat := 3600000000

/-- A failed AUTH_RESPONSE: the nonce is consumed; the eighth within 1 h locks challenges out (R433). -/
def authFailed (s : State) (mb : Mb) : Ans :=
  let fs := s.us :: recent s.us hourUs s.mbx[mb].authFails
  let s1 := raise (updMbx s mb fun x => { x with nonce := none, authFails := fs, lockout := x.lockout || decide (8 ≤ fs.length) })
    .authFail 0 0x0F 0 mb.val
  { st := s1, status := 0x0009 }

/-- The 83 bytes that an authorisation signs, before SHAKE256 (R433, R481). -/
def authString (s : State) (mb : Mb) (nonce : List Byte) (op : Nat) (digest : List Byte) : List Byte :=
  nonce ++ (s.nv.otp.serial.getD (List.replicate 16 0)).take 16 ++ leBytes 1 mb.val ++ leBytes 2 op ++ digest

/-- The body of AUTH_RESPONSE (R433, R481). -/
def authResponse (mb : Mb) (sigOfs sigLen : Nat) (s : State) : Ans :=
  if stageSize < sigOfs + sigLen then rangeA s
  else match s.mbx[mb].nonce with
    | none => authFailed s mb
    | some nonce =>
      let x := s.mbx[mb]
      let bs := staged s mb sigOfs sigLen
      match blockRoles s bs (shake32 (authString s mb nonce x.nonceOp x.nonceDigest)) with
      | none => authFailed s mb
      | some rs =>
        if rolesArm s x.nonceOp x.nonceDigest rs then
          okA (updMbx s mb fun x => { x with nonce := none, armed := some (x.nonceOp, x.nonceDigest),
                                             armedRoles := roleBits rs, armedDm := endorsedDm bs })
        else authFailed s mb

def execAuthResponse (r : Req) (sigOfs sigLen : Nat) (s : State) : Host.Outcome State Fault Refusal :=
  .next (serve s r { opc := 0x0C02, need := .rd } (.authResponse r sigOfs sigLen) (authResponse r.mb sigOfs sigLen))

/-! ### Lifecycle (R467 to R470) -/

/-- A transition draws secrets from the spring. -/
def lcDraws (s : State) (target : Nat) : Bool := decide (target = 1) && (s.nv.otp.duk.isNone || s.nv.otp.iseed.isNone)

/-- The body of LC_CHANGE: the roles of the authorisation that let it in fit the row; the Host Quay then
fetches nothing more and the bits are burned once the commands in flight have ended (R468, R469). -/
def lcChange (r : Req) (target roles : Nat) (dm : List Byte) (s : State) : Ans :=
  match lcRoles s target with
  | none => conflictA s
  | some need =>
    if s.sec.lcChange.isSome ∨ s.sec.lcResetDue then conflictA s
    else if !(need.all fun k => roles / 2 ^ k % 2 = 1) then failA s 0x0008
    else if springDown s && lcDraws s target then deferA s
    else
      { st := updQuay (updSec s fun x => { x with lcChange := some (target, r.mb, r.seq), lcDm := dm }) fun q => { q with stopFetch := true },
        status := 1 }

/-- LC_CHANGE: the authorisation's roles are read before it is consumed (R433, R469). -/
def execLcChange (r : Req) (target : Nat) (s : State) : Host.Outcome State Fault Refusal :=
  .next (serve s r { opc := 0x0C03, need := .sg, writesNor := true, long := true, body := leBytes 1 target } (.lcChange r target)
    (lcChange r target s.mbx[r.mb].armedRoles s.mbx[r.mb].armedDm))

/-- Step 2 of R469 for BLANK to MANUFACTURE: SERIAL, DUK and ISEED if unwritten, the identity key. SERIAL's
value is free: the spec does not say where it comes from. -/
def burnIdentity (s : State) : State :=
  let s1 := if s.nv.otp.serial.isSome then s
    else { updNv s fun v => { v with otp := { v.otp with serial := some (leBytes 16 (Config.freeWord 128 s.freeCtr).toNat) } }
           with freeCtr := s.freeCtr + 1 }
  let d := draw s1 32
  let s2 := if s1.nv.otp.duk.isSome then s1 else updNv d.2 fun v => { v with otp := { v.otp with duk := some (padTo 32 d.1) } }
  let e := draw s2 32
  let s3 := if s2.nv.otp.iseed.isSome then s2 else updNv e.2 fun v => { v with otp := { v.otp with iseed := some (padTo 32 e.1) } }
  updNv s3 fun v => { v with otp := { v.otp with
    idpkDigest := some (shake32 (Config.xmssPub (s3.nv.otp.iseed.getD []))) } }

/-- The OTP bits of a transition, in the order of R468. -/
def burnLc (s : State) (target : Nat) : State :=
  let next := fun s : State => updNv s fun v => { v with otp := { v.otp with lc := v.otp.lc + 1 } }
  if target = 4 then
    updNv s fun v => { v with otp := { v.otp with dukOnes := true, duk := some (List.replicate 32 0xFF), kill := true } }
  else if target = 1 then next (burnIdentity s)
  else if s.sec.life = .manufacture ∧ s.nv.otp.dmDigest.isNone then
    next (updNv s fun v => { v with otp := { v.otp with dmDigest := some s.sec.lcDm } })
  else next s

/-- LC_CHANGE goes on once 1 s has passed: what still runs is swept; with nothing in flight the bits are
burned and DONE is posted (R469). OTP programming waits while NV-write inhibit is active (R449). -/
def lcFinish (s : State) : State :=
  match s.sec.lcChange with
  | none => s
  | some (target, mb, seq) =>
    if s.cmds.tags.any fun r => !r.parked then sweep s fun _ => true
    else if s.bw.inhibit then s
    else if springDown s && lcDraws s target then
      updQuay (postDone (updSec s fun x => { x with lcChange := none }) mb seq 0x000B 0 0) fun q => { q with stopFetch := false }
    else postDone (updSec (burnLc s target) fun x => { x with lcChange := none, lcResetDue := true }) mb seq 0 0 0

/-- LC_RESET: 10 ms after the DONE an internal reset without a vault wipes everything (R469). -/
def execLcReset (s : State) : Host.Outcome State Fault Refusal := .next (if s.sec.lcResetDue then intoReset s else s)

/-! ### Identity and session keys (R473 to R476) -/

/-- The identity key exists and its tree is usable. -/
def hasIdentity (s : State) : Bool :=
  decide (s.sec.life ≠ .blank) && s.nv.otp.iseed.isSome && !s.sec.identityLost && s.sec.treeReady

/-- IDX_NEXT holds no index: signing needs a new batch. -/
def needsBatch (s : State) : Bool := !s.aon.idxNext.valid || decide (s.aon.idxNext.next = s.aon.idxNext.stop)

/-- Every index is reserved or used up (R475). -/
def idxExhausted (s : State) : Bool := needsBatch s && decide (4096 ≤ s.nv.otp.idx)

/-- The burn of a batch must wait for the end of NV-write inhibit (R449, R474). -/
def signWaits (s : State) : Bool := needsBatch s && s.bw.inhibit

/-- A batch reserved: the lowest clear bit of IDX is burned (R474, R475). -/
def newBatch (s : State) : State :=
  let b := s.nv.otp.idx
  let s1 := { updNv s fun v => { v with otp := { v.otp with idx := b + 1 } }
              with aon := { s.aon with idxNext := { valid := true, next := 256 * b, stop := 256 * b + 256 } } }
  let s2 := raise s1 (.numbered 0x3002) 0 0x03 0 b (b + 1)
  if b + 1 = 3840 then raise s2 (.numbered 0x3003) 0 0x03 0 (b + 1) else s2

/-- The identity key signs: the index advances before the signature is formed (R474). -/
def signId (s : State) (m : List Byte) : Option (List Byte) × State :=
  if !hasIdentity s then (none, s)
  else if idxExhausted s then (none, raise s (.numbered 0x3004) 0 0x03 0)
  else
    let s1 := if needsBatch s then newBatch s else s
    let i := s1.aon.idxNext.next
    (some (padTo 2820 (Config.sigMake (s.nv.otp.iseed.getD []) i m)),
     { s1 with aon := { s1.aon with idxNext := { s1.aon.idxNext with next := i + 1 } } })

/-- The body of a session certificate (R476). -/
def certBody (s : State) (pk : List Byte) (gen : Nat) : List Byte :=
  leBytes 4 0x4C534B43 ++ leBytes 4 0x11 ++ padTo 16 (s.nv.otp.serial.getD []) ++ padTo 64 pk ++
  leBytes 4 (s.ctr.dev.powerCycles % 2 ^ 24) ++ leBytes 4 s.ctr.dev.powerOnS ++ leBytes 4 gen ++
  leBytes 1 (lifeNum s.sec.life) ++ leBytes 1 s.sec.epoch ++ List.replicate 26 0

/-- A session key grown from the spring and certified by the identity key; `none` where it cannot be. -/
def newSession (s : State) : Option SessKey × State :=
  let d := draw s 96
  let pk := Config.xmssPub d.1
  let gen := s.sec.sessGen + 1
  let s1 := updSec d.2 fun x => { x with sessGen := gen }
  let body := certBody s1 pk gen
  let c := signId s1 body
  (c.1.map fun sig => { seed := d.1, pk := pk, gen := gen, cert := body ++ sig }, c.2)

/-- A key can be generated and certified now. -/
def canCertify (s : State) : Bool := powered s && hasIdentity s && !springDown s && !signWaits s

/-- SESSION_KEY_READY: 1.3 s after the release the session key is generated and certified (R474 to R476). -/
def execSessionKeyReady (s : State) : Host.Outcome State Fault Refusal :=
  .next (if canCertify s && s.sec.sess.isNone then
      let k := newSession s
      updSec k.2 fun x => { x with sess := k.1 }
    else s)

/-- SESSION_KEY_SUCCESSOR: with 1,024 session indices left, a successor is generated and certified (R476). -/
def execSessionKeySuccessor (s : State) : Host.Outcome State Fault Refusal :=
  .next (match s.sec.sess with
    | some k =>
      if canCertify s && s.sec.successor.isNone && decide (65536 ≤ k.qidx + 1024) then
        let n := newSession s
        updSec n.2 fun x => { x with successor := n.1 }
      else s
    | none => s)

/-- TREE_CACHE_REBUILT: the identity tree cache is usable again, and in NOR unless its writes wait (R473). -/
def execTreeCacheRebuilt (s : State) : Host.Outcome State Fault Refusal :=
  .next (if powered s && !s.sec.treeReady && s.nv.otp.iseed.isSome && !s.sec.identityLost then
      updNv (updSec s fun x => { x with treeReady := true }) fun v => { v with treeCache := v.treeCache || !s.bw.inhibit }
    else s)

/-! ### The spring (R482, R483) -/

/-- SPRING_TEST_FAIL: the start-up tests run again; the third failure within 60 s is SPRING_FAIL (R483). -/
def execSpringTestFail (test : Nat) (s : State) : Host.Outcome State Fault Refusal :=
  .next (if powered s && !s.sec.springFailed then
      let fs := s.us :: recent s.us 60000000 s.sec.springFails
      let s1 := raise (updSec s fun x => { x with springFails := fs, springRestarted := true }) (.numbered 0x3005) 0 0x03 0 test
      if 3 ≤ fs.length then raise (updSec s1 fun x => { x with springFailed := true }) (.numbered 0x3006) 0 0x03 0 fs.length else s1
    else s)

/-- RANDOMNESS_TIMEOUT: a request that has waited 10 ms fails (R483): the message `op` waiting on the
mailbox, or, from 0x10000 on, the host command of tag `op` - 0x10000 held in ORDER_WAIT. -/
def execRandomnessTimeout (r : Req) (op : Nat) (s : State) : Host.Outcome State Fault Refusal :=
  .next (if !springDown s then s
    else if op < 0x10000 then
      (match s.mbx[r.mb].waitOp with
       | some w => if w.1 = op ∧ w.2 = r.seq ∧ [0x0C01, 0x0C03].contains op then lateAnswer s r.mb 0x000B 0 [] else s
       | none => s)
    else
      match s.cmds.tags.find? fun x => x.tag.val = op - 0x10000 with
      | some x => if decide (x.stage = 2) && !x.aborted && !mustWait s x && needsRandom s x then finish s x.tag (stG 0x06) else s
      | none => s)

/-! ### Debug unlock and the certificate (R477, R492) -/

/-- Offset of the first byte of a word with a bit set from bit 5 on. -/
def scopeByte (scope : BitVec 32) : Nat := if scope.toNat % 256 / 32 ≠ 0 then 0 else if scope.toNat / 256 % 256 ≠ 0 then 1 else if scope.toNat / 65536 % 256 ≠ 0 then 2 else 3

/-- The body of DEBUG_UNLOCK: only in FIELD does it change anything (R492). -/
def debugUnlock (scope : BitVec 32) (s : State) : Ans :=
  if 32 ≤ scope.toNat then malformedA s (32 + scopeByte scope)
  else if s.sec.life ≠ .field then okA s
  else okA (raise (updSec s fun x => { x with debugScope := x.debugScope ||| scope.setWidth 5 }) (.numbered 0x300B) 0 0x03 0 scope.toNat)

def execDebugUnlock (r : Req) (scope : BitVec 32) (s : State) : Host.Outcome State Fault Refusal :=
  .next (serve s r { opc := 0x0C04, need := .sg, body := leBytes 4 scope.toNat } (.debugUnlock r scope) (debugUnlock scope))

/-- The certification request, signed once and cached in NOR (R477). -/
def withCsr (s : State) : State :=
  if s.nv.csr ≠ [] ∨ !hasIdentity s ∨ s.bw.inhibit then s
  else
    let pk := Config.xmssPub (s.nv.otp.iseed.getD [])
    let c := signId s pk
    match c.1 with
    | some sig => updNv c.2 fun v => { v with csr := Config.certRequest (v.otp.serial.getD []) pk sig }
    | none => c.2

/-- The body of ID_GET_CERT: bytes of the accepted chain, else of the certification request (R477). -/
def idCert (offset length : Nat) (s : State) : Ans :=
  if 2016 < length then rangeA s
  else if s.sec.chainOk then
    (if s.nv.certChain.length ≤ offset then notFoundA s else dataA s ((s.nv.certChain.drop offset).take length))
  else if s.nv.csr = [] && hasIdentity s && s.bw.inhibit then failA s 0x0013
  else
    let s1 := withCsr s
    if s1.nv.csr.length ≤ offset then { st := s1, status := 0x000E } else dataA s1 ((s1.nv.csr.drop offset).take length)

def execIdGetCert (r : Req) (offset length : Nat) (s : State) : Host.Outcome State Fault Refusal :=
  .next (serve s r { opc := 0x0C05, need := .rd } (.idGetCert r offset length) (idCert offset length))

/-! ### Attestation (R491) -/

/-- Sequencers that select a bank. -/
def bankUsers (s : State) (b : Bool) : Nat := (allSeqs.filter fun n => decide (s.seqs[n].st ≠ .off) && decide (s.seqs[n].bankB = b)).length

/-- The digest of a bank; zero where it is not valid. -/
def bankDigest (b : Bank) : List Byte := if b.valid then padTo 32 b.digest else List.replicate 32 0

/-- The body of a quote (R491). The bytes of the drive configuration, whose digest it carries, are free: the spec does
not lay them out. -/
def quoteBody (s : State) (nonce : List Byte) (qidx : Nat) : List Byte :=
  let x := s.sec
  let o := s.nv.otp
  let flags := b2n (decide (x.life = .field) && decide (x.debugScope ≠ 0)) + 2 * b2n x.springRestarted + 4 * b2n x.unsignedLoaded +
    8 * b2n (decide (3840 ≤ o.idx))

  let sel := (allSeqs.filter fun n => s.seqs[n].bankB).foldl (fun a n => a + 2 ^ n.val) 0
  leBytes 4 0x4C515554 ++ leBytes 2 1 ++ leBytes 1 (lifeNum x.life) ++ leBytes 1 flags ++ padTo 16 (o.serial.getD []) ++ padTo 32 nonce ++
  leBytes 4 s.ctr.dev.powerOnS ++ leBytes 4 (s.ctr.dev.powerCycles % 2 ^ 24) ++ leBytes 4 qidx ++ leBytes 4 o.idx ++
  leBytes 1 o.fwSvn ++ leBytes 1 o.ucSvn ++ leBytes 2 0 ++ leBytes 4 (bankUsers s false + 256 * bankUsers s true) ++
  padTo 32 s.fw.activeDigest ++
  bankDigest s.seqDev.banks[(0 : Fin 2)] ++ bankDigest s.seqDev.banks[(1 : Fin 2)] ++
  padTo 32 (shake32 (Config.configBytes s.nv.config s.nv.certChain s.nv.tableFF)) ++ leBytes 4 sel ++ List.replicate 44 0

/-- The body of ATTEST_QUOTE: accepted; the quote is formed under its DONE (R470, R491). -/
def attestQuote (r : Req) (nonce : List Byte) (s : State) : Ans :=
  if s.sec.life = .blank then conflictA s
  else { st := updSec s fun x => { x with quotes := x.quotes ++ [{ mb := r.mb, seq := r.seq, nonce := nonce }] }, status := 1 }

def execAttestQuote (r : Req) (nonce : List Byte) (s : State) : Host.Outcome State Fault Refusal :=
  .next (serve s r { opc := 0x0C06, need := .rd, long := true } (.attestQuote r nonce) (attestQuote r nonce))

/-- A waiting quote is formed in its mailbox's staging buffer, or can never be; else it waits for the
session certificate (R475, R476, R483, R491). -/
def quoteFinish (s : State) (mb : Mb) (seq : Nat) : State :=
  match s.sec.quotes.find? fun q => decide (q.mb = mb) && decide (q.seq = seq) with
  | none => s
  | some q =>
    let s1 := updSec s fun x => { x with quotes := x.quotes.erase q }
    match (match s.sec.successor with | some k => some k | none => s.sec.sess) with
    | some k =>
      if 65536 ≤ k.qidx then postDone s1 mb seq 0x000B 0 0
      else
        let body := quoteBody s q.nonce k.qidx
        let bytes := body ++ padTo 2692 (Config.sigMake k.seed k.qidx body) ++ k.cert
        let s2 := updSec s1 fun x => { x with sess := some { k with qidx := k.qidx + 1 }, successor := none }
        postDone (updMbx s2 mb fun x => { x with staging := smWriteBytes x.staging 0 bytes }) mb seq 0 0 5896
    | none => if springDown s || idxExhausted s || s.sec.identityLost then postDone s1 mb seq 0x000B 0 0 else s

/-! ### Opal (R488 to R490) -/

/-- An authority of the administrators: SID and Admin1 to Admin4 of the Admin SP, Admin1 to Admin4 of the
Locking SP, by UID. -/
def opalAdmin (auth : Nat) : Bool :=
  decide (auth = 0x900000006) || (decide (0x900000201 ≤ auth) && decide (auth ≤ 0x900000204)) ||
    (decide (0x900010001 ≤ auth) && decide (auth ≤ 0x900010004))

/-- The authority is authenticated, for the namespace or for the device. -/
def opalAuthed (s : State) (auth nsid : Nat) : Bool := s.sec.opalSessions.contains (nsid, auth) || s.sec.opalSessions.contains (0, auth)
/-- An administrator is authenticated. -/
def opalAdminOn (s : State) (auth : Nat) : Bool := opalAdmin auth && s.sec.opalSessions.any fun e => decide (e.2 = auth)
/-- An authority has a credential. -/
def opalKnown (s : State) (auth : Nat) : Bool := s.nv.opalOwner.any fun e => decide (e.1 = auth)

/-- The status of the method just run. -/
def opalAns (s : State) (status : Nat) : State := updSec s fun x => { x with opalStatus := status }

/-- The namespace's key as an authority's wrap gives it (R487, R490). -/
def unwrapBy (s : State) (nsid auth : Nat) : Option (List Byte) :=
  (keyAt s nsid).bind fun k => (k.wraps.find? fun w => w.2 = auth).bind fun w => Config.unwrap (kekOf s k.epoch nsid (credOf s auth)) w.1

/-- A namespace's entry written again with the wraps that its locking object calls for. -/
def rewrap (s : State) (nsid : Nat) (mek : List Byte) : State :=
  match keyAt s nsid with
  | some k => putKey s { k with epoch := s.sec.epoch, locking := (lockAt s nsid).isSome, wraps := wrapsOf s nsid mek }
  | none => s

/-- The key in a namespace's slot. -/
def slotKey (s : State) (nsid : Nat) : Option (List Byte) := (s.sec.slots.find? fun e => e.1 = nsid - 1).map (·.2)

/-- A locking object stored, or removed. -/
def putLock (s : State) (nsid : Nat) (l : Option Lock) : State :=
  updNv s fun v => { v with locks := l.toList ++ v.locks.filter fun x => x.nsid ≠ nsid }

/-- A locking object changed: its namespace's slot is zeroised when it becomes locked both ways, and an
authority that unlocks it brings the key back (R490). -/
def applyLock (s : State) (auth nsid : Nat) (l : Lock) : State :=
  let s1 := putLock s nsid (some l)
  if l.readLocked ∧ l.writeLocked then clearSlot s1 nsid
  else if (slotKey s1 nsid).isSome then s1
  else match unwrapBy s1 nsid auth with
    | some mek => loadSlot s1 nsid mek
    | none => s1

/-- What an Opal method does (R489, R490): status 0 success, 1 NOT_AUTHORIZED, 7 INSUFFICIENT_SPACE, 12
INVALID_PARAMETER. -/
def opalRun (s : State) (m : OpalMethod) : State :=
  match m with
  | .plain => opalAns s 0
  | .credential auth cred =>
    if !(s.nv.opalOwner = [] || s.sec.opalSessions.any fun e => opalAdmin e.2 || decide (e.2 = auth)) then opalAns s 1
    else
      let s1 := updNv s fun v => { v with opalOwner := (auth, shake32 cred) :: v.opalOwner.filter fun e => e.1 ≠ auth }
      opalAns (forEach (s.nv.locks.filter fun l => l.unlockers.contains auth) s1 fun s l =>
        match slotKey s l.nsid with | some k => rewrap s l.nsid k | none => s) 0
  | .setLock auth nsid rd wr =>
    (match lockAt s nsid with
     | some l =>
       if l.unlockers.contains auth && opalAuthed s auth nsid then opalAns (applyLock s auth nsid { l with readLocked := rd, writeLocked := wr }) 0
       else opalAns s 1
     | none => opalAns s 12)
  | .lockOnReset auth nsid on =>
    (match lockAt s nsid with
     | some l => if opalAdminOn s auth then opalAns (putLock s nsid (some { l with lockOnReset := on })) 0 else opalAns s 1
     | none => opalAns s 12)
  | .enable auth nsid us =>
    if !opalAdminOn s auth then opalAns s 1
    else if 4 < us.length then opalAns s 7
    else if us = [] ∨ !us.all (opalKnown s) ∨ (lockAt s nsid).isSome then opalAns s 12
    else
      (match slotKey s nsid with
       | some k => opalAns (rewrap (putLock s nsid (some { nsid := nsid, unlockers := us })) nsid k) 0
       | none => opalAns s 12)
  | .grant auth nsid us =>
    if !opalAdminOn s auth then opalAns s 1
    else if 4 < us.length then opalAns s 7
    else if us = [] ∨ !us.all (opalKnown s) then opalAns s 12
    else
      (match lockAt s nsid, slotKey s nsid with
       | some l, some k => opalAns (rewrap (putLock s nsid (some { l with unlockers := us })) nsid k) 0
       | _, _ => opalAns s 12)
  | .disable auth nsid =>
    if !opalAdminOn s auth then opalAns s 1
    else
      (match lockAt s nsid, slotKey s nsid with
       | some _, some k => opalAns (rewrap (putLock s nsid none) nsid k) 0
       | _, _ => opalAns s 12)

/-- A method writes the key store or the drive configuration. -/
def opalWrites (m : OpalMethod) : Bool := decide (m ≠ .plain)

/-- The security protocol a command names. -/
def protoOf (s : State) (r : TagRec) : Nat := if s.quay.sas then r.cmd.dw13 % 256 else r.cmd.dw10 / 2 ^ 24 % 256

/-- Security Send or SECURITY PROTOCOL OUT with its method: protocol 0x01 only; a method that writes NOR
waits in ORDER_WAIT for the end of NV-write inhibit (R449, R486, R489). -/
def securityOut (s : State) (r : TagRec) (m : OpalMethod) : State :=
  if protoOf s r ≠ 1 then finish s r.tag (stG 0x02)
  else if mustWait s r || (s.bw.inhibit && opalWrites m) then updTag s r.tag fun x => { x with stage := 2 }
  else finishOk (opalRun s m) r.tag

/-- Security Receive or SECURITY PROTOCOL IN: the response's bytes are free values (R489). -/
def securityIn (s : State) (r : TagRec) : State :=
  if protoOf s r ≠ 1 then finish s r.tag (stG 0x02)
  else
    let d := sheet s (min (if s.quay.sas then r.cmd.dw12 else r.cmd.dw11) 4096) []
    finishOk (sendData (commitTag d.2 r.tag) r.tag d.1) r.tag

/-- SECURITY_SEND (R489): from ADMITTED, or again from ORDER_WAIT once the wait is over. -/
def execSecuritySend (t : Tag) (m : OpalMethod) (s : State) : Host.Outcome State Fault Refusal :=
  .next (match tagAt s t with
    | some r =>
      if !s.quay.sas && decide (r.qid = 0) && decide (r.cmd.opc = 0x81) &&
          (admissible s r || (live s && !s.bw.started && decide (r.stage = 2) && !r.aborted)) then securityOut s r m
      else s
    | none => s)

/-- SECURITY_RECEIVE (R489). -/
def execSecurityReceive (t : Tag) (s : State) : Host.Outcome State Fault Refusal :=
  .next (adminRow s t (fun c => c.opc = 0x82) securityIn)

/-- OPAL_AUTHENTICATE: an authority authenticates; with unlock rights on the namespace its key is unwrapped
(R487, R490). -/
def execOpalAuthenticate (auth nsid : Nat) (cred : List Byte) (s : State) : Host.Outcome State Fault Refusal :=
  .next (if !(live s && !s.bw.started) then s
    else if s.nv.opalOwner.any fun e => decide (e = (auth, shake32 cred)) then
      let s1 := opalAns (updSec s fun x => { x with opalSessions := (nsid, auth) :: x.opalSessions.filter (· ≠ (nsid, auth)) }) 0
      if (match lockAt s nsid with | some l => l.unlockers.contains auth | none => false) then
        (match unwrapBy s nsid auth with
         | some mek => updSec s1 fun x => { x with slots := (nsid - 1, mek) :: x.slots.filter fun e => e.1 ≠ nsid - 1 }
         | none => s1)
      else s1
    else opalAns s 1)

/-- A command of the namespace is in flight, so its crypto-erase waits (R331, R488). -/
def nsBusy (s : State) (nsid : Nat) : Bool := s.cmds.tags.any fun x => isIo s x && decide (nsidOf s x = nsid)

/-- A crypto-erase can begin: commands have ended, NOR may be written and the spring works. -/
def eraseReady (s : State) (ns : List Ns) : Bool :=
  live s && !s.bw.started && !s.bw.inhibit && !springDown s && ns.all fun n => !nsBusy s n.nsid

/-- OPAL_GENKEY: the crypto-erase of one namespace (R488). -/
def execOpalGenkey (nsid : Nat) (s : State) : Host.Outcome State Fault Refusal :=
  .next (match nsAt s nsid with
    | some n => if eraseReady s [n] then opalAns (cryptoErase s n) 0 else s
    | none => s)

/-- Every namespace is crypto-erased with its locking object gone, and the authorities of the SP lose their
credentials (R488). -/
def opalRevert (s : State) (keep : Nat → Bool) : State :=
  let s1 := updSec (updNv s fun v => { v with locks := [], opalOwner := v.opalOwner.filter fun e => keep e.1 }) fun x =>
    { x with opalSessions := [], opalStatus := 0 }
  forEach s.nv.namespaces s1 cryptoErase

/-- OPAL_REVERT: the TPer is reverted (R488). -/
def execOpalRevert (s : State) : Host.Outcome State Fault Refusal :=
  .next (if eraseReady s s.nv.namespaces then opalRevert s fun _ => false else s)

/-- OPAL_REVERTSP: the Locking SP is reverted; the Admin SP keeps its authorities (R488). -/
def execOpalRevertsp (s : State) : Host.Outcome State Fault Refusal :=
  .next (if eraseReady s s.nv.namespaces then opalRevert s fun a => decide (a < 0x900010000) else s)

end Sys2Proof.Machine
end

