-- ==== Sys2Proof/Machine/Seq.lean ====
section
/-! DEFINITION. Sequencers: orders, the microword, steps and commits, interrupts, faults, the control
store and its messages (chapter 14). -/

namespace Sys2Proof.Machine

/-! ### Fields of a microword (R390) -/

/-- Bits `lo` on of a microword, `w` of them. -/
def mw (x : BitVec 26) (lo w : Nat) : Nat := fld x.toNat lo w
/-- D, bits 25:22. -/
def mwD (x : BitVec 26) : Fin 16 := ⟨mw x 22 4, Nat.mod_lt _ (by decide)⟩
/-- A, bits 21:18. -/
def mwA (x : BitVec 26) : Fin 16 := ⟨mw x 18 4, Nat.mod_lt _ (by decide)⟩
/-- B, bits 17:14. -/
def mwB (x : BitVec 26) : Fin 16 := ⟨mw x 14 4, Nat.mod_lt _ (by decide)⟩
/-- The register after one. -/
def regNext (i : Fin 16) : Fin 16 := ⟨(i.val + 1) % 16, Nat.mod_lt _ (by decide)⟩
/-- A register. -/
def gOf (r : SeqRegs) (i : Fin 16) : BitVec 32 := r.g[i]
/-- A register written. -/
def setG (r : SeqRegs) (i : Fin 16) (v : BitVec 32) : SeqRegs := { r with g := vupd r.g i fun _ => v }
/-- IMM of format I, sign-extended. -/
def immS (x : BitVec 26) : BitVec 32 := (BitVec.ofNat 18 (mw x 0 18)).signExtend 32
/-- IMM of format I, zero-extended. -/
def immZ (x : BitVec 26) : BitVec 32 := BitVec.ofNat 32 (mw x 0 18)
/-- OFS of format M, signed bytes. -/
def ofsS (x : BitVec 26) : Int := (BitVec.ofNat 16 (mw x 0 16)).toInt
/-- The network address in an even register pair (R389). -/
def pairAt (r : SeqRegs) (i : Fin 16) : Nat := (gOf r i).toNat + (gOf r (regNext i)).toNat * 2 ^ 32
/-- Bytes of a transfer's size (R390). -/
def sizeOf4 (x : BitVec 26) : Nat := 2 ^ mw x 16 2
/-- A doubleword needs an even D (R390). -/
def oddD (x : BitVec 26) : Bool := decide (mw x 16 2 = 3) && decide ((mwD x).val % 2 = 1)
/-- A network access needs an even A (R390). -/
def oddA (x : BitVec 26) : Bool := decide ((mwA x).val % 2 = 1)
/-- Bits 13:0 of format R are reserved. -/
def badR (x : BitVec 26) : Bool := decide (mw x 0 14 ≠ 0)
/-- Opcodes that R391 reserves. -/
def reservedOp (o : Nat) : Bool :=
  (decide (0x0A ≤ o) && decide (o ≤ 0x0F)) || [0x2A, 0x2B].contains o || (decide (0x35 ≤ o) && decide (o ≤ 0x37)) || decide (0x3D ≤ o)

/-! ### The network (R389): DRAM regions; what other addresses hold is a free value -/

/-- Addresses from here on fault with code 0xA (R389). -/
def netTop : Nat := 2 ^ 40

/-- A line as a read returns it: an entry of the merge buffer lies over it (R377). -/
def netLine (s : State) (line : Nat) : List Byte :=
  match mergeAt s line with
  | some e => overlay (lineData (lineAt s line)) e
  | none => lineData (lineAt s line)

/-- A byte of the network. -/
def netByte (s : State) (a : Nat) : Byte :=
  if (regionOf s (a / 64)).isSome then byteAt (netLine s (a / 64)) (a % 64) else Config.freeWord 8 (s.freeCtr + a)
/-- Bytes of the network. -/
def netRead (s : State) (a n : Nat) : List Byte := (List.range n).map fun i => netByte s (a + i)
/-- A byte's line is not CLEAN (R367). -/
def netPoison (s : State) (a : Nat) : Bool := (regionOf s (a / 64)).isSome && decide ((lineAt s (a / 64)).poison ≠ .clean)
/-- Bytes written to the network: into DRAM lines as narrow writes (R369). -/
def netWrite (s : State) (a : Nat) (bytes : List Byte) : State :=
  forEach (narrowLines a bytes) s fun s p => if (regionOf s p.1).isSome then narrowPart s p.1 p.2.1 p.2.2 else s

/-! ### Steps (R394 to R397, R400) -/

/-- Continue at the next word; past the end of the bank it faults with code 0x8 (R394). -/
def advanceTo (s : State) (n : Sq) (f : SeqRegs → SeqRegs) : State :=
  if s.seqs[n].r.pc = 0xFFFF then seqFault s n 8
  else updSeq s n fun q => { q with r := { f q.r with pc := q.r.pc + 1 } }
/-- Continue at an address. -/
def jumpTo (s : State) (n : Sq) (pc : BitVec 16) (f : SeqRegs → SeqRegs) : State :=
  updSeq s n fun q => { q with r := { f q.r with pc := pc } }

/-- A held micro-operation enters the commit buffer; the seventeenth of a step faults (R395). -/
def hold (s : State) (n : Sq) (h : Held) : State :=
  if 16 ≤ s.seqs[n].held.length then seqFault s n 7
  else advanceTo (updSeq s n fun q => { q with held := q.held ++ [h] }) n id

/-- A completion is written to the ring of the order's ORIGIN, and the order is no longer active (R388). -/
def complete (s : State) (n : Sq) (token : BitVec 16) (status : BitVec 8) (result : BitVec 32) : State :=
  match s.seqs[n].active.find? fun o => o.token = token with
  | none => s
  | some o =>
    let word := BitVec.ofNat 64 (packF [(32, 32, result.toNat), (27, 5, n.val), (16, 8, status.toNat), (0, 16, token.toNat)])
    updSeqDev (updSeq s n fun q => { q with active := q.active.erase o }) fun d =>
      { d with rings := (o.origin.toNat, word) :: d.rings }

/-- A port written at `us`; TIMER counts from there (R389). -/
def portWrite (us : Nat) (q : Sequencer) (port : Nat) (v : BitVec 32) : Sequencer :=
  if port = 0 then { q with timer := some v.toNat, timerUs := us }
  else if port = 1 then { q with pend := q.pend &&& ~~~(v.setWidth 16) }
  else if port = 2 then { q with imask := v.setWidth 16 ||| 1#16 }
  else { q with ports := smWrite 0 q.ports port v }

/-- One held write issued (R396). -/
def issueHeld (n : Sq) (s : State) (h : Held) : State :=
  match h with
  | .st a bytes => updSeq s n fun q => { q with scratch := smWriteBytes q.scratch a bytes }
  | .stn a bytes => netWrite s a bytes
  | .post t st r => complete s n t st r
  | .evt c p0 p1 p2 => raise s (.numbered c.toNat) 0 0x0E n.val p0.toNat p1.toNat p2.toNat
  | .move src dst len => updSeq s n fun q => { q with moves := q.moves ++ [(src, dst, len)] }
  | .out port v => updSeq s n fun q => portWrite s.us q port v

/-- Every held write of the step is issued in program order (R396). -/
def release (s : State) (n : Sq) : State :=
  updSeq (forEach s.seqs[n].held s (issueHeld n)) n fun q => { q with held := [] }

/-- A restart point: the snapshot; a network error on an issued write halts here with FCODE 0xA (R396). -/
def restart (s : State) (n : Sq) : State :=
  let s1 := updSeq s n fun q => { q with snap := q.r }
  if s.seqs[n].netErr then seqFault s1 n 0xA else s1

/-! ### Fetching (R25, R404, R405) -/

/-- The fetch port that serves a sequencer, n mod 4 (R404). -/
def fetchPortOf (n : Sq) : Fin 4 := ⟨n.val % 4, Nat.mod_lt _ (by decide)⟩

/-- The word at the program counter lies in the 256-word direct-mapped cache of 8-word lines; a line that is missing
comes from the sequencer's fetch port, whose rotating pointer moves past it (R24, R404). -/
def fetched (s : State) (n : Sq) : State :=
  let line := s.seqs[n].r.pc.toNat / 8
  if s.seqs[n].lines.contains line then s
  else
    let keep := fun x : Nat => decide (x % 32 ≠ line % 32)
    updSeqDev (updSeq s n fun q => { q with lines := line :: q.lines.filter keep }) fun d =>
      { d with fetchPtr := vupd d.fetchPtr (fetchPortOf n) fun _ => (n.val / 4 + 1) % 8 }

/-- The parity of one byte of a word. -/
def byteParity (x : BitVec 32) (k : Nat) : Bool := (List.range 8).foldl (fun p i => p != x.getLsbD (8 * k + i)) false

/-- A word fetched in place of the word stored shows a parity error: a byte differs in an odd number of bits (R405). -/
def parityDiffers (x y : BitVec 32) : Bool := (List.range 4).any fun k => byteParity (x ^^^ y) k

/-- A fetch with a parity error: in a WRITABLE bank, a microword row that brings another word than the one stored,
with a byte of the wrong parity (R405; log entry 207). -/
def parityBad (b : Bank) (x y : BitVec 32) : Bool := !b.locked && parityDiffers x y

/-- A micro-operation issues: the sequencer runs, and the word at its program counter is this one; the
watchdog, parity, a reserved opcode and the word's own fields come first (R390, R400, R405). -/
def issue (s : State) (n : Sq) (opc : Nat) (w : BitVec 26) (bad : Bool) (act : State → State) : State :=
  let q := s.seqs[n]
  let b := seqBank s q
  let x := bankWord b q.r.pc.toNat
  if !powered s || decide (q.st ≠ .run) then s
  else if 512 ≤ q.ops ∧ x.toNat / 2 ^ 26 ≠ 1 then seqFault s n 1
  else if parityBad b x (BitVec.ofNat 32 (opc * 2 ^ 26 + w.toNat)) then
    seqFault (updSeqDev (fetched s n) fun d => { d with parityErr := true }) n 3
  else if reservedOp (x.toNat / 2 ^ 26) then seqFault (fetched s n) n 4
  else if x.toNat ≠ opc * 2 ^ 26 + w.toNat then s
  else if bad then seqFault (fetched s n) n 4
  else act (updSeq (fetched s n) n fun q => { q with ops := q.ops + 1 })

/-- A plain micro-operation that goes on to the next word. -/
def plainOp (s : State) (n : Sq) (opc : Nat) (w : BitVec 26) (bad : Bool) (f : SeqRegs → SeqRegs) : Host.Outcome State Fault Refusal :=
  .next (issue s n opc w bad fun s => advanceTo s n f)

/-- A consuming micro-operation: the step commits on issue, and its end is a restart point (R395, R396). -/
def consumeOp (s : State) (n : Sq) (act : State → State) : State :=
  let s1 := restart (release s n) n
  if s1.seqs[n].st ≠ .run then s1
  else
    let s2 := advanceTo (act s1) n id
    if s2.seqs[n].st = .run then restart s2 n else s2

/-! ### Orders and events (R387, R398) -/

/-- The order in a post (R386). -/
def orderOf (w : BitVec 128) : Order :=
  { arg1 := w.extractLsb' 64 64, arg0 := w.extractLsb' 32 32, token := w.extractLsb' 16 16, origin := w.extractLsb' 11 5,
    entry := w.extractLsb' 0 11 }
/-- The 128 bits of an order. -/
def orderBits (o : Order) : BitVec 128 := o.arg1 ++ o.arg0 ++ o.token ++ o.origin ++ o.entry

/-- ORDER_POST: accepted in every state but OFF; the thirty-third is answered FULL (R387). During the pause
of a slipway cores post none (R532). -/
def execOrderPost (n : Sq) (word : BitVec 128) (s : State) : Host.Outcome State Fault Refusal :=
  .next (if !powered s || decide (s.seqs[n].st = .off) || decide (s.fw.slip = .paused) then s
    else if 32 ≤ s.seqs[n].queue.length then emit (updSeq s n fun q => { q with ordFull := true }) (.orderAns n.val false)
    else wake (emit (updSeq s n fun q => { q with queue := q.queue ++ [orderOf word] }) (.orderAns n.val true)) n)

/-- Role event lines that R385 lists for a sequencer. -/
def roleLines (n : Nat) : List Nat :=
  if n < 16 then
    (if n % 4 < 2 then [6, 7, 8, 9, 10] else if n % 4 = 2 then [6, 7, 8, 9, 10] else [6, 7, 8])
  else if n < 30 then [6, 7, 8]
  else [6, 7]

/-- SEQ_EVENT_LINE: an edge on ATTN or on a role line that the sequencer has; the other lines follow the
happenings they name (R385, R398). -/
def execSeqEventLine (n : Sq) (line : Fin 16) (s : State) : Host.Outcome State Fault Refusal :=
  .next (if powered s && (decide (line.val = 3) || (roleLines n.val).contains line.val) then setLine s n line.val else s)

/-- SEQ_TIMER_EXPIRY: the TIMER has counted down; event line 5 fires (R389). -/
def execSeqTimerExpiry (n : Sq) (s : State) : Host.Outcome State Fault Refusal :=
  .next (match s.seqs[n].timer with
    | some us =>
      if powered s && passedNs s s.seqs[n].timerUs (us * 1000) then setLine (updSeq s n fun q => { q with timer := none }) n 5 else s
    | none => s)

/-- WATCHDOG_EXPIRY: WD_TIME has passed since the last YIELD, sleep excluded (R400). -/
def execWatchdogExpiry (n : Sq) (s : State) : Host.Outcome State Fault Refusal :=
  .next (if powered s && decide (s.seqs[n].st = .run) && passedNs s s.seqs[n].yieldUs (s.seqs[n].wdTime * 1000) then seqFault s n 2 else s)

/-- The sequencer stands at a micro-operation that waits for the network: LDN or ATOM (R393). -/
def atNetwork (s : State) (n : Sq) : Bool :=
  [0x2E, 0x30].contains ((bankWord (seqBank s s.seqs[n]) s.seqs[n].r.pc.toNat).toNat / 2 ^ 26)

/-- NETWORK_ACCESS_TIMEOUT: an access has not returned in 10 µs (R393). -/
def execNetworkAccessTimeout (n : Sq) (s : State) : Host.Outcome State Fault Refusal :=
  .next (if powered s && decide (s.seqs[n].st = .run) && atNetwork s n then seqFault s n 0xA else s)

/-- NETWORK_WRITE_ERROR: an issued write met an error; the sequencer halts at its next restart point (R396). -/
def execNetworkWriteError (n : Sq) (s : State) : Host.Outcome State Fault Refusal :=
  .next (if powered s && (decide (s.seqs[n].st = .run) || decide (s.seqs[n].st = .sleep)) then
      updSeq s n fun q => { q with netErr := true }
    else s)

/-- Lines copied whole, with the poison of their source passed on (R363, R367). -/
def moveLines (s : State) (src dst : Nat) : Nat → State
  | 0 => s
  | k + 1 =>
    let d := netRead s src 64
    let bad := netPoison s src
    let s1 := if (regionOf s (dst / 64)).isSome ∧ dst % 64 = 0 then
        writeLine (dropMerge s (dst / 64)) (dst / 64) d (if bad then .propagated else .clean)
      else netWrite s dst d
    moveLines s1 (src + 64) (dst + 64) k

/-- MOVE_DONE: the oldest move outstanding ends; event line 4 (R391). -/
def execMoveDone (n : Sq) (s : State) : Host.Outcome State Fault Refusal :=
  .next (match s.seqs[n].moves with
    | [] => s
    | (src, dst, len) :: ms =>
      if powered s then setLine (moveLines (updSeq s n fun q => { q with moves := ms }) src dst (len / 64)) n 4 else s)

/-! ### Micro-operations without a result (R391) -/

/-- NOP. -/
def execNop (n : Sq) (w : BitVec 26) (s : State) : Host.Outcome State Fault Refusal :=
  plainOp s n 0x00 w (decide (w ≠ 0)) id

/-- What a YIELD does after its commit: an interrupt, or the wait (R399). -/
def yieldEnd (s : State) (n : Sq) (w : BitVec 26) : State :=
  let s1 := updSeq s n fun q =>
    { q with maxStep := max q.maxStep (min 512 (q.ops - 1)), ops := 0, wdTime := s.seqDev.wdTimeSet, yieldUs := s.us,
             wait := mw w 24 2, evmask := BitVec.ofNat 16 (mw w 0 16) }
  match takeable s1.seqs[n] with
  | some k => takeLine s1 n k
  | none => if mw w 24 2 = 0 then s1 else wake (updSeq s1 n fun q => { q with st := .sleep }) n

/-- YIELD: a COMMIT, then the interrupt point, then the optional wait (R399). -/
def execYield (n : Sq) (w : BitVec 26) (s : State) : Host.Outcome State Fault Refusal :=
  .next (issue s n 0x01 w (decide (mw w 24 2 = 3) || decide (mw w 16 8 ≠ 0)) fun s =>
    let s1 := advanceTo (release s n) n id
    if s1.seqs[n].st ≠ .run then s1
    else
      let s2 := restart s1 n
      if s2.seqs[n].st ≠ .run then s2 else yieldEnd s2 n w)

/-- COMMIT: the held writes are released; a restart point (R396). -/
def execCommit (n : Sq) (w : BitVec 26) (s : State) : Host.Outcome State Fault Refusal :=
  .next (issue s n 0x02 w (decide (w ≠ 0)) fun s =>
    let s1 := advanceTo (release s n) n id
    if s1.seqs[n].st ≠ .run then s1 else restart s1 n)

/-- HALT: a COMMIT, then HALTED with FCODE 0x0 (R391). -/
def execHalt (n : Sq) (w : BitVec 26) (s : State) : Host.Outcome State Fault Refusal :=
  .next (issue s n 0x03 w (decide (w ≠ 0)) fun s =>
    let s1 := advanceTo (release s n) n id
    if s1.seqs[n].st ≠ .run then s1
    else
      let s2 := restart s1 n
      if s2.seqs[n].st ≠ .run then s2 else updSeq s2 n fun q => { q with st := .halted, fcode := 0 })

/-- FAULT: an abort with FCODE 0x9, IMM[7:0] recorded (R391). -/
def execFault (n : Sq) (w : BitVec 26) (s : State) : Host.Outcome State Fault Refusal :=
  .next (issue s n 0x04 w false fun s => seqFault (updSeq s n fun q => { q with faultImm := mw w 0 8 }) n 9)

/-- GETORD: the oldest order into G(D) to G(D+3); an empty queue sets Z (R391). -/
def execGetord (n : Sq) (w : BitVec 26) (s : State) : Host.Outcome State Fault Refusal :=
  .next (issue s n 0x05 w (decide ((mwD w).val % 4 ≠ 0) || decide (mw w 0 22 ≠ 0)) fun s =>
    consumeOp s n fun s => updSeq s n fun q =>
      match q.queue with
      | [] => { q with r := { q.r with z := true } }
      | o :: os =>
        let d := mwD w
        let b := orderBits o
        let r1 := setG (setG q.r d (b.extractLsb' 0 32)) (regNext d) (b.extractLsb' 32 32)
        let r2 := setG (setG r1 (regNext (regNext d)) (b.extractLsb' 64 32)) (regNext (regNext (regNext d))) (b.extractLsb' 96 32)
        { q with queue := os, active := q.active ++ [o], r := { r2 with z := false } })

/-- DISPATCH: PC from the entry table; bits 31:16 of the word must be 0 (R391, R403). -/
def execDispatch (n : Sq) (w : BitVec 26) (s : State) : Host.Outcome State Fault Refusal :=
  .next (issue s n 0x06 w (decide (mw w 0 22 ≠ 0)) fun s =>
    let q := s.seqs[n]
    let x := bankWord (seqBank s q) ((gOf q.r (mwD w)).toNat % 2048)
    if x.toNat / 65536 ≠ 0 then seqFault s n 4 else jumpTo s n (x.setWidth 16) id)

/-- POST: a completion held (R388, R391). -/
def execPost (n : Sq) (w : BitVec 26) (s : State) : Host.Outcome State Fault Refusal :=
  .next (issue s n 0x07 w (badR w) fun s =>
    let r := s.seqs[n].r
    hold s n (.post ((gOf r (mwD w)).setWidth 16) ((gOf r (mwA w)).setWidth 8) (gOf r (mwB w))))

/-- EVT: an event held (R391). -/
def execEvt (n : Sq) (w : BitVec 26) (s : State) : Host.Outcome State Fault Refusal :=
  .next (issue s n 0x08 w (badR w || decide ((mwA w).val = 15)) fun s =>
    let r := s.seqs[n].r
    hold s n (.evt ((gOf r (mwD w)).setWidth 16) (gOf r (mwA w)) (gOf r (regNext (mwA w))) (gOf r (mwB w))))

/-- IRET: PC from ILR, out of the handler (R391). -/
def execIret (n : Sq) (w : BitVec 26) (s : State) : Host.Outcome State Fault Refusal :=
  .next (issue s n 0x09 w (decide (w ≠ 0)) fun s =>
    updSeq s n fun q => { q with inHandler := false, r := { q.r with pc := q.ilr } })

/-! ### Arithmetic and logic (R391) -/

/-- Z and N of a result. -/
def setZN (r : SeqRegs) (v : BitVec 32) : SeqRegs := { r with z := decide (v = 0), n := v.msb }
/-- An addition with its flags. -/
def addF (r : SeqRegs) (a b : BitVec 32) : BitVec 32 × SeqRegs :=
  let v := a + b
  (v, { setZN r v with c := decide (2 ^ 32 ≤ a.toNat + b.toNat), v := (a.msb == b.msb) && (v.msb != a.msb) })
/-- A subtraction with its flags: C = 1 means no borrow. -/
def subF (r : SeqRegs) (a b : BitVec 32) : BitVec 32 × SeqRegs :=
  let v := a - b
  (v, { setZN r v with c := decide (b.toNat ≤ a.toNat), v := (a.msb != b.msb) && (v.msb != a.msb) })
/-- A logical, minimum or maximum result: Z and N; C and V clear. -/
def logicF (r : SeqRegs) (v : BitVec 32) : BitVec 32 × SeqRegs := (v, { setZN r v with c := false, v := false })
/-- A product: Z and N. -/
def mulF (r : SeqRegs) (v : BitVec 32) : BitVec 32 × SeqRegs := (v, setZN r v)
/-- Shift left by 0 to 31; C is the last bit shifted out. -/
def shlF (r : SeqRegs) (a : BitVec 32) (k : Nat) : BitVec 32 × SeqRegs :=
  let v := a <<< k
  (v, { setZN r v with c := if k = 0 then r.c else a.getLsbD (32 - k) })
/-- Logical shift right. -/
def shrF (r : SeqRegs) (a : BitVec 32) (k : Nat) : BitVec 32 × SeqRegs :=
  let v := a >>> k
  (v, { setZN r v with c := if k = 0 then r.c else a.getLsbD (k - 1) })
/-- Arithmetic shift right. -/
def sarF (r : SeqRegs) (a : BitVec 32) (k : Nat) : BitVec 32 × SeqRegs :=
  let v := a.sshiftRight k
  (v, { setZN r v with c := if k = 0 then r.c else a.getLsbD (k - 1) })
/-- CRC-32C of a word, low byte first, into an accumulator, without final inversion. -/
def crcWord (acc b : BitVec 32) : BitVec 32 := (leBytes 4 b.toNat).foldl (crcByteR 0x82F63B78#32) acc

/-- A register micro-operation: D from A and B (R391). -/
def aluR (s : State) (n : Sq) (opc : Nat) (w : BitVec 26) (f : SeqRegs → BitVec 32 → BitVec 32 → BitVec 32 × SeqRegs) :
    Host.Outcome State Fault Refusal :=
  plainOp s n opc w (badR w) fun r =>
    let x := f r (gOf r (mwA w)) (gOf r (mwB w))
    setG x.2 (mwD w) x.1

/-- An immediate micro-operation: D from A and IMM (R391). -/
def aluI (s : State) (n : Sq) (opc : Nat) (w : BitVec 26) (f : SeqRegs → BitVec 32 → BitVec 32 × SeqRegs) : Host.Outcome State Fault Refusal :=
  plainOp s n opc w false fun r =>
    let x := f r (gOf r (mwA w))
    setG x.2 (mwD w) x.1

/-- ADD. -/
def execAdd (n : Sq) (w : BitVec 26) (s : State) : Host.Outcome State Fault Refusal := aluR s n 0x10 w addF
/-- SUB. -/
def execSub (n : Sq) (w : BitVec 26) (s : State) : Host.Outcome State Fault Refusal := aluR s n 0x11 w subF
/-- AND. -/
def execAnd (n : Sq) (w : BitVec 26) (s : State) : Host.Outcome State Fault Refusal := aluR s n 0x12 w fun r a b => logicF r (a &&& b)
/-- OR. -/
def execOr (n : Sq) (w : BitVec 26) (s : State) : Host.Outcome State Fault Refusal := aluR s n 0x13 w fun r a b => logicF r (a ||| b)
/-- XOR. -/
def execXor (n : Sq) (w : BitVec 26) (s : State) : Host.Outcome State Fault Refusal := aluR s n 0x14 w fun r a b => logicF r (a ^^^ b)
/-- SHL by B[4:0]. -/
def execShl (n : Sq) (w : BitVec 26) (s : State) : Host.Outcome State Fault Refusal := aluR s n 0x15 w fun r a b => shlF r a (b.toNat % 32)
/-- SHR by B[4:0]. -/
def execShr (n : Sq) (w : BitVec 26) (s : State) : Host.Outcome State Fault Refusal := aluR s n 0x16 w fun r a b => shrF r a (b.toNat % 32)
/-- SAR by B[4:0]. -/
def execSar (n : Sq) (w : BitVec 26) (s : State) : Host.Outcome State Fault Refusal := aluR s n 0x17 w fun r a b => sarF r a (b.toNat % 32)
/-- MUL: the low 32 bits. -/
def execMul (n : Sq) (w : BitVec 26) (s : State) : Host.Outcome State Fault Refusal := aluR s n 0x18 w fun r a b => mulF r (a * b)
/-- MULHU: the high 32 bits, unsigned. -/
def execMulhu (n : Sq) (w : BitVec 26) (s : State) : Host.Outcome State Fault Refusal :=
  aluR s n 0x19 w fun r a b => mulF r (BitVec.ofNat 32 (a.toNat * b.toNat / 2 ^ 32))
/-- MIN, signed. -/
def execMin (n : Sq) (w : BitVec 26) (s : State) : Host.Outcome State Fault Refusal := aluR s n 0x1A w fun r a b => logicF r (if a.slt b then a else b)
/-- MAX, signed. -/
def execMax (n : Sq) (w : BitVec 26) (s : State) : Host.Outcome State Fault Refusal := aluR s n 0x1B w fun r a b => logicF r (if a.slt b then b else a)
/-- MINU, unsigned. -/
def execMinu (n : Sq) (w : BitVec 26) (s : State) : Host.Outcome State Fault Refusal := aluR s n 0x1C w fun r a b => logicF r (if a.ult b then a else b)
/-- MAXU, unsigned. -/
def execMaxu (n : Sq) (w : BitVec 26) (s : State) : Host.Outcome State Fault Refusal := aluR s n 0x1D w fun r a b => logicF r (if a.ult b then b else a)
/-- CMP: A - B for flags only, with D = 0. -/
def execCmp (n : Sq) (w : BitVec 26) (s : State) : Host.Outcome State Fault Refusal :=
  plainOp s n 0x1E w (badR w || decide ((mwD w).val ≠ 0)) fun r => (subF r (gOf r (mwA w)) (gOf r (mwB w))).2
/-- CRC: CRC-32C of G(B) into accumulator G(A), to D; no flag. -/
def execCrc (n : Sq) (w : BitVec 26) (s : State) : Host.Outcome State Fault Refusal := aluR s n 0x1F w fun r a b => (crcWord a b, r)
/-- ADDI: IMM sign-extended. -/
def execAddi (n : Sq) (w : BitVec 26) (s : State) : Host.Outcome State Fault Refusal := aluI s n 0x20 w fun r a => addF r a (immS w)
/-- ANDI: IMM zero-extended. -/
def execAndi (n : Sq) (w : BitVec 26) (s : State) : Host.Outcome State Fault Refusal := aluI s n 0x21 w fun r a => logicF r (a &&& immZ w)
/-- ORI. -/
def execOri (n : Sq) (w : BitVec 26) (s : State) : Host.Outcome State Fault Refusal := aluI s n 0x22 w fun r a => logicF r (a ||| immZ w)
/-- XORI. -/
def execXori (n : Sq) (w : BitVec 26) (s : State) : Host.Outcome State Fault Refusal := aluI s n 0x23 w fun r a => logicF r (a ^^^ immZ w)
/-- SHLI. -/
def execShli (n : Sq) (w : BitVec 26) (s : State) : Host.Outcome State Fault Refusal := aluI s n 0x24 w fun r a => shlF r a (mw w 0 5)
/-- SHRI. -/
def execShri (n : Sq) (w : BitVec 26) (s : State) : Host.Outcome State Fault Refusal := aluI s n 0x25 w fun r a => shrF r a (mw w 0 5)
/-- SARI. -/
def execSari (n : Sq) (w : BitVec 26) (s : State) : Host.Outcome State Fault Refusal := aluI s n 0x26 w fun r a => sarF r a (mw w 0 5)
/-- MOVI: IMM sign-extended; no flag. -/
def execMovi (n : Sq) (w : BitVec 26) (s : State) : Host.Outcome State Fault Refusal := plainOp s n 0x27 w false fun r => setG r (mwD w) (immS w)
/-- LUI: D[31:14] from IMM, D[13:0] kept; no flag. -/
def execLui (n : Sq) (w : BitVec 26) (s : State) : Host.Outcome State Fault Refusal :=
  plainOp s n 0x28 w false fun r =>
    setG r (mwD w) (BitVec.ofNat 32 (mw w 0 18 * 2 ^ 14 + (gOf r (mwD w)).toNat % 2 ^ 14))
/-- CMPI: A - IMM for flags only, with D = 0. -/
def execCmpi (n : Sq) (w : BitVec 26) (s : State) : Host.Outcome State Fault Refusal :=
  plainOp s n 0x29 w (decide ((mwD w).val ≠ 0)) fun r => (subF r (gOf r (mwA w)) (immS w)).2

/-! ### Memory (R391, R395) -/

/-- The held writes of the step over what lies below, newest byte last (R395). -/
def forwardOver (net : Bool) (held : List Held) (a : Nat) (bytes : List Byte) : List Byte :=
  held.foldl (fun bs h =>
    match h, net with
    | .st b xs, false => (bs.zipIdx).map fun x => if b ≤ a + x.2 ∧ a + x.2 < b + xs.length then byteAt xs (a + x.2 - b) else x.1
    | .stn b xs, true => (bs.zipIdx).map fun x => if b ≤ a + x.2 ∧ a + x.2 < b + xs.length then byteAt xs (a + x.2 - b) else x.1
    | _, _ => bs) bytes

/-- Bytes loaded into D, and D+1 for a doubleword. -/
def loadInto (r : SeqRegs) (w : BitVec 26) (bytes : List Byte) : SeqRegs :=
  let r1 := setG r (mwD w) (BitVec.ofNat 32 (leNat (bytes.take 4)))
  if mw w 16 2 = 3 then setG r1 (regNext (mwD w)) (BitVec.ofNat 32 (leNat (bytes.drop 4))) else r1
/-- Bytes stored from D, and D+1 for a doubleword. -/
def storeFrom (r : SeqRegs) (w : BitVec 26) : List Byte :=
  leBytes (sizeOf4 w) ((gOf r (mwD w)).toNat + (if mw w 16 2 = 3 then (gOf r (regNext (mwD w))).toNat * 2 ^ 32 else 0))

/-- A scratch address; `none` beyond 4 KiB or not aligned to its size (R391). -/
def scratchAddr (r : SeqRegs) (w : BitVec 26) : Option Nat :=
  let a := (gOf r (mwA w)).toNat + ofsS w
  if a < 0 ∨ 4096 < a + sizeOf4 w ∨ a.toNat % sizeOf4 w ≠ 0 then none else some a.toNat

/-- A network address; `none` at or above 2^40 (R389). -/
def netAddr (r : SeqRegs) (w : BitVec 26) : Option Nat :=
  let a := (pairAt r (mwA w) : Int) + ofsS w
  if a < 0 ∨ (netTop : Int) < a + sizeOf4 w then none else some a.toNat

/-- LD: from scratch (R391, R395). -/
def execLd (n : Sq) (w : BitVec 26) (s : State) : Host.Outcome State Fault Refusal :=
  .next (issue s n 0x2C w (oddD w) fun s =>
    let q := s.seqs[n]
    match scratchAddr q.r w with
    | none => seqFault s n 8
    | some a => advanceTo s n fun r => loadInto r w (forwardOver false q.held a (smReadBytes q.scratch a (sizeOf4 w))))

/-- ST: to scratch, held (R391, R395). -/
def execSt (n : Sq) (w : BitVec 26) (s : State) : Host.Outcome State Fault Refusal :=
  .next (issue s n 0x2D w (oddD w) fun s =>
    let q := s.seqs[n]
    match scratchAddr q.r w with
    | none => seqFault s n 8
    | some a => hold s n (.st a (storeFrom q.r w)))

/-- The DRAM port of a sequencer; in ×4 mode every host data mover serves port A (R385). -/
def dramPortOf (s : State) (n : Sq) : Fin 16 :=
  if n.val < 16 then (if n.val % 4 < 2 then ⟨n.val / 4 % 16, Nat.mod_lt _ (by decide)⟩ else 13)
  else if n.val < 20 then 13
  else if n.val < 22 then 4
  else if n.val < 24 then (if s.quay.x4 then 4 else 5)
  else if n.val < 26 then 14
  else if n.val < 28 then 15
  else 13

/-- A network access reaches the DRAM channel that its address names, which leaves self-refresh for it (R380, R385). -/
def netReach (s : State) (a : Nat) : State := if (regionOf s (a / 64)).isSome then request s (chanOf (a / 64)) else s

/-- LDN: from the network; P where the line's poison state is not CLEAN (R367, R391, R395). -/
def execLdn (n : Sq) (w : BitVec 26) (s : State) : Host.Outcome State Fault Refusal :=
  .next (issue s n 0x2E w (oddD w || oddA w) fun s =>
    let q := s.seqs[n]
    match netAddr q.r w with
    | none => seqFault s n 0xA
    | some a =>
      let bytes := forwardOver true q.held a (netRead s a (sizeOf4 w))
      let p := netPoison s a || netPoison s (a + sizeOf4 w - 1)
      let s1 := if (regionOf s (a / 64)).isSome then netReach s a else { s with freeCtr := s.freeCtr + 1 }
      advanceTo s1 n fun r => loadInto { r with p := p } w bytes)

/-- STN: to the network, held (R391, R395). -/
def execStn (n : Sq) (w : BitVec 26) (s : State) : Host.Outcome State Fault Refusal :=
  .next (issue s n 0x2F w (oddD w || oddA w) fun s =>
    let q := s.seqs[n]
    match netAddr q.r w with
    | none => seqFault s n 0xA
    | some a => hold s n (.stn a (storeFrom q.r w)))

/-- ATOM: D from the network word, to which G(B) is then added (R391). -/
def execAtom (n : Sq) (w : BitVec 26) (s : State) : Host.Outcome State Fault Refusal :=
  .next (issue s n 0x30 w (badR w || oddA w) fun s =>
    let a := pairAt s.seqs[n].r (mwA w)
    if netTop < a + 4 then seqFault s n 0xA
    else consumeOp s n fun s =>
      let q := s.seqs[n]
      let old := BitVec.ofNat 32 (leNat (netRead s a 4))
      let s1 := netReach { s with freeCtr := s.freeCtr + 1 } a
      updSeq (netWrite s1 a (leBytes 4 (old + gOf q.r (mwB w)).toNat)) n fun q => { q with r := setG q.r (mwD w) old })

/-- Moves outstanding or held in the step. -/
def movesOf (q : Sequencer) : Nat := q.moves.length + (q.held.filter fun h => match h with | .move _ _ _ => true | _ => false).length

/-- MOVE: a copy of G(B) bytes, a multiple of 64 up to 1 MiB, held; a fifth waits for one outstanding to end
(R391). -/
def execMove (n : Sq) (w : BitVec 26) (s : State) : Host.Outcome State Fault Refusal :=
  .next (if 4 ≤ movesOf s.seqs[n] then s
    else issue s n 0x31 w (badR w || oddA w || decide ((mwD w).val % 2 = 1)) fun s =>
      let r := s.seqs[n].r
      let len := (gOf r (mwB w)).toNat
      let src := pairAt r (mwA w)
      let dst := pairAt r (mwD w)
      if len % 64 ≠ 0 ∨ 2 ^ 20 < len then seqFault s n 8
      else if netTop < src + len ∨ netTop < dst + len then seqFault s n 0xA
      else hold s n (.move src dst len))

/-! ### Ports (R389, R391) -/

/-- The port of a word. -/
def portOf12 (w : BitVec 26) : Nat := mw w 10 12
/-- What reading a port gives: IMASK; what another local port or a block's register holds is a free value. -/
def portRead (s : State) (q : Sequencer) (port : Nat) : BitVec 32 :=
  if port = 2 then q.imask.setWidth 32 else Config.freeWord 32 s.freeCtr

/-- IN: D from a port without side effects (R391). -/
def execInPort (n : Sq) (w : BitVec 26) (s : State) : Host.Outcome State Fault Refusal :=
  .next (issue s n 0x32 w (decide (mw w 0 10 ≠ 0)) fun s =>
    let v := portRead s s.seqs[n] (portOf12 w)
    advanceTo { s with freeCtr := s.freeCtr + 1 } n fun r => setG r (mwD w) v)

/-- INC: D from a port, for RC fields and FIFO pops (R391). -/
def execInc (n : Sq) (w : BitVec 26) (s : State) : Host.Outcome State Fault Refusal :=
  .next (issue s n 0x33 w (decide (mw w 0 10 ≠ 0)) fun s =>
    consumeOp s n fun s =>
      let v := portRead s s.seqs[n] (portOf12 w)
      updSeq { s with freeCtr := s.freeCtr + 1 } n fun q => { q with r := setG q.r (mwD w) v })

/-- OUT: a port write, held (R391). -/
def execOutPort (n : Sq) (w : BitVec 26) (s : State) : Host.Outcome State Fault Refusal :=
  .next (issue s n 0x34 w (decide (mw w 0 10 ≠ 0)) fun s => hold s n (.out (portOf12 w) (gOf s.seqs[n].r (mwD w))))

/-! ### Branches (R392, R394) -/

/-- A condition code (R392). -/
def condHolds (q : Sequencer) (c : Nat) : Bool :=
  let r := q.r
  match c with
  | 0x0 => true
  | 0x1 => r.z
  | 0x2 => !r.z
  | 0x3 => r.n != r.v
  | 0x4 => r.n == r.v
  | 0x5 => r.z || (r.n != r.v)
  | 0x6 => !r.z && (r.n == r.v)
  | 0x7 => !r.c
  | 0x8 => r.c
  | 0x9 => !r.c || r.z
  | 0xA => r.c && !r.z
  | 0xB => r.n
  | 0xC => !r.n
  | 0xD => r.v
  | 0xE => r.p
  | _ => decide (q.queue ≠ [])

/-- TARGET of format B. -/
def mwTarget (w : BitVec 26) : BitVec 16 := BitVec.ofNat 16 (mw w 0 16)
/-- Bits 17:16 of format B are reserved. -/
def badB (w : BitVec 26) : Bool := decide (mw w 16 2 ≠ 0)

/-- BR. -/
def execBr (n : Sq) (w : BitVec 26) (s : State) : Host.Outcome State Fault Refusal :=
  .next (issue s n 0x38 w (badB w) fun s =>
    if condHolds s.seqs[n] (mw w 22 4) then jumpTo s n (mwTarget w) id else advanceTo s n id)

/-- CALL: the return address on the stack; a full stack faults with 0x5 (R394). -/
def execCall (n : Sq) (w : BitVec 26) (s : State) : Host.Outcome State Fault Refusal :=
  .next (issue s n 0x39 w (badB w) fun s =>
    if condHolds s.seqs[n] (mw w 22 4) then
      if 8 ≤ s.seqs[n].r.stack.length then seqFault s n 5
      else jumpTo s n (mwTarget w) fun r => { r with stack := (r.pc + 1) :: r.stack }
    else advanceTo s n id)

/-- RET: an empty stack faults with 0x6 (R394). -/
def execRet (n : Sq) (w : BitVec 26) (s : State) : Host.Outcome State Fault Refusal :=
  .next (issue s n 0x3A w (badB w) fun s =>
    if condHolds s.seqs[n] (mw w 22 4) then
      match s.seqs[n].r.stack with
      | [] => seqFault s n 6
      | a :: as => jumpTo s n a fun r => { r with stack := as }
    else advanceTo s n id)

/-- BRI: PC from G(A)[15:0]. -/
def execBri (n : Sq) (w : BitVec 26) (s : State) : Host.Outcome State Fault Refusal :=
  .next (issue s n 0x3B w (badB w) fun s =>
    if condHolds s.seqs[n] (mw w 22 4) then jumpTo s n ((gOf s.seqs[n].r (mwA w)).setWidth 16) id else advanceTo s n id)

/-- LOOP: G(A) counts down; COND must be 0x0. -/
def execLoop (n : Sq) (w : BitVec 26) (s : State) : Host.Outcome State Fault Refusal :=
  .next (issue s n 0x3C w (badB w || decide (mw w 22 4 ≠ 0)) fun s =>
    let v := gOf s.seqs[n].r (mwA w) - 1
    if v ≠ 0 then jumpTo s n (mwTarget w) fun r => setG r (mwA w) v else advanceTo s n fun r => setG r (mwA w) v)

/-! ### The control store (R403 to R408) -/

/-- A bank changed by `f`. -/
def updBank (s : State) (b : Bool) (f : Bank → Bank) : State :=
  updSeqDev s fun d => { d with banks := vupd d.banks (if b then 1 else 0) f }
/-- A bank. -/
def bankAt (s : State) (b : Bool) : Bank := if b then s.seqDev.banks[(1 : Fin 2)] else s.seqDev.banks[(0 : Fin 2)]

/-- A microcode image read from its bytes: a 64-byte header and its words (R406). -/
def parseUc (bs : List Byte) : Option UcImage :=
  let words := leNat ((bs.drop 12).take 4)
  if leNat (bs.take 4) ≠ 0x53514D49 ∨ leNat ((bs.drop 4).take 2) ≠ 1 ∨ words < 0x811 ∨ 65536 < words ∨
      !allZero ((bs.drop 20).take 44) ∨ bs.length < 64 + 4 * words then none
  else some
    { orderAbi := leNat ((bs.drop 6).take 2), version := leNat ((bs.drop 8).take 4),
      roles := BitVec.ofNat 32 (leNat ((bs.drop 16).take 4)),
      words := (List.range words).map fun i => BitVec.ofNat 32 (leNat ((bs.drop (64 + 4 * i)).take 4)),
      digest := shake32 (bs.take (64 + 4 * words)) }

/-- The fetch caches over a bank are invalidated by a write to it (R404). -/
def dropLines (s : State) (b : Bool) : State :=
  { s with seqs := s.seqs.map fun q => if q.bankB = b then { q with lines := [] } else q }

/-- A bank cleared: WRITABLE and invalid (R406). -/
def clearBank (s : State) (b : Bool) : State := updBank (dropLines s b) b fun _ => {}

/-- An image in a bank: VALID, and LOCKED if signed (R406). -/
def fillBank (s : State) (b : Bool) (u : UcImage) (signed : Bool) : State :=
  updBank (dropLines s b) b fun _ =>
    { words := (u.words.zipIdx.filter fun x => decide (x.1 ≠ 0)).map fun x => (x.2, x.1), valid := true, locked := signed, roles := u.roles,
      orderAbi := u.orderAbi, version := u.version, nwords := u.words.length, digest := u.digest }

/-- A bank clear of users. -/
def bankFree (s : State) (b : Bool) : Bool := decide (bankUsers s b = 0)

/-- The security version under which a microcode image is signed: the lowest from UC_SVN on for which it
is accepted; else the reason it is not (R479). -/
def ucReason (s : State) (u : UcImage) (sigs : List Byte) (unsigned : Bool) : Option Nat :=
  let vs := (List.range 33).filter fun v => decide (s.nv.otp.ucSvn ≤ v)
  if vs.any fun v => (imageReason s 1 v u.digest sigs unsigned).isNone then none
  else imageReason s 1 s.nv.otp.ucSvn u.digest sigs unsigned

/-- The end of a SEQ_LOAD: VALID, and LOCKED if signed; on a failure the bank is left cleared (R406). -/
def loadFinish (s : State) (j : LoadJob) : State :=
  let s1 := updSeqDev (clearBank s j.bankB) fun d => { d with job := none, loading := 0 }
  let failed := fun s : State => postDone (updSeqDev s fun d => { d with loadReject := true }) j.mb j.seq 0x0012 0 0
  match j.image with
  | none => failed s1
  | some u =>
    match ucReason s u j.sigs j.unsigned with
    | some r => failed (imageRejected s1 1 s.nv.otp.ucSvn r)
    | none =>
      let signed := !j.unsigned && decide (j.sigs ≠ [])
      let s2 := if signed then s1 else updSec s1 fun x => { x with unsignedLoaded := true }
      postDone (fillBank s2 j.bankB u signed) j.mb j.seq 0 0 0

/-- The body of SEQ_LOAD: refused while the bank has users, a load runs or a slipway is under way (R406, R534). -/
def seqLoad (r : Req) (bank unsigned imgOfs imgLen sigOfs sigLen : Nat) (s : State) : Ans :=
  if 1 < bank ∨ 1 < unsigned ∨ stageSize < imgOfs + imgLen ∨ stageSize < sigOfs + sigLen then rangeA s
  else if s.fw.slip ≠ .idle ∨ s.seqDev.job.isSome ∨ !bankFree s (decide (bank = 1)) then conflictA s
  else
    let j : LoadJob := { mb := r.mb, seq := r.seq, bankB := decide (bank = 1), unsigned := decide (unsigned = 1),
                         image := parseUc (staged s r.mb imgOfs imgLen), sigs := staged s r.mb sigOfs sigLen }
    { st := updSeqDev (clearBank s j.bankB) fun d => { d with job := some j, loading := bank + 1 }, status := 1 }

def execSeqLoad (r : Req) (bank unsigned imgOfs imgLen sigOfs sigLen : Nat) (s : State) : Host.Outcome State Fault Refusal :=
  .next (serve s r { opc := 0x0A01, need := if unsigned = 1 then .fa else .cf, long := true }
    (.seqLoad r bank unsigned imgOfs imgLen sigOfs sigLen) (seqLoad r bank unsigned imgOfs imgLen sigOfs sigLen))

/-- A sequencer may move to its other bank (R405, R407). -/
def maySwap (s : State) (n : Sq) : Bool :=
  let q := s.seqs[n]
  let t := bankAt s (!q.bankB)
  decide (q.st ≠ .off) && t.valid && t.roles.getLsbD n.val && decide (t.orderAbi = (bankAt s q.bankB).orderAbi) &&
    (t.locked || decide (s.sec.life ≠ .field))

/-- SWAP pends on the sequencers of a mask (R398, R407). -/
def requestSwap (s : State) (ns : List Sq) (mb : Option (Mb × Nat)) : State :=
  let mask := ns.foldl (fun a n => a ||| (1#32 <<< n.val)) 0#32
  forEach ns (updSeqDev s fun d => { d with swap := some { mask := mask, mb := mb } }) fun s n => setLine s n 1

/-- The body of SEQ_SWAP: a sequencer that may not swap is left out; with none left it is refused (R407). -/
def seqSwap (r : Req) (mask : BitVec 32) (s : State) : Ans :=
  let ns := allSeqs.filter fun n => mask.getLsbD n.val && maySwap s n
  if s.fw.slip ≠ .idle ∨ s.seqDev.swap.isSome ∨ s.seqDev.swapRefused ∨ ns = [] then conflictA s
  else { st := requestSwap s ns (some (r.mb, r.seq)), status := 1 }

def execSeqSwap (r : Req) (mask : BitVec 32) (s : State) : Host.Outcome State Fault Refusal :=
  .next (serve s r { opc := 0x0A02, long := true } (.seqSwap r mask) (seqSwap r mask))

/-- The end of a SEQ_SWAP: SUCCESS once every sequencer has swapped; NOT_TAKEN where it was cancelled (R407). -/
def swapFinish (s : State) (mb : Mb) (seq : Nat) : State :=
  match s.seqDev.swap with
  | some x =>
    if x.mb = some (mb, seq) then
      (if x.mask = 0 then postDone (updSeqDev s fun d => { d with swap := none }) mb seq 0 0 x.done.toNat else s)
    else s
  | none => postDone s mb seq 0x0014 0 0

/-- What follows a digest of bank `b` that does not match: the incident, and the same image goes into the other bank
with a swap of every user, or the device takes rung 3 (R408). -/
def auditFailed (s : State) (b : Fin 2) : State :=
  let isB := decide (b = 1)
  let s1 := updSeqDev s fun d => { d with auditFail := true, auditOpen := b.val :: d.auditOpen }
  let img := (s.nv.slots.toList[s.boot.slot - 1]?).bind (·.pkg) |>.bind (·.uc)
  if !bankFree s (!isB) ∨ img.isNone then startBreakwater (report s1 (0x06, b.val) .auditFail 3 0x0E 0 b.val 0 0 3) 9
  else
    let s2 := report s1 (0x06, b.val) .auditFail 3 0x0E 0 b.val
    let s3 := match img with | some u => fillBank s2 (!isB) u true | none => s2
    requestSwap s3 (allSeqs.filter fun n => decide (s3.seqs[n].bankB = isB) && maySwap s3 n) none

/-- STORE_AUDIT: in FIELD, once every STORE_AUDIT, the digest of a LOCKED bank with users is recomputed and compared
with the one verified at load (R408, R411). -/
def execStoreAudit (b : Fin 2) (digest : List Byte) (s : State) : Host.Outcome State Fault Refusal :=
  let bk := s.seqDev.banks[b]
  .next (if live s && !s.bw.started && decide (s.sec.life = .field) && bk.locked && !bankFree s (decide (b = 1)) &&
      passedNs s s.seqDev.auditUs[b] (s.seqDev.storeAudit * 1000000) then
      let s1 := updSeqDev s fun d => { d with auditUs := vupd d.auditUs b fun _ => s.us }
      if digest ≠ bk.digest ∧ !s.seqDev.auditOpen.contains b.val then auditFailed s1 b else s1
    else s)

/-! ### Re-initialisation (R402) -/

/-- ENGINE_REINIT of a sequencer. -/
def reinitSeq (s : State) (n : Sq) : State :=
  if s.seqs[n].st = .off then s
  else
    let orders := s.seqs[n].active ++ s.seqs[n].queue
    let s1 := updSeq s n fun q => { q with held := [], active := orders, queue := [] }
    let s2 := forEach orders s1 fun s o => complete s n o.token 0x02 0
    let s3 := updSeq s2 n fun q =>
      { q with r := {}, snap := {}, pend := 0, imask := 1, moves := [], active := [], inHandler := false, netErr := false,
               lines := [], fcode := 0xB, fault := true, ops := 0, timer := none, st := .run }
    enterAt s3 n (bankWord (seqBank s3 s3.seqs[n]) 0x0810)

/-! ### Messages (R409 to R411) -/

/-- STATE as a number. -/
def seqStNum : SeqSt → Nat
  | .off => 0 | .run => 1 | .sleep => 2 | .halted => 3 | .swapping => 4

/-- SEQ_STATUS[n] (R409). -/
def seqStatus (q : Sequencer) : Nat :=
  packF [(29, 3, seqStNum q.st), (28, 1, b2n q.bankB), (27, 1, b2n q.inHandler), (26, 1, b2n (q.pend.getLsbD 1)), (23, 1, b2n q.wdog),
    (22, 1, b2n q.mchk), (21, 1, b2n q.fault), (20, 1, b2n q.ordFull), (16, 4, q.fcode), (10, 6, q.queue.length), (0, 10, q.maxStep)]

/-- SEQ_STORE_STATUS (R410). -/
def storeStatus (s : State) : Nat :=
  let a := bankAt s false
  let b := bankAt s true
  packF [(31, 1, b2n a.valid), (30, 1, b2n a.locked), (29, 1, b2n b.valid), (28, 1, b2n b.locked), (26, 2, s.seqDev.loading),
    (25, 1, b2n s.seqDev.auditFail), (24, 1, b2n s.seqDev.loadReject), (23, 1, b2n s.seqDev.parityErr),
    (8, 8, bankUsers s false), (0, 8, bankUsers s true)]

/-- The body of SEQ_GET_STATUS. -/
def seqGet (seq : Nat) (clear : BitVec 64) (s : State) : Ans :=
  match selSq seq with
  | none => rangeA s
  | some n =>
    let k := clear
    let s1 := updSeq s n fun q =>
      { q with wdog := w1c k 23 q.wdog, mchk := w1c k 22 q.mchk, fault := w1c k 21 q.fault, ordFull := w1c k 20 q.ordFull, maxStep := 0 }
    getA (updSeqDev s1 fun d =>
      { d with auditFail := w1c k 57 d.auditFail, loadReject := w1c k 56 d.loadReject, parityErr := w1c k 55 d.parityErr })
      [(4, seqStatus s.seqs[n]), (4, storeStatus s)]

def execSeqGetStatus (r : Req) (seq : Nat) (clear : BitVec 64) (s : State) : Host.Outcome State Fault Refusal :=
  .next (serve s r { opc := 0x090C, need := .rd } (.seqGetStatus r seq clear) (seqGet seq clear))

/-- The body of SEQ_RESUME: a HALTED sequencer restarts at its restart point (R401). -/
def seqResume (seq : Nat) (s : State) : Ans :=
  match selSq seq with
  | none => rangeA s
  | some n =>
    if s.seqs[n].st = .halted then okA (updSeq s n fun q => { q with st := .run, ops := 0, yieldUs := s.us })
    else conflictA s

def execSeqResume (r : Req) (seq : Nat) (s : State) : Host.Outcome State Fault Refusal :=
  .next (serve s r { opc := 0x090D } (.seqResume r seq) (seqResume seq))

/-- SEQ_SET_LIMITS's list (R411). -/
def seqPars : List (Par SeqDev) :=
  [parN 2 100 (fun v d => { d with wdTimeSet := v }) true, parN 100 60000 fun v d => { d with storeAudit := v }]

/-- The body of SEQ_SET_LIMITS: WD_TIME outside FIELD only (R411). -/
def seqLimits (ps : Params) (s : State) : Ans :=
  if s.sec.life = .field && asksFa seqPars ps then failA s 0x0006
  else setA s seqPars (fun _ => []) ps s.seqDev fun d => { s with seqDev := d }

def execSeqSetLimits (r : Req) (ps : Params) (s : State) : Host.Outcome State Fault Refusal :=
  .next (serve s r { opc := 0x090E, need := needOf seqPars ps, setter := true } (.seqSetLimits r ps) (seqLimits ps))

end Sys2Proof.Machine
end

