-- ==== Sys2Proof/Machine/Firmware.lean ====
section
/-! DEFINITION. Firmware: packages, slots, commits, Firmware Commit and the slipway (R524 to R526,
R532 to R534). -/

namespace Sys2Proof.Machine

/-! ### Packages (R525) -/

/-- Bytes of the first signature block of a list of them. -/
def blockLen (bs : List Byte) : Nat :=
  let step := fun (at_ : Nat) (_ : Nat) => at_ + 76 + leNat ((bs.drop (at_ + 72)).take 4)
  (List.range (leNat ((bs.drop 6).take 1))).foldl step 16

/-- A number of the package header. -/
def pkgNum (bs : List Byte) (ofs n : Nat) : Nat := leNat ((bs.drop ofs).take n)

/-- A package read from its bytes; `sigs` replaces its own signature blocks where it is not empty (R526). -/
def parsePkg (bs sigs : List Byte) : Package :=
  let fen := (bs.drop (pkgNum bs 16 4)).take (pkgNum bs 20 4)
  let uc := (bs.drop (pkgNum bs 24 4)).take (pkgNum bs 28 4)
  let own := (bs.drop (pkgNum bs 32 4)).take (pkgNum bs 36 4)
  { magic := pkgNum bs 0 4, format := pkgNum bs 4 2, orderAbi := pkgNum bs 6 2, version := pkgNum bs 8 4,
    fwSvn := pkgNum bs 12 1, ucSvn := pkgNum bs 13 1, fenDigest := shake32 (fen.take 16384), uc := parseUc uc,
    sigs := if sigs = [] then own else sigs }

/-- Bytes of a whole package, as its header gives them. -/
def pkgLen (hdr : List Byte) : Nat :=
  max 64 (max (pkgNum hdr 16 4 + pkgNum hdr 20 4) (max (pkgNum hdr 24 4 + pkgNum hdr 28 4) (pkgNum hdr 32 4 + pkgNum hdr 36 4)))

/-- Why a package is not valid: class and reason of IMAGE_REJECT; `none` where it is (R479, R518). -/
def pkgReason (s : State) (p : Package) : Option (Nat × Nat) :=
  let n := blockLen p.sigs
  if p.magic ≠ 0x46504B47 ∨ p.format ≠ 1 then some (0, 0)
  else match imageReason s 0 p.fwSvn p.fenDigest (p.sigs.take n) false with
    | some r => some (0, r)
    | none =>
      match p.uc with
      | none => some (1, 0)
      | some u => (imageReason s 1 p.ucSvn u.digest (p.sigs.drop n) false).map fun r => (1, r)

/-- A package passes every check of R518. -/
def pkgValid (s : State) (p : Package) : Bool := (pkgReason s p).isNone

/-! ### Slots (R518, R526) -/

/-- A slot, numbered 1 or 2. -/
def slotAt (s : State) (k : Nat) : Option Slot := if k = 0 then none else s.nv.slots.toList[k - 1]?
/-- A slot changed by `f`. -/
def updSlot (s : State) (k : Nat) (f : Slot → Slot) : State :=
  updNv s fun v => { v with slots := v.slots.mapFinIdx fun i x _ => if i + 1 = k then f x else x }
/-- One slot is marked next, the other not. -/
def markNext (s : State) (k : Nat) : State :=
  updNv s fun v => { v with slots := v.slots.mapFinIdx fun i x _ => { x with next := decide (i + 1 = k) } }
/-- The package running. -/
def runningPkg (s : State) : Option Package := (slotAt s s.boot.slot).bind (·.pkg)
/-- A slot is written, verified and, where it is valid and NEXT asks for it, marked next (R526). -/
def writeSlot (s : State) (k : Nat) (next : Bool) (p : Package) : State × Bool :=
  let s1 := updSlot s k fun x => { x with pkg := some p, invalid := false }
  match pkgReason s p with
  | some (c, r) => (imageRejected s1 c (if c = 0 then p.fwSvn else p.ucSvn) r, false)
  | none => (if next then markNext s1 k else s1, true)

/-! ### FW_COMMIT (R526) -/

/-- The body of FW_COMMIT. SLOT 0xF0 takes the certificate chain. -/
def fwCommit (r : Req) (slot next imgOfs imgLen sigOfs sigLen : Nat) (s : State) : Ans :=
  let img := staged s r.mb imgOfs imgLen
  let start := fun j : FwJob => ({ st := updFw s fun w => { w with jobs := w.jobs ++ [j] }, status := 1 } : Ans)
  if stageSize < imgOfs + imgLen ∨ stageSize < sigOfs + sigLen ∨ 1 < next then rangeA s
  else if slot = 0xF0 then
    if s.sec.life ≠ .manufacture ∧ s.sec.life ≠ .ret then failA s 0x0006
    else if privOf s r.mb < 4 then failA s 0x0005
    else if sigOfs ≠ 0 ∨ sigLen ≠ 0 then rangeA s
    else start { mb := r.mb, seq := r.seq, slot := slot, chain := img }
  else if slot = 0 ∨ 2 < slot then rangeA s
  else if slot = s.boot.slot then conflictA s
  else start { mb := r.mb, seq := r.seq, slot := slot, next := decide (next = 1), pkg := parsePkg img (staged s r.mb sigOfs sigLen) }

def execFwCommit (r : Req) (slot next imgOfs imgLen sigOfs sigLen : Nat) (s : State) : Host.Outcome State Fault Refusal :=
  .next (serve s r { opc := 0x0A03, writesNor := true, long := true } (.fwCommit r slot next imgOfs imgLen sigOfs sigLen)
    (fwCommit r slot next imgOfs imgLen sigOfs sigLen))

/-- The end of an FW_COMMIT; one that falls due during NV-write inhibit stays in flight (R526). -/
def commitFinish (s : State) (mb : Mb) (seq : Nat) : State :=
  match s.fw.jobs.find? fun j => decide (j.mb = mb) && decide (j.seq = seq) with
  | none => s
  | some j =>
    if s.bw.inhibit then s
    else
      let s1 := updFw s fun w => { w with jobs := w.jobs.erase j }
      if j.slot = 0xF0 then postDone (updNv s1 fun v => { v with certChain := j.chain }) mb seq 0 0 0
      else if j.slot = s.boot.slot then postDone s1 mb seq 0x000B 0 0
      else
        let x := writeSlot s1 j.slot j.next j.pkg
        postDone x.1 mb seq (if x.2 then 0 else 0x0012) 0 0

/-! ### The slipway (R532 to R534) -/

/-- The bank that the sequencers run from. -/
def runBank (s : State) : Bool := s.seqs[(0 : Sq)].bankB

/-- The slipway ends with a status, on its mailbox or with its host command. -/
def slipEnd (s : State) (status aux : Nat) : State :=
  let s1 := updFw s fun w => { w with slip := .idle, slipTag := none }
  match s.fw.slipTag with
  | some t => if status = 0 then finishOk s1 t else finish s1 t (stC 0x07)
  | none => if h : s.fw.slipMb < 4 then postDone s1 ⟨s.fw.slipMb, h⟩ s.fw.slipSeq status aux 0 else s1

/-- Step S1: the slot is verified again, ORDER_ABI compared, the microcode loaded into the idle bank; then the
pause begins and every sequencer of the image is asked to swap (S2 to S4). -/
def slipPrepare (s : State) : State :=
  let idle := !runBank s
  match (slotAt s s.fw.slipSlot).bind (·.pkg) with
  | none => slipEnd s 0x0012 0
  | some p =>
    match pkgReason s p, p.uc with
    | none, some u =>
      if u.orderAbi ≠ (bankAt s (runBank s)).orderAbi then slipEnd s 0x000B 3
      else if !bankFree s idle then slipEnd s 0x000B 0
      else
        let s1 := fillBank s idle u (decide (p.sigs ≠ []))
        let s2 := updFw s1 fun w => { w with slip := .paused, pauseUs := s.us }
        requestSwap s2 (allSeqs.filter fun n => u.roles.getLsbD n.val && maySwap s2 n) none
    | some (c, r), _ => slipEnd (imageRejected s c (if c = 0 then p.fwSvn else p.ucSvn) r) 0x0012 0
    | _, _ => slipEnd s 0x0012 0

/-- Steps S5 and S6: every sequencer has swapped and the hand-off check has passed; the new firmware runs, and
the security versions are raised (R480, R532). -/
def slipResume (s : State) : State :=
  match s.seqDev.swap with
  | none => s
  | some x =>
    if x.mask ≠ 0 then s
    else match (slotAt s s.fw.slipSlot).bind (·.pkg) with
      | none => s
      | some p =>
        let s1 := updSeqDev { s with boot := { s.boot with slot := s.fw.slipSlot } } fun d => { d with swap := none }
        let s2 := updFw s1 fun w => { w with codeHalf := !w.codeHalf, activeVersion := p.version, activeDigest := p.fenDigest }
        raiseSvn (slipEnd (raise s2 (.numbered 0xF805) 0 0x12 0 p.version (s.us - s.fw.pauseUs)) 0 0)

/-- The slipway goes on. -/
def slipStep (s : State) : State :=
  match s.fw.slip with
  | .s1 => slipPrepare s
  | .paused => slipResume s
  | _ => s

/-- The body of FW_ACTIVATE: only for the slot marked next, and one at a time (R526, R534). -/
def fwActivate (r : Req) (slot : Nat) (s : State) : Ans :=
  match slotAt s slot with
  | none => rangeA s
  | some x =>
    if s.fw.slip ≠ .idle ∨ !x.next ∨ s.seqDev.swap.isSome ∨ s.seqDev.job.isSome then conflictA s
    else { st := updFw s fun w => { w with slip := .s1, slipSlot := slot, slipMb := r.mb.val, slipSeq := r.seq, slipTag := none }, status := 1 }

def execFwActivate (r : Req) (slot : Nat) (s : State) : Host.Outcome State Fault Refusal :=
  .next (serve s r { opc := 0x0A04, long := true } (.fwActivate r slot) (fwActivate r slot))

/-- SLIPWAY_BACKOUT: S4 missed its bound (AUX 1) or the hand-off check failed (AUX 2); the sequencers that
swapped swap back, the old firmware resumes, and the slot stays marked next (R533). -/
def execSlipwayBackout (aux : Nat) (s : State) : Host.Outcome State Fault Refusal :=
  .next (if live s && !s.bw.started && decide (s.fw.slip = .paused) && (decide (aux = 1) || decide (aux = 2)) then
      let done : BitVec 32 := (s.seqDev.swap.map (·.done)).getD 0
      let left : BitVec 32 := (s.seqDev.swap.map (·.mask)).getD 0
      let s1 := updSeqDev s fun d => { d with swap := none }
      let s2 := forEach (allSeqs.filter fun n => done.getLsbD n.val) s1 takeSwap
      let s3 := forEach (allSeqs.filter fun n => left.getLsbD n.val) s2 fun s n => updSeq s n fun q => { q with pend := q.pend &&& ~~~2#16 }
      slipEnd (raise s3 (.numbered 0xF806) 2 0x12 0 aux (s.us - s.fw.pauseUs)) 0x000B aux
    else s)

/-- The body of FW_GET_SLOTS (R445). -/
def fwSlots (s : State) : Ans :=
  dataA s (leBytes 4 2 ++ ([1, 2].flatMap fun k =>
    match slotAt s k with
    | some x =>
      let v : Bool := match x.pkg with | some p => pkgValid s p && !x.invalid | none => false
      leBytes 4 ((x.pkg.map (·.version)).getD 0) ++ leBytes 4 (b2n v + 2 * b2n (decide (s.boot.slot = k)) + 4 * b2n x.next)
    | none => []))

def execFwGetSlots (r : Req) (s : State) : Host.Outcome State Fault Refusal :=
  .next (serve s r { opc := 0x0A05, need := .rd } (.fwGetSlots r) fwSlots)

/-! ### Firmware Commit (R526) -/

/-- The package in the download buffer. -/
def downloaded (s : State) : Package :=
  let hdr := smReadBytes s.fw.download 0 64
  parsePkg (smReadBytes s.fw.download 0 (min downloadSize (pkgLen hdr))) []

/-- The slot a Firmware Commit names; 0 lets the device take the one that is not running. -/
def commitSlot (s : State) (fs : Nat) : Nat := if fs = 0 then (if s.boot.slot = 1 then 2 else 1) else fs

/-- Begin the slipway for a host command, which completes after it (R526). -/
def slipForTag (s : State) (r : TagRec) (k : Nat) : State :=
  if s.fw.slip ≠ .idle ∨ s.seqDev.swap.isSome ∨ s.seqDev.job.isSome then finish s r.tag (stG 0x0C)
  else
    updTag (updFw s fun w => { w with slip := .s1, slipSlot := k, slipTag := some r.tag }) r.tag fun x => { x with stage := 4, latch := true }

/-- The download buffer becomes a slot's package; `run` begins the slipway after it. -/
def storeImage (s : State) (r : TagRec) (fs : Nat) (next run : Bool) : State :=
  let k := commitSlot s fs
  if 2 < k ∨ k = s.boot.slot then finish s r.tag (stC 0x06)
  else
    let x := writeSlot s k next (downloaded s)
    if !x.2 then finish x.1 r.tag (stC 0x07) else if run then slipForTag x.1 r k else finishOk x.1 r.tag

/-- A slot is marked next. -/
def markAct (s : State) (r : TagRec) (fs : Nat) : State :=
  match slotAt s fs with
  | some x => if (match x.pkg with | some p => pkgValid s p | none => false) then finishOk (markNext s fs) r.tag else finish s r.tag (stC 0x07)
  | none => finish s r.tag (stC 0x06)

/-- Commit Action and slot of a Firmware Commit. -/
def caOf (c : HostCmd) : Nat := fld c.dw10 3 3
/-- The firmware slot of a Firmware Commit. -/
def fsOf (c : HostCmd) : Nat := fld c.dw10 0 3

/-- What a Firmware Commit does, by its action; an action R526 does not list is Invalid Field. -/
def fwCommitAct (s : State) (r : TagRec) : State :=
  match caOf r.cmd with
  | 0 => storeImage s r (fsOf r.cmd) false false
  | 1 => storeImage s r (fsOf r.cmd) true false
  | 2 => markAct s r (fsOf r.cmd)
  | 3 => storeImage s r (fsOf r.cmd) true true
  | _ => finish s r.tag (stG 0x02)

/-- FIRMWARE_COMMIT_CA000: the image is stored and not activated; the row also takes the actions that R526
does not list. -/
def execFirmwareCommitCa000 (t : Tag) (s : State) : Host.Outcome State Fault Refusal :=
  .next (adminRow s t (fun c => c.opc = 0x10 && (decide (caOf c = 0) || decide (4 ≤ caOf c))) fwCommitAct)
/-- FIRMWARE_COMMIT_CA001: stored, and activated at the next device reset. -/
def execFirmwareCommitCa001 (t : Tag) (s : State) : Host.Outcome State Fault Refusal :=
  .next (adminRow s t (fun c => c.opc = 0x10 && decide (caOf c = 1)) fwCommitAct)
/-- FIRMWARE_COMMIT_CA010: the slot is marked next. -/
def execFirmwareCommitCa010 (t : Tag) (s : State) : Host.Outcome State Fault Refusal :=
  .next (adminRow s t (fun c => c.opc = 0x10 && decide (caOf c = 2)) fwCommitAct)
/-- FIRMWARE_COMMIT_CA011: stored, then the slipway. -/
def execFirmwareCommitCa011 (t : Tag) (s : State) : Host.Outcome State Fault Refusal :=
  .next (adminRow s t (fun c => c.opc = 0x10 && decide (caOf c = 3)) fwCommitAct)

/-- WRITE BUFFER: its data enters the download buffer at its offset; once a whole package stands there, mode
0x0E marks it next and mode 0x07 runs the slipway; mode 0x0F activates the slot marked next (R526). -/
def writeBufferAct (s : State) (r : TagRec) : State :=
  let mode := r.cmd.dw13 % 32
  if mode = 0x0F then
    (match [1, 2].find? fun k => (slotAt s k).elim false (·.next) with
     | some k => slipForTag s r k
     | none => finish s r.tag (stG 0x02))
  else if mode ≠ 0x0E ∧ mode ≠ 0x07 then finish s r.tag (stG 0x02)
  else if downloadSize < r.cmd.dw10 + r.cmd.data.length then finish s r.tag (stG 0x02)
  else
    let s1 := putDownload s r.cmd.dw10 r.cmd.data
    let whole := decide (pkgLen (smReadBytes s1.fw.download 0 64) ≤ r.cmd.dw10 + r.cmd.data.length) && pkgValid s1 (downloaded s1)
    if whole then storeImage s1 r 0 true (decide (mode = 0x07)) else finishOk s1 r.tag

end Sys2Proof.Machine
end

