-- ==== Sys2Proof/Machine/Pmu.lean ====
section
/-! DEFINITION. Pmu: the core supply voltage loop, CLK_CORE and the thermal steps (R42, R43, R52). -/

namespace Sys2Proof.Machine

/-- The voltage loop changed by `f`. -/
def updPmu (s : State) (f : Pmu → Pmu) : State := { s with pmu := f s.pmu }
/-- Rail 1 is VDD_SOC, rail 0 VDD_CPU (R41). -/
def railOf (p : Pmu) (soc : Bool) : Rail := if soc then p.soc else p.cpu
/-- One rail changed by `f`. -/
def updRail (s : State) (soc : Bool) (f : Rail → Rail) : State :=
  updPmu s fun p => if soc then { p with soc := f p.soc } else { p with cpu := f p.cpu }
/-- Lowest and highest voltage of a rail, mV (R41). -/
def railMin (soc : Bool) : Nat := if soc then 650 else 600
/-- Highest voltage of a rail, mV (R41). -/
def railMax (soc : Bool) : Nat := if soc then 850 else 900

/-- CLK_CORE in the steps of R43, within the cap. -/
def stepOf (p : Pmu) (f : Nat) : Nat :=
  let g := if p.capMhz = 0 then f else min f p.capMhz
  max 600 (min 1800 (g / 100 * 100))

/-- The step that CLK_CORE returns to with the next acknowledged raise: the highest it has left (R42). -/
def leftStep (p : Pmu) : Option Nat :=
  some (match p.restoreTo with | some f => max f p.clkCore | none => p.clkCore)

/-- CLK_CORE lowered by 100 MHz, to no less than `floor`. -/
def lowerCore (s : State) (floor : Nat) : State :=
  updPmu s fun p => { p with clkCore := if p.clkCore ≤ floor then p.clkCore else max floor (p.clkCore - 100) }

/-- Before the voltage is lowered the frequency is lowered (R43). By how many steps the spec does not say: a free
number from one step on, to no less than 600 MHz (log entry 196). -/
def lowerFirst (s : State) (mv : Nat) : State :=
  if mv < s.pmu.cpu.ackedMv then
    let k := Config.freeNat s.freeCtr % 12 + 1
    updPmu { s with freeCtr := s.freeCtr + 1 } fun p =>
      { p with restoreTo := leftStep p, clkCore := max 600 (p.clkCore - 100 * k) }
  else s

/-- Send a voltage request, unless requests have stopped (R42, R43). -/
def sendRail (s : State) (soc : Bool) (mv : Nat) : State :=
  if s.pmu.stopped || s.pmu.seqStopped then s
  else
    let s1 := if soc then s else lowerFirst s mv
    emit (updRail s1 soc fun r => { r with req := some mv, attempts := 0, highTicks := 0 }) (.avs (b2n soc) mv)

/-- A request of the tick or of the policy waits while one of its rail is not acknowledged (log entry 180). -/
def askRail (s : State) (soc : Bool) (mv : Nat) : State :=
  if (railOf s.pmu soc).req.isSome then s else sendRail s soc mv

/-- A slack below M_LO at the upper limit of the rail (R42). -/
def atLimit (s : State) (soc : Bool) (m : Nat) : State :=
  if soc then raise s .socAtLimit 0 0x11 1 m else lowerCore s 600

/-- What one tick does for one rail with smallest slack `m`, in per cent (R42). A fixed rail only goes to
its fixed voltage (R43). -/
def tickRail (s : State) (soc : Bool) (m : Nat) : State :=
  let high := if s.pmu.mHi < m then (railOf s.pmu soc).highTicks + 1 else 0
  let s1 := updRail s soc fun r => { r with lastM := m, highTicks := high }
  let r := railOf s1.pmu soc
  if m < s.pmu.mLo ∧ railMax soc ≤ r.ackedMv ∧ (r.fixedMv = 0 ∨ r.fixedMv = r.ackedMv) then atLimit s1 soc m
  else if r.fixedMv ≠ 0 then (if r.ackedMv = r.fixedMv then s1 else askRail s1 soc r.fixedMv)
  else if m < s.pmu.mLo then askRail s1 soc (min (railMax soc) (r.ackedMv + 10))
  else if 8 ≤ high ∧ railMin soc < r.ackedMv then askRail s1 soc (max (railMin soc) (r.ackedMv - 5))
  else s1

/-- The smallest of the slacks that the monitors of a rail report, in per cent (R42). -/
def minSlack (v : Vector Nat 24) : Nat := v.toList.foldl min v[0]

/-- AVS_TICK: the 1 ms tick over both rails (R42, R43). -/
def execAvsTick (cpu soc : Vector Nat 24) (s : State) : Host.Outcome State Fault Refusal :=
  .next (if powered s then
      let s1 := updPmu s fun p =>
        { p with mAtStep := (p.clkCore, minSlack cpu) :: p.mAtStep.filter fun e => e.1 ≠ p.clkCore }
      tickRail (tickRail s1 false (minSlack cpu)) true (minSlack soc)
    else s)

/-- SPEED_MONITOR_EMERGENCY: a monitor below 1 % (R42, R43). The request of VDD_SOC goes out at once, above what is
already asked. -/
def execSpeedMonitorEmergency (soc : Bool) (s : State) : Host.Outcome State Fault Refusal :=
  .next (if powered s then
      if soc then
        let r := s.pmu.soc
        let base := match r.req with | some v => max v r.ackedMv | none => r.ackedMv
        if r.fixedMv = 0 ∧ base < railMax true then sendRail s true (min (railMax true) (base + 10)) else s
      else updPmu s fun p =>
        { p with clkCore := max 600 (p.clkCore / 2 / 100 * 100), restoreTo := leftStep p }
    else s)

/-- The step CLK_CORE holds once requests have stopped: the highest whose last slack at the last acknowledged voltage
was at least M_LO, within the cap (R43). -/
def holdStep (p : Pmu) : Nat :=
  match (p.mAtStep.filter fun e => decide (p.mLo ≤ e.2)).map (·.1) with
  | [] => p.clkCore
  | l => stepOf p (l.foldl max 600)

/-- A request acknowledged: the voltage is in force, and a raise of VDD_CPU brings CLK_CORE back 50 µs later
(R42, R43). -/
def ackRail (s : State) (soc : Bool) (mv : Nat) : State :=
  let up := decide ((railOf s.pmu soc).ackedMv < mv)
  let s1 := updRail s soc fun r => { r with ackedMv := mv, req := none, attempts := 0 }
  if soc then s1
  else updPmu s1 fun p =>
    { p with mAtStep := [], raiseTo := if up && p.restoreTo.isSome then p.restoreTo else p.raiseTo,
             restoreTo := if up then none else p.restoreTo }

/-- AVS_ACKNOWLEDGE: the regulator has acknowledged a request, or has failed to; a third failure stops the
requests, and none is sent again once the breakwater sequence has started (R43). -/
def execAvsAcknowledge (soc ok : Bool) (s : State) : Host.Outcome State Fault Refusal :=
  .next (match (railOf s.pmu soc).req with
    | none => s
    | some mv =>
      if ok then ackRail s soc mv
      else if s.pmu.seqStopped then updRail s soc fun r => { r with req := none, attempts := 0 }
      else if (railOf s.pmu soc).attempts + 1 < 3 then
        emit (updRail s soc fun r => { r with attempts := r.attempts + 1 }) (.avs (b2n soc) mv)
      else
        let s1 := updRail s soc fun r => { r with attempts := 3, req := none }
        raise (updPmu s1 fun p => { p with stopped := true, raiseTo := none, restoreTo := none, clkCore := holdStep p })
          .avsFail 0 0x11 (b2n soc) mv)

/-- CORE_FREQUENCY_RAISE: 50 µs after the acknowledgement CLK_CORE takes its step (R43). While throttled it is
the step that the release returns to (R52). -/
def execCoreFrequencyRaise (s : State) : Host.Outcome State Fault Refusal :=
  .next (match s.pmu.raiseTo with
    | some f =>
      if powered s then
        updPmu s fun p =>
          if p.throttleBase.isSome then { p with raiseTo := none, throttleBase := some (stepOf p f) }
          else { p with raiseTo := none, clkCore := stepOf p f }
      else s
    | none => s)

/-! ### Temperature (R52, R133) -/

/-- The highest threshold a junction temperature reaches, in steps of 0.5 °C. -/
def thermLevel (tj : Int) : Nat := if 230 ≤ tj then 3 else if 220 ≤ tj then 2 else if 210 ≤ tj then 1 else 0

/-- Below which Tj each threshold releases. -/
def thermRelease (level : Nat) : Int := if level = 3 then 224 else if level = 2 then 214 else 204

/-- The actions of the thresholds as they stand. -/
def thermActions (s : State) : State :=
  let l := s.pmu.level
  let s1 := thermalCap s (decide (2 ≤ l))
  { s1 with pins := { s1.pins with thermN := decide (l < 3) } }

/-- THERMAL_SENSOR_READ: the hottest sensor is Tj; thresholds reached become active (R52). -/
def execThermalSensorRead (sensors : List Int) (s : State) : Host.Outcome State Fault Refusal :=
  .next (match sensors with
    | [] => s
    | x :: xs =>
      if powered s || decide (s.phase = .quiescent) then
        let tj := xs.foldl max x
        let new := max s.pmu.level (thermLevel tj)
        let s1 := updPmu s fun p =>
          { p with tj := tj, overTrip := decide (240 ≤ tj), level := new,
                   coolRun := if tj < 200 then satInc 10000 p.coolRun else 0,
                   throttleBase := if new = 0 ∨ p.throttleBase.isSome then p.throttleBase else some p.clkCore }
        if s.phase = .quiescent then s1
        else thermActions (if s.pmu.level = 0 ∧ 0 < new then raise s1 .thermal105 0 0x11 0 (toPat 32 tj) else s1)
      else s)

/-- THERMAL_THROTTLE_STEP: every 1 ms, CLK_CORE moves 100 MHz: down to 1,000 MHz while the 105 °C step is active,
back up after it (R52). -/
def execThermalThrottleStep (s : State) : Host.Outcome State Fault Refusal :=
  .next (if powered s then
      if 1 ≤ s.pmu.level then lowerCore s 1000
      else match s.pmu.throttleBase with
        | none => s
        | some f => updPmu s fun p =>
          if f ≤ p.clkCore + 100 then { p with clkCore := max p.clkCore (stepOf p f), throttleBase := none }
          else { p with clkCore := stepOf p (p.clkCore + 100) }
    else s)

/-- THERMAL_RELEASE: Tj has stayed below the release level of the highest active threshold for 100 ms (R52). -/
def execThermalRelease (s : State) : Host.Outcome State Fault Refusal :=
  .next (if powered s && decide (0 < s.pmu.level) && decide (s.pmu.tj < thermRelease s.pmu.level) then
      thermActions (updPmu s fun p => { p with level := p.level - 1 })
    else s)

/-- THERMAL_TRIP: Tj at 120 °C or above for 10 ms starts the breakwater sequence (R52, R450); once started it is
ignored (R46). -/
def execThermalTrip (s : State) : Host.Outcome State Fault Refusal :=
  .next (if powered s && s.pmu.overTrip && !s.bw.started then startBreakwater s 0x4 else s)

/-! ### Messages (R43, R445) -/

/-- PWR_SUPPLY_POLICY's list. -/
def supplyPars : List (Par Pmu) :=
  [parN 2 15 fun v p => { p with mLo := v },
   parN 5 20 fun v p => { p with mHi := v },
   { ok := fun vs => decide (v0 vs = 0) || (decide (600 ≤ v0 vs) && decide (v0 vs ≤ 900) && decide (v0 vs % 5 = 0)),
     put := fun vs p => { p with cpu := { p.cpu with fixedMv := v0 vs } } },
   { ok := fun vs => decide (v0 vs = 0) || (decide (650 ≤ v0 vs) && decide (v0 vs ≤ 850) && decide (v0 vs % 5 = 0)),
     put := fun vs p => { p with soc := { p.soc with fixedMv := v0 vs } } },
   { ok := fun vs => decide (v0 vs = 0) || (decide (600 ≤ v0 vs) && decide (v0 vs ≤ 1800) && decide (v0 vs % 100 = 0)),
     put := fun vs p => { p with capMhz := v0 vs } }]

/-- What a policy just accepted does at once: CLK_CORE within its cap, fixed rails requested. -/
def applyPolicy (s : State) : State :=
  let p := s.pmu
  let s1 := if p.capMhz ≠ 0 ∧ p.capMhz < p.clkCore then
      updPmu s fun p => { p with clkCore := p.capMhz, restoreTo := leftStep p }
    else s
  let fix := fun (s : State) (soc : Bool) =>
    let r := railOf s.pmu soc
    if r.fixedMv ≠ 0 ∧ r.fixedMv ≠ r.ackedMv then askRail s soc r.fixedMv else s
  fix (fix s1 false) true

/-- The body of PWR_SUPPLY_POLICY. -/
def supplyPolicy (ps : Params) (s : State) : Ans :=
  setA s supplyPars (fun p => [([0, 1], decide (p.mLo + 3 ≤ p.mHi))]) ps s.pmu fun p => applyPolicy { s with pmu := p }

def execPwrSupplyPolicy (r : Req) (ps : Params) (s : State) : Host.Outcome State Fault Refusal :=
  .next (serve s r { opc := 0x0B01, setter := true } (.pwrSupplyPolicy r ps) (supplyPolicy ps))

/-- The body of PWR_GET_STATUS. -/
def pwrGet (s : State) : Ans :=
  getA s [(2, s.pmu.cpu.ackedMv), (2, s.pmu.soc.ackedMv), (2, s.pmu.clkCore), (2, toPat 16 s.pmu.tj),
          (4, s.bw.inputs[(0 : Fin 16)].mv), (4, s.bw.inputs[(1 : Fin 16)].mv)]

def execPwrGetStatus (r : Req) (s : State) : Host.Outcome State Fault Refusal :=
  .next (serve s r { opc := 0x0B04, need := .rd } (.pwrGetStatus r) pwrGet)

end Sys2Proof.Machine
end

