-- ==== Sys2Proof/Machine/Start.lean ====
section
/-! DEFINITION. Start: from internal reset release to host admission, the replay of a vault image or the
checkpoint path, and a halted start (R39, R40, R44, R272, R297, R463 to R465, R467, R470, R472, R500, R503,
R507 to R509, R516 to R523, R531). -/

namespace Sys2Proof.Machine

/-! ### B1: straps, OTP, lifecycle -/

/-- The epoch (R467). -/
def epochOf (o : Otp) : Nat := o.lc + 16 * b2n o.kill

/-- The straps sampled at the release; a release that ends an NVM subsystem reset keeps them (R40, R517). -/
def sampleStraps (s : State) : State :=
  let st : Straps := if s.boot.nssr then s.straps
    else { host := s.pins.strapHost % 4, boot := s.pins.strapBoot, test := s.pins.strapTest }
  let s1 := updQuay { s with straps := st } fun q =>
    { q with disabled := decide (st.host = 3), sas := decide (st.host = 2), x4 := decide (st.host = 1) }
  if st.host = 3 then raise s1 .hostStrapReserved 0 0x0C 0 else s1

/-- A value field of OTP that cannot be read: DM_DIGEST, YK_DIGEST and IDPK_DIGEST count as unwritten, DUK as
destroyed, ISEED as lost (R472). Fields are named by their lowest bit. -/
def otpFault (s : State) (x : Nat × Nat) : State :=
  let o := s.nv.otp
  let set := fun o' : Otp => updNv s fun v => { v with otp := o' }
  let s1 :=
    if x.1 = 512 then set { o with dmDigest := none }
    else if x.1 = 256 then set { o with ykDigest := none }
    else if x.1 = 1280 then set { o with idpkDigest := none }
    else if x.1 = 768 then set { o with duk := some (List.replicate 32 0xFF) }
    else if x.1 = 1024 then updSec s fun c => { c with identityLost := true }
    else s
  raise s1 (.numbered 0x3007) 0 0x03 0 x.1 x.2

/-- A field that the signatures of this lifecycle state need cannot be read (R472, R479, R522). -/
def otpBlocksBoot (s : State) (bad : List (Nat × Nat)) : Bool :=
  bad.any fun x => (decide (x.1 = 256) && decide (s.sec.life ≠ .blank)) ||
    (decide (x.1 = 512) && (decide (s.sec.life = .field) || decide (s.sec.life = .decommissioned)))

/-- B1 (R467, R469, R472, R516): DUK destroyed with KILL clear burns KILL first of all. -/
def bootB1 (b : BootFacts) (s : State) : State :=
  let s0 := if s.nv.otp.dukOnes && !s.nv.otp.kill then updNv s fun v => { v with otp := { v.otp with kill := true } } else s
  let s1 := updSec s0 fun c => { c with life := lifeOf s0.nv.otp, epoch := epochOf s0.nv.otp }
  let s2 := forEach b.otpBad (sampleStraps s1) otpFault
  if s2.straps.boot ∧ (s2.sec.life = .field ∨ s2.sec.life = .decommissioned) then raise s2 .recoveryBootIgnored 0 0x10 0 else s2

/-! ### Halted starts (R522) -/

/-- The start halts with a code. -/
def bootHalt (s : State) (code slot : Nat) : State :=
  raise { updBoot (updQuay s fun q => { q with funcs := q.funcs.map fun x => if x.en then { x with cfs := true, rdy := false } else x })
            fun x => { x with halt := code } with phase := .halted } (.numbered 0xF802) 4 0x12 0 code slot

/-- HALT_UART_LINE: once per second (R522). -/
def execHaltUartLine (s : State) : Host.Outcome State Fault Refusal :=
  .next (if s.phase = .halted then
      emit s (.uart (ascii [0x4C, 0x58, 0x34, 0x20, 0x48, 0x41, 0x4C, 0x54] ++ hexAscii 2 s.boot.halt))
    else s)

/-! ### B2 to B6: the firmware (R518, R519) -/

/-- The slots in the order of R518. -/
def slotOrder (s : State) : List Nat := if s.nv.slots[(1 : Fin 2)].next then [2, 1] else [1, 2]

/-- A slot's package passes R518 and its chunks their digests. -/
def slotFits (s : State) (b : BootFacts) (k : Nat) : Bool :=
  (match (slotAt s k).bind (·.pkg) with | some p => pkgValid s p | none => false) && !b.chunkBad.contains k

/-- The slot that runs and the one rejected first, or the code of R522. -/
def chooseSlot (s : State) (b : BootFacts) : Except Nat (Nat × Nat) :=
  let ok := fun k => slotFits s b k && !b.ucodeBad.contains k
  match slotOrder s with
  | [x, y] =>
    if ok x then .ok (x, 0)
    else if ok y then .ok (y, x)
    else if slotFits s b x && slotFits s b y then .error 4
    else .error 2
  | _ => .error 2

/-- A slot rejected: invalid for this start, with IMAGE_REJECT where a check of R479 failed. -/
def rejectSlot (s : State) (k : Nat) : State :=
  let s1 := updSlot s k fun x => { x with invalid := true }
  match (slotAt s k).bind (·.pkg) with
  | some p => match pkgReason s p with
    | some (c, r) => imageRejected s1 c (if c = 0 then p.fwSvn else p.ucSvn) r
    | none => s1
  | none => s1

/-- The package this start runs: its slot (0 over the factory UART), the slot rejected first, the package. -/
def choosePkg (s : State) (b : BootFacts) : Except Nat (Nat × Nat × Package) :=
  if s.straps.boot ∧ s.sec.life ≠ .field ∧ s.sec.life ≠ .decommissioned then
    let p := parsePkg b.uart []
    if pkgValid s p then .ok (0, 0, p) else .error 2
  else match chooseSlot s b with
    | .error e => .error e
    | .ok (k, r) => match (slotAt s k).bind (·.pkg) with
      | some p => .ok (k, r, p)
      | none => .error 2

/-- B4 to B6: regions and wiped memory; the microcode in bank A, each sequencer of its ROLES at INIT (R406, R516). -/
def startFirmware (s : State) (b : BootFacts) (k rejected : Nat) (p : Package) : State :=
  let s1 := updDram s fun d => { d with gib := b.gib, regions := b.regions, lines := [] }
  let s2 := match p.uc with
    | some u =>
      let t := fillBank s1 false u (decide (p.sigs ≠ []))
      let t1 := if p.sigs = [] then updSec t fun c => { c with unsignedLoaded := true } else t
      forEach (allSeqs.filter fun n => u.roles.getLsbD n.val) t1 fun s n => enterAt s n (bankWord (seqBank s s.seqs[n]) 0x0810)
    | none => s1
  let s3 := updFw (updBoot s2 fun x => { x with slot := k, rejected := rejected, step := 6 }) fun w =>
    { w with activeVersion := p.version, activeDigest := p.fenDigest }
  raise s3 (.numbered 0xF801) 0 0x12 0 k p.version rejected

/-! ### B7: what Fenxus reads from NOR -/

/-- A persisted setter applied again: its parameters' reset values (R428). -/
def applySetter (s : State) (i : Instr) : State :=
  match i with
  | .lkbSetSurface _ h sf pl ix lin => (setSurface h sf pl ix lin s).st
  | .lkbSetZoneMap _ sf fs => (setZoneMap sf fs s).st
  | .lkbSetRatio _ h z w => (setRatio h z w s).st
  | .lkbSetGuard _ a w => (setGuard a w s).st
  | .lkbSetDemod _ h m ps => (setDemod h m ps s).st
  | .loopSetLaw _ a l c st ws => (setLaw a l c st ws s).st
  | .loopSetRwo _ h vs => (setRwo h vs s).st
  | .loopSetMaGain _ h g => (setMaGain h g s).st
  | .loopSetSeek _ a ps => (setSeek a ps s).st
  | .loopSetFollow _ a ps => (setFollow a ps s).st
  | .loopSetTwin _ a ps => (setTwin a ps s).st
  | .spnSetSpeed _ rpm c => (spnSetSpeed rpm c s).st
  | .spnSetPolicy _ ps => (spnSetPolicy ps s).st
  | .spnSetLimits _ ps => (spnSetLimits ps s).st
  | .spnSetMotor _ ps => (spnSetMotor ps s).st
  | .chnSetFormat _ h z w => (setFormat h z w s).st
  | .chnSetFrontend _ h z ps => (setFrontend h z ps s).st
  | .chnSetEq _ h z m ps => (setEq h z m ps s).st
  | .chnSetDetector _ h z ps => (setDetector h z ps s).st
  | .chnSetSync _ h z ps => (setSync h z ps s).st
  | .chnSetRecovery _ m ps => (setRecovery m ps s).st
  | .wrpSetFormat _ h z ps => (wrpFormat h z ps s).st
  | .wrpSetAssist _ h z ps => (wrpAssist h z ps s).st
  | .wrpSetFh _ h z ps => (wrpFh h z ps s).st
  | .wrpSetLimits _ ps => (wrpLimits ps s).st
  | .wrpSetWear _ h ps => (wrpWear h ps s).st
  | .lnkSetLimits _ ps => (lnkLimits ps s).st
  | .pslSetSafe _ ps => (pslSafe ps s).st
  | .brtSetLayout _ n l => if n = 0 then (brtLayout n l s).st else s
  | .brtSetLimits _ ps => (brtLimits ps s).st
  | .brtSetPatrol _ ps => (brtPatrol ps s).st
  | .brtSetCkpt _ ps => (brtCkpt ps s).st
  | .brtSetHealth _ ps => (brtSetHealth ps s).st
  | .brtSetRebuild _ ps => (brtSetRebuild ps s).st
  | .quaySetArb _ ps => (quayArb ps s).st
  | .quaySetAllot _ f w => (quayAllot f w s).st
  | .quaySetAdmit _ f ps => (quayAdmit f ps s).st
  | .quaySetDrivePower r m => (quayPower r m s).st
  | .drcSetScrub _ ps => (drcScrub ps s).st
  | .drcSetPort _ p ps => (drcPort p ps s).st
  | .drcSetTrain _ ps => (drcTrain ps s).st
  | .drcSetPower _ ps => (drcPower ps s).st
  | .seqSetLimits _ ps => (seqLimits ps s).st
  | .pwrSupplyPolicy _ ps => (supplyPolicy ps s).st
  | _ => s

/-- The drive configuration takes effect, oldest setter first; the lifecycle limits on a parameter were
checked when it was accepted. -/
def applyConfig (s : State) : State :=
  let life := s.sec.life
  let t := forEach s.nv.config.reverse (updSec s fun c => { c with life := .manufacture }) applySetter
  updSec t fun c => { c with life := life }

/-- Learned FF tables, head-major, over the factory values (R200). -/
def loadFF (s : State) (ff : List (List Nat)) : State :=
  { s with wheads := s.wheads.mapFinIdx fun h w _ => { w with hz := w.hz.mapFinIdx fun z t _ =>
      match ff[h * 64 + z]? with
      | some (v :: vs) => { t with ffNow := v :: vs }
      | _ => t } }

/-- LockOnReset relocks, and the device-wrapped keys are loaded (R484, R490). -/
def loadKeys (s : State) : State :=
  let s1 := updNv s fun v =>
    { v with locks := v.locks.map (fun l => if l.lockOnReset then { l with readLocked := true, writeLocked := true } else l)
             keys := v.keys.map fun k => { k with copyB := true } }
  forEach (s1.nv.keys.filter fun k => decide (k.epoch = s1.sec.epoch) && (nsAt s1 k.nsid).isSome) s1 fun s k =>
    match k.wraps.find? fun w => w.2 = 0 with
    | some w => match Config.unwrap (kekOf s k.epoch k.nsid zeroCred) w.1 with
      | some mek => loadSlot s k.nsid mek
      | none => s
    | none => s

/-- The later of two record numbers, in serial-number arithmetic (R500). -/
def laterRec (a b : Nat) : Nat := if serialLt a b then b else a

/-- The number after the highest RECNO of the two event rings (R500, R503). -/
def norNext (s : State) : Option Nat :=
  let all := (s.nv.copies[(0 : Fin 2)].recs ++ s.nv.copies[(1 : Fin 2)].recs).map fun r => r.2.recno
  match all with
  | [] => none
  | r :: rs => some ((rs.foldl laterRec r + 1) % 2 ^ 32)

/-- The valid counter block with the highest GEN (R507). -/
def newestBlock (s : State) : Option CtrBlock :=
  (s.nv.ctrBlocks[(0 : Fin 2)] ++ s.nv.ctrBlocks[(1 : Fin 2)]).foldl (fun o b => match o with
    | some x => if x.gen < b.gen then some b else some x
    | none => some b) none

/-- The incident table restored, every entry CLOSED (R514). -/
def loadIncidents (s : State) (l : List Incident) : State :=
  { s with incidents := Vector.ofFn fun i : Fin 256 =>
      match l.find? fun x => decide (x.number % 256 = i.val) && decide (x.state ≠ 0) with
      | some x => { x with state := 2 }
      | none => {} }

/-- A counter block written with the incident table to the copies that take it (R507, R514). -/
def putCtrBlock (s : State) (okA okB : Bool) : State :=
  let b : CtrBlock := { gen := ((newestBlock s).map (·.gen + 1)).getD 0, ctr := s.ctr,
                        incidents := s.incidents.toList.filter fun i => decide (i.state ≠ 0) }
  let put := fun (ok : Bool) (l : List CtrBlock) => if ok then (b :: l).take 16 else l
  { updNv s fun v => { v with ctrBlocks := #v[put okA v.ctrBlocks[(0 : Fin 2)], put okB v.ctrBlocks[(1 : Fin 2)]] } with
    aon := { s.aon with sinceBlock := 0 } }

/-- The seam rings and rejected tracks of the surfaces, as manufacture recorded them in the drive configuration (R69,
R528). -/
def loadSeams (s : State) : State :=
  { s with surfaces := s.surfaces.mapFinIdx fun i x h => { x with rings := s.nv.rings[i], rejected := s.nv.rejected[i] } }

/-- The write parameters that the drive configuration set are in force at each path and head (R209, R212). -/
def loadPars (s : State) : State :=
  { s with wps := s.wps.map (fun p => { p with par := takePar s.wdev })
           wheads := s.wheads.map fun w => { w with htrFbNow := w.htrFb, budgetNow := w.wearBudget } }

/-- B7 and B8: the drive configuration, keys, links and saved mode pages; the spindle starts (R124, R231, R311, R355,
R473, R477). -/
def bootB7 (b : BootFacts) (s : State) : State :=
  let s1 := updQuay (updPmu s fun p => { p with tj := b.tj }) fun q =>
    { q with par := { q.par with full := s.nv.fullNext, fullNext := s.nv.fullNext } }
  let s2 := loadPars (loadSeams (loadFF (applyConfig s1) s.nv.tableFF))
  let s3 := updSec (loadKeys s2) fun c =>
    { c with chainOk := decide (s2.nv.certChain ≠ []) && (s2.nv.otp.idpkDigest == some (shake32 (Config.certSubject s2.nv.certChain))),
             treeReady := s2.nv.treeCache }
  let s4 := forEach allActs s3 fun s a => updPlk s a fun p => { p with l := { trainStart p.l with st := .train } }
  let s5 := updPsl s4 fun p => { p with l := { trainStart p.l with st := .train } }
  let s6 := forEach s5.nv.modeSaved s5 fun s p => match selFn p.1 with
    | some f => updFn s f fun x => { x with modePages := p.2 :: x.modePages }
    | none => s
  updBoot (spnStart s6).st fun x => { x with step := 8 }

/-! ### B9 to B11: the vault image or the checkpoint path -/

/-- The area with the image of the highest IMAGE_SEQ (R463). -/
def imageArea (s : State) : Option (Fin 2) :=
  let a := s.nv.areas[(0 : Fin 2)]
  let b := s.nv.areas[(1 : Fin 2)]
  if a.st = 1 ∧ b.st = 1 then some (if a.start.seq < b.start.seq then 1 else 0)
  else if a.st = 1 then some 0
  else if b.st = 1 then some 1
  else none

/-- The newest committed checkpoint that a start can read in full, with what a page's other copy holds (R297). -/
def bootCkpt (s : State) (b : BootFacts) : Option Ckpt := s.nv.ckpts.find? fun c => !b.ckptBad.contains c.seq

/-- The sequence number of the checkpoint a start loads. -/
def bootSeq (s : State) (b : BootFacts) : Nat := ((bootCkpt s b).map (·.seq)).getD 0

/-- Why an image is not used: the reason code of R463. -/
def vaultReason (s : State) (b : BootFacts) (k : Fin 2) : Option Nat :=
  let a := s.nv.areas[k]
  let o := s.nv.areas[1 - k]
  if !b.imageReadOk.contains k.val ∨ a.commit.isNone then some 1
  else if !b.pageCrcOk.contains k.val then some 2
  else if o.st ≠ 0 ∧ a.start.seq < o.start.seq then some 3
  else if a.start.ckptSeq ≠ bootSeq s b then some 4
  else if a.start.regions ≠ s.dram.regions then some 5
  else if !b.tablesOk then some 6
  else none

/-- What a reset ends in the tables: segments close and continue in new windows, strips not done are sent
again, a victim is SEALED again, a reshape answers nobody (R247, R272, R299). -/
def settleTables (t : Tables) : Tables :=
  { t with
    segs := t.segs.map fun g => if g.openCtx.isSome then { g with openCtx := none, leadSeg := none, nextTrk := g.winHi + 1 } else g
    manifest := t.manifest.map fun m => if m.st = 3 then m else { m with st := 1, held := [] }
    berths := t.berths.map fun b => if b.st = .dredging then { b with st := .sealed } else b
    reshapes := t.reshapes.map fun r => { r with mb := none } }

/-- The berth engine's counters continue behind what was restored. -/
def resumeCounts (s : State) : State :=
  updBrt s fun e =>
    { e with nextBlock := (s.cache.blocks.map (·.id)).foldl max 0 + 1,
             nextBind := (s.tbl.berths.map fun b => b.bound + 1).foldl max 0,
             manSeq := (s.tbl.manifest.map fun m => m.seq + 1).foldl max 0 % 2 ^ 32 }

/-- The stripes that lie complete in the cache without a manifest entry go to destaging again (R255). -/
def requeueStripes (s : State) : State :=
  let at_ := s.cache.blocks.filterMap fun c => c.place.bind fun x => (berthAt s x.1).map fun b => (x.1, x.2 / layBlocks b.layout)
  forEach (at_.foldl (fun l x => if l.contains x then l else l ++ [x]) []) s fun s x =>
    match berthAt s x.1 with
    | some b =>
      let filling := s.tbl.builders.any fun y => decide (y.berth = some x.1) && decide (y.stripe = x.2)
      if b.kind = 0 ∧ b.finish.isNone then destageFull s x.1 x.2
      else if inManifest s x.1 x.2 || s.brt.destage.contains x || filling then s
      else updBrt s fun e => { e with destage := e.destage ++ [x] }
    | none => s

/-- The parity of the stripes in flight stands in its buffers again (R255). -/
def refillParity (s : State) : State :=
  forEach (s.tbl.manifest.filter fun m => decide (m.st ≠ 3)) s fun s m =>
    match berthAt s m.berth with
    | some b => updBrt s fun e => { e with parityBufs := e.parityBufs + layK b.layout,
                                           pbufs := e.pbufs ++ [(m.berth, m.stripe, stripeParity s b m.stripe)] }
    | none => s

/-- ACTIVE rebuild entries and reshapes resume where the restored tables stand (R291, R299). -/
def resumeRebuilds (s : State) : State :=
  let s1 := forEach (s.tbl.rblds.filter fun e => decide (e.st = 2)) s fun s e =>
    match berthAt s e.berth with
    | some b => queueAhead (if e.progress < e.start then queueRebuild s b e e.progress else s) b e
    | none => s
  forEach s1.tbl.reshapes s1 queueReshape

/-- Actuators declared failed stay so: the declaration is kept in the berth records (R277). -/
def keepFailed (s : State) : State :=
  forEach (allActs.filter fun a => s.tbl.actFailed.contains a) s fun s a =>
    updAct (updActRec s a fun r => { r with failed := true }) a fun x => { x with failed := true }

/-- The cache as an image holds it: readers are gone, and a block whose page failed is REPLAYED poison (R464). -/
def wakeBlock (bad : List Nat) (c : CBlock) : CBlock := { c with refs := 0, est := 0, poison := c.poison || bad.contains c.id }

/-- Berths, cache and engine as an image holds them (R464). -/
def replayTables (s : State) (c : Content) (bad : List Nat) : State :=
  resumeRebuilds (refillParity (requeueStripes (resumeCounts (keepFailed
    { s with tbl := settleTables c.tables
             cache := { blocks := (c.cache.blocks.filter fun x => !x.dead).map (wakeBlock bad) } }))))

/-- A checkpoint's tables: entries RECORDED or WRITING are discarded and the chart is the stored one (R272). -/
def ckptTables (t : Tables) : Tables :=
  settleTables { t with manifest := t.manifest.filter fun m => decide (m.st = 3)
                        chart := t.chartMedia, builders := [] }

/-- What an OPEN berth's lost stripes become on the checkpoint path: a zone berth ends at WSTRIPE; a log or
metadata berth is finished where it stands, its gaps destaged as filler. -/
def cutBerth (s : State) (b : Berth) : State :=
  if b.st ≠ .opened then s
  else if b.kind = 0 then
    let ids := (List.range (layN b.layout)).flatMap fun j => (memberSegs s b j).map (·.id)
    updTbl (updBerth s b.id fun x => { x with doneAhead := [], finish := none }) fun t =>
      { t with segs := t.segs.map fun g => if ids.contains g.id then { g with countN := min g.countN (64 * b.wstripe - g.firstN) } else g }
  else
    let fin := b.doneAhead.foldl (fun n x => max n (x + 1)) b.wstripe
    let gaps := (List.range fin).filter fun st => decide (b.wstripe ≤ st) && !b.doneAhead.contains st
    sealBerth (updBrt (updBerth s b.id fun x => { x with finish := some fin }) fun e =>
      { e with destage := e.destage ++ gaps.map fun st => (b.id, st) }) b.id

/-- A zone open or closed at the checkpoint is Closed, its write pointer at WSTRIPE (R523). -/
def setBack (s : State) (z : Zone) : Zone :=
  { z with st := .closed, wp := match z.berth.bind (berthAt s) with
      | some b => b.wstripe * layBlocks b.layout
      | none => 0 }

/-- The zones that R523 sets back. -/
def backZones (s : State) : List Zone :=
  s.tbl.zones.filter fun z => decide (z.st = .impOpen) || decide (z.st = .expOpen) || decide (z.st = .closed)

/-- R523: zones set back and listed, bit 4 of the critical warning, WRITES_MAY_BE_LOST. -/
def mayBeLost (s : State) (seq why : Nat) : State :=
  let zs := backZones s
  let s1 := forEach zs s fun s z => updZone s z.nsid z.no (setBack s)
  let s2 := forEach zs s1 fun s z =>
    forEach (((nsAt s z.nsid).map (·.attached)).getD []) s fun s f =>
      let t := updFn s f fun x => { x with chgZones := x.chgZones ++ [(z.nsid, z.no)] }
      if s.quay.sas then t else asyncEvent t f 2 0xEF 0xBF
  let s3 := updBoot (updQuay s2 fun q => { q with critWarn := if bitAt q.critWarn 4 then q.critWarn else q.critWarn + 16 })
    fun x => { x with mayBeLost := true }
  let fs := [(0 : Fn), 512] ++ (s.nv.namespaces.flatMap (·.attached)).filter fun f => !isPf f
  let s4 := if s.quay.sas then s3 else forEach fs s3 fun s f => asyncEvent s f 1 0 2
  raise s4 (.numbered 0xF804) 3 0x12 0 seq why zs.length

/-- The checkpoint's tables come into force (R272, R297, R523). -/
def loadCkpt (s : State) (b : BootFacts) (why : Nat) : State :=
  let c := bootCkpt s b
  let s1 := keepFailed { s with tbl := ckptTables ((c.map (·.tables)).getD {}) }
  let s2 := forEach s1.tbl.berths s1 cutBerth
  let older := decide (((s.nv.ckpts.head?).map (·.seq)).getD 0 ≠ bootSeq s b)
  mayBeLost (resumeRebuilds (resumeCounts s2)) (bootSeq s b) (if older then 0x11 else why)

/-- Replayed data blocks of conventional namespaces keep their place over the checkpoint's chart and are destaged
again; a zone's lie beyond its write pointer and have no address any more (R531). -/
def keepBlocks (s : State) (bs : List CBlock) (bad : List Nat) : State :=
  forEach (bs.filter fun c => !c.dead && !c.old && !c.copy && !c.chartPage) s fun s c =>
    match nsAt s c.nsid with
    | some n => if n.zoned then s else installConv s n { wakeBlock bad c with place := none, prev := none }
    | none => s

/-- Numbered records continue: the replayed ones first, then those that waited (R500, R503). -/
def startNumbering (s : State) (saved : List EvRec) (next : Option Nat) : State :=
  let nor := norNext s
  let first := match next, nor with
    | some a, some b => laterRec a b
    | some a, none => a
    | none, some b => b
    | none, none => 0
  let waiting := s.evr.waiting
  let s1 := updEvr s fun v => { v with buf := saved, waiting := [], numbering := true, nextRecno := first }
  forEach waiting s1 number

/-- Tally rings of an image; the PARTIAL minute is the newest record of each (R464). -/
def loadRings (s : State) (rs : List TRing) : State :=
  updQuay s fun q => { q with tally := { q.tally with rings := rs.filter fun r => decide (r.closed ≠ []) } }

/-- The lifetime counters and learned FF of the staging area are written to NOR; during NV-write inhibit the counter
block stays due and FF waits for its persistence (R200, R449, R464, R507). -/
def persistReplayed (s : State) (ff : List (List Nat)) : State :=
  if s.bw.inhibit then { s with aon := { s.aon with sinceBlock := 600 } }
  else updNv (putCtrBlock s true true) fun v => { v with tableFF := ff }

/-- B9 with a valid image: replay (R464). Counters lost with the power come from the staging area. -/
def replayImage (s : State) (b : BootFacts) (k : Fin 2) : State :=
  let a := s.nv.areas[k]
  let c := a.content
  let cm := a.commit.getD {}
  let s1 := startNumbering s c.events (some c.nextRecno)
  let s2 := loadIncidents { s1 with ctr := if s.boot.porReset then c.counters else s1.ctr } c.incidents
  let s3 := loadRings (loadFF (persistReplayed s2 c.ff) c.ff) c.tally
  let s4 := updBrt (updDram s3 fun d => { d with lines := c.poison.foldl (fun m p => smWrite {} m p.1 { poison := p.2 }) [] }) fun e =>
    { e with ckptSeq := bootSeq s b }
  let s5 := raise s4 (.numbered 0x0005) 0 0x00 0 (((newestBlock s4).map (·.gen)).getD 0) 1
  let s6 := raise s5 (.numbered 0x2007) 0 0x02 0 a.start.seq cm.saveMs (cm.speed % 65536 + 65536 * min cm.grown 65535)
  let s7 := raise s6 (.numbered 0x2009) 0 0x02 0 cm.pages b.failedPages b.replayMs
  let s8 := updBoot s7 fun x => { x with vaultPath := !c.tablesBad, why := if c.tablesBad then 0x10 else 0 }
  if c.tablesBad then keepBlocks (loadCkpt s8 b 0x10) c.cache.blocks b.badBlocks
  else replayTables s8 c b.badBlocks

/-- B9 and B11 without a valid image: the checkpoint path (R272, R507, R523). -/
def checkpointPath (s : State) (b : BootFacts) (bad : Option (Fin 2 × Nat)) : State :=
  let s1 := startNumbering s [] none
  let blk := newestBlock s
  let s2 := if s.boot.porReset then
      let t := match blk with | some x => loadIncidents { s1 with ctr := x.ctr } x.incidents | none => s1
      raise t (.numbered 0x0005) 0 0x00 0 ((blk.map (·.gen)).getD 0) 0
    else match blk with
      | some x => loadIncidents s1 x.incidents
      | none => s1
  let s3 := match bad with
    | some (k, r) =>
      updDevCtr (raise s2 (.numbered 0x2008) 3 0x02 0 r s.nv.areas[k].start.seq) fun d =>
        { d with imageInvalids := ctrAdd d.imageInvalids 1 }
    | none => s2
  let why := match bad with | some (_, r) => r | none => 0
  loadCkpt (updBrt (updBoot s3 fun x => { x with vaultPath := false, why := why }) fun e => { e with ckptSeq := bootSeq s b }) b why

/-- The areas that hold no image in use are erased during replay (R464, R465). -/
def eraseOthers (s : State) (used : Option (Fin 2)) : State :=
  updNv s fun v => { v with areas := v.areas.mapFinIdx fun i x _ =>
    if (used.map (·.val)) = some i ∨ x.st = 0 then x else { x with erasing := true } }

/-- The first start in a new epoch: no namespace, berth, chart entry or tally record survives (R470). -/
def epochChange (s : State) (old : Life) : State :=
  if s.nv.epochSeen = s.sec.epoch then s
  else
    let s1 := updNv s fun v =>
      { v with namespaces := [], rsv := [], locks := [], epochSeen := s.sec.epoch
               ckpts := v.ckpts.map fun c => { c with tables := {} } }
    let s2 := updQuay { s1 with tbl := { actFailed := s.tbl.actFailed, heads := s.tbl.heads, reasons := s.tbl.reasons, segGen := s.tbl.segGen, dEst := s.tbl.dEst }
                                cache := {}, brt := { ckptSeq := s.brt.ckptSeq } } fun q => { q with tally := {} }
    raise { s2 with cmds := {} } (.numbered 0x3001) 0 0x03 0 (lifeNum old) (lifeNum s.sec.life) s.sec.epoch

/-- The lifecycle state of an epoch number (R467). -/
def lifeOfEpoch (e : Nat) : Life := lifeOf { lc := e % 16, kill := decide (16 ≤ e) }

/-- POWER_CYCLES advances after a power-on reset and is persisted; NV-write inhibit leaves the block due (R507, R508). -/
def countCycle (s : State) : State :=
  if s.boot.porReset then
    let s1 := updDevCtr s fun d => { d with powerCycles := ctrAdd d.powerCycles 1 }
    if s.bw.inhibit then { s1 with aon := { s1.aon with sinceBlock := 600 } } else putCtrBlock s1 true true
  else s

/-- Interrupted crypto-erases complete their steps 5 and 6 (R488). -/
def finishErases (s : State) : State :=
  if s.nv.keys.any (·.erasePending) then
    eraseFinish (forEach (s.nv.keys.filter (·.erasePending)) s fun s k =>
      match nsAt s k.nsid with | some n => clearNs s n | none => s)
  else s

/-- B9 to B11. Without a readable checkpoint copy the start waits for its halt (R522). -/
def bootB9 (b : BootFacts) (s : State) : State :=
  if s.nv.ckpts ≠ [] ∧ (bootCkpt s b).isNone then s
  else
    let img := imageArea s
    let r := img.bind fun k => (vaultReason s b k).map fun x => (k, x)
    let used := if r.isSome then none else img
    let s1 := match used with
      | some k => replayImage s b k
      | none => checkpointPath s b r
    let s2 := eraseOthers (epochChange (countCycle s1) (lifeOfEpoch s.nv.epochSeen)) used
    let s3 := if s2.boot.porReset && s2.aon.calendarWas && s2.aon.calendar.isNone then
        { raise s2 (.numbered 0x0007) 1 0x00 0 with aon := { s2.aon with calendarWas := false } }
      else s2
    let s4 := updEvr s3 fun v => { v with lost := b.recLost }
    updBoot (derateCheck (finishErases (forEach allHeads s4 wearLoad))) fun x => { x with replayDone := true, ckptLoaded := true, step := 11 }

/-- The warning bit of R523 stays set until the next power cycle. -/
def keepWarning (s : State) : State :=
  if s.boot.mayBeLost && !s.boot.porReset then updQuay s fun q => { q with critWarn := if bitAt q.critWarn 4 then q.critWarn else q.critWarn + 16 }
  else updBoot s fun x => { x with mayBeLost := false }

/-- The condition of the internal reset release: RESET_N and PORST_N high, every supervised rail still in
range (R41, R44). -/
def releaseReady (s : State) : Bool :=
  s.pins.resetN && s.pins.porstN && (List.range 10).all fun k => railInRange k ((s.bw.inputs.toList[k + 2]?.map (·.mv)).getD 0)

/-- INTERNAL_RESET_RELEASE: B1 to B11 of R516. -/
def execInternalResetRelease (b : BootFacts) (s : State) : Host.Outcome State Fault Refusal :=
  .next (if s.phase ≠ .reset ∨ !releaseReady s then s
    else
      let s0 := { updBoot s fun x => { x with startUs := s.us, step := 1 } with
        phase := .boot }
      let s1 := bootB1 b (keepWarning s0)
      let s2 :=
        if otpBlocksBoot s1 b.otpBad then bootHalt s1 1 0
        else match choosePkg s1 b with
          | .error code => bootHalt (forEach (slotOrder s1) s1 rejectSlot) code 0
          | .ok (k, r, p) =>
            let t := if r = 0 then s1 else rejectSlot s1 r
            if !b.dramOk then bootHalt t 3 k
            else bootB9 b (bootB7 b (startFirmware t b k r p))
      updBoot s2 fun x => { x with porReset := false, nssr := false })

/-- BOOT_SPINDLE_TIMEOUT: 50 s after B8 the spindle is below 4,800 rpm or no checkpoint copy is readable (R522). -/
def execBootSpindleTimeout (s : State) : Host.Outcome State Fault Refusal :=
  .next (if s.phase = .boot ∧ 8 ≤ s.boot.step ∧ (s.spn.meas < 38400 ∨ !s.boot.ckptLoaded) then bootHalt s 5 s.boot.slot else s)

/-! ### B12: host admission (R520) -/

/-- B10 is over: the spindle turns at 4,800 rpm or above and the actuators of the checkpoint heads are loaded;
a drive that has never written a checkpoint has nothing to read. -/
def ckptReady (s : State) : Bool :=
  decide (s.nv.ckpts = []) ||
    (decide (38400 ≤ s.spn.meas) && [s.brtPar.ckptHeadA, s.brtPar.ckptHeadB].all fun h =>
      s.acts[actOf s h].failed || decide (s.acts[actOf s h].mode ≠ .parked))

/-- HOST_ADMISSION (R480, R520). -/
def execHostAdmission (s : State) : Host.Outcome State Fault Refusal :=
  .next (if s.phase = .boot ∧ !s.bw.started ∧ s.boot.replayDone ∧ (erased s 0 || erased s 1) ∧ ckptReady s then
      let s1 := { updBoot s fun x => { x with admitted := true, step := 12 } with phase := .run }
      let s2 := updQuay s1 fun q => { q with funcs := q.funcs.map fun x => { x with rdy := x.rdy || (x.en && hostIo s1) } }
      let s3 := updMbx (updMbx s2 0 fun m => { m with ready := true }) 1 fun m => { m with ready := true }
      refresh (raiseSvn (raise s3 (.numbered 0xF803) 0 0x12 0 ((s.us - s.boot.startUs) / 1000) (b2n s.boot.vaultPath) s.brt.ckptSeq))
    else s)

end Sys2Proof.Machine
end

