-- ==== Sys2Proof/Machine/Scsi.lean ====
section
/-! DEFINITION. Scsi: the SAS personality: receipt of a command, its grant, the SCSI commands, and the task
management functions (R305, R308, R323, R324, R330, R336, R345, R349, R355, R488, R489, R519, R522, R526). -/

namespace Sys2Proof.Machine

/-! ### Unit attentions (R355) -/

/-- A unit attention of an initiator at a logical unit. -/
def attn (s : State) (f : Fn) (nexus code : Nat) : State :=
  updFn s f fun x => { x with unitAttn := if x.unitAttn.contains (nexus, code) then x.unitAttn else x.unitAttn ++ [(nexus, code)] }

/-- The initiators other than one get a unit attention. -/
def attnOthers (s : State) (f : Fn) (nexus code : Nat) : State :=
  forEach (s.quay.initiators.filter (· ≠ nexus)) s fun s n => attn s f n code

/-- The oldest unit attention of an initiator at a logical unit. -/
def attnOf (s : State) (f : Fn) (nexus : Nat) : Option (Nat × Nat) := (fnOf s f).unitAttn.find? fun e => e.1 = nexus

/-- A unit attention is reported once. -/
def dropAttn (s : State) (f : Fn) (e : Nat × Nat) : State := updFn s f fun x => { x with unitAttn := x.unitAttn.erase e }

/-! ### Data a logical unit returns -/

/-- The namespace of a logical unit (R305). -/
def luNs (s : State) (f : Fn) : Option Ns := nsAt s (f.val + 1)

/-- Peripheral device type (R308); 0x7F where the logical unit does not exist. -/
def periph (s : State) (f : Fn) : Nat := match luNs s f with | some n => if n.zoned then 0x14 else 0 | none => 0x7F

/-- INQUIRY data; with EVPD a page of which the spec gives only the header. -/
def inquiryData (s : State) (f : Fn) (c : HostCmd) : List Byte × State :=
  let d := sheet s 96 (if bitAt c.dw15 0 then [(0, leBytes 1 (periph s f)), (1, leBytes 1 c.dw14)]
    else [(0, leBytes 1 (periph s f)), (2, leBytes 2 0x0207)])
  (d.1.take c.dw12, d.2)

/-- A logical unit number as 8 bytes. -/
def lunBytes (n : Nat) : List Byte := (if n < 256 then beBytes 2 n else beBytes 2 (0x4000 + n)) ++ leBytes 6 0

/-- REPORT LUNS data. -/
def lunsData (s : State) (c : HostCmd) : List Byte :=
  let ids := (s.nv.namespaces.map (·.nsid)).foldl (fun acc n => insertAsc n acc) []
  (beBytes 4 (8 * ids.length) ++ leBytes 4 0 ++ ids.flatMap fun i => lunBytes (i - 1)).take c.dw12

/-- Sense data: descriptor format where the flag asks for it, else fixed. -/
def senseData (c : HostCmd) (key asc ascq : Nat) : List Byte :=
  (if bitAt c.dw15 0 then leBytes 1 0x72 ++ leBytes 1 key ++ leBytes 1 asc ++ leBytes 1 ascq ++ leBytes 4 0
   else leBytes 1 0x70 ++ leBytes 1 0 ++ leBytes 1 key ++ leBytes 4 0 ++ leBytes 1 10 ++ leBytes 4 0 ++ leBytes 1 asc ++ leBytes 1 ascq ++
     leBytes 4 0).take c.dw12

/-- REQUEST SENSE: a unit attention, else the informational exception 0x5D/0x00 while a warning stands (R330, R523). -/
def requestSense (s : State) (f : Fn) (c : HostCmd) : List Byte × State :=
  if !hostIo s then (senseData c 2 0x04 0x01, s)
  else match attnOf s f c.nexus with
    | some e => (senseData c 6 (e.2 / 256) (e.2 % 256), dropAttn s f e)
    | none => (if s.quay.critWarn ≠ 0 then senseData c 0 0x5D 0x00 else senseData c 0 0 0, s)

/-- READ CAPACITY (16) data. -/
def capacityData (n : Ns) (c : HostCmd) : List Byte :=
  (beBytes 8 (n.size - 1) ++ beBytes 4 4096 ++
    leBytes 1 ((if n.piType = 0 then 0 else 1 + 2 * (n.piType - 1)) + 16 * b2n n.zoned) ++ leBytes 1 0 ++
    leBytes 1 (0x40 + 0x80 * b2n (!n.zoned)) ++ leBytes 17 0).take c.dw12

/-- REPORT ZONES data of ZBC-2. -/
def sasZones (s : State) (n : Ns) (c : HostCmd) : List Byte :=
  let opt := fld c.dw15 0 6
  let zs := if 7 < opt then [] else zonesFrom s n (slbaOf c / 262144) opt
  let fit := zs.take ((c.dw12 - 64) / 64)
  let one := fun z : Zone => leBytes 1 2 ++ leBytes 1 (zoneCode z.st * 16) ++ leBytes 6 0 ++ beBytes 8 262144 ++ beBytes 8 (z.no * 262144) ++
    beBytes 8 (if wpValid z then z.no * 262144 + z.wp else 2 ^ 64 - 1) ++ leBytes 32 0
  (beBytes 4 (64 * if bitAt c.dw15 7 then fit.length else zs.length) ++ leBytes 1 1 ++ leBytes 3 0 ++ beBytes 8 (n.size - 1) ++ leBytes 48 0 ++
    fit.flatMap one).take c.dw12

/-- LOG SENSE pages: 0x00 the pages, 0x2F the informational exception, 0x34 the tally, a record for each
parameter code from the parameter pointer on (R330, R336). -/
def logSenseData (s : State) (f : Fn) (c : HostCmd) : Except St (List Byte × State) :=
  let page := c.dw14 % 64
  let whole := fun (body : List Byte) => leBytes 1 page ++ leBytes 1 0 ++ beBytes 2 body.length ++ body
  let ctl := fun (k : Nat) => leBytes 1 (Config.freeNat (s.freeCtr + k))
  if page = 0x00 then .ok ((whole [0x00, 0x2F, 0x34]).take c.dw12, s)
  else if page = 0x2F then
    let x := if s.quay.critWarn ≠ 0 then 0x5D else 0
    .ok ((whole (beBytes 2 0 ++ ctl 0 ++ leBytes 1 4 ++ leBytes 2 x ++ leBytes 2 (Config.freeNat (s.freeCtr + 1)))).take c.dw12,
      { s with freeCtr := s.freeCtr + 2 })
  else if page = 0x34 then
    let rs := (closedOf s f.val).zipIdx.drop (c.dw10 % 65536)
    .ok ((whole (rs.flatMap fun x => beBytes 2 x.2 ++ ctl x.2 ++ leBytes 1 64 ++ tallyBytes x.1)).take c.dw12,
      { s with freeCtr := s.freeCtr + (closedOf s f.val).length })
  else .error (stG 0x02)

/-! ### Mode pages (R324, R329, R355) -/

/-- A mode page: its saved or current bytes, else its default. The read-write error recovery page, 0x01,
defaults to the RECOVERY TIME LIMIT of R329 in bytes 10 and 11; what the spec gives no value is free. -/
def modePage (s : State) (f : Fn) (pc page : Nat) : List Byte × State :=
  let cur := ((fnOf s f).modePages.find? fun p => p.1 = page).map (·.2)
  let kept := (s.nv.modeSaved.find? fun p => decide (p.1 = f.val) && decide (p.2.1 = page)).map (·.2.2)
  match (if pc = 0 then cur else if pc = 3 then kept else none) with
  | some bs => (bs, s)
  | none => sheet s 12 ([(0, leBytes 1 page), (1, leBytes 1 10)] ++ (if page = 1 ∧ pc ≠ 1 then [(10, beBytes 2 s.chnDev.par.recovLimit)] else []))

/-- The pages a MODE SENSE names: one, or with 0x3F the error recovery page and every page that was set. -/
def modeNamed (s : State) (f : Fn) (page : Nat) : List Nat :=
  if page = 0x3F then 1 :: (((fnOf s f).modePages.map (·.1)).filter (· ≠ 1)).foldl (fun acc n => insertAsc n acc) []
  else if page = 1 ∨ ((fnOf s f).modePages.any fun p => p.1 = page) then [page] else []

/-- MODE SENSE (10) data, without block descriptors. -/
def modeSenseData (s : State) (f : Fn) (c : HostCmd) : Except St (List Byte × State) :=
  match modeNamed s f (c.dw14 % 64) with
  | [] => .error (stG 0x02)
  | ps =>
    let x := ps.foldl (fun (a : List Byte × State) p => let d := modePage a.2 f (c.dw14 / 64 % 4) p
                                                        (a.1 ++ d.1, d.2)) ([], s)
    .ok ((beBytes 2 (x.1.length + 6) ++ leBytes 6 0 ++ x.1).take c.dw12, x.2)

/-- The mode pages of a parameter list; `none` where a page is cut off. -/
def parsePages : Nat → List Byte → Option (List (Nat × List Byte))
  | _, [] => some []
  | 0, _ => none
  | k + 1, bs =>
    let n := 2 + leNat ((bs.drop 1).take 1)
    if bs.length < n then none
    else (parsePages k (bs.drop n)).map fun ps => (leNat (bs.take 1) % 64, bs.take n) :: ps

/-- Mode pages set for a logical unit, and saved with SP. -/
def putPages (s : State) (f : Fn) (save : Bool) (ps : List (Nat × List Byte)) : State :=
  forEach ps s fun s p =>
    let s1 := updFn s f fun x => { x with modePages := p :: x.modePages.filter fun q => q.1 ≠ p.1 }
    let keep := fun q : Nat × Nat × List Byte => !(decide (q.1 = f.val) && decide (q.2.1 = p.1))
    if save then updNv s1 fun v => { v with modeSaved := (f.val, p) :: v.modeSaved.filter keep } else s1

/-- MODE SELECT (10): the other initiators learn of it by a unit attention. -/
def modeSelect (s : State) (r : TagRec) : State :=
  let bs := r.cmd.data.take r.cmd.dw12
  let desc := beNat ((bs.drop 6).take 2)
  if bs = [] then finishOk s r.tag
  else if bs.length < 8 + desc then finish s r.tag (stS 5 0x1A 0x00)
  else match parsePages bs.length (bs.drop (8 + desc)) with
    | none => finish s r.tag (stS 5 0x1A 0x00)
    | some ps => finishOk (attnOthers (putPages s r.func (bitAt r.cmd.dw15 0) ps) r.func r.cmd.nexus 0x2A01) r.tag

/-! ### Persistent reservations (R309) -/

/-- SCSI reservation types as the reservation record numbers them. -/
def prType (t : Nat) : Nat := if t = 1 then 1 else if t = 3 then 2 else if 5 ≤ t ∧ t ≤ 8 then t - 2 else 0
/-- The record's types as SCSI numbers them. -/
def prNum (t : Nat) : Nat := if t = 1 then 1 else if t = 2 then 3 else t + 2

/-- REGISTER, and REGISTER AND IGNORE EXISTING KEY. -/
def prRegister (x : Rsv) (who key new : Nat) (ignore : Bool) : Except St Rsv :=
  match keyFor x who with
  | none =>
    if !ignore ∧ key ≠ 0 then .error (stG 0x83)
    else if new = 0 then .ok x
    else rsvRegister x who 0 new 0 true
  | some k =>
    if !ignore ∧ key ≠ k then .error (stG 0x83)
    else if new = 0 then rsvRegister x who k 0 1 true
    else rsvRegister x who k new 2 true

/-- The new state a PERSISTENT RESERVE OUT asks for. -/
def prOut (x : Rsv) (who : Nat) (c : HostCmd) : Except St Rsv :=
  let sa := c.dw13 % 32
  let key := beNat (c.data.take 8)
  let new := beNat ((c.data.drop 8).take 8)
  let typ := prType (c.dw14 % 16)
  let ptpl := bitAt (leNat ((c.data.drop 20).take 1)) 0
  if sa = 0 ∨ sa = 6 then (prRegister x who key new (decide (sa = 6))).map fun y => { y with ptpl := ptpl }
  else if sa = 1 then rsvAcquire x who key 0 0 typ false
  else if sa = 2 then rsvRelease x who key 0 typ false
  else if sa = 3 then rsvRelease x who key 1 typ false
  else if sa = 4 ∨ sa = 5 then rsvAcquire x who key new 1 typ false
  else .error (stG 0x02)

/-- Registrants that lost their registration or the reservation learn it by a unit attention. -/
def prNotify (s : State) (f : Fn) (was now : Rsv) (who : Nat) : State :=
  forEach (was.registrants.map (·.1)) s fun s n =>
    match rsvNotice was now who n with
    | some 2 => attn s f n 0x2A04
    | some _ => attn s f n 0x2A05
    | none => s

/-- PERSISTENT RESERVE OUT acts. -/
def prOutAct (s : State) (r : TagRec) : State :=
  let x := rsvOf s (nsidOf s r)
  match prOut x r.nexus r.cmd with
  | .error e => finish s r.tag e
  | .ok y => finishOk (prNotify (putRsv s y) r.func x y r.nexus) r.tag

/-- PERSISTENT RESERVE IN data. -/
def prInData (x : Rsv) (c : HostCmd) : Option (List Byte) :=
  let gen := beBytes 4 x.gen
  let sa := c.dw13 % 32
  if sa = 0 then some (gen ++ beBytes 4 (8 * x.registrants.length) ++ x.registrants.flatMap fun e => beBytes 8 e.2)
  else if sa = 1 then
    some (match x.holder with
      | some (h, t) => gen ++ beBytes 4 16 ++ beBytes 8 (if allReg t then 0 else (keyFor x h).getD 0) ++ leBytes 5 0 ++ leBytes 1 (prNum t) ++
          leBytes 2 0
      | none => gen ++ beBytes 4 0)
  else if sa = 2 then some (beBytes 2 8 ++ leBytes 1 0x01 ++ leBytes 1 (0x80 + b2n x.ptpl) ++ leBytes 2 0x01EA ++ leBytes 2 0)
  else if sa = 3 then
    let one := fun e : Nat × Nat =>
      beBytes 8 e.2 ++ leBytes 4 0 ++ leBytes 1 (b2n (holdsRsv x e.1)) ++
        leBytes 1 (match x.holder with | some (_, t) => if holdsRsv x e.1 then prNum t else 0 | none => 0) ++ leBytes 4 0 ++ leBytes 2 0 ++
        beBytes 4 24 ++ leBytes 1 6 ++ leBytes 3 0 ++ beBytes 8 e.1 ++ leBytes 12 0
    some (gen ++ beBytes 4 (48 * x.registrants.length) ++ x.registrants.flatMap one)
  else none

/-! ### FORMAT UNIT and SANITIZE (R326, R349, R488) -/

/-- LBA format and protection type that FORMAT UNIT asks for; `none` where SBC-4 has no such combination. -/
def formatPi (c : HostCmd) : Option (Nat × Nat) :=
  let info := fld c.dw15 6 2
  let use_ := leNat (c.data.take 1) % 8
  if info = 0 ∧ use_ = 0 then some (0, 0)
  else if info = 2 ∧ use_ = 0 then some (1, 1)
  else if info = 3 ∧ use_ = 0 then some (1, 2)
  else if info = 3 ∧ use_ = 1 then some (1, 3)
  else none

/-- FORMAT UNIT acts. -/
def formatUnit (s : State) (r : TagRec) : State :=
  match luNs s r.func, formatPi r.cmd with
  | some n, some (lbaf, pi) =>
    if lbaf ≠ 0 ∧ 64 ≤ protectedNs s n.nsid then finish s r.tag (stC 0x0A)
    else finishOk (formatNs lbaf pi n.extended false s n) r.tag
  | _, _ => finish s r.tag (stG 0x02)

/-- SANITIZE: cryptographic erase only, of the logical unit's namespace (R324, R488). -/
def sanitizeUnit (s : State) (r : TagRec) : State :=
  match luNs s r.func with
  | some n => if r.cmd.dw13 % 32 = 3 then finishOk (cryptoErase s n) r.tag else finish s r.tag (stG 0x02)
  | none => finish s r.tag (stG 0x0B)

/-! ### What a SCSI command does once granted -/

/-- Data sent, then success. -/
def giveData (r : TagRec) (d : List Byte × State) : State := finishOk (sendData (commitTag d.2 r.tag) r.tag d.1) r.tag

/-- Data sent, or the status that forbids it. -/
def giveOr (s : State) (r : TagRec) (d : Except St (List Byte × State)) : State :=
  match d with
  | .ok x => giveData r x
  | .error e => finish s r.tag e

/-- Free credits of a host-port mailbox (R414). -/
def mbxFree (x : Mailbox) : Nat := 32 - (x.reqTail + 64 - x.respHead) % 64

/-- MAILBOX SEND acts: one request enters the ring of the port's mailbox; without a free credit it changes
nothing (R418). -/
def sendAct (mb : Mb) (s : State) (r : TagRec) : State :=
  let bs := r.cmd.data.take r.cmd.dw12
  if r.cmd.dw12 < 32 ∨ 2048 < r.cmd.dw12 then finish s r.tag (stG 0x02)
  else if mbxFree s.mbx[mb] = 0 then finish s r.tag (stS 5 0x55 0x03)
  else finishOk (updMbx s mb fun x => { x with reqSlots := smPut x.reqSlots (x.reqTail % 32) bs, reqTail := (x.reqTail + 1) % 64 }) r.tag

/-- MAILBOX RECEIVE acts: the oldest unread response, whose credit returns; else no data. -/
def receiveAct (mb : Mb) (s : State) (r : TagRec) : State :=
  let x := s.mbx[mb]
  if x.respHead = x.respTail then finishOk s r.tag
  else
    let s1 := updMbx s mb fun x => { x with respHead := (x.respHead + 1) % 64 }
    giveData r (((smRead [] x.respSlots (x.respHead % 32)).take r.cmd.dw12), s1)

/-- The oldest notification entries not consumed. -/
def ntfNext (mb : Mb) (x : Mailbox) (n : Nat) : List Byte :=
  (List.range n).flatMap fun k => ntfBytes mb (smRead {} x.ntfs ((x.ntfHead + k) % 64))

/-- MAILBOX RECEIVE with the flag: up to 31 notification entries, which are consumed. -/
def receiveNtf (mb : Mb) (s : State) (r : TagRec) : State :=
  let x := s.mbx[mb]
  let n := min (min (ntfUsed x) 31) (r.cmd.dw12 / 64)
  if n = 0 then finishOk s r.tag
  else
    let s1 := updMbx s mb fun x => { x with ntfHead := (x.ntfHead + n) % 128 }
    giveData r (ntfNext mb x n, s1)

/-- The port a mailbox command came through rides in its frame: byte 1 bit 7 of the flags word. -/
def portMb (c : HostCmd) : Mb := if bitAt c.dw15 31 then 1 else 0

/-- A SCSI command that is no read, write or zone command acts. -/
def sasAct (s : State) (r : TagRec) : State :=
  let c := r.cmd
  match c.opc with
  | 0x12 => giveData r (inquiryData s r.func c)
  | 0xA0 => giveData r (lunsData s c, s)
  | 0x00 => finishOk s r.tag
  | 0x03 => giveData r (requestSense s r.func c)
  | 0x9E => (match luNs s r.func with | some n => giveData r (capacityData n c, s) | none => finish s r.tag (stG 0x0B))
  | 0x04 => formatUnit s r
  | 0x48 => sanitizeUnit s r
  | 0x5A => giveOr s r (modeSenseData s r.func c)
  | 0x55 => modeSelect s r
  | 0x4D => giveOr s r (logSenseData s r.func c)
  | 0x1B => finishOk (updFn s r.func fun x => { x with stopped := !bitAt c.dw15 0 }) r.tag
  | 0x3B => writeBufferAct s r
  | 0x3C => giveData r (sheet s (min c.dw12 2097152) [])
  | 0xA2 => securityIn s r
  | 0x5E => (match prInData (rsvOf s (nsidOf s r)) c with | some d => giveData r (d.take c.dw12, s) | none => finish s r.tag (stG 0x02))
  | 0x5F => prOutAct s r
  | 0x95 =>
    (match luNs s r.func with
     | some n =>
       if !n.zoned then finish s r.tag (stG 0x01)
       else if n.size ≤ slbaOf c then finish s r.tag (stG 0x80)
       else giveData r (sasZones s n c, s)
     | none => finish s r.tag (stG 0x0B))
  | 0xC0 => sendAct (portMb c) s r
  | 0xC1 => if bitAt c.dw15 0 then receiveNtf (portMb c) s r else receiveAct (portMb c) s r
  | _ => finish s r.tag (stG 0x01)

/-- Commands that a unit attention or a missing logical unit does not stop. -/
def sasAlways : List Nat := [0x12, 0xA0, 0x03]

/-- Commands that a stopped unit still serves. -/
def sasStoppedOk : List Nat := [0x12, 0xA0, 0x03, 0x1B, 0x5A, 0x55, 0x4D, 0x5E, 0x5F, 0x3B, 0x3C, 0xA2, 0xB5, 0xC0, 0xC1]

/-- Commands that a reservation of another initiator keeps out, the I/O commands apart. -/
def sasReserved : List Nat := [0x04, 0x48, 0x55, 0x1B, 0x3B]

/-- The status that ends a SCSI command at admission, the checks of the I/O commands apart (R349, R356). -/
def sasCheck (s : State) (r : TagRec) : Option St :=
  let o := r.cmd.opc
  if sasAlways.contains o ∨ o = 0xC0 ∨ o = 0xC1 then none
  else if (luNs s r.func).isNone then some (stG 0x0B)
  else match (earlier s r).findSome? (wholeStatus s r) with
    | some e => some e
    | none =>
      if (fnOf s r.func).stopped && !sasStoppedOk.contains o then some (stS 2 0x04 0x02)
      else if sasReserved.contains o && conflicts (rsvOf s (nsidOf s r)) r.nexus true then some (stG 0x83)
      else none

/-- What a SCSI command does once nothing holds it; SECURITY PROTOCOL OUT waits for its row, which carries the method. -/
def sasBody (s : State) (r : TagRec) : State :=
  if opOf s r ≠ .other then ioAct s r else if r.cmd.opc = 0xB5 then updTag s r.tag fun x => { x with stage := 2 } else sasAct s r

/-- A granted SCSI command: checked, then acts or waits. -/
def sasRun (s : State) (r : TagRec) : State :=
  match sasCheck s r with
  | some e => finish s r.tag e
  | none =>
    if opOf s r ≠ .other then admitCmd s r (ioCheck s r) sasBody
    else if heldUp s r then updTag s r.tag fun x => { x with stage := 2 }
    else sasBody s r

/-! ### The grant (R315 to R318, R323) -/

/-- The command of a logical unit that is granted next: nexuses in turn, the oldest of each (R24, R323). -/
def nextSas (s : State) (f : Fn) : Option TagRec :=
  let ws := sasWaiting s f
  (nextQid (fnOf s f).qPtr (ws.map (·.nexus))).bind fun n => ws.find? fun r => r.nexus = n

/-- A grant to a function: its charge, its place in the fetch order and the rotating pointers (R24, R315, R317). -/
def noteGrant (s : State) (f : Fn) : State :=
  let s1 := updQuay (chargeC s f) fun q => { q with fetchSeq := q.fetchSeq + 1, lastFn := some f, funcPtr := (f.val + 1) % 1024 }
  rescale s1

/-- The state once a SCSI command is granted, its place in the fetch order fixed (R323, R329). -/
def sasEntered (s : State) (r : TagRec) : State :=
  let r1 := { r with await := false, order := s.quay.fetchSeq }
  let s1 := noteGrant (updTag s r.tag fun _ => r1) r.func
  knowCmd (updFn s1 r.func fun x => { x with qPtr := (r.nexus + 1) % 65536 }) r1

/-- A SCSI command enters execution (R323, R329). -/
def grantSas (s : State) (r : TagRec) : State :=
  refresh (match tagAt (sasEntered s r) r.tag with | some x => sasRun (sasEntered s r) x | none => sasEntered s r)

/-! ### Receipt (R323, R345, R519, R522) -/

/-- A response without a tag. -/
def sasAnswer (s : State) (f : Fn) (c : HostCmd) (st : St) : State := emit s (.sasResp f.val c.cid (sasOf st.1))

/-- Before admission three commands are served, and every other is NOT READY (R519). -/
def sasEarly (s : State) (f : Fn) (c : HostCmd) : State :=
  let give := fun d : List Byte × State => sasAnswer (emit d.2 (.data f.val c.cid d.1)) f c stOk
  if c.opc = 0x12 then give (inquiryData s f c)
  else if c.opc = 0xA0 then give (lunsData s c, s)
  else if c.opc = 0x03 then give (requestSense s f c)
  else sasAnswer s f c (stS 2 0x04 0x01)

/-- The initiator is known from now on. -/
def knowNexus (s : State) (n : Nat) : State :=
  updQuay s fun q => { q with initiators := if q.initiators.contains n then q.initiators else q.initiators ++ [n] }

/-- The command's tag, with its place among the commands that wait for the arbiter (R323). -/
def takeTag (s : State) (f : Fn) (c : HostCmd) (t : Tag) : State :=
  let r : TagRec := { tag := t, stage := 1, func := f, qid := f.val, cid := c.cid, cmd := c, nexus := c.nexus, await := true }
  let s1 := updCmds s fun x => { x with tags := x.tags ++ [r], tagPtr := ⟨(t.val + 1) % 4096, Nat.mod_lt _ (by decide)⟩ }
  updFn s1 f fun x => { x with fetched := x.fetched + 1 }

/-- A command that ends on receipt. -/
def endReceived (s : State) (t : Tag) (st : St) : State := finish (updTag s t fun r => { r with await := false }) t st

/-- What follows the receipt: a unit attention or the ACA attribute ends it; else it is granted when the
arbiter's choice falls on it, or waits (R318, R349, R355). -/
def afterTag (s : State) (f : Fn) (c : HostCmd) (t : Tag) : State :=
  match (if sasAlways.contains c.opc then none else attnOf s f c.nexus) with
  | some e => endReceived (dropAttn s f e) t (stS 6 (e.2 / 256) (e.2 % 256))
  | none =>
    if c.attr = 4 then endReceived s t (stS 5 0x0E 0x03)
    else
      let s1 := refresh s
      match chooseFn s1, nextSas s1 f with
      | some g, some r => if g = f ∧ r.tag = t then grantSas s1 r else s1
      | _, _ => s1

/-- A command frame arrives (R323, R345): TASK SET FULL or BUSY where no tag can be taken. -/
def sasReceive (s0 : State) (f : Fn) (c : HostCmd) : State :=
  let s := knowNexus s0 c.nexus
  if !admits s f (sasAdminOps.contains c.opc) then sasAnswer s f c (stB (if 0 < tagsOf s f then 0x28 else 0x08))
  else match nextTag s with
    | some t => afterTag (takeTag s f c t) f c t
    | none => sasAnswer s f c (stB (if 0 < tagsOf s f then 0x28 else 0x08))

/-- A command frame at a SAS port, whatever the device is doing. -/
def sasRow (s : State) (f : Fn) (c : HostCmd) : State :=
  if s.quay.disabled ∨ !s.quay.sas ∨ s.bw.started then s
  else if s.phase = .halted then sasAnswer s f c (stS 4 0x44 0x00)
  else if s.phase = .boot ∨ (s.phase = .run ∧ !hostIo s) then sasEarly s f c
  else if s.phase = .run then sasReceive s f c
  else s

/-! ### The commands -/

/-- INQUIRY (R519). -/
def execInquiry (lu : Fn) (c : HostCmd) (s : State) : Host.Outcome State Fault Refusal := .next (sasRow s lu { c with opc := 0x12 })
/-- REPORT LUNS (R519). -/
def execReportLuns (lu : Fn) (c : HostCmd) (s : State) : Host.Outcome State Fault Refusal := .next (sasRow s lu { c with opc := 0xA0 })
/-- TEST UNIT READY (R519). -/
def execTestUnitReady (lu : Fn) (c : HostCmd) (s : State) : Host.Outcome State Fault Refusal := .next (sasRow s lu { c with opc := 0x00 })
/-- REQUEST SENSE (R330, R519). -/
def execRequestSense (lu : Fn) (c : HostCmd) (s : State) : Host.Outcome State Fault Refusal := .next (sasRow s lu { c with opc := 0x03 })
/-- READ CAPACITY (16) (R324). -/
def execReadCapacity16 (lu : Fn) (c : HostCmd) (s : State) : Host.Outcome State Fault Refusal := .next (sasRow s lu { c with opc := 0x9E })
/-- READ (16) (R16, R348). -/
def execRead16 (lu : Fn) (c : HostCmd) (s : State) : Host.Outcome State Fault Refusal := .next (sasRow s lu { c with opc := 0x88 })
/-- WRITE (16) (R13, R252, R536). -/
def execWrite16 (lu : Fn) (c : HostCmd) (s : State) : Host.Outcome State Fault Refusal := .next (sasRow s lu { c with opc := 0x8A })
/-- VERIFY (16) (R342). -/
def execVerify16 (lu : Fn) (c : HostCmd) (s : State) : Host.Outcome State Fault Refusal := .next (sasRow s lu { c with opc := 0x8F })
/-- SYNCHRONIZE CACHE (16) completes on admission (R349). -/
def execSynchronizeCache16 (lu : Fn) (c : HostCmd) (s : State) : Host.Outcome State Fault Refusal := .next (sasRow s lu { c with opc := 0x91 })
/-- UNMAP, conventional units only (R262, R324). -/
def execUnmap (lu : Fn) (c : HostCmd) (s : State) : Host.Outcome State Fault Refusal := .next (sasRow s lu { c with opc := 0x42 })
/-- FORMAT UNIT (R349). -/
def execFormatUnit (lu : Fn) (c : HostCmd) (s : State) : Host.Outcome State Fault Refusal := .next (sasRow s lu { c with opc := 0x04 })
/-- SANITIZE (R488). -/
def execScsiSanitize (lu : Fn) (c : HostCmd) (s : State) : Host.Outcome State Fault Refusal := .next (sasRow s lu { c with opc := 0x48 })
/-- MODE SENSE (10) (R324). -/
def execModeSense10 (lu : Fn) (c : HostCmd) (s : State) : Host.Outcome State Fault Refusal := .next (sasRow s lu { c with opc := 0x5A })
/-- MODE SELECT (10) (R329). -/
def execModeSelect10 (lu : Fn) (c : HostCmd) (s : State) : Host.Outcome State Fault Refusal := .next (sasRow s lu { c with opc := 0x55 })
/-- LOG SENSE (R336). -/
def execLogSense (lu : Fn) (c : HostCmd) (s : State) : Host.Outcome State Fault Refusal := .next (sasRow s lu { c with opc := 0x4D })
/-- START STOP UNIT (R324). -/
def execStartStopUnit (lu : Fn) (c : HostCmd) (s : State) : Host.Outcome State Fault Refusal := .next (sasRow s lu { c with opc := 0x1B })
/-- WRITE BUFFER mode 0x0E (R526). -/
def execWriteBufferMode0e (lu : Fn) (c : HostCmd) (s : State) : Host.Outcome State Fault Refusal :=
  .next (sasRow s lu { c with opc := 0x3B, dw13 := 0x0E })
/-- WRITE BUFFER mode 0x0F (R526). -/
def execWriteBufferMode0f (lu : Fn) (c : HostCmd) (s : State) : Host.Outcome State Fault Refusal :=
  .next (sasRow s lu { c with opc := 0x3B, dw13 := 0x0F })
/-- WRITE BUFFER mode 0x07 (R526). -/
def execWriteBufferMode07 (lu : Fn) (c : HostCmd) (s : State) : Host.Outcome State Fault Refusal :=
  .next (sasRow s lu { c with opc := 0x3B, dw13 := 0x07 })
/-- READ BUFFER (R324): the bytes of the buffer are free values. -/
def execReadBuffer (lu : Fn) (c : HostCmd) (s : State) : Host.Outcome State Fault Refusal := .next (sasRow s lu { c with opc := 0x3C })
/-- SECURITY PROTOCOL IN (R489). -/
def execSecurityProtocolIn (lu : Fn) (c : HostCmd) (s : State) : Host.Outcome State Fault Refusal := .next (sasRow s lu { c with opc := 0xA2 })

/-- The task of a frame that waits in ORDER_WAIT. -/
def waitingTask (s : State) (f : Fn) (c : HostCmd) : Option TagRec :=
  s.cmds.tags.find? fun r => decide (r.func = f) && decide (r.cmd = c) && decide (r.stage = 2) && !r.await && !r.aborted

/-- SECURITY PROTOCOL OUT (R489): the frame is received, and its method acts once the command is granted and
nothing holds it; given again, it goes on with the task that waits. -/
def execSecurityProtocolOut (lu : Fn) (c : HostCmd) (m : OpalMethod) (s : State) : Host.Outcome State Fault Refusal :=
  .next (let c1 := { c with opc := 0xB5 }
    let s1 := if (waitingTask s lu c1).isSome then s else sasRow s lu c1
    match waitingTask s1 lu c1 with
    | some r => if live s1 && !s1.bw.started then securityOut s1 r m else s1
    | none => s1)

/-- PERSISTENT RESERVE IN (R309). -/
def execPersistentReserveIn (lu : Fn) (c : HostCmd) (s : State) : Host.Outcome State Fault Refusal := .next (sasRow s lu { c with opc := 0x5E })
/-- PERSISTENT RESERVE OUT (R309). -/
def execPersistentReserveOut (lu : Fn) (c : HostCmd) (s : State) : Host.Outcome State Fault Refusal := .next (sasRow s lu { c with opc := 0x5F })
/-- REPORT ZONES (R324, R327). -/
def execScsiReportZones (lu : Fn) (c : HostCmd) (s : State) : Host.Outcome State Fault Refusal := .next (sasRow s lu { c with opc := 0x95 })
/-- RESET WRITE POINTER (R259, R349). -/
def execResetWritePointer (lu : Fn) (c : HostCmd) (s : State) : Host.Outcome State Fault Refusal :=
  .next (sasRow s lu { c with opc := 0x94, dw13 := 4 })
/-- OPEN ZONE (R253, R349). -/
def execOpenZone (lu : Fn) (c : HostCmd) (s : State) : Host.Outcome State Fault Refusal := .next (sasRow s lu { c with opc := 0x94, dw13 := 3 })
/-- CLOSE ZONE (R327, R349). -/
def execCloseZone (lu : Fn) (c : HostCmd) (s : State) : Host.Outcome State Fault Refusal := .next (sasRow s lu { c with opc := 0x94, dw13 := 1 })
/-- FINISH ZONE (R258, R349). -/
def execFinishZone (lu : Fn) (c : HostCmd) (s : State) : Host.Outcome State Fault Refusal := .next (sasRow s lu { c with opc := 0x94, dw13 := 2 })

/-- A mailbox command with its port in the flags word. -/
def withPort (port : Fin 2) (opc flag : Nat) (c : HostCmd) : HostCmd := { c with opc := opc, dw15 := flag + 2 ^ 31 * port.val }

/-- MAILBOX SEND (R418). -/
def execMailboxSend (lu : Fn) (port : Fin 2) (c : HostCmd) (s : State) : Host.Outcome State Fault Refusal :=
  .next (sasRow s lu (withPort port 0xC0 0 c))
/-- MAILBOX RECEIVE (R418). -/
def execMailboxReceive (lu : Fn) (port : Fin 2) (c : HostCmd) (s : State) : Host.Outcome State Fault Refusal :=
  .next (sasRow s lu (withPort port 0xC1 0 c))
/-- MAILBOX RECEIVE with CDB byte 1 bit 0 set (R418). -/
def execMailboxReceiveNotify (lu : Fn) (port : Fin 2) (c : HostCmd) (s : State) : Host.Outcome State Fault Refusal :=
  .next (sasRow s lu (withPort port 0xC1 1 c))

/-! ### Task management (R355) -/

/-- Response codes: 0 FUNCTION COMPLETE, 4 FUNCTION REJECTED, 8 FUNCTION SUCCEEDED. -/
def tmAnswer (s : State) (f : Fn) (nexus code resp : Nat) : State :=
  if sasUp s then emit (knowNexus s nexus) (.taskResp f.val code resp) else s

/-- ABORT TASK is rejected. -/
def execAbortTask (lu : Fn) (nexus _cid : Nat) (s : State) : Host.Outcome State Fault Refusal := .next (tmAnswer s lu nexus 0x01 4)

/-- ABORT TASK SET: the tasks of the I_T_L nexus are swept. -/
def execAbortTaskSet (lu : Fn) (nexus : Nat) (s : State) : Host.Outcome State Fault Refusal :=
  .next (if sasUp s then
      endTasks (sweepFor (knowNexus s nexus) lu nexus 0x02 fun r => decide (r.func = lu) && decide (r.nexus = nexus))
    else s)

/-- CLEAR TASK SET: every task of the logical unit is swept; the other initiators learn it. -/
def execClearTaskSet (lu : Fn) (nexus : Nat) (s : State) : Host.Outcome State Fault Refusal :=
  .next (if sasUp s then
      endTasks (sweepFor (attnOthers (knowNexus s nexus) lu nexus 0x2F00) lu nexus 0x04 fun r => decide (r.func = lu))
    else s)

/-- The mode pages of a logical unit return to their saved values. -/
def restorePages (s : State) (f : Fn) : State :=
  updFn s f fun x => { x with modePages := (s.nv.modeSaved.filter fun p => p.1 = f.val).map (·.2) }

/-- LOGICAL UNIT RESET: as CLEAR TASK SET, with the mode pages and a unit attention to every initiator. -/
def execLogicalUnitReset (lu : Fn) (nexus : Nat) (s : State) : Host.Outcome State Fault Refusal :=
  .next (if sasUp s then
      let s1 := restorePages (knowNexus s nexus) lu
      let s2 := forEach s1.quay.initiators s1 fun s n => attn s lu n 0x2903
      endTasks (sweepFor s2 lu nexus 0x08 fun r => decide (r.func = lu))
    else s)

/-- The logical units that exist. -/
def unitsOf (s : State) : List Fn := (List.finRange 1024).filter fun f => (luNs s f).isSome

/-- I_T NEXUS RESET: the tasks of the nexus are swept; that initiator learns it. -/
def execITNexusReset (nexus : Nat) (s : State) : Host.Outcome State Fault Refusal :=
  .next (if sasUp s then
      let s1 := forEach (unitsOf s) (knowNexus s nexus) fun s f => attn s f nexus 0x2907
      endTasks (sweepFor s1 0 nexus 0x10 fun r => decide (r.nexus = nexus))
    else s)

/-- QUERY TASK: succeeds while the task is in the task set. -/
def execQueryTask (lu : Fn) (nexus cid : Nat) (s : State) : Host.Outcome State Fault Refusal :=
  .next (tmAnswer s lu nexus 0x80
    (if s.cmds.tags.any fun r => decide (r.func = lu) && decide (r.nexus = nexus) && decide (r.cid = cid) then 8 else 0))

/-- QUERY TASK SET: succeeds while the nexus has a task in the task set. -/
def execQueryTaskSet (lu : Fn) (nexus : Nat) (s : State) : Host.Outcome State Fault Refusal :=
  .next (tmAnswer s lu nexus 0x81 (if s.cmds.tags.any fun r => decide (r.func = lu) && decide (r.nexus = nexus) then 8 else 0))

/-- QUERY ASYNCHRONOUS EVENT: succeeds while a unit attention waits for the nexus. -/
def execQueryAsynchronousEvent (lu : Fn) (nexus : Nat) (s : State) : Host.Outcome State Fault Refusal :=
  .next (tmAnswer s lu nexus 0x82 (if (attnOf s lu nexus).isSome then 8 else 0))

/-- CLEAR ACA is rejected. -/
def execClearAca (lu : Fn) (nexus : Nat) (s : State) : Host.Outcome State Fault Refusal := .next (tmAnswer s lu nexus 0x40 4)

end Sys2Proof.Machine
end

