-- ==== Sys2Proof/Machine/Execute.lean ====
section
/-! DEFINITION. Execute: the arbiter's grant, and a command that leaves ORDER_WAIT (R24, R315 to R319, R323,
R338, R341, R348 to R350). -/

namespace Sys2Proof.Machine

/-! ### ORDER_WAIT_RELEASE -/

/-- What an NVMe admin command does once nothing holds it; Security Send waits for its row, which carries the
method. -/
def adminAct (s : State) (r : TagRec) : State :=
  let c := r.cmd
  match c.opc with
  | 0x00 => deleteSqAct s r
  | 0x01 => createSqAct s r
  | 0x02 => if namesTally c then tallyLogAct s r else logAct s r
  | 0x04 => deleteCqAct s r
  | 0x05 => createCqAct s r
  | 0x06 => identifyAct s r
  | 0x08 => abortAct s r
  | 0x09 => if c.dw10 % 256 = 0x0E then setTimeAct s r else setFeatAct s r
  | 0x0A => getFeatAct s r
  | 0x0C => aerAct s r
  | 0x0D => if c.dw10 % 16 = 0 then nsCreateAct s r else nsDeleteAct s r
  | 0x10 => fwCommitAct s r
  | 0x11 => downloadAct s r
  | 0x14 => selfTestAct s r
  | 0x15 => if c.dw10 % 16 = 1 then detachAct s r else attachAct s r
  | 0x1C => virtAct s r
  | 0x80 => formatAct s r
  | 0x81 => s
  | 0x82 => securityIn s r
  | 0x84 => sanitizeAct s r
  | 0x86 => lbaStatusAct s r
  | _ => finish s r.tag (stG 0x01)

/-- What a command does once nothing holds it, in either personality. -/
def act (s : State) (r : TagRec) : State :=
  if s.quay.sas then sasBody s r
  else if r.qid = 0 then adminAct s r
  else if noEffect s r then finishOk s r.tag
  else ioAct s r

/-- The command waits in ORDER_WAIT and what it awaits has come. -/
def released (s : State) (r : TagRec) : Bool :=
  live s && !s.bw.started && decide (r.stage = 2) && !r.aborted && !heldUp s r

/-- ORDER_WAIT_RELEASE (R341, R348 to R350). -/
def execOrderWaitRelease (t : Tag) (s : State) : Host.Outcome State Fault Refusal :=
  .next (match tagAt s t with
    | some r => if released s r then act s r else s
    | none => s)

/-! ### ARBITER_GRANT -/

/-- The tag of an entry granted and not yet returned (R338). -/
def entryTag (s : State) (f : Fn) (qid : Nat) (t : Tag) : State :=
  let r : TagRec := { tag := t, stage := 1, func := f, qid := qid, order := s.quay.fetchSeq, await := true }
  updCmds s fun x => { x with tags := x.tags ++ [r], tagPtr := ⟨(t.val + 1) % 4096, Nat.mod_lt _ (by decide)⟩ }

/-- A grant to an NVMe function: one entry of the queue its own arbiter chooses is fetched (R315, R316). -/
def grantNvme (s : State) (f : Fn) : State :=
  match chooseQueue s f, nextTag s with
  | some (m, y), some t =>
    let g := grantedQueue y m
    let s1 := entryTag (updFn s f fun _ => { g.1 with fetched := g.1.fetched + 1 }) f m.qid t
    let s2 := updMoor (touchMoor s1 f m.qid) f m.qid fun x =>
      { x with sqFetch := (m.sqFetch + 1) % (m.sqSize + 1), inflight := x.inflight + 1, granted := g.2 }
    let s3 := updQuay (noteGrant s2 f) fun q => { q with grants := q.grants ++ [(f, m.qid)] }
    refresh (emit s3 (.fetch f.val m.qid m.sqFetch))
  | _, _ => s

/-- ARBITER_GRANT: the eligible function with the smallest key is granted (R318). -/
def execArbiterGrant (s : State) : Host.Outcome State Fault Refusal :=
  .next (let s1 := refresh s
    match chooseFn s1 with
    | none => s1
    | some f =>
      if s.quay.sas then (match nextSas s1 f with | some r => grantSas s1 r | none => s1) else grantNvme s1 f)

end Sys2Proof.Machine
end

