-- ==== Sys2Proof/Machine/Recorder.lean ====
section
/-! DEFINITION. Recorder: flushing, reading and clearing the event recorder, the counters and their blocks,
and the incident table (R500 to R508, R511 to R514). -/

namespace Sys2Proof.Machine

/-! ### NOR copies of the event ring (R502, R503) -/

/-- The next sector of a copy that is not marked bad; 65 sectors form its ring. -/
def nextSector (c : NorCopy) : Option Nat :=
  ((List.range 65).map fun k => (c.sector + 1 + k) % 65).find? fun x => !c.bad.contains x

/-- The copy moves on to its next good sector. -/
def toNextSector (c : NorCopy) : NorCopy :=
  match nextSector c with
  | some x => { c with sector := x, fill := 0 }
  | none => c

/-- A page of 8 record slots is programmed; a sector is erased before its first page, which discards its
oldest records. -/
def programPage (c : NorCopy) (page : List EvRec) : NorCopy :=
  if c.bad.contains c.sector then c
  else
    let kept := if c.fill = 0 then c.recs.filter fun r => r.1 ≠ c.sector else c.recs
    let c1 := { c with recs := kept ++ page.map fun r => (c.sector, r), fill := c.fill + 8 }
    if 2048 ≤ c1.fill then toNextSector c1 else c1

/-- A program or erase that failed: the sector is bad, and the page goes to the next one. -/
def failPage (c : NorCopy) (page : List EvRec) : NorCopy :=
  programPage (toNextSector { c with bad := c.sector :: c.bad }) page

/-- A copy changed by `f`. -/
def updCopy (s : State) (k : Fin 2) (f : NorCopy → NorCopy) : State := updNv s fun v => { v with copies := vupd v.copies k f }

/-- A page goes to one copy; a failure records NOR_COPY_FAIL (R503). -/
def flushCopy (s : State) (k : Fin 2) (ok : Bool) (page : List EvRec) : State :=
  if ok then updCopy s k fun c => programPage c page
  else
    raise (updCopy s k fun c => failPage c page) (.numbered 0x0003) 2 0x00 0 k.val s.nv.copies[k].sector 0

/-- A page goes to both copies, A first (R502). -/
def flushPage (s : State) (okA okB : Bool) (page : List EvRec) : State := flushCopy (flushCopy s 0 okA page) 1 okB page

/-- NOR may be programmed: the device is clocked or halted, and neither NV-write inhibit nor a breakwater holds. -/
def norFree (s : State) : Bool := (powered s || decide (s.phase = .halted)) && !s.bw.inhibit && !s.bw.started && !s.evr.stopped

/-- A flush is due: 8 records wait, or the oldest has waited 1 s by its stamp (R502). -/
def flushDue (s : State) : Bool :=
  decide (8 ≤ s.evr.buf.length) || (match s.evr.buf with
    | r :: _ => decide (r.powerOnS * 1000 + r.msec + 1000 ≤ onMs s) || decide (onMs s < r.powerOnS * 1000 + r.msec)
    | [] => false)

/-- EVENT_FLUSH: a flush that has become due programs the oldest waiting records (R502). -/
def execEventFlush (okA okB : Bool) (s : State) : Host.Outcome State Fault Refusal :=
  .next (if norFree s && flushDue s then
      let page := s.evr.buf.take 8
      coverDrops (flushPage (updEvr s fun v => { v with buf := v.buf.drop 8 }) okA okB page)
    else s)

/-! ### Records held (R500, R503 to R505) -/

/-- A record enters a list sorted by RECNO; one already there stands. -/
def insertRec (r : EvRec) : List EvRec → List EvRec
  | [] => [r]
  | x :: xs => if r.recno = x.recno then x :: xs else if serialLt r.recno x.recno then r :: x :: xs else x :: insertRec r xs

/-- The union of both copies, A preferred, and of the buffer, by RECNO. -/
def unionRecs (s : State) : List EvRec :=
  (s.nv.copies[(0 : Fin 2)].recs.map (·.2) ++ s.nv.copies[(1 : Fin 2)].recs.map (·.2) ++ s.evr.buf).foldl (fun l r => insertRec r l) []

/-- The newest RECORDER_CLEARED record held. -/
def clearedAt (l : List EvRec) : Option Nat := (l.reverse.find? fun (r : EvRec) => decide (r.ev = .numbered 0x0001)).map fun (r : EvRec) => r.recno

/-- A record as read: one that fails its CHECK in both copies reads as RECORD_LOST (R504). -/
def asRead (s : State) (r : EvRec) : EvRec := if s.evr.lost.contains r.recno then { ev := .numbered 0x0004, sev := 3, recno := r.recno } else r

/-- The records a reader sees, ascending: none below the newest RECORDER_CLEARED (R505). -/
def heldRecs (s : State) : List EvRec :=
  let l := unionRecs s
  (match clearedAt l with | some m => l.filter fun (r : EvRec) => serialLe m r.recno | none => l).map (asRead s)

/-- The oldest record number held; the next to be assigned where none is held. -/
def oldestRec (s : State) : Nat := match heldRecs s with | r :: _ => r.recno | [] => s.evr.nextRecno

/-- Where a mailbox's next read starts (R504). -/
def cursorOf (s : State) (mb : Mb) : Nat :=
  let x := s.mbx[mb]
  if x.cursorSet && !serialLt x.cursor (oldestRec s) then x.cursor else oldestRec s

/-- A cursor set. -/
def putCursor (s : State) (mb : Mb) (n : Nat) : State := updMbx s mb fun x => { x with cursor := n, cursorSet := true }

/-- The body of EVT_SET_CURSOR (R504). -/
def evtCursor (mb : Mb) (mode pos : Nat) (s : State) : Ans :=
  if mode = 1 then okA (putCursor s mb (oldestRec s))
  else if mode = 2 then okA (putCursor s mb s.evr.nextRecno)
  else if mode ≠ 0 then rangeA s
  else if serialLt s.evr.nextRecno pos then notFoundA s
  else okA (putCursor s mb (if serialLt pos (oldestRec s) then oldestRec s else pos))

def execEvtSetCursor (r : Req) (mode position : Nat) (s : State) : Host.Outcome State Fault Refusal :=
  .next (serve s r { opc := 0x0701, need := .rd } (.evtSetCursor r mode position) (evtCursor r.mb mode position))

/-- The body of EVT_READ (R504): COUNT u8, CURSOR u32, the records. -/
def evtRead (mb : Mb) (count : Nat) (s : State) : Ans :=
  if 62 < count then rangeA s
  else
    let at_ := cursorOf s mb
    let rs := ((heldRecs s).filter fun r => serialLe at_ r.recno).take count
    let next := match rs.getLast? with | some r => (r.recno + 1) % 2 ^ 32 | none => at_
    dataA (putCursor s mb next) (leBytes 4 rs.length ++ leBytes 4 next ++ rs.flatMap evBytes)

def execEvtRead (r : Req) (count : Nat) (s : State) : Host.Outcome State Fault Refusal :=
  .next (serve s r { opc := 0x0702, need := .rd } (.evtRead r count) (evtRead r.mb count))

/-- The RECORDER_CLEARED record: it takes the next RECNO (R505). -/
def clearRecord (s : State) (mb : Mb) (roles : Nat) : EvRec :=
  let m := s.evr.nextRecno
  { stamp s (.numbered 0x0001) 1 0x00 0 ((m + 2 ^ 32 - 1) % 2 ^ 32) mb.val (roles % 4) with recno := m }

/-- The clearing record goes to both copies at once, in a page of its own; the records waiting below it are
discarded. -/
def clearRing (s : State) (r : EvRec) : State :=
  notifyEvent (flushPage (updEvr s fun v => { v with buf := [], nextRecno := (v.nextRecno + 1) % 2 ^ 32 }) true true [r]) r

/-- The body of EVT_CLEAR (R505). -/
def evtClear (mb : Mb) (roles : Nat) (s : State) : Ans := okA (coverDrops (clearRing s (clearRecord s mb roles)))

/-- EVT_CLEAR: the roles of the authorisation are read before it is consumed. -/
def execEvtClear (r : Req) (s : State) : Host.Outcome State Fault Refusal :=
  .next (serve s r { opc := 0x0703, need := .sg, writesNor := true } (.evtClear r) (evtClear r.mb s.mbx[r.mb].armedRoles))

/-! ### Counters (R506 to R508) -/

/-- The counters of a set, in order, as u64. -/
def u64s (l : List Nat) : List Byte := l.flatMap (leBytes 8)

/-- The head set. -/
def headCtrs (c : HeadCtr) : List Nat :=
  [c.assistUs, c.assistMj, c.bytesRead, c.bytesWritten, c.contacts, c.reallocs, c.weakSectors, c.posTrips]
/-- The actuator set. -/
def actCtrs (c : ActCtr) : List Nat :=
  [c.loadCycles, c.bwParks, c.parkFails, c.retracts, c.seekFails, c.twinRefused, c.twinFallbacks]
/-- The device set. -/
def devCtrs (s : State) : List Nat :=
  let c := s.ctr.dev
  [c.powerOnS, c.powerCycles, c.spindleRevs, c.breakwaters, c.imageInvalids, c.incidents, s.evr.nextRecno]

/-- The body of CTR_READ (R506). -/
def ctrRead (scope index : Nat) (s : State) : Ans :=
  if 2 < scope then rangeA s
  else if scope = 0 then (if index = 0 then dataA s (u64s (devCtrs s)) else notFoundA s)
  else if scope = 1 then (match selHead s index with | some h => dataA s (u64s (headCtrs s.ctr.heads[h])) | none => notFoundA s)
  else match selAct index with
    | some a => if headsOf s a = [] then notFoundA s else dataA s (u64s (actCtrs s.ctr.acts[a]))
    | none => notFoundA s

def execCtrRead (r : Req) (scope index : Nat) (s : State) : Host.Outcome State Fault Refusal :=
  .next (serve s r { opc := 0x0704, need := .rd } (.ctrRead r scope index) (ctrRead scope index))

/-- A copy of the counter ring that failed (R503). -/
def blockFail (s : State) (k : Nat) (ok : Bool) : State :=
  if ok then s else raise s (.numbered 0x0003) 2 0x00 0 k ((newestBlock s).map (·.gen % 16) |>.getD 0) 1

/-- COUNTER_BLOCK_WRITE: 600 s of POWER_ON_S have passed since the last block (R507, R514). -/
def execCounterBlockWrite (okA okB : Bool) (s : State) : Host.Outcome State Fault Refusal :=
  .next (if norFree s && decide (600 ≤ s.aon.sinceBlock) then
      blockFail (blockFail (putCtrBlock s okA okB) 0 okA) 1 okB
    else s)

/-- POWER_ON_SECOND: one second of the 32.768 kHz crystal has passed with VDD_AON in range (R508, R509). -/
def execPowerOnSecond (s : State) : Host.Outcome State Fault Refusal :=
  .next { updDevCtr s fun d => { d with powerOnS := ctrAdd d.powerOnS 1 } with
    aon := { s.aon with secUs := s.us, sinceBlock := s.aon.sinceBlock + 1 } }

/-! ### Incidents (R511 to R514) -/

/-- INCIDENT_CLOSE: 10 ms without a further report of the root key (R511, R513). -/
def execIncidentClose (index : Fin 256) (s : State) : Host.Outcome State Fault Refusal := .next (closeIncident s index)

/-- An incident entry as bytes (R512); a FREE entry reads zeros. -/
def incidentBytes (x : Incident) : List Byte :=
  if x.state = 0 then leBytes 64 0
  else
    leBytes 64 (packF [(448, 64, x.reporters.foldl (fun a u => a + 2 ^ u) 0), (416, 32, x.rootRecno), (384, 32, x.reports), (352, 32, x.lastS),
      (320, 32, x.firstS), (310, 10, x.lastMs), (300, 10, x.firstMs), (289, 11, x.funcs), (279, 10, x.firstFunc), (275, 4, x.action),
      (272, 3, x.sev), (240, 32, x.rootId), (232, 8, x.rootClass), (230, 2, x.state), (0, 32, x.number)])

/-- The body of HBM_GET_INCIDENT. -/
def getIncident (index : Nat) (s : State) : Ans :=
  if h : index < 256 then dataA s (incidentBytes s.incidents[(⟨index, h⟩ : Fin 256)]) else notFoundA s

def execHbmGetIncident (r : Req) (index : Nat) (s : State) : Host.Outcome State Fault Refusal :=
  .next (serve s r { opc := 0x0705, need := .rd } (.hbmGetIncident r index) (getIncident index))

end Sys2Proof.Machine
end

