-- ==== Sys2Proof/Machine/Auditor.lean ====
section
/-! DEFINITION. Auditor: re-initialisation of functions, engines and mailboxes, and the ledger auditor that
orders it on a breach (R26 to R30, R354, R434, R515). -/

namespace Sys2Proof.Machine

/-! ### Re-initialisation (R28, R354, R402, R434) -/

/-- ENGINE_REINIT of a function: its commands end without a completion, its moorings stay with INFLIGHT 0. -/
def reinitFn (s : State) (f : Fn) : State :=
  let s1 := endCommands s f
  refresh (updQuay s1 fun q => { q with moorings := q.moorings.map fun m => if m.func = f then { m with inflight := 0 } else m })

/-- Commands that wait on an engine and are not committed end with Command Interrupted (R354). -/
def interrupt (s : State) (p : TagRec → Bool) : State :=
  forEach (s.cmds.tags.filter fun r => p r && !r.latch && !r.await && !r.parked && decide (r.stage < 5)) s fun s r =>
    finish (stopWork s r) r.tag (stRetry 0x21)

/-- ENGINE_REINIT of the Host Quay: the commands in it that are not committed. -/
def reinitQuay (s : State) : State := refresh (interrupt s fun _ => true)

/-- The tags whose media operations have a sector on rung 4 (R174). -/
def onParity (s : State) : List Tag :=
  allActs.flatMap fun a => s.cmds.pilots[a].entries.filterMap fun o =>
    if (List.range o.count).any fun k => (rung4At s a o k).isSome then o.tag else none

/-- ENGINE_REINIT of a parity engine: its stripe goes back to wait for one; reads that wait on parity end. -/
def reinitParity (s : State) (k : Fin 4) : State :=
  let s1 := interrupt s fun r => (onParity s).contains r.tag
  match s.brt.parity[k] with
  | none => s1
  | some x =>
    let n := match berthAt s1 x.1 with | some b => layK b.layout | none => 0
    updBrt s1 fun e => { e with parity := vupd e.parity k fun _ => none, destage := x :: e.destage, parityBufs := e.parityBufs - n }

/-- The tags whose media operations have a sector in or before a deep decode (R174). -/
def onDeep (s : State) : List Tag :=
  allActs.flatMap fun a => s.cmds.pilots[a].entries.filterMap fun o =>
    if [stream0 a, stream1 a].any fun m => s.chn[m].ladder.any fun r => (r.waitDeep || r.inDeep) && decide (r.ord.op = o.id) then o.tag else none

/-- ENGINE_REINIT of a deep-recovery decoder: its sector waits for a decoder again. -/
def reinitDecoder (s : State) (d : Fin 2) : State :=
  let s1 := interrupt s fun r => (onDeep s).contains r.tag
  match s.chnDev.deep[d] with
  | none => s1
  | some (m, psa) =>
    let s2 := { s1 with chnDev := { s1.chnDev with deep := vupd s1.chnDev.deep d fun _ => none } }
    updChn s2 m fun c => { c with ladder := c.ladder.map fun r =>
      if r.inDeep ∧ (readPsa s2 r.ord).toNat = psa then { r with inDeep := false, waitDeep := true } else r }

/-- The body of ENGINE_REINIT for a function (R28, R354). -/
def reinitFnA (index : Nat) (s : State) : Ans :=
  match selFn index with | some f => okA (reinitFn s f) | none => notFoundA s

def execEngineReinitFunction (r : Req) (index : Nat) (s : State) : Host.Outcome State Fault Refusal :=
  .next (serve s r { opc := 0x0109, need := .op, scope := some index } (.engineReinitFunction r index) (reinitFnA index))

/-- The body of ENGINE_REINIT for the Host Quay. -/
def reinitQuayA (s : State) : Ans := okA (reinitQuay s)

def execEngineReinitQuay (r : Req) (s : State) : Host.Outcome State Fault Refusal :=
  .next (serve s r { opc := 0x0109 } (.engineReinitQuay r) reinitQuayA)

/-- The body of ENGINE_REINIT for a sequencer (R402). -/
def reinitSeqA (index : Nat) (s : State) : Ans :=
  match selSq index with | some n => okA (reinitSeq s n) | none => notFoundA s

def execEngineReinitSequencer (r : Req) (index : Nat) (s : State) : Host.Outcome State Fault Refusal :=
  .next (serve s r { opc := 0x0109 } (.engineReinitSequencer r index) (reinitSeqA index))

/-- The body of ENGINE_REINIT for a mailbox other than the sender's (R434, R437). -/
def reinitMbxA (mb : Mb) (index : Nat) (s : State) : Ans :=
  if h : index < 4 then (if index = mb.val then conflictA s else okA (reinitMbx s ⟨index, h⟩)) else notFoundA s

def execEngineReinitMailbox (r : Req) (index : Nat) (s : State) : Host.Outcome State Fault Refusal :=
  .next (serve s r { opc := 0x0109 } (.engineReinitMailbox r index) (reinitMbxA r.mb index))

/-- ENGINE_REINIT of the tally engine leaves the rings intact (R335). -/
def execEngineReinitTally (r : Req) (s : State) : Host.Outcome State Fault Refusal :=
  .next (serve s r { opc := 0x0109 } (.engineReinitTally r) okA)

/-- The body of ENGINE_REINIT for a parity engine. -/
def reinitParityA (index : Nat) (s : State) : Ans := if h : index < 4 then okA (reinitParity s ⟨index, h⟩) else notFoundA s

def execEngineReinitParity (r : Req) (index : Nat) (s : State) : Host.Outcome State Fault Refusal :=
  .next (serve s r { opc := 0x0109 } (.engineReinitParity r index) (reinitParityA index))

/-- The body of ENGINE_REINIT for a deep-recovery decoder. -/
def reinitDecoderA (index : Nat) (s : State) : Ans := if h : index < 2 then okA (reinitDecoder s ⟨index, h⟩) else notFoundA s

def execEngineReinitDecoder (r : Req) (index : Nat) (s : State) : Host.Outcome State Fault Refusal :=
  .next (serve s r { opc := 0x0109 } (.engineReinitDecoder r index) (reinitDecoderA index))

/-! ### The laws (R26) -/

/-- A function's ledgers are checked. -/
def counted (s : State) (f : Nat) : Bool := !s.ledger.excluded.contains f

/-- Functions whose tags held and commands in flight disagree. -/
def tagBad (s : State) (rep : EpochReport) : List Nat := (rep.tags.filter fun x => counted s x.1 && decide (x.2.1 ≠ x.2.2)).map (·.1)
/-- The law of command tags fails. -/
def lawTags (s : State) (rep : EpochReport) : Bool := decide (rep.freeTags + rep.inflightTags ≠ 4096) || decide (tagBad s rep ≠ [])
/-- Ponds whose blocks do not add up. -/
def pondBad (rep : EpochReport) : List (Nat × Nat) := (rep.ponds.filter fun x => decide (x.1 + x.2.1 ≠ x.2.2.1)).map fun x => x.2.2.2
/-- Ports whose credits do not add up. -/
def pcieBad (rep : EpochReport) : List Nat := (rep.pcie.filter fun x => decide (x.2.1 ≠ x.2.2.1 + x.2.2.2)).map (·.1)
/-- Mailboxes whose credits do not add up. -/
def mbxBad (rep : EpochReport) : List Nat := (rep.mbx.filter fun x => decide (x.2.2.1 + x.2.2.2 ≠ x.2.1)).map (·.1)
/-- The law of tally counts fails. -/
def lawTally (rep : EpochReport) : Bool := rep.tally.any fun x => decide (x.1 ≠ x.2)
/-- Functions whose completions do not add up. -/
def complBad (s : State) (rep : EpochReport) : List Nat :=
  (rep.compl.filter fun x => counted s x.1 && decide (x.2.1 ≠ x.2.2.1 + x.2.2.2)).map (·.1)

/-- The codes of the quantities whose law fails, rising (R26). -/
def failed (s : State) (rep : EpochReport) : List Nat :=
  (if lawTags s rep then [1] else []) ++ (if pondBad rep ≠ [] then [2] else []) ++ (if pcieBad rep ≠ [] then [3] else []) ++
    (if mbxBad rep ≠ [] then [4] else []) ++ (if lawTally rep then [5] else []) ++ (if complBad s rep ≠ [] then [6] else [])

/-- The PF of a BAR2 mailbox. -/
def pfOfMbx (mb : Nat) : Nat := if mb = 0 then 0 else 512

/-- Functions that a breach re-initialises, rising (R26). -/
def breachFns (s : State) (rep : EpochReport) : List Nat :=
  let ports := pcieBad rep
  let ofPort := (knownFns s).filter fun f => ports.contains (portOf s f).val
  let pfs := if s.quay.sas then [] else ports.flatMap fun p => ((if p = 0 then pfsOf s 0 else pfsOf s 1)).map (·.val)
  let mbs := if s.quay.sas then [] else ((mbxBad rep).filter (· < 2)).map pfOfMbx
  (tagBad s rep ++ (if s.quay.sas then [] else ofPort.map (·.val)) ++ pfs ++ mbs ++ complBad s rep).foldl (fun l f => insertAsc f (l.erase f)) []

/-- An engine re-initialised by its ENGINE code (R437). -/
def reinitEngine (s : State) (x : Nat × Nat) : State :=
  if x.1 = 1 then (match selFn x.2 with | some f => reinitFn s f | none => s)
  else if x.1 = 2 then reinitQuay s
  else if x.1 = 3 then (match selSq x.2 with | some n => reinitSeq s n | none => s)
  else if x.1 = 4 then (if h : x.2 < 4 then reinitMbx s ⟨x.2, h⟩ else s)
  else if x.1 = 6 then (if h : x.2 < 4 then reinitParity s ⟨x.2, h⟩ else s)
  else if x.1 = 7 then (if h : x.2 < 2 then reinitDecoder s ⟨x.2, h⟩ else s)
  else s

/-- The minute open is flagged SUSPECT in every function (R26). -/
def suspectMinute (s : State) : State := updQuay s fun q => { q with tally := { q.tally with suspectMin := true } }

/-- The actions of R26, in FIELD: the laws judged at `j`, the re-initialised functions excluded from the next epoch (R28). -/
def breachAct (j s : State) (rep : EpochReport) : State :=
  let fns := (breachFns j rep).filterMap selFn
  let s0 := { s with ledger := { s.ledger with excluded := [] } }
  let s1 := if lawTags j rep && decide (tagBad j rep = []) then reinitQuay s0 else s0
  let s2 := forEach (pondBad rep) s1 reinitEngine
  let s3 := forEach (mbxBad rep) s2 fun s m => reinitEngine s (4, m)
  let s4 := if lawTally rep then suspectMinute s3 else s3
  let s5 := forEach fns s4 reinitFn
  countFuncs s5 (0x01, 0) (fns.map (·.val))

/-- ACTION of the incident (R512): functions 1, engines and mailboxes 2. -/
def breachAction (s : State) (rep : EpochReport) : Nat :=
  if s.sec.life ≠ .field then 0
  else if pondBad rep ≠ [] ∨ mbxBad rep ≠ [] ∨ lawTally rep ∨ (lawTags s rep ∧ tagBad s rep = []) then 2
  else 1

/-- A breach: the status word, the incident, the actions (R26, R30, R515). -/
def breach (s : State) (rep : EpochReport) (qs : List Nat) : State :=
  let g := s.ledger
  let s1 := { s with ledger := { g with
    lastQty := qs.foldl max 0, breachTag := g.breachTag || qs.contains 1, breachPond := g.breachPond || qs.contains 2
    breachPcieCr := g.breachPcieCr || qs.contains 3, breachMbxCr := g.breachMbxCr || qs.contains 4
    breachTally := g.breachTally || qs.contains 5, breachCompl := g.breachCompl || qs.contains 6 } }
  let fns := if s.sec.life = .field then breachFns s rep else []
  let s2 := report s1 (0x01, 0) (.numbered 0x1001) 3 0x01 0 (qs.foldl (fun a q => a + 2 ^ q) 0) (g.epoch % 2 ^ 32)
    (match fns with | f :: _ => f | [] => 0xFFFFFFFF) (breachAction s rep)
  if s.sec.life = .field then breachAct s s2 rep else { s2 with ledger := { s2.ledger with excluded := [] } }

/-- The auditor checks (R29). -/
def audits (s : State) : Bool :=
  powered s && !s.ledger.stopped && !s.bw.started && !s.bw.inhibit && decide (s.sec.life ≠ .blank) && decide (s.sec.life ≠ .decommissioned)

/-- AUDIT_EPOCH_CLOSE: every holder has reported and the auditor closes the epoch (R26 to R30). -/
def execAuditEpochClose (rep : EpochReport) (s : State) : Host.Outcome State Fault Refusal :=
  .next (let on := audits s
    let qs := if on && !s.ledger.skip then failed s rep else []
    let s1 := if qs = [] then s else breach s rep qs
    let s2 := updQuay s1 fun q => { q with pciCred := if on then rep.pcie else q.pciCred }
    { s2 with ledger := { s2.ledger with epoch := s.ledger.epoch + 1, skip := s.bw.inhibit, acting := on && decide (s.sec.life = .field),
                                         excluded := if qs = [] then (if on then [] else s.ledger.excluded) else s2.ledger.excluded } })

/-! ### HBM_GET_LEDGER (R30) -/

/-- HBM_LEDGER_STATUS; ACTIVE holds while the auditor checks, ACTING while a breach takes its action: in FIELD
(R29, R30). -/
def ledgerWord (s : State) : Nat :=
  let g := s.ledger
  packF [(31, 1, b2n (audits s)), (30, 1, b2n (audits s && g.acting)), (16, 8, g.lastQty), (5, 1, b2n g.breachCompl), (4, 1, b2n g.breachTally),
    (3, 1, b2n g.breachMbxCr), (2, 1, b2n g.breachPcieCr), (1, 1, b2n g.breachPond), (0, 1, b2n g.breachTag)]

/-- The body of HBM_GET_LEDGER: the word, then its W1C bits. -/
def getLedger (clear : BitVec 64) (s : State) : Ans :=
  let g := s.ledger
  getA { s with ledger := { g with
    breachTag := w1c clear 0 g.breachTag, breachPond := w1c clear 1 g.breachPond, breachPcieCr := w1c clear 2 g.breachPcieCr
    breachMbxCr := w1c clear 3 g.breachMbxCr, breachTally := w1c clear 4 g.breachTally, breachCompl := w1c clear 5 g.breachCompl } }
    [(4, ledgerWord s)]

def execHbmGetLedger (r : Req) (clear : BitVec 64) (s : State) : Host.Outcome State Fault Refusal :=
  .next (serve s r { opc := 0x0901, need := .rd } (.hbmGetLedger r clear) (getLedger clear))

end Sys2Proof.Machine
end

