-- ==== Sys2Proof/Machine/Mailbox.lean ====
section
/-! DEFINITION. Mailbox: the rings and registers of BAR2, the UART and NVMe-MI paths, the envelope of a request,
the message catalogue, the messages of group 0x00, and the ends of L messages and authorisations (R412 to R436). -/

namespace Sys2Proof.Machine

/-! ### The mailbox messages (R432, R433, R436) -/

/-- Slots of a mailbox (R412). -/
def slotsOf (mb : Mb) : Nat := if mb.val < 2 then 32 else if mb = 2 then 2 else 4

/-- LIFECYCLE as MBX_STATUS encodes it (R416). -/
def lifeCode : Life → Nat
  | .blank => 0
  | .manufacture => 1
  | .field => 2
  | .ret => 3
  | .decommissioned => 4

/-- The body of MBX_GET_INFO. -/
def mbxInfo (mb : Mb) (s : State) : Ans :=
  getA s [(1, mb.val), (1, privOf s mb), (1, lifeCode s.sec.life), (1, slotsOf mb), (2, 2016), (2, 0), (4, s.fw.activeVersion)]

def execMbxGetInfo (r : Req) (s : State) : Host.Outcome State Fault Refusal :=
  .next (serve s r { opc := 0x0001, need := .rd } (.mbxGetInfo r) (mbxInfo r.mb))

/-- MG_ALERT_N follows the pending notifications of mailbox 2 while PUSH is set (R419, R432). -/
def alertSync (s : State) (mb : Mb) : State :=
  if mb = 2 then { s with pins := { s.pins with mgAlertN := !(s.mbx[mb].push && decide (0 < ntfUsed s.mbx[mb])) } } else s

/-- The body of MBX_GET_NOTIFY: the oldest entries, which are consumed, and NTF_LOST, which clears. -/
def mbxNotify (mb : Mb) (max : Nat) (s : State) : Ans :=
  let x := s.mbx[mb]
  let n := min (min max 31) (ntfUsed x)
  dataA (alertSync (updMbx s mb fun x => { x with ntfHead := (x.ntfHead + n) % 128, ntfLost := 0 }) mb)
    (leBytes 1 n ++ [0] ++ leBytes 2 x.ntfLost ++ ntfNext mb x n)

def execMbxGetNotify (r : Req) (max : Nat) (s : State) : Host.Outcome State Fault Refusal :=
  .next (serve s r { opc := 0x0002, need := .rd } (.mbxGetNotify r max) (mbxNotify r.mb max))

/-- Entries that wait on mailbox 3 go out as frames once PUSH is set (R420). -/
def pushPending (s : State) (mb : Mb) : State :=
  let x := s.mbx[mb]
  if mb = 3 ∧ x.push then
    updMbx (forEach (List.range (ntfUsed x)) s fun s k =>
      emit s (.uartFrame (uartWire (ntfBytes mb (smRead {} x.ntfs ((x.ntfHead + k) % 64)))))) mb fun x => { x with ntfHead := x.ntfTail }
  else s

/-- The body of MBX_SET_NOTIFY (R432). -/
def mbxSetNotify (mb : Mb) (groups : BitVec 16) (minSev flags : Nat) (s : State) : Ans :=
  if 4 ≤ flags then malformedA s 35
  else if 4 < minSev then rangeA s
  else
    let s1 := updMbx s mb fun x => { x with groups := groups, minSev := minSev, push := bitAt flags 0, config := bitAt flags 1 }
    okA (pushPending (alertSync s1 mb) mb)

def execMbxSetNotify (r : Req) (groups : BitVec 16) (minSev flags : Nat) (s : State) : Host.Outcome State Fault Refusal :=
  .next (serve s r { opc := 0x0003, need := .rd } (.mbxSetNotify r groups minSev flags) (mbxSetNotify r.mb groups minSev flags))

/-- The body of MBX_SET_PRIV: a privilege is lowered until the next reset, never raised (R430). -/
def mbxSetPriv (index priv : Nat) (s : State) : Ans :=
  if h : index < 4 then
    (if privOf s ⟨index, h⟩ < priv then rangeA s else okA (updMbx s ⟨index, h⟩ fun x => { x with privCap := priv }))
  else notFoundA s

def execMbxSetPriv (r : Req) (index priv : Nat) (s : State) : Host.Outcome State Fault Refusal :=
  .next (serve s r { opc := 0x0004 } (.mbxSetPriv r index priv) (mbxSetPriv index priv))

/-- The body of MBX_STAGE_WRITE. -/
def stageWrite (mb : Mb) (offset : Nat) (data : List Byte) (s : State) : Ans :=
  if stageSize < offset + data.length then rangeA s
  else okA (updMbx s mb fun x => { x with staging := smWriteBytes x.staging offset data })

def execMbxStageWrite (r : Req) (offset : Nat) (data : List Byte) (s : State) : Host.Outcome State Fault Refusal :=
  .next (serve s r { opc := 0x0005, need := .rd } (.mbxStageWrite r offset data) (stageWrite r.mb offset data))

/-- The body of MBX_STAGE_READ. -/
def stageRead (mb : Mb) (offset length : Nat) (s : State) : Ans :=
  if 2016 < length ∨ stageSize < offset + length then rangeA s else dataA s (staged s mb offset length)

def execMbxStageRead (r : Req) (offset length : Nat) (s : State) : Host.Outcome State Fault Refusal :=
  .next (serve s r { opc := 0x0006, need := .rd } (.mbxStageRead r offset length) (stageRead r.mb offset length))

/-- The body of MBX_STAGE_CLEAR. -/
def stageClear (mb : Mb) (s : State) : Ans := okA (updMbx s mb fun x => { x with staging := [] })

def execMbxStageClear (r : Req) (s : State) : Host.Outcome State Fault Refusal :=
  .next (serve s r { opc := 0x0007, need := .rd } (.mbxStageClear r) (stageClear r.mb))

/-! ### Payload layouts (R425, R426) -/

/-- One field of a request payload. -/
inductive Fld where
  /-- an unsigned number of so many bytes, aligned to them -/
  | num (w : Nat)
  /-- `n` numbers of `w` bytes -/
  | rep (n w : Nat)
  /-- as many numbers of `w` bytes as number `i` says, times `k` -/
  | repBy (i k w : Nat)
  /-- a byte array -/
  | arr (n : Nat)
  /-- the bytes that are left -/
  | rest
  /-- MASK and the words of each parameter that is set; elements of each parameter -/
  | mask (ns : List Nat)
  deriving DecidableEq, Repr

/-- What a payload holds. -/
structure Vals where
  nums : List Nat := []
  data : List Byte := []
  pars : Params := []
  deriving DecidableEq, Repr

/-- Number `i` of a payload. -/
def Vals.a (v : Vals) (i : Nat) : Nat := v.nums.getD i 0
/-- Number `i` as a word. -/
def Vals.w (v : Vals) (n i : Nat) : BitVec n := BitVec.ofNat n (v.a i)

/-- `n` numbers of `w` bytes. -/
def numsOf (w : Nat) : Nat → List Byte → List Nat
  | 0, _ => []
  | n + 1, p => leNat (p.take w) :: numsOf w n (p.drop w)

/-- The bits of MASK that are set from bit `b` on, each with as many of the words as its parameter has elements. -/
def takePars (ns : List Nat) (m : Nat) : Nat → Nat → List Nat → Params
  | 0, _, _ => []
  | k + 1, b, ws =>
    if bitAt m b then
      let n := ns.getD b 0
      (b, (ws.take n).map (BitVec.ofNat 32)) :: takePars ns m k (b + 1) (ws.drop n)
    else takePars ns m k (b + 1) ws

/-- Words that the parameters set in MASK take. -/
def parWords (ns : List Nat) (m : Nat) : Nat := ((List.range 32).filter (bitAt m)).foldl (fun a b => a + ns.getD b 0) 0

/-- The first byte that is not 0 of `n` bytes from `o`. -/
def firstSet (p : List Byte) (o n : Nat) : Option Nat := (List.range n).findSome? fun k => if p.getD (o + k) 0 = 0 then none else some (o + k)

/-- Read `n` numbers of `w` bytes at their alignment: the numbers, where they end, and a byte skipped that is not 0. -/
def readNums (p : List Byte) (o n w : Nat) : Option (List Nat × Nat × Option Nat) :=
  let a := (o + w - 1) / w * w
  if p.length < a + n * w then none else some (numsOf w n (p.drop a), a + n * w, firstSet p o (a - o))

/-- The fields of a payload from offset `o`; an error is the offset AUX reports, LENGTH being at byte 16 of the message. -/
def readFlds : List Fld → List Byte → Nat → Option Nat → Vals → Except Nat Vals
  | [], p, o, bad, v => if o = p.length then (match bad with | some k => .error (32 + k) | none => .ok v) else .error 16
  | f :: fs, p, o, bad, v =>
    let nums := fun n w => match readNums p o n w with
      | none => .error 16
      | some (xs, e, b) => readFlds fs p e (bad.orElse fun _ => b) { v with nums := v.nums ++ xs }
    match f with
    | .num w => nums 1 w
    | .rep n w => nums n w
    | .repBy i k w => nums (v.a i * k) w
    | .arr n => if p.length < o + n then .error 16 else readFlds fs p (o + n) bad { v with data := (p.drop o).take n }
    | .rest => readFlds fs p p.length bad { v with data := p.drop o }
    | .mask ns =>
      match readNums p o 1 4 with
      | none => .error 16
      | some (xs, e, b) =>
        let m := xs.headD 0
        match readNums p e (parWords ns m) 4 with
        | none => .error 16
        | some (ws, e2, _) => readFlds fs p e2 (bad.orElse fun _ => b) { v with pars := takePars ns m 32 0 ws }

/-! ### The catalogue (R435 to R446) -/

/-- One message of the catalogue: what it needs where its payload is malformed, its payload, the command it is. -/
structure Entry where
  opc : Nat
  need : Need := .cf
  setter : Bool := false
  flds : List Fld := []
  make : Req → Vals → Option Instr

/-- ENGINE_REINIT by its ENGINE code (R437). -/
def engineOf (r : Req) (v : Vals) : Option Instr :=
  if v.a 0 = 1 then some (.engineReinitFunction r (v.a 1))
  else if v.a 0 = 2 then some (.engineReinitQuay r)
  else if v.a 0 = 3 then some (.engineReinitSequencer r (v.a 1))
  else if v.a 0 = 4 then some (.engineReinitMailbox r (v.a 1))
  else if v.a 0 = 5 then some (.engineReinitTally r)
  else if v.a 0 = 6 then some (.engineReinitParity r (v.a 1))
  else if v.a 0 = 7 then some (.engineReinitDecoder r (v.a 1))
  else none

/-- Group 0x00: mailbox (R436). -/
def catalogue0 : List Entry :=
  [{ opc := 0x0001, need := .rd, make := fun r _ => some (.mbxGetInfo r) },
   { opc := 0x0002, need := .rd, flds := [.num 1], make := fun r v => some (.mbxGetNotify r (v.a 0)) },
   { opc := 0x0003, need := .rd, flds := [.num 2, .num 1, .num 1], make := fun r v => some (.mbxSetNotify r (v.w 16 0) (v.a 1) (v.a 2)) },
   { opc := 0x0004, flds := [.num 1, .num 1], make := fun r v => some (.mbxSetPriv r (v.a 0) (v.a 1)) },
   { opc := 0x0005, need := .rd, flds := [.num 4, .rest], make := fun r v => some (.mbxStageWrite r (v.a 0) v.data) },
   { opc := 0x0006, need := .rd, flds := [.num 4, .num 2], make := fun r v => some (.mbxStageRead r (v.a 0) (v.a 1)) },
   { opc := 0x0007, need := .rd, make := fun r _ => some (.mbxStageClear r) }]

/-- Group 0x01: configuration (R437). -/
def catalogue1 : List Entry :=
  [{ opc := 0x0101, setter := true, flds := [.num 1], make := fun r v => some (.quaySetMoormode r (v.a 0)) },
   { opc := 0x0102, setter := true, flds := [.mask [1, 1, 1, 1]], make := fun r v => some (.quaySetArb r v.pars) },
   { opc := 0x0103, need := .op, setter := true, flds := [.num 2, .num 8], make := fun r v => some (.quaySetAllot r (v.a 0) (v.w 64 1)) },
   { opc := 0x0104, need := .rd, flds := [.num 2], make := fun r v => some (.quayGetAllot r (v.a 0)) },
   { opc := 0x0105, setter := true, flds := [.num 2, .mask [1, 1, 1]], make := fun r v => some (.quaySetAdmit r (v.a 0) v.pars) },
   { opc := 0x0106, setter := true, flds := [.mask [4, 1]], make := fun r v => some (.drcSetScrub r v.pars) },
   { opc := 0x0107, setter := true, flds := [.num 1, .mask [1, 1, 1, 1]], make := fun r v => some (.drcSetPort r (v.a 0) v.pars) },
   { opc := 0x0108, setter := true, flds := [.mask [1, 1]], make := fun r v => some (.drcSetTrain r v.pars) },
   { opc := 0x0109, flds := [.num 2, .num 2], make := engineOf },
   { opc := 0x010A, need := .fa, setter := true, flds := [.num 4], make := fun r v => some (.quaySetDrivePower r (v.a 0)) }]

/-- Group 0x02: servo (R438). -/
def catalogue2 : List Entry :=
  [{ opc := 0x0201, need := .fa, setter := true, flds := [.num 1, .num 1, .num 4, .num 4, .rep 256 2], make := fun r v => some (.lkbSetSurface r (v.a 0) (v.a 1) (v.a 2) (ofPat 32 (v.a 3)) ((v.nums.drop 4).map (ofPat 16))) },
   { opc := 0x0202, setter := true, flds := [.num 1, .rep 63 4], make := fun r v => some (.lkbSetZoneMap r (v.a 0) (v.nums.drop 1)) },
   { opc := 0x0203, setter := true, flds := [.num 1, .num 1, .num 4], make := fun r v => some (.lkbSetRatio r (v.a 0) (v.a 1) (v.w 32 2)) },
   { opc := 0x0204, setter := true, flds := [.num 1, .num 4], make := fun r v => some (.lkbSetGuard r (v.a 0) (v.w 32 1)) },
   { opc := 0x0205, setter := true, flds := [.num 1, .num 1, .mask [1, 1, 1, 1]], make := fun r v => some (.lkbSetDemod r (v.a 0) (v.a 1) v.pars) },
   { opc := 0x0206, need := .rd, flds := [.num 1, .num 8], make := fun r v => some (.lkbGetStatus r (v.a 0) (v.w 64 1)) },
   { opc := 0x0207, need := .rd, flds := [.num 1], make := fun r v => some (.lkbReadPosition r (v.a 0)) },
   { opc := 0x0211, setter := true, flds := [.num 1, .num 1, .num 1, .num 2, .repBy 2 6 4], make := fun r v => some (.loopSetLaw r (v.a 0) (v.a 1) (v.a 2) (v.a 3) ((v.nums.drop 4).map (BitVec.ofNat 32))) },
   { opc := 0x0212, setter := true, flds := [.num 1, .rep 64 4], make := fun r v => some (.loopSetRwo r (v.a 0) ((v.nums.drop 1).map (ofPat 32))) },
   { opc := 0x0213, setter := true, flds := [.num 1, .num 4], make := fun r v => some (.loopSetMaGain r (v.a 0) (v.a 1)) },
   { opc := 0x0214, setter := true, flds := [.num 1, .mask [1, 1, 1, 1, 1, 1, 1]], make := fun r v => some (.loopSetSeek r (v.a 0) v.pars) },
   { opc := 0x0215, setter := true, flds := [.num 1, .mask [1, 1, 1, 1, 1, 1, 1]], make := fun r v => some (.loopSetFollow r (v.a 0) v.pars) },
   { opc := 0x0216, setter := true, flds := [.num 1, .mask [1, 1, 1, 1, 1, 4]], make := fun r v => some (.loopSetTwin r (v.a 0) v.pars) },
   { opc := 0x0217, need := .rd, flds := [.num 1, .num 8], make := fun r v => some (.loopGetStatus r (v.a 0) (v.w 64 1)) }]

/-- Group 0x03: channel (R439). -/
def catalogue3 : List Entry :=
  [{ opc := 0x0301, setter := true, flds := [.num 1, .num 1, .num 4], make := fun r v => some (.chnSetFormat r (v.a 0) (v.a 1) (v.w 32 2)) },
   { opc := 0x0302, setter := true, flds := [.num 1, .num 1, .mask [1, 1, 1, 1]], make := fun r v => some (.chnSetFrontend r (v.a 0) (v.a 1) v.pars) },
   { opc := 0x0303, setter := true, flds := [.num 1, .num 1, .num 1, .mask [96, 1, 1, 1, 1]], make := fun r v => some (.chnSetEq r (v.a 0) (v.a 1) (v.a 2) v.pars) },
   { opc := 0x0304, setter := true, flds := [.num 1, .num 1, .mask [24, 1, 1, 1]], make := fun r v => some (.chnSetDetector r (v.a 0) (v.a 1) v.pars) },
   { opc := 0x0305, setter := true, flds := [.num 1, .num 1, .mask [1, 1, 1, 1]], make := fun r v => some (.chnSetSync r (v.a 0) (v.a 1) v.pars) },
   { opc := 0x0306, setter := true, flds := [.num 1, .mask [1, 1, 1, 1, 1, 1]], make := fun r v => some (.chnSetRecovery r (v.a 0) v.pars) },
   { opc := 0x0307, need := .rd, flds := [.num 1, .num 8], make := fun r v => some (.chnGetStatus r (v.a 0) (v.w 64 1)) },
   { opc := 0x0308, need := .db 1, flds := [.num 1, .num 2, .num 4, .num 4], make := fun r v => some (.chnCapture r (v.a 0) (v.a 1) (v.a 2) (v.a 3)) }]

/-- Group 0x04: assist (R440). -/
def catalogue4 : List Entry :=
  [{ opc := 0x0401, setter := true, flds := [.num 1, .num 1, .mask [1, 1, 1, 1]], make := fun r v => some (.wrpSetFormat r (v.a 0) (v.a 1) v.pars) },
   { opc := 0x0402, setter := true, flds := [.num 1, .num 1, .mask [1, 5, 5, 1, 1, 1, 1]], make := fun r v => some (.wrpSetAssist r (v.a 0) (v.a 1) v.pars) },
   { opc := 0x0403, setter := true, flds := [.num 1, .num 1, .mask [5, 5, 1, 1, 1]], make := fun r v => some (.wrpSetFh r (v.a 0) (v.a 1) v.pars) },
   { opc := 0x0404, setter := true, flds := [.mask [1, 1, 1, 1, 1, 1, 1, 1]], make := fun r v => some (.wrpSetLimits r v.pars) },
   { opc := 0x0405, setter := true, flds := [.num 1, .mask [1, 1, 1]], make := fun r v => some (.wrpSetWear r (v.a 0) v.pars) },
   { opc := 0x0406, need := .db 4, flds := [.num 1, .arr 32], make := fun r v => some (.wrpOpenBand r (v.a 0) (BitVec.ofNat 256 (leNat v.data))) },
   { opc := 0x0407, need := .db 4, flds := [.num 1, .num 1], make := fun r v => some (.wrpCloseBand r (v.a 0) (v.a 1)) },
   { opc := 0x0408, need := .db 4, flds := [.num 1], make := fun r v => some (.wrpStop r (v.a 0)) },
   { opc := 0x0409, flds := [.num 1], make := fun r v => some (.wrpRelease r (v.a 0)) },
   { opc := 0x040A, need := .rd, flds := [.num 1, .num 8], make := fun r v => some (.wrpGetStatus r (v.a 0) (v.w 64 1)) },
   { opc := 0x040B, need := .rd, flds := [.num 1], make := fun r v => some (.wrpGetWear r (v.a 0)) }]

/-- Group 0x05: berths (R441). -/
def catalogue5 : List Entry :=
  [{ opc := 0x0501, setter := true, flds := [.num 4, .num 1], make := fun r v => some (.brtSetLayout r (v.a 0) (v.a 1)) },
   { opc := 0x0502, setter := true, flds := [.mask [1, 1, 1, 1, 1, 1, 1, 1]], make := fun r v => some (.brtSetLimits r v.pars) },
   { opc := 0x0503, setter := true, flds := [.mask [1, 1]], make := fun r v => some (.brtSetPatrol r v.pars) },
   { opc := 0x0504, setter := true, flds := [.mask [1, 1, 1, 1]], make := fun r v => some (.brtSetCkpt r v.pars) },
   { opc := 0x0505, make := fun r _ => some (.brtCheckpoint r) },
   { opc := 0x0506, need := .rd, flds := [.num 4, .num 2], make := fun r v => some (.brtGetBerth r (v.a 0) (v.a 1)) },
   { opc := 0x0507, need := .rd, flds := [.num 8], make := fun r v => some (.brtGetStatus r (v.w 64 0)) },
   { opc := 0x0508, setter := true, flds := [.num 1, .num 1], make := fun r v => some (.brtSetHead r (v.a 0) (v.a 1)) },
   { opc := 0x0509, setter := true, flds := [.mask [1, 1, 1, 1, 1, 1]], make := fun r v => some (.brtSetHealth r v.pars) },
   { opc := 0x050A, setter := true, flds := [.mask [1, 1, 1, 1, 1]], make := fun r v => some (.brtSetRebuild r v.pars) },
   { opc := 0x050B, flds := [.num 1, .num 1, .num 4], make := fun r v => some (.brtReshape r (v.a 0) (v.a 1) (v.a 2)) },
   { opc := 0x050C, need := .rd, flds := [.num 4, .num 8], make := fun r v => some (.brtGetRebuild r (v.a 0) (v.w 64 1)) },
   { opc := 0x050D, need := .rd, flds := [.num 4, .num 4], make := fun r v => some (.brtGetLost r (v.a 0) (v.a 1)) },
   { opc := 0x050E, need := .rd, flds := [.num 4], make := fun r v => some (.brtGetReloc r (v.a 0)) },
   { opc := 0x050F, need := .rd, flds := [.num 1], make := fun r v => some (.brtGetHead r (v.a 0)) }]

/-- Group 0x06: spindle (R442). -/
def catalogue6 : List Entry :=
  [{ opc := 0x0601, setter := true, flds := [.num 4, .num 1], make := fun r v => some (.spnSetSpeed r (v.a 0) (v.a 1)) },
   { opc := 0x0602, setter := true, flds := [.mask [1, 1, 1, 1, 1, 1, 1, 1]], make := fun r v => some (.spnSetPolicy r v.pars) },
   { opc := 0x0603, setter := true, flds := [.mask [1, 1, 1, 1, 1, 1, 1, 1, 1, 1, 1, 1, 1, 1, 1]], make := fun r v => some (.spnSetLimits r v.pars) },
   { opc := 0x0604, need := .fa, setter := true, flds := [.mask [1, 1, 1, 1, 1, 1]], make := fun r v => some (.spnSetMotor r v.pars) },
   { opc := 0x0605, make := fun r _ => some (.spnStart r) },
   { opc := 0x0606, make := fun r _ => some (.spnStop r) },
   { opc := 0x0607, need := .rd, flds := [.num 8], make := fun r v => some (.spnGetStatus r (v.w 64 0)) }]

/-- Group 0x07: events (R443). -/
def catalogue7 : List Entry :=
  [{ opc := 0x0701, need := .rd, flds := [.num 1, .num 4], make := fun r v => some (.evtSetCursor r (v.a 0) (v.a 1)) },
   { opc := 0x0702, need := .rd, flds := [.num 1], make := fun r v => some (.evtRead r (v.a 0)) },
   { opc := 0x0703, need := .sg, make := fun r _ => some (.evtClear r) },
   { opc := 0x0704, need := .rd, flds := [.num 1, .num 1], make := fun r v => some (.ctrRead r (v.a 0) (v.a 1)) },
   { opc := 0x0705, need := .rd, flds := [.num 2], make := fun r v => some (.hbmGetIncident r (v.a 0)) }]

/-- Group 0x08: tally (R443). -/
def catalogue8 : List Entry :=
  [{ opc := 0x0801, need := .rd, flds := [.num 2, .num 2, .num 1], make := fun r v => some (.tallyRead r (v.a 0) (v.a 1) (v.a 2)) },
   { opc := 0x0802, need := .op, flds := [.num 2], make := fun r v => some (.tallyClear r (v.a 0)) }]

/-- Group 0x09: diagnostics (R444). -/
def catalogue9 : List Entry :=
  [{ opc := 0x0901, need := .rd, flds := [.num 8], make := fun r v => some (.hbmGetLedger r (v.w 64 0)) },
   { opc := 0x0902, need := .rd, flds := [.num 1, .num 8], make := fun r v => some (.plkGetStatus r (v.a 0) (v.w 64 1)) },
   { opc := 0x0903, need := .rd, flds := [.num 8], make := fun r v => some (.pslGetStatus r (v.w 64 0)) },
   { opc := 0x0904, need := .rd, flds := [.num 1, .num 1, .num 2, .num 2], make := fun r v => some (.plkRegAccess r (v.a 0) (v.a 1) (v.a 2) (v.a 3)) },
   { opc := 0x0905, need := .rd, flds := [.num 1, .num 1, .num 1], make := fun r v => some (.pslRegAccess r (v.a 0) (v.a 1) (v.a 2)) },
   { opc := 0x0906, setter := true, flds := [.mask [1]], make := fun r v => some (.lnkSetLimits r v.pars) },
   { opc := 0x0907, need := .rd, flds := [.num 2, .num 2], make := fun r v => some (.quayGetMooring r (v.a 0) (v.a 1)) },
   { opc := 0x0908, need := .rd, flds := [.num 2], make := fun r v => some (.quayGetTag r (v.a 0)) },
   { opc := 0x0909, need := .rd, make := fun r _ => some (.drcGetRegions r) },
   { opc := 0x090A, need := .rd, flds := [.num 8], make := fun r v => some (.drcGetStatus r (v.w 64 0)) },
   { opc := 0x090B, need := .db 3, flds := [.num 8, .arr 72], make := fun r v => some (.drcInject r (v.a 0) v.data) },
   { opc := 0x090C, need := .rd, flds := [.num 1, .num 8], make := fun r v => some (.seqGetStatus r (v.a 0) (v.w 64 1)) },
   { opc := 0x090D, flds := [.num 1], make := fun r v => some (.seqResume r (v.a 0)) },
   { opc := 0x090E, setter := true, flds := [.mask [1, 1]], make := fun r v => some (.seqSetLimits r v.pars) }]

/-- Group 0x0A: firmware (R445). -/
def catalogue10 : List Entry :=
  [{ opc := 0x0A01, flds := [.num 1, .num 1, .num 4, .num 4, .num 4, .num 4], make := fun r v => some (.seqLoad r (v.a 0) (v.a 1) (v.a 2) (v.a 3) (v.a 4) (v.a 5)) },
   { opc := 0x0A02, flds := [.num 4], make := fun r v => some (.seqSwap r (v.w 32 0)) },
   { opc := 0x0A03, flds := [.num 1, .num 1, .num 4, .num 4, .num 4, .num 4], make := fun r v => some (.fwCommit r (v.a 0) (v.a 1) (v.a 2) (v.a 3) (v.a 4) (v.a 5)) },
   { opc := 0x0A04, flds := [.num 1], make := fun r v => some (.fwActivate r (v.a 0)) },
   { opc := 0x0A05, need := .rd, make := fun r _ => some (.fwGetSlots r) }]

/-- Group 0x0B: power (R445). -/
def catalogue11 : List Entry :=
  [{ opc := 0x0B01, setter := true, flds := [.mask [1, 1, 1, 1, 1]], make := fun r v => some (.pwrSupplyPolicy r v.pars) },
   { opc := 0x0B02, setter := true, flds := [.mask [1, 1, 1]], make := fun r v => some (.pslSetSafe r v.pars) },
   { opc := 0x0B03, setter := true, flds := [.mask [1, 1]], make := fun r v => some (.drcSetPower r v.pars) },
   { opc := 0x0B04, need := .rd, make := fun r _ => some (.pwrGetStatus r) }]

/-- Group 0x0C: identity (R446). -/
def catalogue12 : List Entry :=
  [{ opc := 0x0C01, need := .rd, flds := [.num 2, .arr 32], make := fun r v => some (.authChallenge r (v.a 0) v.data) },
   { opc := 0x0C02, need := .rd, flds := [.num 4, .num 4], make := fun r v => some (.authResponse r (v.a 0) (v.a 1)) },
   { opc := 0x0C03, need := .sg, flds := [.num 1], make := fun r v => some (.lcChange r (v.a 0)) },
   { opc := 0x0C04, need := .sg, flds := [.num 4], make := fun r v => some (.debugUnlock r (v.w 32 0)) },
   { opc := 0x0C05, need := .rd, flds := [.num 4, .num 2], make := fun r v => some (.idGetCert r (v.a 0) (v.a 1)) },
   { opc := 0x0C06, need := .rd, flds := [.arr 32], make := fun r v => some (.attestQuote r v.data) }]

/-- The message catalogue (R435). -/
def catalogue : List Entry :=
  catalogue0 ++ catalogue1 ++ catalogue2 ++ catalogue3 ++ catalogue4 ++ catalogue5 ++ catalogue6 ++ catalogue7 ++ catalogue8 ++ catalogue9 ++ catalogue10 ++ catalogue11 ++ catalogue12

/-- A message: its envelope, its OPCODE and what its payload holds; none for a command that is no message. -/
def messageOf : Instr → Option (Req × Nat × Vals)
  | .mbxGetInfo r => some (r, 0x0001, {})
  | .mbxGetNotify r max => some (r, 0x0002, { nums := [max] })
  | .mbxSetNotify r groups minSev flags => some (r, 0x0003, { nums := [groups.toNat, minSev, flags] })
  | .mbxSetPriv r index priv => some (r, 0x0004, { nums := [index, priv] })
  | .mbxStageWrite r offset data => some (r, 0x0005, { nums := [offset], data := data })
  | .mbxStageRead r offset length => some (r, 0x0006, { nums := [offset, length] })
  | .mbxStageClear r => some (r, 0x0007, {})
  | .quaySetMoormode r fullNext => some (r, 0x0101, { nums := [fullNext] })
  | .quaySetArb r ps => some (r, 0x0102, { pars := ps })
  | .quaySetAllot r func word => some (r, 0x0103, { nums := [func, word.toNat] })
  | .quayGetAllot r func => some (r, 0x0104, { nums := [func] })
  | .quaySetAdmit r func ps => some (r, 0x0105, { nums := [func], pars := ps })
  | .drcSetScrub r ps => some (r, 0x0106, { pars := ps })
  | .drcSetPort r port ps => some (r, 0x0107, { nums := [port], pars := ps })
  | .drcSetTrain r ps => some (r, 0x0108, { pars := ps })
  | .quaySetDrivePower r maxpwr => some (r, 0x010A, { nums := [maxpwr] })
  | .lkbSetSurface r head surface pL index lin => some (r, 0x0201, { nums := [head, surface, pL, toPat 32 index] ++ lin.map (toPat 16) })
  | .lkbSetZoneMap r surface first => some (r, 0x0202, { nums := [surface] ++ first })
  | .lkbSetRatio r head zone word => some (r, 0x0203, { nums := [head, zone, word.toNat] })
  | .lkbSetGuard r act word => some (r, 0x0204, { nums := [act, word.toNat] })
  | .lkbSetDemod r head stream ps => some (r, 0x0205, { nums := [head, stream], pars := ps })
  | .lkbGetStatus r stream clear => some (r, 0x0206, { nums := [stream, clear.toNat] })
  | .lkbReadPosition r stream => some (r, 0x0207, { nums := [stream] })
  | .loopSetLaw r act law count start words => some (r, 0x0211, { nums := [act, law, count, start] ++ words.map BitVec.toNat })
  | .loopSetRwo r head vals => some (r, 0x0212, { nums := [head] ++ vals.map (toPat 32) })
  | .loopSetMaGain r head gain => some (r, 0x0213, { nums := [head, gain] })
  | .loopSetSeek r act ps => some (r, 0x0214, { nums := [act], pars := ps })
  | .loopSetFollow r act ps => some (r, 0x0215, { nums := [act], pars := ps })
  | .loopSetTwin r act ps => some (r, 0x0216, { nums := [act], pars := ps })
  | .loopGetStatus r act clear => some (r, 0x0217, { nums := [act, clear.toNat] })
  | .chnSetFormat r head zone word => some (r, 0x0301, { nums := [head, zone, word.toNat] })
  | .chnSetFrontend r head zone ps => some (r, 0x0302, { nums := [head, zone], pars := ps })
  | .chnSetEq r head zone stream ps => some (r, 0x0303, { nums := [head, zone, stream], pars := ps })
  | .chnSetDetector r head zone ps => some (r, 0x0304, { nums := [head, zone], pars := ps })
  | .chnSetSync r head zone ps => some (r, 0x0305, { nums := [head, zone], pars := ps })
  | .chnSetRecovery r stream ps => some (r, 0x0306, { nums := [stream], pars := ps })
  | .chnGetStatus r stream clear => some (r, 0x0307, { nums := [stream, clear.toNat] })
  | .chnCapture r head slot track count => some (r, 0x0308, { nums := [head, slot, track, count] })
  | .wrpSetFormat r head zone ps => some (r, 0x0401, { nums := [head, zone], pars := ps })
  | .wrpSetAssist r head zone ps => some (r, 0x0402, { nums := [head, zone], pars := ps })
  | .wrpSetFh r head zone ps => some (r, 0x0403, { nums := [head, zone], pars := ps })
  | .wrpSetLimits r ps => some (r, 0x0404, { pars := ps })
  | .wrpSetWear r head ps => some (r, 0x0405, { nums := [head], pars := ps })
  | .wrpOpenBand r act desc => some (r, 0x0406, { nums := [act], data := leBytes 32 desc.toNat })
  | .wrpCloseBand r act ctx => some (r, 0x0407, { nums := [act, ctx] })
  | .wrpStop r act => some (r, 0x0408, { nums := [act] })
  | .wrpRelease r head => some (r, 0x0409, { nums := [head] })
  | .wrpGetStatus r act clear => some (r, 0x040A, { nums := [act, clear.toNat] })
  | .wrpGetWear r head => some (r, 0x040B, { nums := [head] })
  | .brtSetLayout r nsid layout => some (r, 0x0501, { nums := [nsid, layout] })
  | .brtSetLimits r ps => some (r, 0x0502, { pars := ps })
  | .brtSetPatrol r ps => some (r, 0x0503, { pars := ps })
  | .brtSetCkpt r ps => some (r, 0x0504, { pars := ps })
  | .brtCheckpoint r => some (r, 0x0505, {})
  | .brtGetBerth r berth skip => some (r, 0x0506, { nums := [berth, skip] })
  | .brtGetStatus r clear => some (r, 0x0507, { nums := [clear.toNat] })
  | .brtSetHead r head state => some (r, 0x0508, { nums := [head, state] })
  | .brtSetHealth r ps => some (r, 0x0509, { pars := ps })
  | .brtSetRebuild r ps => some (r, 0x050A, { pars := ps })
  | .brtReshape r kind layout target => some (r, 0x050B, { nums := [kind, layout, target] })
  | .brtGetRebuild r berth clear => some (r, 0x050C, { nums := [berth, clear.toNat] })
  | .brtGetLost r nsid start => some (r, 0x050D, { nums := [nsid, start] })
  | .brtGetReloc r index => some (r, 0x050E, { nums := [index] })
  | .brtGetHead r head => some (r, 0x050F, { nums := [head] })
  | .spnSetSpeed r rpm cls => some (r, 0x0601, { nums := [rpm, cls] })
  | .spnSetPolicy r ps => some (r, 0x0602, { pars := ps })
  | .spnSetLimits r ps => some (r, 0x0603, { pars := ps })
  | .spnSetMotor r ps => some (r, 0x0604, { pars := ps })
  | .spnStart r => some (r, 0x0605, {})
  | .spnStop r => some (r, 0x0606, {})
  | .spnGetStatus r clear => some (r, 0x0607, { nums := [clear.toNat] })
  | .evtSetCursor r mode position => some (r, 0x0701, { nums := [mode, position] })
  | .evtRead r count => some (r, 0x0702, { nums := [count] })
  | .evtClear r => some (r, 0x0703, {})
  | .ctrRead r scope index => some (r, 0x0704, { nums := [scope, index] })
  | .hbmGetIncident r index => some (r, 0x0705, { nums := [index] })
  | .tallyRead r func start count => some (r, 0x0801, { nums := [func, start, count] })
  | .tallyClear r func => some (r, 0x0802, { nums := [func] })
  | .hbmGetLedger r clear => some (r, 0x0901, { nums := [clear.toNat] })
  | .plkGetStatus r act clear => some (r, 0x0902, { nums := [act, clear.toNat] })
  | .pslGetStatus r clear => some (r, 0x0903, { nums := [clear.toNat] })
  | .plkRegAccess r act op addr data => some (r, 0x0904, { nums := [act, op, addr, data] })
  | .pslRegAccess r op addr data => some (r, 0x0905, { nums := [op, addr, data] })
  | .lnkSetLimits r ps => some (r, 0x0906, { pars := ps })
  | .quayGetMooring r func qid => some (r, 0x0907, { nums := [func, qid] })
  | .quayGetTag r tag => some (r, 0x0908, { nums := [tag] })
  | .drcGetRegions r => some (r, 0x0909, {})
  | .drcGetStatus r clear => some (r, 0x090A, { nums := [clear.toNat] })
  | .drcInject r addr flip => some (r, 0x090B, { nums := [addr], data := flip })
  | .seqGetStatus r seq clear => some (r, 0x090C, { nums := [seq, clear.toNat] })
  | .seqResume r seq => some (r, 0x090D, { nums := [seq] })
  | .seqSetLimits r ps => some (r, 0x090E, { pars := ps })
  | .seqLoad r bank unsigned imgOfs imgLen sigOfs sigLen => some (r, 0x0A01, { nums := [bank, unsigned, imgOfs, imgLen, sigOfs, sigLen] })
  | .seqSwap r mask => some (r, 0x0A02, { nums := [mask.toNat] })
  | .fwCommit r slot next imgOfs imgLen sigOfs sigLen => some (r, 0x0A03, { nums := [slot, next, imgOfs, imgLen, sigOfs, sigLen] })
  | .fwActivate r slot => some (r, 0x0A04, { nums := [slot] })
  | .fwGetSlots r => some (r, 0x0A05, {})
  | .pwrSupplyPolicy r ps => some (r, 0x0B01, { pars := ps })
  | .pslSetSafe r ps => some (r, 0x0B02, { pars := ps })
  | .drcSetPower r ps => some (r, 0x0B03, { pars := ps })
  | .pwrGetStatus r => some (r, 0x0B04, {})
  | .authChallenge r opcode digest => some (r, 0x0C01, { nums := [opcode], data := digest })
  | .authResponse r sigOfs sigLen => some (r, 0x0C02, { nums := [sigOfs, sigLen] })
  | .lcChange r target => some (r, 0x0C03, { nums := [target] })
  | .debugUnlock r scope => some (r, 0x0C04, { nums := [scope.toNat] })
  | .idGetCert r offset length => some (r, 0x0C05, { nums := [offset, length] })
  | .attestQuote r nonce => some (r, 0x0C06, { data := nonce })
  | .engineReinitFunction r index => some (r, 0x0109, { nums := [1, index] })
  | .engineReinitQuay r => some (r, 0x0109, { nums := [2, 0] })
  | .engineReinitSequencer r index => some (r, 0x0109, { nums := [3, index] })
  | .engineReinitMailbox r index => some (r, 0x0109, { nums := [4, index] })
  | .engineReinitTally r => some (r, 0x0109, { nums := [5, 0] })
  | .engineReinitParity r index => some (r, 0x0109, { nums := [6, index] })
  | .engineReinitDecoder r index => some (r, 0x0109, { nums := [7, index] })
  | _ => none

/-- The meaning of a message. -/
def runMessage (i : Instr) (s : State) : Host.Outcome State Fault Refusal :=
  match i with
  | .mbxGetInfo r => execMbxGetInfo r s
  | .mbxGetNotify r max => execMbxGetNotify r max s
  | .mbxSetNotify r groups minSev flags => execMbxSetNotify r groups minSev flags s
  | .mbxSetPriv r index priv => execMbxSetPriv r index priv s
  | .mbxStageWrite r offset data => execMbxStageWrite r offset data s
  | .mbxStageRead r offset length => execMbxStageRead r offset length s
  | .mbxStageClear r => execMbxStageClear r s
  | .quaySetMoormode r fullNext => execQuaySetMoormode r fullNext s
  | .quaySetArb r ps => execQuaySetArb r ps s
  | .quaySetAllot r func word => execQuaySetAllot r func word s
  | .quayGetAllot r func => execQuayGetAllot r func s
  | .quaySetAdmit r func ps => execQuaySetAdmit r func ps s
  | .drcSetScrub r ps => execDrcSetScrub r ps s
  | .drcSetPort r port ps => execDrcSetPort r port ps s
  | .drcSetTrain r ps => execDrcSetTrain r ps s
  | .quaySetDrivePower r maxpwr => execQuaySetDrivePower r maxpwr s
  | .lkbSetSurface r head surface pL index lin => execLkbSetSurface r head surface pL index lin s
  | .lkbSetZoneMap r surface first => execLkbSetZoneMap r surface first s
  | .lkbSetRatio r head zone word => execLkbSetRatio r head zone word s
  | .lkbSetGuard r act word => execLkbSetGuard r act word s
  | .lkbSetDemod r head stream ps => execLkbSetDemod r head stream ps s
  | .lkbGetStatus r stream clear => execLkbGetStatus r stream clear s
  | .lkbReadPosition r stream => execLkbReadPosition r stream s
  | .loopSetLaw r act law count start words => execLoopSetLaw r act law count start words s
  | .loopSetRwo r head vals => execLoopSetRwo r head vals s
  | .loopSetMaGain r head gain => execLoopSetMaGain r head gain s
  | .loopSetSeek r act ps => execLoopSetSeek r act ps s
  | .loopSetFollow r act ps => execLoopSetFollow r act ps s
  | .loopSetTwin r act ps => execLoopSetTwin r act ps s
  | .loopGetStatus r act clear => execLoopGetStatus r act clear s
  | .chnSetFormat r head zone word => execChnSetFormat r head zone word s
  | .chnSetFrontend r head zone ps => execChnSetFrontend r head zone ps s
  | .chnSetEq r head zone stream ps => execChnSetEq r head zone stream ps s
  | .chnSetDetector r head zone ps => execChnSetDetector r head zone ps s
  | .chnSetSync r head zone ps => execChnSetSync r head zone ps s
  | .chnSetRecovery r stream ps => execChnSetRecovery r stream ps s
  | .chnGetStatus r stream clear => execChnGetStatus r stream clear s
  | .chnCapture r head slot track count => execChnCapture r head slot track count s
  | .wrpSetFormat r head zone ps => execWrpSetFormat r head zone ps s
  | .wrpSetAssist r head zone ps => execWrpSetAssist r head zone ps s
  | .wrpSetFh r head zone ps => execWrpSetFh r head zone ps s
  | .wrpSetLimits r ps => execWrpSetLimits r ps s
  | .wrpSetWear r head ps => execWrpSetWear r head ps s
  | .wrpOpenBand r act desc => execWrpOpenBand r act desc s
  | .wrpCloseBand r act ctx => execWrpCloseBand r act ctx s
  | .wrpStop r act => execWrpStop r act s
  | .wrpRelease r head => execWrpRelease r head s
  | .wrpGetStatus r act clear => execWrpGetStatus r act clear s
  | .wrpGetWear r head => execWrpGetWear r head s
  | .brtSetLayout r nsid layout => execBrtSetLayout r nsid layout s
  | .brtSetLimits r ps => execBrtSetLimits r ps s
  | .brtSetPatrol r ps => execBrtSetPatrol r ps s
  | .brtSetCkpt r ps => execBrtSetCkpt r ps s
  | .brtCheckpoint r => execBrtCheckpoint r s
  | .brtGetBerth r berth skip => execBrtGetBerth r berth skip s
  | .brtGetStatus r clear => execBrtGetStatus r clear s
  | .brtSetHead r head state => execBrtSetHead r head state s
  | .brtSetHealth r ps => execBrtSetHealth r ps s
  | .brtSetRebuild r ps => execBrtSetRebuild r ps s
  | .brtReshape r kind layout target => execBrtReshape r kind layout target s
  | .brtGetRebuild r berth clear => execBrtGetRebuild r berth clear s
  | .brtGetLost r nsid start => execBrtGetLost r nsid start s
  | .brtGetReloc r index => execBrtGetReloc r index s
  | .brtGetHead r head => execBrtGetHead r head s
  | .spnSetSpeed r rpm cls => execSpnSetSpeed r rpm cls s
  | .spnSetPolicy r ps => execSpnSetPolicy r ps s
  | .spnSetLimits r ps => execSpnSetLimits r ps s
  | .spnSetMotor r ps => execSpnSetMotor r ps s
  | .spnStart r => execSpnStart r s
  | .spnStop r => execSpnStop r s
  | .spnGetStatus r clear => execSpnGetStatus r clear s
  | .evtSetCursor r mode position => execEvtSetCursor r mode position s
  | .evtRead r count => execEvtRead r count s
  | .evtClear r => execEvtClear r s
  | .ctrRead r scope index => execCtrRead r scope index s
  | .hbmGetIncident r index => execHbmGetIncident r index s
  | .tallyRead r func start count => execTallyRead r func start count s
  | .tallyClear r func => execTallyClear r func s
  | .hbmGetLedger r clear => execHbmGetLedger r clear s
  | .plkGetStatus r act clear => execPlkGetStatus r act clear s
  | .pslGetStatus r clear => execPslGetStatus r clear s
  | .plkRegAccess r act op addr data => execPlkRegAccess r act op addr data s
  | .pslRegAccess r op addr data => execPslRegAccess r op addr data s
  | .lnkSetLimits r ps => execLnkSetLimits r ps s
  | .quayGetMooring r func qid => execQuayGetMooring r func qid s
  | .quayGetTag r tag => execQuayGetTag r tag s
  | .drcGetRegions r => execDrcGetRegions r s
  | .drcGetStatus r clear => execDrcGetStatus r clear s
  | .drcInject r addr flip => execDrcInject r addr flip s
  | .seqGetStatus r seq clear => execSeqGetStatus r seq clear s
  | .seqResume r seq => execSeqResume r seq s
  | .seqSetLimits r ps => execSeqSetLimits r ps s
  | .seqLoad r bank unsigned imgOfs imgLen sigOfs sigLen => execSeqLoad r bank unsigned imgOfs imgLen sigOfs sigLen s
  | .seqSwap r mask => execSeqSwap r mask s
  | .fwCommit r slot next imgOfs imgLen sigOfs sigLen => execFwCommit r slot next imgOfs imgLen sigOfs sigLen s
  | .fwActivate r slot => execFwActivate r slot s
  | .fwGetSlots r => execFwGetSlots r s
  | .pwrSupplyPolicy r ps => execPwrSupplyPolicy r ps s
  | .pslSetSafe r ps => execPslSetSafe r ps s
  | .drcSetPower r ps => execDrcSetPower r ps s
  | .pwrGetStatus r => execPwrGetStatus r s
  | .authChallenge r opcode digest => execAuthChallenge r opcode digest s
  | .authResponse r sigOfs sigLen => execAuthResponse r sigOfs sigLen s
  | .lcChange r target => execLcChange r target s
  | .debugUnlock r scope => execDebugUnlock r scope s
  | .idGetCert r offset length => execIdGetCert r offset length s
  | .attestQuote r nonce => execAttestQuote r nonce s
  | .engineReinitFunction r index => execEngineReinitFunction r index s
  | .engineReinitQuay r => execEngineReinitQuay r s
  | .engineReinitSequencer r index => execEngineReinitSequencer r index s
  | .engineReinitMailbox r index => execEngineReinitMailbox r index s
  | .engineReinitTally r => execEngineReinitTally r s
  | .engineReinitParity r index => execEngineReinitParity r index s
  | .engineReinitDecoder r index => execEngineReinitDecoder r index s
  | _ => .next s

/-! ### A message as bytes (R421, R425, R426) -/

/-- Bytes skipped to the next multiple of `w`. -/
def padBytes (o w : Nat) : List Byte := List.replicate ((o + w - 1) / w * w - o) 0

/-- Write fields behind the bytes there are; `all` are the numbers of the whole payload. -/
def putFlds (all : List Nat) : List Fld → List Byte → Vals → List Byte
  | [], out, _ => out
  | f :: fs, out, v =>
    let nums := fun n w => putFlds all fs (out ++ padBytes out.length w ++ (v.nums.take n).flatMap (leBytes w)) { v with nums := v.nums.drop n }
    match f with
    | .num w => nums 1 w
    | .rep n w => nums n w
    | .repBy i k w => nums (all.getD i 0 * k) w
    | .arr n => putFlds all fs (out ++ padTo n v.data) v
    | .rest => putFlds all fs (out ++ v.data) v
    | .mask _ => putFlds all fs (out ++ padBytes out.length 4 ++ leBytes 4 (v.pars.foldl (fun a e => a + 2 ^ e.1) 0) ++
        v.pars.flatMap fun e => e.2.flatMap fun w => leBytes 4 w.toNat) v

/-- A message of the catalogue as the request that carries it (R421). -/
def requestBytes (i : Instr) : Option (List Byte) :=
  (messageOf i).bind fun m => (catalogue.find? fun e => decide (e.opc = m.2.1)).map fun e =>
    let p := putFlds m.2.2.nums e.flds [] m.2.2
    let h := leBytes 2 m.2.1 ++ [0, if m.1.persist then 4 else 0, 1] ++ List.replicate 7 0 ++ leBytes 4 m.1.seq ++
      leBytes 2 p.length ++ List.replicate 10 0
    h ++ leBytes 4 (crc32c (h ++ p)).toNat ++ p

/-! ### The envelope (R421, R422, R429) -/

/-- A number of `n` bytes at offset `i` of a message. -/
def hdrN (bs : List Byte) (i n : Nat) : Nat := leNat ((bs.drop i).take n)

/-- The payload of a message. -/
def payloadOf (bs : List Byte) : List Byte := (bs.drop 32).take (hdrN bs 16 2)

/-- LENGTH fits the bytes that came. `exact` where a frame must match its header (R419, R420). -/
def lengthOk (exact : Bool) (bs : List Byte) : Bool :=
  let n := hdrN bs 16 2
  decide (32 ≤ bs.length) && decide (n ≤ 2016) && (if exact then decide (32 + n = bs.length) else decide (32 + n ≤ bs.length))

/-- Offsets at which VERSION, LENGTH or CHECK is bad. -/
def framingBad (exact : Bool) (bs : List Byte) : List Nat :=
  (if hdrN bs 4 1 = 1 then [] else [4]) ++
    (if lengthOk exact bs then
      (if hdrN bs 28 4 = (crc32c (bs.take 28 ++ payloadOf bs)).toNat then [] else [28])
     else [16])

/-- Offsets of header bytes that must be 0 in a request and are not. -/
def reservedBad (bs : List Byte) : List Nat :=
  ([2, 5, 6, 7, 8, 9, 10, 11, 18, 19, 20, 21, 22, 23, 24, 25, 26, 27].filter fun k => decide (hdrN bs k 1 ≠ 0)) ++
    (if fld (hdrN bs 3 1) 0 2 = 0 ∧ fld (hdrN bs 3 1) 3 5 = 0 then [] else [3])

/-- The request a message through mailbox `mb` carries: the command it is, where the envelope and the payload are good
(R421, R425, R435). -/
def requestOf (mb : Mb) (bs : List Byte) : Option Instr :=
  if framingBad true bs ≠ [] ∨ reservedBad bs ≠ [] then none
  else (catalogue.find? fun e => decide (e.opc = hdrN bs 0 2)).bind fun e =>
    match readFlds e.flds (payloadOf bs) 0 none {} with
    | .ok v => e.make { mb := mb, persist := bitAt (hdrN bs 3 1) 2, seq := hdrN bs 12 4 } v
    | .error _ => none

/-- The lowest of some offsets. -/
def lowest (l : List Nat) : Nat := l.foldl min (l.headD 0)

/-- Answer a request now; `store` where it counts as the previous request (R422). -/
def respond (s : State) (mb : Mb) (x : Reply) (store : Bool) : State :=
  postReply (updMbx s mb fun m => { m with reply := some x, lastReply := if store then some x else m.lastReply }) mb x

/-- What a meaning leaves. -/
def afterMessage (s : State) (o : Host.Outcome State Fault Refusal) : State := match o with | .next t => t | _ => s

/-- Run one request whose envelope is good: the meaning of its message, then its answer, at once or once what
it waits for has happened (R422, R423, R435). -/
def runRequest (s : State) (mb : Mb) (bs : List Byte) : State :=
  let op := hdrN bs 0 2
  let r : Req := { mb := mb, persist := bitAt (hdrN bs 3 1) 2, seq := hdrN bs 12 4 }
  let entry := catalogue.find? fun e => decide (e.opc = op)
  let odd : Bool := r.persist && (match entry with | some e => !e.setter | none => false)
  let bad := reservedBad bs ++ (if odd then [3] else [])
  let fail := fun st aux => respond s mb { op := op, seq := r.seq, status := st, aux := aux } true
  if bad ≠ [] then fail 0x0002 (lowest bad)
  else match entry with
    | none => fail 0x0003 0
    | some e =>
      let t := match readFlds e.flds (payloadOf bs) 0 none {} with
        | .ok v => (match e.make r v with
          | some i => afterMessage s (runMessage i s)
          | none => serve s r { opc := op, need := e.need, setter := e.setter } (.mbxGetInfo r) fun s => rangeA s)
        | .error k => serve s r { opc := op, need := e.need, setter := e.setter } (.mbxGetInfo r) fun s => malformedA s k
      if t.mbx[mb].waitOp.isSome then updMbx t mb fun m => { m with waitPost := true }
      else match t.mbx[mb].reply with
        | some x => respond t mb x true
        | none => t

/-- Take one request: envelope, SEQ, then its message. A bad envelope and a wrong SEQ leave the expected SEQ as it
was; a request that repeats the previous SEQ and OPCODE gets the stored response (R421, R422). -/
def takeRequest (s : State) (mb : Mb) (bs : List Byte) : State :=
  let m := s.mbx[mb]
  let op := hdrN bs 0 2
  let seq := hdrN bs 12 4
  let bad := framingBad (decide (2 ≤ mb.val)) bs
  let fail := fun s st aux => respond s mb { op := op, seq := seq, status := st, aux := aux } false
  if bad ≠ [] then fail s 0x0002 (lowest (bad ++ reservedBad bs))
  else if m.expSeq = none ∨ m.expSeq = some seq then
    runRequest (updMbx s mb fun m => { m with expSeq := some ((seq + 1) % 2 ^ 32), reply := none, lastReply := none }) mb bs
  else match m.lastReply with
    | some x =>
      if x.seq = seq ∧ x.op = op then respond s mb x true
      else fail (updMbx s mb fun m => { m with seqErr := true }) 0x0004 (m.expSeq.getD 0)
    | none => fail (updMbx s mb fun m => { m with seqErr := true }) 0x0004 (m.expSeq.getD 0)

/-- The request at REQ_HEAD. A BAR2 slot is read whole (R413). -/
def headRequest (s : State) (mb : Mb) : List Byte :=
  let bs := smRead [] s.mbx[mb].reqSlots (s.mbx[mb].reqHead % 32)
  if mb.val < 2 ∧ !s.quay.sas then padTo 2048 bs else bs

/-- A mailbox with a request that Fenxus can start now (R423, R434). -/
def asks (s : State) (mb : Mb) : Bool :=
  let m := s.mbx[mb]
  decide (m.reqHead ≠ m.reqTail) && m.waitOp.isNone && decide (gateOf s mb (hdrN (headRequest s mb) 0 2) ≠ 1)

/-- The mailbox whose request starts next: the first that asks at or after the pointer (R24, R423). -/
def nextMailbox (s : State) : Option Mb :=
  (List.range 4).findSome? fun k => (selMb ((s.mbxPtr + k) % 4)).filter (asks s)
where
  /-- A mailbox by number. -/
  selMb (n : Nat) : Option Mb := if h : n < 4 then some ⟨n, h⟩ else none

/-- MAILBOX_REQUEST_START: the next request of a mailbox is taken, checked and executed. A slot rewritten while its
request was outstanding is taken as free bytes, and does not count for SEQ (R417, R423). -/
def execMailboxRequestStart (mb : Mb) (s : State) : Host.Outcome State Fault Refusal :=
  .next (if nextMailbox s = some mb then
      let m := s.mbx[mb]
      let k := m.reqHead % 32
      let s1 := updMbx { s with mbxPtr := (mb.val + 1) % 4 } mb fun m =>
        { m with reqHead := (m.reqHead + 1) % 64, dirty := m.dirty.filter fun i => decide (i ≠ k) }
      if m.dirty.contains k then
        let d := sheet s1 2048 []
        updMbx (takeRequest d.2 mb d.1) mb fun x => { x with expSeq := m.expSeq, lastReply := m.lastReply }
      else takeRequest s1 mb (headRequest s mb)
    else s)

/-! ### The BAR2 registers (R5, R413 to R417) -/

/-- BAR2 of the PF of a mailbox can be written. -/
def barUp (s : State) (mb : Mb) : Bool :=
  (powered s || decide (s.phase = .halted)) && !s.quay.sas && !s.bw.started && decide (mb.val < 2)

/-- A ring register write refused (R417). -/
def dbRefused (s : State) (mb : Mb) : State := updMbx s mb fun m => { m with dbErr := true }

/-- A write of MBX_REQ_TAIL (R417). -/
def writeReqTail (s : State) (mb : Mb) (v : Nat) : State :=
  let m := s.mbx[mb]
  if m.enable && decide (v < 64) && decide ((v + 64 - m.reqTail) % 64 ≤ mbxFree m) then updMbx s mb fun m => { m with reqTail := v }
  else dbRefused s mb

/-- A write of MBX_RESP_HEAD (R417). -/
def writeRespHead (s : State) (mb : Mb) (v : Nat) : State :=
  let m := s.mbx[mb]
  if (v % 64 + 64 - m.respHead) % 64 ≤ (m.respTail + 64 - m.respHead) % 64 then updMbx s mb fun m => { m with respHead := v % 64 }
  else dbRefused s mb

/-- A write of MBX_NTF_HEAD (R417). -/
def writeNtfHead (s : State) (mb : Mb) (v : Nat) : State :=
  let m := s.mbx[mb]
  if (v % 128 + 128 - m.ntfHead) % 128 ≤ ntfUsed m then updMbx s mb fun m => { m with ntfHead := v % 128 }
  else dbRefused s mb

def execMbxReqTailWrite (mb : Mb) (v : BitVec 32) (s : State) : Host.Outcome State Fault Refusal :=
  .next (if barUp s mb then writeReqTail s mb v.toNat else s)

def execMbxRespHeadWrite (mb : Mb) (v : BitVec 32) (s : State) : Host.Outcome State Fault Refusal :=
  .next (if barUp s mb then writeRespHead s mb v.toNat else s)

def execMbxNtfHeadWrite (mb : Mb) (v : BitVec 32) (s : State) : Host.Outcome State Fault Refusal :=
  .next (if barUp s mb then writeNtfHead s mb v.toNat else s)

/-- Four bytes of a request slot; a slot whose request is outstanding is marked (R413, R417). -/
def writeSlot4 (s : State) (mb : Mb) (o : Nat) (v : BitVec 32) : State :=
  updMbx s mb fun m =>
    let i := o / 2048
    let old := padTo 2048 (smRead [] m.reqSlots i)
    let k := o % 2048 / 4 * 4
    let out : Bool := (List.range ((m.reqTail + 64 - m.reqHead) % 64)).any fun j => decide ((m.reqHead + j) % 32 = i)
    { m with reqSlots := smPut m.reqSlots i (old.take k ++ leBytes 4 v.toNat ++ old.drop (k + 4)),
             dirty := if out && !m.dirty.contains i then i :: m.dirty else m.dirty }

/-- MBX_STATUS (R416). -/
def mbxStatus (s : State) (mb : Mb) : Nat :=
  let m := s.mbx[mb]
  packF [(31, 1, b2n m.ready), (30, 1, b2n m.armed.isSome), (27, 3, privOf s mb), (24, 3, lifeCode s.sec.life),
    (23, 1, b2n m.dbErr), (22, 1, b2n m.ntfOvf), (21, 1, b2n m.seqErr), (20, 1, b2n m.reinit), (0, 16, m.ntfLost)]

/-- Four bytes from an offset of a slot, little-endian. -/
def word4 (bs : List Byte) (o : Nat) : Nat := leNat ((padTo (o + 4) bs).drop o |>.take 4)

/-- The 32 bits that BAR2 reads at an offset; a place that holds nothing reads 0 (R5, R413, R414). -/
def readReg (s : State) (mb : Mb) (offset : Nat) : Nat :=
  let m := s.mbx[mb]
  if offset = 0x000 then packF [(16, 16, 1), (8, 8, 32), (0, 8, 0x40)]
  else if offset = 0x004 then packF [(31, 1, b2n m.enable), (30, 1, b2n m.respInt), (29, 1, b2n m.ntfInt), (0, 11, m.vector)]
  else if offset = 0x008 then mbxStatus s mb
  else if offset = 0x00C then m.reqTail
  else if offset = 0x010 then m.reqHead
  else if offset = 0x014 then m.respTail
  else if offset = 0x018 then m.respHead
  else if offset = 0x01C then mbxFree m
  else if offset = 0x020 then m.ntfTail
  else if offset = 0x024 then m.ntfHead
  else if 0x10000 ≤ offset ∧ offset < 0x20000 then word4 (smRead [] m.reqSlots (offset / 2048 % 32)) (offset % 2048 / 4 * 4)
  else if 0x20000 ≤ offset ∧ offset < 0x30000 then word4 (smRead [] m.respSlots (offset / 2048 % 32)) (offset % 2048 / 4 * 4)
  else if 0x30000 ≤ offset ∧ offset < 0x31000 then
    (match smGet m.ntfs (offset / 64 % 64) with
     | some e => word4 (ntfBytes mb e) (offset % 64 / 4 * 4)
     | none => 0)
  else 0

/-- A read of a BAR2 register: the value is returned, and NTF_LOST, an RC field, then clears (R4, R416). -/
def regRead (s : State) (mb : Mb) (offset : Nat) : State :=
  let s1 := emit s (.reg mb.val offset (readReg s mb offset))
  if offset = 0x008 then updMbx s1 mb fun m => { m with ntfLost := 0 } else s1

/-- A 32-bit write anywhere in BAR2. Reserved bits and read-only places are not changed (R5, R413 to R416). -/
def regWrite (s : State) (mb : Mb) (offset : Nat) (v : BitVec 32) : State :=
  let n := v.toNat
  if offset = 0x004 then updMbx s mb fun m =>
    { m with enable := bitAt n 31, respInt := bitAt n 30, ntfInt := bitAt n 29, vector := n % 2048 }
  else if offset = 0x008 then updMbx s mb fun m =>
    { m with dbErr := m.dbErr && !bitAt n 23, ntfOvf := m.ntfOvf && !bitAt n 22, seqErr := m.seqErr && !bitAt n 21,
             reinit := m.reinit && !bitAt n 20 }
  else if offset = 0x00C then writeReqTail s mb n
  else if offset = 0x018 then writeRespHead s mb n
  else if offset = 0x024 then writeNtfHead s mb n
  else if 0x10000 ≤ offset ∧ offset < 0x20000 then writeSlot4 s mb (offset - 0x10000) v
  else s

/-- REGISTER_WRITE: an access to a register or a slot in BAR2, a write of a value or, with none, a read (R4, R413 to
R416; log entry 199). -/
def execRegisterWrite (mb : Mb) (offset : Nat) (v : Option (BitVec 32)) (s : State) : Host.Outcome State Fault Refusal :=
  .next (if barUp s mb then
      match v with
      | some v => regWrite s mb offset v
      | none => regRead s mb offset
    else s)

/-! ### NVMe-MI and the UART (R412, R419, R420) -/

/-- Undo the escapes of a UART frame. -/
def unescape : List Byte → List Byte
  | [] => []
  | [b] => [b]
  | b :: c :: bs => if b = 0x7D then (c ^^^ 0x20) :: unescape bs else b :: unescape (c :: bs)

/-- Mailbox 2 or 3 is served at all (R430, R434, R519, R522). -/
def served (s : State) (mb : Mb) : Bool :=
  !s.bw.started && !(decide (s.sec.life = .blank) && decide (mb ≠ 3)) &&
    (live s || (decide (s.phase = .boot) && decide (7 ≤ s.boot.step)) || (decide (s.phase = .halted) && decide (s.boot.halt ≠ 1)))

/-- A request arrives on mailbox 2 or 3: it takes a credit, or is answered NO_CREDIT at once. -/
def arrive (s : State) (mb : Mb) (bs : List Byte) : State :=
  let m := s.mbx[mb]
  if !served s mb then s
  else if slotsOf mb ≤ (m.reqTail + 64 - m.respHead) % 64 then
    let x := replyBytes mb { op := hdrN bs 0 2, seq := hdrN bs 12 4, status := 0x0016 }
    emit s (if mb = 2 then .miReply x else .uartFrame (uartWire x))
  else updMbx s mb fun m => { m with reqSlots := smPut m.reqSlots (m.reqTail % 32) bs, reqTail := (m.reqTail + 1) % 64 }

/-- UART_FRAME: the bytes between two 0x7E bytes. -/
def execUartFrame (raw : List Byte) (s : State) : Host.Outcome State Fault Refusal := .next (arrive s 3 (unescape raw))

/-- NVME_MI_COMMAND: the request data of a vendor command. -/
def execNvmeMiCommand (msg : List Byte) (s : State) : Host.Outcome State Fault Refusal := .next (arrive s 2 msg)

/-! ### Ends (R424, R433) -/

/-- The end of a CHN_CAPTURE: the samples of both readers into staging, each a free 6-bit code (R181, R439). -/
def captureFinish (s : State) (mb : Mb) (seq status : Nat) : State :=
  match allStreams.find? fun m => match s.chn[m].capture with | some c => decide (c.2.2.2 = (mb, seq)) | none => false with
  | none => postDone s mb seq status 0 0
  | some m =>
    let n := match s.chn[m].capture with | some c => c.2.2.1 | none => 0
    let s1 := updChn s m fun c => { c with capture := none }
    if status = 0 then
      let d := sheet s1 (2 * n) []
      postDone (updMbx d.2 mb fun x => { x with staging := smWriteBytes x.staging 0 (d.1.map (· &&& 63)) }) mb seq 0 0 0
    else postDone s1 mb seq status 0 0

/-- L_MESSAGE_DONE: what an L message has begun ends, with its DONE (R424). A checkpoint and a reshape end with
their own work (R267, R298). -/
def execLMessageDone (mb : Mb) (seq status : Nat) (result : Nat) (s : State) : Host.Outcome State Fault Refusal :=
  .next (if !(powered s || decide (s.phase = .halted)) || s.bw.started then s
    else match s.mbx[mb].lMsgs.find? fun l => l.seq = seq with
      | none => if s.fw.slipTag.isSome then slipStep s else s
      | some l =>
        if l.op = 0x0C03 then lcFinish s
        else if l.op = 0x0C06 then quoteFinish s mb seq
        else if l.op = 0x0A01 then (match s.seqDev.job with | some j => if j.mb = mb ∧ j.seq = seq then loadFinish s j else s | none => s)
        else if l.op = 0x0A02 then swapFinish s mb seq
        else if l.op = 0x0A03 then commitFinish s mb seq
        else if l.op = 0x0A04 then slipStep s
        else if l.op = 0x0308 then captureFinish s mb seq status
        else if l.op = 0x0505 ∨ l.op = 0x050B then s
        else postDone s mb seq status 0 result)

/-- NONCE_EXPIRY: 60 s after its challenge (R433). -/
def execNonceExpiry (mb : Mb) (s : State) : Host.Outcome State Fault Refusal :=
  .next (updMbx s mb fun x => { x with nonce := none })

/-- AUTH_ARM_EXPIRY: 60 s after arming (R433). -/
def execAuthArmExpiry (mb : Mb) (s : State) : Host.Outcome State Fault Refusal :=
  .next (updMbx s mb fun x => { x with armed := none, armedRoles := 0, armedDm := [] })

/-- AUTH_LOCKOUT_END: 1 h after the eighth failure (R433). -/
def execAuthLockoutEnd (mb : Mb) (s : State) : Host.Outcome State Fault Refusal :=
  .next (updMbx s mb fun x => { x with lockout := false, authFails := if x.lockout then [] else x.authFails })

end Sys2Proof.Machine
end

