-- ==== Sys2Proof/Machine/Dispatch.lean ====
section
/-! DEFINITION. Dispatch: one arm for each command of the block. -/

namespace Sys2Proof.Machine

def exec (i : Instr) (s : State) : Host.Outcome State Fault Refusal :=
  match i with
  | .auditEpochClose rep => Sys2Proof.Machine.execAuditEpochClose rep s
  | .guardGapTimeout a => Sys2Proof.Machine.execGuardGapTimeout a s
  | .internalResetRelease b => Sys2Proof.Machine.execInternalResetRelease b s
  | .haltUartLine => Sys2Proof.Machine.execHaltUartLine s
  | .resetNAssert => Sys2Proof.Machine.execResetNAssert s
  | .porstNAssert => Sys2Proof.Machine.execPorstNAssert s
  | .pwrfailNAssert => Sys2Proof.Machine.execPwrfailNAssert s
  | .powerOnDetect => Sys2Proof.Machine.execPowerOnDetect s
  | .avsTick cpu soc => Sys2Proof.Machine.execAvsTick cpu soc s
  | .speedMonitorEmergency soc => Sys2Proof.Machine.execSpeedMonitorEmergency soc s
  | .avsAcknowledge soc ok => Sys2Proof.Machine.execAvsAcknowledge soc ok s
  | .coreFrequencyRaise => Sys2Proof.Machine.execCoreFrequencyRaise s
  | .thermalSensorRead sensors => Sys2Proof.Machine.execThermalSensorRead sensors s
  | .thermalThrottleStep => Sys2Proof.Machine.execThermalThrottleStep s
  | .thermalRelease => Sys2Proof.Machine.execThermalRelease s
  | .thermalTrip => Sys2Proof.Machine.execThermalTrip s
  | .loopSlot a late uncorr x => Sys2Proof.Machine.execLoopSlot a late uncorr x s
  | .positionSampleArrival m sample => Sys2Proof.Machine.execPositionSampleArrival m sample s
  | .addressWordDecoded m w f => Sys2Proof.Machine.execAddressWordDecoded m w f s
  | .toneLockDeclared m => Sys2Proof.Machine.execToneLockDeclared m s
  | .toneLockLost m => Sys2Proof.Machine.execToneLockLost m s
  | .holdoverTimeout m => Sys2Proof.Machine.execHoldoverTimeout m s
  | .headSelect m h => Sys2Proof.Machine.execHeadSelect m h s
  | .acquisitionFail m => Sys2Proof.Machine.execAcquisitionFail m s
  | .zoneRatioApply m => Sys2Proof.Machine.execZoneRatioApply m s
  | .zoneSettleEnd m => Sys2Proof.Machine.execZoneSettleEnd m s
  | .rateOutOfRange m => Sys2Proof.Machine.execRateOutOfRange m s
  | .demodParamApply h => Sys2Proof.Machine.execDemodParamApply h s
  | .lkbSetSurface r head surface pL index lin => Sys2Proof.Machine.execLkbSetSurface r head surface pL index lin s
  | .lkbSetZoneMap r surface first => Sys2Proof.Machine.execLkbSetZoneMap r surface first s
  | .lkbSetRatio r head zone word => Sys2Proof.Machine.execLkbSetRatio r head zone word s
  | .lkbSetGuard r act word => Sys2Proof.Machine.execLkbSetGuard r act word s
  | .lkbSetDemod r head stream ps => Sys2Proof.Machine.execLkbSetDemod r head stream ps s
  | .lkbGetStatus r stream clear => Sys2Proof.Machine.execLkbGetStatus r stream clear s
  | .lkbReadPosition r stream => Sys2Proof.Machine.execLkbReadPosition r stream s
  | .lawDeadlineMiss a l => Sys2Proof.Machine.execLawDeadlineMiss a l s
  | .vcmMissRetract a => Sys2Proof.Machine.execVcmMissRetract a s
  | .seekTarget a t => Sys2Proof.Machine.execSeekTarget a t s
  | .trajStopPlan a => Sys2Proof.Machine.execTrajStopPlan a s
  | .seekAbort a => Sys2Proof.Machine.execSeekAbort a s
  | .followRmsCheck a => Sys2Proof.Machine.execFollowRmsCheck a s
  | .actuatorLoad a => Sys2Proof.Machine.execActuatorLoad a s
  | .actuatorUnload a => Sys2Proof.Machine.execActuatorUnload a s
  | .rampStopReached a => Sys2Proof.Machine.execRampStopReached a s
  | .writeReadySet a => Sys2Proof.Machine.execWriteReadySet a s
  | .blendEnd a l => Sys2Proof.Machine.execBlendEnd a l s
  | .maRampEnd a => Sys2Proof.Machine.execMaRampEnd a s
  | .holdEntry a => Sys2Proof.Machine.execHoldEntry a s
  | .holdTimeoutRetract a => Sys2Proof.Machine.execHoldTimeoutRetract a s
  | .twinRegistration a => Sys2Proof.Machine.execTwinRegistration a s
  | .twinFallback a trigger onLead => Sys2Proof.Machine.execTwinFallback a trigger onLead s
  | .twinFallbackHandover a => Sys2Proof.Machine.execTwinFallbackHandover a s
  | .twinStreamRelease a => Sys2Proof.Machine.execTwinStreamRelease a s
  | .twinHoldoffExpiry a lead partner => Sys2Proof.Machine.execTwinHoldoffExpiry a lead partner s
  | .loopSetLaw r act law count start words => Sys2Proof.Machine.execLoopSetLaw r act law count start words s
  | .loopSetRwo r head vals => Sys2Proof.Machine.execLoopSetRwo r head vals s
  | .loopSetMaGain r head gain => Sys2Proof.Machine.execLoopSetMaGain r head gain s
  | .loopSetSeek r act ps => Sys2Proof.Machine.execLoopSetSeek r act ps s
  | .loopSetFollow r act ps => Sys2Proof.Machine.execLoopSetFollow r act ps s
  | .loopSetTwin r act ps => Sys2Proof.Machine.execLoopSetTwin r act ps s
  | .loopGetStatus r act clear => Sys2Proof.Machine.execLoopGetStatus r act clear s
  | .pwmPeriodStart => Sys2Proof.Machine.execPwmPeriodStart s
  | .currentSamplesReady code1 code2 late => Sys2Proof.Machine.execCurrentSamplesReady code1 code2 late s
  | .overcurrentTrip => Sys2Proof.Machine.execOvercurrentTrip s
  | .coastRestart => Sys2Proof.Machine.execCoastRestart s
  | .observerLock => Sys2Proof.Machine.execObserverLock s
  | .observerLockLoss => Sys2Proof.Machine.execObserverLockLoss s
  | .indexCrossing m stamp => Sys2Proof.Machine.execIndexCrossing m stamp s
  | .currentLawMissCoast => Sys2Proof.Machine.execCurrentLawMissCoast s
  | .speedLawSample meas8 late => Sys2Proof.Machine.execSpeedLawSample meas8 late s
  | .listenComplete => Sys2Proof.Machine.execListenComplete s
  | .brakeDecision emfMv rpm8 => Sys2Proof.Machine.execBrakeDecision emfMv rpm8 s
  | .standstillDeclared => Sys2Proof.Machine.execStandstillDeclared s
  | .alignComplete => Sys2Proof.Machine.execAlignComplete s
  | .startFail => Sys2Proof.Machine.execStartFail s
  | .freeRampStart => Sys2Proof.Machine.execFreeRampStart s
  | .speedPolicyEval busy => Sys2Proof.Machine.execSpeedPolicyEval busy s
  | .dirtyHoldRelease => Sys2Proof.Machine.execDirtyHoldRelease s
  | .underspeed => Sys2Proof.Machine.execUnderspeed s
  | .chopperFault => Sys2Proof.Machine.execChopperFault s
  | .holdupEntry => Sys2Proof.Machine.execHoldupEntry s
  | .spnSetSpeed r rpm cls => Sys2Proof.Machine.execSpnSetSpeed r rpm cls s
  | .spnSetPolicy r ps => Sys2Proof.Machine.execSpnSetPolicy r ps s
  | .spnSetLimits r ps => Sys2Proof.Machine.execSpnSetLimits r ps s
  | .spnSetMotor r ps => Sys2Proof.Machine.execSpnSetMotor r ps s
  | .spnStart r => Sys2Proof.Machine.execSpnStart r s
  | .spnStop r => Sys2Proof.Machine.execSpnStop r s
  | .spnGetStatus r clear => Sys2Proof.Machine.execSpnGetStatus r clear s
  | .sectorReadStart m ord => Sys2Proof.Machine.execSectorReadStart m ord s
  | .sectorDecodeDone m d => Sys2Proof.Machine.execSectorDecodeDone m d s
  | .sectorResultPost m => Sys2Proof.Machine.execSectorResultPost m s
  | .deepDecodeStart => Sys2Proof.Machine.execDeepDecodeStart s
  | .deepDecodeDone d f => Sys2Proof.Machine.execDeepDecodeDone d f s
  | .recoveryLimitExpiry m place slot => Sys2Proof.Machine.execRecoveryLimitExpiry m place slot s
  | .formatApply m => Sys2Proof.Machine.execFormatApply m s
  | .syncParamApply h z => Sys2Proof.Machine.execSyncParamApply h z s
  | .chnSetFormat r head zone word => Sys2Proof.Machine.execChnSetFormat r head zone word s
  | .chnSetFrontend r head zone ps => Sys2Proof.Machine.execChnSetFrontend r head zone ps s
  | .chnSetEq r head zone stream ps => Sys2Proof.Machine.execChnSetEq r head zone stream ps s
  | .chnSetDetector r head zone ps => Sys2Proof.Machine.execChnSetDetector r head zone ps s
  | .chnSetSync r head zone ps => Sys2Proof.Machine.execChnSetSync r head zone ps s
  | .chnSetRecovery r stream ps => Sys2Proof.Machine.execChnSetRecovery r stream ps s
  | .chnGetStatus r stream clear => Sys2Proof.Machine.execChnGetStatus r stream clear s
  | .chnCapture r head slot track count => Sys2Proof.Machine.execChnCapture r head slot track count s
  | .writeOrderDispatch a ord => Sys2Proof.Machine.execWriteOrderDispatch a ord s
  | .htrReadySet h => Sys2Proof.Machine.execHtrReadySet h s
  | .assistEnableRise a => Sys2Proof.Machine.execAssistEnableRise a s
  | .writeGateOpen a => Sys2Proof.Machine.execWriteGateOpen a s
  | .writeSectorEnd a => Sys2Proof.Machine.execWriteSectorEnd a s
  | .writeUnderrun a => Sys2Proof.Machine.execWriteUnderrun a s
  | .writeRunEnd a => Sys2Proof.Machine.execWriteRunEnd a s
  | .sectorRewrite a ctx slot => Sys2Proof.Machine.execSectorRewrite a ctx slot s
  | .ffPersist => Sys2Proof.Machine.execFfPersist s
  | .heaterHoldEnd h => Sys2Proof.Machine.execHeaterHoldEnd h s
  | .contactRearm h => Sys2Proof.Machine.execContactRearm h s
  | .wrpSetFormat r head zone ps => Sys2Proof.Machine.execWrpSetFormat r head zone ps s
  | .wrpSetAssist r head zone ps => Sys2Proof.Machine.execWrpSetAssist r head zone ps s
  | .wrpSetFh r head zone ps => Sys2Proof.Machine.execWrpSetFh r head zone ps s
  | .wrpSetLimits r ps => Sys2Proof.Machine.execWrpSetLimits r ps s
  | .wrpSetWear r head ps => Sys2Proof.Machine.execWrpSetWear r head ps s
  | .wrpOpenBand r act desc => Sys2Proof.Machine.execWrpOpenBand r act desc s
  | .wrpCloseBand r act ctx => Sys2Proof.Machine.execWrpCloseBand r act ctx s
  | .wrpStop r act => Sys2Proof.Machine.execWrpStop r act s
  | .wrpRelease r head => Sys2Proof.Machine.execWrpRelease r head s
  | .wrpGetStatus r act clear => Sys2Proof.Machine.execWrpGetStatus r act clear s
  | .wrpGetWear r head => Sys2Proof.Machine.execWrpGetWear r head s
  | .preampDownstreamFrame a => Sys2Proof.Machine.execPreampDownstreamFrame a s
  | .preampUpstreamFrame a frame => Sys2Proof.Machine.execPreampUpstreamFrame a frame s
  | .pslTxFrame => Sys2Proof.Machine.execPslTxFrame s
  | .pslRxFrame frame => Sys2Proof.Machine.execPslRxFrame frame s
  | .regRequestTimeout link tag => Sys2Proof.Machine.execRegRequestTimeout link tag s
  | .linkTrainingTimeout link => Sys2Proof.Machine.execLinkTrainingTimeout link s
  | .linkTrainingRetry link => Sys2Proof.Machine.execLinkTrainingRetry link s
  | .preampLinkLost a => Sys2Proof.Machine.execPreampLinkLost a s
  | .pslLinkLost => Sys2Proof.Machine.execPslLinkLost s
  | .plkGetStatus r act clear => Sys2Proof.Machine.execPlkGetStatus r act clear s
  | .pslGetStatus r clear => Sys2Proof.Machine.execPslGetStatus r clear s
  | .plkRegAccess r act op addr data => Sys2Proof.Machine.execPlkRegAccess r act op addr data s
  | .pslRegAccess r op addr data => Sys2Proof.Machine.execPslRegAccess r op addr data s
  | .lnkSetLimits r ps => Sys2Proof.Machine.execLnkSetLimits r ps s
  | .pslSetSafe r ps => Sys2Proof.Machine.execPslSetSafe r ps s
  | .stripeDestageStart berth stripe => Sys2Proof.Machine.execStripeDestageStart berth stripe s
  | .parityEngineDone e => Sys2Proof.Machine.execParityEngineDone e s
  | .manifestEntryRecorded slot => Sys2Proof.Machine.execManifestEntryRecorded slot s
  | .memberStripComplete slot member energyNj actUs => Sys2Proof.Machine.execMemberStripComplete slot member energyNj actUs s
  | .logStripeAged kind layout => Sys2Proof.Machine.execLogStripeAged kind layout s
  | .dredgeStart => Sys2Proof.Machine.execDredgeStart s
  | .dredgeVictimDone => Sys2Proof.Machine.execDredgeVictimDone s
  | .patrolStripeCheck berth stripe rows => Sys2Proof.Machine.execPatrolStripeCheck berth stripe rows s
  | .checkpointStart => Sys2Proof.Machine.execCheckpointStart s
  | .checkpointCommit okA okB => Sys2Proof.Machine.execCheckpointCommit okA okB s
  | .brtSetLayout r nsid layout => Sys2Proof.Machine.execBrtSetLayout r nsid layout s
  | .brtSetLimits r ps => Sys2Proof.Machine.execBrtSetLimits r ps s
  | .brtSetPatrol r ps => Sys2Proof.Machine.execBrtSetPatrol r ps s
  | .brtSetCkpt r ps => Sys2Proof.Machine.execBrtSetCkpt r ps s
  | .brtCheckpoint r => Sys2Proof.Machine.execBrtCheckpoint r s
  | .brtGetBerth r berth skip => Sys2Proof.Machine.execBrtGetBerth r berth skip s
  | .brtGetStatus r clear => Sys2Proof.Machine.execBrtGetStatus r clear s
  | .headDeclared h reason => Sys2Proof.Machine.execHeadDeclared h reason s
  | .actuatorDeclaredFailed a => Sys2Proof.Machine.execActuatorDeclaredFailed a s
  | .rebuildEntryCreate h => Sys2Proof.Machine.execRebuildEntryCreate h s
  | .rebuildEntryStart e => Sys2Proof.Machine.execRebuildEntryStart e s
  | .rebuildStripeComplete e lostRows suspectRows energyNj actUs => Sys2Proof.Machine.execRebuildStripeComplete e lostRows suspectRows energyNj actUs s
  | .copySwitch e => Sys2Proof.Machine.execCopySwitch e s
  | .relocation berth member n => Sys2Proof.Machine.execRelocation berth member n s
  | .shareWindow => Sys2Proof.Machine.execShareWindow s
  | .checkpointHeadMove => Sys2Proof.Machine.execCheckpointHeadMove s
  | .reshapeSwitch berth => Sys2Proof.Machine.execReshapeSwitch berth s
  | .brtSetHead r head state => Sys2Proof.Machine.execBrtSetHead r head state s
  | .brtSetHealth r ps => Sys2Proof.Machine.execBrtSetHealth r ps s
  | .brtSetRebuild r ps => Sys2Proof.Machine.execBrtSetRebuild r ps s
  | .brtReshape r kind layout target => Sys2Proof.Machine.execBrtReshape r kind layout target s
  | .brtGetRebuild r berth clear => Sys2Proof.Machine.execBrtGetRebuild r berth clear s
  | .brtGetLost r nsid start => Sys2Proof.Machine.execBrtGetLost r nsid start s
  | .brtGetReloc r index => Sys2Proof.Machine.execBrtGetReloc r index s
  | .brtGetHead r head => Sys2Proof.Machine.execBrtGetHead r head s
  | .sqTailDoorbell f qid value => Sys2Proof.Machine.execSqTailDoorbell f qid value s
  | .cqHeadDoorbell f qid value => Sys2Proof.Machine.execCqHeadDoorbell f qid value s
  | .doorbellFifoApply port => Sys2Proof.Machine.execDoorbellFifoApply port s
  | .mooringFill f qid poison => Sys2Proof.Machine.execMooringFill f qid poison s
  | .arbiterGrant => Sys2Proof.Machine.execArbiterGrant s
  | .sqEntryReturn c => Sys2Proof.Machine.execSqEntryReturn c s
  | .hostDataReceived t data pi poisoned => Sys2Proof.Machine.execHostDataReceived t data pi poisoned s
  | .writeIndexAck t => Sys2Proof.Machine.execWriteIndexAck t s
  | .completionPost t => Sys2Proof.Machine.execCompletionPost t s
  | .capWindow => Sys2Proof.Machine.execCapWindow s
  | .tallyMinuteClose => Sys2Proof.Machine.execTallyMinuteClose s
  | .orderWaitRelease t => Sys2Proof.Machine.execOrderWaitRelease t s
  | .heldWriteRelease => Sys2Proof.Machine.execHeldWriteRelease s
  | .pilotEntry a => Sys2Proof.Machine.execPilotEntry a s
  | .pilotDispatch a costs => Sys2Proof.Machine.execPilotDispatch a costs s
  | .mediaOperationEnd a rows => Sys2Proof.Machine.execMediaOperationEnd a rows s
  | .sweptCommandEnd t => Sys2Proof.Machine.execSweptCommandEnd t s
  | .deleteSqComplete t => Sys2Proof.Machine.execDeleteSqComplete t s
  | .controllerEnable f ams asq acq asqs acqs => Sys2Proof.Machine.execControllerEnable f ams asq acq asqs acqs s
  | .controllerReset f => Sys2Proof.Machine.execControllerReset f s
  | .functionLevelReset f => Sys2Proof.Machine.execFunctionLevelReset f s
  | .hotReset port => Sys2Proof.Machine.execHotReset port s
  | .perstAssert port => Sys2Proof.Machine.execPerstAssert port s
  | .perstDeassert port => Sys2Proof.Machine.execPerstDeassert port s
  | .nvmSubsystemReset => Sys2Proof.Machine.execNvmSubsystemReset s
  | .itNexusLoss port nexus => Sys2Proof.Machine.execItNexusLoss port nexus s
  | .createIoCq t => Sys2Proof.Machine.execCreateIoCq t s
  | .createIoSq t => Sys2Proof.Machine.execCreateIoSq t s
  | .deleteIoSq t => Sys2Proof.Machine.execDeleteIoSq t s
  | .deleteIoCq t => Sys2Proof.Machine.execDeleteIoCq t s
  | .identify t => Sys2Proof.Machine.execIdentify t s
  | .getLogPage t => Sys2Proof.Machine.execGetLogPage t s
  | .getLogPageTally t => Sys2Proof.Machine.execGetLogPageTally t s
  | .setFeatures t => Sys2Proof.Machine.execSetFeatures t s
  | .setFeaturesTimestamp t => Sys2Proof.Machine.execSetFeaturesTimestamp t s
  | .getFeatures t => Sys2Proof.Machine.execGetFeatures t s
  | .asyncEventRequest t => Sys2Proof.Machine.execAsyncEventRequest t s
  | .abort t => Sys2Proof.Machine.execAbort t s
  | .namespaceManagementCreate t => Sys2Proof.Machine.execNamespaceManagementCreate t s
  | .namespaceManagementDelete t => Sys2Proof.Machine.execNamespaceManagementDelete t s
  | .namespaceAttach t => Sys2Proof.Machine.execNamespaceAttach t s
  | .namespaceDetach t => Sys2Proof.Machine.execNamespaceDetach t s
  | .firmwareImageDownload t => Sys2Proof.Machine.execFirmwareImageDownload t s
  | .firmwareCommitCa000 t => Sys2Proof.Machine.execFirmwareCommitCa000 t s
  | .firmwareCommitCa001 t => Sys2Proof.Machine.execFirmwareCommitCa001 t s
  | .firmwareCommitCa010 t => Sys2Proof.Machine.execFirmwareCommitCa010 t s
  | .firmwareCommitCa011 t => Sys2Proof.Machine.execFirmwareCommitCa011 t s
  | .virtualizationManagement t => Sys2Proof.Machine.execVirtualizationManagement t s
  | .formatNvm t => Sys2Proof.Machine.execFormatNvm t s
  | .sanitizeCryptoErase t => Sys2Proof.Machine.execSanitizeCryptoErase t s
  | .securitySend t m => Sys2Proof.Machine.execSecuritySend t m s
  | .securityReceive t => Sys2Proof.Machine.execSecurityReceive t s
  | .opalAuthenticate auth nsid cred => Sys2Proof.Machine.execOpalAuthenticate auth nsid cred s
  | .opalGenkey nsid => Sys2Proof.Machine.execOpalGenkey nsid s
  | .opalRevert => Sys2Proof.Machine.execOpalRevert s
  | .opalRevertsp => Sys2Proof.Machine.execOpalRevertsp s
  | .getLbaStatus t => Sys2Proof.Machine.execGetLbaStatus t s
  | .deviceSelfTest t => Sys2Proof.Machine.execDeviceSelfTest t s
  | .read t => Sys2Proof.Machine.execRead t s
  | .write t => Sys2Proof.Machine.execWrite t s
  | .flush t => Sys2Proof.Machine.execFlush t s
  | .writeZeroes t => Sys2Proof.Machine.execWriteZeroes t s
  | .datasetManagement t => Sys2Proof.Machine.execDatasetManagement t s
  | .verify t => Sys2Proof.Machine.execVerify t s
  | .reservationRegister t => Sys2Proof.Machine.execReservationRegister t s
  | .reservationReport t => Sys2Proof.Machine.execReservationReport t s
  | .reservationAcquire t => Sys2Proof.Machine.execReservationAcquire t s
  | .reservationRelease t => Sys2Proof.Machine.execReservationRelease t s
  | .zoneAppend t => Sys2Proof.Machine.execZoneAppend t s
  | .zoneOpen t => Sys2Proof.Machine.execZoneOpen t s
  | .zoneClose t => Sys2Proof.Machine.execZoneClose t s
  | .zoneFinish t => Sys2Proof.Machine.execZoneFinish t s
  | .zoneReset t => Sys2Proof.Machine.execZoneReset t s
  | .zoneOffline t => Sys2Proof.Machine.execZoneOffline t s
  | .reportZones t => Sys2Proof.Machine.execReportZones t s
  | .inquiry lu c => Sys2Proof.Machine.execInquiry lu c s
  | .reportLuns lu c => Sys2Proof.Machine.execReportLuns lu c s
  | .testUnitReady lu c => Sys2Proof.Machine.execTestUnitReady lu c s
  | .requestSense lu c => Sys2Proof.Machine.execRequestSense lu c s
  | .readCapacity16 lu c => Sys2Proof.Machine.execReadCapacity16 lu c s
  | .read16 lu c => Sys2Proof.Machine.execRead16 lu c s
  | .write16 lu c => Sys2Proof.Machine.execWrite16 lu c s
  | .verify16 lu c => Sys2Proof.Machine.execVerify16 lu c s
  | .synchronizeCache16 lu c => Sys2Proof.Machine.execSynchronizeCache16 lu c s
  | .unmap lu c => Sys2Proof.Machine.execUnmap lu c s
  | .formatUnit lu c => Sys2Proof.Machine.execFormatUnit lu c s
  | .scsiSanitize lu c => Sys2Proof.Machine.execScsiSanitize lu c s
  | .modeSense10 lu c => Sys2Proof.Machine.execModeSense10 lu c s
  | .modeSelect10 lu c => Sys2Proof.Machine.execModeSelect10 lu c s
  | .logSense lu c => Sys2Proof.Machine.execLogSense lu c s
  | .startStopUnit lu c => Sys2Proof.Machine.execStartStopUnit lu c s
  | .writeBufferMode0e lu c => Sys2Proof.Machine.execWriteBufferMode0e lu c s
  | .writeBufferMode0f lu c => Sys2Proof.Machine.execWriteBufferMode0f lu c s
  | .writeBufferMode07 lu c => Sys2Proof.Machine.execWriteBufferMode07 lu c s
  | .readBuffer lu c => Sys2Proof.Machine.execReadBuffer lu c s
  | .securityProtocolIn lu c => Sys2Proof.Machine.execSecurityProtocolIn lu c s
  | .securityProtocolOut lu c m => Sys2Proof.Machine.execSecurityProtocolOut lu c m s
  | .persistentReserveIn lu c => Sys2Proof.Machine.execPersistentReserveIn lu c s
  | .persistentReserveOut lu c => Sys2Proof.Machine.execPersistentReserveOut lu c s
  | .scsiReportZones lu c => Sys2Proof.Machine.execScsiReportZones lu c s
  | .resetWritePointer lu c => Sys2Proof.Machine.execResetWritePointer lu c s
  | .openZone lu c => Sys2Proof.Machine.execOpenZone lu c s
  | .closeZone lu c => Sys2Proof.Machine.execCloseZone lu c s
  | .finishZone lu c => Sys2Proof.Machine.execFinishZone lu c s
  | .mailboxSend lu port c => Sys2Proof.Machine.execMailboxSend lu port c s
  | .mailboxReceive lu port c => Sys2Proof.Machine.execMailboxReceive lu port c s
  | .mailboxReceiveNotify lu port c => Sys2Proof.Machine.execMailboxReceiveNotify lu port c s
  | .abortTask lu nexus cid => Sys2Proof.Machine.execAbortTask lu nexus cid s
  | .abortTaskSet lu nexus => Sys2Proof.Machine.execAbortTaskSet lu nexus s
  | .clearTaskSet lu nexus => Sys2Proof.Machine.execClearTaskSet lu nexus s
  | .logicalUnitReset lu nexus => Sys2Proof.Machine.execLogicalUnitReset lu nexus s
  | .iTNexusReset nexus => Sys2Proof.Machine.execITNexusReset nexus s
  | .queryTask lu nexus cid => Sys2Proof.Machine.execQueryTask lu nexus cid s
  | .queryTaskSet lu nexus => Sys2Proof.Machine.execQueryTaskSet lu nexus s
  | .queryAsynchronousEvent lu nexus => Sys2Proof.Machine.execQueryAsynchronousEvent lu nexus s
  | .clearAca lu nexus => Sys2Proof.Machine.execClearAca lu nexus s
  | .quaySetMoormode r fullNext => Sys2Proof.Machine.execQuaySetMoormode r fullNext s
  | .quaySetArb r ps => Sys2Proof.Machine.execQuaySetArb r ps s
  | .quaySetAllot r func word => Sys2Proof.Machine.execQuaySetAllot r func word s
  | .quayGetAllot r func => Sys2Proof.Machine.execQuayGetAllot r func s
  | .quaySetAdmit r func ps => Sys2Proof.Machine.execQuaySetAdmit r func ps s
  | .quaySetDrivePower r maxpwr => Sys2Proof.Machine.execQuaySetDrivePower r maxpwr s
  | .quayGetMooring r func qid => Sys2Proof.Machine.execQuayGetMooring r func qid s
  | .quayGetTag r tag => Sys2Proof.Machine.execQuayGetTag r tag s
  | .tallyRead r func start count => Sys2Proof.Machine.execTallyRead r func start count s
  | .tallyClear r func => Sys2Proof.Machine.execTallyClear r func s
  | .dramRead q result user => Sys2Proof.Machine.execDramRead q result user s
  | .dramWrite q data poisoned => Sys2Proof.Machine.execDramWrite q data poisoned s
  | .dramNarrowWrite addr bytes => Sys2Proof.Machine.execDramNarrowWrite addr bytes s
  | .mergeEntryTimeout line result => Sys2Proof.Machine.execMergeEntryTimeout line result s
  | .scrubLine due result => Sys2Proof.Machine.execScrubLine due result s
  | .dramRefresh ch => Sys2Proof.Machine.execDramRefresh ch s
  | .dramTempRead t0 t1 => Sys2Proof.Machine.execDramTempRead t0 t1 s
  | .selfRefreshEntry ch => Sys2Proof.Machine.execSelfRefreshEntry ch s
  | .selfRefreshExit ch asked => Sys2Proof.Machine.execSelfRefreshExit ch asked s
  | .dramRetrain ch drift64 => Sys2Proof.Machine.execDramRetrain ch drift64 s
  | .drcGetStatus r clear => Sys2Proof.Machine.execDrcGetStatus r clear s
  | .drcGetRegions r => Sys2Proof.Machine.execDrcGetRegions r s
  | .drcSetScrub r ps => Sys2Proof.Machine.execDrcSetScrub r ps s
  | .drcSetPort r port ps => Sys2Proof.Machine.execDrcSetPort r port ps s
  | .drcSetTrain r ps => Sys2Proof.Machine.execDrcSetTrain r ps s
  | .drcSetPower r ps => Sys2Proof.Machine.execDrcSetPower r ps s
  | .drcInject r addr flip => Sys2Proof.Machine.execDrcInject r addr flip s
  | .orderPost n word => Sys2Proof.Machine.execOrderPost n word s
  | .seqEventLine n line => Sys2Proof.Machine.execSeqEventLine n line s
  | .seqTimerExpiry n => Sys2Proof.Machine.execSeqTimerExpiry n s
  | .watchdogExpiry n => Sys2Proof.Machine.execWatchdogExpiry n s
  | .networkAccessTimeout n => Sys2Proof.Machine.execNetworkAccessTimeout n s
  | .networkWriteError n => Sys2Proof.Machine.execNetworkWriteError n s
  | .moveDone n => Sys2Proof.Machine.execMoveDone n s
  | .storeAudit b digest => Sys2Proof.Machine.execStoreAudit b digest s
  | .nop n w => Sys2Proof.Machine.execNop n w s
  | .yield n w => Sys2Proof.Machine.execYield n w s
  | .commit n w => Sys2Proof.Machine.execCommit n w s
  | .halt n w => Sys2Proof.Machine.execHalt n w s
  | .fault n w => Sys2Proof.Machine.execFault n w s
  | .getord n w => Sys2Proof.Machine.execGetord n w s
  | .dispatch n w => Sys2Proof.Machine.execDispatch n w s
  | .post n w => Sys2Proof.Machine.execPost n w s
  | .evt n w => Sys2Proof.Machine.execEvt n w s
  | .iret n w => Sys2Proof.Machine.execIret n w s
  | .add n w => Sys2Proof.Machine.execAdd n w s
  | .sub n w => Sys2Proof.Machine.execSub n w s
  | .and n w => Sys2Proof.Machine.execAnd n w s
  | .or n w => Sys2Proof.Machine.execOr n w s
  | .xor n w => Sys2Proof.Machine.execXor n w s
  | .shl n w => Sys2Proof.Machine.execShl n w s
  | .shr n w => Sys2Proof.Machine.execShr n w s
  | .sar n w => Sys2Proof.Machine.execSar n w s
  | .mul n w => Sys2Proof.Machine.execMul n w s
  | .mulhu n w => Sys2Proof.Machine.execMulhu n w s
  | .min n w => Sys2Proof.Machine.execMin n w s
  | .max n w => Sys2Proof.Machine.execMax n w s
  | .minu n w => Sys2Proof.Machine.execMinu n w s
  | .maxu n w => Sys2Proof.Machine.execMaxu n w s
  | .cmp n w => Sys2Proof.Machine.execCmp n w s
  | .crc n w => Sys2Proof.Machine.execCrc n w s
  | .addi n w => Sys2Proof.Machine.execAddi n w s
  | .andi n w => Sys2Proof.Machine.execAndi n w s
  | .ori n w => Sys2Proof.Machine.execOri n w s
  | .xori n w => Sys2Proof.Machine.execXori n w s
  | .shli n w => Sys2Proof.Machine.execShli n w s
  | .shri n w => Sys2Proof.Machine.execShri n w s
  | .sari n w => Sys2Proof.Machine.execSari n w s
  | .movi n w => Sys2Proof.Machine.execMovi n w s
  | .lui n w => Sys2Proof.Machine.execLui n w s
  | .cmpi n w => Sys2Proof.Machine.execCmpi n w s
  | .ld n w => Sys2Proof.Machine.execLd n w s
  | .st n w => Sys2Proof.Machine.execSt n w s
  | .ldn n w => Sys2Proof.Machine.execLdn n w s
  | .stn n w => Sys2Proof.Machine.execStn n w s
  | .atom n w => Sys2Proof.Machine.execAtom n w s
  | .move n w => Sys2Proof.Machine.execMove n w s
  | .inPort n w => Sys2Proof.Machine.execInPort n w s
  | .inc n w => Sys2Proof.Machine.execInc n w s
  | .outPort n w => Sys2Proof.Machine.execOutPort n w s
  | .br n w => Sys2Proof.Machine.execBr n w s
  | .call n w => Sys2Proof.Machine.execCall n w s
  | .ret n w => Sys2Proof.Machine.execRet n w s
  | .bri n w => Sys2Proof.Machine.execBri n w s
  | .loop n w => Sys2Proof.Machine.execLoop n w s
  | .seqGetStatus r seq clear => Sys2Proof.Machine.execSeqGetStatus r seq clear s
  | .seqResume r seq => Sys2Proof.Machine.execSeqResume r seq s
  | .seqSetLimits r ps => Sys2Proof.Machine.execSeqSetLimits r ps s
  | .seqLoad r bank unsigned imgOfs imgLen sigOfs sigLen => Sys2Proof.Machine.execSeqLoad r bank unsigned imgOfs imgLen sigOfs sigLen s
  | .seqSwap r mask => Sys2Proof.Machine.execSeqSwap r mask s
  | .mbxReqTailWrite mb v => Sys2Proof.Machine.execMbxReqTailWrite mb v s
  | .mbxRespHeadWrite mb v => Sys2Proof.Machine.execMbxRespHeadWrite mb v s
  | .mbxNtfHeadWrite mb v => Sys2Proof.Machine.execMbxNtfHeadWrite mb v s
  | .registerWrite mb offset v => Sys2Proof.Machine.execRegisterWrite mb offset v s
  | .mailboxRequestStart mb => Sys2Proof.Machine.execMailboxRequestStart mb s
  | .uartFrame raw => Sys2Proof.Machine.execUartFrame raw s
  | .nvmeMiCommand msg => Sys2Proof.Machine.execNvmeMiCommand msg s
  | .lMessageDone mb seq status result => Sys2Proof.Machine.execLMessageDone mb seq status result s
  | .nonceExpiry mb => Sys2Proof.Machine.execNonceExpiry mb s
  | .authArmExpiry mb => Sys2Proof.Machine.execAuthArmExpiry mb s
  | .authLockoutEnd mb => Sys2Proof.Machine.execAuthLockoutEnd mb s
  | .mbxGetInfo r => Sys2Proof.Machine.execMbxGetInfo r s
  | .mbxGetNotify r max => Sys2Proof.Machine.execMbxGetNotify r max s
  | .mbxSetNotify r groups minSev flags => Sys2Proof.Machine.execMbxSetNotify r groups minSev flags s
  | .mbxSetPriv r index priv => Sys2Proof.Machine.execMbxSetPriv r index priv s
  | .mbxStageWrite r offset data => Sys2Proof.Machine.execMbxStageWrite r offset data s
  | .mbxStageRead r offset length => Sys2Proof.Machine.execMbxStageRead r offset length s
  | .mbxStageClear r => Sys2Proof.Machine.execMbxStageClear r s
  | .engineReinitFunction r index => Sys2Proof.Machine.execEngineReinitFunction r index s
  | .engineReinitQuay r => Sys2Proof.Machine.execEngineReinitQuay r s
  | .engineReinitSequencer r index => Sys2Proof.Machine.execEngineReinitSequencer r index s
  | .engineReinitMailbox r index => Sys2Proof.Machine.execEngineReinitMailbox r index s
  | .engineReinitTally r => Sys2Proof.Machine.execEngineReinitTally r s
  | .engineReinitParity r index => Sys2Proof.Machine.execEngineReinitParity r index s
  | .engineReinitDecoder r index => Sys2Proof.Machine.execEngineReinitDecoder r index s
  | .hbmGetLedger r clear => Sys2Proof.Machine.execHbmGetLedger r clear s
  | .supplySample sm => Sys2Proof.Machine.execSupplySample sm s
  | .nvWriteInhibitEntry => Sys2Proof.Machine.execNvWriteInhibitEntry s
  | .nvWriteInhibitEnd => Sys2Proof.Machine.execNvWriteInhibitEnd s
  | .breakwaterStart cause => Sys2Proof.Machine.execBreakwaterStart cause s
  | .actuatorParked a => Sys2Proof.Machine.execActuatorParked a s
  | .parkTimeout a => Sys2Proof.Machine.execParkTimeout a s
  | .parkOpenLoopEnd a => Sys2Proof.Machine.execParkOpenLoopEnd a s
  | .vaultPageProgramDone ok => Sys2Proof.Machine.execVaultPageProgramDone ok s
  | .quiescentRelease => Sys2Proof.Machine.execQuiescentRelease s
  | .vaultAreaEraseDone ar => Sys2Proof.Machine.execVaultAreaEraseDone ar s
  | .hostAdmission => Sys2Proof.Machine.execHostAdmission s
  | .lcReset => Sys2Proof.Machine.execLcReset s
  | .sessionKeyReady => Sys2Proof.Machine.execSessionKeyReady s
  | .sessionKeySuccessor => Sys2Proof.Machine.execSessionKeySuccessor s
  | .treeCacheRebuilt => Sys2Proof.Machine.execTreeCacheRebuilt s
  | .springTestFail test => Sys2Proof.Machine.execSpringTestFail test s
  | .randomnessTimeout r op => Sys2Proof.Machine.execRandomnessTimeout r op s
  | .authChallenge r opcode digest => Sys2Proof.Machine.execAuthChallenge r opcode digest s
  | .authResponse r sigOfs sigLen => Sys2Proof.Machine.execAuthResponse r sigOfs sigLen s
  | .lcChange r target => Sys2Proof.Machine.execLcChange r target s
  | .debugUnlock r scope => Sys2Proof.Machine.execDebugUnlock r scope s
  | .idGetCert r offset length => Sys2Proof.Machine.execIdGetCert r offset length s
  | .attestQuote r nonce => Sys2Proof.Machine.execAttestQuote r nonce s
  | .eventFlush okA okB => Sys2Proof.Machine.execEventFlush okA okB s
  | .counterBlockWrite okA okB => Sys2Proof.Machine.execCounterBlockWrite okA okB s
  | .powerOnSecond => Sys2Proof.Machine.execPowerOnSecond s
  | .incidentClose index => Sys2Proof.Machine.execIncidentClose index s
  | .evtSetCursor r mode position => Sys2Proof.Machine.execEvtSetCursor r mode position s
  | .evtRead r count => Sys2Proof.Machine.execEvtRead r count s
  | .evtClear r => Sys2Proof.Machine.execEvtClear r s
  | .ctrRead r scope index => Sys2Proof.Machine.execCtrRead r scope index s
  | .hbmGetIncident r index => Sys2Proof.Machine.execHbmGetIncident r index s
  | .fwCommit r slot next imgOfs imgLen sigOfs sigLen => Sys2Proof.Machine.execFwCommit r slot next imgOfs imgLen sigOfs sigLen s
  | .fwActivate r slot => Sys2Proof.Machine.execFwActivate r slot s
  | .slipwayBackout aux => Sys2Proof.Machine.execSlipwayBackout aux s
  | .fwGetSlots r => Sys2Proof.Machine.execFwGetSlots r s
  | .pwrSupplyPolicy r ps => Sys2Proof.Machine.execPwrSupplyPolicy r ps s
  | .pwrGetStatus r => Sys2Proof.Machine.execPwrGetStatus r s
  | .phaseVoltageSample u v w => Sys2Proof.Machine.execPhaseVoltageSample u v w s
  | .retractTExpiry => Sys2Proof.Machine.execRetractTExpiry s
  | .channelRateReturn m => Sys2Proof.Machine.execChannelRateReturn m s
  | .bootSpindleTimeout => Sys2Proof.Machine.execBootSpindleTimeout s

end Sys2Proof.Machine
end

