-- ==== Sys2Proof/Safety.lean ====
section
/-! DEFINITION. Safety: what the statements call an admitted message, and what its answer leaves. -/

namespace Sys2Proof.Machine

/-- The mailbox takes the message up now, and nothing refuses it before its own meaning runs (R424, R428 to R434). -/
def Admitted (s : State) (r : Req) (m : Msg) : Prop := gateOf s r.mb m.opc = 0 ∧ refusal s r m = none

/-- What SUCCESS with payload `p` leaves, where the message's own effect left `s'`: the answer on its mailbox
and, of a setter, CONFIG_CHANGED and the drive configuration (R421, R427, R428). -/
def succeeded (s' : State) (r : Req) (m : Msg) (i : Instr) (p : List Byte) : State :=
  answer (follow s' r m i 0) r m.opc 0 0 p

/-- What ACCEPTED leaves, where the beginning of the message's work left `s'`: the answer, and the message in
progress on its mailbox (R424). -/
def accepted (s' : State) (r : Req) (m : Msg) (i : Instr) : State :=
  answer (follow s' r m i 1) r m.opc 1 0 []

/-- Admitted, message `i` answers a next state: SUCCESS with payload `p` over the effect `s'`. -/
def Completes (i : Instr) (s : State) (r : Req) (m : Msg) (s' : State) (p : List Byte) : Prop :=
  Admitted s r m → exec i s = .next (succeeded s' r m i p)

/-- Admitted, L message `i` answers a next state: ACCEPTED over the effect `s'`. -/
def Begins (i : Instr) (s : State) (r : Req) (m : Msg) (s' : State) : Prop :=
  Admitted s r m → exec i s = .next (accepted s' r m i)

/-- Admitted, message `i` has begun the transaction whose end forms its answer: no STATUS yet (R423). -/
def Defers (i : Instr) (s : State) (r : Req) (m : Msg) (s' : State) : Prop :=
  Admitted s r m → exec i s = .next (updMbx s' r.mb fun x => { x with reply := none, waitOp := some (m.opc, r.seq) })

/-- Admitted, message `i` is turned away: a failing status and AUX on its mailbox, and nothing else changes. -/
def TurnsAway (i : Instr) (s : State) (r : Req) (m : Msg) (status aux : Nat) : Prop :=
  Admitted s r m → exec i s = .next (answer s r m.opc status aux [])

/-- Tag `t` holds the NVMe I/O command `r` of opcode `opc`, first in fetch order and ADMITTED (R341). -/
def IoReady (s : State) (t : Tag) (r : TagRec) (opc : Nat) : Prop :=
  tagAt s t = some r ∧ s.quay.sas = false ∧ r.qid ≠ 0 ∧ r.cmd.opc = opc ∧ admissible s r = true

/-- No admission check fails, and nothing earlier holds the command (R13, R348, R349). -/
def IoClear (s : State) (r : TagRec) : Prop := ioCheck s r = none ∧ mustWait s r = false

/-- Tag `t` holds the NVMe admin command `r` of opcode `opc`, first in its controller's order, and nothing
holds it up (R341, R349, R449, R483). -/
def AdminReady (s : State) (t : Tag) (r : TagRec) (opc : Nat) : Prop :=
  tagAt s t = some r ∧ s.quay.sas = false ∧ r.qid = 0 ∧ r.cmd.opc = opc ∧ admissible s r = true ∧ heldUp s r = false

/-- The state once a SCSI frame has its tag `t` and the arbiter has looked (R318, R323). -/
def sasTaken (s : State) (f : Fn) (c : HostCmd) (t : Tag) : State := refresh (takeTag (knowNexus s c.nexus) f c t)

/-- SCSI frame `c` at logical unit `f` takes tag `t` and the arbiter's choice falls on it at once, so that it enters
execution as `r` over state `u` (R318, R323, R345). -/
def SasGranted (s : State) (f : Fn) (c : HostCmd) (t : Tag) (u : State) (r : TagRec) : Prop :=
  sasUp s = true ∧ hostIo s = true ∧ admits (knowNexus s c.nexus) f (sasAdminOps.contains c.opc) = true ∧
    nextTag (knowNexus s c.nexus) = some t ∧ c.attr ≠ 4 ∧
    (sasAlways.contains c.opc = true ∨ attnOf (takeTag (knowNexus s c.nexus) f c t) f c.nexus = none) ∧
    chooseFn (sasTaken s f c t) = some f ∧ tagAt u t = some r ∧ r.tag = t ∧ r.cmd = c ∧ r.func = f ∧ u.quay.sas = true ∧
    (∃ r0, nextSas (sasTaken s f c t) f = some r0 ∧ r0.tag = t ∧ sasEntered (sasTaken s f c t) r0 = u)

/-- No check of the SCSI command fails, and nothing holds it (R348, R349, R355, R356). -/
def SasClear (s : State) (r : TagRec) : Prop := sasCheck s r = none ∧ heldUp s r = false

/-- Sequencer `n` runs, and the word at its program counter is opcode `opc` with fields `w`, within the step's 512
micro-operations (R390, R400). -/
def Issues (s : State) (n : Sq) (opc : Nat) (w : BitVec 26) : Prop :=
  powered s = true ∧ s.seqs[n].st = .run ∧ (s.seqs[n].ops < 512 ∨ opc = 1) ∧
    (bankWord (seqBank s s.seqs[n]) s.seqs[n].r.pc.toNat).toNat = opc * 2 ^ 26 + w.toNat

/-- The word is fetched, and the step has one more micro-operation (R400, R404). -/
def ticked (s : State) (n : Sq) : State := updSeq (fetched s n) n fun q => { q with ops := q.ops + 1 }

/-- A micro-operation that changes its sequencer's registers by `f` and goes on to the next word. -/
def stepped (s : State) (n : Sq) (f : SeqRegs → SeqRegs) : State :=
  updSeq (fetched s n) n fun q => { q with ops := q.ops + 1, r := { f q.r with pc := q.r.pc + 1 } }

/-- A micro-operation that holds a write for the commit and goes on to the next word (R395). -/
def heldStep (s : State) (n : Sq) (h : Held) : State :=
  updSeq (fetched s n) n fun q => { q with ops := q.ops + 1, held := q.held ++ [h], r := { q.r with pc := q.r.pc + 1 } }

/-! ### Canonical memory and one-way fuses -/

/-- The DRAM lines are listed in their one form: by rising line, none that reads as an unlisted line does (R363, R382). -/
def dramCanonical (d : Dram) : Bool := smWf {} d.lines && d.lines.all fun e => decide (normLine e.2 = e.2)

/-- The staging buffer and the slots of a mailbox are listed in their one form (R412, R413). -/
def mbxCanonical (m : Mailbox) : Bool := smWf 0 m.staging && smSorted m.reqSlots && smSorted m.respSlots && smSorted m.ntfs

/-- The scratch memory and the ports of a sequencer are listed in their one form (R389). -/
def seqCanonical (q : Sequencer) : Bool := smWf 0 q.scratch && smWf 0 q.ports

/-- Every addressed memory of the block is listed in its one form. -/
def canonical (s : State) : Bool :=
  dramCanonical s.dram && smWf 0 s.fw.download && allMbs.all (fun i => mbxCanonical s.mbx[i]) &&
    allSeqs.all (fun n => seqCanonical s.seqs[n]) && smWf 0 s.seqDev.banks[(0 : Fin 2)].words && smWf 0 s.seqDev.banks[(1 : Fin 2)].words

/-- No fuse of `o` has come back in `p`: a thermometer field only grows, KILL and a destroyed DUK stay, and SERIAL and
ISEED once written stay what they are (R468, R471). -/
def fusesKept (o p : Otp) : Prop :=
  o.idx ≤ p.idx ∧ o.ucSvn ≤ p.ucSvn ∧ o.fwSvn ≤ p.fwSvn ∧ o.lc ≤ p.lc ∧ (o.kill = true → p.kill = true) ∧
    (o.dukOnes = true → p.dukOnes = true) ∧ (∀ x, o.serial = some x → p.serial = some x) ∧ (∀ x, o.iseed = some x → p.iseed = some x)

end Sys2Proof.Machine
end

