-- ==== Sys2Proof/WellFormed.lean ====
section
/-! DEFINITION. WellFormed: a command's operands fit the fields that carry them: the payload fields of a message
(R425, R426, R436 to R446), the dwords of a host command (R338), the registers written (R414). -/

namespace Sys2Proof

/-- An unsigned number of so many bits. -/
def fitsN (w n : Nat) : Bool := decide (n < 2 ^ w)
/-- A two's complement number of so many bits. -/
def fitsI (w : Nat) (i : Int) : Bool := decide (-(2 ^ (w - 1) : Int) ≤ i) && decide (i < (2 ^ (w - 1) : Int))
/-- A list of so many elements. -/
def fitsLen {α : Type} (n : Nat) (l : List α) : Bool := decide (l.length = n)

/-- SEQ is 32 bits wide (R421). -/
def Req.fits (r : Req) : Bool := fitsN 32 r.seq

/-- The bits of MASK rise, and each parameter of the list has its elements (R426). -/
def fitsPars (ns : List Nat) : Params → Bool
  | [] => true
  | (b, ws) :: ps => decide (ns[b]? = some ws.length) && ps.all (fun e => decide (b < e.1)) && fitsPars ns ps

/-- The fields of a host command fit their widths. -/
def HostCmd.fits (c : HostCmd) : Bool :=
  fitsN 8 c.opc && fitsN 16 c.cid && fitsN 32 c.nsid && fitsN 32 c.dw10 && fitsN 32 c.dw11 && fitsN 32 c.dw12 &&
    fitsN 32 c.dw13 && fitsN 32 c.dw14 && fitsN 32 c.dw15 && fitsN 64 c.prp1 && fitsN 16 c.nexus && fitsN 4 c.attr

/-- Whether a command is well formed. -/
def Instr.wf : Instr → Bool
  | .lkbSetSurface x0 x1 x2 x3 x4 x5 => x0.fits && fitsN 8 x1 && fitsN 8 x2 && fitsN 32 x3 && fitsI 32 x4 && fitsLen 256 x5 && x5.all (fitsI 16)
  | .lkbSetZoneMap x0 x1 x2 => x0.fits && fitsN 8 x1 && fitsLen 63 x2 && x2.all (fitsN 32)
  | .lkbSetRatio x0 x1 x2 _ => x0.fits && fitsN 8 x1 && fitsN 8 x2
  | .lkbSetGuard x0 x1 _ => x0.fits && fitsN 8 x1
  | .lkbSetDemod x0 x1 x2 x3 => x0.fits && fitsN 8 x1 && fitsN 8 x2 && fitsPars [1, 1, 1, 1] x3
  | .lkbGetStatus x0 x1 _ => x0.fits && fitsN 8 x1
  | .lkbReadPosition x0 x1 => x0.fits && fitsN 8 x1
  | .loopSetLaw x0 x1 x2 x3 x4 x5 => x0.fits && fitsN 8 x1 && fitsN 8 x2 && fitsN 8 x3 && fitsN 16 x4 && decide (x3 ≤ 83) && fitsLen (x3 * 6) x5
  | .loopSetRwo x0 x1 x2 => x0.fits && fitsN 8 x1 && fitsLen 64 x2 && x2.all (fitsI 32)
  | .loopSetMaGain x0 x1 x2 => x0.fits && fitsN 8 x1 && fitsN 32 x2
  | .loopSetSeek x0 x1 x2 => x0.fits && fitsN 8 x1 && fitsPars [1, 1, 1, 1, 1, 1, 1] x2
  | .loopSetFollow x0 x1 x2 => x0.fits && fitsN 8 x1 && fitsPars [1, 1, 1, 1, 1, 1, 1] x2
  | .loopSetTwin x0 x1 x2 => x0.fits && fitsN 8 x1 && fitsPars [1, 1, 1, 1, 1, 4] x2
  | .loopGetStatus x0 x1 _ => x0.fits && fitsN 8 x1
  | .spnSetSpeed x0 x1 x2 => x0.fits && fitsN 32 x1 && fitsN 8 x2
  | .spnSetPolicy x0 x1 => x0.fits && fitsPars [1, 1, 1, 1, 1, 1, 1, 1] x1
  | .spnSetLimits x0 x1 => x0.fits && fitsPars [1, 1, 1, 1, 1, 1, 1, 1, 1, 1, 1, 1, 1, 1, 1] x1
  | .spnSetMotor x0 x1 => x0.fits && fitsPars [1, 1, 1, 1, 1, 1] x1
  | .spnStart x0 => x0.fits
  | .spnStop x0 => x0.fits
  | .spnGetStatus x0 _ => x0.fits
  | .chnSetFormat x0 x1 x2 _ => x0.fits && fitsN 8 x1 && fitsN 8 x2
  | .chnSetFrontend x0 x1 x2 x3 => x0.fits && fitsN 8 x1 && fitsN 8 x2 && fitsPars [1, 1, 1, 1] x3
  | .chnSetEq x0 x1 x2 x3 x4 => x0.fits && fitsN 8 x1 && fitsN 8 x2 && fitsN 8 x3 && fitsPars [96, 1, 1, 1, 1] x4
  | .chnSetDetector x0 x1 x2 x3 => x0.fits && fitsN 8 x1 && fitsN 8 x2 && fitsPars [24, 1, 1, 1] x3
  | .chnSetSync x0 x1 x2 x3 => x0.fits && fitsN 8 x1 && fitsN 8 x2 && fitsPars [1, 1, 1, 1] x3
  | .chnSetRecovery x0 x1 x2 => x0.fits && fitsN 8 x1 && fitsPars [1, 1, 1, 1, 1, 1] x2
  | .chnGetStatus x0 x1 _ => x0.fits && fitsN 8 x1
  | .chnCapture x0 x1 x2 x3 x4 => x0.fits && fitsN 8 x1 && fitsN 16 x2 && fitsN 32 x3 && fitsN 32 x4
  | .wrpSetFormat x0 x1 x2 x3 => x0.fits && fitsN 8 x1 && fitsN 8 x2 && fitsPars [1, 1, 1, 1] x3
  | .wrpSetAssist x0 x1 x2 x3 => x0.fits && fitsN 8 x1 && fitsN 8 x2 && fitsPars [1, 5, 5, 1, 1, 1, 1] x3
  | .wrpSetFh x0 x1 x2 x3 => x0.fits && fitsN 8 x1 && fitsN 8 x2 && fitsPars [5, 5, 1, 1, 1] x3
  | .wrpSetLimits x0 x1 => x0.fits && fitsPars [1, 1, 1, 1, 1, 1, 1, 1] x1
  | .wrpSetWear x0 x1 x2 => x0.fits && fitsN 8 x1 && fitsPars [1, 1, 1] x2
  | .wrpOpenBand x0 x1 _ => x0.fits && fitsN 8 x1
  | .wrpCloseBand x0 x1 x2 => x0.fits && fitsN 8 x1 && fitsN 8 x2
  | .wrpStop x0 x1 => x0.fits && fitsN 8 x1
  | .wrpRelease x0 x1 => x0.fits && fitsN 8 x1
  | .wrpGetStatus x0 x1 _ => x0.fits && fitsN 8 x1
  | .wrpGetWear x0 x1 => x0.fits && fitsN 8 x1
  | .plkGetStatus x0 x1 _ => x0.fits && fitsN 8 x1
  | .pslGetStatus x0 _ => x0.fits
  | .plkRegAccess x0 x1 x2 x3 x4 => x0.fits && fitsN 8 x1 && fitsN 8 x2 && fitsN 16 x3 && fitsN 16 x4
  | .pslRegAccess x0 x1 x2 x3 => x0.fits && fitsN 8 x1 && fitsN 8 x2 && fitsN 8 x3
  | .lnkSetLimits x0 x1 => x0.fits && fitsPars [1] x1
  | .pslSetSafe x0 x1 => x0.fits && fitsPars [1, 1, 1] x1
  | .brtSetLayout x0 x1 x2 => x0.fits && fitsN 32 x1 && fitsN 8 x2
  | .brtSetLimits x0 x1 => x0.fits && fitsPars [1, 1, 1, 1, 1, 1, 1, 1] x1
  | .brtSetPatrol x0 x1 => x0.fits && fitsPars [1, 1] x1
  | .brtSetCkpt x0 x1 => x0.fits && fitsPars [1, 1, 1, 1] x1
  | .brtCheckpoint x0 => x0.fits
  | .brtGetBerth x0 x1 x2 => x0.fits && fitsN 32 x1 && fitsN 16 x2
  | .brtGetStatus x0 _ => x0.fits
  | .brtSetHead x0 x1 x2 => x0.fits && fitsN 8 x1 && fitsN 8 x2
  | .brtSetHealth x0 x1 => x0.fits && fitsPars [1, 1, 1, 1, 1, 1] x1
  | .brtSetRebuild x0 x1 => x0.fits && fitsPars [1, 1, 1, 1, 1] x1
  | .brtReshape x0 x1 x2 x3 => x0.fits && fitsN 8 x1 && fitsN 8 x2 && fitsN 32 x3
  | .brtGetRebuild x0 x1 _ => x0.fits && fitsN 32 x1
  | .brtGetLost x0 x1 x2 => x0.fits && fitsN 32 x1 && fitsN 32 x2
  | .brtGetReloc x0 x1 => x0.fits && fitsN 32 x1
  | .brtGetHead x0 x1 => x0.fits && fitsN 8 x1
  | .quaySetMoormode x0 x1 => x0.fits && fitsN 8 x1
  | .quaySetArb x0 x1 => x0.fits && fitsPars [1, 1, 1, 1] x1
  | .quaySetAllot x0 x1 _ => x0.fits && fitsN 16 x1
  | .quayGetAllot x0 x1 => x0.fits && fitsN 16 x1
  | .quaySetAdmit x0 x1 x2 => x0.fits && fitsN 16 x1 && fitsPars [1, 1, 1] x2
  | .quaySetDrivePower x0 x1 => x0.fits && fitsN 32 x1
  | .quayGetMooring x0 x1 x2 => x0.fits && fitsN 16 x1 && fitsN 16 x2
  | .quayGetTag x0 x1 => x0.fits && fitsN 16 x1
  | .tallyRead x0 x1 x2 x3 => x0.fits && fitsN 16 x1 && fitsN 16 x2 && fitsN 8 x3
  | .tallyClear x0 x1 => x0.fits && fitsN 16 x1
  | .drcGetStatus x0 _ => x0.fits
  | .drcGetRegions x0 => x0.fits
  | .drcSetScrub x0 x1 => x0.fits && fitsPars [4, 1] x1
  | .drcSetPort x0 x1 x2 => x0.fits && fitsN 8 x1 && fitsPars [1, 1, 1, 1] x2
  | .drcSetTrain x0 x1 => x0.fits && fitsPars [1, 1] x1
  | .drcSetPower x0 x1 => x0.fits && fitsPars [1, 1] x1
  | .drcInject x0 x1 x2 => x0.fits && fitsN 64 x1 && fitsLen 72 x2
  | .seqGetStatus x0 x1 _ => x0.fits && fitsN 8 x1
  | .seqResume x0 x1 => x0.fits && fitsN 8 x1
  | .seqSetLimits x0 x1 => x0.fits && fitsPars [1, 1] x1
  | .seqLoad x0 x1 x2 x3 x4 x5 x6 => x0.fits && fitsN 8 x1 && fitsN 8 x2 && fitsN 32 x3 && fitsN 32 x4 && fitsN 32 x5 && fitsN 32 x6
  | .seqSwap x0 _ => x0.fits
  | .mbxGetInfo x0 => x0.fits
  | .mbxGetNotify x0 x1 => x0.fits && fitsN 8 x1
  | .mbxSetNotify x0 _ x2 x3 => x0.fits && fitsN 8 x2 && fitsN 8 x3
  | .mbxSetPriv x0 x1 x2 => x0.fits && fitsN 8 x1 && fitsN 8 x2
  | .mbxStageWrite x0 x1 x2 => x0.fits && fitsN 32 x1 && decide (x2.length ≤ 2012)
  | .mbxStageRead x0 x1 x2 => x0.fits && fitsN 32 x1 && fitsN 16 x2
  | .mbxStageClear x0 => x0.fits
  | .engineReinitFunction x0 x1 => x0.fits && fitsN 16 x1
  | .engineReinitQuay x0 => x0.fits
  | .engineReinitSequencer x0 x1 => x0.fits && fitsN 16 x1
  | .engineReinitMailbox x0 x1 => x0.fits && fitsN 16 x1
  | .engineReinitTally x0 => x0.fits
  | .engineReinitParity x0 x1 => x0.fits && fitsN 16 x1
  | .engineReinitDecoder x0 x1 => x0.fits && fitsN 16 x1
  | .hbmGetLedger x0 _ => x0.fits
  | .randomnessTimeout x0 _ => x0.fits
  | .authChallenge x0 x1 x2 => x0.fits && fitsN 16 x1 && fitsLen 32 x2
  | .authResponse x0 x1 x2 => x0.fits && fitsN 32 x1 && fitsN 32 x2
  | .lcChange x0 x1 => x0.fits && fitsN 8 x1
  | .debugUnlock x0 _ => x0.fits
  | .idGetCert x0 x1 x2 => x0.fits && fitsN 32 x1 && fitsN 16 x2
  | .attestQuote x0 x1 => x0.fits && fitsLen 32 x1
  | .evtSetCursor x0 x1 x2 => x0.fits && fitsN 8 x1 && fitsN 32 x2
  | .evtRead x0 x1 => x0.fits && fitsN 8 x1
  | .evtClear x0 => x0.fits
  | .ctrRead x0 x1 x2 => x0.fits && fitsN 8 x1 && fitsN 8 x2
  | .hbmGetIncident x0 x1 => x0.fits && fitsN 16 x1
  | .fwCommit x0 x1 x2 x3 x4 x5 x6 => x0.fits && fitsN 8 x1 && fitsN 8 x2 && fitsN 32 x3 && fitsN 32 x4 && fitsN 32 x5 && fitsN 32 x6
  | .fwActivate x0 x1 => x0.fits && fitsN 8 x1
  | .fwGetSlots x0 => x0.fits
  | .pwrSupplyPolicy x0 x1 => x0.fits && fitsPars [1, 1, 1, 1, 1] x1
  | .pwrGetStatus x0 => x0.fits
  | .auditEpochClose _ => true
  | .guardGapTimeout _ => true
  | .internalResetRelease _ => true
  | .haltUartLine => true
  | .resetNAssert => true
  | .porstNAssert => true
  | .pwrfailNAssert => true
  | .powerOnDetect => true
  | .avsTick _ _ => true
  | .speedMonitorEmergency _ => true
  | .avsAcknowledge _ _ => true
  | .coreFrequencyRaise => true
  | .thermalSensorRead _ => true
  | .thermalThrottleStep => true
  | .thermalRelease => true
  | .thermalTrip => true
  | .loopSlot _ _ _ _ => true
  | .positionSampleArrival _ _ => true
  | .addressWordDecoded _ _ _ => true
  | .toneLockDeclared _ => true
  | .toneLockLost _ => true
  | .holdoverTimeout _ => true
  | .headSelect _ _ => true
  | .acquisitionFail _ => true
  | .zoneRatioApply _ => true
  | .zoneSettleEnd _ => true
  | .rateOutOfRange _ => true
  | .demodParamApply _ => true
  | .lawDeadlineMiss _ _ => true
  | .vcmMissRetract _ => true
  | .seekTarget _ _ => true
  | .trajStopPlan _ => true
  | .seekAbort _ => true
  | .followRmsCheck _ => true
  | .actuatorLoad _ => true
  | .actuatorUnload _ => true
  | .rampStopReached _ => true
  | .writeReadySet _ => true
  | .blendEnd _ _ => true
  | .maRampEnd _ => true
  | .holdEntry _ => true
  | .holdTimeoutRetract _ => true
  | .twinRegistration _ => true
  | .twinFallback _ _ _ => true
  | .twinFallbackHandover _ => true
  | .twinStreamRelease _ => true
  | .twinHoldoffExpiry _ _ _ => true
  | .pwmPeriodStart => true
  | .currentSamplesReady _ _ _ => true
  | .overcurrentTrip => true
  | .coastRestart => true
  | .observerLock => true
  | .observerLockLoss => true
  | .indexCrossing _ _ => true
  | .currentLawMissCoast => true
  | .speedLawSample _ _ => true
  | .listenComplete => true
  | .brakeDecision _ _ => true
  | .standstillDeclared => true
  | .alignComplete => true
  | .startFail => true
  | .freeRampStart => true
  | .speedPolicyEval _ => true
  | .dirtyHoldRelease => true
  | .underspeed => true
  | .chopperFault => true
  | .holdupEntry => true
  | .sectorReadStart _ _ => true
  | .sectorDecodeDone _ _ => true
  | .sectorResultPost _ => true
  | .deepDecodeStart => true
  | .deepDecodeDone _ _ => true
  | .recoveryLimitExpiry _ _ _ => true
  | .formatApply _ => true
  | .syncParamApply _ _ => true
  | .writeOrderDispatch _ _ => true
  | .htrReadySet _ => true
  | .assistEnableRise _ => true
  | .writeGateOpen _ => true
  | .writeSectorEnd _ => true
  | .writeUnderrun _ => true
  | .writeRunEnd _ => true
  | .sectorRewrite _ _ _ => true
  | .ffPersist => true
  | .heaterHoldEnd _ => true
  | .contactRearm _ => true
  | .preampDownstreamFrame _ => true
  | .preampUpstreamFrame _ _ => true
  | .pslTxFrame => true
  | .pslRxFrame _ => true
  | .regRequestTimeout _ _ => true
  | .linkTrainingTimeout _ => true
  | .linkTrainingRetry _ => true
  | .preampLinkLost _ => true
  | .pslLinkLost => true
  | .stripeDestageStart _ _ => true
  | .parityEngineDone _ => true
  | .manifestEntryRecorded _ => true
  | .memberStripComplete _ _ _ _ => true
  | .logStripeAged _ _ => true
  | .dredgeStart => true
  | .dredgeVictimDone => true
  | .patrolStripeCheck _ _ _ => true
  | .checkpointStart => true
  | .checkpointCommit _ _ => true
  | .headDeclared _ _ => true
  | .actuatorDeclaredFailed _ => true
  | .rebuildEntryCreate _ => true
  | .rebuildEntryStart _ => true
  | .rebuildStripeComplete _ _ _ _ _ => true
  | .copySwitch _ => true
  | .relocation _ _ _ => true
  | .shareWindow => true
  | .checkpointHeadMove => true
  | .reshapeSwitch _ => true
  | .sqTailDoorbell _ x1 x2 => fitsN 16 x1 && fitsN 32 x2
  | .cqHeadDoorbell _ x1 x2 => fitsN 16 x1 && fitsN 32 x2
  | .doorbellFifoApply _ => true
  | .mooringFill _ _ _ => true
  | .arbiterGrant => true
  | .sqEntryReturn x0 => x0.fits
  | .hostDataReceived _ _ _ _ => true
  | .writeIndexAck _ => true
  | .completionPost _ => true
  | .capWindow => true
  | .tallyMinuteClose => true
  | .orderWaitRelease _ => true
  | .heldWriteRelease => true
  | .pilotEntry _ => true
  | .pilotDispatch _ _ => true
  | .mediaOperationEnd _ _ => true
  | .sweptCommandEnd _ => true
  | .deleteSqComplete _ => true
  | .controllerEnable _ x1 x2 x3 x4 x5 => fitsN 3 x1 && fitsN 64 x2 && fitsN 64 x3 && fitsN 12 x4 && fitsN 12 x5
  | .controllerReset _ => true
  | .functionLevelReset _ => true
  | .hotReset _ => true
  | .perstAssert _ => true
  | .perstDeassert _ => true
  | .nvmSubsystemReset => true
  | .itNexusLoss _ x1 => fitsN 16 x1
  | .createIoCq _ => true
  | .createIoSq _ => true
  | .deleteIoSq _ => true
  | .deleteIoCq _ => true
  | .identify _ => true
  | .getLogPage _ => true
  | .getLogPageTally _ => true
  | .setFeatures _ => true
  | .setFeaturesTimestamp _ => true
  | .getFeatures _ => true
  | .asyncEventRequest _ => true
  | .abort _ => true
  | .namespaceManagementCreate _ => true
  | .namespaceManagementDelete _ => true
  | .namespaceAttach _ => true
  | .namespaceDetach _ => true
  | .firmwareImageDownload _ => true
  | .firmwareCommitCa000 _ => true
  | .firmwareCommitCa001 _ => true
  | .firmwareCommitCa010 _ => true
  | .firmwareCommitCa011 _ => true
  | .virtualizationManagement _ => true
  | .formatNvm _ => true
  | .sanitizeCryptoErase _ => true
  | .securitySend _ _ => true
  | .securityReceive _ => true
  | .opalAuthenticate _ _ _ => true
  | .opalGenkey _ => true
  | .opalRevert => true
  | .opalRevertsp => true
  | .getLbaStatus _ => true
  | .deviceSelfTest _ => true
  | .read _ => true
  | .write _ => true
  | .flush _ => true
  | .writeZeroes _ => true
  | .datasetManagement _ => true
  | .verify _ => true
  | .reservationRegister _ => true
  | .reservationReport _ => true
  | .reservationAcquire _ => true
  | .reservationRelease _ => true
  | .zoneAppend _ => true
  | .zoneOpen _ => true
  | .zoneClose _ => true
  | .zoneFinish _ => true
  | .zoneReset _ => true
  | .zoneOffline _ => true
  | .reportZones _ => true
  | .inquiry _ x1 => x1.fits
  | .reportLuns _ x1 => x1.fits
  | .testUnitReady _ x1 => x1.fits
  | .requestSense _ x1 => x1.fits
  | .readCapacity16 _ x1 => x1.fits
  | .read16 _ x1 => x1.fits
  | .write16 _ x1 => x1.fits
  | .verify16 _ x1 => x1.fits
  | .synchronizeCache16 _ x1 => x1.fits
  | .unmap _ x1 => x1.fits
  | .formatUnit _ x1 => x1.fits
  | .scsiSanitize _ x1 => x1.fits
  | .modeSense10 _ x1 => x1.fits
  | .modeSelect10 _ x1 => x1.fits
  | .logSense _ x1 => x1.fits
  | .startStopUnit _ x1 => x1.fits
  | .writeBufferMode0e _ x1 => x1.fits
  | .writeBufferMode0f _ x1 => x1.fits
  | .writeBufferMode07 _ x1 => x1.fits
  | .readBuffer _ x1 => x1.fits
  | .securityProtocolIn _ x1 => x1.fits
  | .securityProtocolOut _ x1 _ => x1.fits
  | .persistentReserveIn _ x1 => x1.fits
  | .persistentReserveOut _ x1 => x1.fits
  | .scsiReportZones _ x1 => x1.fits
  | .resetWritePointer _ x1 => x1.fits
  | .openZone _ x1 => x1.fits
  | .closeZone _ x1 => x1.fits
  | .finishZone _ x1 => x1.fits
  | .mailboxSend _ _ x2 => x2.fits
  | .mailboxReceive _ _ x2 => x2.fits
  | .mailboxReceiveNotify _ _ x2 => x2.fits
  | .abortTask _ x1 x2 => fitsN 16 x1 && fitsN 16 x2
  | .abortTaskSet _ x1 => fitsN 16 x1
  | .clearTaskSet _ x1 => fitsN 16 x1
  | .logicalUnitReset _ x1 => fitsN 16 x1
  | .iTNexusReset x0 => fitsN 16 x0
  | .queryTask _ x1 x2 => fitsN 16 x1 && fitsN 16 x2
  | .queryTaskSet _ x1 => fitsN 16 x1
  | .queryAsynchronousEvent _ x1 => fitsN 16 x1
  | .clearAca _ x1 => fitsN 16 x1
  | .dramRead _ _ _ => true
  | .dramWrite _ _ _ => true
  | .dramNarrowWrite _ _ => true
  | .mergeEntryTimeout _ _ => true
  | .scrubLine _ _ => true
  | .dramRefresh _ => true
  | .dramTempRead _ _ => true
  | .selfRefreshEntry _ => true
  | .selfRefreshExit _ _ => true
  | .dramRetrain _ _ => true
  | .orderPost _ _ => true
  | .seqEventLine _ _ => true
  | .seqTimerExpiry _ => true
  | .watchdogExpiry _ => true
  | .networkAccessTimeout _ => true
  | .networkWriteError _ => true
  | .moveDone _ => true
  | .storeAudit _ _ => true
  | .nop _ _ => true
  | .yield _ _ => true
  | .commit _ _ => true
  | .halt _ _ => true
  | .fault _ _ => true
  | .getord _ _ => true
  | .dispatch _ _ => true
  | .post _ _ => true
  | .evt _ _ => true
  | .iret _ _ => true
  | .add _ _ => true
  | .sub _ _ => true
  | .and _ _ => true
  | .or _ _ => true
  | .xor _ _ => true
  | .shl _ _ => true
  | .shr _ _ => true
  | .sar _ _ => true
  | .mul _ _ => true
  | .mulhu _ _ => true
  | .min _ _ => true
  | .max _ _ => true
  | .minu _ _ => true
  | .maxu _ _ => true
  | .cmp _ _ => true
  | .crc _ _ => true
  | .addi _ _ => true
  | .andi _ _ => true
  | .ori _ _ => true
  | .xori _ _ => true
  | .shli _ _ => true
  | .shri _ _ => true
  | .sari _ _ => true
  | .movi _ _ => true
  | .lui _ _ => true
  | .cmpi _ _ => true
  | .ld _ _ => true
  | .st _ _ => true
  | .ldn _ _ => true
  | .stn _ _ => true
  | .atom _ _ => true
  | .move _ _ => true
  | .inPort _ _ => true
  | .inc _ _ => true
  | .outPort _ _ => true
  | .br _ _ => true
  | .call _ _ => true
  | .ret _ _ => true
  | .bri _ _ => true
  | .loop _ _ => true
  | .mbxReqTailWrite _ _ => true
  | .mbxRespHeadWrite _ _ => true
  | .mbxNtfHeadWrite _ _ => true
  | .registerWrite _ x1 _ => fitsN 18 x1 && decide (x1 % 4 = 0)
  | .mailboxRequestStart _ => true
  | .uartFrame _ => true
  | .nvmeMiCommand _ => true
  | .lMessageDone _ x1 x2 x3 => fitsN 32 x1 && fitsN 16 x2 && fitsN 64 x3
  | .nonceExpiry _ => true
  | .authArmExpiry _ => true
  | .authLockoutEnd _ => true
  | .supplySample _ => true
  | .nvWriteInhibitEntry => true
  | .nvWriteInhibitEnd => true
  | .breakwaterStart _ => true
  | .actuatorParked _ => true
  | .parkTimeout _ => true
  | .parkOpenLoopEnd _ => true
  | .vaultPageProgramDone _ => true
  | .quiescentRelease => true
  | .vaultAreaEraseDone _ => true
  | .hostAdmission => true
  | .lcReset => true
  | .sessionKeyReady => true
  | .sessionKeySuccessor => true
  | .treeCacheRebuilt => true
  | .springTestFail _ => true
  | .eventFlush _ _ => true
  | .counterBlockWrite _ _ => true
  | .powerOnSecond => true
  | .incidentClose _ => true
  | .slipwayBackout _ => true
  | .phaseVoltageSample _ _ _ => true
  | .retractTExpiry => true
  | .channelRateReturn _ => true
  | .bootSpindleTimeout => true

end Sys2Proof
end

