-- ==== Sys2Proof/Certificates/Slice0/Obligations.lean ====
section
/-! DEFINITION. The statements for the provers. Each says of a family of commands what the next state is, under
conditions on the state and the operands alone, or states a rule of the whole block. `Completes`, `TurnsAway` and
`Begins` (Safety.lean) say of a message that it is taken up and answered; `Admitted` is what they assume. -/
open Sys2Proof Sys2Proof.Machine

/-- Lakebed, events of a stream and of its position guard. Each row completes, and the next state is the one the
rule gives: POSITION_SAMPLE_ARRIVAL (R64 to R67), GUARD_GAP_TIMEOUT (R22, R78), ADDRESS_WORD_DECODED (R61, R68,
R76), TONE_LOCK_DECLARED, TONE_LOCK_LOST, HOLDOVER_TIMEOUT (R70, R71), HEAD_SELECT, ACQUISITION_FAIL (R76),
ZONE_RATIO_APPLY, ZONE_SETTLE_END (R73), RATE_OUT_OF_RANGE, CHANNEL_RATE_RETURN (R74), DEMOD_PARAM_APPLY (R81).
Lakebed messages (R72, R77, R80, R81, R438): each setter that passes its checks stores what it carries, and each
read answers its words. -/
def Obligations.LakebedComplete : Prop :=
  ((∀ (s : State) (m : Strm) (x : PosSample), powered s = true → s.streams[m].selected = true →
    gateOpenOn s s.streams[m].head = false → s.sec.life ≠ .manufacture →
    ∃ t, exec (.positionSampleArrival m x) s = .next t ∧
      t.streams[m] = sampleStream (surfOf s s.streams[m].head) s.heads[s.streams[m].head].demod x
        (samplePos s s.streams[m].head x).1 s.streams[m] ∧
      (∀ k, m ≠ k → t.streams[k] = s.streams[k]) ∧ t.wps = s.wps ∧ t.heads = s.heads) ∧
  (∀ (s : State) (h : Hd) (x : PosSample) (u : Nat), cyclePos s.heads[h].lin (windowSegs s.heads[h].demod.rdsel x) = some u →
    samplePos s h x = (u, s)) ∧
  (∀ (s : State) (a : Act), powered s = true → s.wps[a].wg = true →
    exec (.guardGapTimeout a) s =
      .next (positionTrip s a (s.guards[a].lastValid + 1) (endedSince s a (s.guards[a].lastValid + 1)))) ∧
  (∀ (s : State) (m : Strm) (w : BitVec 80) (f : WordFacts), powered s = true → s.streams[m].selected = true →
    s.streams[m].toneLock = true → wordSync w = true → wordCrcOk w = false → gateOpenOn s s.streams[m].head = true →
    exec (.addressWordDecoded m w f) s = .next s) ∧
  (∀ (s : State) (m : Strm) (w : BitVec 80) (f : WordFacts), powered s = true → wordSync w = false →
    exec (.addressWordDecoded m w f) s = .next s) ∧
  (∀ (s : State) (m : Strm) (w : BitVec 80) (f : WordFacts), powered s = true → s.streams[m].selected = true →
    s.streams[m].toneLock = true → wordSync w = true → s.streams[m].trackValid = false → wordCrcOk w = false →
    gateOpenOn s s.streams[m].head = false →
    exec (.addressWordDecoded m w f) s =
      .next (updStream s m fun x => { x with crcErrCnt := satInc 255 x.crcErrCnt, followCrc := x.followCrc + 1 })) ∧
  (∀ (s : State) (m : Strm) (w : BitVec 80) (f : WordFacts), powered s = true → s.streams[m].selected = true →
    s.streams[m].toneLock = true → wordSync w = true → wordCrcOk w = true → acquireWord s m w f = true →
    ∃ t, exec (.addressWordDecoded m w f) s = .next t ∧ t.streams[m].track = grayDecode 24 (fld w.toNat 12 24) ∧
      t.streams[m].trackValid = true ∧ t.streams[m].angleValid = true ∧ t.streams[m].acqStep = 5 ∧
      t.streams[m].refused = false ∧ (∀ k, m ≠ k → t.streams[k] = s.streams[k]) ∧ t.spn = s.spn ∧ t.wps = s.wps) ∧
  (∀ (s : State) (m : Strm), powered s = true → s.streams[m].selected = true → s.streams[m].lost = true →
    s.streams[m].toneLock = false →
    exec (.toneLockDeclared m) s = .next (revCheck (updStream s m fun x =>
      { x with toneLock := true, lockAll := false, holdover := false, acqStep := 3, trackValid := false, angleValid := false, fine := false }))) ∧
  (∀ (s : State) (m : Strm), powered s = true → s.streams[m].selected = true → s.streams[m].lost = false →
    s.streams[m].toneLock = false →
    exec (.toneLockDeclared m) s = .next (revCheck (updStream s m fun x =>
      { x with toneLock := true, lockAll := false, holdover := false, acqStep := if x.acqStep = 2 then 3 else x.acqStep }))) ∧
  (∀ (s : State) (m : Strm), powered s = true → s.streams[m].toneLock = true →
    ∃ t, exec (.toneLockLost m) s = .next t ∧
      t.streams = (updStream s m fun x =>
        { x with toneLock := false, lockAll := false, unlockSeen := true, holdover := true, acqStep := if x.acqStep = 3 ∨ x.acqStep = 4 then 2 else x.acqStep }).streams ∧
      t.chn[m].lostLock = (s.chn[m].lostLock || s.chn[m].readGate)) ∧
  (∀ (s : State) (m : Strm), powered s = true → s.streams[m].holdover = true → s.streams[m].toneLock = false →
    s.streams[m].lost = false →
    exec (.holdoverTimeout m) s =
      .next (raise (updStream s m fun x => { x with lost := true }) .lost 0 0x04 m.val s.streams[m].head.val)) ∧
  (∀ (s : State) (m : Strm) (h : Hd), powered s = true → inDrive s h = true → actOf s h = actOfStream m →
    breaksRun s m h = false → ∃ t, exec (.headSelect m h) s = .next t ∧ t.streams[m].head = h ∧ t.streams[m].selected = true ∧
      t.streams[m].acqStep = 2 ∧ t.streams[m].toneLock = false ∧ t.streams[m].trackValid = false ∧
      t.streams[m].angleValid = false) ∧
  (∀ (s : State) (m : Strm), powered s = true → s.streams[m].selected = true → 2 ≤ s.streams[m].acqStep →
    s.streams[m].acqStep ≤ 4 → exec (.acquisitionFail m) s =
      .next (raise (updHeadRec (updStream s m fun x => { x with acqFail := true, acqStep := 0 }) s.streams[m].head
        fun r => { r with acqFails := r.acqFails + 1 }) .acqFail 2 0x04 m.val s.streams[m].head.val)) ∧
  (∀ (s : State) (m : Strm) (z : Zn), powered s = true → s.streams[m].selected = true → s.streams[m].ratioPend = true →
    gatesClosed s m = true → zoneAt (surfOf s s.streams[m].head) s.streams[m].track = z →
    exec (.zoneRatioApply m) s = .next (updStream s m fun x =>
      { x with zone := z, ratio := s.heads[s.streams[m].head].ratio[z], ratioPend := false, zoneSettle := true })) ∧
  (∀ (s : State) (m : Strm), powered s = true →
    exec (.zoneSettleEnd m) s = .next (updStream s m fun x => { x with zoneSettle := false })) ∧
  (∀ (s : State) (m : Strm), powered s = true → s.streams[m].selected = true → s.streams[m].rateClamped = false →
    gateOpenOn s s.streams[m].head = false →
    exec (.rateOutOfRange m) s =
      .next (raise (updStream s m fun x => { x with rateOor := true, rateClamped := true }) .rateOor 2 0x04 m.val)) ∧
  (∀ (s : State) (m : Strm), powered s = true →
    exec (.channelRateReturn m) s = .next (updStream s m fun x => { x with rateClamped := false })) ∧
  (∀ (s : State) (h : Hd) (d : Demod), powered s = true → gateOpenOn s h = false → s.heads[h].demodHeld = some d →
    s.heads[h].bwHeld = none →
    exec (.demodParamApply h) s = .next (updHead s h fun c => { c with demod := d, demodHeld := none, bwHeld := none })) ∧
  (∀ (s : State) (h : Hd) (d : Demod) (m : Strm) (bw : Nat), powered s = true → gateOpenOn s h = false →
    s.heads[h].demodHeld = some d → s.heads[h].bwHeld = some (m, bw) →
    exec (.demodParamApply h) s = .next (updHead (updStream s m fun x => { x with toneBw := bw }) h fun c =>
      { c with demod := d, demodHeld := none, bwHeld := none }))) ∧
  ((∀ (s : State) (r : Req) (head : Nat) (sf : Fin 32) (pL : Nat) (index : Int) (lin : List Int),
    (s.sec.life = .manufacture ∨ s.sec.life = .ret) → 1200 ≤ pL → pL ≤ 4000 → selHeads s head ≠ [] →
    Completes (.lkbSetSurface r head sf.val pL index lin) s r { opc := 0x0201, need := .fa, setter := true }
      (forEach (selHeads s head) { s with surfaces := vupd s.surfaces sf fun x => { x with pL := pL } } fun s h =>
        updHead s h fun c => { c with surface := sf.val, index := index, lin := lin }) []) ∧
  (∀ (s : State) (r : Req) (sf : Fin 32) (first : List Nat), first.length = 63 → rising first = true →
    first.all (· < 2 ^ 24) = true →
    Completes (.lkbSetZoneMap r sf.val first) s r { opc := 0x0202, setter := true }
      { s with surfaces := vupd s.surfaces sf fun x => { x with zoneMap := first } } []) ∧
  (∀ (s : State) (r : Req) (head zone : Nat) (word : BitVec 32), selHeads s head ≠ [] → selZones zone ≠ [] →
    fld word.toNat 10 6 = 0 → ratioOk (fld word.toNat 16 16) (fld word.toNat 0 10) = true →
    Completes (.lkbSetRatio r head zone word) s r { opc := 0x0203, setter := true }
      (forEach (selHeads s head) s fun s h => forEach (selZones zone) s fun s z =>
        putRatio s h z { n := fld word.toNat 16 16, m := fld word.toNat 0 10 }) []) ∧
  (∀ (s : State) (r : Req) (a : Act) (word : BitVec 32), fld word.toNat 30 2 = 0 → guardOk (guardWord word) = true →
    Completes (.lkbSetGuard r a.val word) s r { opc := 0x0204, setter := true }
      (updGuard s a fun g => { g with pend := some (guardWord word) }) []) ∧
  (∀ (s s' : State) (r : Req) (head : Nat) (m : Strm) (ps : Params), selHeads s head ≠ [] →
    foldExcept (selHeads s head) s (demodHead m ps) = .ok s' →
    Completes (.lkbSetDemod r head m.val ps) s r { opc := 0x0205, setter := true } s' []) ∧
  (∀ (s : State) (h : Hd) (m : Strm) (ps : Params) (d : Demod) (bw : Nat), anyBit ps [0, 1, 2] = true →
    applyPars demodPars (fun _ => []) ps ((s.heads[h].demodHeld).getD s.heads[h].demod, s.streams[m].toneBw) =
      .ok (d, bw) →
    demodHead m ps s h = .ok (if gateOpenOn s h then updHead s h fun c =>
        { c with demodHeld := some d, bwHeld := if anyBit ps [3] then some (m, bw) else s.heads[h].bwHeld }
      else updHead (updStream s m fun x => { x with toneBw := bw }) h fun c => { c with demod := d, demodHeld := none })) ∧
  (∀ (s : State) (h : Hd) (m : Strm) (ps : Params) (d : Demod) (bw : Nat), anyBit ps [0, 1, 2] = false →
    applyPars demodPars (fun _ => []) ps ((s.heads[h].demodHeld).getD s.heads[h].demod, s.streams[m].toneBw) =
      .ok (d, bw) →
    demodHead m ps s h = .ok (updHead (updStream s m fun x => { x with toneBw := bw }) h id)) ∧
  (∀ (s : State) (r : Req) (m : Strm) (clear : BitVec 64),
    Completes (.lkbGetStatus r m.val clear) s r { opc := 0x0206, need := .rd }
      (updStream s m (lkbClear clear)) (leBytes 4 (lkbStatus s.streams[m]))) ∧
  (∀ (s : State) (r : Req) (m : Strm),
    Completes (.lkbReadPosition r m.val) s r { opc := 0x0207, need := .rd }
      s (leBytes 8 s.streams[m].sample.toNat ++ leBytes 4 s.streams[m].angle)))

/-- Actuator loops, the slot and the events of its laws. LOOP_SLOT (R85 to R98), LAW_DEADLINE_MISS, VCM_MISS_RETRACT
(R90), WRITE_READY_SET (R101, R188), BLEND_END (R103), MA_RAMP_END (R104), HOLD_ENTRY, HOLD_TIMEOUT_RETRACT (R105). -/
def Obligations.LoopSlotEventsComplete : Prop :=
  (∀ (s s1 : State) (a : Act) (late uncorr : List Nat) (accs : List Int) (offRamp : Bool), powered s = true →
    s.actRecs[a].failed = false → slotTrips late uncorr accs a (strobeFor a s) = s1 →
    exec (.loopSlot a late uncorr ⟨accs, offRamp⟩) s =
      .next (updAct (slotLaws a late offRamp s1) a (countMisses late s1 a))) ∧
  (∀ (s : State) (a : Act), s.strobeDone.contains a = false →
    (strobeFor a s).acts[a].slot = s.strobe % 4 ∧ (strobeFor a s).acts[a].frame = s.strobe / 4 ∧
    (strobeFor a s).strobe = s.strobe ∧ (∀ b, a ≠ b → (strobeFor a s).acts[b] = s.acts[b])) ∧
  (∀ (s : State) (a : Act), s.strobeDone.contains a = true →
    (strobeFor a s).acts[a].slot = (s.strobe + 1) % 4 ∧ (strobeFor a s).strobe = s.strobe + 1 ∧
    (strobeFor a s).strobeDone = [a]) ∧
  (∀ (s : State) (a : Act) (i : Fin 8), powered s = true → i.val ∈ runningLaws s a →
    (lawOf s.acts[a] i.val).valid = true →
    ∃ t, exec (.lawDeadlineMiss a i.val) s = .next t ∧ t.acts[a].dlMissMa = true ∧
      t.acts[a].dlMissCnt = satInc 255 s.acts[a].dlMissCnt ∧ t.acts[a].maCmd[i] = s.acts[a].maCmd0[i] ∧
      (∀ j, i ≠ j → t.acts[a].maCmd[j] = s.acts[a].maCmd[j]) ∧ t.acts[a].vcmCmd = s.acts[a].vcmCmd ∧
      (∀ b, a ≠ b → t.acts[b] = s.acts[b]) ∧ t.streams = s.streams ∧ t.psl = s.psl) ∧
  (∀ (s : State) (a : Act) (l : Nat) (h : Hd) (m : Strm), powered s = true → 8 ≤ l → l ≤ 15 →
    l ∈ runningLaws s a → (lawOf s.acts[a] l).valid = true →
    (headsOf s a)[l - 8]? = some h → streamOfHead s h = some m →
    ∃ t, exec (.lawDeadlineMiss a l) s = .next t ∧ t.acts[a].dlMissPred = true ∧
      t.acts[a].dlMissCnt = satInc 255 s.acts[a].dlMissCnt ∧ t.streams[m].preds = s.streams[m].preds.dropLast ∧
      (∀ k, m ≠ k → t.streams[k] = s.streams[k]) ∧ (∀ b, a ≠ b → t.acts[b] = s.acts[b]) ∧ t.psl = s.psl) ∧
  (∀ (s : State) (a : Act) (l : Nat), powered s = true → 16 ≤ l → l ≤ 19 → s.acts[a].slot = 0 →
    l ∈ runningLaws s a → (lawOf s.acts[a] l).valid = true →
    ∃ t, exec (.lawDeadlineMiss a l) s = .next t ∧ t.acts[a].dlMissVcm = true ∧
      t.acts[a].vcmMissRun = satInc 16 s.acts[a].vcmMissRun0 ∧ t.acts[a].vcmCmd = s.acts[a].vcmCmd0 ∧
      t.psl.vcm[a] = s.acts[a].vcmCmd0 ∧ (∀ b, a ≠ b → t.acts[b] = s.acts[b]) ∧ t.streams = s.streams) ∧
  (∀ (s : State) (a : Act) (l : Nat), powered s = true → 20 ≤ l → l ≤ 22 → s.acts[a].slot = l - 19 →
    l ∈ runningLaws s a → (lawOf s.acts[a] l).valid = true →
    ∃ t, exec (.lawDeadlineMiss a l) s = .next t ∧ t.acts[a].dlMissOther = true ∧
      t.acts[a].dlMissCnt = satInc 255 s.acts[a].dlMissCnt ∧ t.acts[a].vcmMissRun = s.acts[a].vcmMissRun ∧
      (∀ b, a ≠ b → t.acts[b] = s.acts[b]) ∧ t.streams = s.streams) ∧
  (∀ (s : State) (a : Act), powered s = true → 16 ≤ s.acts[a].vcmMissRun → s.acts[a].mode ≠ .parked →
    parks s.acts[a] = false →
    exec (.vcmMissRetract a) s = .next (raise (retract s a) .vcmRetract 2 0x05 a.val a.val) ∧
    (retract s a).acts[a].mode = .ramp ∧ (retract s a).acts[a].retracting = true) ∧
  (∀ (s : State) (a : Act), powered s = true → s.acts[a].mode = .follow ∨ s.acts[a].mode = .twin →
    s.acts[a].followPar.nWready ≤ s.acts[a].wreadyRun → s.acts[a].writeReady = false → parks s.acts[a] = false →
    ∃ t, exec (.writeReadySet a) s = .next t ∧ t.acts[a] = { s.acts[a] with writeReady := true } ∧
      t.wps[a].reopen = s.wps[a].reopen.filter (fun c => decide (c ≠ 0x1)) ∧
      (∀ b, a ≠ b → t.acts[b] = s.acts[b] ∧ t.wps[b] = s.wps[b])) ∧
  (∀ (s : State) (a : Act) (l : Nat), powered s = true → (lawOf s.acts[a] l).blendLeft = 0 →
    ∃ t, exec (.blendEnd a l) s = .next t ∧
      t.acts[a].laws = (updLaw s.acts[a] l fun w => { w with blendDelta := 0 }).laws ∧
      t.acts[a].blending = t.acts[a].laws.toList.any (fun w => decide (w.blendLeft ≠ 0)) ∧
      (∀ b, a ≠ b → t.acts[b] = s.acts[b]) ∧ t.wps = s.wps ∧ t.hloops = s.hloops) ∧
  (∀ (s : State) (a : Act), powered s = true → s.acts[a].maRampLeft = 0 → s.acts[a].mode = .seek →
    ∃ t, exec (.maRampEnd a) s = .next t ∧
      (∀ i : Fin 8, (lawOf t.acts[a] i.val).st = [] ∧ (lawOf t.acts[a] i.val).out = 0) ∧
      (∀ l, 8 ≤ l → lawOf t.acts[a] l = lawOf s.acts[a] l) ∧
      (∀ b, a ≠ b → t.acts[b] = s.acts[b]) ∧ t.wps = s.wps ∧ t.hloops = s.hloops) ∧
  (∀ (s : State) (a : Act), powered s = true → s.acts[a].mode = .settle ∨ s.acts[a].mode = .follow →
    16 ≤ s.acts[a].missRun → (lawOf s.acts[a] 18).valid = true → parks s.acts[a] = false →
    exec (.holdEntry a) s = .next (updAct s a fun x => { enterMode (localHead s) .hold x with holdMiss := true })) ∧
  (∀ (s : State) (a : Act), powered s = true → s.acts[a].mode = .twin → 16 ≤ s.acts[a].missRun →
    16 ≤ s.acts[a].missRunP → (lawOf s.acts[a] 18).valid = true → parks s.acts[a] = false →
    exec (.holdEntry a) s = .next (updAct s a fun x => { enterMode (localHead s) .hold x with holdMiss := true })) ∧
  (∀ (s : State) (a : Act), powered s = true → s.acts[a].mode = .hold → s.acts[a].validRun = 0 →
    parks s.acts[a] = false →
    exec (.holdTimeoutRetract a) s = .next (raise (retract s a) .holdRetract 2 0x05 a.val a.val))

/-- Actuator loops, the supervisor's events. SEEK_TARGET (R88, R96, R97), TRAJ_STOP_PLAN (R98), SEEK_ABORT,
FOLLOW_RMS_CHECK (R99), ACTUATOR_LOAD, ACTUATOR_UNLOAD, RAMP_STOP_REACHED (R100). -/
def Obligations.SeekAndLoadEventsComplete : Prop :=
  (∀ (s : State) (a : Act) (t : SeekTarget), seekTaken s a t = true →
    (lawsFor t).all (fun l => (lawOf s.acts[a] l).valid) = true →
    exec (.seekTarget a t) s = .next (updAct s a fun x =>
      { x with newSeek := some { t with target := targetOf s t.head t.req t.target }, seekPending := true,
               seekStatus := 0 })) ∧
  (∀ (s : State) (a : Act) (t : SeekTarget), seekTaken s a t = true → s.acts[a].mode = .hold →
    (lawsFor t).all (fun l => (lawOf s.acts[a] l).valid) = false →
    exec (.seekTarget a t) s = .next (updAct s a fun x => { x with seekStatus := 0x000D })) ∧
  (∀ (s : State) (a : Act), powered s = true → 4 ≤ s.acts[a].emptyFrames → s.acts[a].mode = .seek →
    s.acts[a].stopPlan = false → parks s.acts[a] = false →
    exec (.trajStopPlan a) s = .next (updAct s a fun x => { x with stopPlan := true, stopFail := false, traj := [] })) ∧
  (∀ (s : State) (a : Act), powered s = true → 8 ≤ s.acts[a].errFrames → s.acts[a].mode = .seek →
    s.acts[a].stopPlan = false → parks s.acts[a] = false → s.acts[a].aborts + 1 < s.acts[a].seekPar.nAbort →
    ∃ t, exec (.seekAbort a) s = .next t ∧ t.acts[a].seekAbort = true ∧ t.acts[a].aborts = s.acts[a].aborts + 1 ∧
      t.acts[a].errFrames = 0 ∧ t.acts[a].traj = [] ∧ t.acts[a].refPos = s.acts[a].obsPos ∧
      t.acts[a].refVel = 4 * s.acts[a].obsVel ∧ t.acts[a].stopPlan = false ∧ t.acts[a].mode = .seek ∧
      (∀ b, a ≠ b → t.acts[b] = s.acts[b])) ∧
  (∀ (s : State) (a : Act), powered s = true → 8 ≤ s.acts[a].errFrames → s.acts[a].mode = .seek →
    s.acts[a].stopPlan = false → parks s.acts[a] = false → s.acts[a].seekPar.nAbort ≤ s.acts[a].aborts + 1 →
    ∃ t, exec (.seekAbort a) s = .next t ∧ t.acts[a].seekAbort = true ∧ t.acts[a].stopPlan = true ∧
      t.acts[a].stopFail = true ∧ t.acts[a].traj = [] ∧ (∀ b, a ≠ b → t.acts[b] = s.acts[b])) ∧
  (∀ (s : State) (a : Act), powered s = true → 1024 ≤ s.acts[a].rmsN → activePartner s.acts[a] = none →
    rmsHigh s.acts[a] s.acts[a].rmsSum = false →
    exec (.followRmsCheck a) s = .next (updAct s a fun x => { x with rmsN := 0, rmsSum := 0, rmsSumP := 0 })) ∧
  (∀ (s : State) (a : Act), powered s = true → 1024 ≤ s.acts[a].rmsN → activePartner s.acts[a] = none →
    rmsHigh s.acts[a] s.acts[a].rmsSum = true →
    exec (.followRmsCheck a) s =
      .next (raise (updAct s a fun x => { x with rmsN := 0, rmsSum := 0, rmsSumP := 0 }) .rmsHigh 0 0x05 a.val
        s.acts[a].leadHead.val)) ∧
  (∀ (s : State) (a : Act) (p : Hd), powered s = true → 1024 ≤ s.acts[a].rmsN → activePartner s.acts[a] = some p →
    rmsHigh s.acts[a] s.acts[a].rmsSum = false → rmsHigh s.acts[a] s.acts[a].rmsSumP = true →
    exec (.followRmsCheck a) s =
      .next (raise (updAct s a fun x => { x with rmsN := 0, rmsSum := 0, rmsSumP := 0 }) .rmsHigh 0 0x05 a.val p.val)) ∧
  (∀ (s : State) (a : Act), powered s = true → s.bw.started = false → s.acts[a].mode = .parked →
    38400 ≤ s.spn.meas → s.actRecs[a].failed = false → s.plks[a].l.st = .up → s.psl.l.st = .up →
    exec (.actuatorLoad a) s = .next (updPsl (updAct s a fun x =>
      { x with loadReq := true, unloadReq := false, retracting := false, park := .none }) fun p =>
        { p with ven := vupd p.ven a fun _ => true })) ∧
  (∀ (s : State) (a : Act), s.acts[a].loadReq = true → s.acts[a].unloadReq = false → s.acts[a].mode = .parked →
    parks s.acts[a] = false → (frameModes s a).acts[a].mode = .ramp) ∧
  (∀ (s : State) (a : Act), powered s = true → s.acts[a].mode ≠ .parked → s.acts[a].mode ≠ .twin →
    exec (.actuatorUnload a) s = .next (updAct s a fun x =>
      { x with unloadReq := true, loadReq := false, newSeek := none, seekPending := false, writeReady := false,
               wreadyRun := 0 })) ∧
  (∀ (s : State) (a : Act), s.acts[a].unloadReq = true → s.acts[a].mode ≠ .parked → parks s.acts[a] = false →
    (frameModes s a).acts[a].mode = .ramp ∧ (frameModes s a).acts[a].maCmd = Vector.replicate 8 0 ∧
    (frameModes s a).acts[a].newSeek = none) ∧
  (∀ (s : State) (a : Act), powered s = true → s.acts[a].mode = .ramp → s.acts[a].loadReq = false →
    s.bw.started = false →
    exec (.rampStopReached a) s = .next (onRampStop s a) ∧ (updAct s a parkedNow).acts[a].mode = .parked ∧
    (updAct s a parkedNow).acts[a].vcmCmd = 0 ∧ (onRampStop s a).psl.vcm[a] = 0 ∧ (onRampStop s a).psl.ven[a] = false)

/-- Twin streams: TWIN_REGISTRATION (R107), TWIN_FALLBACK, TWIN_FALLBACK_HANDOVER, TWIN_STREAM_RELEASE (R110, R111),
TWIN_HOLDOFF_EXPIRY (R111). -/
def Obligations.TwinEventsComplete : Prop :=
  (∀ (s : State) (a : Act), powered s = true → s.acts[a].mode = .twin → 64 ≤ s.acts[a].regN →
    exec (.twinRegistration a) s = .next (updAct s a fun x =>
      { x with regDone := some ((x.regSum + 32) / 64), regTemp := s.pmu.tj, regN := 0, regSum := 0 })) ∧
  (∀ (s : State) (a : Act) (p : Hd) (k : Nat) (onLead : Bool), powered s = true → s.acts[a].mode = .twin →
    s.acts[a].partner = some p → s.acts[a].fallback = none → parks s.acts[a] = false →
    fallbackTrigger s a p k = true → (triggerOn s a p k).1 ≠ (triggerOn s a p k).2 →
    exec (.twinFallback a k onLead) s =
      .next (dropPair s a (if (triggerOn s a p k).1 then s.acts[a].leadHead else p) k)) ∧
  (∀ (s : State) (a : Act) (p : Hd) (k : Nat) (onLead : Bool), powered s = true → s.acts[a].mode = .twin →
    s.acts[a].partner = some p → s.acts[a].fallback = none → parks s.acts[a] = false → k ≤ 4 →
    fallbackTrigger s a p k = true → (triggerOn s a p k).1 = (triggerOn s a p k).2 →
    exec (.twinFallback a k onLead) s = .next (dropPair s a (if onLead then s.acts[a].leadHead else p) k)) ∧
  (∀ (s : State) (a : Act) (p : Hd) (onLead : Bool), powered s = true → s.acts[a].mode = .twin →
    s.acts[a].partner = some p → s.acts[a].fallback = none → parks s.acts[a] = false → 2 ≤ s.pmu.level →
    exec (.twinFallback a 5 onLead) s = .next (dropPair s a p 5)) ∧
  (∀ (s : State) (a : Act) (d : Hd) (k : Nat), pairedCtxs s a = [] →
    (dropPair s a d k).acts[a].fallback = some d ∧ (dropPair s a d k).acts[a].twinFallback = true ∧
    (s.acts[a].leadHead, s.acts[a].partner.getD d) ∈ (dropPair s a d k).acts[a].holdoff ∧
    (∀ b, a ≠ b → (dropPair s a d k).acts[b] = s.acts[b]) ∧ (dropPair s a d k).wps = s.wps) ∧
  (∀ (s : State) (a : Act) (d p : Hd), powered s = true → s.acts[a].mode = .twin → s.acts[a].fallback = some d →
    s.acts[a].partner = some p → (lawOf s.acts[a] 18).valid = true → parks s.acts[a] = false →
    (∀ m, streamOfHead s d = some m → s.chn[m].readGate = false) →
    ∃ t, exec (.twinFallbackHandover a) s = .next t ∧ t.acts[a].mode = .follow ∧ t.acts[a].dropRampLeft = 64 ∧
      t.acts[a].dropFrom = s.acts[a].maCmd[localHead s d] ∧
      t.acts[a].leadHead = (if d = s.acts[a].leadHead then p else s.acts[a].leadHead) ∧
      t.acts[a].target = (if d = s.acts[a].leadHead then s.acts[a].target + pairDW s.acts[a] else s.acts[a].target) ∧
      (∀ b, a ≠ b → t.acts[b] = s.acts[b]) ∧ t.wps = s.wps ∧ t.streams = s.streams) ∧
  (∀ (s : State) (a : Act) (d : Hd), powered s = true → s.acts[a].mode ≠ .twin → s.acts[a].fallback = some d →
    s.acts[a].dropRampLeft = 0 →
    ∃ u, exec (.twinStreamRelease a) s = .next (raise u .twinFallback 2 0x05 a.val
        (s.acts[a].fbPair.1.val + 256 * s.acts[a].fbPair.2.val) (toPat 32 s.acts[a].fbDrift) s.acts[a].fbTrigger) ∧
      u.acts[a].fallback = none ∧ u.acts[a].partner ≠ some d ∧ u.acts[a].holdoff = s.acts[a].holdoff ∧
      u.acts[a].leadHead = s.acts[a].leadHead ∧ (∀ b, a ≠ b → u.acts[b] = s.acts[b]) ∧
      (∀ m, streamOfHead s d = some m → u.cmds.pilots[a].strm ≠ some m ∧ u.cmds.pilots[a].twinStrm ≠ some m)) ∧
  (∀ (s : State) (a : Act) (lead partner : Hd), powered s = true →
    ∃ t, exec (.twinHoldoffExpiry a lead partner) s = .next t ∧ (lead, partner) ∉ t.acts[a].holdoff ∧
      (∀ q ∈ s.acts[a].holdoff, q ≠ (lead, partner) → q ∈ t.acts[a].holdoff) ∧
      (∀ b, a ≠ b → t.acts[b] = s.acts[b]) ∧ t.streams = s.streams)

/-- Loop messages (R88, R89, R112 to R114, R438): what each stores, and when it takes effect. -/
def Obligations.LoopMessagesComplete : Prop :=
  (∀ (s : State) (r : Req) (a : Act) (law count start : Nat) (words : List (BitVec 32)),
    lawFits (allotment law) count start = true → words.length = 6 * count →
    (sectionsOf count words).all (fun c => decide (c.shift ≤ 16)) = true →
    sectionsBad count 8 words = none →
    (runningLaws s a).any (fun l => overlapsLaw (lawOf s.acts[a] l) start count) = false →
    Completes (.loopSetLaw r a.val law count start words) s r { opc := 0x0211, setter := true }
      (updAct s a fun x => { x with lawPend := x.lawPend ++
        [{ law := law, count := count, start := start, secs := sectionsOf count words }] }) []) ∧
  (∀ (s : State) (r : Req) (law count start : Nat) (words : List (BitVec 32)),
    lawFits (allotment4 law) count start = true → words.length = 6 * count →
    (sectionsOf count words).all (fun c => decide (c.shift ≤ 16)) = true → sectionsBad count 8 words = none →
    overlaps4 s start count = false →
    Completes (.loopSetLaw r 4 law count start words) s r { opc := 0x0211, setter := true }
      (updSpn s fun p => { p with lawPend := p.lawPend ++
        [{ law := law, count := count, start := start, secs := sectionsOf count words }] }) []) ∧
  (∀ (s : State) (r : Req) (head : Nat) (vals : List Int), selHeads s head ≠ [] → vals.length = 64 →
    vals.all (fun v => decide (-8388608 ≤ v ∧ v ≤ 8388607)) = true →
    Completes (.loopSetRwo r head vals) s r { opc := 0x0212, setter := true }
      (forEach (selHeads s head) s fun s h =>
        updHloop s h fun x => { x with rwo := Vector.ofFn fun z : Fin 64 => vals.getD z.val 0 }) []) ∧
  (∀ (s : State) (r : Req) (head gain : Nat), selHeads s head ≠ [] → gain < 65536 →
    Completes (.loopSetMaGain r head gain) s r { opc := 0x0213, setter := true }
      (forEach (selHeads s head) s fun s h => updHloop s h fun x => { x with maGain := gain }) []) ∧
  (∀ (s : State) (r : Req) (a : Act) (ps : Params) (v : SeekPar),
    applyPars seekPars (fun _ => []) ps (s.acts[a].seekPend.getD s.acts[a].seekPar) = .ok v →
    Completes (.loopSetSeek r a.val ps) s r { opc := 0x0214, setter := true }
      (updAct s a fun x => { x with seekPend := some v }) []) ∧
  (∀ (s : State) (r : Req) (a : Act) (ps : Params) (v : FollowPar),
    applyPars followPars (fun v => [([3], decide (v.tWready ≤ (s.guards[a].pend.getD s.guards[a].cfg).tOt))]) ps
      (s.acts[a].followPend.getD s.acts[a].followPar) = .ok v →
    Completes (.loopSetFollow r a.val ps) s r { opc := 0x0215, setter := true }
      (updAct s a fun x => { x with followPend := some v }) []) ∧
  (∀ (s : State) (r : Req) (a : Act) (ps : Params) (v : TwinPar × List PairRec),
    applyPars twinPars (fun v => [([0, 1], decide (v.1.enter + 1 ≤ 2 * v.1.exit))]) ps
      (s.acts[a].twinPar, s.acts[a].pairs) = .ok v →
    Completes (.loopSetTwin r a.val ps) s r { opc := 0x0216, setter := true }
      (updAct s a fun x => { x with twinPar := v.1, pairs := v.2 }) []) ∧
  (∀ (s : State) (r : Req) (a : Act) (clear : BitVec 64),
    Completes (.loopGetStatus r a.val clear) s r { opc := 0x0217, need := .rd }
      (updAct s a (actClear clear)) (leBytes 4 (actStatus s.acts[a]) ++ leBytes 4 (twinStatus s.acts[a])))

/-- Spindle drive, its waveform and its states: PWM_PERIOD_START (R115, R116, R127, R138, R143),
CURRENT_SAMPLES_READY (R118, R120, R123), OVERCURRENT_TRIP, COAST_RESTART (R120), OBSERVER_LOCK, OBSERVER_LOCK_LOSS
(R121, R127), INDEX_CROSSING (R122), CURRENT_LAW_MISS_COAST (R123), LISTEN_COMPLETE, PHASE_VOLTAGE_SAMPLE (R125),
BRAKE_DECISION, STANDSTILL_DECLARED (R126), ALIGN_COMPLETE, START_FAIL (R127). -/
def Obligations.SpindleDriveComplete : Prop :=
  (∀ s : State, powered s = true → s.spn.chopFail = false → ∃ t, exec .pwmPeriodStart s = .next t ∧
    t.spn.cmpUp = s.spn.cmpNextUp ∧ t.spn.cmpDown = s.spn.cmpNextDown ∧ t.spn.blendLeft = s.spn.blendLeft - 1 ∧
    t.spn.pwmPend = none ∧
    t.spn.wave = gateWave (t.spn.lim.tDead / 10) s.spn.cmpNextUp s.spn.cmpNextDown s.spn.cmpDown ∧
    t.pins.spgEn = (if s.spn.gatesOff then 0 else if s.spn.shortBrake then 0b101010 else spgNow t.spn 0)) ∧
  (∀ (s : State) (d m : Nat), powered s = true → s.spn.pwmPend = some (d, m) →
    ∃ t, exec .pwmPeriodStart s = .next t ∧ t.spn.lim = { s.spn.lim with tDead := d, tMin := m }) ∧
  (∀ s : State, powered s = true → s.spn.pwmPend = none → s.spn.st = .forced → s.spn.chopFail = false →
    ∃ t, exec .pwmPeriodStart s = .next t ∧ t.spn.forced = s.spn.forced + s.spn.lim.aStart * 200 ∧
      t.spn.vecAngle =
        (s.spn.vecAngle + s.spn.forced * s.spn.motor.poles * 2 ^ 32 / 19200000000000) % 2 ^ 32) ∧
  (∀ (s : State) (code1 code2 : Int) (late : List Nat), powered s = true → s.spn.gatesOff = true →
    codeBad code1 = false → codeBad code2 = false →
    ∃ t, exec (.currentSamplesReady code1 code2 late) s = .next t ∧ t.spn.samples = phaseCurrents s.spn.cmpUp
      (shuntMa s.spn.motor.shunt code1) (-shuntMa s.spn.motor.shunt code2) ∧ t.spn.badCnt = min 255 s.spn.badCnt ∧
      t.spn.sampleBad = s.spn.sampleBad) ∧
  (∀ (s s1 s2 : State) (code1 code2 : Int), powered s = true → s.spn.gatesOff = false → drives s.spn = true →
    busLaw [] (takeSamples code1 code2 s) = s1 →
    runLaw4 [] 1 (s1.spn.iqRef - axisMa s1 1) (runLaw4 [] 0 (s1.spn.idRef - axisMa s1 0) s1) = s2 →
    exec (.currentSamplesReady code1 code2 []) s = .next (nextDuty (updSpn s2 fun p => { p with missRun := 0 }))) ∧
  (∀ s : State, powered s = true → s.spn.st = .run → (recent s.us 1000000 s.spn.ocTimes).length < 2 →
    exec .overcurrentTrip s = .next (enterCoast (raise (updSpn (gatesOffNow s) fun p =>
      { p with ocTrip := true, ocTimes := s.us :: recent s.us 1000000 s.spn.ocTimes }) .ocTrip 2 0x06 0) 10)) ∧
  (∀ s : State, powered s = true → s.spn.st = .run → 2 ≤ (recent s.us 1000000 s.spn.ocTimes).length →
    exec .overcurrentTrip s = .next (raise (updSpn (enterCoast (raise (updSpn (gatesOffNow s) fun p =>
      { p with ocTrip := true, ocTimes := s.us :: recent s.us 1000000 s.spn.ocTimes }) .ocTrip 2 0x06 0) 0)
        fun p => { p with fault := true }) .spnFault 0 0x06 0)) ∧
  (∀ s : State, powered s = true → s.spn.st = .coast → s.spn.fault = false → s.bw.started = false →
    passedNs s s.spn.coastUs (s.spn.coastMs * 1000000) = true →
    exec .coastRestart s = .next (enterWatch s .listen) ∧ (enterWatch s .listen).spn.st = .listen) ∧
  (∀ s : State, powered s = true → 2400 ≤ s.spn.meas → s.spn.st = .forced → s.bw.started = false →
    ∃ t, exec .observerLock s = .next t ∧ t.spn.obsLock = true ∧ t.spn.st = .run ∧ t.spn.blendLeft = 64 ∧
      t.spn.ref = s.spn.meas ∧ t.spn.idRef = 0 ∧ t.spn.starts = 0) ∧
  (∀ s : State, powered s = true → 2400 ≤ s.spn.meas → s.spn.st ≠ .forced →
    exec .observerLock s = .next (updSpn s fun p => { p with obsLock := true })) ∧
  (∀ s : State, powered s = true → s.spn.st = .run → exec .observerLockLoss s = .next (raise (updSpn (enterCoast
    (updSpn s fun p => { p with obsLock := false }) 5) fun p => { p with obsLoss := true }) .obsLoss 2 0x06 0)) ∧
  (∀ (s : State) (ms : Nat), (enterCoast s ms).spn.st = .coast ∧ (enterCoast s ms).spn.gatesOff = true ∧
    (enterCoast s ms).spn.xferOk = false ∧ (enterCoast s ms).spn.coastMs = ms) ∧
  (∀ (s : State) (m : Strm) (stamp last : Nat), powered s = true → s.streams[m].angleValid = true →
    s.spn.revStream = some m → s.spn.lastIndex = some last →
    exec (.indexCrossing m stamp) s = .next (updDevCtr (updSpn s fun p =>
      { p with lkbRef := true, lastIndex := some stamp, trim := stamp - last }) fun d =>
        { d with spindleRevs := ctrAdd d.spindleRevs 1 })) ∧
  (∀ s : State, powered s = true → s.spn.st = .run → 8 ≤ s.spn.missRun →
    exec .currentLawMissCoast s = .next (updSpn (enterCoast s 10) fun p => { p with missRun := 0 })) ∧
  (∀ s : State, powered s = true → s.spn.st = .holdup → 8 ≤ s.spn.missRun →
    exec .currentLawMissCoast s = .next (updSpn (gatesOffNow s) fun p => { p with missRun := 0 })) ∧
  (∀ s : State, powered s = true → s.spn.st = .listen → 100 * s.spn.lim.listenT ≤ s.spn.vphN →
    listenFinding s.spn = 1 → 8 * s.spn.lim.catchMin < listenSpeed s.spn → s.spn.stopping = false →
    s.bw.started = false →
    ∃ t, exec .listenComplete s = .next t ∧ t.spn.st = .run ∧ t.spn.ref = listenSpeed s.spn ∧ t.spn.iqRef = 0 ∧
      t.spn.direction = 1 ∧ t.spn.gatesOff = false) ∧
  (∀ s : State, powered s = true → s.spn.st = .listen → 100 * s.spn.lim.listenT ≤ s.spn.vphN →
    listenFinding s.spn ≠ 1 →
    ∃ t, exec .listenComplete s = .next t ∧ t.spn.st = .brake ∧ t.spn.gatesOff = true ∧
      t.spn.direction = (if listenFinding s.spn = 3 then 0 else listenFinding s.spn)) ∧
  (∀ (s : State) (u v w : BitVec 12), powered s = true → s.spn.st = .listen → s.spn.vphLast = none →
    exec (.phaseVoltageSample u v w) s = .next (updSpn s fun p =>
      let e : Int × Int := ((vphMv u : Int) - vphMv v, (vphMv v : Int) - vphMv w)
      let peak := max e.1.natAbs e.2.natAbs
      { p with vphN := p.vphN + 1, vphPeak := max p.vphPeak peak, vphLast := some e, vph := (vphMv u, vphMv v, vphMv w),
               quietN := if peak < 50 then satInc 10000 p.quietN else 0 })) ∧
  (∀ (s : State) (u v w : BitVec 12), powered s = true → s.spn.st = .run →
    ∃ t, exec (.phaseVoltageSample u v w) s = .next t ∧ t.spn.vph = (vphMv u, vphMv v, vphMv w) ∧
      t.spn.vphPeak = s.spn.vphPeak ∧ t.spn.quietN = s.spn.quietN ∧ t.pins.spgEn = spgNow s.spn 1250) ∧
  (∀ (s : State) (emf rpm : Nat), powered s = true → s.spn.st = .brake → brakeAllowed s.spn emf rpm = true →
    s.bw.started = false → 2500 ≤ 3 * emf * emf →
    exec (.brakeDecision emf rpm) s =
      .next { updSpn s fun p => { p with shortBrake := true, gatesOff := false, quietN := 0 } with
        pins := { s.pins with spgEn := 0b101010 } }) ∧
  (∀ (s : State) (emf rpm : Nat), powered s = true → s.spn.st = .brake → brakeAllowed s.spn emf rpm = false →
    exec (.brakeDecision emf rpm) s = .next (gatesOffNow (updSpn s fun p => { p with quietN := quietBrake emf p }))) ∧
  (∀ s : State, powered s = true → s.spn.st = .brake → 10000 ≤ s.spn.quietN → s.spn.stopping = true →
    exec .standstillDeclared s = .next (updSpn (gatesOffNow s) fun p =>
      { p with st := .stopped, stopping := false, ref := 0 })) ∧
  (∀ s : State, powered s = true → s.spn.st = .brake → 10000 ≤ s.spn.quietN → s.spn.stopping = false →
    s.bw.started = false →
    exec .standstillDeclared s = .next (updSpn s fun p =>
      { p with st := .align, shortBrake := false, gatesOff := false, alignN := 0, forced := 0, vecAngle := 0,
               vecMa := (p.lim.iAlign * p.lim.iSpinMax / 100 : Nat),
               idRef := (p.lim.iAlign * p.lim.iSpinMax / 100 : Nat), iqRef := 0 })) ∧
  (∀ s : State, powered s = true → s.spn.st = .align → 40 * s.spn.lim.tAlign ≤ s.spn.alignN →
    exec .alignComplete s = .next (updSpn s fun p => { p with st := .forced, forced := 0 })) ∧
  (∀ s : State, powered s = true → s.spn.st = .forced → s.spn.obsLock = false → 4800000000 ≤ s.spn.forced →
    s.spn.starts < 2 →
    exec .startFail s = .next (raise (updSpn (enterCoast s 500) fun p =>
      { p with startFail := true, starts := s.spn.starts + 1 }) .startFail 2 0x06 0 (s.spn.starts + 1))) ∧
  (∀ s : State, powered s = true → s.spn.st = .forced → s.spn.obsLock = false → 4800000000 ≤ s.spn.forced →
    2 ≤ s.spn.starts →
    exec .startFail s = .next (raise (updSpn (enterCoast s 0) fun p =>
      { p with startFail := true, starts := s.spn.starts + 1, fault := true }) .startFail 2 0x06 0 (s.spn.starts + 1)))

/-- Spindle speed: SPEED_LAW_SAMPLE (R129, R131, R143), FREE_RAMP_START (R132), SPEED_POLICY_EVAL (R134),
DIRTY_HOLD_RELEASE (R135), UNDERSPEED (R136), CHOPPER_FAULT (R138), HOLDUP_ENTRY (R139). Spindle messages (R129,
R134, R140 to R143, R442). -/
def Obligations.SpindleSpeedAndMessagesComplete : Prop :=
  ((∀ (s : State) (meas8 : Nat) (late : Bool), powered s = true →
    ∃ t, exec (.speedLawSample meas8 late) s = .next t ∧ t.spn.meas = meas8 % 65536 ∧ t.spn.limPend = none ∧
      (s.spn.limPend = none → t.spn.lim = s.spn.lim) ∧
      (∀ l, s.spn.limPend = some l → t.spn.lim = { l with tDead := s.spn.lim.tDead, tMin := s.spn.lim.tMin })) ∧
  (∀ (s t : State) (meas8 : Nat) (late : Bool), powered s = true → exec (.speedLawSample meas8 late) s = .next t →
    t.spn.xferOk = true → t.spn.st = .run ∧ 38400 ≤ t.spn.meas ∧ t.spn.meas ≤ 57600 ∧
      ((t.spn.meas : Int) - t.spn.ref).natAbs ≤ 80 ∧ t.spn.freeDrain = false) ∧
  (∀ s : State, powered s = true → s.spn.freeDrain = true → mediaBusy s = false →
    exec .freeRampStart s = .next (updSpn s fun p => { p with freeDrain := false })) ∧
  (∀ (s : State) (busy : List Nat), live s = true → s.spn.pol.demand = true → s.spn.pol.lHi < busy.foldl max 0 →
    s.spn.pol.lLo ≤ s.spn.pol.lHi → 1 ≤ s.spn.highN → s.spn.setPoint < s.spn.pol.sMax →
    exec (.speedPolicyEval busy) s = .next (acceptSet (updSpn s fun p =>
      { p with highN := satInc 2 p.highN, lowN := 0, sinceRaise := 0 })
      (min (s.spn.setPoint + s.spn.pol.sStep) s.spn.pol.sMax) false)) ∧
  (∀ s : State, powered s = true → s.spn.dirtyHold = true → dirtyBlocks s ≤ bound15 → s.spn.free = false →
    exec .dirtyHoldRelease s = .next (updSpn s fun p => { p with dirtyHold := false, freeDrain := false })) ∧
  (∀ s : State, powered s = true → s.spn.dirtyHold = true → dirtyBlocks s ≤ bound15 → s.spn.free = true →
    s.spn.capThermal = false →
    exec .dirtyHoldRelease s =
      .next (setXfer (updSpn s fun p => { p with dirtyHold := false, freeDrain := true }) false)) ∧
  (∀ s : State, powered s = true → 80 ≤ s.spn.underN ∨ 80 ≤ s.spn.underDirtyN →
    exec .underspeed s = .next (startBreakwater (updSpn s fun p => { p with underspeed := true }) 0x5)) ∧
  (∀ s : State, powered s = true → s.spn.chopFail = false → s.psl.chopFault = true →
    exec .chopperFault s = .next (raise (updSpn s fun p => { p with chopFail := true, decelHalf := true })
      .chopFault 0 0x06 0 s.spn.vBus)) ∧
  (∀ s : State, powered s = true → s.bw.started = true → s.bw.cause < 8 → s.spn.st ≠ .holdup → s.spn.obsLock = true →
    ∃ t, exec .holdupEntry s = .next t ∧ t.spn.st = .holdup ∧ t.bw.holdup = true ∧ t.spn.xferOk = false ∧
      t.spn.idRef = 0) ∧
  (∀ s : State, powered s = true → s.bw.started = true → s.bw.cause < 8 → s.spn.st ≠ .holdup →
    s.spn.obsLock = false → exec .holdupEntry s = .next (gatesOffNow s))) ∧
  ((∀ (s : State) (r : Req) (rpm cls : Nat), s.spn.pol.demand = false → 4800 ≤ rpm → rpm ≤ 7200 → cls ≤ 1 →
    Completes (.spnSetSpeed r rpm cls) s r { opc := 0x0601, setter := true } (acceptSet s rpm (decide (cls = 1))) []) ∧
  (∀ (s : State) (r : Req) (rpm cls : Nat), s.spn.pol.demand = false → rpm < 4800 ∨ 7200 < rpm →
    TurnsAway (.spnSetSpeed r rpm cls) s r { opc := 0x0601, setter := true } 0x000A 0) ∧
  (∀ (s : State) (r : Req) (ps : Params) (p : SpnPolicy),
    applyPars policyPars (fun p => [([2, 3], decide (p.sMin ≤ p.sMax)), ([5, 6], decide (p.lLo < p.lHi))]) ps
      s.spn.pol = .ok p → (p.demand = true ∨ anyBit ps [0, 1] = false) →
    Completes (.spnSetPolicy r ps) s r { opc := 0x0602, setter := true } (updSpn s fun x => { x with pol := p }) []) ∧
  (∀ (s : State) (r : Req) (ps : Params) (p : SpnPolicy),
    applyPars policyPars (fun p => [([2, 3], decide (p.sMin ≤ p.sMax)), ([5, 6], decide (p.lLo < p.lHi))]) ps
      s.spn.pol = .ok p → p.demand = false → anyBit ps [0, 1] = true →
    Completes (.spnSetPolicy r ps) s r { opc := 0x0602, setter := true }
      (acceptSet (updSpn s fun x => { x with pol := p }) p.sFixed false) []) ∧
  (∀ (s : State) (r : Req) (ps : Params) (p : SpnLimits), s.spn.limPend = none → s.spn.pwmPend = none →
    applyPars limitPars (fun p => [([0], decide (p.iSpinMax * s.spn.motor.shunt ≤ 200000)),
      ([11, 12], decide (p.vChopOn + 200 ≤ p.vOv))]) ps s.spn.lim = .ok p →
    Completes (.spnSetLimits r ps) s r { opc := 0x0603, setter := true }
      (updSpn s fun x => { x with limPend := some p, pwmPend := some (p.tDead, p.tMin) }) []) ∧
  (∀ (s : State) (r : Req) (ps : Params) (p : SpnMotor), (s.sec.life = .manufacture ∨ s.sec.life = .ret) →
    applyPars motorPars (fun p => [([5], decide (s.spn.lim.iSpinMax * p.shunt ≤ 200000))]) ps s.spn.motor = .ok p →
    Completes (.spnSetMotor r ps) s r { opc := 0x0604, need := .fa, setter := true }
      (updSpn s fun x => { x with motor := p }) []) ∧
  (∀ (s : State) (r : Req) (ps : Params), s.sec.life = .blank →
    TurnsAway (.spnSetMotor r ps) s r { opc := 0x0604, need := .fa, setter := true } 0x0006 0) ∧
  (∀ (s : State) (r : Req), s.spn.st = .stopped → s.psl.l.st = .up →
    Completes (.spnStart r) s r { opc := 0x0605 }
      (updSpn (enterWatch s .listen) fun p => { p with startWait := false, starts := 0, fault := false }) []) ∧
  (∀ (s : State) (r : Req), s.spn.st = .stopped → s.psl.l.st ≠ .up →
    Completes (.spnStart r) s r { opc := 0x0605 } (updSpn s fun p => { p with startWait := true }) []) ∧
  (∀ (s : State) (r : Req), s.spn.st = .run →
    Completes (.spnStop r) s r { opc := 0x0606 } (setXfer (forEach allActs (updSpn s fun p =>
      { p with stopping := true, spinUp := false, newSet := true, freeDrain := decide (p.st = .run), dirtyHold := false })
      unload)
      false) []) ∧
  (∀ (s : State) (r : Req) (clear : BitVec 64),
    Completes (.spnGetStatus r clear) s r { opc := 0x0607, need := .rd } (updSpn s (spnClear clear))
      (leBytes 4 (spnStatus s.spn) ++ leBytes 4 (spnSpeed s.spn))))

/-- Read channel events: SECTOR_READ_START (R162), SECTOR_DECODE_DONE (R168, R170, R171), SECTOR_RESULT_POST (R170),
DEEP_DECODE_START, DEEP_DECODE_DONE (R174), RECOVERY_LIMIT_EXPIRY (R177), FORMAT_APPLY (R161), SYNC_PARAM_APPLY
(R181). -/
def Obligations.ChannelEventsComplete : Prop :=
  (∀ (s : State) (m : Strm) (o : ReadOrd), powered s = true → s.bw.started = false →
    s.acts[actOfStream m].fallback = none → readGateOk s m o = true →
    exec (.sectorReadStart m o) s = .next (sectorStart s m o)) ∧
  (∀ (s : State) (m : Strm) (o : ReadOrd),
    (sectorStart s m o).chn[m].readGate = true ∧ (sectorStart s m o).chn[m].cur = some o ∧
    (sectorStart s m o).chn[m].expSync = expectedSync s o ∧
    (sectorStart s m o).chn[m].gain ≤ 96 ∧ (sectorStart s m o).chn[m].smpPhase < 64 ∧
    (∀ k, m ≠ k → (sectorStart s m o).chn[k] = s.chn[k]) ∧ (sectorStart s m o).streams = s.streams) ∧
  (∀ (s : State) (m : Strm) (o : ReadOrd), powered s = true → s.bw.started = false →
    s.acts[actOfStream m].fallback = none → readGateOk s m o = false →
    exec (.sectorReadStart m o) s = .next (gateRefused s m o)) ∧
  (∀ (s s1 : State) (m : Strm) (d : DecodeFacts) (x : ReadCtx) (found : Option Int) (v : Verdict) (st : Nat),
    powered s = true → takeDecode s m = some (x, s1) → foundSync x.par (d.soft.map (llrOf x.par.llrScale)) = found →
    streamVerdict s1 x found d = v → finalStatus s1 m x v d = st → st = 0 ∨ st = 1 ∨ st = 6 →
    ∃ t, exec (.sectorDecodeDone m d) s = .next t ∧ ∃ q ∈ t.chn[m].results, q.ord = x.ord ∧ q.ends = true ∧
      q.block = v.block ∧
      q.word = resultWord st v.iter x.flagged v.alt v.missed false 0 v.delta (readPsa s x.ord)) ∧
  (∀ (s : State) (m : Strm) (q : ReadRes) (rest : List ReadRes), powered s = true →
    s.chn[m].results = q :: rest → q.ends = false →
    exec (.sectorResultPost m) s = .next (updChn s m fun c => { c with results := rest, posted := q.word :: c.posted })) ∧
  (∀ (s : State) (m : Strm) (q : ReadRes) (rest : List ReadRes), powered s = true →
    s.chn[m].results = q :: rest → q.ends = true → q.reloc = false →
    exec (.sectorResultPost m) s = .next (deliverPlace (noteUnread (updOp (updChn s m fun c =>
      { c with results := rest, posted := q.word :: c.posted }) (actOfStream m) q.ord.op fun e =>
        { e with res := e.res ++ [(q.ord.idx, q.word.toNat / 2 ^ 60 + (if q.early then 16 else 0), q.block)] })
          (actOfStream m) q.ord.op q.ord.idx) (actOfStream m) q.ord.op q.ord.idx)) ∧
  (∀ (s : State) (d : Fin 2) (m : Strm), powered s = true → freeDeep s = some d →
    roundRobin 8 s.chnDev.deepPtr (wantsDeep s) = some m.val →
    exec .deepDecodeStart s = .next (grantDeep s d m)) ∧
  (∀ (s : State) (d : Fin 2) (f : DecodeFacts) (m : Strm) (psa : Nat) (r : RecRec), powered s = true →
    s.chnDev.deep[d] = some (m, psa) →
    s.chn[m].ladder.find? (fun r => r.inDeep && decide ((readPsa s r.ord).toNat = psa)) = some r →
    exec (.deepDecodeDone d f) s = .next (deepDone
      { s with chnDev := { s.chnDev with deep := vupd s.chnDev.deep d fun _ => none } } m r f)) ∧
  (∀ (s : State) (m : Strm) (d : Fin 2) (f : DecodeFacts) (psa : Nat) (r : RecRec) (v : Verdict), powered s = true →
    s.chnDev.deep[d] = some (m, psa) →
    s.chn[m].ladder.find? (fun r => r.inDeep && decide ((readPsa s r.ord).toNat = psa)) = some r →
    tryCandidates (readPsa s r.ord) r.ord.gen (candidates r.tol r.found f s.chnDev.now.iterDeep s.chnDev.now.iterDeep) = v →
    v.status = 0 →
    ∃ t, exec (.deepDecodeDone d f) s = .next t ∧ t.chnDev.deep[d] = none ∧ ∃ q ∈ t.chn[m].results, q.ord = r.ord ∧
      q.ends = true ∧ q.block = v.block ∧ q.word = resultWord 1 v.iter r.flagged v.alt r.found.isNone
        (decide (1 < r.sets.length)) 1 (syncDelta r.found) (readPsa s r.ord)) ∧
  (∀ (s : State) (m : Strm) (h : Hd) (track slot : Nat) (r : RecRec), powered s = true → recovLimitOf s r ≠ 0 →
    (s.chn[m].ladder.find? fun r => r.ord.head = h ∧ r.ord.track = track ∧ r.ord.slot = slot) = some r →
    rereading s.chn[m] r.ord = true →
    exec (.recoveryLimitExpiry m (h, track) slot) s = .next (storeRec s m r.rung { r with expired := true })) ∧
  (∀ (s : State) (m : Strm) (h : Hd) (track slot : Nat) (r : RecRec), powered s = true → recovLimitOf s r ≠ 0 →
    (s.chn[m].ladder.find? fun r => r.ord.head = h ∧ r.ord.track = track ∧ r.ord.slot = slot) = some r →
    r.rung = 2 ∨ r.rung = 3 → r.waitDeep = false → r.inDeep = false → rereading s.chn[m] r.ord = false →
    exec (.recoveryLimitExpiry m (h, track) slot) s =
      .next (storeRec s m r.rung (afterRereads { r with expired := true }))) ∧
  (∀ (s : State) (m : Strm) (a b k : Nat), powered s = true → s.streams[m].selected = true →
    noGate s s.streams[m].head = true → (s.chz[s.streams[m].head][s.streams[m].zone]).fmtPend = some (a, b, k) →
    ∃ t, exec (.formatApply m) s = .next t ∧ t.chz[s.streams[m].head][s.streams[m].zone] =
      { s.chz[s.streams[m].head][s.streams[m].zone] with code := a, slotTc := b, skew := k, fmtPend := none } ∧
      (∀ h, s.streams[m].head ≠ h → t.chz[h] = s.chz[h]) ∧ t.streams = s.streams ∧ t.chn = s.chn) ∧
  (∀ (s : State) (h : Hd) (z : Zn) (tol win hd : Nat) (ofs : Int), powered s = true → noGate s h = true →
    (s.chz[h][z]).syncPend = some (tol, win, hd, ofs) →
    ∃ t, exec (.syncParamApply h z) s = .next t ∧ t.chz[h][z] =
      { s.chz[h][z] with tol := tol, win := win, syncHd := hd, syncOfs := ofs, syncPend := none } ∧
      (∀ k, h ≠ k → t.chz[k] = s.chz[k]) ∧ t.streams = s.streams ∧ t.chn = s.chn)

/-- Read channel messages (R145, R147, R161, R180, R181, R439). -/
def Obligations.ChannelMessagesComplete : Prop :=
  (∀ (s s' : State) (r : Req) (head zone : Nat) (w : BitVec 32), fld w.toNat 0 9 = 0 → selHz s head zone ≠ [] →
    foldExcept (selHz s head zone) s (fmtStep (fld w.toNat 30 2) (fld w.toNat 17 13) (fld w.toNat 9 8)) = .ok s' →
    Completes (.chnSetFormat r head zone w) s r { opc := 0x0301, setter := true } s' []) ∧
  (∀ (s s' : State) (r : Req) (head zone : Nat) (ps : Params), selHz s head zone ≠ [] →
    foldExcept (selHz s head zone) s (hzStep fun c => applyPars frontendPars (fun _ => []) ps c) = .ok s' →
    Completes (.chnSetFrontend r head zone ps) s r { opc := 0x0302, setter := true } s' []) ∧
  (∀ (s s' : State) (r : Req) (head zone : Nat) (m : Strm) (ps : Params), selHz s head zone ≠ [] →
    foldExcept (selHz s head zone) s (eqStep m ps) = .ok s' →
    Completes (.chnSetEq r head zone m.val ps) s r { opc := 0x0303, setter := true } s' []) ∧
  (∀ (s s' : State) (r : Req) (head zone : Nat) (ps : Params), selHz s head zone ≠ [] →
    foldExcept (selHz s head zone) s
      (hzStep fun c => applyPars detectorPars (fun c => [([2, 3], decide (c.iterWeak ≤ c.iterOtf))]) ps c) = .ok s' →
    Completes (.chnSetDetector r head zone ps) s r { opc := 0x0304, setter := true } s' []) ∧
  (∀ (s s' : State) (r : Req) (head zone : Nat) (ps : Params), selHz s head zone ≠ [] →
    foldExcept (selHz s head zone) s (hzStep (syncPut ps)) = .ok s' →
    Completes (.chnSetSync r head zone ps) s r { opc := 0x0305, setter := true } s' []) ∧
  (∀ (s : State) (r : Req) (m : Strm) (ps : Params) (x : RecovPar × Nat),
    applyPars recoveryPars (fun _ => []) ps (s.chnDev.par, s.chn[m].recovSlots) = .ok x →
    Completes (.chnSetRecovery r m.val ps) s r { opc := 0x0306, setter := true }
      (updChn { s with chnDev := { s.chnDev with par := x.1 } } m fun c => { c with recovSlots := x.2 }) []) ∧
  (∀ (s : State) (r : Req) (m : Strm) (clear : BitVec 64),
    Completes (.chnGetStatus r m.val clear) s r { opc := 0x0307, need := .rd } (updChn s m (chnClear clear))
      (leBytes 4 (chnStatus s m))) ∧
  (∀ (s : State) (r : Req) (head slot track count : Nat) (h : Hd) (m : Strm), selHead s head = some h →
    1 ≤ count → count ≤ 65536 → streamOfHead s h = some m → s.chn[m].capture = none →
    Begins (.chnCapture r head slot track count) s r { opc := 0x0308, need := .db 1, long := true }
      (updChn s m fun c => { c with capture := some (slot, track, count, r.mb, r.seq) }))

/-- Write path events: WRITE_ORDER_DISPATCH (R185, R201), HTR_READY_SET (R201), ASSIST_ENABLE_RISE (R185),
WRITE_GATE_OPEN (R187), WRITE_SECTOR_END (R190, R191), WRITE_UNDERRUN (R186), WRITE_RUN_END (R185, R191),
SECTOR_REWRITE (R192), FF_PERSIST (R200), HEATER_HOLD_END, CONTACT_REARM (R202). -/
def Obligations.WriteEventsComplete : Prop :=
  (∀ (s : State) (a : Act) (o : WriteOrd) (blocks : List (List Byte)), live s = true → s.bw.started = false →
    actOf s o.head = a → 0 < o.count → s.wps[a].run = none → orderBlocks s a o = blocks →
    ∃ t, exec (.writeOrderDispatch a o) s = .next t ∧ t.wps[a].run = some { ord := { o with blocks := blocks } } ∧
      t.wps[a].runActive = true ∧ t.wps[a].sel = o.head ∧ t.wps[a].buffer = blocks.take 4 ∧
      t.wheads[o.head].htrWriteVal = true ∧ (∀ b, a ≠ b → t.wps[b] = s.wps[b])) ∧
  (∀ (s : State) (a : Act) (o : WriteOrd) (blocks : List (List Byte)) (r : Run), live s = true → s.bw.started = false →
    actOf s o.head = a → 0 < o.count → s.wps[a].run = some r → orderBlocks s a o = blocks →
    exec (.writeOrderDispatch a o) s =
      .next (updWp (heaterWrite s o.head) a fun p => { p with queue := p.queue ++ [{ o with blocks := blocks }] })) ∧
  (∀ (s : State) (h : Hd) (since : Nat), powered s = true → s.wheads[h].htrSince = some since →
    passedNs s since (s.wdev.whLead * 1000) = true →
    exec (.htrReadySet h) s = .next (updWhead s h fun w => { w with htrReady := true })) ∧
  (∀ (s : State) (a : Act) (r : Run), live s = true → vddioUp s = true → s.wps[a].run = some r → r.phase = 0 →
    s.wps[a].ae = false → assistCode s a r = none →
    exec (.assistEnableRise a) s = .next (riseAssist s a r)) ∧
  (∀ (s : State) (a : Act) (r : Run) (c : Nat), live s = true → vddioUp s = true → s.wps[a].run = some r → r.phase = 0 →
    s.wps[a].ae = false → assistCode s a r = some c → exec (.assistEnableRise a) s = .next (refuseRun s a r c)) ∧
  (∀ (s : State) (a : Act) (r : Run), live s = true → vddioUp s = true → s.wps[a].run = some r → r.phase = 1 →
    s.wps[a].ae = true → s.wps[a].wg = false → gateCode s a r = none →
    exec (.writeGateOpen a) s = .next (openGate s a r) ∧ (openGate s a r).wps[a].wg = true) ∧
  (∀ (s : State) (a : Act) (r : Run) (c : Nat), live s = true → vddioUp s = true → s.wps[a].run = some r → r.phase = 1 →
    s.wps[a].ae = true → s.wps[a].wg = false → gateCode s a r = some c →
    exec (.writeGateOpen a) s = .next (refuseRun s a r c)) ∧
  (∀ (s : State) (a : Act) (r : Run), powered s = true → s.wps[a].run = some r → s.wps[a].wg = true →
    r.ended.length < r.ord.count → s.wps[a].buffer ≠ [] → r.orderly = none →
    (r.ord.count ≤ r.ended.length + 1 ∨ (endSector s a r).wps[a].buffer ≠ []) →
    exec (.writeSectorEnd a) s = .next (endSector s a r)) ∧
  (∀ (s : State) (a : Act) (r : Run) (c : Nat), powered s = true → s.wps[a].run = some r → s.wps[a].wg = true →
    r.ended.length < r.ord.count → s.wps[a].buffer ≠ [] → r.orderly = some c →
    exec (.writeSectorEnd a) s = .next (closeRun (endSector s a r) a c false 0)) ∧
  (∀ (s : State) (a : Act) (r : Run), powered s = true → s.wps[a].run = some r → s.wps[a].wg = true →
    r.ended.length + 1 < r.ord.count → s.wps[a].buffer ≠ [] → r.orderly = none → (endSector s a r).wps[a].buffer = [] →
    exec (.writeSectorEnd a) s = .next (closeRun (endSector s a r) a 0xB false 0)) ∧
  (∀ (s : State) (a : Act) (r : Run), powered s = true → s.wps[a].run = some r → s.wps[a].wg = true →
    r.ended.length + 1 < r.ord.count → s.wps[a].buffer.length ≤ 1 →
    exec (.writeUnderrun a) s = .next (orderlyClose s a 0xB)) ∧
  (∀ (s : State) (a : Act) (r : Run), powered s = true → s.wps[a].run = some r → s.wps[a].wg = true →
    r.ended.length = r.ord.count → exec (.writeRunEnd a) s = .next (closeRun s a 0 false 0)) ∧
  (∀ (s : State) (a : Act) (ctx slot st : Nat) (b : Band), live s = true → s.bw.started = false →
    bandOf s a ctx = some b → b.complete.contains slot = false → slotStatus s a b slot = some st → st = 1 ∨ st = 2 →
    b.closed = false → triesOf b slot < s.wps[a].par.lim.wrRetry →
    exec (.sectorRewrite a ctx slot) s = .next (updBand s a ctx fun x =>
      { x with tries := (slot, triesOf b slot + 1) :: x.tries.filter fun t => t.1 ≠ slot })) ∧
  (∀ (s : State) (a : Act) (ctx slot st : Nat) (b : Band), live s = true → s.bw.started = false →
    bandOf s a ctx = some b → b.complete.contains slot = false → slotStatus s a b slot = some st → st = 1 ∨ st = 2 →
    s.wps[a].par.lim.wrRetry ≤ triesOf b slot →
    exec (.sectorRewrite a ctx slot) s = .next (failedWrite s a ctx b)) ∧
  (∀ s : State, live s = true → s.bw.inhibit = false →
    exec .ffPersist s = .next (updNv s fun n => { n with tableFF := ffTables s })) ∧
  (∀ (s : State) (h : Hd), powered s = true → s.wheads[h].htrHold = true →
    ∃ t, exec (.heaterHoldEnd h) s = .next t ∧ t.wheads[h].htrHold = false ∧
      (∀ z : Zn, t.wheads[h].hz[z].backRead = true ∧ t.wheads[h].hz[z].backWrite = true) ∧
      t.hloops[h].heatStart = true ∧ (∀ k, h ≠ k → t.wheads[k] = s.wheads[k]) ∧ t.wps = s.wps) ∧
  (∀ (s : State) (h : Hd), powered s = true → s.wheads[h].contactRun = 0 →
    exec (.contactRearm h) s = .next (updWhead s h fun w => { w with contactArmed := true }))

/-- Write path messages (R203 to R212, R440). -/
def Obligations.WriteMessagesComplete : Prop :=
  (∀ (s s' : State) (r : Req) (head zone : Nat) (ps : Params), selHz s head zone ≠ [] →
    foldExcept (selHz s head zone) s (whzStep (applyPars wrpFormatPars (fun _ => []) ps)) = .ok s' →
    Completes (.wrpSetFormat r head zone ps) s r { opc := 0x0401, setter := true } s' []) ∧
  (∀ (s s' : State) (r : Req) (head zone : Nat) (ps : Params), selHz s head zone ≠ [] →
    ((ps.any fun e => e.1 = 0) = false ∨ s.sec.life = .manufacture ∨ s.sec.life = .ret) →
    foldExcept (selHz s head zone) s (whzStep (applyPars wrpAssistPars
      (fun x => [([4, 5], decide (x.2.2.atLimit + 10 ≤ x.2.2.atTrip))]) ps)) = .ok s' →
    Completes (.wrpSetAssist r head zone ps) s r { opc := 0x0402, need := needOf wrpAssistPars ps, setter := true } s' []) ∧
  (∀ (s s' : State) (r : Req) (head zone : Nat) (ps : Params), selHz s head zone ≠ [] →
    foldExcept (selHz s head zone) s (whzStep (applyPars wrpFhPars (fun _ => []) ps)) = .ok s' →
    Completes (.wrpSetFh r head zone ps) s r { opc := 0x0403, setter := true } s' []) ∧
  (∀ (s : State) (r : Req) (ps : Params) (l : WrpLimits),
    applyPars wrpLimitPars (fun l => [([5], s.guards.all fun g => decide (l.tSqz ≤ g.cfg.tOt))]) ps s.wdev.lim = .ok l →
    Completes (.wrpSetLimits r ps) s r { opc := 0x0404, setter := true } { s with wdev := { s.wdev with lim := l } } []) ∧
  (∀ (s s' : State) (r : Req) (head : Nat) (ps : Params), selHeads s head ≠ [] →
    foldExcept (selHeads s head) s (wearStep ps) = .ok s' →
    Completes (.wrpSetWear r head ps) s r { opc := 0x0405, setter := true } s' []) ∧
  (∀ (s s' : State) (r : Req) (a : Act) (d : BitVec 256) (c : Fin 16), fld d.toNat 0 75 = 0 →
    openBand s a (descOf d) = .ok (c, s') →
    Completes (.wrpOpenBand r a.val d) s r { opc := 0x0406, need := .db 4 } s' (leBytes 1 c.val)) ∧
  (∀ (s : State) (r : Req) (a : Act) (ctx : Nat) (b : Band), bandOf s a ctx = some b → runCtx s a ≠ ctx →
    Completes (.wrpCloseBand r a.val ctx) s r { opc := 0x0407, need := .db 4 } (freeBand s a ctx)
      ((bandWords b).flatMap fun w => leBytes w.1 w.2)) ∧
  (∀ (s : State) (r : Req) (a : Act),
    Completes (.wrpStop r a.val) s r { opc := 0x0408, need := .db 4 } (orderlyClose s a 0xC) []) ∧
  (∀ (s : State) (r : Req) (head : Nat) (h : Hd), selHead s head = some h →
    Completes (.wrpRelease r head) s r { opc := 0x0409 } (updHeadRec (updWhead s h fun w => { w with blocked := false }) h
      fun r => { r with releaseTimes := s.us :: r.releaseTimes }) []) ∧
  (∀ (s : State) (r : Req) (a : Act) (clear : BitVec 64),
    Completes (.wrpGetStatus r a.val clear) s r { opc := 0x040A, need := .rd } (updWp s a (wrpClear clear))
      (leBytes 4 (wrpStatus s a) ++ leBytes 4 (wrpTrip s.wps[a]))) ∧
  (∀ (s : State) (r : Req) (head : Nat) (h : Hd), selHead s head = some h →
    Completes (.wrpGetWear r head) s r { opc := 0x040B, need := .rd } s
      (leBytes 4 (wearOf s h) ++ leBytes 4 0 ++ leBytes 8 s.ctr.heads[h].assistUs ++ leBytes 8 s.ctr.heads[h].assistMj))

/-- Preamplifier and power-stage links, their events: PREAMP_DOWNSTREAM_FRAME (R221), PREAMP_UPSTREAM_FRAME (R217,
R220, R231), PSL_TX_FRAME (R226), PSL_RX_FRAME (R225, R231), REG_REQUEST_TIMEOUT (R228), LINK_TRAINING_TIMEOUT,
LINK_TRAINING_RETRY (R231), PREAMP_LINK_LOST (R232), PSL_LINK_LOST (R234). Link messages (R227, R228, R236 to R238).
A register access answers when the partner has (R423). -/
def Obligations.LinksComplete : Prop :=
  ((∀ (s : State) (a : Act), powered s = true → linkSends s.plks[a].l = true →
    ∃ t, exec (.preampDownstreamFrame a) s = .next t ∧ t.plks[a].l.txFseq = (s.plks[a].l.txFseq + 1) % 64 ∧
      (∃ f0 f1, t.plks[a].l.txFrames = [f0, f1] ∧ t.out = .plk a.val 1 f1 :: .plk a.val 0 f0 :: s.out) ∧
      (∀ b, a ≠ b → t.plks[b] = s.plks[b])) ∧
  (∀ (s : State) (a : Act) (f : BitVec 128), powered s = true → s.plks[a].l.st = .up →
    frameGood 0x4B s.plks[a].l f = true → exec (.preampUpstreamFrame a (some f)) s = .next (plkGood (tickReqs s a.val) a f)) ∧
  (∀ (s : State) (a : Act), powered s = true → linkSends s.plks[a].l = true → s.plks[a].l.st ≠ .up →
    exec (.preampUpstreamFrame a none) s = .next (updPlk (tickReqs s a.val) a fun p => { p with l := badFrame p.l })) ∧
  (∀ (s : State) (a : Act) (f : BitVec 128), powered s = true → s.plks[a].l.st = .train → s.plks[a].l.trainStep = 3 →
    s.plks[a].l.trainRun = 7 → frameIntact 0x4B f = true → frameType f = 0 →
    ∃ t, exec (.preampUpstreamFrame a (some f)) s = .next t ∧ t.plks[a].l.st = .up ∧ t.plks[a].l.trainStep = 0 ∧
      t.plks[a].noWrite = false ∧ t.plks[a].l.wait = [{ addr := 0 }, { addr := 1 }, { addr := 2 }]) ∧
  (∀ s : State, powered s = true → linkSends s.psl.l = true →
    ∃ t, exec .pslTxFrame s = .next t ∧ t.psl.l.txFseq = (s.psl.l.txFseq + 1) % 64 ∧
      (∃ f, t.psl.l.txFrames = [f] ∧ t.out = .psl f :: s.out) ∧
      t.psl.vseq = (if s.psl.vcmNew then (s.psl.vseq + 1) % 16 else s.psl.vseq)) ∧
  (∀ (s : State) (f : BitVec 128), powered s = true → s.psl.l.st = .up → frameGood 0x8D s.psl.l f = true →
    exec (.pslRxFrame (some f)) s = .next (regResponse
      (updSpn (updPsl (tickReqs s 4) (pslFields (frameRaw f) f)) (busReading (5 * fld (frameRaw f) 16 12))) 4 (fld (frameRaw f) 98 8)
      (bitAt (frameRaw f) 97) (fld (frameRaw f) 96 1) (fld (frameRaw f) 94 2))) ∧
  (∀ s : State, powered s = true → linkSends s.psl.l = true →
    exec (.pslRxFrame none) s = .next (updPsl (tickReqs s 4) fun p => { p with l := badFrame p.l })) ∧
  (∀ (s : State) (link tag : Nat) (q : RegReq), powered s = true → (linkOf s link).st = .up →
    ((linkOf s link).reqs.find? fun x => decide (x.tag = tag) && x.sent) = some q → 8 ≤ q.frames → q.tries < s.lnk.regRetry →
    exec (.regRequestTimeout link tag) s = .next (updLink s link fun l => { l with reqs := l.reqs.map fun x =>
      if x.tag = q.tag then { x with tries := x.tries + 1, sent := false, frames := 0 } else x })) ∧
  (∀ (s : State) (link tag : Nat) (q : RegReq), powered s = true → (linkOf s link).st = .up →
    ((linkOf s link).reqs.find? fun x => decide (x.tag = tag) && x.sent) = some q → 8 ≤ q.frames → s.lnk.regRetry ≤ q.tries →
    exec (.regRequestTimeout link tag) s =
      .next (endReq (updLink s link fun l => { l with regTimeout := true }) link q 0x000F 0 0)) ∧
  (∀ (s : State) (link : Nat), powered s = true → link < 5 → (linkOf s link).trainStep ≠ 0 →
    (linkOf s link).st = .train → (linkOf s link).attempts < 2 →
    exec (.linkTrainingTimeout link) s =
      .next (updLink s link fun l => trainStart { l with attempts := l.attempts + 1 })) ∧
  (∀ (s : State) (a : Act), powered s = true → s.plks[a].l.trainStep ≠ 0 → s.plks[a].l.st = .train →
    2 ≤ s.plks[a].l.attempts →
    exec (.linkTrainingTimeout a.val) s = .next (report (updPlk s a fun p => { p with l := { p.l with
      st := .fail, trainFail := true, trainStep := 0, trainRun := 0, attempts := 3, failSince := some s.us } })
      (0x02, a.val) .trainFail 2 0x09 a.val a.val)) ∧
  (∀ (s : State) (link : Nat), powered s = true → link < 5 → (linkOf s link).st = .fail →
    (linkOf s link).trainStep = 0 → exec (.linkTrainingRetry link) s = .next (updLink s link trainStart)) ∧
  (∀ (s : State) (a : Act), powered s = true → s.plks[a].l.st = .up → 3 ≤ s.plks[a].l.badRun →
    exec (.preampLinkLost a) s = .next (plkLose s a)) ∧
  (∀ s u : State, powered s = true → s.psl.l.st = .up → 4 ≤ s.psl.l.badRun →
    (report (endAllReqs (updPsl s fun p => { p with lossUs := s.us, l := { p.l with st := .down, loss := true, lost := true } }) 4)
      (0x07, 0) .pslLoss 2 0x0A 0 s.psl.l.badTotal) = u → s.bw.started = false →
    exec .pslLinkLost s = .next (startBreakwater u 6))) ∧
  ((∀ (s : State) (r : Req) (a : Act) (clear : BitVec 64),
    Completes (.plkGetStatus r a.val clear) s r { opc := 0x0902, need := .rd } (updPlk s a (plkClear clear))
      (leBytes 4 (plkStatus s.plks[a]))) ∧
  (∀ (s : State) (r : Req) (clear : BitVec 64),
    Completes (.pslGetStatus r clear) s r { opc := 0x0903, need := .rd } (updPsl s (pslClear clear))
      (leBytes 4 (pslStatus s.psl))) ∧
  (∀ (s : State) (r : Req) (a : Act) (op addr data : Nat), op = 1 ∨ op = 2 → addr ≤ 4095 → data ≤ 65535 →
    s.plks[a].l.st = .up →
    Defers (.plkRegAccess r a.val op addr data) s r { opc := 0x0904, need := if op = 1 then .db 2 else .rd }
      (updPlk s a fun p => { p with l := { p.l with wait := p.l.wait ++
        [{ write := decide (op = 1), addr := addr, data := data, mb := some r.mb }] } })) ∧
  (∀ (s : State) (r : Req) (op addr data : Nat), op = 1 ∨ op = 2 → addr ≤ 255 → data ≤ 255 → s.psl.l.st = .up →
    Defers (.pslRegAccess r op addr data) s r { opc := 0x0905, need := if op = 1 then .db 2 else .rd }
      (updPsl s fun p => { p with l := { p.l with wait := p.l.wait ++
        [{ write := decide (op = 1), addr := addr, data := data, mb := some r.mb }] } })) ∧
  (∀ (s : State) (k data tag : Nat) (tg : Bool) (q : RegReq) (mb : Mb),
    ((linkOf s k).reqs.find? fun x => decide (x.tag = tag) && decide (x.toggle = tg)) = some q → q.mb = some mb →
    regResponse s k data tg tag 1 = lateAnswer (updLink s k fun l =>
      { l with reqs := l.reqs.filter fun x => x.tag ≠ q.tag }) mb 0 0 (leBytes (regBytes k) data)) ∧
  (∀ (s : State) (r : Req) (ps : Params) (p : LnkPar),
    applyPars [parN 0 7 fun v (p : LnkPar) => { p with regRetry := v }] (fun _ => []) ps s.lnk = .ok p →
    Completes (.lnkSetLimits r ps) s r { opc := 0x0906, setter := true } { s with lnk := p } []) ∧
  (∀ (s : State) (r : Req) (ps : Params) (p : PsLink), applyPars safePars (fun _ => []) ps s.psl = .ok p →
    Completes (.pslSetSafe r ps) s r { opc := 0x0B02, setter := true }
      (pslWrite (pslWrite (pslWrite { s with psl := p } 0x10 p.retractV) 0x11 p.retractT) 0x13 p.psUv) []))

/-- Berth events: STRIPE_DESTAGE_START, PARITY_ENGINE_DONE, MANIFEST_ENTRY_RECORDED (R243, R245, R255),
MEMBER_STRIP_COMPLETE (R255, R257), LOG_STRIPE_AGED (R261), DREDGE_START, DREDGE_VICTIM_DONE (R265, R266),
PATROL_STRIPE_CHECK (R269, R270), CHECKPOINT_START, CHECKPOINT_COMMIT (R271). -/
def Obligations.BerthEventsComplete : Prop :=
  (∀ (s : State) (berth stripe : Nat) (b : Berth) (k : Fin 4), live s = true → s.bw.started = false →
    berthAt s berth = some b →
    (roundRobin 4 s.brt.parityPtr fun k => if h : k < 4 then s.brt.parity[(⟨k, h⟩ : Fin 4)].isNone else false) = some k.val →
    s.brt.destage.contains (berth, stripe) = true →
    (s.brt.destage.any fun x => decide (x.1 = berth) && decide (x.2 < stripe)) = false →
    s.brt.parityBufs + layK b.layout ≤ 1024 →
    ∃ t, exec (.stripeDestageStart berth stripe) s = .next t ∧ t.brt.parity[k] = some (berth, stripe) ∧
      t.brt.destage = s.brt.destage.erase (berth, stripe) ∧ t.brt.parityBufs = s.brt.parityBufs + layK b.layout ∧
      t.brt.parityPtr = (k.val + 1) % 4) ∧
  (∀ (s : State) (e : Fin 4) (x : Nat × Nat) (b : Berth), powered s = true → s.brt.parity[e] = some x →
    berthAt s x.1 = some b →
    exec (.parityEngineDone e) s = .next (recordEntry (updBrt s fun t =>
      { t with parity := vupd t.parity e fun _ => none, ready := t.ready ++ [x],
               pbufs := t.pbufs ++ [(x.1, x.2, stripeParity s b x.2)] }))) ∧
  (∀ (s : State) (slot : Nat) (m : ManEnt) (b : Berth), live s = true → s.bw.started = false → manAt s slot = some m →
    m.st = 1 → berthAt s m.berth = some b →
    exec (.manifestEntryRecorded slot) s = .next (restartMoved (forEach
      ((List.range (layN b.layout)).filter fun j => !m.done.contains j) (updMan s slot fun x => { x with st := 2 })
      (startStrip slot)))) ∧
  (∀ (s : State) (slot member energyNj actUs : Nat) (m : ManEnt) (a : Act) (o : PilotOp) (b : Berth), powered s = true →
    manAt s slot = some m → stripOp s slot member = some (a, o) → m.st = 2 → stripDone o = true →
    m.done.contains member = false → berthAt s m.berth = some b →
    exec (.memberStripComplete slot member energyNj actUs) s = .next (
      let s1 := updCmds s fun c => { c with pilots := vupd c.pilots a fun p => endEntry p o.id 0 actUs }
      retryHeld (setDone (match (writeChain s1 b member m.stripe).getLast? with
        | some g => countStrip s1 g m.stripe
        | none => s1) m b member (o.energy + energyNj) actUs) a)) ∧
  (∀ (s : State) (kind layout : Nat), live s = true → s.bw.started = false → (builderOf s kind layout).blocks ≠ [] →
    (builderOf s kind layout).since + 1000 * s.brtPar.logAge ≤ s.us →
    exec (.logStripeAged kind layout) s = .next (closeStripe s (builderOf s kind layout))) ∧
  (∀ (s : State) (b : Berth), live s = true → s.bw.started = false → s.brt.victim = none → dredgeWanted s = true →
    chooseVictim s = some b →
    exec .dredgeStart s = .next (forEach (s.tbl.chart.filter fun e => !e.cached && decide (e.loc / 2 ^ 18 = b.id))
      (updBrt (updBerth s b.id fun x => { x with st := .dredging }) fun e =>
        { e with dredge := true, dredgeCrit := convHeld s, victim := some b.id }) (dredgeRead b))) ∧
  (∀ (s s1 : State) (b : Berth), live s = true → s.brt.victim.bind (berthAt s) = some b → b.live = 0 →
    berthRead s b.id = false → (updBrt (releaseBerth s b.id) fun e => { e with victim := none }) = s1 →
    exec .dredgeVictimDone s = .next (reshapeEnd (updBrt s1 fun e =>
      { e with dredge := fBelow s1 (s1.brtPar.dredgeLow + 2), dredgeCrit := convHeld s1 }))) ∧
  (∀ (s : State) (berth stripe : Nat) (rows : List (Nat × List (Option (List Byte)))) (b : Berth), live s = true →
    s.bw.started = false → rebuilding s = false → berthAt s berth = some b → visitNext s (berth, stripe) = true →
    visitLt (berth, stripe) (s.brt.patrolBerth, s.brt.patrolStripe) = false →
    exec (.patrolStripeCheck berth stripe rows) s =
      .next (nextVisit (patrolCheck b stripe rows (updBrt s fun e => { e with patrol := true })) berth stripe)) ∧
  (∀ (s : State) (berth stripe : Nat) (rows : List (Nat × List (Option (List Byte)))) (b : Berth), live s = true →
    s.bw.started = false → rebuilding s = false → berthAt s berth = some b → visitNext s (berth, stripe) = true →
    visitLt (berth, stripe) (s.brt.patrolBerth, s.brt.patrolStripe) = true →
    exec (.patrolStripeCheck berth stripe rows) s =
      .next (nextVisit (patrolCheck b stripe rows (updBrt (lapDone s) fun e => { e with patrol := true })) berth stripe)) ∧
  (∀ s : State, live s = true → s.bw.started = false → s.brt.ckptRun = false →
    (freeMan s < 256 ∨ s.brt.ckptStart + 1000 * s.brtPar.ckptMs ≤ s.us) →
    exec .checkpointStart s =
      .next { updBrt s fun e => { e with ckptRun := true, ckptStart := s.us } with ckptPend := some s.tbl }) ∧
  (∀ (s : State) (p : Tables), powered s = true → s.bw.started = false → s.ckptPend = some p →
    exec (.checkpointCommit true true) s = .next (ckptCommit s p [0, 1] false)) ∧
  (∀ (s : State) (p : Tables), powered s = true → s.bw.started = false → s.ckptPend = some p →
    ckptHeadGone s 1 = true → exec (.checkpointCommit true false) s = .next (ckptCommit s p [0] true))

/-- Berth messages (R240, R249, R250, R253, R271, R273, R274, R441). Rebuild messages (R275, R276, R282, R285, R293,
R294, R298, R302 to R304). BRT_SET_HEALTH and BRT_SET_REBUILD set what takes effect at the next share window. -/
def Obligations.BerthAndRebuildMessagesComplete : Prop :=
  ((∀ (s : State) (r : Req) (layout : Nat), layout ≤ 2 → layoutNeed s layout = true →
    Completes (.brtSetLayout r 0 layout) s r { opc := 0x0501, setter := true }
      { s with brtPar := { s.brtPar with defLayout := layout } } []) ∧
  (∀ (s : State) (r : Req) (nsid layout : Nat) (n : Ns), layout ≤ 2 → layoutNeed s layout = true → nsid ≠ 0 →
    (s.nv.namespaces.find? fun n => n.nsid = nsid) = some n → n.attached = [] → nsEmpty s nsid = true →
    Completes (.brtSetLayout r nsid layout) s r { opc := 0x0501, setter := true }
      (updNv s fun v => { v with namespaces := v.namespaces.map fun x =>
        if x.nsid = nsid then { x with layout := layout } else x }) []) ∧
  (∀ (s : State) (r : Req) (ps : Params) (p : BrtPar),
    ((ps.any fun e => e.1 = 1) = false ∨ s.sec.life = .manufacture ∨ s.sec.life = .ret) →
    applyPars brtPars (fun p => [([5, 6], decide (p.dredgeCrit + 1 ≤ p.dredgeLow))]) ps s.brtPar = .ok p →
    Completes (.brtSetLimits r ps) s r { opc := 0x0502, need := needOf brtPars ps, setter := true }
      { s with brtPar := p } []) ∧
  (∀ (s : State) (r : Req) (ps : Params) (p : BrtPar),
    applyPars [parN 0 20 fun v (p : BrtPar) => { p with patrolShare := v }, parN 0 100 fun v p => { p with patrolIdle := v }]
      (fun _ => []) ps s.brtPar = .ok p →
    Completes (.brtSetPatrol r ps) s r { opc := 0x0503, setter := true } { s with brtPar := p } []) ∧
  (∀ (s : State) (r : Req) (ps : Params) (p : BrtPar),
    ((ps.any fun e => e.1 ≠ 0) = false ∨ s.sec.life = .manufacture ∨ s.sec.life = .ret) →
    applyPars ckptPars (fun p => [([1, 2], decide (actOf s p.ckptHeadA ≠ actOf s p.ckptHeadB) &&
      inDrive s p.ckptHeadA && inDrive s p.ckptHeadB)]) ps s.brtPar = .ok p →
    Completes (.brtSetCkpt r ps) s r { opc := 0x0504, need := needOf ckptPars ps, setter := true }
      { s with brtPar := p } []) ∧
  (∀ (s : State) (r : Req), s.brt.ckptRun = false →
    Begins (.brtCheckpoint r) s r { opc := 0x0505, long := true }
      { updBrt s fun e => { e with ckptMbs := e.ckptMbs ++ [(r.mb, r.seq)], ckptRun := true, ckptStart := s.us } with
        ckptPend := some s.tbl }) ∧
  (∀ (s : State) (r : Req), s.brt.ckptRun = true →
    Begins (.brtCheckpoint r) s r { opc := 0x0505, long := true }
      (updBrt s fun e => { e with ckptMbs := e.ckptMbs ++ [(r.mb, r.seq)] })) ∧
  (∀ (s : State) (r : Req) (berth skip : Nat) (b : Berth) (gs : List Seg), berthAt s berth = some b →
    (List.range (layN b.layout)).flatMap (memberSegs s b) = gs →
    Completes (.brtGetBerth r berth skip) s r { opc := 0x0506, need := .rd } s
      (berthBytes b ++ leBytes 2 gs.length ++ leBytes 2 ((gs.drop skip).take 60).length ++
        ((gs.drop skip).take 60).flatMap segBytes)) ∧
  (∀ (s : State) (r : Req) (clear : BitVec 64),
    Completes (.brtGetStatus r clear) s r { opc := 0x0507, need := .rd } (updBrt s (brtClear clear))
      (leBytes 4 (brtStatus s) ++ leBytes 4 (fReport s) ++ leBytes 4 s.brt.lapHours ++ leBytes 4 (freeMan s)))) ∧
  ((∀ (s : State) (r : Req) (h : Hd), inDrive s h = true → s.tbl.heads[h] ≠ .inService →
    Completes (.brtSetHead r h.val 0) s r { opc := 0x0508, need := .fa, setter := true } (serveHead s h) []) ∧
  (∀ (s : State) (r : Req) (h : Hd) (state : Nat), inDrive s h = true → state = 1 ∨ state = 2 →
    mayDeclare s.tbl.heads[h] (headStateOf state) = true →
    Completes (.brtSetHead r h.val state) s r { opc := 0x0508, need := .cf, setter := true }
      (declareHead s h 8 (headStateOf state) 2) []) ∧
  (∀ (s : State) (r : Req) (h : Hd), inDrive s h = true → s.tbl.heads[h] = .failed →
    TurnsAway (.brtSetHead r h.val 1) s r { opc := 0x0508, need := .cf, setter := true } 0x000B 0) ∧
  (∀ (s : State) (r : Req) (ps : Params) (p : RbldPar),
    applyPars [parN 1 16 fun v (p : RbldPar) => { p with headAcqMax := v },
        parN 1 65535 fun v p => { p with headUncMax := v }, parN 64 65535 fun v p => { p with relocFail := v },
        parN 1 16 fun v p => { p with releaseMax := v }, parN 1 64 fun v p => { p with actSeekMax := v },
        parB fun v p => { p with weakReloc := v }] (fun _ => []) ps s.rbld.parNext = .ok p →
    Completes (.brtSetHealth r ps) s r { opc := 0x0509, setter := true } (updRbld s fun e => { e with parNext := p }) []) ∧
  (∀ (s : State) (r : Req) (ps : Params) (p : RbldPar),
    applyPars [parN 8 256 fun v (p : RbldPar) => { p with relocTracks := v },
        parN 1 50 fun v p => { p with rebuildFloor := v }, parN 1 100 fun v p => { p with rebuildCrit := v },
        parN 0 50 fun v p => { p with reshapeShare := v }, parN 1 16 fun v p => { p with reshapePar := v }]
      (fun p => [([1, 2], decide (p.rebuildFloor ≤ p.rebuildCrit))]) ps s.rbld.parNext = .ok p →
    Completes (.brtSetRebuild r ps) s r { opc := 0x050A, setter := true } (updRbld s fun e => { e with parNext := p }) []) ∧
  (∀ (s : State) (r : Req) (layout nsid : Nat) (n : Ns), layout ≤ 2 → layoutNeed s layout = true →
    nsAt s nsid = some n → (s.tbl.reshapes.any fun x => !x.move && decide (x.target = nsid)) = false →
    growth s n layout ≤ (allHeads.filter (headWritable s)).foldl (fun a h => a + freeSlots s h) 0 →
    Begins (.brtReshape r 0 layout nsid) s r { opc := 0x050B, long := true }
      (fillReshapes (updTbl (updNv s fun v => { v with namespaces := v.namespaces.map fun x =>
          if x.nsid = nsid then { x with layout := layout } else x }) fun t =>
        { t with reshapes := t.reshapes ++ [{ move := false, target := nsid, layout := layout, mb := some (r.mb, r.seq) }] }))) ∧
  (∀ (s : State) (r : Req) (layout nsid : Nat) (n : Ns), layout ≤ 2 → layoutNeed s layout = true →
    nsAt s nsid = some n → (s.tbl.reshapes.any fun x => !x.move && decide (x.target = nsid)) = false →
    (allHeads.filter (headWritable s)).foldl (fun a h => a + freeSlots s h) 0 < growth s n layout →
    TurnsAway (.brtReshape r 0 layout nsid) s r { opc := 0x050B, long := true } 0x0011 0) ∧
  (∀ (s : State) (r : Req) (berth : Nat) (clear : BitVec 64),
    Completes (.brtGetRebuild r berth clear) s r { opc := 0x050C, need := .rd } (updRbld s (rbldClear clear))
      (leBytes 4 (rbldStatus s) ++ leBytes 4 ((s.tbl.rblds.filter fun e => decide (e.berth = berth)).take 18).length ++
        ((s.tbl.rblds.filter fun e => decide (e.berth = berth)).take 18).flatMap rbldBytes)) ∧
  (∀ (s : State) (r : Req) (nsid start : Nat) (n : Ns), nsAt s nsid = some n →
    Completes (.brtGetLost r nsid start) s r { opc := 0x050D, need := .rd } s
      (leBytes 4 (lostLbas s nsid).length ++ leBytes 4 (((lostLbas s nsid).drop start).take 250).length ++
        (((lostLbas s nsid).drop start).take 250).flatMap (leBytes 8))) ∧
  (∀ (s : State) (r : Req) (index : Nat), index < 262144 →
    Completes (.brtGetReloc r index) s r { opc := 0x050E, need := .rd } s
      (leBytes 4 (min 120 (262144 - index)) ++ (List.range (min 120 (262144 - index))).flatMap fun k =>
        match s.tbl.relocs.find? fun r => r.id = index + k with | some r => relocBytes r | none => leBytes 16 0)) ∧
  (∀ (s : State) (r : Req) (h : Hd), inDrive s h = true →
    Completes (.brtGetHead r h.val) s r { opc := 0x050F, need := .rd } s
      (leBytes 4 (packF [(30, 2, headCode s.tbl.heads[h]), (26, 4, s.tbl.reasons[h])]))))

/-- Rebuild events: HEAD_DECLARED (R275, R276), ACTUATOR_DECLARED_FAILED (R277), REBUILD_ENTRY_CREATE (R278, R283),
REBUILD_ENTRY_START (R283, R289), REBUILD_STRIPE_COMPLETE, COPY_SWITCH (R287, R288), RELOCATION (R281, R282),
CHECKPOINT_HEAD_MOVE (R297), RESHAPE_SWITCH (R299), SHARE_WINDOW (R290, R304). -/
def Obligations.RebuildEventsComplete : Prop :=
  (∀ (s : State) (h : Hd) (reason : Nat), live s = true → inDrive s h = true → headTrigger s h reason = true →
    exec (.headDeclared h reason) s = .next (declareHead s h reason
      (if reason = 4 ∨ reason = 5 ∨ reason = 6 then .writeRetired else .failed) (if reason = 7 then 3 else 2))) ∧
  (∀ (s : State) (a : Act), live s = true → s.actRecs[a].failed = false → actTrigger s a = true →
    ∃ u t, exec (.actuatorDeclaredFailed a) s = .next t ∧
      t = forEach (headsOf s a) u (fun s h => declareHead s h 7 .failed 3) ∧ u.actRecs[a].failed = true ∧
      u.acts[a].mode = .parked ∧ u.acts[a].vcmCmd = 0 ∧ u.psl.ven[a] = false ∧ u.psl.vcm[a] = 0 ∧
      u.rbld.actFailed = true) ∧
  (∀ (s : State) (h : Hd), live s = true → s.tbl.heads[h] ≠ .inService →
    exec (.rebuildEntryCreate h) s = .next (forEach (berthsOn s h) s fun s b =>
      forEach ((List.range (layN b.layout)).filter fun j => decide (memberHead s b j = some h)) s fun s j =>
        addEntry s b j h (decide (s.tbl.heads[h] = .writeRetired)))) ∧
  (∀ (s : State) (e : Nat) (x : Rbld) (b : Berth) (h : Hd) (w : Nat × Nat), live s = true → s.bw.started = false →
    entryAt s e = some x → berthAt s x.berth = some b → x.st = 1 → replacement s b x = some (h, w) →
    goesFirst s x = true → ((activeBerths s).contains b.id || decide ((activeBerths s).length < 8)) = true →
    exec (.rebuildEntryStart e) s = .next (activate (updRbld s fun r => { r with noSpace := false }) b x h w)) ∧
  (∀ (s : State) (e : Nat) (x : Rbld) (b : Berth), live s = true → s.bw.started = false →
    entryAt s e = some x → berthAt s x.berth = some b → x.st = 1 → replacement s b x = none →
    exec (.rebuildEntryStart e) s = .next (updRbld s fun r => { r with noSpace := true })) ∧
  (∀ (s s1 : State) (e : Nat) (x : Rbld) (b : Berth) (lost : List (Nat × List Nat)) (suspect : List Nat)
      (energyNj actUs : Nat), live s = true → s.bw.started = false → entryAt s e = some x → berthAt s x.berth = some b →
    x.st = 2 → x.progress < x.start → workLeft s 1 b.id (fun o => decide (o.n = 64 * x.progress)) = false →
    recordRebuilt s b x x.progress = some s1 →
    exec (.rebuildStripeComplete e lost suspect energyNj actUs) s = .next (
      let s2 := updSeg s1 x.replSeg fun g => { g with countN := max g.countN (64 * (x.progress + 1)), lastUse := s.us }
      let s3 := rebuildFindings s2 b x x.progress lost suspect
      let s4 := tallyBgEnergy (tallyBg s3 fun r => { r with actWrite := r.actWrite + actUs }) energyNj
      let s5 := updEntry s4 e fun y => { y with progress := x.progress + 1 }
      match entryAt s5 e, berthAt s5 b.id with
      | some y, some c =>
        if y.st ≠ 2 then s5
        else if y.progress < y.start then queueRebuild s5 c y y.progress
        else if y.copy then s5 else switchMember s5 c y
      | _, _ => s5)) ∧
  (∀ (s : State) (e : Nat) (x : Rbld) (b : Berth), live s = true → s.bw.started = false → entryAt s e = some x →
    berthAt s x.berth = some b → x.st = 2 → x.copy = true → x.progress = x.start →
    exec (.copySwitch e) s = .next (switchMember s b x)) ∧
  (∀ (s s1 : State) (berth member n : Nat) (b : Berth) (h : Hd) (p : Spare), live s = true → s.bw.started = false →
    berthAt s berth = some b → memberHead s b member = some h → s.rbld.relocPend.contains (berth, member, n) = true →
    s.tbl.heads[h] = .inService →
    (otherRelocs s berth member n).length < 262144 → openSpare s h = some (p, s1) →
    rowLostAt s berth (n / 64) (n % 64) member = false →
    exec (.relocation berth member n) s =
        .next (freeSpares (relocTaken (placeReloc s1 p berth member n h) berth member n)) ∧
      (placeReloc s1 p berth member n h).tbl.relocs = otherRelocs s1 berth member n ++
        [{ id := lowestFree ((otherRelocs s1 berth member n).map (·.id)), berth := berth, member := member, n := n,
           head := h, track := p.first + p.used / max (slotsAt s1 h p.first) 1,
           slot := p.used % max (slotsAt s1 h p.first) 1, gen := p.gen }]) ∧
  (∀ (s s1 : State) (berth member n : Nat) (b : Berth) (h : Hd) (p : Spare), live s = true → s.bw.started = false →
    berthAt s berth = some b → memberHead s b member = some h → s.rbld.relocPend.contains (berth, member, n) = true →
    s.tbl.heads[h] = .inService →
    (otherRelocs s berth member n).length < 262144 → openSpare s h = some (p, s1) →
    rowLostAt s berth (n / 64) (n % 64) member = true →
    exec (.relocation berth member n) s =
        .next (markUnread (freeSpares (relocTaken (placeReloc s1 p berth member n h) berth member n)) b [member] n)) ∧
  (∀ s : State, live s = true → s.bw.started = false →
    exec .checkpointHeadMove s = .next (moveCkpt (moveCkpt s 0) 1)) ∧
  (∀ (s : State) (berth nb : Nat) (r : Reshape) (old : Berth), live s = true → s.bw.started = false →
    (s.tbl.reshapes.find? fun r => decide (r.oldBerth = some berth)) = some r → berthAt s berth = some old →
    r.newBerth = some nb → r.move = false → reshapeTotal s r ≤ r.copied → workLeft s 3 berth (fun _ => true) = false →
    exec (.reshapeSwitch berth) s = .next (
      let s1 := updBerth s nb (reshapedBerth old r)
      let s2 := settleSegs s1 nb (match berthAt s1 nb with | some b => b.wstripe | none => 0)
      reshapeEnd (fillReshapes (updTbl (releaseBerth (pointTo s2 berth nb) berth) fun t =>
        { t with reshapes := t.reshapes.erase r })))) ∧
  (∀ (s : State), live s = true → ∃ u, exec .shareWindow s = .next (reshapeEnd (fillReshapes u)) ∧
    u.rbld.par = s.rbld.parNext ∧ ∀ a : Act, u.cmds.pilots[a].used = [] ∧ u.cmds.pilots[a].winUs = s.us)

/-- The Quay's queue events, NVMe personality: SQ_TAIL_DOORBELL, CQ_HEAD_DOORBELL, DOORBELL_FIFO_APPLY (R314, R357,
R358), MOORING_FILL (R313), ARBITER_GRANT (R315, R316, R318), SQ_ENTRY_RETURN (R317, R324, R329, R340),
ORDER_WAIT_RELEASE (R341), COMPLETION_POST (R15, R338), CAP_WINDOW (R319), TALLY_MINUTE_CLOSE (R333 to R335). -/
def Obligations.QueueEventsComplete : Prop :=
  (∀ (s : State) (f : Fn) (qid value : Nat) (m : Mooring), nvmeUp s = true → s.quay.par.full = false → qid < 65536 →
    value < 2 ^ 32 → checkDb s { func := f, qid := qid, value := value } = .ok m →
    exec (.sqTailDoorbell f qid value) s =
      .next (refresh (updMoor s f qid fun m => { m with sqTail := value }))) ∧
  (∀ (s : State) (f : Fn) (qid value : Nat), nvmeUp s = true → s.quay.par.full = false → qid < 65536 →
    value < 2 ^ 32 → checkDb s { func := f, qid := qid, value := value } = .wrong →
    exec (.sqTailDoorbell f qid value) s = .next (violate s f qid value 1)) ∧
  (∀ (s : State) (f : Fn) (qid value : Nat) (m : Mooring), nvmeUp s = true → s.quay.par.full = false → qid < 65536 →
    value < 2 ^ 32 → checkDb s { func := f, qid := qid, cq := true, value := value } = .ok m →
    exec (.cqHeadDoorbell f qid value) s =
      .next (refresh (updMoor s f qid fun m => { m with cqHead := value }))) ∧
  (∀ (s : State) (p : Fin 2) (d : DbWrite), nvmeUp s = true → s.quay.fifos[p] = [d] → moorReady s d.func d.qid = true →
    exec (.doorbellFifoApply p) s =
      .next (applyDb (updQuay s fun q => { q with fifos := vupd q.fifos p fun _ => [] }) d)) ∧
  (∀ (s : State) (f : Fn) (qid : Nat) (m : Mooring), nvmeUp s = true → s.quay.par.full = true →
    s.quay.cache.contains (f, qid) = false → moorAt s f qid = some m →
    exec (.mooringFill f qid false) s = .next (refresh (drainFifo (touchMoor s f qid) (portOf s f))) ∧
    exec (.mooringFill f qid true) s = .next (refresh (drainFifo (poisonMoor (touchMoor s f qid) f qid) (portOf s f)))) ∧
  (∀ (s : State) (f : Fn), s.quay.sas = false → chooseFn (refresh s) = some f →
    exec .arbiterGrant s = .next (grantNvme (refresh s) f)) ∧
  (∀ (s : State) (f : Fn) (m : Mooring) (y : Func) (t : Tag), chooseQueue s f = some (m, y) → nextTag s = some t →
    grantNvme s f =
      (let g := grantedQueue y m
       let s1 := entryTag (updFn s f fun _ => { g.1 with fetched := g.1.fetched + 1 }) f m.qid t
       let s2 := updMoor (touchMoor s1 f m.qid) f m.qid fun x =>
         { x with sqFetch := (m.sqFetch + 1) % (m.sqSize + 1), inflight := x.inflight + 1, granted := g.2 }
       refresh (emit (updQuay (noteGrant s2 f) fun q => { q with grants := q.grants ++ [(f, m.qid)] })
         (.fetch f.val m.qid m.sqFetch)))) ∧
  (∀ (s s1 : State) (c : HostCmd) (f : Fn) (q : Nat) (rest : List (Fn × Nat)) (r r1 : TagRec), powered s = true →
    s.bw.started = false → s.quay.grants = (f, q) :: rest →
    (s.cmds.tags.find? fun r => decide (r.func = f) && decide (r.qid = q) && r.await) = some r →
    { r with cmd := c, cid := c.cid, await := false } = r1 →
    knowCmd (updTag (updQuay s fun x => { x with grants := rest }) r.tag fun _ => r1) r1 = s1 →
    exec (.sqEntryReturn c) s = .next (refresh (if (if q = 0 then adminOps.contains c.opc else ioOps.contains c.opc) then s1
      else finish s1 r.tag (stG 0x01)))) ∧
  (∀ (s : State) (t : Tag) (r : TagRec), tagAt s t = some r → released s r = true →
    exec (.orderWaitRelease t) s = .next (act s r)) ∧
  (∀ (s : State) (t : Tag) (r : TagRec) (st : St) (m : Mooring), live s = true → s.bw.started = false →
    s.quay.sas = false → tagAt s t = some r → r.status = some st → r.stage = 5 → r.noPost = false →
    moorAt s r.func r.qid = some m → m.cqMade = true → moorReady s r.func r.qid = true →
    (m.cqTail + 1) % (m.cqSize + 1) ≠ m.cqHead →
    exec (.completionPost t) s = .next (refresh (endTasks (releaseTag
      (countPosted (tallyPost (postCqe s r m st) r (decide (st.1 = 0))) r) t)))) ∧
  (∀ (s : State) (t : Tag) (r : TagRec) (st : St), live s = true → s.bw.started = false → s.quay.sas = true →
    tagAt s t = some r → r.status = some st → r.stage = 5 → r.noPost = false →
    exec (.completionPost t) s = .next (refresh (endTasks (releaseTag (countPosted
      (tallyPost (emit s (.sasResp r.func.val r.cid (sasOf st.1))) r (decide (st.1 = 0))) r) t)))) ∧
  (∀ s : State, powered s = true → exec .capWindow s = .next (refresh (updQuay s fun q =>
    { q with funcs := q.funcs.map fun x => { x with mtUsed := 0 } }))) ∧
  (∀ s : State, powered s = true → ∃ t, exec .tallyMinuteClose s = .next t ∧ t.quay.tally.suspectMin = false ∧
    t.quay.tally.cutDue = false ∧ t.quay.tally.startMs = (calNow s).getD 0 ∧
    t.quay.tally.startValid = s.aon.calendar.isSome ∧
    t.quay.tally.rings = (allRings (s.quay.funcs.foldl addHeld s)).map
      (closeRing (s.quay.funcs.foldl addHeld s) (s.quay.funcs.foldl addHeld s).quay.tally.cutDue))

/-- The command engines' events: HOST_DATA_RECEIVED (R13, R326, R367), WRITE_INDEX_ACK (R14, R342, R348),
HELD_WRITE_RELEASE (R252), PILOT_ENTRY, PILOT_DISPATCH (R346, R347), MEDIA_OPERATION_END (R320, R343),
SWEPT_COMMAND_END, DELETE_SQ_COMPLETE (R352). -/
def Obligations.CommandEventsComplete : Prop :=
  (∀ (s : State) (t : Tag) (r : TagRec) (data pi : List Byte) (n : Ns) (bs : List CBlock), powered s = true →
    s.bw.started = false → tagAt s t = some r → r.stage = 3 → r.latch = false →
    [IoOp.write, .append].contains (opOf s r) = true → 0 < data.length / 4096 → data.length % 4096 = 0 →
    r.fetchedBlks + data.length / 4096 ≤ nlbOf s.quay.sas r.cmd → nsAt s (nsidOf s r) = some n →
    pondBlocks s n r data pi = .ok bs →
    exec (.hostDataReceived t data pi false) s = .next (updTag s t fun x =>
      { x with inPond := x.inPond ++ bs, fetchedBlks := x.fetchedBlks + data.length / 4096 })) ∧
  (∀ (s : State) (t : Tag) (r : TagRec) (data pi : List Byte), powered s = true →
    s.bw.started = false → tagAt s t = some r → r.stage = 3 → r.latch = false →
    [IoOp.write, .append].contains (opOf s r) = true → 0 < data.length / 4096 → data.length % 4096 = 0 →
    r.fetchedBlks + data.length / 4096 ≤ nlbOf s.quay.sas r.cmd →
    exec (.hostDataReceived t data pi true) s = .next (failWrite s r (stG 0x04))) ∧
  (∀ (s : State) (t : Tag) (r : TagRec) (n : Ns), live s = true → s.bw.started = false → tagAt s t = some r →
    r.stage = 3 → r.latch = false → r.installed = false → opOf s r = .write → r.fetchedBlks = nlbOf s.quay.sas r.cmd →
    mayInstall s r = true → nsAt s (nsidOf s r) = some n → logRoom s n = true →
    exec (.writeIndexAck t) s = .next (finishOk (forEach r.inPond (updTag s t fun x =>
      { x with installed := true, inPond := [] }) (installOne n)) t)) ∧
  (∀ (s : State) (t : Tag) (r : TagRec), live s = true → s.bw.started = false → s.brt.held = [t] → tagAt s t = some r →
    dredgeHolds s r = false → overBound s r = false →
    exec .heldWriteRelease s = .next (fetchData (updBrt s fun e => { e with held := [] }) r)) ∧
  (∀ (s : State) (a : Act), live s = true → s.bw.started = false → exec (.pilotEntry a) s =
    .next (updCmds s fun c => { c with pilots := vupd c.pilots a (enterPilot s.us (hotOp s)) })) ∧
  (∀ (s : State) (a : Act) (costs : List (Nat × Nat)) (o : PilotOp), live s = true → s.bw.started = false →
    s.spn.xferOk = true → s.spn.freeDrain = false → s.cmds.pilots[a].busy = none → s.acts[a].failed = false →
    (s.cmds.pilots[a].entries.filter fun o => !o.dispatched && !o.write && headDead s o.head) = [] →
    choose s s.cmds.pilots[a] costs = some o → o.tag = none →
    ∃ t, exec (.pilotDispatch a costs) s = .next t ∧ t.cmds.pilots[a].busy = some o.id ∧
      t.cmds.pilots[a].twin = (twinOf s a s.cmds.pilots[a] o).map (·.id) ∧
      t.cmds.pilots[a].ptr = (o.id + 1) % 1024 ∧ ∀ b, a ≠ b → t.cmds.pilots[b] = s.cmds.pilots[b]) ∧
  (∀ (s : State) (a : Act) (rows : List (Nat × List (Option (List Byte)))) (id : Nat) (o o1 : PilotOp) (b : Berth),
    powered s = true → s.cmds.pilots[a].busy = some id → (s.cmds.pilots[a].entries.find? fun e => e.id = id) = some o →
    berthAt s o.berth = some b → o.man = none → o.withdrawn = false → o.write = false →
    ((forEach (List.range o.count) s (settlePlace a id b rows)).cmds.pilots[a].entries.find? fun e => e.id = id) = some o1 →
    opDone o1 = true →
    exec (.mediaOperationEnd a rows) s =
      .next (endOp (forEach (List.range o.count) s (settlePlace a id b rows)) a o1 b)) ∧
  (∀ (s : State) (t : Tag) (r : TagRec), live s = true → s.bw.started = false → s.quay.sas = false →
    tagAt s t = some r → r.aborted = true → r.stage < 5 → r.await = false →
    exec (.sweptCommandEnd t) s = .next (finish (stopWork s r) t (stRetry 0x08))) ∧
  (∀ (s : State) (t : Tag) (r : TagRec) (d : Tag × Nat) (m : Mooring), live s = true → s.bw.started = false →
    tagAt s t = some r → (s.cmds.deletes.find? fun d => d.1 = t) = some d → moorAt s r.func d.2 = some m →
    m.inflight = 0 →
    exec (.deleteSqComplete t) s = .next (finish (updMoor (updCmds s fun c => { c with deletes := c.deletes.erase d })
      r.func d.2 fun x => { x with sqMade := false }) t stOk))

/-- Controller, port and subsystem events: CONTROLLER_ENABLE (R519, R520), CONTROLLER_RESET, FUNCTION_LEVEL_RESET,
HOT_RESET, PERST_ASSERT, PERST_DEASSERT (R354, R434, R519), NVM_SUBSYSTEM_RESET (R309, R517), IT_NEXUS_LOSS (R355,
R434). The Quay's and the tally's messages (R311, R312, R322, R335, R336, R337, R340, R361). -/
def Obligations.PortsAndQuayMessagesComplete : Prop :=
  ((∀ (s : State) (f : Fn) (ams asq acq asqs acqs : Nat), s.phase = .run → s.bw.started = false → s.quay.sas = false →
    s.quay.disabled = false → (fnOf s f).en = false → mayEnable s f = true →
    exec (.controllerEnable f ams asq acq asqs acqs) s = .next (refresh (touchMoor (updQuay
      (updFn s f fun x => { x with en := true, rdy := hostIo s, ams := ams % 8 }) fun q =>
        { q with moorings := adminMoor f asq acq asqs acqs ::
            q.moorings.filter fun m => !(decide (m.func = f) && decide (m.qid = 0)) }) f 0))) ∧
  (∀ (s : State) (f : Fn), powered s = true → s.quay.sas = false → s.bw.started = false → (fnOf s f).en = true →
    exec (.controllerReset f) s = .next (clearController s f)) ∧
  (∀ (s : State) (f : Fn), powered s = true → s.quay.sas = false → s.quay.disabled = false → s.bw.started = false →
    exec (.functionLevelReset f) s = .next (if isPf f
      then reinitMbx (vfsOff (forEach (f :: (knownFns s).filter fun g => decide (pfOf g = f) && decide (g ≠ f)) s
        clearController) f) (mbxOfPf f)
      else clearController s f)) ∧
  (∀ (s : State) (p : Fin 2), powered s = true → s.quay.sas = false → s.quay.disabled = false → s.bw.started = false →
    exec (.hotReset p) s = .next (forEach (if s.quay.x4 then (if p = 0 then [0, 512] else []) else
      if p = 0 then [0] else [512]) s resetFunction)) ∧
  (∀ (s : State) (p : Fin 2), powered s = true → s.quay.sas = false → s.quay.disabled = false → s.bw.started = false →
    exec (.perstAssert p) s = .next (resetPort (updQuay s fun q => { q with perst := vupd q.perst p fun _ => true }) p)) ∧
  (∀ (s : State) (p : Fin 2), exec (.perstDeassert p) s =
    .next (updQuay s fun q => { q with perst := vupd q.perst p fun _ => false })) ∧
  (∀ s : State, powered s = true → s.quay.sas = false → s.quay.disabled = false →
    exec .nvmSubsystemReset s = .next (startBreakwater { s with boot := { s.boot with nssr := true } } 9)) ∧
  (∀ (s : State) (p : Fin 2) (nexus : Nat), powered s = true → s.quay.sas = true → s.bw.started = false →
    exec (.itNexusLoss p nexus) s = .next (endTasks (sweepFor (reinitMbx s (if p = 0 then 0 else 1)) 0 nexus 0 fun r =>
      decide (r.nexus = nexus)))) ∧
  (∀ (s : State) (mb : Mb), (reinitMbx s mb).mbx[mb].enable = false ∧ (reinitMbx s mb).mbx[mb].reinit = true ∧
    ∀ k, mb ≠ k → (reinitMbx s mb).mbx[k] = s.mbx[k])) ∧
  ((∀ (s : State) (r : Req) (n : Nat), n ≤ 1 →
    Completes (.quaySetMoormode r n) s r { opc := 0x0101, setter := true, writesNor := true }
      (updNv (updQuay s fun q => { q with par := { q.par with fullNext := decide (n = 1) } }) fun v =>
        { v with fullNext := decide (n = 1) }) []) ∧
  (∀ (s : State) (r : Req) (ps : Params) (p : QuayPar), applyPars arbPars (fun _ => []) ps s.quay.par = .ok p →
    Completes (.quaySetArb r ps) s r { opc := 0x0102, setter := true } (updQuay s fun q => { q with par := p }) []) ∧
  (∀ (s : State) (r : Req) (f : Fn) (word : BitVec 64), fld word.toNat 0 7 = 0 →
    ¬((allotOf word.toNat).wMedia = 0 ∨ (allotOf word.toNat).wByte = 0 ∨ (allotOf word.toNat).wCmd = 0 ∨
      100 < (allotOf word.toNat).mtCap) →
    Completes (.quaySetAllot r f.val word) s r { opc := 0x0103, need := .op, scope := some f.val, setter := true }
      (refresh (updFn s f fun x => { x with allot := allotOf word.toNat })) []) ∧
  (∀ (s : State) (r : Req) (f : Fn) (word : BitVec 64), fld word.toNat 0 7 = 0 →
    ((allotOf word.toNat).wMedia = 0 ∨ (allotOf word.toNat).wByte = 0 ∨ (allotOf word.toNat).wCmd = 0 ∨
      100 < (allotOf word.toNat).mtCap) →
    TurnsAway (.quaySetAllot r f.val word) s r { opc := 0x0103, need := .op, scope := some f.val, setter := true }
      0x000A 0) ∧
  (∀ (s : State) (r : Req) (f : Fn),
    Completes (.quayGetAllot r f.val) s r { opc := 0x0104, need := .rd, scope := some f.val } s
      (leBytes 8 (allotWord (fnOf s f).allot))) ∧
  (∀ (s : State) (r : Req) (f : Fn) (ps : Params) (p : QuayPar × Nat),
    applyPars admitPars (fun p => [([0, 1], decide (p.2 + p.1.adminRes ≤ 4096) || !ps.any fun e => decide (e.1 ≤ 1))]) ps
      (s.quay.par, (fnOf s f).tagLimit) = .ok p →
    Completes (.quaySetAdmit r f.val ps) s r
      { opc := 0x0105, need := if ps.all fun e => decide (e.1 = 1) then .op else .cf, scope := some f.val, setter := true }
      (refresh (updFn (updQuay s fun q => { q with par := p.1 }) f fun x => { x with tagLimit := p.2 })) []) ∧
  (∀ (s : State) (r : Req) (w : Nat), r.persist = true → 100 ≤ w → w ≤ 6000 →
    Completes (.quaySetDrivePower r w) s r { opc := 0x010A, need := .fa, setter := true }
      (updQuay s fun q => { q with par := { q.par with maxPower := w } }) []) ∧
  (∀ (s : State) (r : Req) (f : Fn) (qid : Nat) (m : Mooring), qid ≤ 65535 → moorAt s f qid = some m →
    Completes (.quayGetMooring r f.val qid) s r { opc := 0x0907, need := .rd, scope := some f.val } s (moorBytes m)) ∧
  (∀ (s : State) (r : Req) (f : Fn) (qid : Nat), qid ≤ 65535 → moorAt s f qid = none →
    TurnsAway (.quayGetMooring r f.val qid) s r { opc := 0x0907, need := .rd, scope := some f.val } 0x000E 0) ∧
  (∀ (s : State) (r : Req) (t : Tag),
    Completes (.quayGetTag r t.val) s r { opc := 0x0908, need := .rd, scope := tagFunc s t.val } s
      (leBytes 8 (tagWord s t))) ∧
  (∀ (s : State) (r : Req) (func start count : Nat), func ≤ 1025 → count ≤ 31 →
    Completes (.tallyRead r func start count) s r
      { opc := 0x0801, need := tallyNeed r.mb func .rd, scope := if func < 1024 then some func else none } s
      (leBytes 2 (closedOf s func).length ++ leBytes 1 (((closedOf s func).drop start).take count).length ++
        (((closedOf s func).drop start).take count).flatMap tallyBytes)) ∧
  (∀ (s : State) (r : Req) (func : Nat), func ≤ 1025 →
    Completes (.tallyClear r func) s r
      { opc := 0x0802, need := if 1024 ≤ func then .cf else .op, scope := if func < 1024 then some func else none }
      (updRing s func fun x => { x with closed := [], nextPartial := true }) []))

/-- READ, WRITE, FLUSH, WRITE_ZEROES, DATASET_MANAGEMENT, VERIFY, ZONE_APPEND, the RESERVATION commands, the zone
commands and REPORT_ZONES act once nothing earlier holds them and every admission check holds (R13, R16, R252, R309,
R324, R327, R348, R349, R536). -/
def Obligations.NvmeIoComplete : Prop :=
  (∀ (s : State) (t : Tag) (r : TagRec), IoReady s t r 0x02 → IoClear s r → exec (.read t) s = .next (readAct s r)) ∧
  (∀ (s : State) (t : Tag) (r : TagRec), IoReady s t r 0x0C → IoClear s r → exec (.verify t) s = .next (readAct s r)) ∧
  (∀ (s s1 s2 : State) (r : TagRec) (n : Ns) (srcs : List BlkSrc) (ops : List (Act × PilotOp × Nat)),
    nsAt s (nsidOf s r) = some n → opOf s r = .read →
    ((List.range (nlbOf s.quay.sas r.cmd)).map fun k => lookupOne s n (slbaOf r.cmd + k)) = srcs →
    readOps s r.tag r.func srcs = ops →
    (updTag (addRefs s srcs) r.tag fun x =>
      { x with stage := 3, lba := slbaOf r.cmd, srcs := srcs, lookedUp := true, ops := ops.length }) = s1 →
    forEach ops s1 (fun s o => queueOp s o.1 o.2.1) = s2 →
    readAct s r = endReadIfDone (if srcs.any (·.ok) then commitTag s2 r.tag else s2) r.tag) ∧
  (∀ (s : State) (t : Tag) (r : TagRec) (n : Ns), IoReady s t r 0x01 → IoClear s r → nsAt s (nsidOf s r) = some n →
    n.zoned = false → overBound s r = false → dredgeHolds s r = false →
    exec (.write t) s = .next (fetchData s r)) ∧
  (∀ (s : State) (t : Tag) (r : TagRec) (n : Ns), IoReady s t r 0x01 → IoClear s r → nsAt s (nsidOf s r) = some n →
    n.zoned = false → (overBound s r = true ∨ dredgeHolds s r = true) →
    exec (.write t) s = .next (updTag (updBrt s fun e => { e with held := e.held ++ [r.tag] }) r.tag fun x =>
      { x with held := true })) ∧
  (∀ (s : State) (t : Tag) (r : TagRec) (n : Ns), IoReady s t r 0x01 → IoClear s r → nsAt s (nsidOf s r) = some n →
    n.zoned = true → exec (.write t) s = .next (zonedAct s n r)) ∧
  (∀ (s : State) (t : Tag) (r : TagRec) (n : Ns), IoReady s t r 0x08 → IoClear s r → nsAt s (nsidOf s r) = some n →
    n.zoned = false → exec (.writeZeroes t) s = .next (fetchData s r)) ∧
  (∀ (s : State) (t : Tag) (r : TagRec) (n : Ns), IoReady s t r 0x09 → IoClear s r → nsAt s (nsidOf s r) = some n →
    n.zoned = false → bitAt r.cmd.dw11 2 = true →
    exec (.datasetManagement t) s = .next (updTag s r.tag fun x => { x with stage := 3 })) ∧
  (∀ (s : State) (t : Tag) (r : TagRec) (n : Ns), IoReady s t r 0x7D → IoClear s r → nsAt s (nsidOf s r) = some n →
    n.zoned = true → exec (.zoneAppend t) s = .next (zonedAct s n r)) ∧
  (∀ (s s1 : State) (r : TagRec) (n : Ns) (f : TagRec → TagRec), opOf s r = .append →
    takeRange s n (slbaOf r.cmd / 262144) (getZone s n.nsid (slbaOf r.cmd / 262144)).wp (nlbOf s.quay.sas r.cmd) = .ok s1 →
    (fun x : TagRec =>
      { x with taken := some (n.nsid, slbaOf r.cmd / 262144 * 262144 + (getZone s n.nsid (slbaOf r.cmd / 262144)).wp,
                 nlbOf s.quay.sas r.cmd),
               zmLba := slbaOf r.cmd / 262144 * 262144 + (getZone s n.nsid (slbaOf r.cmd / 262144)).wp }) = f →
    zonedAct s n r = startWrite (updTag s1 r.tag f) (f r)) ∧
  (∀ (s : State) (t : Tag) (r : TagRec), IoReady s t r 0x00 → (r.cmd.nsid = 0xFFFFFFFF ∨ IoClear s r) →
    exec (.flush t) s = .next (finishOk s r.tag)) ∧
  (∀ (s : State) (t : Tag) (r : TagRec), IoReady s t r 0x0D → IoClear s r →
    exec (.reservationRegister t) s = .next (rsvEnd s r (rsvOf s r.cmd.nsid)
      ((rsvRegister (rsvOf s r.cmd.nsid) r.func.val (leNat (r.cmd.data.take 8)) (leNat ((r.cmd.data.drop 8).take 8))
        (r.cmd.dw10 % 8) (bitAt r.cmd.dw10 3)).map fun y =>
          { y with ptpl := if fld r.cmd.dw10 30 2 = 2 then false else if fld r.cmd.dw10 30 2 = 3 then true else y.ptpl }))) ∧
  (∀ (s : State) (t : Tag) (r : TagRec), IoReady s t r 0x11 → IoClear s r →
    exec (.reservationAcquire t) s = .next (rsvEnd s r (rsvOf s r.cmd.nsid)
      (rsvAcquire (rsvOf s r.cmd.nsid) r.func.val (leNat (r.cmd.data.take 8)) (leNat ((r.cmd.data.drop 8).take 8))
        (r.cmd.dw10 % 8) (fld r.cmd.dw10 8 8) (bitAt r.cmd.dw10 3)))) ∧
  (∀ (s : State) (t : Tag) (r : TagRec), IoReady s t r 0x15 → IoClear s r →
    exec (.reservationRelease t) s = .next (rsvEnd s r (rsvOf s r.cmd.nsid)
      (rsvRelease (rsvOf s r.cmd.nsid) r.func.val (leNat (r.cmd.data.take 8)) (r.cmd.dw10 % 8) (fld r.cmd.dw10 8 8)
        (bitAt r.cmd.dw10 3)))) ∧
  (∀ (s : State) (t : Tag) (r : TagRec), IoReady s t r 0x0E → IoClear s r →
    exec (.reservationReport t) s = .next (finishOk (sendData s r.tag
      ((rsvReport (rsvOf s r.cmd.nsid) (bitAt r.cmd.dw11 0)).take ((r.cmd.dw10 % 2 ^ 32 + 1) * 4))) r.tag)) ∧
  (∀ (s : State) (t : Tag) (r : TagRec) (n : Ns), IoReady s t r 0x7A → IoClear s r → nsAt s (nsidOf s r) = some n →
    n.zoned = true → slbaOf r.cmd < n.size → r.cmd.dw13 % 256 = 0 → fld r.cmd.dw13 8 8 ≤ 7 →
    exec (.reportZones t) s = .next (finishOk (sendData s r.tag (zoneReport s n r.cmd)) r.tag))

/-- ZONE_OPEN, ZONE_CLOSE, ZONE_FINISH and ZONE_RESET change their zones and end with success; every other action
(ZONE_OFFLINE) ends with Invalid Field in Command (R253, R258, R259, R324, R327). -/
def Obligations.ZoneCommandsComplete : Prop :=
  (∀ (s s1 : State) (t : Tag) (r : TagRec) (n : Ns), IoReady s t r 0x79 → IoClear s r → nsAt s (nsidOf s r) = some n →
    zoneAction r.cmd = 3 → zonesUnder 3 n (zonesNamed s n r.cmd) s = .ok s1 →
    exec (.zoneOpen t) s = .next (finishOk s1 r.tag)) ∧
  (∀ (s s1 : State) (t : Tag) (r : TagRec) (n : Ns), IoReady s t r 0x79 → IoClear s r → nsAt s (nsidOf s r) = some n →
    zoneAction r.cmd = 1 → zonesUnder 1 n (zonesNamed s n r.cmd) s = .ok s1 →
    exec (.zoneClose t) s = .next (finishOk s1 r.tag)) ∧
  (∀ (s s1 : State) (t : Tag) (r : TagRec) (n : Ns), IoReady s t r 0x79 → IoClear s r → nsAt s (nsidOf s r) = some n →
    zoneAction r.cmd = 2 → zonesUnder 2 n (zonesNamed s n r.cmd) s = .ok s1 →
    exec (.zoneFinish t) s = .next (finishOk s1 r.tag)) ∧
  (∀ (s s1 : State) (t : Tag) (r : TagRec) (n : Ns), IoReady s t r 0x79 → IoClear s r → nsAt s (nsidOf s r) = some n →
    zoneAction r.cmd = 4 → zonesUnder 4 n (zonesNamed s n r.cmd) s = .ok s1 →
    exec (.zoneReset t) s = .next (finishOk s1 r.tag)) ∧
  (∀ (s : State) (t : Tag) (r : TagRec) (n : Ns), IoReady s t r 0x79 → IoClear s r → nsAt s (nsidOf s r) = some n →
    (zoneAction r.cmd = 0 ∨ 4 < zoneAction r.cmd) →
    exec (.zoneOffline t) s = .next (finish s r.tag (stG 0x02))) ∧
  (∀ (s : State) (z : Zone), z.st = .expOpen → zoneCloseOne s z = .ok (putZone s { z with st := .closed })) ∧
  (∀ (s : State) (n : Ns) (z : Zone), z.st = .readOnly →
    zoneOpenOne s n z = .error stZone ∧ zoneCloseOne s z = .error stZone ∧ zoneFinishOne s n z = .error stZone ∧
      zoneResetOne s z = .error stZone) ∧
  (∀ (s : State) (n : Ns) (z : Zone), z.st = .empty ∨ z.st = .impOpen ∨ z.st = .closed → z.charged = false →
    tailReserve s < tailUsed s + layBlocks n.layout → zoneOpenOne s n z = .error (stRetry 0x1BE)) ∧
  (∀ (s : State) (z : Zone), z.st = .full ∨ z.st = .impOpen ∨ z.st = .expOpen ∨ z.st = .closed →
    zoneResetOne s z = .ok (resetZone s z)) ∧
  (∀ (s : State) (n : Ns) (z : Zone), z.st = .empty ∨ z.st = .impOpen ∨ z.st = .expOpen ∨ z.st = .closed →
    zoneFinishOne s n z = .ok (finishZone s n z))

/-- An NVMe I/O command whose admission check fails ends with that status, and one that an earlier command holds
waits in ORDER_WAIT (R13, R341, R348, R349). -/
def Obligations.NvmeIoChecked : Prop :=
  ∀ (s : State) (t : Tag) (r : TagRec) (x : Instr × Nat),
    x ∈ [(Instr.read t, 0x02), (.write t, 0x01), (.flush t, 0x00), (.writeZeroes t, 0x08), (.datasetManagement t, 0x09),
      (.verify t, 0x0C), (.reservationRegister t, 0x0D), (.reservationReport t, 0x0E), (.reservationAcquire t, 0x11),
      (.reservationRelease t, 0x15), (.zoneAppend t, 0x7D), (.reportZones t, 0x7A)] →
    IoReady s t r x.2 → r.cmd.nsid ≠ 0xFFFFFFFF →
    (∀ e, ioCheck s r = some e → exec x.1 s = .next (finish s r.tag e)) ∧
    (ioCheck s r = none → mustWait s r = true → exec x.1 s = .next (updTag s r.tag fun y => { y with stage := 2 }))

/-- The NVMe admin commands of queues, features, events, namespaces and virtualization act once nothing holds them
up (R310, R312, R324, R325, R326, R339, R349, R351, R352, R488, R509). -/
def Obligations.NvmeAdminComplete : Prop :=
  (∀ (s : State) (t : Tag) (r : TagRec), AdminReady s t r 0x05 → r.cmd.dw10 % 65536 ≠ 0 →
    r.cmd.dw10 % 65536 ≤ queueLimit s r.func → moorAt s r.func (r.cmd.dw10 % 65536) = none →
    r.cmd.dw10 / 65536 % 65536 ≠ 0 → bitAt r.cmd.dw11 0 = true → r.cmd.dw11 / 65536 % 65536 < viOf s r.func →
    r.cmd.prp1 % 4096 = 0 →
    exec (.createIoCq t) s = .next (finishOk (touchMoor (updQuay s fun q => { q with moorings := q.moorings ++
      [{ cqBase := r.cmd.prp1, cqSize := r.cmd.dw10 / 65536 % 65536, vector := r.cmd.dw11 / 65536 % 65536,
         ien := bitAt r.cmd.dw11 1, st := 1, func := r.func, qid := r.cmd.dw10 % 65536, cqMade := true }] })
      r.func (r.cmd.dw10 % 65536)) r.tag)) ∧
  (∀ (s : State) (t : Tag) (r : TagRec) (m : Mooring), AdminReady s t r 0x01 → r.cmd.dw10 % 65536 ≠ 0 →
    r.cmd.dw10 % 65536 ≤ queueLimit s r.func → moorAt s r.func (r.cmd.dw10 % 65536) = some m → m.sqMade = false →
    m.cqMade = true → m.st = 1 → r.cmd.dw11 / 65536 % 65536 = r.cmd.dw10 % 65536 → r.cmd.dw10 / 65536 % 65536 ≠ 0 →
    bitAt r.cmd.dw11 0 = true → r.cmd.prp1 % 4096 = 0 →
    exec (.createIoSq t) s = .next (finishOk (touchMoor (updMoor s r.func (r.cmd.dw10 % 65536) fun m =>
      { m with sqBase := r.cmd.prp1, sqSize := r.cmd.dw10 / 65536 % 65536, qprio := fld r.cmd.dw11 1 2, sqMade := true,
               sqTail := 0, sqFetch := 0 }) r.func (r.cmd.dw10 % 65536)) r.tag)) ∧
  (∀ (s : State) (t : Tag) (r : TagRec) (m : Mooring), AdminReady s t r 0x00 → r.cmd.dw10 % 65536 ≠ 0 →
    moorAt s r.func (r.cmd.dw10 % 65536) = some m → m.sqMade = true → m.st ≠ 3 →
    exec (.deleteIoSq t) s = .next (refresh (updTag (updCmds (sweep (updMoor (touchMoor s r.func (r.cmd.dw10 % 65536))
      r.func (r.cmd.dw10 % 65536) fun m => { m with st := 3 }) fun x => decide (x.func = r.func) &&
        decide (x.qid = r.cmd.dw10 % 65536)) fun c => { c with deletes := c.deletes ++ [(r.tag, r.cmd.dw10 % 65536)] })
      r.tag fun x => { x with stage := 4, latch := true }))) ∧
  (∀ (s : State) (t : Tag) (r : TagRec) (m : Mooring), AdminReady s t r 0x04 → r.cmd.dw10 % 65536 ≠ 0 →
    moorAt s r.func (r.cmd.dw10 % 65536) = some m → m.cqMade = true → m.sqMade = false →
    exec (.deleteIoCq t) s = .next (finishOk (updQuay s fun q =>
      { q with moorings := q.moorings.filter (fun x => !(decide (x.func = r.func) && decide (x.qid = r.cmd.dw10 % 65536))),
               cache := q.cache.erase (r.func, r.cmd.dw10 % 65536) }) r.tag)) ∧
  (∀ (s : State) (t : Tag) (r : TagRec) (x : List Byte × State), AdminReady s t r 0x06 → identifyOf s r = .ok x →
    exec (.identify t) s = .next (finishOk (sendData x.2 r.tag x.1) r.tag)) ∧
  (∀ (s : State) (t : Tag) (r : TagRec) (x : List Byte × State), AdminReady s t r 0x02 → r.cmd.dw10 % 256 ≠ 0xC4 →
    logOf s r = .ok x →
    exec (.getLogPage t) s = .next (sendLog (if bitAt r.cmd.dw10 15 then x.2 else
      consumeLog x.2 r.func (r.cmd.dw10 % 256) r.cmd.nsid) r x.1)) ∧
  (∀ (s : State) (t : Tag) (r : TagRec) (f : Nat), AdminReady s t r 0x02 → r.cmd.dw10 % 256 = 0xC4 →
    tallyTarget r.func (r.cmd.dw11 / 65536 % 65536) = some f →
    exec (.getLogPageTally t) s = .next (sendLog s r (tallyPage s f))) ∧
  (∀ (s : State) (t : Tag) (r : TagRec), AdminReady s t r 0x09 → bitAt r.cmd.dw10 31 = false → r.cmd.dw10 % 256 = 0x08 →
    exec (.setFeatures t) s = .next (finishOk (putFeat s r.func 8 0 (r.cmd.dw11 % 2 ^ 32)) r.tag)) ∧
  (∀ (s : State) (t : Tag) (r : TagRec), AdminReady s t r 0x09 → r.cmd.dw10 % 256 ≠ 0x0E → bitAt r.cmd.dw10 31 = true →
    exec (.setFeatures t) s = .next (finish s r.tag (stC 0x0D))) ∧
  (∀ (s : State) (t : Tag) (r : TagRec), AdminReady s t r 0x09 → bitAt r.cmd.dw10 31 = false →
    r.cmd.dw10 % 256 = 0x0E → ∃ u, exec (.setFeaturesTimestamp t) s = .next (finishOk u r.tag) ∧
      u.aon.calendar = some ((leNat (r.cmd.data.take 6) : Int) - onMs s) ∧ u.quay.tally.cutDue = true) ∧
  (∀ (s : State) (t : Tag) (r : TagRec), AdminReady s t r 0x0A → r.cmd.dw10 % 256 = 0x08 → fld r.cmd.dw10 8 3 = 0 →
    exec (.getFeatures t) s =
      .next (finishOk { s with freeCtr := s.freeCtr + 1 } r.tag (featValue s r 0x08 false))) ∧
  (∀ (s : State) (t : Tag) (r : TagRec), AdminReady s t r 0x0C → (fnOf s r.func).aerParked = none →
    exec (.asyncEventRequest t) s = .next (parkAer (commitTag s r.tag) r.func r.tag)) ∧
  (∀ (s : State) (t : Tag) (r : TagRec), AdminReady s t r 0x0C → (fnOf s r.func).aerParked.isSome = true →
    exec (.asyncEventRequest t) s = .next (finish s r.tag (stC 0x05))) ∧
  (∀ (s : State) (t : Tag) (r : TagRec), AdminReady s t r 0x08 → exec (.abort t) s = .next (finishOk s r.tag 1)) ∧
  (∀ (s : State) (t : Tag) (r : TagRec) (id : Nat), AdminReady s t r 0x0D → r.cmd.dw10 % 16 = 0 →
    createCheck s r.cmd = none → freeNsid s = some id →
    ∃ n : Ns, exec (.namespaceManagementCreate t) s = .next (finishOk (newKey (updNv s fun v =>
        { v with namespaces := v.namespaces ++ [n] }) id false) r.tag id) ∧
      n.nsid = id ∧ n.size = leNat (r.cmd.data.take 8) ∧ n.zoned = decide (r.cmd.dw11 / 2 ^ 24 % 256 = 2) ∧
      n.layout = s.brtPar.defLayout ∧ n.attached = []) ∧
  (∀ (s : State) (t : Tag) (r : TagRec) (n : Ns), AdminReady s t r 0x0D → r.cmd.dw10 % 16 = 1 →
    r.cmd.nsid ≠ 0xFFFFFFFF → nsAt s r.cmd.nsid = some n →
    exec (.namespaceManagementDelete t) s = .next (finishOk (deleteNs s n) r.tag)) ∧
  (∀ (s : State) (t : Tag) (r : TagRec) (n : Ns), AdminReady s t r 0x15 → r.cmd.dw10 % 16 = 0 →
    nsAt s r.cmd.nsid = some n → ctrlFns r.cmd ≠ [] → (ctrlFns r.cmd).length = (ctrlList r.cmd).length →
    (ctrlFns r.cmd).any n.attached.contains = false →
    exec (.namespaceAttach t) s = .next (finishOk (putAttached s n.nsid (n.attached ++ ctrlFns r.cmd)) r.tag)) ∧
  (∀ (s : State) (t : Tag) (r : TagRec) (n : Ns), AdminReady s t r 0x15 → r.cmd.dw10 % 16 = 1 →
    nsAt s r.cmd.nsid = some n → ctrlFns r.cmd ≠ [] → (ctrlFns r.cmd).length = (ctrlList r.cmd).length →
    (ctrlFns r.cmd).all n.attached.contains = true →
    exec (.namespaceDetach t) s = .next (finishOk (putAttached s n.nsid
      (n.attached.filter fun f => !(ctrlFns r.cmd).contains f)) r.tag)) ∧
  (∀ (s : State) (t : Tag) (r : TagRec), AdminReady s t r 0x11 →
    r.cmd.dw11 % 2 ^ 32 * 4 + (r.cmd.dw10 % 2 ^ 32 + 1) * 4 ≤ 67108864 →
    exec (.firmwareImageDownload t) s = .next (finishOk (putDownload s (r.cmd.dw11 % 2 ^ 32 * 4)
      (padTo ((r.cmd.dw10 % 2 ^ 32 + 1) * 4) r.cmd.data)) r.tag)) ∧
  (∀ (s : State) (t : Tag) (r : TagRec) (v : Fn), AdminReady s t r 0x1C → r.cmd.dw10 % 16 = 9 →
    ownVf r.func (r.cmd.dw10 / 65536 % 65536) = some v → 2 ≤ (fnOf s v).vq → 1 ≤ (fnOf s v).vi →
    exec (.virtualizationManagement t) s = .next (finishOk (updFn s v fun y => { y with online := true }) r.tag)) ∧
  (∀ (s : State) (t : Tag) (r : TagRec) (v : Fn), AdminReady s t r 0x1C → r.cmd.dw10 % 16 = 7 →
    ownVf r.func (r.cmd.dw10 / 65536 % 65536) = some v →
    exec (.virtualizationManagement t) s = .next (finishOk (vfOffline s v) r.tag)) ∧
  (∀ (s : State) (t : Tag) (r : TagRec) (n : Ns), AdminReady s t r 0x80 → r.cmd.nsid ≠ 0xFFFFFFFF →
    nsAt s r.cmd.nsid = some n → fld r.cmd.dw10 9 3 ≤ 2 → r.cmd.dw10 % 16 = 0 → fld r.cmd.dw10 5 3 = 0 →
    conflicts (rsvOf s n.nsid) (whoOf s r) true = false →
    exec (.formatNvm t) s =
      .next (finishOk (formatNs 0 0 (bitAt r.cmd.dw10 4) (decide (fld r.cmd.dw10 9 3 = 2)) s n) r.tag)) ∧
  (∀ (s : State) (t : Tag) (r : TagRec), AdminReady s t r 0x84 → r.cmd.dw10 % 8 = 4 →
    exec (.sanitizeCryptoErase t) s = .next (finishOk (forEach s.nv.namespaces s cryptoErase) r.tag)) ∧
  (∀ (s : State) (t : Tag) (r : TagRec), AdminReady s t r 0x84 → r.cmd.dw10 % 8 ≠ 4 →
    exec (.sanitizeCryptoErase t) s = .next (finish s r.tag (stG 0x02))) ∧
  (∀ (s : State) (t : Tag) (r : TagRec) (n : Ns) (rs : List (Nat × Nat)) (room : Nat), AdminReady s t r 0x86 →
    nsAt s r.cmd.nsid = some n → r.cmd.dw13 / 2 ^ 24 % 256 = 0x10 → slbaOf r.cmd < n.size →
    runsOf ((lostLbas s n.nsid).filter fun l => decide (slbaOf r.cmd ≤ l) &&
      decide (l < if r.cmd.dw13 % 65536 = 0 then n.size else slbaOf r.cmd + r.cmd.dw13 % 65536)) = rs →
    ((r.cmd.dw12 % 2 ^ 32 + 1) * 4 - 8) / 16 = room →
    exec (.getLbaStatus t) s = .next (finishOk (sendData s r.tag (leBytes 4 (min rs.length room) ++
      leBytes 1 (if room < rs.length then 2 else 1) ++ leBytes 3 0 ++
      (rs.take room).flatMap fun x => leBytes 8 x.1 ++ leBytes 4 x.2 ++ leBytes 4 0)) r.tag)) ∧
  (∀ (s : State) (t : Tag) (r : TagRec), AdminReady s t r 0x14 → r.cmd.dw10 % 16 = 15 →
    exec (.deviceSelfTest t) s = .next (finishOk s r.tag))

/-- The SCSI commands that move no logical blocks act once the arbiter's choice falls on them and no check fails
(R308, R309, R324, R326, R329, R330, R336, R355, R488, R489, R526). -/
def Obligations.ScsiCommandsComplete : Prop :=
  (∀ (s u : State) (lu : Fn) (c : HostCmd) (t : Tag) (r : TagRec),
    SasGranted s lu { c with opc := 0x12 } t u r → SasClear u r → exec (.inquiry lu c) s = .next (refresh (giveData r (inquiryData u lu r.cmd)))) ∧
  (∀ (s u : State) (lu : Fn) (c : HostCmd) (t : Tag) (r : TagRec),
    SasGranted s lu { c with opc := 0xA0 } t u r → SasClear u r → exec (.reportLuns lu c) s = .next (refresh (giveData r (lunsData u r.cmd, u)))) ∧
  (∀ (s u : State) (lu : Fn) (c : HostCmd) (t : Tag) (r : TagRec),
    SasGranted s lu { c with opc := 0x00 } t u r → SasClear u r → exec (.testUnitReady lu c) s = .next (refresh (finishOk u t))) ∧
  (∀ (s u : State) (lu : Fn) (c : HostCmd) (t : Tag) (r : TagRec),
    SasGranted s lu { c with opc := 0x03 } t u r → SasClear u r → exec (.requestSense lu c) s = .next (refresh (giveData r (requestSense u lu r.cmd)))) ∧
  (∀ (s u : State) (lu : Fn) (c : HostCmd) (t : Tag) (r : TagRec) (n : Ns),
    SasGranted s lu { c with opc := 0x9E } t u r → SasClear u r → luNs u lu = some n →
    exec (.readCapacity16 lu c) s = .next (refresh (giveData r (capacityData n r.cmd, u)))) ∧
  (∀ (s u : State) (lu : Fn) (c : HostCmd) (t : Tag) (r : TagRec) (n : Ns) (p : Nat × Nat),
    SasGranted s lu { c with opc := 0x04 } t u r → SasClear u r → luNs u lu = some n → formatPi r.cmd = some p → (p.1 = 0 ∨ protectedNs u n.nsid < 64) →
    exec (.formatUnit lu c) s = .next (refresh (finishOk (formatNs p.1 p.2 n.extended false u n) t))) ∧
  (∀ (s u : State) (lu : Fn) (c : HostCmd) (t : Tag) (r : TagRec) (n : Ns),
    SasGranted s lu { c with opc := 0x48 } t u r → SasClear u r → luNs u lu = some n → r.cmd.dw13 % 32 = 3 →
    exec (.scsiSanitize lu c) s = .next (refresh (finishOk (cryptoErase u n) t))) ∧
  (∀ (s u : State) (lu : Fn) (c : HostCmd) (t : Tag) (r : TagRec) (d : List Byte × State),
    SasGranted s lu { c with opc := 0x5A } t u r → SasClear u r → modeSenseData u lu r.cmd = .ok d →
    exec (.modeSense10 lu c) s = .next (refresh (giveData r d))) ∧
  (∀ (s u : State) (lu : Fn) (c : HostCmd) (t : Tag) (r : TagRec) (ps : List (Nat × List Byte)),
    SasGranted s lu { c with opc := 0x55 } t u r → SasClear u r → 8 + beNat (((r.cmd.data.take r.cmd.dw12).drop 6).take 2) ≤ (r.cmd.data.take r.cmd.dw12).length →
    parsePages (r.cmd.data.take r.cmd.dw12).length ((r.cmd.data.take r.cmd.dw12).drop
      (8 + beNat (((r.cmd.data.take r.cmd.dw12).drop 6).take 2))) = some ps →
    exec (.modeSelect10 lu c) s = .next (refresh (finishOk (attnOthers (putPages u lu (bitAt r.cmd.dw15 0) ps) lu r.cmd.nexus 0x2A01) t))) ∧
  (∀ (s u : State) (lu : Fn) (c : HostCmd) (t : Tag) (r : TagRec) (d : List Byte × State),
    SasGranted s lu { c with opc := 0x4D } t u r → SasClear u r → logSenseData u lu r.cmd = .ok d →
    exec (.logSense lu c) s = .next (refresh (giveData r d))) ∧
  (∀ (s u : State) (lu : Fn) (c : HostCmd) (t : Tag) (r : TagRec),
    SasGranted s lu { c with opc := 0x1B } t u r → SasClear u r → exec (.startStopUnit lu c) s = .next (refresh (finishOk (updFn u lu fun x => { x with stopped := !bitAt r.cmd.dw15 0 }) t))) ∧
  (∀ (s u : State) (lu : Fn) (c : HostCmd) (t : Tag) (r : TagRec),
    SasGranted s lu { c with opc := 0x3C } t u r → SasClear u r → exec (.readBuffer lu c) s = .next (refresh (giveData r (sheet u (min r.cmd.dw12 2097152) [])))) ∧
  (∀ (s u : State) (lu : Fn) (c : HostCmd) (t : Tag) (r : TagRec),
    SasGranted s lu { c with opc := 0xA2 } t u r → SasClear u r → exec (.securityProtocolIn lu c) s = .next (refresh (securityIn u r))) ∧
  (∀ (s u : State) (lu : Fn) (c : HostCmd) (t : Tag) (r : TagRec) (b : List Byte),
    SasGranted s lu { c with opc := 0x5E } t u r → SasClear u r → prInData (rsvOf u (nsidOf u r)) r.cmd = some b →
    exec (.persistentReserveIn lu c) s = .next (refresh (giveData r (b.take r.cmd.dw12, u)))) ∧
  (∀ (s u : State) (lu : Fn) (c : HostCmd) (t : Tag) (r : TagRec) (y : Rsv),
    SasGranted s lu { c with opc := 0x5F } t u r → SasClear u r → prOut (rsvOf u (nsidOf u r)) r.nexus r.cmd = .ok y →
    exec (.persistentReserveOut lu c) s = .next (refresh (finishOk (prNotify (putRsv u y) lu (rsvOf u (nsidOf u r)) y r.nexus) t))) ∧
  (∀ (s u : State) (lu : Fn) (c : HostCmd) (t : Tag) (r : TagRec) (n : Ns),
    SasGranted s lu { c with opc := 0x95 } t u r → SasClear u r → luNs u lu = some n → n.zoned = true → slbaOf r.cmd < n.size →
    exec (.scsiReportZones lu c) s = .next (refresh (giveData r (sasZones u n r.cmd, u)))) ∧
  (∀ (s u : State) (lu : Fn) (c : HostCmd) (t : Tag) (r : TagRec),
    SasGranted s lu { c with opc := 0x3B, dw13 := 0x0E } t u r → SasClear u r → exec (.writeBufferMode0e lu c) s = .next (refresh (writeBufferAct u r))) ∧
  (∀ (s u : State) (lu : Fn) (c : HostCmd) (t : Tag) (r : TagRec),
    SasGranted s lu { c with opc := 0x3B, dw13 := 0x0F } t u r → SasClear u r → exec (.writeBufferMode0f lu c) s = .next (refresh (writeBufferAct u r))) ∧
  (∀ (s u : State) (lu : Fn) (c : HostCmd) (t : Tag) (r : TagRec),
    SasGranted s lu { c with opc := 0x3B, dw13 := 0x07 } t u r → SasClear u r → exec (.writeBufferMode07 lu c) s = .next (refresh (writeBufferAct u r)))

/-- The SCSI commands that read, write, verify or unmap logical blocks or manage zones act as their NVMe
counterparts do; SYNCHRONIZE CACHE completes on admission (R16, R253, R258, R259, R262, R342, R348, R349). -/
def Obligations.ScsiBlocksComplete : Prop :=
  (∀ (s u : State) (lu : Fn) (c : HostCmd) (t : Tag) (r : TagRec), SasGranted s lu { c with opc := 0x88 } t u r →
    SasClear u r → IoClear u r → exec (.read16 lu c) s = .next (refresh (readAct u r))) ∧
  (∀ (s u : State) (lu : Fn) (c : HostCmd) (t : Tag) (r : TagRec), SasGranted s lu { c with opc := 0x8A } t u r →
    SasClear u r → IoClear u r → exec (.write16 lu c) s = .next (refresh (writeAct u r))) ∧
  (∀ (s u : State) (lu : Fn) (c : HostCmd) (t : Tag) (r : TagRec), SasGranted s lu { c with opc := 0x8F } t u r →
    SasClear u r → IoClear u r → exec (.verify16 lu c) s = .next (refresh (readAct u r))) ∧
  (∀ (s u : State) (lu : Fn) (c : HostCmd) (t : Tag) (r : TagRec), SasGranted s lu { c with opc := 0x91 } t u r →
    SasClear u r → IoClear u r → exec (.synchronizeCache16 lu c) s = .next (refresh (finishOk u t))) ∧
  (∀ (s u : State) (lu : Fn) (c : HostCmd) (t : Tag) (r : TagRec), SasGranted s lu { c with opc := 0x42 } t u r →
    SasClear u r → IoClear u r → exec (.unmap lu c) s = .next (refresh (writeAct u r))) ∧
  (∀ (s u : State) (lu : Fn) (c : HostCmd) (t : Tag) (r : TagRec), SasGranted s lu { c with opc := 0x94, dw13 := 4 } t u r →
    SasClear u r → IoClear u r → exec (.resetWritePointer lu c) s = .next (refresh (zoneAct u r))) ∧
  (∀ (s u : State) (lu : Fn) (c : HostCmd) (t : Tag) (r : TagRec), SasGranted s lu { c with opc := 0x94, dw13 := 3 } t u r →
    SasClear u r → IoClear u r → exec (.openZone lu c) s = .next (refresh (zoneAct u r))) ∧
  (∀ (s u : State) (lu : Fn) (c : HostCmd) (t : Tag) (r : TagRec), SasGranted s lu { c with opc := 0x94, dw13 := 1 } t u r →
    SasClear u r → IoClear u r → exec (.closeZone lu c) s = .next (refresh (zoneAct u r))) ∧
  (∀ (s u : State) (lu : Fn) (c : HostCmd) (t : Tag) (r : TagRec), SasGranted s lu { c with opc := 0x94, dw13 := 2 } t u r →
    SasClear u r → IoClear u r → exec (.finishZone lu c) s = .next (refresh (zoneAct u r))) ∧
  (∀ (s s1 : State) (r : TagRec) (n : Ns), nsAt s (nsidOf s r) = some n → 1 ≤ zoneAction r.cmd → zoneAction r.cmd ≤ 4 →
    zonesUnder (zoneAction r.cmd) n (zonesNamed s n r.cmd) s = .ok s1 → zoneAct s r = finishOk s1 r.tag)

/-- SECURITY PROTOCOL OUT (R489) and the mailbox commands of the SAS personality (R418): MAILBOX SEND puts a request
in the ring of its port's mailbox, MAILBOX RECEIVE takes the oldest response or, with the flag, up to 31
notification entries. A SCSI frame before admission gets its own answer or NOT READY, on a halted device HARDWARE
ERROR, and without a free tag TASK SET FULL or BUSY (R345, R519, R522). -/
def Obligations.ScsiMailboxAndEarlyAnswers : Prop :=
  ((∀ (s u : State) (lu : Fn) (c : HostCmd) (m : OpalMethod) (t : Tag) (r x : TagRec),
    SasGranted s lu { c with opc := 0xB5 } t u r → SasClear u r → waitingTask s lu { c with opc := 0xB5 } = none →
    waitingTask (refresh (updTag u t fun x => { x with stage := 2 })) lu { c with opc := 0xB5 } = some x →
    live (refresh (updTag u t fun x => { x with stage := 2 })) = true →
    (refresh (updTag u t fun x => { x with stage := 2 })).bw.started = false →
    exec (.securityProtocolOut lu c m) s =
      .next (securityOut (refresh (updTag u t fun x => { x with stage := 2 })) x m)) ∧
  (∀ (s : State) (r : TagRec) (m : OpalMethod), protoOf s r = 1 → mustWait s r = false →
    (s.bw.inhibit && opalWrites m) = false → securityOut s r m = finishOk (opalRun s m) r.tag) ∧
  (∀ (s u : State) (lu : Fn) (port : Fin 2) (c : HostCmd) (t : Tag) (r : TagRec),
    SasGranted s lu (withPort port 0xC0 0 c) t u r → SasClear u r → 32 ≤ r.cmd.dw12 → r.cmd.dw12 ≤ 2048 →
    mbxFree u.mbx[portMb r.cmd] ≠ 0 →
    exec (.mailboxSend lu port c) s = .next (refresh (finishOk (updMbx u (portMb r.cmd) fun x =>
      { x with reqSlots := smPut x.reqSlots (x.reqTail % 32) (r.cmd.data.take r.cmd.dw12),
               reqTail := (x.reqTail + 1) % 64 }) t))) ∧
  (∀ (s u : State) (lu : Fn) (port : Fin 2) (c : HostCmd) (t : Tag) (r : TagRec),
    SasGranted s lu (withPort port 0xC0 0 c) t u r → SasClear u r → 32 ≤ r.cmd.dw12 → r.cmd.dw12 ≤ 2048 →
    mbxFree u.mbx[portMb r.cmd] = 0 →
    exec (.mailboxSend lu port c) s = .next (refresh (finish u t (stS 5 0x55 0x03)))) ∧
  (∀ (s u : State) (lu : Fn) (port : Fin 2) (c : HostCmd) (t : Tag) (r : TagRec),
    SasGranted s lu (withPort port 0xC1 0 c) t u r → SasClear u r → bitAt r.cmd.dw15 0 = false →
    u.mbx[portMb r.cmd].respHead ≠ u.mbx[portMb r.cmd].respTail →
    exec (.mailboxReceive lu port c) s = .next (refresh (giveData r
      ((smRead [] u.mbx[portMb r.cmd].respSlots (u.mbx[portMb r.cmd].respHead % 32)).take r.cmd.dw12,
       updMbx u (portMb r.cmd) fun x => { x with respHead := (x.respHead + 1) % 64 })))) ∧
  (∀ (s u : State) (lu : Fn) (port : Fin 2) (c : HostCmd) (t : Tag) (r : TagRec) (n : Nat),
    SasGranted s lu (withPort port 0xC1 1 c) t u r → SasClear u r → bitAt r.cmd.dw15 0 = true →
    min (min (ntfUsed u.mbx[portMb r.cmd]) 31) (r.cmd.dw12 / 64) = n → n ≠ 0 →
    exec (.mailboxReceiveNotify lu port c) s = .next (refresh (giveData r (ntfNext (portMb r.cmd) u.mbx[portMb r.cmd] n,
      updMbx u (portMb r.cmd) fun x => { x with ntfHead := (x.ntfHead + n) % 128 }))))) ∧
  ((∀ (s : State) (lu : Fn) (c : HostCmd), s.quay.disabled = false → s.quay.sas = true → s.bw.started = false →
    s.phase = .boot →
    exec (.testUnitReady lu c) s = .next (sasAnswer s lu { c with opc := 0x00 } (stS 2 0x04 0x01)) ∧
    exec (.read16 lu c) s = .next (sasAnswer s lu { c with opc := 0x88 } (stS 2 0x04 0x01)) ∧
    exec (.reportLuns lu c) s = .next (sasAnswer (emit s (.data lu.val c.cid (lunsData s { c with opc := 0xA0 }))) lu
      { c with opc := 0xA0 } stOk)) ∧
  (∀ (s : State) (lu : Fn) (c : HostCmd), s.quay.disabled = false → s.quay.sas = true → s.bw.started = false →
    s.phase = .halted →
    exec (.testUnitReady lu c) s = .next (sasAnswer s lu { c with opc := 0x00 } (stS 4 0x44 0x00))) ∧
  (∀ (s : State) (lu : Fn) (c : HostCmd), sasUp s = true → hostIo s = true →
    admits (knowNexus s c.nexus) lu false = false →
    exec (.write16 lu c) s = .next (sasAnswer (knowNexus s c.nexus) lu { c with opc := 0x8A }
      (stB (if 0 < tagsOf (knowNexus s c.nexus) lu then 0x28 else 0x08)))))

/-- Task management (R355): ABORT TASK and CLEAR ACA are rejected; ABORT TASK SET, CLEAR TASK SET, LOGICAL UNIT
RESET and I_T NEXUS RESET sweep their tasks; the queries succeed while what they ask for is there. -/
def Obligations.TaskManagementComplete : Prop :=
  (∀ (s : State) (lu : Fn) (nexus cid : Nat), sasUp s = true →
    exec (.abortTask lu nexus cid) s = .next (emit (knowNexus s nexus) (.taskResp lu.val 0x01 4))) ∧
  (∀ (s : State) (lu : Fn) (nexus : Nat), sasUp s = true →
    exec (.clearAca lu nexus) s = .next (emit (knowNexus s nexus) (.taskResp lu.val 0x40 4))) ∧
  (∀ (s : State) (lu : Fn) (nexus : Nat), sasUp s = true →
    exec (.abortTaskSet lu nexus) s = .next (endTasks (sweepFor (knowNexus s nexus) lu nexus 0x02 fun r =>
      decide (r.func = lu) && decide (r.nexus = nexus)))) ∧
  (∀ (s : State) (lu : Fn) (nexus : Nat), sasUp s = true →
    exec (.clearTaskSet lu nexus) s = .next (endTasks (sweepFor (attnOthers (knowNexus s nexus) lu nexus 0x2F00) lu nexus
      0x04 fun r => decide (r.func = lu)))) ∧
  (∀ (s s1 : State) (lu : Fn) (nexus : Nat), sasUp s = true → restorePages (knowNexus s nexus) lu = s1 →
    exec (.logicalUnitReset lu nexus) s = .next (endTasks (sweepFor
      (forEach s1.quay.initiators s1 fun s n => attn s lu n 0x2903) lu nexus 0x08 fun r => decide (r.func = lu)))) ∧
  (∀ (s : State) (nexus : Nat), sasUp s = true →
    exec (.iTNexusReset nexus) s = .next (endTasks (sweepFor (forEach (unitsOf s) (knowNexus s nexus) fun s f =>
      attn s f nexus 0x2907) 0 nexus 0x10 fun r => decide (r.nexus = nexus)))) ∧
  (∀ (s : State) (lu : Fn) (nexus cid : Nat), sasUp s = true →
    exec (.queryTask lu nexus cid) s = .next (emit (knowNexus s nexus) (.taskResp lu.val 0x80
      (if s.cmds.tags.any fun r => decide (r.func = lu) && decide (r.nexus = nexus) && decide (r.cid = cid)
        then 8 else 0)))) ∧
  (∀ (s : State) (lu : Fn) (nexus : Nat), sasUp s = true →
    exec (.queryTaskSet lu nexus) s = .next (emit (knowNexus s nexus) (.taskResp lu.val 0x81
      (if s.cmds.tags.any fun r => decide (r.func = lu) && decide (r.nexus = nexus) then 8 else 0)))) ∧
  (∀ (s : State) (lu : Fn) (nexus : Nat), sasUp s = true →
    exec (.queryAsynchronousEvent lu nexus) s = .next (emit (knowNexus s nexus) (.taskResp lu.val 0x82
      (if (attnOf s lu nexus).isSome then 8 else 0))))

/-- The register instructions ADD to MAXU, CMP and CRC: the result in D, the flags and the next word; everything
else stays (R390, R391). -/
def Obligations.SeqRegisterOpsComplete : Prop :=
  (∀ (s : State) (n : Sq) (w : BitVec 26), Issues s n 0x10 w → mw w 0 14 = 0 → s.seqs[n].r.pc ≠ 0xFFFF →
    exec (.add n w) s = .next (stepped s n fun r => { setG r (mwD w) (gOf r (mwA w) + gOf r (mwB w)) with
        z := decide (gOf r (mwA w) + gOf r (mwB w) = 0), n := (gOf r (mwA w) + gOf r (mwB w)).msb, c := decide (2 ^ 32 ≤ (gOf r (mwA w)).toNat + (gOf r (mwB w)).toNat),
        v := ((gOf r (mwA w)).msb == (gOf r (mwB w)).msb) && ((gOf r (mwA w) + gOf r (mwB w)).msb != (gOf r (mwA w)).msb) })) ∧
  (∀ (s : State) (n : Sq) (w : BitVec 26), Issues s n 0x11 w → mw w 0 14 = 0 → s.seqs[n].r.pc ≠ 0xFFFF →
    exec (.sub n w) s = .next (stepped s n fun r => { setG r (mwD w) (gOf r (mwA w) - gOf r (mwB w)) with
        z := decide (gOf r (mwA w) - gOf r (mwB w) = 0), n := (gOf r (mwA w) - gOf r (mwB w)).msb, c := decide ((gOf r (mwB w)).toNat ≤ (gOf r (mwA w)).toNat),
        v := ((gOf r (mwA w)).msb != (gOf r (mwB w)).msb) && ((gOf r (mwA w) - gOf r (mwB w)).msb != (gOf r (mwA w)).msb) })) ∧
  (∀ (s : State) (n : Sq) (w : BitVec 26), Issues s n 0x12 w → mw w 0 14 = 0 → s.seqs[n].r.pc ≠ 0xFFFF →
    exec (.and n w) s = .next (stepped s n fun r => { setG r (mwD w) ((gOf r (mwA w) &&& gOf r (mwB w))) with
        z := decide ((gOf r (mwA w) &&& gOf r (mwB w)) = 0), n := ((gOf r (mwA w) &&& gOf r (mwB w))).msb, c := false, v := false })) ∧
  (∀ (s : State) (n : Sq) (w : BitVec 26), Issues s n 0x13 w → mw w 0 14 = 0 → s.seqs[n].r.pc ≠ 0xFFFF →
    exec (.or n w) s = .next (stepped s n fun r => { setG r (mwD w) ((gOf r (mwA w) ||| gOf r (mwB w))) with
        z := decide ((gOf r (mwA w) ||| gOf r (mwB w)) = 0), n := ((gOf r (mwA w) ||| gOf r (mwB w))).msb, c := false, v := false })) ∧
  (∀ (s : State) (n : Sq) (w : BitVec 26), Issues s n 0x14 w → mw w 0 14 = 0 → s.seqs[n].r.pc ≠ 0xFFFF →
    exec (.xor n w) s = .next (stepped s n fun r => { setG r (mwD w) ((gOf r (mwA w) ^^^ gOf r (mwB w))) with
        z := decide ((gOf r (mwA w) ^^^ gOf r (mwB w)) = 0), n := ((gOf r (mwA w) ^^^ gOf r (mwB w))).msb, c := false, v := false })) ∧
  (∀ (s : State) (n : Sq) (w : BitVec 26), Issues s n 0x15 w → mw w 0 14 = 0 → s.seqs[n].r.pc ≠ 0xFFFF →
    exec (.shl n w) s = .next (stepped s n fun r => { setG r (mwD w) ((gOf r (mwA w) <<< ((gOf r (mwB w)).toNat % 32))) with
        z := decide ((gOf r (mwA w) <<< ((gOf r (mwB w)).toNat % 32)) = 0), n := ((gOf r (mwA w) <<< ((gOf r (mwB w)).toNat % 32))).msb, c := if ((gOf r (mwB w)).toNat % 32) = 0 then r.c else (gOf r (mwA w)).getLsbD (32 - ((gOf r (mwB w)).toNat % 32)) })) ∧
  (∀ (s : State) (n : Sq) (w : BitVec 26), Issues s n 0x16 w → mw w 0 14 = 0 → s.seqs[n].r.pc ≠ 0xFFFF →
    exec (.shr n w) s = .next (stepped s n fun r => { setG r (mwD w) ((gOf r (mwA w) >>> ((gOf r (mwB w)).toNat % 32))) with
        z := decide ((gOf r (mwA w) >>> ((gOf r (mwB w)).toNat % 32)) = 0), n := ((gOf r (mwA w) >>> ((gOf r (mwB w)).toNat % 32))).msb, c := if ((gOf r (mwB w)).toNat % 32) = 0 then r.c else (gOf r (mwA w)).getLsbD (((gOf r (mwB w)).toNat % 32) - 1) })) ∧
  (∀ (s : State) (n : Sq) (w : BitVec 26), Issues s n 0x17 w → mw w 0 14 = 0 → s.seqs[n].r.pc ≠ 0xFFFF →
    exec (.sar n w) s = .next (stepped s n fun r => { setG r (mwD w) (((gOf r (mwA w)).sshiftRight ((gOf r (mwB w)).toNat % 32))) with
        z := decide (((gOf r (mwA w)).sshiftRight ((gOf r (mwB w)).toNat % 32)) = 0), n := (((gOf r (mwA w)).sshiftRight ((gOf r (mwB w)).toNat % 32))).msb, c := if ((gOf r (mwB w)).toNat % 32) = 0 then r.c else (gOf r (mwA w)).getLsbD (((gOf r (mwB w)).toNat % 32) - 1) })) ∧
  (∀ (s : State) (n : Sq) (w : BitVec 26), Issues s n 0x18 w → mw w 0 14 = 0 → s.seqs[n].r.pc ≠ 0xFFFF →
    exec (.mul n w) s = .next (stepped s n fun r => { setG r (mwD w) ((gOf r (mwA w) * gOf r (mwB w))) with
        z := decide ((gOf r (mwA w) * gOf r (mwB w)) = 0), n := ((gOf r (mwA w) * gOf r (mwB w))).msb })) ∧
  (∀ (s : State) (n : Sq) (w : BitVec 26), Issues s n 0x19 w → mw w 0 14 = 0 → s.seqs[n].r.pc ≠ 0xFFFF →
    exec (.mulhu n w) s = .next (stepped s n fun r => { setG r (mwD w) ((BitVec.ofNat 32 ((gOf r (mwA w)).toNat * (gOf r (mwB w)).toNat / 2 ^ 32))) with
        z := decide ((BitVec.ofNat 32 ((gOf r (mwA w)).toNat * (gOf r (mwB w)).toNat / 2 ^ 32)) = 0), n := ((BitVec.ofNat 32 ((gOf r (mwA w)).toNat * (gOf r (mwB w)).toNat / 2 ^ 32))).msb })) ∧
  (∀ (s : State) (n : Sq) (w : BitVec 26), Issues s n 0x1a w → mw w 0 14 = 0 → s.seqs[n].r.pc ≠ 0xFFFF →
    exec (.min n w) s = .next (stepped s n fun r => { setG r (mwD w) ((if (gOf r (mwA w)).slt (gOf r (mwB w)) then gOf r (mwA w) else gOf r (mwB w))) with
        z := decide ((if (gOf r (mwA w)).slt (gOf r (mwB w)) then gOf r (mwA w) else gOf r (mwB w)) = 0), n := ((if (gOf r (mwA w)).slt (gOf r (mwB w)) then gOf r (mwA w) else gOf r (mwB w))).msb, c := false, v := false })) ∧
  (∀ (s : State) (n : Sq) (w : BitVec 26), Issues s n 0x1b w → mw w 0 14 = 0 → s.seqs[n].r.pc ≠ 0xFFFF →
    exec (.max n w) s = .next (stepped s n fun r => { setG r (mwD w) ((if (gOf r (mwA w)).slt (gOf r (mwB w)) then gOf r (mwB w) else gOf r (mwA w))) with
        z := decide ((if (gOf r (mwA w)).slt (gOf r (mwB w)) then gOf r (mwB w) else gOf r (mwA w)) = 0), n := ((if (gOf r (mwA w)).slt (gOf r (mwB w)) then gOf r (mwB w) else gOf r (mwA w))).msb, c := false, v := false })) ∧
  (∀ (s : State) (n : Sq) (w : BitVec 26), Issues s n 0x1c w → mw w 0 14 = 0 → s.seqs[n].r.pc ≠ 0xFFFF →
    exec (.minu n w) s = .next (stepped s n fun r => { setG r (mwD w) ((if (gOf r (mwA w)).ult (gOf r (mwB w)) then gOf r (mwA w) else gOf r (mwB w))) with
        z := decide ((if (gOf r (mwA w)).ult (gOf r (mwB w)) then gOf r (mwA w) else gOf r (mwB w)) = 0), n := ((if (gOf r (mwA w)).ult (gOf r (mwB w)) then gOf r (mwA w) else gOf r (mwB w))).msb, c := false, v := false })) ∧
  (∀ (s : State) (n : Sq) (w : BitVec 26), Issues s n 0x1d w → mw w 0 14 = 0 → s.seqs[n].r.pc ≠ 0xFFFF →
    exec (.maxu n w) s = .next (stepped s n fun r => { setG r (mwD w) ((if (gOf r (mwA w)).ult (gOf r (mwB w)) then gOf r (mwB w) else gOf r (mwA w))) with
        z := decide ((if (gOf r (mwA w)).ult (gOf r (mwB w)) then gOf r (mwB w) else gOf r (mwA w)) = 0), n := ((if (gOf r (mwA w)).ult (gOf r (mwB w)) then gOf r (mwB w) else gOf r (mwA w))).msb, c := false, v := false })) ∧
  (∀ (s : State) (n : Sq) (w : BitVec 26), Issues s n 0x1e w → mw w 0 14 = 0 → mw w 22 4 = 0 → s.seqs[n].r.pc ≠ 0xFFFF →
    exec (.cmp n w) s = .next (stepped s n fun r => { r with
        z := decide (gOf r (mwA w) - gOf r (mwB w) = 0), n := (gOf r (mwA w) - gOf r (mwB w)).msb, c := decide ((gOf r (mwB w)).toNat ≤ (gOf r (mwA w)).toNat),
        v := ((gOf r (mwA w)).msb != (gOf r (mwB w)).msb) && ((gOf r (mwA w) - gOf r (mwB w)).msb != (gOf r (mwA w)).msb) })) ∧
  (∀ (s : State) (n : Sq) (w : BitVec 26), Issues s n 0x1f w → mw w 0 14 = 0 → s.seqs[n].r.pc ≠ 0xFFFF →
    exec (.crc n w) s = .next (stepped s n fun r => setG r (mwD w) (crcWord (gOf r (mwA w)) (gOf r (mwB w)))))

/-- The immediate instructions ADDI to CMPI: the result in D, the flags and the next word; everything else stays
(R390, R391). -/
def Obligations.SeqImmediateOpsComplete : Prop :=
  (∀ (s : State) (n : Sq) (w : BitVec 26), Issues s n 0x20 w → s.seqs[n].r.pc ≠ 0xFFFF →
    exec (.addi n w) s = .next (stepped s n fun r => { setG r (mwD w) ((gOf r (mwA w) + immS w)) with
        z := decide ((gOf r (mwA w) + immS w) = 0), n := ((gOf r (mwA w) + immS w)).msb, c := decide (2 ^ 32 ≤ (gOf r (mwA w)).toNat + (immS w).toNat),
        v := ((gOf r (mwA w)).msb == (immS w).msb) && (((gOf r (mwA w) + immS w)).msb != (gOf r (mwA w)).msb) })) ∧
  (∀ (s : State) (n : Sq) (w : BitVec 26), Issues s n 0x21 w → s.seqs[n].r.pc ≠ 0xFFFF →
    exec (.andi n w) s = .next (stepped s n fun r => { setG r (mwD w) ((gOf r (mwA w) &&& immZ w)) with
        z := decide ((gOf r (mwA w) &&& immZ w) = 0), n := ((gOf r (mwA w) &&& immZ w)).msb, c := false, v := false })) ∧
  (∀ (s : State) (n : Sq) (w : BitVec 26), Issues s n 0x22 w → s.seqs[n].r.pc ≠ 0xFFFF →
    exec (.ori n w) s = .next (stepped s n fun r => { setG r (mwD w) ((gOf r (mwA w) ||| immZ w)) with
        z := decide ((gOf r (mwA w) ||| immZ w) = 0), n := ((gOf r (mwA w) ||| immZ w)).msb, c := false, v := false })) ∧
  (∀ (s : State) (n : Sq) (w : BitVec 26), Issues s n 0x23 w → s.seqs[n].r.pc ≠ 0xFFFF →
    exec (.xori n w) s = .next (stepped s n fun r => { setG r (mwD w) ((gOf r (mwA w) ^^^ immZ w)) with
        z := decide ((gOf r (mwA w) ^^^ immZ w) = 0), n := ((gOf r (mwA w) ^^^ immZ w)).msb, c := false, v := false })) ∧
  (∀ (s : State) (n : Sq) (w : BitVec 26), Issues s n 0x24 w → s.seqs[n].r.pc ≠ 0xFFFF →
    exec (.shli n w) s = .next (stepped s n fun r => { setG r (mwD w) ((gOf r (mwA w) <<< (mw w 0 5))) with
        z := decide ((gOf r (mwA w) <<< (mw w 0 5)) = 0), n := ((gOf r (mwA w) <<< (mw w 0 5))).msb, c := if (mw w 0 5) = 0 then r.c else (gOf r (mwA w)).getLsbD (32 - (mw w 0 5)) })) ∧
  (∀ (s : State) (n : Sq) (w : BitVec 26), Issues s n 0x25 w → s.seqs[n].r.pc ≠ 0xFFFF →
    exec (.shri n w) s = .next (stepped s n fun r => { setG r (mwD w) ((gOf r (mwA w) >>> (mw w 0 5))) with
        z := decide ((gOf r (mwA w) >>> (mw w 0 5)) = 0), n := ((gOf r (mwA w) >>> (mw w 0 5))).msb, c := if (mw w 0 5) = 0 then r.c else (gOf r (mwA w)).getLsbD ((mw w 0 5) - 1) })) ∧
  (∀ (s : State) (n : Sq) (w : BitVec 26), Issues s n 0x26 w → s.seqs[n].r.pc ≠ 0xFFFF →
    exec (.sari n w) s = .next (stepped s n fun r => { setG r (mwD w) (((gOf r (mwA w)).sshiftRight (mw w 0 5))) with
        z := decide (((gOf r (mwA w)).sshiftRight (mw w 0 5)) = 0), n := (((gOf r (mwA w)).sshiftRight (mw w 0 5))).msb, c := if (mw w 0 5) = 0 then r.c else (gOf r (mwA w)).getLsbD ((mw w 0 5) - 1) })) ∧
  (∀ (s : State) (n : Sq) (w : BitVec 26), Issues s n 0x29 w → mw w 22 4 = 0 → s.seqs[n].r.pc ≠ 0xFFFF →
    exec (.cmpi n w) s = .next (stepped s n fun r => { r with
        z := decide (gOf r (mwA w) - immS w = 0), n := (gOf r (mwA w) - immS w).msb, c := decide ((immS w).toNat ≤ (gOf r (mwA w)).toNat),
        v := ((gOf r (mwA w)).msb != (immS w).msb) && ((gOf r (mwA w) - immS w).msb != (gOf r (mwA w)).msb) })) ∧
  (∀ (s : State) (n : Sq) (w : BitVec 26), Issues s n 0x27 w → s.seqs[n].r.pc ≠ 0xFFFF →
    exec (.movi n w) s = .next (stepped s n fun r => setG r (mwD w) (immS w))) ∧
  (∀ (s : State) (n : Sq) (w : BitVec 26), Issues s n 0x28 w → s.seqs[n].r.pc ≠ 0xFFFF →
    exec (.lui n w) s = .next (stepped s n fun r =>
      setG r (mwD w) (BitVec.ofNat 32 (mw w 0 18 * 2 ^ 14 + (gOf r (mwD w)).toNat % 2 ^ 14))))

/-- LD, ST, LDN, STN, ATOM, MOVE and the port instructions IN, INC, OUT (R389, R391, R395, R396). Stores, moves and
OUT are held for the commit and change no memory yet. -/
def Obligations.SeqMemoryComplete : Prop :=
  (∀ (s : State) (n : Sq) (w : BitVec 26) (a : Nat), Issues s n 0x2c w → oddD w = false → s.seqs[n].r.pc ≠ 0xFFFF →
    scratchAddr s.seqs[n].r w = some a →
    exec (.ld n w) s = .next (stepped s n fun r =>
      loadInto r w (forwardOver false s.seqs[n].held a (smReadBytes s.seqs[n].scratch a (sizeOf4 w))))) ∧
  (∀ (s : State) (n : Sq) (w : BitVec 26), Issues s n 0x2c w → oddD w = false → scratchAddr s.seqs[n].r w = none →
    exec (.ld n w) s = .next (seqFault (ticked s n) n 8)) ∧
  (∀ (s : State) (n : Sq) (w : BitVec 26) (a : Nat), Issues s n 0x2d w → oddD w = false → s.seqs[n].r.pc ≠ 0xFFFF →
    scratchAddr s.seqs[n].r w = some a → s.seqs[n].held.length < 16 →
    exec (.st n w) s = .next (heldStep s n (.st a (storeFrom s.seqs[n].r w)))) ∧
  (∀ (s : State) (n : Sq) (w : BitVec 26) (a : Nat), Issues s n 0x2e w → oddD w = false → oddA w = false →
    s.seqs[n].r.pc ≠ 0xFFFF → netAddr s.seqs[n].r w = some a → (regionOf s (a / 64)).isSome = true →
    exec (.ldn n w) s = .next (updSeq (netReach (ticked s n) a) n fun q => { q with r := { loadInto { q.r with
      p := netPoison s a || netPoison s (a + sizeOf4 w - 1) } w (forwardOver true s.seqs[n].held a (netRead s a (sizeOf4 w)))
      with pc := q.r.pc + 1 } })) ∧
  (∀ (s : State) (n : Sq) (w : BitVec 26), Issues s n 0x2e w → oddD w = false → oddA w = false →
    netAddr s.seqs[n].r w = none → exec (.ldn n w) s = .next (seqFault (ticked s n) n 0xA)) ∧
  (∀ (s : State) (n : Sq) (w : BitVec 26) (a : Nat), Issues s n 0x2f w → oddD w = false → oddA w = false →
    s.seqs[n].r.pc ≠ 0xFFFF → netAddr s.seqs[n].r w = some a → s.seqs[n].held.length < 16 →
    exec (.stn n w) s = .next (heldStep s n (.stn a (storeFrom s.seqs[n].r w)))) ∧
  (∀ (s : State) (n : Sq) (w : BitVec 26), Issues s n 0x30 w → mw w 0 14 = 0 → oddA w = false →
    pairAt s.seqs[n].r (mwA w) + 4 ≤ 2 ^ 40 →
    exec (.atom n w) s = .next (consumeOp (ticked s n) n fun u => updSeq (netWrite (netReach { u with freeCtr := u.freeCtr + 1 }
      (pairAt s.seqs[n].r (mwA w))) (pairAt s.seqs[n].r (mwA w)) (leBytes 4 (BitVec.ofNat 32 (leNat (netRead u (pairAt s.seqs[n].r (mwA w)) 4)) +
        gOf u.seqs[n].r (mwB w)).toNat)) n fun q =>
      { q with r := setG q.r (mwD w) (BitVec.ofNat 32 (leNat (netRead u (pairAt s.seqs[n].r (mwA w)) 4))) })) ∧
  (∀ (s : State) (n : Sq) (w : BitVec 26), Issues s n 0x31 w → mw w 0 14 = 0 → oddA w = false →
    (mwD w).val % 2 = 0 → movesOf s.seqs[n] < 4 → s.seqs[n].r.pc ≠ 0xFFFF → s.seqs[n].held.length < 16 →
    (gOf s.seqs[n].r (mwB w)).toNat % 64 = 0 → (gOf s.seqs[n].r (mwB w)).toNat ≤ 2 ^ 20 →
    pairAt s.seqs[n].r (mwA w) + (gOf s.seqs[n].r (mwB w)).toNat ≤ 2 ^ 40 →
    pairAt s.seqs[n].r (mwD w) + (gOf s.seqs[n].r (mwB w)).toNat ≤ 2 ^ 40 →
    exec (.move n w) s = .next (heldStep s n (.move (pairAt s.seqs[n].r (mwA w)) (pairAt s.seqs[n].r (mwD w))
      (gOf s.seqs[n].r (mwB w)).toNat))) ∧
  (∀ (s : State) (n : Sq) (w : BitVec 26), Issues s n 0x32 w → mw w 0 10 = 0 → s.seqs[n].r.pc ≠ 0xFFFF →
    portOf12 w = 2 → exec (.inPort n w) s = .next (stepped { s with freeCtr := s.freeCtr + 1 } n fun r =>
      setG r (mwD w) (s.seqs[n].imask.setWidth 32))) ∧
  (∀ (s : State) (n : Sq) (w : BitVec 26), Issues s n 0x32 w → mw w 0 10 = 0 → s.seqs[n].r.pc ≠ 0xFFFF →
    portOf12 w ≠ 2 → ∃ v, exec (.inPort n w) s =
      .next (stepped { s with freeCtr := s.freeCtr + 1 } n fun r => setG r (mwD w) v)) ∧
  (∀ (s : State) (n : Sq) (w : BitVec 26), Issues s n 0x33 w → mw w 0 10 = 0 →
    exec (.inc n w) s = .next (consumeOp (ticked s n) n fun u => updSeq { u with freeCtr := u.freeCtr + 1 } n fun q =>
      { q with r := setG q.r (mwD w) (portRead u u.seqs[n] (portOf12 w)) })) ∧
  (∀ (s : State) (n : Sq) (w : BitVec 26), Issues s n 0x34 w → mw w 0 10 = 0 → s.seqs[n].r.pc ≠ 0xFFFF →
    s.seqs[n].held.length < 16 →
    exec (.outPort n w) s = .next (heldStep s n (.out (portOf12 w) (gOf s.seqs[n].r (mwD w)))))

/-- NOP, YIELD, COMMIT, HALT, FAULT, GETORD, DISPATCH, POST, EVT and IRET (R391, R396, R399, R403). -/
def Obligations.SeqControlComplete : Prop :=
  (∀ (s : State) (n : Sq), Issues s n 0x00 0 → s.seqs[n].r.pc ≠ 0xFFFF → exec (.nop n 0) s = .next (stepped s n id)) ∧
  (∀ (s s1 : State) (n : Sq) (w : BitVec 26), Issues s n 0x01 w → mw w 24 2 ≠ 3 → mw w 16 8 = 0 →
    advanceTo (release (ticked s n) n) n id = s1 → s1.seqs[n].st = .run → (restart s1 n).seqs[n].st = .run →
    exec (.yield n w) s = .next (yieldEnd (restart s1 n) n w)) ∧
  (∀ (s s1 : State) (n : Sq), Issues s n 0x02 0 → advanceTo (release (ticked s n) n) n id = s1 → s1.seqs[n].st = .run →
    exec (.commit n 0) s = .next (restart s1 n)) ∧
  (∀ (s s1 : State) (n : Sq), Issues s n 0x03 0 → advanceTo (release (ticked s n) n) n id = s1 → s1.seqs[n].st = .run →
    (restart s1 n).seqs[n].st = .run →
    exec (.halt n 0) s = .next (updSeq (restart s1 n) n fun q => { q with st := .halted, fcode := 0 })) ∧
  (∀ (s : State) (n : Sq) (w : BitVec 26), Issues s n 0x04 w →
    exec (.fault n w) s = .next (seqFault (updSeq (ticked s n) n fun q => { q with faultImm := mw w 0 8 }) n 9)) ∧
  (∀ (s : State) (n : Sq) (w : BitVec 26), Issues s n 0x05 w → (mwD w).val % 4 = 0 → mw w 0 22 = 0 →
    s.seqs[n].held = [] → s.seqs[n].netErr = false → s.seqs[n].r.pc ≠ 0xFFFF → s.seqs[n].queue = [] →
    ∃ t, exec (.getord n w) s = .next t ∧ t.seqs[n].r = { s.seqs[n].r with z := true, pc := s.seqs[n].r.pc + 1 } ∧
      t.seqs[n].snap = t.seqs[n].r ∧ t.seqs[n].queue = [] ∧ t.seqs[n].active = s.seqs[n].active) ∧
  (∀ (s : State) (n : Sq) (w : BitVec 26) (o : Order) (os : List Order), Issues s n 0x05 w → (mwD w).val % 4 = 0 →
    mw w 0 22 = 0 → s.seqs[n].held = [] → s.seqs[n].netErr = false → s.seqs[n].r.pc ≠ 0xFFFF → s.seqs[n].queue = o :: os →
    ∃ t, exec (.getord n w) s = .next t ∧ t.seqs[n].queue = os ∧ t.seqs[n].active = s.seqs[n].active ++ [o] ∧
      t.seqs[n].r.z = false ∧ t.seqs[n].r.pc = s.seqs[n].r.pc + 1 ∧ t.seqs[n].snap = t.seqs[n].r) ∧
  (∀ (s : State) (n : Sq) (w : BitVec 26), Issues s n 0x06 w → mw w 0 22 = 0 →
    (bankWord (seqBank s s.seqs[n]) ((gOf s.seqs[n].r (mwD w)).toNat % 2048)).toNat / 65536 = 0 →
    exec (.dispatch n w) s = .next (updSeq (fetched s n) n fun q => { q with ops := q.ops + 1, r := { q.r with
      pc := (bankWord (seqBank s s.seqs[n]) ((gOf s.seqs[n].r (mwD w)).toNat % 2048)).setWidth 16 } })) ∧
  (∀ (s : State) (n : Sq) (w : BitVec 26), Issues s n 0x07 w → mw w 0 14 = 0 → s.seqs[n].r.pc ≠ 0xFFFF →
    s.seqs[n].held.length < 16 →
    exec (.post n w) s = .next (heldStep s n (.post ((gOf s.seqs[n].r (mwD w)).setWidth 16)
      ((gOf s.seqs[n].r (mwA w)).setWidth 8) (gOf s.seqs[n].r (mwB w))))) ∧
  (∀ (s : State) (n : Sq) (w : BitVec 26), Issues s n 0x08 w → mw w 0 14 = 0 → (mwA w).val ≠ 15 →
    s.seqs[n].r.pc ≠ 0xFFFF → s.seqs[n].held.length < 16 →
    exec (.evt n w) s = .next (heldStep s n (.evt ((gOf s.seqs[n].r (mwD w)).setWidth 16) (gOf s.seqs[n].r (mwA w))
      (gOf s.seqs[n].r (regNext (mwA w))) (gOf s.seqs[n].r (mwB w))))) ∧
  (∀ (s : State) (n : Sq), Issues s n 0x09 0 →
    exec (.iret n 0) s =
      .next (updSeq (fetched s n) n fun q => { q with ops := q.ops + 1, inHandler := false, r := { q.r with pc := q.ilr } }))

/-- BR, CALL, RET, BRI and LOOP, taken and not taken, and the stack's faults (R392, R394, R397). -/
def Obligations.SeqBranchesComplete : Prop :=
  (∀ (s : State) (n : Sq) (w : BitVec 26), Issues s n 0x38 w → mw w 16 2 = 0 →
    condHolds s.seqs[n] (mw w 22 4) = true →
    exec (.br n w) s = .next (updSeq (fetched s n) n fun q => { q with ops := q.ops + 1, r := { q.r with pc := mwTarget w } })) ∧
  (∀ (s : State) (n : Sq) (w : BitVec 26) (x : Instr × Nat), x ∈ [(Instr.br n w, 0x38), (.call n w, 0x39), (.ret n w, 0x3a),
      (.bri n w, 0x3b)] → Issues s n x.2 w → mw w 16 2 = 0 → condHolds s.seqs[n] (mw w 22 4) = false →
    s.seqs[n].r.pc ≠ 0xFFFF → exec x.1 s = .next (stepped s n id)) ∧
  (∀ (s : State) (n : Sq) (w : BitVec 26), Issues s n 0x39 w → mw w 16 2 = 0 →
    condHolds s.seqs[n] (mw w 22 4) = true → s.seqs[n].r.stack.length < 8 →
    exec (.call n w) s = .next (updSeq (fetched s n) n fun q => { q with ops := q.ops + 1, r := { q.r with
      pc := mwTarget w, stack := (q.r.pc + 1) :: q.r.stack } })) ∧
  (∀ (s : State) (n : Sq) (w : BitVec 26), Issues s n 0x39 w → mw w 16 2 = 0 →
    condHolds s.seqs[n] (mw w 22 4) = true → 8 ≤ s.seqs[n].r.stack.length →
    exec (.call n w) s = .next (seqFault (ticked s n) n 5)) ∧
  (∀ (s : State) (n : Sq) (w : BitVec 26) (a : BitVec 16) (as : List (BitVec 16)), Issues s n 0x3a w → mw w 16 2 = 0 →
    condHolds s.seqs[n] (mw w 22 4) = true → s.seqs[n].r.stack = a :: as →
    exec (.ret n w) s = .next (updSeq (fetched s n) n fun q => { q with ops := q.ops + 1, r := { q.r with pc := a, stack := as } })) ∧
  (∀ (s : State) (n : Sq) (w : BitVec 26), Issues s n 0x3a w → mw w 16 2 = 0 →
    condHolds s.seqs[n] (mw w 22 4) = true → s.seqs[n].r.stack = [] →
    exec (.ret n w) s = .next (seqFault (ticked s n) n 6)) ∧
  (∀ (s : State) (n : Sq) (w : BitVec 26), Issues s n 0x3b w → mw w 16 2 = 0 →
    condHolds s.seqs[n] (mw w 22 4) = true →
    exec (.bri n w) s = .next (updSeq (fetched s n) n fun q => { q with ops := q.ops + 1, r := { q.r with
      pc := (gOf s.seqs[n].r (mwA w)).setWidth 16 } })) ∧
  (∀ (s : State) (n : Sq) (w : BitVec 26), Issues s n 0x3c w → mw w 16 2 = 0 → mw w 22 4 = 0 →
    gOf s.seqs[n].r (mwA w) ≠ 1 →
    exec (.loop n w) s = .next (updSeq (fetched s n) n fun q => { q with ops := q.ops + 1, r := { setG q.r (mwA w)
      (gOf s.seqs[n].r (mwA w) - 1) with pc := mwTarget w } })) ∧
  (∀ (s : State) (n : Sq) (w : BitVec 26), Issues s n 0x3c w → mw w 16 2 = 0 → mw w 22 4 = 0 →
    gOf s.seqs[n].r (mwA w) = 1 → s.seqs[n].r.pc ≠ 0xFFFF →
    exec (.loop n w) s = .next (stepped s n fun r => setG r (mwA w) 0))

/-- Orders and sequencer events: ORDER_POST (R386, R387), SEQ_EVENT_LINE (R385, R398), SEQ_TIMER_EXPIRY (R389),
WATCHDOG_EXPIRY (R400), NETWORK_ACCESS_TIMEOUT (R393), NETWORK_WRITE_ERROR (R396), MOVE_DONE (R391), STORE_AUDIT
(R408). -/
def Obligations.SeqEventsComplete : Prop :=
  (∀ (s : State) (n : Sq) (word : BitVec 128), powered s = true → s.seqs[n].st ≠ .off → s.fw.slip ≠ .paused →
    s.seqs[n].queue.length < 32 → exec (.orderPost n word) s = .next (wake (emit (updSeq s n fun q => { q with queue := q.queue ++
      [{ arg1 := word.extractLsb' 64 64, arg0 := word.extractLsb' 32 32, token := word.extractLsb' 16 16,
         origin := word.extractLsb' 11 5, entry := word.extractLsb' 0 11 }] }) (.orderAns n.val true)) n)) ∧
  (∀ (s : State) (n : Sq) (word : BitVec 128), powered s = true → s.seqs[n].st ≠ .off → s.fw.slip ≠ .paused →
    32 ≤ s.seqs[n].queue.length → exec (.orderPost n word) s =
      .next (emit (updSeq s n fun q => { q with ordFull := true }) (.orderAns n.val false))) ∧
  (∀ (s : State) (n : Sq) (k : Fin 16), powered s = true → k.val = 3 ∨ (roleLines n.val).contains k.val = true →
    exec (.seqEventLine n k) s = .next (setLine s n k.val)) ∧
  (∀ (s : State) (n : Sq) (t : Nat), powered s = true → s.seqs[n].timer = some t →
    passedNs s s.seqs[n].timerUs (t * 1000) = true →
    exec (.seqTimerExpiry n) s = .next (setLine (updSeq s n fun q => { q with timer := none }) n 5)) ∧
  (∀ (s : State) (n : Sq), powered s = true → s.seqs[n].st = .run →
    (passedNs s s.seqs[n].yieldUs (s.seqs[n].wdTime * 1000) = true → exec (.watchdogExpiry n) s = .next (seqFault s n 2)) ∧
    (atNetwork s n = true → exec (.networkAccessTimeout n) s = .next (seqFault s n 0xA)) ∧
    exec (.networkWriteError n) s = .next (updSeq s n fun q => { q with netErr := true })) ∧
  (∀ (s : State) (n : Sq) (src dst len : Nat) (ms : List (Nat × Nat × Nat)), powered s = true →
    s.seqs[n].moves = (src, dst, len) :: ms →
    exec (.moveDone n) s = .next (setLine (moveLines (updSeq s n fun q => { q with moves := ms }) src dst (len / 64)) n 4)) ∧
  (∀ (s : State) (digest : List Byte), live s = true → s.bw.started = false → s.sec.life = .field →
    s.seqDev.banks[(0 : Fin 2)].locked = true → bankFree s false = false → digest ≠ s.seqDev.banks[(0 : Fin 2)].digest →
    s.seqDev.auditOpen.contains 0 = false → bankFree s true = false →
    passedNs s s.seqDev.auditUs[(0 : Fin 2)] (s.seqDev.storeAudit * 1000000) = true →
    exec (.storeAudit 0 digest) s = .next (startBreakwater (report (updSeqDev s fun d =>
      { d with auditUs := vupd d.auditUs 0 fun _ => s.us, auditFail := true, auditOpen := 0 :: d.auditOpen }) (0x06, 0) .auditFail 3 0x0E 0 0 0 0 3) 9))

/-- The control store's and the sequencers' messages (R401, R404 to R407, R409 to R411, R534). -/
def Obligations.SeqMessagesComplete : Prop :=
  (∀ (s : State) (r : Req) (bank unsigned imgOfs imgLen sigOfs sigLen : Nat), bank ≤ 1 → unsigned ≤ 1 →
    imgOfs + imgLen ≤ 33554432 → sigOfs + sigLen ≤ 33554432 → s.fw.slip = .idle → s.seqDev.job = none →
    bankFree s (decide (bank = 1)) = true →
    Begins (.seqLoad r bank unsigned imgOfs imgLen sigOfs sigLen) s r
      { opc := 0x0A01, need := if unsigned = 1 then .fa else .cf, long := true }
      (updSeqDev (clearBank s (decide (bank = 1))) fun d =>
        { d with loading := bank + 1,
                 job := some { mb := r.mb, seq := r.seq, bankB := decide (bank = 1), unsigned := decide (unsigned = 1),
                               image := parseUc (staged s r.mb imgOfs imgLen), sigs := staged s r.mb sigOfs sigLen } })) ∧
  (∀ (s : State) (r : Req) (unsigned imgOfs imgLen sigOfs sigLen : Nat) (b : Fin 2), unsigned ≤ 1 →
    imgOfs + imgLen ≤ 33554432 → sigOfs + sigLen ≤ 33554432 → bankFree s (decide (b.val = 1)) = false →
    TurnsAway (.seqLoad r b.val unsigned imgOfs imgLen sigOfs sigLen) s r
      { opc := 0x0A01, need := if unsigned = 1 then .fa else .cf, long := true } 0x000B 0) ∧
  (∀ (s : State) (r : Req) (mask : BitVec 32) (ns : List Sq),
    (allSeqs.filter fun n => mask.getLsbD n.val && maySwap s n) = ns → ns ≠ [] → s.fw.slip = .idle →
    s.seqDev.swap = none → s.seqDev.swapRefused = false →
    Begins (.seqSwap r mask) s r { opc := 0x0A02, long := true } (requestSwap s ns (some (r.mb, r.seq)))) ∧
  (∀ (s : State) (r : Req) (n : Sq) (clear : BitVec 64), ∃ t,
    Completes (.seqGetStatus r n.val clear) s r { opc := 0x090C, need := .rd } t
      (leBytes 4 (seqStatus s.seqs[n]) ++ leBytes 4 (storeStatus s)) ∧ t.seqs[n].maxStep = 0 ∧
      t.seqs[n].wdog = w1c clear 23 s.seqs[n].wdog ∧ t.seqs[n].mchk = w1c clear 22 s.seqs[n].mchk ∧
      t.seqs[n].fault = w1c clear 21 s.seqs[n].fault ∧ t.seqs[n].ordFull = w1c clear 20 s.seqs[n].ordFull ∧
      t.seqDev.auditFail = w1c clear 57 s.seqDev.auditFail ∧ t.seqDev.loadReject = w1c clear 56 s.seqDev.loadReject ∧
      t.seqDev.parityErr = w1c clear 55 s.seqDev.parityErr) ∧
  (∀ (s : State) (r : Req) (n : Sq), s.seqs[n].st = .halted →
    Completes (.seqResume r n.val) s r { opc := 0x090D }
      (updSeq s n fun q => { q with st := .run, ops := 0, yieldUs := s.us }) []) ∧
  (∀ (s : State) (r : Req) (n : Sq), s.seqs[n].st ≠ .halted →
    TurnsAway (.seqResume r n.val) s r { opc := 0x090D } 0x000B 0) ∧
  (∀ (s : State) (r : Req) (ps : Params) (d : SeqDev), (s.sec.life ≠ .field ∨ asksFa seqPars ps = false) →
    applyPars seqPars (fun _ => []) ps s.seqDev = .ok d →
    Completes (.seqSetLimits r ps) s r { opc := 0x090E, need := needOf seqPars ps, setter := true } { s with seqDev := d } [])

/-- Before a sequencer's word issues: the 513th micro-operation without YIELD, a word with bad parity in a bank that
is not locked, a reserved opcode and a reserved field fault with their codes, and a fault aborts the step (R390,
R397, R400, R401, R405). -/
def Obligations.SeqFaultsFirst : Prop :=
  (∀ (s : State) (n : Sq) (w : BitVec 26), powered s = true → s.seqs[n].st = .run → 512 ≤ s.seqs[n].ops →
    (bankWord (seqBank s s.seqs[n]) s.seqs[n].r.pc.toNat).toNat / 2 ^ 26 ≠ 1 →
    exec (.nop n w) s = .next (seqFault s n 1)) ∧
  (∀ (s : State) (n : Sq) (w : BitVec 26), powered s = true → s.seqs[n].st = .run → s.seqs[n].ops < 512 →
    parityBad (seqBank s s.seqs[n]) (bankWord (seqBank s s.seqs[n]) s.seqs[n].r.pc.toNat) (BitVec.ofNat 32 w.toNat) = true →
    exec (.nop n w) s = .next (seqFault (updSeqDev (fetched s n) fun d => { d with parityErr := true }) n 3)) ∧
  (∀ (s : State) (n : Sq) (w : BitVec 26), powered s = true → s.seqs[n].st = .run → s.seqs[n].ops < 512 →
    (seqBank s s.seqs[n]).locked = true →
    reservedOp ((bankWord (seqBank s s.seqs[n]) s.seqs[n].r.pc.toNat).toNat / 2 ^ 26) = true →
    exec (.nop n w) s = .next (seqFault (fetched s n) n 4)) ∧
  (∀ (s : State) (n : Sq) (w : BitVec 26), Issues s n 0x10 w → mw w 0 14 ≠ 0 →
    exec (.add n w) s = .next (seqFault (fetched s n) n 4)) ∧
  (∀ (s : State) (n : Sq) (code : Nat), (seqFault s n code).seqs[n].held = [] ∧
    (seqFault s n code).seqs[n].r = s.seqs[n].snap ∧ (seqFault s n code).seqs[n].st = .halted ∧
    (seqFault s n code).seqs[n].fcode = code)

/-- The DRAM controller's commands. DRAM_READ (R364, R368, R370, R377, R380), DRAM_WRITE (R363, R367, R369),
DRAM_NARROW_WRITE, MERGE_ENTRY_TIMEOUT (R369), SCRUB_LINE (R24, R372), the order of service (R375). A whole line is
written with its poison state; a read corrects and counts, or marks the line DETECTED with its event; no command
reaches outside the regions. -/
def Obligations.DramAccessesComplete : Prop :=
  (∀ (s v : State) (line : Nat) (x : ReadResult) (me : DReq) (others : List DReq), powered s = true →
    (regionOf s line).isSome = true → granted s me others = true → request (portServed s me.port) (chanOf line) = v →
    mergeAt s line = none → foundIn (lineAt s line) x = .clean →
    exec (.dramRead ⟨line, me, others⟩ x none) s = .next (updDram v fun d =>
      { d with lastRead := lineData (lineAt s line), lastPoison := (lineAt s line).poison })) ∧
  (∀ (s : State) (line : Nat) (x : ReadResult) (me : DReq) (others : List DReq), powered s = true →
    (regionOf s line).isSome = true → granted s me others = true →
    mergeAt s line = none → foundIn (lineAt s line) x = .corrected →
    smSorted s.dram.lines = true → ∃ t, exec (.dramRead ⟨line, me, others⟩ x none) s = .next t ∧
      t.dram.ceCnt = satInc 255 s.dram.ceCnt ∧ t.dram.lastRead = lineData (lineAt s line) ∧
      t.dram.lastPoison = (lineAt s line).poison ∧ (lineAt t line).ceBits = false ∧
      lineData (lineAt t line) = lineData (lineAt s line) ∧ ∀ j, j ≠ line → lineAt t j = lineAt s j) ∧
  (∀ (s v : State) (line : Nat) (x : ReadResult) (b : List Byte) (g : BitVec 64 × Nat) (me : DReq) (others : List DReq),
    powered s = true → regionOf s line = some g → granted s me others = true →
    request (portServed s me.port) (chanOf line) = v →
    mergeAt s line = none → foundIn (lineAt s line) x = .uncorrectable b → smSorted s.dram.lines = true →
    exec (.dramRead ⟨line, me, others⟩ x none) s = .next (updDram
      (raise (putLine (updDram v fun d => { d with ueCnt := satInc 255 d.ueCnt, ue := true }) line
        { data := lineData { data := b }, poison := .detected }) .ue 2 0x0D 0 (line * 64) (line * 64 / 2 ^ 32) g.2) fun d =>
      { d with lastRead := lineData { data := b }, lastPoison := .detected })) ∧
  (∀ (s v : State) (line : Nat) (x : ReadResult) (e : MergeEnt) (me : DReq) (others : List DReq), powered s = true →
    (regionOf s line).isSome = true → granted s me others = true → request (portServed s me.port) (chanOf line) = v →
    mergeAt s line = some e → foundIn (lineAt s line) x = .clean →
    smSorted s.dram.lines = true → (s.dram.inject.find? fun i => i.1 = line) = none →
    exec (.dramRead ⟨line, me, others⟩ x none) s = .next (updDram (putLine (dropMerge v line) line
      { data := overlay (lineData (lineAt s line)) e, poison := (lineAt s line).poison }) fun d =>
      { d with lastRead := overlay (lineData (lineAt s line)) e, lastPoison := (lineAt s line).poison })) ∧
  (∀ (s v : State) (line : Nat) (x : ReadResult) (u : Consumer) (me : DReq) (others : List DReq), powered s = true →
    (regionOf s line).isSome = true → granted s me others = true → request (portServed s me.port) (chanOf line) = v →
    mergeAt s line = none → foundIn (lineAt s line) x = .clean → (lineAt s line).poison ≠ .clean →
    exec (.dramRead ⟨line, me, others⟩ x (some u)) s = .next (consumeLine (updDram v fun d =>
      { d with lastRead := lineData (lineAt s line), lastPoison := (lineAt s line).poison }) line (lineAt s line).poison u)) ∧
  (∀ (s : State) (line : Nat) (x : ReadResult) (u : Option Consumer) (bytes : List Byte) (p : Bool) (me : DReq)
    (others : List DReq), regionOf s line = none →
    exec (.dramRead ⟨line, me, others⟩ x u) s = .fault .noRegion ∧ exec (.dramWrite ⟨line, me, others⟩ bytes p) s = .fault .noRegion ∧
    exec (.dramNarrowWrite (line * 64) bytes) s = .fault .noRegion) ∧
  (∀ (s : State) (ch : Fin 2),
    (s.dram.chans[ch].sr = 0 → request s ch = updChan s ch fun c => { c with lastReq := s.us }) ∧
    (s.dram.chans[ch].sr = 1 → request s ch =
      updDram (updChan s ch fun c => { c with sr := 0, lastReq := s.us }) fun d => { d with sreAbort := true }) ∧
    (2 ≤ s.dram.chans[ch].sr → request s ch = updChan s ch fun c => { leaveSr s.us c with lastReq := s.us })) ∧
  (∀ (s : State) (line : Nat) (x : ReadResult) (u : Option Consumer) (bytes : List Byte) (p : Bool) (me : DReq)
    (others : List DReq), (regionOf s line).isSome = true → granted s me others = false →
    exec (.dramRead ⟨line, me, others⟩ x u) s = .next s ∧ exec (.dramWrite ⟨line, me, others⟩ bytes p) s = .next s) ∧
  (∀ (s v : State) (line : Nat) (bytes : List Byte) (p : Bool) (me : DReq) (others : List DReq), powered s = true →
    (regionOf s line).isSome = true → granted s me others = true → request (portServed s me.port) (chanOf line) = v →
    (s.dram.inject.find? fun i => i.1 = line) = none →
    exec (.dramWrite ⟨line, me, others⟩ bytes p) s = .next (putLine (dropMerge v line) line
      { data := bytes, poison := if p then .propagated else .clean })) ∧
  (∀ (s : State) (line : Nat) (l : DLine) (j : Nat), smSorted s.dram.lines = true →
    lineData (lineAt (putLine s line l) line) = lineData l ∧ (lineAt (putLine s line l) line).poison = l.poison ∧
    (j ≠ line → lineAt (putLine s line l) j = lineAt s j)) ∧
  (∀ (s v : State) (addr : Nat) (bytes : List Byte), powered s = true → bytes.length ≤ 63 → addr % 64 + bytes.length ≤ 64 →
    (regionOf s (addr / 64)).isSome = true → request s (chanOf (addr / 64)) = v → mergeAt s (addr / 64) = none →
    s.dram.merge.length < 64 → exec (.dramNarrowWrite addr bytes) s = .next (updDram v fun d => { d with merge := d.merge ++
      [{ line := addr / 64, since := s.us, bytes := bytes.zipIdx.map fun b => (addr % 64 + b.2, b.1) }] })) ∧
  (∀ (s v : State) (line : Nat) (x : ReadResult) (e : MergeEnt), powered s = true → mergeAt s line = some e → e.line = line →
    passedNs s e.since s.dram.mergeT = true → request s (chanOf line) = v → foundIn (lineAt s line) x = .clean →
    (s.dram.inject.find? fun i => i.1 = line) = none →
    exec (.mergeEntryTimeout line x) s = .next (putLine (dropMerge v line) line
      { data := overlay (lineData (lineAt s line)) e, poison := (lineAt s line).poison })) ∧
  (∀ (s : State) (line : Nat) (x : ReadResult) (e : MergeEnt) (b : List Byte), powered s = true →
    mergeAt s line = some e → e.line = line → passedNs s e.since s.dram.mergeT = true →
    foundIn (lineAt s line) x = .uncorrectable b →
    (s.dram.inject.find? fun i => i.1 = line) = none → smSorted s.dram.lines = true →
    ∃ t, exec (.mergeEntryTimeout line x) s = .next t ∧ t.dram.mergeUe = true ∧ t.dram.ue = true ∧
      (lineAt t line).poison = .detected ∧ lineData (lineAt t line) = overlay (lineData { data := b }) e) ∧
  (∀ (s : State) (due : List (Fin 4)) (c : Fin 4) (line : Nat) (x : ReadResult), powered s = true →
    s.dram.scrubStop = false → scrubClass s due = some c → nthLine (classRegions s c) s.dram.scrub[c].ptr = some line →
    (lineAt s line).poison = .clean → foundIn (lineAt s line) x = .clean → s.dram.scrub[c].ptr + 1 < classLines s c →
    exec (.scrubLine due x) s = .next (updDram (updScrub s c fun y =>
        { y with ptr := y.ptr + 1, progress := (y.ptr + 1) * 100 / classLines s c, lastUs := s.us })
      fun d => { d with scrubClsPtr := (c.val + 1) % 4 })) ∧
  (∀ (s : State) (due : List (Fin 4)) (c : Fin 4) (line : Nat) (x : ReadResult), powered s = true →
    s.dram.scrubStop = false → scrubClass s due = some c → nthLine (classRegions s c) s.dram.scrub[c].ptr = some line →
    (lineAt s line).poison ≠ .clean → s.dram.scrub[c].ptr + 1 < classLines s c →
    ∃ t, exec (.scrubLine due x) s = .next t ∧ t.dram.lines = s.dram.lines ∧ t.dram.scrub[c].ue = satInc 255 s.dram.scrub[c].ue ∧
      t.dram.scrub[c].ptr = s.dram.scrub[c].ptr + 1 ∧ t.dram.scrubClsPtr = (c.val + 1) % 4 ∧ t.out = s.out) ∧
  (∀ (s : State) (due : List (Fin 4)) (c : Fin 4), scrubClass s due = some c → c ∈ due ∧ scrubReady s c = true)

/-- Refresh, temperature, self-refresh and retraining: DRAM_REFRESH, TEMP_READ (R378, R379), SELF_REFRESH_ENTRY,
SELF_REFRESH_EXIT (R380), RETRAIN (R381). The DRC messages (R373, R374, R383, R384, R493). -/
def Obligations.DramUpkeepAndMessagesComplete : Prop :=
  ((∀ (s : State) (ch : Fin 2), powered s = true → s.dram.chans[ch].sr ≠ 2 →
    exec (.dramRefresh ch) s = .next (updDram (updChan s ch fun c => { c with refreshes := c.refreshes + 1 }) fun d =>
      { d with hot := d.hot || decide (85 < d.chans[(0 : Fin 2)].temp) || decide (85 < d.chans[(1 : Fin 2)].temp) })) ∧
  (∀ (s : State) (t0 t1 : Int), powered s = true → t0 ≤ 85 → t1 ≤ 85 → 3 ≤ s.dram.chans[(0 : Fin 2)].hotLow →
    3 ≤ s.dram.chans[(1 : Fin 2)].hotLow → ∃ t, exec (.dramTempRead t0 t1) s = .next t ∧ t.dram.hot = false ∧
      t.dram.chans[(0 : Fin 2)].temp = t0 ∧ t.dram.chans[(1 : Fin 2)].temp = t1 ∧ t.dram.overtemp = s.dram.overtemp) ∧
  (∀ (s : State) (t0 t1 : Int), powered s = true → 85 < t0 → t0 ≤ 95 → t1 ≤ 95 →
    ∃ t, exec (.dramTempRead t0 t1) s = .next t ∧ t.dram.hot = s.dram.hot ∧ t.dram.chans[(0 : Fin 2)].hotLow = 0) ∧
  (∀ (s : State) (t0 t1 : Int), powered s = true → 95 < t0 →
    ∃ t, exec (.dramTempRead t0 t1) s = .next t ∧ t.dram.overtemp = true ∧ t.dram.hot = s.dram.hot) ∧
  (∀ (s : State) (ch : Fin 2), live s = true → s.bw.started = false → s.dram.srEnable = true → standby s = true →
    s.dram.chans[ch].lastReq + s.dram.srIdle ≤ s.us →
    (s.dram.chans[ch].sr = 0 → s.dram.merge = [] →
      exec (.selfRefreshEntry ch) s = .next (updChan s ch fun c => { c with sr := 1 })) ∧
    (s.dram.chans[ch].sr = 1 → exec (.selfRefreshEntry ch) s = .next (updChan s ch fun c =>
      { c with sr := 2, srSince := s.us }))) ∧
  (∀ (s : State) (ch : Fin 2), powered s = true →
    (s.dram.chans[ch].sr = 1 → exec (.selfRefreshExit ch true) s = .next (updDram (updChan s ch fun c =>
      { c with sr := 0, lastReq := s.us }) fun d => { d with sreAbort := true })) ∧
    (s.dram.chans[ch].sr = 2 → exec (.selfRefreshExit ch true) s = .next (updChan s ch fun c => { c with sr := 3 })) ∧
    (s.dram.chans[ch].sr = 1 → s.bw.started = true → exec (.selfRefreshExit ch false) s = .next (updChan s ch fun c =>
      { c with sr := 0 })) ∧
    (s.dram.chans[ch].sr = 2 → s.bw.started = true → exec (.selfRefreshExit ch false) s = .next (updChan s ch fun c =>
      { c with sr := 3 })) ∧
    (s.dram.chans[ch].sr = 2 → s.bw.started = false → exec (.selfRefreshExit ch false) s = .next s)) ∧
  (∀ (s : State) (ch : Fin 2) (asked : Bool), powered s = true →
    (s.dram.chans[ch].sr = 3 → s.dram.chans[ch].srSince + 10000 < s.us → exec (.selfRefreshExit ch asked) s =
      .next (updChan s ch fun c => { c with sr := 0, fullDue := false, delay := 0, lastTemp := c.temp, trainUs := s.us })) ∧
    (s.dram.chans[ch].sr = 3 → s.us ≤ s.dram.chans[ch].srSince + 10000 → s.dram.chans[ch].fullDue = false →
      exec (.selfRefreshExit ch asked) s = .next (updChan s ch fun c => { c with sr := 0 }))) ∧
  (∀ (s : State) (ch : Fin 2) (d : Int), powered s = true → s.dram.scrubStop = false → s.dram.chans[ch].sr = 0 →
    retrainDue s ch = true →
    (-1 ≤ d → d ≤ 1 → exec (.dramRetrain ch d) s = .next (updChan s ch fun c => { c with lastTemp := c.temp, trainUs := s.us })) ∧
    (1 < d → d ≤ 8 → exec (.dramRetrain ch d) s = .next (updChan s ch fun c =>
      { c with delay := c.delay + d, lastTemp := c.temp, trainUs := s.us })) ∧
    (8 < d → exec (.dramRetrain ch d) s = .next (raise (updDram (updChan s ch fun c =>
      { c with delay := c.delay + 8, lastTemp := c.temp, fullDue := true, trainUs := s.us }) fun x => { x with trainDrift := true })
      .trainDrift 2 0x0D 0 ch.val (toPat 32 d))))) ∧
  ((∀ (s : State) (r : Req) (clear : BitVec 64), Completes (.drcGetStatus r clear) s r { opc := 0x090A, need := .rd }
    (updDram s fun d =>
      { d with ue := w1c clear 23 d.ue, poisonUsed := w1c clear 22 d.poisonUsed, mergeUe := w1c clear 21 d.mergeUe,
               trainDrift := w1c clear 20 d.trainDrift, overtemp := w1c clear 19 d.overtemp,
               sreAbort := w1c clear 18 d.sreAbort, ceCnt := 0, ueCnt := 0 })
    (leBytes 4 (drcStatus s) ++ leBytes 4 0 ++ s.dram.scrub.toList.flatMap fun x => leBytes 8 (scrubWord x))) ∧
  (∀ (s : State) (r : Req), s.dram.regions.length = 16 → Completes (.drcGetRegions r) s r { opc := 0x0909, need := .rd } s
    (s.dram.regions.flatMap fun w => leBytes 8 w.toNat)) ∧
  (∀ (s : State) (r : Req) (ps : Params) (d : Dram), applyPars scrubPars (fun _ => []) ps s.dram = .ok d →
    Completes (.drcSetScrub r ps) s r { opc := 0x0106, setter := true } { s with dram := d } []) ∧
  (∀ (s : State) (r : Req) (p : Fin 16) (ps : Params) (d : Dram), applyPars (portPars p) (fun _ => []) ps s.dram = .ok d →
    Completes (.drcSetPort r p.val ps) s r { opc := 0x0107, setter := true } { s with dram := d } []) ∧
  (∀ (s : State) (r : Req) (p : Fin 16) (w : BitVec 32), p.val < 4 →
    TurnsAway (.drcSetPort r p.val [(1, [w])]) s r { opc := 0x0107, setter := true } 0x000A 1) ∧
  (∀ (s : State) (r : Req) (ps : Params) (d : Dram), applyPars trainPars (fun _ => []) ps s.dram = .ok d →
    Completes (.drcSetTrain r ps) s r { opc := 0x0108, setter := true } { s with dram := d } []) ∧
  (∀ (s : State) (r : Req) (ps : Params) (d : Dram), applyPars drcPowerPars (fun _ => []) ps s.dram = .ok d →
    Completes (.drcSetPower r ps) s r { opc := 0x0B03, setter := true } { s with dram := d } []) ∧
  (∀ (s : State) (r : Req) (line : Nat) (flip : List Byte) (g : BitVec 64 × Nat), regionOf s line = some g → regClass g.1 ≠ 3 →
    Completes (.drcInject r (line * 64) flip) s r { opc := 0x090B, need := .db 3 }
      (updDram s fun d => { d with inject := (d.inject.filter fun e => e.1 ≠ line) ++ [(line, flip.take 72)] }) []) ∧
  (∀ (s : State) (r : Req) (line : Nat) (flip : List Byte) (g : BitVec 64 × Nat), regionOf s line = some g → regClass g.1 = 3 →
    TurnsAway (.drcInject r (line * 64) flip) s r { opc := 0x090B, need := .db 3 } 0x0007 0))

/-- Authorisation, lifecycle, identity and the spring: AUTH_CHALLENGE, AUTH_RESPONSE (R433, R478, R481), LC_CHANGE,
LC_RESET (R468, R469), DEBUG_UNLOCK (R492), ID_GET_CERT (R477), ATTEST_QUOTE (R491), SESSION_KEY_READY,
SESSION_KEY_SUCCESSOR (R474 to R476), TREE_CACHE_REBUILT (R473), SPRING_TEST_FAIL, RANDOMNESS_TIMEOUT (R483). A
message that needs an authorisation consumes it, and a failed response consumes its nonce. -/
def Obligations.SecurityComplete : Prop :=
  (∀ (s : State) (r : Req) (op : Nat) (digest : List Byte), s.mbx[r.mb].lockout = false → s.sec.springFailed = false →
    Completes (.authChallenge r op digest) s r { opc := 0x0C01, need := .rd }
      (updMbx (draw s 32).2 r.mb fun x =>
        { x with nonce := some (padTo 32 (draw s 32).1), nonceOp := op, nonceDigest := digest }) (padTo 32 (draw s 32).1)) ∧
  (∀ (s : State) (r : Req) (op : Nat) (digest : List Byte), s.mbx[r.mb].lockout = true →
    TurnsAway (.authChallenge r op digest) s r { opc := 0x0C01, need := .rd } 0x0009 0) ∧
  (∀ (s : State) (r : Req) (op : Nat) (digest : List Byte), s.mbx[r.mb].lockout = false → s.sec.springFailed = true →
    Defers (.authChallenge r op digest) s r { opc := 0x0C01, need := .rd } s) ∧
  (∀ (s : State) (r : Req) (ofs len : Nat) (nonce : List Byte) (fs : List Nat), ofs + len ≤ 33554432 →
    s.mbx[r.mb].nonce = some nonce → s.us :: recent s.us 3600000000 s.mbx[r.mb].authFails = fs →
    Admitted s r { opc := 0x0C02, need := .rd } → exec (.authResponse r ofs len) s = .next
      (match (blockRoles s (staged s r.mb ofs len)
          (shake32 (authString s r.mb nonce s.mbx[r.mb].nonceOp s.mbx[r.mb].nonceDigest))).filter
          (rolesArm s s.mbx[r.mb].nonceOp s.mbx[r.mb].nonceDigest) with
       | some rs => succeeded (updMbx s r.mb fun x =>
           { x with nonce := none, armed := some (s.mbx[r.mb].nonceOp, s.mbx[r.mb].nonceDigest), armedRoles := roleBits rs,
                    armedDm := endorsedDm (staged s r.mb ofs len) }) r { opc := 0x0C02, need := .rd } (.authResponse r ofs len) []
       | none => answer (raise (updMbx s r.mb fun x =>
           { x with nonce := none, authFails := fs, lockout := x.lockout || decide (8 ≤ fs.length) })
           .authFail 0 0x0F 0 r.mb.val) r 0x0C02 9 0 [])) ∧
  (∀ (s : State) (r : Req) (ofs len : Nat) (fs : List Nat), ofs + len ≤ 33554432 → s.mbx[r.mb].nonce = none →
    s.us :: recent s.us 3600000000 s.mbx[r.mb].authFails = fs →
    Admitted s r { opc := 0x0C02, need := .rd } → exec (.authResponse r ofs len) s = .next (answer
      (raise (updMbx s r.mb fun x => { x with nonce := none, authFails := fs, lockout := x.lockout || decide (8 ≤ fs.length) })
        .authFail 0 0x0F 0 r.mb.val) r 0x0C02 9 0 [])) ∧
  (∀ (s : State) (r : Req) (target : Nat) (need : List Nat), lcRoles s target = some need → s.sec.lcChange = none →
    s.sec.lcResetDue = false → (∀ k ∈ need, s.mbx[r.mb].armedRoles / 2 ^ k % 2 = 1) → s.sec.springFailed = false →
    Admitted s r { opc := 0x0C03, need := .sg, writesNor := true, long := true, body := leBytes 1 target } →
    exec (.lcChange r target) s = .next (accepted (updQuay (updSec (updMbx s r.mb fun x => { x with armed := none, armedRoles := 0 })
      fun x => { x with lcChange := some (target, r.mb, r.seq), lcDm := s.mbx[r.mb].armedDm }) fun q => { q with stopFetch := true })
      r { opc := 0x0C03, need := .sg, writesNor := true, long := true, body := leBytes 1 target } (.lcChange r target))) ∧
  (∀ (s : State), s.sec.lcResetDue = true → exec .lcReset s = .next (intoReset s)) ∧
  (∀ (s : State) (r : Req) (scope : BitVec 32), scope.toNat < 32 → s.sec.life = .field →
    Admitted s r { opc := 0x0C04, need := .sg, body := leBytes 4 scope.toNat } →
    exec (.debugUnlock r scope) s = .next (answer (raise (updSec (updMbx s r.mb fun x => { x with armed := none, armedRoles := 0 })
      fun x => { x with debugScope := x.debugScope ||| scope.setWidth 5 }) (.numbered 0x300B) 0 0x03 0 scope.toNat) r 0x0C04 0 0 [])) ∧
  (∀ (s : State) (r : Req) (ofs len : Nat), len ≤ 2016 → s.sec.chainOk = true → ofs < s.nv.certChain.length →
    Completes (.idGetCert r ofs len) s r { opc := 0x0C05, need := .rd } s ((s.nv.certChain.drop ofs).take len)) ∧
  (∀ (s : State) (r : Req) (ofs len : Nat), len ≤ 2016 → s.sec.chainOk = false → s.nv.csr ≠ [] → ofs < s.nv.csr.length →
    Completes (.idGetCert r ofs len) s r { opc := 0x0C05, need := .rd } s ((s.nv.csr.drop ofs).take len)) ∧
  (∀ (s : State) (r : Req) (nonce : List Byte), s.sec.life ≠ .blank →
    Begins (.attestQuote r nonce) s r { opc := 0x0C06, need := .rd, long := true }
      (updSec s fun x => { x with quotes := x.quotes ++ [{ mb := r.mb, seq := r.seq, nonce := nonce }] })) ∧
  (∀ (s : State), canCertify s = true → s.sec.sess = none →
    exec .sessionKeyReady s = .next (updSec (newSession s).2 fun x => { x with sess := (newSession s).1 })) ∧
  (∀ (s : State) (k : SessKey), canCertify s = true → s.sec.sess = some k → s.sec.successor = none → 64512 ≤ k.qidx →
    exec .sessionKeySuccessor s = .next (updSec (newSession s).2 fun x => { x with successor := (newSession s).1 })) ∧
  (∀ (s : State), powered s = true → s.sec.treeReady = false → s.nv.otp.iseed.isSome = true → s.sec.identityLost = false →
    exec .treeCacheRebuilt s = .next (updNv (updSec s fun x => { x with treeReady := true })
      fun v => { v with treeCache := v.treeCache || !s.bw.inhibit })) ∧
  (∀ (s : State) (test : Nat), powered s = true → s.sec.springFailed = false →
    (recent s.us 60000000 s.sec.springFails).length < 2 →
    exec (.springTestFail test) s = .next (raise (updSec s fun x =>
      { x with springFails := s.us :: recent s.us 60000000 s.sec.springFails, springRestarted := true }) (.numbered 0x3005) 0 0x03 0 test)) ∧
  (∀ (s : State) (test : Nat), powered s = true → s.sec.springFailed = false →
    2 ≤ (recent s.us 60000000 s.sec.springFails).length →
    ∃ t, exec (.springTestFail test) s = .next t ∧ t.sec.springFailed = true ∧ t.sec.springRestarted = true) ∧
  (∀ (s : State) (r : Req), s.sec.springFailed = true → s.mbx[r.mb].waitOp = some (0x0C01, r.seq) →
    exec (.randomnessTimeout r 0x0C01) s = .next (lateAnswer s r.mb 0x000B 0 []))

/-- SECURITY_SEND, SECURITY_RECEIVE and the Opal methods (R331, R487 to R490): a method's own status, a key
unwrapped for an authority that unlocks, a namespace locked both ways whose slot is zeroised, and the crypto-erases. -/
def Obligations.OpalComplete : Prop :=
  (∀ (s : State) (t : Tag) (r : TagRec) (m : OpalMethod), AdminReady s t r 0x81 → r.cmd.dw10 / 2 ^ 24 % 256 = 1 →
    s.bw.inhibit = false → exec (.securitySend t m) s = .next (finishOk (opalRun s m) r.tag)) ∧
  (∀ (s : State) (t : Tag) (r : TagRec) (m : OpalMethod), AdminReady s t r 0x81 → r.cmd.dw10 / 2 ^ 24 % 256 ≠ 1 →
    exec (.securitySend t m) s = .next (finish s r.tag (stG 0x02))) ∧
  (∀ (s : State) (t : Tag) (r : TagRec) (m : OpalMethod), AdminReady s t r 0x81 → r.cmd.dw10 / 2 ^ 24 % 256 = 1 →
    s.bw.inhibit = true → m ≠ .plain → exec (.securitySend t m) s = .next (updTag s r.tag fun x => { x with stage := 2 })) ∧
  (∀ (s : State) (t : Tag) (r : TagRec), AdminReady s t r 0x82 → r.cmd.dw10 / 2 ^ 24 % 256 = 1 →
    exec (.securityReceive t) s = .next (finishOk (sendData (commitTag (sheet s (min r.cmd.dw11 4096) []).2 r.tag) r.tag
      (sheet s (min r.cmd.dw11 4096) []).1) r.tag)) ∧
  (∀ (s : State) (t : Tag) (r : TagRec), AdminReady s t r 0x82 → r.cmd.dw10 / 2 ^ 24 % 256 ≠ 1 →
    exec (.securityReceive t) s = .next (finish s r.tag (stG 0x02))) ∧
  (∀ (s : State) (auth nsid : Nat) (rd wr : Bool) (l : Lock), lockAt s nsid = some l → l.unlockers.contains auth = true →
    opalAuthed s auth nsid = true →
    opalRun s (.setLock auth nsid rd wr) = opalAns (applyLock s auth nsid { l with readLocked := rd, writeLocked := wr }) 0) ∧
  (∀ (s : State) (auth nsid : Nat) (l : Lock), l.readLocked = true → l.writeLocked = true →
    applyLock s auth nsid l = clearSlot (putLock s nsid (some l)) nsid) ∧
  (∀ (s : State) (auth nsid : Nat) (us : List Nat), opalAdminOn s auth = false →
    opalRun s (.enable auth nsid us) = opalAns s 1 ∧ opalRun s (.grant auth nsid us) = opalAns s 1 ∧
    opalRun s (.disable auth nsid) = opalAns s 1) ∧
  (∀ (s : State) (auth nsid : Nat) (cred : List Byte), live s = true → s.bw.started = false →
    s.nv.opalOwner.contains (auth, shake32 cred) = false → exec (.opalAuthenticate auth nsid cred) s = .next (opalAns s 1)) ∧
  (∀ (s : State) (auth nsid : Nat) (cred : List Byte) (l : Lock), live s = true → s.bw.started = false →
    s.nv.opalOwner.contains (auth, shake32 cred) = true → lockAt s nsid = some l → l.unlockers.contains auth = true →
    ∃ t, exec (.opalAuthenticate auth nsid cred) s = .next t ∧ t.sec.opalStatus = 0 ∧ opalAuthed t auth nsid = true ∧
      t.sec.slots = (match unwrapBy s nsid auth with
        | some mek => (nsid - 1, mek) :: s.sec.slots.filter fun e => e.1 ≠ nsid - 1
        | none => s.sec.slots)) ∧
  (∀ (s : State) (n : Ns), nsAt s n.nsid = some n → eraseReady s [n] = true →
    exec (.opalGenkey n.nsid) s = .next (opalAns (cryptoErase s n) 0)) ∧
  (∀ (s : State), eraseReady s s.nv.namespaces = true →
    exec .opalRevert s = .next (forEach s.nv.namespaces (updSec (updNv s fun v => { v with locks := [], opalOwner := [] })
      fun x => { x with opalSessions := [], opalStatus := 0 }) cryptoErase) ∧
    exec .opalRevertsp s = .next (forEach s.nv.namespaces (updSec (updNv s fun v =>
      { v with locks := [], opalOwner := v.opalOwner.filter fun e => decide (e.1 < 0x900010000) })
      fun x => { x with opalSessions := [], opalStatus := 0 }) cryptoErase))

/-- Firmware: Firmware Commit by its action (R526), FW_COMMIT, FW_ACTIVATE, FW_GET_SLOTS (R445, R518, R526) and
SLIPWAY_BACKOUT (R533). -/
def Obligations.FirmwareComplete : Prop :=
  (∀ (s : State) (t : Tag) (r : TagRec), AdminReady s t r 0x10 → caOf r.cmd = 0 → 2 < commitSlot s (fsOf r.cmd) ∨
      commitSlot s (fsOf r.cmd) = s.boot.slot → exec (.firmwareCommitCa000 t) s = .next (finish s r.tag (stC 0x06))) ∧
  (∀ (s : State) (t : Tag) (r : TagRec), AdminReady s t r 0x10 → caOf r.cmd = 0 → commitSlot s (fsOf r.cmd) ≤ 2 →
    commitSlot s (fsOf r.cmd) ≠ s.boot.slot → pkgReason s (downloaded s) = none →
    exec (.firmwareCommitCa000 t) s = .next (finishOk (updSlot s (commitSlot s (fsOf r.cmd)) fun x =>
      { x with pkg := some (downloaded s), invalid := false }) r.tag)) ∧
  (∀ (s : State) (t : Tag) (r : TagRec), AdminReady s t r 0x10 → 4 ≤ caOf r.cmd →
    exec (.firmwareCommitCa000 t) s = .next (finish s r.tag (stG 0x02))) ∧
  (∀ (s : State) (t : Tag) (r : TagRec), AdminReady s t r 0x10 → caOf r.cmd = 1 → commitSlot s (fsOf r.cmd) ≤ 2 →
    commitSlot s (fsOf r.cmd) ≠ s.boot.slot → pkgReason s (downloaded s) = none →
    exec (.firmwareCommitCa001 t) s = .next (finishOk (markNext (updSlot s (commitSlot s (fsOf r.cmd)) fun x =>
      { x with pkg := some (downloaded s), invalid := false }) (commitSlot s (fsOf r.cmd))) r.tag)) ∧
  (∀ (s : State) (t : Tag) (r : TagRec) (c k : Nat), AdminReady s t r 0x10 → caOf r.cmd = 1 → commitSlot s (fsOf r.cmd) ≤ 2 →
    commitSlot s (fsOf r.cmd) ≠ s.boot.slot → pkgReason s (downloaded s) = some (c, k) →
    ∃ u, exec (.firmwareCommitCa001 t) s = .next (finish u r.tag (stC 0x07))) ∧
  (∀ (s : State) (t : Tag) (r : TagRec) (x : Slot) (p : Package), AdminReady s t r 0x10 → caOf r.cmd = 2 →
    slotAt s (fsOf r.cmd) = some x → x.pkg = some p → pkgReason s p = none →
    exec (.firmwareCommitCa010 t) s = .next (finishOk (markNext s (fsOf r.cmd)) r.tag)) ∧
  (∀ (s : State) (t : Tag) (r : TagRec), AdminReady s t r 0x10 → caOf r.cmd = 3 → commitSlot s (fsOf r.cmd) ≤ 2 →
    commitSlot s (fsOf r.cmd) ≠ s.boot.slot → pkgReason s (downloaded s) = none →
    exec (.firmwareCommitCa011 t) s = .next (slipForTag (markNext (updSlot s (commitSlot s (fsOf r.cmd)) fun x =>
      { x with pkg := some (downloaded s), invalid := false }) (commitSlot s (fsOf r.cmd))) r (commitSlot s (fsOf r.cmd)))) ∧
  (∀ (s : State) (r : Req) (slot next io il so sl : Nat), io + il ≤ 33554432 → so + sl ≤ 33554432 → next ≤ 1 →
    (slot = 1 ∨ slot = 2) → slot ≠ s.boot.slot →
    Begins (.fwCommit r slot next io il so sl) s r { opc := 0x0A03, writesNor := true, long := true } (updFw s fun w =>
      { w with jobs := w.jobs ++ [{ mb := r.mb, seq := r.seq, slot := slot, next := decide (next = 1),
                                    pkg := parsePkg (staged s r.mb io il) (staged s r.mb so sl) }] })) ∧
  (∀ (s : State) (r : Req) (slot next io il so sl : Nat), io + il ≤ 33554432 → so + sl ≤ 33554432 → next ≤ 1 →
    (slot = 1 ∨ slot = 2) → slot = s.boot.slot →
    TurnsAway (.fwCommit r slot next io il so sl) s r { opc := 0x0A03, writesNor := true, long := true } 0x000B 0) ∧
  (∀ (s : State) (r : Req) (next io il : Nat), io + il ≤ 33554432 → next ≤ 1 → s.sec.life = .field →
    TurnsAway (.fwCommit r 0xF0 next io il 0 0) s r { opc := 0x0A03, writesNor := true, long := true } 0x0006 0) ∧
  (∀ (s : State) (r : Req) (slot : Nat) (x : Slot), slotAt s slot = some x → s.fw.slip = .idle → x.next = true →
    s.seqDev.swap = none → s.seqDev.job = none →
    Begins (.fwActivate r slot) s r { opc := 0x0A04, long := true } (updFw s fun w =>
      { w with slip := .s1, slipSlot := slot, slipMb := r.mb.val, slipSeq := r.seq, slipTag := none })) ∧
  (∀ (s : State) (r : Req) (slot : Nat) (x : Slot), slotAt s slot = some x → s.fw.slip ≠ .idle ∨ x.next = false →
    TurnsAway (.fwActivate r slot) s r { opc := 0x0A04, long := true } 0x000B 0) ∧
  (∀ (s : State) (aux : Nat), live s = true → s.bw.started = false → s.fw.slip = .paused → (aux = 1 ∨ aux = 2) →
    s.seqDev.swap = none → exec (.slipwayBackout aux) s =
      .next (slipEnd (raise (updSeqDev s fun d => { d with swap := none }) (.numbered 0xF806) 2 0x12 0 aux (s.us - s.fw.pauseUs)) 0x000B aux)) ∧
  (∀ (s : State) (r : Req), ∃ p, Completes (.fwGetSlots r) s r { opc := 0x0A05, need := .rd } s p ∧
    p = leBytes 4 2 ++ ([1, 2].flatMap fun k => match slotAt s k with
      | some x => leBytes 4 ((x.pkg.map (·.version)).getD 0) ++
          leBytes 4 (b2n (match x.pkg with | some p => pkgValid s p && !x.invalid | none => false) +
            2 * b2n (decide (s.boot.slot = k)) + 4 * b2n x.next)
      | none => []))

/-- The recorder, the counters and the incident table: EVENT_FLUSH (R502), EVT_SET_CURSOR, EVT_READ (R504),
EVT_CLEAR (R505), CTR_READ (R506), COUNTER_BLOCK_WRITE (R507, R514), POWER_ON_SECOND (R508), INCIDENT_CLOSE,
HBM_GET_INCIDENT (R511, R512). -/
def Obligations.RecorderComplete : Prop :=
  (∀ (s : State) (a b : Bool), norFree s = true → flushDue s = true → exec (.eventFlush a b) s =
    .next (coverDrops (flushPage (updEvr s fun v => { v with buf := v.buf.drop 8 }) a b (s.evr.buf.take 8)))) ∧
  (∀ (s : State) (a b : Bool), (norFree s && flushDue s) = false → exec (.eventFlush a b) s = .next s) ∧
  (∀ (s : State) (r : Req) (pos : Nat), Completes (.evtSetCursor r 1 pos) s r { opc := 0x0701, need := .rd }
    (updMbx s r.mb fun x => { x with cursor := oldestRec s, cursorSet := true }) []) ∧
  (∀ (s : State) (r : Req) (pos : Nat), Completes (.evtSetCursor r 2 pos) s r { opc := 0x0701, need := .rd }
    (updMbx s r.mb fun x => { x with cursor := s.evr.nextRecno, cursorSet := true }) []) ∧
  (∀ (s : State) (r : Req) (pos : Nat), serialLt s.evr.nextRecno pos = false → serialLt pos (oldestRec s) = false →
    Completes (.evtSetCursor r 0 pos) s r { opc := 0x0701, need := .rd }
      (updMbx s r.mb fun x => { x with cursor := pos, cursorSet := true }) []) ∧
  (∀ (s : State) (r : Req) (pos : Nat), serialLt s.evr.nextRecno pos = true →
    TurnsAway (.evtSetCursor r 0 pos) s r { opc := 0x0701, need := .rd } 0x000E 0) ∧
  (∀ (s : State) (r : Req) (n : Nat) (rs : List EvRec) (x : EvRec), n ≤ 62 →
    ((heldRecs s).filter fun e => serialLe (cursorOf s r.mb) e.recno).take n = rs → rs.getLast? = some x →
    Completes (.evtRead r n) s r { opc := 0x0702, need := .rd }
      (updMbx s r.mb fun y => { y with cursor := (x.recno + 1) % 2 ^ 32, cursorSet := true })
      (leBytes 4 rs.length ++ leBytes 4 ((x.recno + 1) % 2 ^ 32) ++ rs.flatMap evBytes)) ∧
  (∀ (s : State) (r : Req), s.evr.dropped = 0 → Admitted s r { opc := 0x0703, need := .sg, writesNor := true } →
    exec (.evtClear r) s = .next (answer (clearRing (updMbx s r.mb fun x => { x with armed := none, armedRoles := 0 })
      (clearRecord s r.mb s.mbx[r.mb].armedRoles)) r 0x0703 0 0 [])) ∧
  (∀ (s : State) (e : EvRec), (clearRing s e).evr = { s.evr with buf := [], nextRecno := (s.evr.nextRecno + 1) % 2 ^ 32 }) ∧
  (∀ (s : State) (r : Req), Completes (.ctrRead r 0 0) s r { opc := 0x0704, need := .rd } s (u64s (devCtrs s))) ∧
  (∀ (s : State) (r : Req) (h : Hd), inDrive s h = true →
    Completes (.ctrRead r 1 h.val) s r { opc := 0x0704, need := .rd } s (u64s (headCtrs s.ctr.heads[h]))) ∧
  (∀ (s : State) (r : Req) (a : Act), headsOf s a ≠ [] →
    Completes (.ctrRead r 2 a.val) s r { opc := 0x0704, need := .rd } s (u64s (actCtrs s.ctr.acts[a]))) ∧
  (∀ (s : State), norFree s = true → 600 ≤ s.aon.sinceBlock →
    exec (.counterBlockWrite true true) s = .next (putCtrBlock s true true)) ∧
  (∀ (s : State), ∃ t, exec .powerOnSecond s = .next t ∧ t.ctr.dev.powerOnS = ctrAdd s.ctr.dev.powerOnS 1 ∧
    t.aon.sinceBlock = s.aon.sinceBlock + 1 ∧ t.nv = s.nv ∧ t.mbx = s.mbx) ∧
  (∀ (s : State) (i : Fin 256), exec (.incidentClose i) s = .next (closeIncident s i)) ∧
  (∀ (s : State) (r : Req) (i : Fin 256),
    Completes (.hbmGetIncident r i.val) s r { opc := 0x0705, need := .rd } s (incidentBytes s.incidents[i]))

/-- The auditor and re-initialisation: AUDIT_EPOCH_CLOSE (R26 to R29), HBM_GET_LEDGER (R30), and ENGINE_REINIT of
each engine (R28, R354, R402, R434, R437). -/
def Obligations.AuditorComplete : Prop :=
  (∀ (s : State) (rep : EpochReport), audits s = true → s.ledger.skip = false → failed s rep = [] →
    exec (.auditEpochClose rep) s = .next { updQuay s (fun q => { q with pciCred := rep.pcie }) with
      ledger := { s.ledger with epoch := s.ledger.epoch + 1, skip := s.bw.inhibit, acting := decide (s.sec.life = .field),
                                excluded := [] } }) ∧
  (∀ (s : State) (rep : EpochReport), audits s = true → s.ledger.skip = false → failed s rep ≠ [] →
    exec (.auditEpochClose rep) s = .next { updQuay (breach s rep (failed s rep)) (fun q => { q with pciCred := rep.pcie }) with
      ledger := { (breach s rep (failed s rep)).ledger with
        epoch := s.ledger.epoch + 1, skip := s.bw.inhibit, acting := decide (s.sec.life = .field) } }) ∧
  (∀ (s : State) (rep : EpochReport), audits s = false → exec (.auditEpochClose rep) s =
    .next { s with ledger := { s.ledger with epoch := s.ledger.epoch + 1, skip := s.bw.inhibit, acting := false } }) ∧
  (∀ (s : State) (rep : EpochReport), rep.freeTags + rep.inflightTags ≠ 4096 → 1 ∈ failed s rep) ∧
  (∀ (s : State) (rep : EpochReport), (∃ x ∈ rep.tally, x.1 ≠ x.2) → 5 ∈ failed s rep) ∧
  (∀ (s : State) (r : Req) (clear : BitVec 64), ∃ t,
    Completes (.hbmGetLedger r clear) s r { opc := 0x0901, need := .rd } t (leBytes 4 (ledgerWord s)) ∧
    t.ledger.breachTag = w1c clear 0 s.ledger.breachTag ∧ t.ledger.breachPond = w1c clear 1 s.ledger.breachPond ∧
    t.ledger.breachPcieCr = w1c clear 2 s.ledger.breachPcieCr ∧ t.ledger.breachMbxCr = w1c clear 3 s.ledger.breachMbxCr ∧
    t.ledger.breachTally = w1c clear 4 s.ledger.breachTally ∧ t.ledger.breachCompl = w1c clear 5 s.ledger.breachCompl) ∧
  (∀ (s : State) (r : Req) (f : Fn), Completes (.engineReinitFunction r f.val) s r { opc := 0x0109, need := .op, scope := some f.val }
    (reinitFn s f) []) ∧
  (∀ (s : State) (r : Req), Completes (.engineReinitQuay r) s r { opc := 0x0109 } (reinitQuay s) []) ∧
  (∀ (s : State) (r : Req) (n : Sq), Completes (.engineReinitSequencer r n.val) s r { opc := 0x0109 } (reinitSeq s n) []) ∧
  (∀ (s : State) (r : Req) (m : Mb), m ≠ r.mb → Completes (.engineReinitMailbox r m.val) s r { opc := 0x0109 } (reinitMbx s m) []) ∧
  (∀ (s : State) (r : Req), TurnsAway (.engineReinitMailbox r r.mb.val) s r { opc := 0x0109 } 0x000B 0) ∧
  (∀ (s : State) (r : Req), Completes (.engineReinitTally r) s r { opc := 0x0109 } s []) ∧
  (∀ (s : State) (r : Req) (k : Fin 4), Completes (.engineReinitParity r k.val) s r { opc := 0x0109 } (reinitParity s k) []) ∧
  (∀ (s : State) (r : Req) (k : Fin 2), Completes (.engineReinitDecoder r k.val) s r { opc := 0x0109 } (reinitDecoder s k) [])

/-- Mailbox events: MBX_REQ_TAIL_WRITE, MBX_RESP_HEAD_WRITE, MBX_NTF_HEAD_WRITE, REGISTER_WRITE (R413 to R417),
MAILBOX_REQUEST_START (R421 to R423), UART_FRAME, NVME_MI_COMMAND (R412, R419, R420), L_MESSAGE_DONE (R424),
NONCE_EXPIRY, AUTH_ARM_EXPIRY, AUTH_LOCKOUT_END (R433). A request as its mailbox takes it (R421, R422): a bad
envelope is MALFORMED at the lowest bad offset, a wrong SEQ is refused with the SEQ expected, a repeated request
gets the stored response, and an unknown OPCODE is refused. -/
def Obligations.MailboxEventsAndRequests : Prop :=
  ((∀ (s : State) (mb : Mb) (v : BitVec 32), barUp s mb = true → s.mbx[mb].enable = true → v.toNat < 64 →
    (v.toNat + 64 - s.mbx[mb].reqTail) % 64 ≤ mbxFree s.mbx[mb] →
    exec (.mbxReqTailWrite mb v) s = .next (updMbx s mb fun m => { m with reqTail := v.toNat }) ∧
    exec (.registerWrite mb 0x00C v) s = .next (updMbx s mb fun m => { m with reqTail := v.toNat })) ∧
  (∀ (s : State) (mb : Mb) (v : BitVec 32), barUp s mb = true → s.mbx[mb].enable = false ∨ 64 ≤ v.toNat ∨
      mbxFree s.mbx[mb] < (v.toNat + 64 - s.mbx[mb].reqTail) % 64 →
    exec (.mbxReqTailWrite mb v) s = .next (updMbx s mb fun m => { m with dbErr := true })) ∧
  (∀ (s : State) (mb : Mb) (v : BitVec 32), barUp s mb = true →
    (v.toNat % 64 + 64 - s.mbx[mb].respHead) % 64 ≤ (s.mbx[mb].respTail + 64 - s.mbx[mb].respHead) % 64 →
    exec (.mbxRespHeadWrite mb v) s = .next (updMbx s mb fun m => { m with respHead := v.toNat % 64 })) ∧
  (∀ (s : State) (mb : Mb) (v : BitVec 32), barUp s mb = true →
    (s.mbx[mb].respTail + 64 - s.mbx[mb].respHead) % 64 < (v.toNat % 64 + 64 - s.mbx[mb].respHead) % 64 →
    exec (.mbxRespHeadWrite mb v) s = .next (updMbx s mb fun m => { m with dbErr := true })) ∧
  (∀ (s : State) (mb : Mb) (v : BitVec 32), barUp s mb = true →
    (v.toNat % 128 + 128 - s.mbx[mb].ntfHead) % 128 ≤ ntfUsed s.mbx[mb] →
    exec (.mbxNtfHeadWrite mb v) s = .next (updMbx s mb fun m => { m with ntfHead := v.toNat % 128 })) ∧
  (∀ (s : State) (mb : Mb) (v : BitVec 32), barUp s mb = true →
    ntfUsed s.mbx[mb] < (v.toNat % 128 + 128 - s.mbx[mb].ntfHead) % 128 →
    exec (.mbxNtfHeadWrite mb v) s = .next (updMbx s mb fun m => { m with dbErr := true })) ∧
  (∀ (s : State) (mb : Mb) (v : BitVec 32), barUp s mb = true →
    exec (.registerWrite mb 0x004 v) s = .next (updMbx s mb fun m => { m with
      enable := v.getLsbD 31, respInt := v.getLsbD 30, ntfInt := v.getLsbD 29, vector := v.toNat % 2048 }) ∧
    exec (.registerWrite mb 0x008 v) s = .next (updMbx s mb fun m => { m with
      dbErr := m.dbErr && !v.getLsbD 23, ntfOvf := m.ntfOvf && !v.getLsbD 22, seqErr := m.seqErr && !v.getLsbD 21,
      reinit := m.reinit && !v.getLsbD 20 })) ∧
  (∀ (s : State) (mb : Mb) (v : BitVec 32) (k : Nat), barUp s mb = true → k ∈ [0x000, 0x010, 0x014, 0x01C, 0x020, 0x028] →
    exec (.registerWrite mb k v) s = .next s) ∧
  (∀ (s : State) (mb : Mb) (o : Nat), barUp s mb = true → o ≠ 0x008 →
    exec (.registerWrite mb o none) s = .next (emit s (.reg mb.val o (readReg s mb o)))) ∧
  (∀ (s : State) (mb : Mb), barUp s mb = true → exec (.registerWrite mb 0x008 none) s =
    .next (updMbx (emit s (.reg mb.val 0x008 (mbxStatus s mb))) mb fun m => { m with ntfLost := 0 })) ∧
  (∀ (s : State) (mb : Mb) (v : BitVec 32) (i k : Nat), barUp s mb = true → i < 32 → k < 512 → ∃ t,
    exec (.registerWrite mb (0x10000 + i * 2048 + k * 4) v) s = .next t ∧
    smGet t.mbx[mb].reqSlots i = some ((padTo 2048 (smRead [] s.mbx[mb].reqSlots i)).take (k * 4) ++ leBytes 4 v.toNat ++
      (padTo 2048 (smRead [] s.mbx[mb].reqSlots i)).drop (k * 4 + 4)) ∧
    (∀ j, j ≠ i → smGet t.mbx[mb].reqSlots j = smGet s.mbx[mb].reqSlots j) ∧ (∀ n, mb ≠ n → t.mbx[n] = s.mbx[n])) ∧
  (∀ (s : State) (mb : Mb), nextMailbox s = some mb → s.mbx[mb].dirty = [] →
    exec (.mailboxRequestStart mb) s = .next (takeRequest (updMbx { s with mbxPtr := (mb.val + 1) % 4 } mb fun m =>
      { m with reqHead := (m.reqHead + 1) % 64 }) mb (headRequest s mb))) ∧
  (∀ (s : State) (raw : List Byte), served s 3 = true → (s.mbx[(3 : Mb)].reqTail + 64 - s.mbx[(3 : Mb)].respHead) % 64 < 4 →
    exec (.uartFrame raw) s = .next (updMbx s 3 fun m =>
      { m with reqSlots := smPut m.reqSlots (m.reqTail % 32) (unescape raw), reqTail := (m.reqTail + 1) % 64 })) ∧
  (∀ (s : State) (msg : List Byte), served s 2 = true → (s.mbx[(2 : Mb)].reqTail + 64 - s.mbx[(2 : Mb)].respHead) % 64 < 2 →
    exec (.nvmeMiCommand msg) s = .next (updMbx s 2 fun m =>
      { m with reqSlots := smPut m.reqSlots (m.reqTail % 32) msg, reqTail := (m.reqTail + 1) % 64 })) ∧
  (∀ (s : State) (msg : List Byte), served s 2 = true → 2 ≤ (s.mbx[(2 : Mb)].reqTail + 64 - s.mbx[(2 : Mb)].respHead) % 64 →
    exec (.nvmeMiCommand msg) s = .next (emit s (.miReply (replyBytes 2
      { op := hdrN msg 0 2, seq := hdrN msg 12 4, status := 0x0016 })))) ∧
  (∀ (s : State) (mb : Mb) (seq status result : Nat) (l : LMsg), powered s = true → s.bw.started = false →
    (s.mbx[mb].lMsgs.find? fun x => x.seq = seq) = some l → l.op = 0x0605 ∨ l.op = 0x0606 →
    exec (.lMessageDone mb seq status result) s = .next (postDone s mb seq status 0 result)) ∧
  (∀ (s : State) (mb : Mb), exec (.nonceExpiry mb) s = .next (updMbx s mb fun x => { x with nonce := none }) ∧
    exec (.authArmExpiry mb) s = .next (updMbx s mb fun x => { x with armed := none, armedRoles := 0, armedDm := [] }) ∧
    (s.mbx[mb].lockout = true →
      exec (.authLockoutEnd mb) s = .next (updMbx s mb fun x => { x with lockout := false, authFails := [] })))) ∧
  ((∀ (s : State) (mb : Mb) (bs : List Byte), framingBad (decide (2 ≤ mb.val)) bs ≠ [] →
    takeRequest s mb bs = respond s mb
      { op := hdrN bs 0 2, seq := hdrN bs 12 4, status := 0x0002,
        aux := lowest (framingBad (decide (2 ≤ mb.val)) bs ++ reservedBad bs) } false) ∧
  (∀ (s : State) (mb : Mb) (bs : List Byte) (e : Nat), framingBad (decide (2 ≤ mb.val)) bs = [] → s.mbx[mb].expSeq = some e →
    e ≠ hdrN bs 12 4 → s.mbx[mb].lastReply = none →
    takeRequest s mb bs = respond (updMbx s mb fun m => { m with seqErr := true }) mb
      { op := hdrN bs 0 2, seq := hdrN bs 12 4, status := 0x0004, aux := e } false) ∧
  (∀ (s : State) (mb : Mb) (bs : List Byte) (e : Nat) (x : Reply), framingBad (decide (2 ≤ mb.val)) bs = [] →
    s.mbx[mb].expSeq = some e → e ≠ hdrN bs 12 4 → s.mbx[mb].lastReply = some x → x.seq = hdrN bs 12 4 → x.op = hdrN bs 0 2 →
    takeRequest s mb bs = respond s mb x true) ∧
  (∀ (s : State) (mb : Mb) (bs : List Byte), framingBad (decide (2 ≤ mb.val)) bs = [] → s.mbx[mb].expSeq = some (hdrN bs 12 4) →
    reservedBad bs = [] → (catalogue.find? fun e => decide (e.opc = hdrN bs 0 2)) = none →
    takeRequest s mb bs = respond (updMbx s mb fun m =>
      { m with expSeq := some ((hdrN bs 12 4 + 1) % 2 ^ 32), reply := none, lastReply := none }) mb
      { op := hdrN bs 0 2, seq := hdrN bs 12 4, status := 0x0003 } true))

/-- The messages of group 0x00 (R416, R430, R432, R436). -/
def Obligations.MailboxMessagesComplete : Prop :=
  (∀ (s : State) (r : Req), Completes (.mbxGetInfo r) s r { opc := 0x0001, need := .rd } s
    (leBytes 1 r.mb.val ++ leBytes 1 (privOf s r.mb) ++ leBytes 1 (lifeCode s.sec.life) ++ leBytes 1 (slotsOf r.mb) ++
      leBytes 2 2016 ++ leBytes 2 0 ++ leBytes 4 s.fw.activeVersion)) ∧
  (∀ (s : State) (r : Req) (max n : Nat), r.mb ≠ 2 → min (min max 31) (ntfUsed s.mbx[r.mb]) = n →
    Completes (.mbxGetNotify r max) s r { opc := 0x0002, need := .rd }
      (updMbx s r.mb fun x => { x with ntfHead := (x.ntfHead + n) % 128, ntfLost := 0 })
      (leBytes 1 n ++ [0] ++ leBytes 2 s.mbx[r.mb].ntfLost ++ ntfNext r.mb s.mbx[r.mb] n)) ∧
  (∀ (s : State) (r : Req) (g : BitVec 16) (sev flags : Nat), r.mb.val < 2 → flags < 4 → sev ≤ 4 →
    Completes (.mbxSetNotify r g sev flags) s r { opc := 0x0003, need := .rd }
      (updMbx s r.mb fun x => { x with groups := g, minSev := sev, push := bitAt flags 0, config := bitAt flags 1 }) []) ∧
  (∀ (s : State) (r : Req) (i : Mb) (p : Nat), p ≤ privOf s i →
    Completes (.mbxSetPriv r i.val p) s r { opc := 0x0004 } (updMbx s i fun x => { x with privCap := p }) []) ∧
  (∀ (s : State) (r : Req) (i : Mb) (p : Nat), privOf s i < p → TurnsAway (.mbxSetPriv r i.val p) s r { opc := 0x0004 } 0x000A 0) ∧
  (∀ (s : State) (r : Req) (o : Nat) (d : List Byte), o + d.length ≤ 33554432 →
    Completes (.mbxStageWrite r o d) s r { opc := 0x0005, need := .rd }
      (updMbx s r.mb fun x => { x with staging := smWriteBytes x.staging o d }) []) ∧
  (∀ (s : State) (r : Req) (o n : Nat), n ≤ 2016 → o + n ≤ 33554432 →
    Completes (.mbxStageRead r o n) s r { opc := 0x0006, need := .rd } s (staged s r.mb o n)) ∧
  (∀ (s : State) (r : Req) (o n : Nat), 2016 < n ∨ 33554432 < o + n →
    TurnsAway (.mbxStageRead r o n) s r { opc := 0x0006, need := .rd } 0x000A 0) ∧
  (∀ (s : State) (r : Req), Completes (.mbxStageClear r) s r { opc := 0x0007, need := .rd }
    (updMbx s r.mb fun x => { x with staging := [] }) [])

/-- Supplies, clocks and temperature: SUPPLY_SAMPLE (R447), AVS_TICK, SPEED_MONITOR_EMERGENCY, AVS_ACKNOWLEDGE,
CORE_FREQUENCY_RAISE (R42, R43), THERMAL_SENSOR_READ, THERMAL_THROTTLE_STEP, THERMAL_RELEASE, THERMAL_TRIP (R52),
PWR_SUPPLY_POLICY and PWR_GET_STATUS (R445). -/
def Obligations.PowerComplete : Prop :=
  (∀ (s : State) (sm : SupplySample), ∃ t, exec (.supplySample sm) s = .next t ∧ t.us = s.us + 1 ∧ t.nv = s.nv ∧
    t.bw.inhibit = s.bw.inhibit ∧ t.pins = sampleBalls sm.balls s.pins ∧ (sm.tap = none → t.tap = s.tap) ∧
    ∀ i : Fin 16, t.bw.inputs[i] = sampleInput (levels s i.val) (sampleNum sm i.val) (sampleMv sm i.val) s.bw.inputs[i]) ∧
  (∀ (s : State) (c mv : Nat) (x : SupplyIn),
    (c * 15000 < 10900 * 4096 → (sampleInput (levels s 0) (c * 15000) mv x).entryRun = satInc 3 x.entryRun ∧
      (sampleInput (levels s 0) (c * 15000) mv x).leaveRun = 0) ∧
    (10900 * 4096 ≤ c * 15000 → (sampleInput (levels s 0) (c * 15000) mv x).entryRun = 0) ∧
    (c * 15000 < 10200 * 4096 → (sampleInput (levels s 0) (c * 15000) mv x).trigRun = satInc 51 x.trigRun) ∧
    (11100 * 4096 ≤ c * 15000 → (sampleInput (levels s 0) (c * 15000) mv x).leaveRun = satInc 10001 x.leaveRun)) ∧
  (∀ (s : State) (m k : Vector Nat 24), powered s = true →
    exec (.avsTick m k) s = .next (tickRail (tickRail (updPmu s fun p =>
      { p with mAtStep := (p.clkCore, minSlack m) :: p.mAtStep.filter fun e => e.1 ≠ p.clkCore }) false (minSlack m)) true (minSlack k))) ∧
  (∀ (s : State) (m : Nat), m < s.pmu.mLo → s.pmu.mLo ≤ s.pmu.mHi → s.pmu.cpu.fixedMv = 0 → 900 ≤ s.pmu.cpu.ackedMv →
    tickRail s false m = updPmu s fun p =>
      { p with cpu := { p.cpu with lastM := m, highTicks := 0 },
               clkCore := if p.clkCore ≤ 600 then p.clkCore else max 600 (p.clkCore - 100) }) ∧
  (∀ (s : State) (m : Nat), s.pmu.mLo ≤ m → m ≤ s.pmu.mHi → s.pmu.cpu.fixedMv = 0 →
    tickRail s false m = updPmu s fun p => { p with cpu := { p.cpu with lastM := m, highTicks := 0 } }) ∧
  (∀ (s : State) (m : Nat), m < s.pmu.mLo → s.pmu.mLo ≤ s.pmu.mHi → s.pmu.cpu.fixedMv = 0 → s.pmu.cpu.ackedMv < 900 →
    s.pmu.stopped = false → s.pmu.seqStopped = false → s.pmu.cpu.req = none →
    tickRail s false m = emit (updPmu s fun p => { p with cpu :=
      { p.cpu with lastM := m, highTicks := 0, req := some (min 900 (s.pmu.cpu.ackedMv + 10)), attempts := 0 } })
      (.avs 0 (min 900 (s.pmu.cpu.ackedMv + 10)))) ∧
  (∀ (s : State), powered s = true → s.pmu.restoreTo = none → exec (.speedMonitorEmergency false) s = .next (updPmu s fun p =>
    { p with clkCore := max 600 (p.clkCore / 2 / 100 * 100), restoreTo := some p.clkCore })) ∧
  (∀ (s : State), powered s = true → s.pmu.soc.fixedMv = 0 → s.pmu.soc.ackedMv < 850 → s.pmu.soc.req = none →
    s.pmu.stopped = false → s.pmu.seqStopped = false → exec (.speedMonitorEmergency true) s =
      .next (emit (updPmu s fun p => { p with soc :=
        { p.soc with req := some (min 850 (s.pmu.soc.ackedMv + 10)), attempts := 0, highTicks := 0 } }) (.avs 1 (min 850 (s.pmu.soc.ackedMv + 10))))) ∧
  (∀ (s : State) (mv : Nat), s.pmu.soc.req = some mv →
    exec (.avsAcknowledge true true) s = .next (updPmu s fun p => { p with soc := { p.soc with ackedMv := mv, req := none, attempts := 0 } })) ∧
  (∀ (s : State) (mv f : Nat), s.pmu.cpu.req = some mv → s.pmu.cpu.ackedMv < mv → s.pmu.restoreTo = some f →
    exec (.avsAcknowledge false true) s = .next (updPmu s fun p =>
      { p with cpu := { p.cpu with ackedMv := mv, req := none, attempts := 0 }, mAtStep := [], raiseTo := some f, restoreTo := none })) ∧
  (∀ (s : State) (soc : Bool) (mv : Nat), (railOf s.pmu soc).req = some mv → s.pmu.seqStopped = true →
    exec (.avsAcknowledge soc false) s = .next (updRail s soc fun r => { r with req := none, attempts := 0 })) ∧
  (∀ (s : State) (soc : Bool) (mv : Nat), (railOf s.pmu soc).req = some mv → (railOf s.pmu soc).attempts < 2 →
    s.pmu.seqStopped = false →
    exec (.avsAcknowledge soc false) s =
      .next (emit (updRail s soc fun r => { r with attempts := r.attempts + 1 }) (.avs (b2n soc) mv))) ∧
  (∀ (s : State) (soc : Bool) (mv : Nat), (railOf s.pmu soc).req = some mv → 2 ≤ (railOf s.pmu soc).attempts →
    s.pmu.seqStopped = false → ∃ t, exec (.avsAcknowledge soc false) s = .next t ∧ t.pmu.stopped = true ∧ t.pmu.raiseTo = none ∧ t.pmu.restoreTo = none) ∧
  (∀ (s : State) (f : Nat), powered s = true → s.pmu.raiseTo = some f → s.pmu.throttleBase = none →
    exec .coreFrequencyRaise s = .next (updPmu s fun p => { p with raiseTo := none, clkCore := stepOf p f })) ∧
  (∀ (s : State) (x : Int), powered s = true → s.phase ≠ .quiescent → x < 210 → s.pmu.level = 0 →
    s.spn.capThermal = false →
    ∃ t, exec (.thermalSensorRead [x]) s = .next t ∧ t.pmu.tj = x ∧ t.pmu.level = 0 ∧ t.pmu.overTrip = false ∧ t.pins.thermN = true ∧
      t.out = s.out) ∧
  (∀ (s : State) (x : Int), powered s = true → s.phase ≠ .quiescent → 230 ≤ x → x < 240 →
    s.pmu.level ≤ 3 → ∃ t, exec (.thermalSensorRead [x]) s = .next t ∧ t.pmu.tj = x ∧ t.pmu.level = 3 ∧ t.pmu.overTrip = false ∧
      t.pins.thermN = false ∧ t.spn.capThermal = true) ∧
  (∀ (s : State), powered s = true → 1 ≤ s.pmu.level → exec .thermalThrottleStep s = .next (updPmu s fun p =>
    { p with clkCore := if p.clkCore ≤ 1000 then p.clkCore else max 1000 (p.clkCore - 100) })) ∧
  (∀ (s : State), powered s = true → 0 < s.pmu.level → s.pmu.tj < thermRelease s.pmu.level →
    exec .thermalRelease s = .next (thermActions (updPmu s fun p => { p with level := p.level - 1 }))) ∧
  (∀ (s : State), powered s = true → s.pmu.overTrip = true → s.bw.started = false →
    exec .thermalTrip s = .next (startBreakwater s 4)) ∧
  (∀ (s : State) (r : Req) (ps : Params) (p : Pmu),
    applyPars supplyPars (fun p => [([0, 1], decide (p.mLo + 3 ≤ p.mHi))]) ps s.pmu = .ok p →
    Completes (.pwrSupplyPolicy r ps) s r { opc := 0x0B01, setter := true } (applyPolicy { s with pmu := p }) []) ∧
  (∀ (s : State) (r : Req), Completes (.pwrGetStatus r) s r { opc := 0x0B04, need := .rd } s
    (leBytes 2 s.pmu.cpu.ackedMv ++ leBytes 2 s.pmu.soc.ackedMv ++ leBytes 2 s.pmu.clkCore ++ leBytes 2 (toPat 16 s.pmu.tj) ++
      leBytes 4 s.bw.inputs[(0 : Fin 16)].mv ++ leBytes 4 s.bw.inputs[(1 : Fin 16)].mv))

/-- Starts, resets and the breakwater: INTERNAL_RESET_RELEASE, BOOT_SPINDLE_TIMEOUT, HALT_UART_LINE, HOST_ADMISSION
(R516 to R522), RESET_N_ASSERT, PORST_N_ASSERT, PWRFAIL_N_ASSERT, POWER_ON_DETECT (R46), NV_WRITE_INHIBIT_ENTRY,
NV_WRITE_INHIBIT_END (R448, R449), BREAKWATER_START (R450), ACTUATOR_PARKED, PARK_TIMEOUT, PARK_OPEN_LOOP_END,
RETRACT_T_EXPIRY (R454), VAULT_PAGE_PROGRAM_DONE (R457, R458), QUIESCENT_RELEASE (R459), VAULT_AREA_ERASE_DONE
(R465). -/
def Obligations.StartAndBreakwaterComplete : Prop :=
  (∀ (s : State) (b : BootFacts), s.phase ≠ .reset ∨ releaseReady s = false → exec (.internalResetRelease b) s = .next s) ∧
  (∀ (s u : State) (b : BootFacts), s.phase = .reset → releaseReady s = true →
    bootB1 b (keepWarning { updBoot s fun x => { x with startUs := s.us, step := 1 } with
      phase := .boot }) = u → otpBlocksBoot u b.otpBad = true →
    exec (.internalResetRelease b) s = .next (updBoot (bootHalt u 1 0) fun x => { x with porReset := false, nssr := false })) ∧
  (∀ (s u : State) (b : BootFacts) (k : Nat) (p : Package), s.phase = .reset → releaseReady s = true →
    bootB1 b (keepWarning { updBoot s fun x => { x with startUs := s.us, step := 1 } with
      phase := .boot }) = u → otpBlocksBoot u b.otpBad = false →
    choosePkg u b = .ok (k, 0, p) → b.dramOk = true →
    exec (.internalResetRelease b) s = .next (updBoot (bootB9 b (bootB7 b (startFirmware u b k 0 p)))
      fun x => { x with porReset := false, nssr := false })) ∧
  (∀ (s : State) (code slot : Nat), (bootHalt s code slot).phase = .halted ∧ (bootHalt s code slot).boot.halt = code) ∧
  (∀ (s : State), s.phase = .boot → 8 ≤ s.boot.step → s.spn.meas < 38400 ∨ s.boot.ckptLoaded = false →
    exec .bootSpindleTimeout s = .next (bootHalt s 5 s.boot.slot)) ∧
  (∀ (s : State), s.phase = .halted → exec .haltUartLine s =
    .next (emit s (.uart (ascii [0x4C, 0x58, 0x34, 0x20, 0x48, 0x41, 0x4C, 0x54] ++ hexAscii 2 s.boot.halt)))) ∧
  (∀ (s : State), s.phase = .boot → s.bw.started = false → s.boot.replayDone = true → erased s 0 = true ∨ erased s 1 = true →
    ckptReady s = true → ∃ t, exec .hostAdmission s = .next (refresh (raiseSvn (raise t (.numbered 0xF803) 0 0x12 0
      ((s.us - s.boot.startUs) / 1000) (b2n s.boot.vaultPath) s.brt.ckptSeq))) ∧ t.phase = .run ∧ t.boot.admitted = true ∧
      t.mbx[(0 : Mb)].ready = true ∧ t.mbx[(1 : Mb)].ready = true) ∧
  (∀ (s : State), s.bw.started = false → exec .resetNAssert s =
    .next (startBreakwater { s with pins := { s.pins with resetN := false } } (if s.bw.inhibit then 7 else 8))) ∧
  (∀ (s : State), s.bw.started = true → exec .resetNAssert s = .next { s with pins := { s.pins with resetN := false } }) ∧
  (∀ (s : State), s.phase ≠ .sequence → exec .porstNAssert s = .next (powerReset { s with pins := { s.pins with porstN := false } })) ∧
  (∀ (s : State), s.phase = .sequence → exec .porstNAssert s = .next { s with pins := { s.pins with porstN := false } }) ∧
  (∀ (s : State), s.bw.started = false ∨ s.bw.startUs ≠ s.us ∨ (s.bw.cause ≠ 7 ∧ s.bw.cause ≠ 8) →
    exec .pwrfailNAssert s = .next (startBreakwater { s with pins := { s.pins with pwrfailN := false } } 2)) ∧
  (∀ (s : State), s.bw.started = true → s.bw.startUs = s.us → s.bw.cause = 7 ∨ s.bw.cause = 8 → s.bw.step ≠ .close →
    ∃ t, exec .pwrfailNAssert s = .next t ∧ t.bw = { s.bw with cause := 2, upgraded := false } ∧ t.psl.isolate = true ∧
      t.spn.frozen = false ∧ t.pins = { s.pins with pwrfailN := false }) ∧
  (∀ (s : State), ∃ t, exec .powerOnDetect s = .next t ∧ t.phase = .reset ∧ t.nv = s.nv ∧ t.aon.idxNext = {} ∧ t.aon.calendar = none ∧
    t.ctr = {} ∧ t.boot.porReset = true) ∧
  (∀ (s : State) (i : Fin 16), powered s = true → s.bw.inhibit = false → entryInput s = some i →
    ∃ t, exec .nvWriteInhibitEntry s = .next (raise t (.numbered 0x2001) 1 0x02 0 i.val (levelMv s i))) ∧
  (∀ (s : State), powered s = true → s.bw.inhibit = true → leaveHolds s = true → s.fw.eraseDue = false → s.fw.svnDue = false →
    exec .nvWriteInhibitEnd s = .next (raise (seqLine (updBw s fun b => { b with inhibit := false }) 2) (.numbered 0x2002) 0 0x02 0
      (s.us - s.bw.inhibitSince))) ∧
  (∀ (s : State) (cause : Nat), triggerHolds s cause = true → exec (.breakwaterStart cause) s = .next (startBreakwater s cause)) ∧
  (∀ (s : State) (cause : Nat), s.phase ≠ .quiescent → s.phase ≠ .reset → s.bw.started = true → cause ∉ [1, 2, 3, 6] →
    startBreakwater s cause = raise s (.numbered 0x2004) 0 0x02 0 cause (s.us - s.bw.startUs)) ∧
  (∀ (s : State) (cause : Nat), s.phase = .quiescent ∨ s.phase = .reset → startBreakwater s cause = s) ∧
  (∀ (s : State) (a : Act), s.phase = .sequence → s.acts[a].mode ≠ .parked → s.bw.step ≠ .park →
    ∃ t, exec (.actuatorParked a) s = .next t ∧ t.acts[a].mode = .parked ∧ t.psl.ven[a] = false) ∧
  (∀ (s : State) (a : Act), s.phase = .sequence → s.bw.step = .park → s.bw.parkDone.contains a = false → s.bw.cause = 6 →
    exec (.parkTimeout a) s = .next (parkCheck (settleAct s a))) ∧
  (∀ (s : State) (a : Act), s.phase = .sequence → s.bw.step = .park → s.bw.parkDone.contains a = false → s.bw.cause ≠ 6 →
    exec (.parkTimeout a) s = .next (parkCheck (settleAct (raise (updActCtr (updAct (updBw s fun b =>
      { b with openLoop := b.openLoop ++ [a] }) a fun x => { x with park := .openLoop }) a
      fun c => { c with parkFails := ctrAdd c.parkFails 1 }) (.numbered 0x2006) 3 0x02 0 a.val) a))) ∧
  (∀ (s : State) (a : Act), s.bw.openLoop.contains a = true → exec (.parkOpenLoopEnd a) s =
    .next (clearVen (updAct (updBw s fun b => { b with openLoop := b.openLoop.filter (· ≠ a) }) a fun x =>
      { x with park := .none, vcmCmd := 0, vcmOut := 0 }) a)) ∧
  (∀ (s : State), s.phase = .sequence → s.bw.cause = 6 → (∀ a : Act, s.acts[a].mode = .parked) →
    passedNs s s.psl.lossUs (s.psl.retractT * 2000000) = true → exec .retractTExpiry s = .next (parkReport (parkCheck s))) ∧
  (∀ (s : State), s.phase = .sequence → s.bw.step = .save →
    exec (.vaultPageProgramDone true) s = .next (pagePassed s) ∧ exec (.vaultPageProgramDone false) s = .next (pageFailed s)) ∧
  (∀ (s : State), s.bw.page + 1 < s.bw.pagesTotal → s.bw.page ≠ 0 → pagePassed s = updBw s fun b => { b with page := b.page + 1 }) ∧
  (∀ (s : State), s.phase = .quiescent → releaseHolds s = true →
    ∃ t, exec .quiescentRelease s = .next t ∧ t.phase = .reset ∧ t.nv = s.nv ∧ t.aon = s.aon ∧ t.ctr = s.ctr ∧
      t.boot.nssr = decide (s.bw.cause = 9)) ∧
  (∀ (s : State) (k : Fin 2), powered s = true → s.nv.areas[k].erasing = true → s.bw.started = false →
    exec (.vaultAreaEraseDone k) s = .next (derateCheck (updNv s fun n => { n with areas := vupd n.areas k fun x =>
      { x with st := 0, erasing := false, commit := none, content := {} } })))

/-- One step takes the command at the front of the queue and runs it over the state with the queue's rest; on an
empty queue the block idles, which is the model's choice (log entry 7). -/
def Obligations.StepRunsFront : Prop :=
  (∀ (s : State) (c : Instr) (cs : List Instr), s.pending = c :: cs → step s = exec c { s with pending := cs }) ∧
  (∀ s : State, s.pending = [] → step s = .next s)

/-- A command acts on everything but the queue: the commands that wait stay as they are, and none is added. -/
def Obligations.QueueUntouched : Prop :=
  ∀ (c : Instr) (s t : State), exec c s = .next t → t.pending = s.pending

/-- A message that reaches a mailbox Fenxus does not serve now changes nothing, and one that it serves only to
refuse is answered STATE_CONFLICT and changes nothing else (R434, R519, R522, R532). The mailboxes 2 and 3 of a
start and of a slipway are the model's reading (log entry 21). -/
def Obligations.MessagesGated : Prop :=
  ∀ (i : Instr) (m : Req × Nat × Vals) (s : State), messageOf i = some m →
  (gateOf s m.1.mb m.2.1 = 1 → exec i s = .next s) ∧
  (gateOf s m.1.mb m.2.1 = 2 → exec i s = .next (answer s m.1 m.2.1 0x000B 0 []))

/-- Every message taken up is answered on its own mailbox with its own OPCODE and SEQ, and with a payload only on
SUCCESS, or waits there for the answer that its transaction forms (R421, R423). -/
def Obligations.MessagesAnswered : Prop :=
  ∀ (i : Instr) (m : Req × Nat × Vals) (s : State), messageOf i = some m →
  gateOf s m.1.mb m.2.1 = 0 → ∃ t, exec i s = .next t ∧
    ((∃ x, t.mbx[m.1.mb].reply = some x ∧ x.op = m.2.1 ∧ x.seq = m.1.seq ∧ (x.status ≠ 0 → x.payload = [])) ∨
      (t.mbx[m.1.mb].reply = none ∧ t.mbx[m.1.mb].waitOp = some (m.2.1, m.1.seq)))

/-- Privilege and lifecycle come before a message's own meaning (R430). On a mailbox whose privilege has been
lowered to none every message is answered PERM_DENIED, where no debug right is in force; in DECOMMISSIONED every
message outside the groups 0x00, 0x07 and 0x0C is answered LIFECYCLE. Neither changes anything else, where no
authorisation is armed. -/
def Obligations.PrivilegeChecked : Prop :=
  ∀ (i : Instr) (m : Req × Nat × Vals) (s : State), messageOf i = some m →
  gateOf s m.1.mb m.2.1 = 0 → m.1.persist = false → s.mbx[m.1.mb].armed = none →
  (s.sec.life ≠ .decommissioned → privOf s m.1.mb = 0 → s.sec.debugScope = 0 →
    exec i s = .next (answer s m.1 m.2.1 0x0005 0 [])) ∧
  (s.sec.life = .decommissioned → m.2.1 / 256 ≠ 0x00 → m.2.1 / 256 ≠ 0x07 → m.2.1 / 256 ≠ 0x0C →
    exec i s = .next (answer s m.1 m.2.1 0x0006 0 []))

/-- A setter is all or nothing (R426): either nothing changes, or a failing status is answered and nothing else
changes, or its answer is SUCCESS with no payload. -/
def Obligations.SettersAtomic : Prop :=
  ∀ (i : Instr) (m : Req × Nat × Vals) (e : Entry) (s : State), messageOf i = some m →
  (catalogue.find? fun e => decide (e.opc = m.2.1)) = some e → e.setter = true →
  ∃ t, exec i s = .next t ∧ (t = s ∨ (∃ st aux, st ≠ 0 ∧ t = answer s m.1 m.2.1 st aux []) ∨
    (∃ x, t.mbx[m.1.mb].reply = some x ∧ x.op = m.2.1 ∧ x.seq = m.1.seq ∧ x.status = 0 ∧ x.payload = []))

/-- Bytes staged by MBX_STAGE_WRITE are those that MBX_STAGE_READ of the same mailbox gives back (R425, R436). -/
def Obligations.StagingReadsBack : Prop :=
  ∀ (s : State) (r q : Req) (ofs : Nat) (data : List Byte) (t : State),
  r.mb = q.mb → data.length ≤ 2012 → ofs + data.length ≤ stageSize → smWf 0 s.mbx[r.mb].staging = true →
  Admitted s r { opc := 0x0005, need := .rd } → exec (.mbxStageWrite r ofs data) s = .next t →
  Admitted t q { opc := 0x0006, need := .rd } →
  exec (.mbxStageRead q ofs data.length) t = .next (answer t q 0x0006 0 0 data)

/-- A message within the scope of its mailbox or outside it (R431): outside, the messages that name a function are
answered SCOPE and change nothing else; in SAS mode and on mailboxes 2 and 3 every function is in scope. -/
def Obligations.ScopeChecked : Prop :=
  (∀ (s : State) (mb : Mb) (f : Nat), f < 1024 → (inScope s mb f = true ↔
    (s.quay.sas = true ∨ mb = 2 ∨ mb = 3 ∨ (mb = 0 ∧ f ≤ 511) ∨ (mb = 1 ∧ 512 ≤ f)))) ∧
  (∀ (s : State) (i : Instr) (r : Req) (op f : Nat),
    (∃ word, i = .quaySetAllot r f word ∧ op = 0x0103) ∨ (i = .quayGetAllot r f ∧ op = 0x0104) ∨
      (∃ ps, i = .quaySetAdmit r f ps ∧ op = 0x0105) ∨ (∃ qid, i = .quayGetMooring r f qid ∧ op = 0x0907) ∨
      (∃ start count, i = .tallyRead r f start count ∧ op = 0x0801) ∨ (i = .tallyClear r f ∧ op = 0x0802) ∨
      (i = .engineReinitFunction r f ∧ op = 0x0109) → f < 1024 →
    gateOf s r.mb op = 0 → r.persist = false → s.sec.life ≠ .decommissioned → 3 ≤ privOf s r.mb →
    inScope s r.mb f = false → exec i s = .next (answer s r op 0x0007 0 []))

/-- The temperatures of the devices (R379): HOT is set from the refresh after a report above 85 °C and clears once
both devices have reported 85 °C or below in 4 consecutive readings; a report above 95 °C sets OVERTEMP and records
an event; nothing else changes. -/
def Obligations.DeviceTemperature : Prop :=
  (∀ (s : State) (ch : Fin 2), powered s = true → s.dram.chans[ch].sr ≠ 2 → ∃ t, exec (.dramRefresh ch) s = .next t ∧
    (t.dram.hot = true ↔ s.dram.hot = true ∨ 85 < s.dram.chans[(0 : Fin 2)].temp ∨ 85 < s.dram.chans[(1 : Fin 2)].temp)) ∧
  (∀ (s : State) (t0 t1 : Int) (n0 n1 : Nat), powered s = true →
    n0 = (if t0 ≤ 85 then min 4 (s.dram.chans[(0 : Fin 2)].hotLow + 1) else 0) →
    n1 = (if t1 ≤ 85 then min 4 (s.dram.chans[(1 : Fin 2)].hotLow + 1) else 0) →
    ∃ u : State, u = updDram (updChan (updChan s 0 fun c => { c with temp := t0, hotLow := n0 }) 1 fun c =>
        { c with temp := t1, hotLow := n1 }) (fun d =>
          { d with hot := d.hot && !(decide (4 ≤ n0) && decide (4 ≤ n1)),
                   overtemp := d.overtemp || decide (95 < t0) || decide (95 < t1) }) ∧
      exec (.dramTempRead t0 t1) s = .next
        (if 95 < t0 ∨ 95 < t1 then raise u .overtemp 2 0x0D 0 (toPat 32 t0) (toPat 32 t1) else u))

/-- Every internal reset release samples the straps, except one that ends an NVM subsystem reset; no other command
changes them (R40, R517). -/
def Obligations.StrapsHeld : Prop :=
  (∀ (c : Instr) (s t : State), (∀ b, c ≠ .internalResetRelease b) → exec c s = .next t → t.straps = s.straps) ∧
  (∀ (b : BootFacts) (s : State), s.phase = .reset → ∃ t, exec (.internalResetRelease b) s = .next t ∧
    t.straps = if s.boot.nssr then s.straps
      else { host := s.pins.strapHost % 4, boot := s.pins.strapBoot, test := s.pins.strapTest })

/-- Every addressed memory of the block is listed in its one canonical form at reset (R363, R389, R413). That form
is the model's own. -/
def Obligations.CanonicalAtReset : Prop :=
  canonical State.reset = true

/-- Every step keeps the canonical form of every addressed memory: the DRAM lines, the staging buffers and slots of
the mailboxes, the scratch memories, ports and banks of the sequencers, the download buffer. -/
def Obligations.CanonicalKept : Prop :=
  ∀ s t : State, canonical s = true → step s = .next t → canonical t = true

/-- No step brings a fuse back (R468, R471): the thermometer fields of the OTP array only grow, KILL and a destroyed
DUK stay, and SERIAL and ISEED once written stay what they are. -/
def Obligations.FusesOneWay : Prop :=
  ∀ s t : State, step s = .next t → fusesKept s.nv.otp t.nv.otp

/-- A well-formed message written as the bytes of its request and read again is the message it was: every field of
every message at every value its field admits (R421, R425, R426, R435). -/
def Obligations.MessagesRoundTrip : Prop :=
  ∀ (i : Instr) (m : Req × Nat × Vals), messageOf i = some m → i.wf = true →
  ∃ bs, requestBytes i = some bs ∧ requestOf m.1.mb bs = some i

/-- The registers and the parameters that the spec gives a reset value hold it at reset: the loops (R112, R114), the
spindle (R141, R143), the read channel (R181), the write path (R212), the links (R236 to R238), the berths and the
rebuild (R274, R304), the Host Quay (R337, R361), the DRAM (R384), the sequencers (R409, R411) and OTP (R471). The
queue of commands is empty. -/
def Obligations.ResetState : Prop :=
  let s := State.reset
  (s.phase = .reset ∧ s.pending = []) ∧
  (∀ a : Act, s.acts[a].mode = .parked ∧
    s.acts[a].seekPar = { aMax := 3000, jMax := 20000000, vMax := 3000, vRamp := 200, iLim := 80, eSeek := 64, nAbort := 3 } ∧
    s.acts[a].followPar = { dSettle := 8, tFollow := 51, nFollow := 16, tWready := 61, nWready := 32, hBlend := 328, nBlend := 32 } ∧
    (s.guards[a].cfg.tRd = 205 ∧ s.guards[a].cfg.tRes = 82 ∧ s.guards[a].cfg.tOt = 123) ∧
    (s.plks[a].l.st = .down ∧ s.wps[a].par.lim = s.wdev.lim)) ∧
  (s.spn.st = .stopped ∧ s.spn.gatesOff = true ∧ s.spn.lim.tDead = 200 ∧ s.spn.lim.slewXfer = 150 ∧ s.spn.lim.slewFree = 1500 ∧
    s.spn.lim.vChopOn = 13000 ∧ s.spn.lim.vOv = 13800 ∧ s.spn.lim.vHold = 11000 ∧ s.spn.pol.sFixed = 7200 ∧
    s.spn.pol.sMin = 4800 ∧ s.spn.pol.sMax = 7200 ∧ s.spn.pol.sStep = 600 ∧ s.spn.pol.lHi = 85 ∧ s.spn.pol.lLo = 40 ∧
    s.spn.pol.tDwell = 60) ∧
  (∀ (h : Hd) (z : Zn), s.chz[h][z].deltaMax = 64 ∧ s.chz[h][z].llrScale = 64 ∧ s.chz[h][z].iterOtf = 16 ∧
    s.chz[h][z].iterWeak = 10 ∧ s.chz[h][z].tol = 4 ∧ s.chz[h][z].win = 16 ∧ s.chz[h][z].syncHd = 4 ∧
    s.wheads[h].wdSwing = 4 ∧ s.tbl.heads[h] = .inService) ∧
  (∀ m : Strm, s.chn[m].mu = 12 ∧ s.chn[m].recovSlots = 64 ∧ s.streams[m].toneBw = 800) ∧
  (s.wdev.lim.wgLead = 64 ∧ s.wdev.lim.aeLead = 1000 ∧ s.wdev.lim.tSqz = 82 ∧ s.wdev.lim.wrRetry = 3 ∧ s.wdev.iAsMax = 90 ∧
    s.wdev.whLead = 200 ∧ s.wdev.wearWarn = 80 ∧ s.lnk.regRetry = 3 ∧ s.psl.l.st = .down ∧ s.psl.psUv = 44) ∧
  (s.brtPar.slack = 1 ∧ s.brtPar.logAge = 200 ∧ s.brtPar.convOp = 7 ∧ s.brtPar.ckptMs = 1000 ∧ s.brtPar.ckptMib = 512 ∧
    s.rbld.par.headAcqMax = 3 ∧ s.rbld.par.relocFail = 4096 ∧ s.rbld.par.rebuildFloor = 5 ∧ s.rbld.par.rebuildCrit = 20) ∧
  (s.quay.par.cmdCap = 200000 ∧ s.quay.par.blkCap = 1000000 ∧ s.quay.par.mtEstRd = 5000 ∧ s.quay.par.mtEstWr = 10 ∧
    s.quay.par.adminRes = 32 ∧ s.quay.par.pilotAge = 1000 ∧ s.quay.par.maxPower = 6000) ∧
  (s.dram.ageLimit = 2000 ∧ s.dram.mergeT = 200 ∧ s.dram.lapWarn = 24 ∧ s.dram.srEnable = true ∧ s.dram.srIdle = 100 ∧
    s.dram.retrainMs = 1000 ∧ s.dram.retrainDt = 5 ∧ s.dram.scrub[(0 : Fin 4)].scrubNs = 100000) ∧
  (∀ n : Sq, s.seqs[n].st = .off ∧ s.seqs[n].imask = 1 ∧ s.seqs[n].wdTime = 20) ∧
  (s.seqDev.storeAudit = 1000 ∧ s.sec.life = .blank ∧ s.nv.otp = {})
end

