-- ==== Sys2Proof/Laws/State.lean ====
section
/-! SUPPORT. State: what each named update of the state leaves as it was, field by field. -/

namespace Sys2Proof.Machine

/-- The entry that was changed. -/
theorem vupd_self {α : Type} {n : Nat} (v : Vector α n) (i : Fin n) (f : α → α) : (vupd v i f)[i] = f v[i] := by
  simp [vupd]

/-- The entry that was changed, read by its number. -/
@[simp] theorem vupd_val {α : Type} {n : Nat} (v : Vector α n) (i : Fin n) (f : α → α) (h : i.val < n) :
    (vupd v i f)[i.val]'h = f (v[i.val]'h) := by
  simp [vupd]

/-- Every other entry of a changed vector. -/
theorem vupd_ne {α : Type} {n : Nat} (v : Vector α n) {i j : Fin n} (f : α → α) (h : i ≠ j) : (vupd v i f)[j] = v[j] := by
  have h2 : i.val ≠ j.val := fun e => h (Fin.ext e)
  simp [vupd, Vector.getElem_set_ne, h2]

/-- A change that leaves its entry as it was. -/
theorem vupd_same {α : Type} {n : Nat} {v : Vector α n} {i : Fin n} {f : α → α} (h : f v[i] = v[i]) : vupd v i f = v := by
  unfold vupd; rw [h]; exact Vector.set_getElem_self ..

/-- Two changes that agree on the entry. -/
theorem vupd_congr {α : Type} {n : Nat} {v : Vector α n} {i : Fin n} {f g : α → α} (h : f v[i] = g v[i]) : vupd v i f = vupd v i g := by
  unfold vupd; rw [h]

/-- One change after another. -/
theorem vupd_vupd {α : Type} {n : Nat} (v : Vector α n) (i : Fin n) (f g : α → α) : vupd (vupd v i f) i g = vupd v i fun x => g (f x) := by
  simp [vupd]

/-- An entry changed to itself. -/
@[simp] theorem vupd_id {α : Type} {n : Nat} (v : Vector α n) (i : Fin n) : (vupd v i fun x => x) = v := by
  simp [vupd]

@[simp] theorem updStream_pending (s : State) (m : Strm) (f : Stream → Stream) : (updStream s m f).pending = s.pending := rfl
@[simp] theorem updStream_phase (s : State) (m : Strm) (f : Stream → Stream) : (updStream s m f).phase = s.phase := rfl
@[simp] theorem updStream_us (s : State) (m : Strm) (f : Stream → Stream) : (updStream s m f).us = s.us := rfl
@[simp] theorem updStream_freeCtr (s : State) (m : Strm) (f : Stream → Stream) : (updStream s m f).freeCtr = s.freeCtr := rfl
@[simp] theorem updStream_out (s : State) (m : Strm) (f : Stream → Stream) : (updStream s m f).out = s.out := rfl
@[simp] theorem updStream_ledger (s : State) (m : Strm) (f : Stream → Stream) : (updStream s m f).ledger = s.ledger := rfl
@[simp] theorem updStream_straps (s : State) (m : Strm) (f : Stream → Stream) : (updStream s m f).straps = s.straps := rfl
@[simp] theorem updStream_pins (s : State) (m : Strm) (f : Stream → Stream) : (updStream s m f).pins = s.pins := rfl
@[simp] theorem updStream_tap (s : State) (m : Strm) (f : Stream → Stream) : (updStream s m f).tap = s.tap := rfl
@[simp] theorem updStream_pmu (s : State) (m : Strm) (f : Stream → Stream) : (updStream s m f).pmu = s.pmu := rfl
@[simp] theorem updStream_surfaces (s : State) (m : Strm) (f : Stream → Stream) : (updStream s m f).surfaces = s.surfaces := rfl
@[simp] theorem updStream_heads (s : State) (m : Strm) (f : Stream → Stream) : (updStream s m f).heads = s.heads := rfl
@[simp] theorem updStream_streams (s : State) (m : Strm) (f : Stream → Stream) : (updStream s m f).streams = vupd s.streams m f := rfl
@[simp] theorem updStream_guards (s : State) (m : Strm) (f : Stream → Stream) : (updStream s m f).guards = s.guards := rfl
@[simp] theorem updStream_acts (s : State) (m : Strm) (f : Stream → Stream) : (updStream s m f).acts = s.acts := rfl
@[simp] theorem updStream_strobe (s : State) (m : Strm) (f : Stream → Stream) : (updStream s m f).strobe = s.strobe := rfl
@[simp] theorem updStream_strobeDone (s : State) (m : Strm) (f : Stream → Stream) : (updStream s m f).strobeDone = s.strobeDone := rfl
@[simp] theorem updStream_hloops (s : State) (m : Strm) (f : Stream → Stream) : (updStream s m f).hloops = s.hloops := rfl
@[simp] theorem updStream_spn (s : State) (m : Strm) (f : Stream → Stream) : (updStream s m f).spn = s.spn := rfl
@[simp] theorem updStream_chn (s : State) (m : Strm) (f : Stream → Stream) : (updStream s m f).chn = s.chn := rfl
@[simp] theorem updStream_chz (s : State) (m : Strm) (f : Stream → Stream) : (updStream s m f).chz = s.chz := rfl
@[simp] theorem updStream_chnDev (s : State) (m : Strm) (f : Stream → Stream) : (updStream s m f).chnDev = s.chnDev := rfl
@[simp] theorem updStream_wps (s : State) (m : Strm) (f : Stream → Stream) : (updStream s m f).wps = s.wps := rfl
@[simp] theorem updStream_wheads (s : State) (m : Strm) (f : Stream → Stream) : (updStream s m f).wheads = s.wheads := rfl
@[simp] theorem updStream_wdev (s : State) (m : Strm) (f : Stream → Stream) : (updStream s m f).wdev = s.wdev := rfl
@[simp] theorem updStream_plks (s : State) (m : Strm) (f : Stream → Stream) : (updStream s m f).plks = s.plks := rfl
@[simp] theorem updStream_psl (s : State) (m : Strm) (f : Stream → Stream) : (updStream s m f).psl = s.psl := rfl
@[simp] theorem updStream_lnk (s : State) (m : Strm) (f : Stream → Stream) : (updStream s m f).lnk = s.lnk := rfl
@[simp] theorem updStream_cache (s : State) (m : Strm) (f : Stream → Stream) : (updStream s m f).cache = s.cache := rfl
@[simp] theorem updStream_staged (s : State) (m : Strm) (f : Stream → Stream) : (updStream s m f).staged = s.staged := rfl
@[simp] theorem updStream_tbl (s : State) (m : Strm) (f : Stream → Stream) : (updStream s m f).tbl = s.tbl := rfl
@[simp] theorem updStream_brt (s : State) (m : Strm) (f : Stream → Stream) : (updStream s m f).brt = s.brt := rfl
@[simp] theorem updStream_ckptPend (s : State) (m : Strm) (f : Stream → Stream) : (updStream s m f).ckptPend = s.ckptPend := rfl
@[simp] theorem updStream_brtPar (s : State) (m : Strm) (f : Stream → Stream) : (updStream s m f).brtPar = s.brtPar := rfl
@[simp] theorem updStream_headRecs (s : State) (m : Strm) (f : Stream → Stream) : (updStream s m f).headRecs = s.headRecs := rfl
@[simp] theorem updStream_actRecs (s : State) (m : Strm) (f : Stream → Stream) : (updStream s m f).actRecs = s.actRecs := rfl
@[simp] theorem updStream_rbld (s : State) (m : Strm) (f : Stream → Stream) : (updStream s m f).rbld = s.rbld := rfl
@[simp] theorem updStream_quay (s : State) (m : Strm) (f : Stream → Stream) : (updStream s m f).quay = s.quay := rfl
@[simp] theorem updStream_cmds (s : State) (m : Strm) (f : Stream → Stream) : (updStream s m f).cmds = s.cmds := rfl
@[simp] theorem updStream_dram (s : State) (m : Strm) (f : Stream → Stream) : (updStream s m f).dram = s.dram := rfl
@[simp] theorem updStream_seqs (s : State) (m : Strm) (f : Stream → Stream) : (updStream s m f).seqs = s.seqs := rfl
@[simp] theorem updStream_seqDev (s : State) (m : Strm) (f : Stream → Stream) : (updStream s m f).seqDev = s.seqDev := rfl
@[simp] theorem updStream_mbx (s : State) (m : Strm) (f : Stream → Stream) : (updStream s m f).mbx = s.mbx := rfl
@[simp] theorem updStream_mbxPtr (s : State) (m : Strm) (f : Stream → Stream) : (updStream s m f).mbxPtr = s.mbxPtr := rfl
@[simp] theorem updStream_bw (s : State) (m : Strm) (f : Stream → Stream) : (updStream s m f).bw = s.bw := rfl
@[simp] theorem updStream_sec (s : State) (m : Strm) (f : Stream → Stream) : (updStream s m f).sec = s.sec := rfl
@[simp] theorem updStream_evr (s : State) (m : Strm) (f : Stream → Stream) : (updStream s m f).evr = s.evr := rfl
@[simp] theorem updStream_ctr (s : State) (m : Strm) (f : Stream → Stream) : (updStream s m f).ctr = s.ctr := rfl
@[simp] theorem updStream_incidents (s : State) (m : Strm) (f : Stream → Stream) : (updStream s m f).incidents = s.incidents := rfl
@[simp] theorem updStream_boot (s : State) (m : Strm) (f : Stream → Stream) : (updStream s m f).boot = s.boot := rfl
@[simp] theorem updStream_fw (s : State) (m : Strm) (f : Stream → Stream) : (updStream s m f).fw = s.fw := rfl
@[simp] theorem updStream_aon (s : State) (m : Strm) (f : Stream → Stream) : (updStream s m f).aon = s.aon := rfl
@[simp] theorem updStream_nv (s : State) (m : Strm) (f : Stream → Stream) : (updStream s m f).nv = s.nv := rfl

@[simp] theorem updGuard_pending (s : State) (a : Act) (f : Guard → Guard) : (updGuard s a f).pending = s.pending := rfl
@[simp] theorem updGuard_phase (s : State) (a : Act) (f : Guard → Guard) : (updGuard s a f).phase = s.phase := rfl
@[simp] theorem updGuard_us (s : State) (a : Act) (f : Guard → Guard) : (updGuard s a f).us = s.us := rfl
@[simp] theorem updGuard_freeCtr (s : State) (a : Act) (f : Guard → Guard) : (updGuard s a f).freeCtr = s.freeCtr := rfl
@[simp] theorem updGuard_out (s : State) (a : Act) (f : Guard → Guard) : (updGuard s a f).out = s.out := rfl
@[simp] theorem updGuard_ledger (s : State) (a : Act) (f : Guard → Guard) : (updGuard s a f).ledger = s.ledger := rfl
@[simp] theorem updGuard_straps (s : State) (a : Act) (f : Guard → Guard) : (updGuard s a f).straps = s.straps := rfl
@[simp] theorem updGuard_pins (s : State) (a : Act) (f : Guard → Guard) : (updGuard s a f).pins = s.pins := rfl
@[simp] theorem updGuard_tap (s : State) (a : Act) (f : Guard → Guard) : (updGuard s a f).tap = s.tap := rfl
@[simp] theorem updGuard_pmu (s : State) (a : Act) (f : Guard → Guard) : (updGuard s a f).pmu = s.pmu := rfl
@[simp] theorem updGuard_surfaces (s : State) (a : Act) (f : Guard → Guard) : (updGuard s a f).surfaces = s.surfaces := rfl
@[simp] theorem updGuard_heads (s : State) (a : Act) (f : Guard → Guard) : (updGuard s a f).heads = s.heads := rfl
@[simp] theorem updGuard_streams (s : State) (a : Act) (f : Guard → Guard) : (updGuard s a f).streams = s.streams := rfl
@[simp] theorem updGuard_guards (s : State) (a : Act) (f : Guard → Guard) : (updGuard s a f).guards = vupd s.guards a f := rfl
@[simp] theorem updGuard_acts (s : State) (a : Act) (f : Guard → Guard) : (updGuard s a f).acts = s.acts := rfl
@[simp] theorem updGuard_strobe (s : State) (a : Act) (f : Guard → Guard) : (updGuard s a f).strobe = s.strobe := rfl
@[simp] theorem updGuard_strobeDone (s : State) (a : Act) (f : Guard → Guard) : (updGuard s a f).strobeDone = s.strobeDone := rfl
@[simp] theorem updGuard_hloops (s : State) (a : Act) (f : Guard → Guard) : (updGuard s a f).hloops = s.hloops := rfl
@[simp] theorem updGuard_spn (s : State) (a : Act) (f : Guard → Guard) : (updGuard s a f).spn = s.spn := rfl
@[simp] theorem updGuard_chn (s : State) (a : Act) (f : Guard → Guard) : (updGuard s a f).chn = s.chn := rfl
@[simp] theorem updGuard_chz (s : State) (a : Act) (f : Guard → Guard) : (updGuard s a f).chz = s.chz := rfl
@[simp] theorem updGuard_chnDev (s : State) (a : Act) (f : Guard → Guard) : (updGuard s a f).chnDev = s.chnDev := rfl
@[simp] theorem updGuard_wps (s : State) (a : Act) (f : Guard → Guard) : (updGuard s a f).wps = s.wps := rfl
@[simp] theorem updGuard_wheads (s : State) (a : Act) (f : Guard → Guard) : (updGuard s a f).wheads = s.wheads := rfl
@[simp] theorem updGuard_wdev (s : State) (a : Act) (f : Guard → Guard) : (updGuard s a f).wdev = s.wdev := rfl
@[simp] theorem updGuard_plks (s : State) (a : Act) (f : Guard → Guard) : (updGuard s a f).plks = s.plks := rfl
@[simp] theorem updGuard_psl (s : State) (a : Act) (f : Guard → Guard) : (updGuard s a f).psl = s.psl := rfl
@[simp] theorem updGuard_lnk (s : State) (a : Act) (f : Guard → Guard) : (updGuard s a f).lnk = s.lnk := rfl
@[simp] theorem updGuard_cache (s : State) (a : Act) (f : Guard → Guard) : (updGuard s a f).cache = s.cache := rfl
@[simp] theorem updGuard_staged (s : State) (a : Act) (f : Guard → Guard) : (updGuard s a f).staged = s.staged := rfl
@[simp] theorem updGuard_tbl (s : State) (a : Act) (f : Guard → Guard) : (updGuard s a f).tbl = s.tbl := rfl
@[simp] theorem updGuard_brt (s : State) (a : Act) (f : Guard → Guard) : (updGuard s a f).brt = s.brt := rfl
@[simp] theorem updGuard_ckptPend (s : State) (a : Act) (f : Guard → Guard) : (updGuard s a f).ckptPend = s.ckptPend := rfl
@[simp] theorem updGuard_brtPar (s : State) (a : Act) (f : Guard → Guard) : (updGuard s a f).brtPar = s.brtPar := rfl
@[simp] theorem updGuard_headRecs (s : State) (a : Act) (f : Guard → Guard) : (updGuard s a f).headRecs = s.headRecs := rfl
@[simp] theorem updGuard_actRecs (s : State) (a : Act) (f : Guard → Guard) : (updGuard s a f).actRecs = s.actRecs := rfl
@[simp] theorem updGuard_rbld (s : State) (a : Act) (f : Guard → Guard) : (updGuard s a f).rbld = s.rbld := rfl
@[simp] theorem updGuard_quay (s : State) (a : Act) (f : Guard → Guard) : (updGuard s a f).quay = s.quay := rfl
@[simp] theorem updGuard_cmds (s : State) (a : Act) (f : Guard → Guard) : (updGuard s a f).cmds = s.cmds := rfl
@[simp] theorem updGuard_dram (s : State) (a : Act) (f : Guard → Guard) : (updGuard s a f).dram = s.dram := rfl
@[simp] theorem updGuard_seqs (s : State) (a : Act) (f : Guard → Guard) : (updGuard s a f).seqs = s.seqs := rfl
@[simp] theorem updGuard_seqDev (s : State) (a : Act) (f : Guard → Guard) : (updGuard s a f).seqDev = s.seqDev := rfl
@[simp] theorem updGuard_mbx (s : State) (a : Act) (f : Guard → Guard) : (updGuard s a f).mbx = s.mbx := rfl
@[simp] theorem updGuard_mbxPtr (s : State) (a : Act) (f : Guard → Guard) : (updGuard s a f).mbxPtr = s.mbxPtr := rfl
@[simp] theorem updGuard_bw (s : State) (a : Act) (f : Guard → Guard) : (updGuard s a f).bw = s.bw := rfl
@[simp] theorem updGuard_sec (s : State) (a : Act) (f : Guard → Guard) : (updGuard s a f).sec = s.sec := rfl
@[simp] theorem updGuard_evr (s : State) (a : Act) (f : Guard → Guard) : (updGuard s a f).evr = s.evr := rfl
@[simp] theorem updGuard_ctr (s : State) (a : Act) (f : Guard → Guard) : (updGuard s a f).ctr = s.ctr := rfl
@[simp] theorem updGuard_incidents (s : State) (a : Act) (f : Guard → Guard) : (updGuard s a f).incidents = s.incidents := rfl
@[simp] theorem updGuard_boot (s : State) (a : Act) (f : Guard → Guard) : (updGuard s a f).boot = s.boot := rfl
@[simp] theorem updGuard_fw (s : State) (a : Act) (f : Guard → Guard) : (updGuard s a f).fw = s.fw := rfl
@[simp] theorem updGuard_aon (s : State) (a : Act) (f : Guard → Guard) : (updGuard s a f).aon = s.aon := rfl
@[simp] theorem updGuard_nv (s : State) (a : Act) (f : Guard → Guard) : (updGuard s a f).nv = s.nv := rfl

@[simp] theorem updAct_pending (s : State) (a : Act) (f : Actuator → Actuator) : (updAct s a f).pending = s.pending := rfl
@[simp] theorem updAct_phase (s : State) (a : Act) (f : Actuator → Actuator) : (updAct s a f).phase = s.phase := rfl
@[simp] theorem updAct_us (s : State) (a : Act) (f : Actuator → Actuator) : (updAct s a f).us = s.us := rfl
@[simp] theorem updAct_freeCtr (s : State) (a : Act) (f : Actuator → Actuator) : (updAct s a f).freeCtr = s.freeCtr := rfl
@[simp] theorem updAct_out (s : State) (a : Act) (f : Actuator → Actuator) : (updAct s a f).out = s.out := rfl
@[simp] theorem updAct_ledger (s : State) (a : Act) (f : Actuator → Actuator) : (updAct s a f).ledger = s.ledger := rfl
@[simp] theorem updAct_straps (s : State) (a : Act) (f : Actuator → Actuator) : (updAct s a f).straps = s.straps := rfl
@[simp] theorem updAct_pins (s : State) (a : Act) (f : Actuator → Actuator) : (updAct s a f).pins = s.pins := rfl
@[simp] theorem updAct_tap (s : State) (a : Act) (f : Actuator → Actuator) : (updAct s a f).tap = s.tap := rfl
@[simp] theorem updAct_pmu (s : State) (a : Act) (f : Actuator → Actuator) : (updAct s a f).pmu = s.pmu := rfl
@[simp] theorem updAct_surfaces (s : State) (a : Act) (f : Actuator → Actuator) : (updAct s a f).surfaces = s.surfaces := rfl
@[simp] theorem updAct_heads (s : State) (a : Act) (f : Actuator → Actuator) : (updAct s a f).heads = s.heads := rfl
@[simp] theorem updAct_streams (s : State) (a : Act) (f : Actuator → Actuator) : (updAct s a f).streams = s.streams := rfl
@[simp] theorem updAct_guards (s : State) (a : Act) (f : Actuator → Actuator) : (updAct s a f).guards = s.guards := rfl
@[simp] theorem updAct_acts (s : State) (a : Act) (f : Actuator → Actuator) : (updAct s a f).acts = vupd s.acts a f := rfl
@[simp] theorem updAct_strobe (s : State) (a : Act) (f : Actuator → Actuator) : (updAct s a f).strobe = s.strobe := rfl
@[simp] theorem updAct_strobeDone (s : State) (a : Act) (f : Actuator → Actuator) : (updAct s a f).strobeDone = s.strobeDone := rfl
@[simp] theorem updAct_hloops (s : State) (a : Act) (f : Actuator → Actuator) : (updAct s a f).hloops = s.hloops := rfl
@[simp] theorem updAct_spn (s : State) (a : Act) (f : Actuator → Actuator) : (updAct s a f).spn = s.spn := rfl
@[simp] theorem updAct_chn (s : State) (a : Act) (f : Actuator → Actuator) : (updAct s a f).chn = s.chn := rfl
@[simp] theorem updAct_chz (s : State) (a : Act) (f : Actuator → Actuator) : (updAct s a f).chz = s.chz := rfl
@[simp] theorem updAct_chnDev (s : State) (a : Act) (f : Actuator → Actuator) : (updAct s a f).chnDev = s.chnDev := rfl
@[simp] theorem updAct_wps (s : State) (a : Act) (f : Actuator → Actuator) : (updAct s a f).wps = s.wps := rfl
@[simp] theorem updAct_wheads (s : State) (a : Act) (f : Actuator → Actuator) : (updAct s a f).wheads = s.wheads := rfl
@[simp] theorem updAct_wdev (s : State) (a : Act) (f : Actuator → Actuator) : (updAct s a f).wdev = s.wdev := rfl
@[simp] theorem updAct_plks (s : State) (a : Act) (f : Actuator → Actuator) : (updAct s a f).plks = s.plks := rfl
@[simp] theorem updAct_psl (s : State) (a : Act) (f : Actuator → Actuator) : (updAct s a f).psl = s.psl := rfl
@[simp] theorem updAct_lnk (s : State) (a : Act) (f : Actuator → Actuator) : (updAct s a f).lnk = s.lnk := rfl
@[simp] theorem updAct_cache (s : State) (a : Act) (f : Actuator → Actuator) : (updAct s a f).cache = s.cache := rfl
@[simp] theorem updAct_staged (s : State) (a : Act) (f : Actuator → Actuator) : (updAct s a f).staged = s.staged := rfl
@[simp] theorem updAct_tbl (s : State) (a : Act) (f : Actuator → Actuator) : (updAct s a f).tbl = s.tbl := rfl
@[simp] theorem updAct_brt (s : State) (a : Act) (f : Actuator → Actuator) : (updAct s a f).brt = s.brt := rfl
@[simp] theorem updAct_ckptPend (s : State) (a : Act) (f : Actuator → Actuator) : (updAct s a f).ckptPend = s.ckptPend := rfl
@[simp] theorem updAct_brtPar (s : State) (a : Act) (f : Actuator → Actuator) : (updAct s a f).brtPar = s.brtPar := rfl
@[simp] theorem updAct_headRecs (s : State) (a : Act) (f : Actuator → Actuator) : (updAct s a f).headRecs = s.headRecs := rfl
@[simp] theorem updAct_actRecs (s : State) (a : Act) (f : Actuator → Actuator) : (updAct s a f).actRecs = s.actRecs := rfl
@[simp] theorem updAct_rbld (s : State) (a : Act) (f : Actuator → Actuator) : (updAct s a f).rbld = s.rbld := rfl
@[simp] theorem updAct_quay (s : State) (a : Act) (f : Actuator → Actuator) : (updAct s a f).quay = s.quay := rfl
@[simp] theorem updAct_cmds (s : State) (a : Act) (f : Actuator → Actuator) : (updAct s a f).cmds = s.cmds := rfl
@[simp] theorem updAct_dram (s : State) (a : Act) (f : Actuator → Actuator) : (updAct s a f).dram = s.dram := rfl
@[simp] theorem updAct_seqs (s : State) (a : Act) (f : Actuator → Actuator) : (updAct s a f).seqs = s.seqs := rfl
@[simp] theorem updAct_seqDev (s : State) (a : Act) (f : Actuator → Actuator) : (updAct s a f).seqDev = s.seqDev := rfl
@[simp] theorem updAct_mbx (s : State) (a : Act) (f : Actuator → Actuator) : (updAct s a f).mbx = s.mbx := rfl
@[simp] theorem updAct_mbxPtr (s : State) (a : Act) (f : Actuator → Actuator) : (updAct s a f).mbxPtr = s.mbxPtr := rfl
@[simp] theorem updAct_bw (s : State) (a : Act) (f : Actuator → Actuator) : (updAct s a f).bw = s.bw := rfl
@[simp] theorem updAct_sec (s : State) (a : Act) (f : Actuator → Actuator) : (updAct s a f).sec = s.sec := rfl
@[simp] theorem updAct_evr (s : State) (a : Act) (f : Actuator → Actuator) : (updAct s a f).evr = s.evr := rfl
@[simp] theorem updAct_ctr (s : State) (a : Act) (f : Actuator → Actuator) : (updAct s a f).ctr = s.ctr := rfl
@[simp] theorem updAct_incidents (s : State) (a : Act) (f : Actuator → Actuator) : (updAct s a f).incidents = s.incidents := rfl
@[simp] theorem updAct_boot (s : State) (a : Act) (f : Actuator → Actuator) : (updAct s a f).boot = s.boot := rfl
@[simp] theorem updAct_fw (s : State) (a : Act) (f : Actuator → Actuator) : (updAct s a f).fw = s.fw := rfl
@[simp] theorem updAct_aon (s : State) (a : Act) (f : Actuator → Actuator) : (updAct s a f).aon = s.aon := rfl
@[simp] theorem updAct_nv (s : State) (a : Act) (f : Actuator → Actuator) : (updAct s a f).nv = s.nv := rfl

@[simp] theorem updHead_pending (s : State) (h : Hd) (f : HeadCfg → HeadCfg) : (updHead s h f).pending = s.pending := rfl
@[simp] theorem updHead_phase (s : State) (h : Hd) (f : HeadCfg → HeadCfg) : (updHead s h f).phase = s.phase := rfl
@[simp] theorem updHead_us (s : State) (h : Hd) (f : HeadCfg → HeadCfg) : (updHead s h f).us = s.us := rfl
@[simp] theorem updHead_freeCtr (s : State) (h : Hd) (f : HeadCfg → HeadCfg) : (updHead s h f).freeCtr = s.freeCtr := rfl
@[simp] theorem updHead_out (s : State) (h : Hd) (f : HeadCfg → HeadCfg) : (updHead s h f).out = s.out := rfl
@[simp] theorem updHead_ledger (s : State) (h : Hd) (f : HeadCfg → HeadCfg) : (updHead s h f).ledger = s.ledger := rfl
@[simp] theorem updHead_straps (s : State) (h : Hd) (f : HeadCfg → HeadCfg) : (updHead s h f).straps = s.straps := rfl
@[simp] theorem updHead_pins (s : State) (h : Hd) (f : HeadCfg → HeadCfg) : (updHead s h f).pins = s.pins := rfl
@[simp] theorem updHead_tap (s : State) (h : Hd) (f : HeadCfg → HeadCfg) : (updHead s h f).tap = s.tap := rfl
@[simp] theorem updHead_pmu (s : State) (h : Hd) (f : HeadCfg → HeadCfg) : (updHead s h f).pmu = s.pmu := rfl
@[simp] theorem updHead_surfaces (s : State) (h : Hd) (f : HeadCfg → HeadCfg) : (updHead s h f).surfaces = s.surfaces := rfl
@[simp] theorem updHead_heads (s : State) (h : Hd) (f : HeadCfg → HeadCfg) : (updHead s h f).heads = vupd s.heads h f := rfl
@[simp] theorem updHead_streams (s : State) (h : Hd) (f : HeadCfg → HeadCfg) : (updHead s h f).streams = s.streams := rfl
@[simp] theorem updHead_guards (s : State) (h : Hd) (f : HeadCfg → HeadCfg) : (updHead s h f).guards = s.guards := rfl
@[simp] theorem updHead_acts (s : State) (h : Hd) (f : HeadCfg → HeadCfg) : (updHead s h f).acts = s.acts := rfl
@[simp] theorem updHead_strobe (s : State) (h : Hd) (f : HeadCfg → HeadCfg) : (updHead s h f).strobe = s.strobe := rfl
@[simp] theorem updHead_strobeDone (s : State) (h : Hd) (f : HeadCfg → HeadCfg) : (updHead s h f).strobeDone = s.strobeDone := rfl
@[simp] theorem updHead_hloops (s : State) (h : Hd) (f : HeadCfg → HeadCfg) : (updHead s h f).hloops = s.hloops := rfl
@[simp] theorem updHead_spn (s : State) (h : Hd) (f : HeadCfg → HeadCfg) : (updHead s h f).spn = s.spn := rfl
@[simp] theorem updHead_chn (s : State) (h : Hd) (f : HeadCfg → HeadCfg) : (updHead s h f).chn = s.chn := rfl
@[simp] theorem updHead_chz (s : State) (h : Hd) (f : HeadCfg → HeadCfg) : (updHead s h f).chz = s.chz := rfl
@[simp] theorem updHead_chnDev (s : State) (h : Hd) (f : HeadCfg → HeadCfg) : (updHead s h f).chnDev = s.chnDev := rfl
@[simp] theorem updHead_wps (s : State) (h : Hd) (f : HeadCfg → HeadCfg) : (updHead s h f).wps = s.wps := rfl
@[simp] theorem updHead_wheads (s : State) (h : Hd) (f : HeadCfg → HeadCfg) : (updHead s h f).wheads = s.wheads := rfl
@[simp] theorem updHead_wdev (s : State) (h : Hd) (f : HeadCfg → HeadCfg) : (updHead s h f).wdev = s.wdev := rfl
@[simp] theorem updHead_plks (s : State) (h : Hd) (f : HeadCfg → HeadCfg) : (updHead s h f).plks = s.plks := rfl
@[simp] theorem updHead_psl (s : State) (h : Hd) (f : HeadCfg → HeadCfg) : (updHead s h f).psl = s.psl := rfl
@[simp] theorem updHead_lnk (s : State) (h : Hd) (f : HeadCfg → HeadCfg) : (updHead s h f).lnk = s.lnk := rfl
@[simp] theorem updHead_cache (s : State) (h : Hd) (f : HeadCfg → HeadCfg) : (updHead s h f).cache = s.cache := rfl
@[simp] theorem updHead_staged (s : State) (h : Hd) (f : HeadCfg → HeadCfg) : (updHead s h f).staged = s.staged := rfl
@[simp] theorem updHead_tbl (s : State) (h : Hd) (f : HeadCfg → HeadCfg) : (updHead s h f).tbl = s.tbl := rfl
@[simp] theorem updHead_brt (s : State) (h : Hd) (f : HeadCfg → HeadCfg) : (updHead s h f).brt = s.brt := rfl
@[simp] theorem updHead_ckptPend (s : State) (h : Hd) (f : HeadCfg → HeadCfg) : (updHead s h f).ckptPend = s.ckptPend := rfl
@[simp] theorem updHead_brtPar (s : State) (h : Hd) (f : HeadCfg → HeadCfg) : (updHead s h f).brtPar = s.brtPar := rfl
@[simp] theorem updHead_headRecs (s : State) (h : Hd) (f : HeadCfg → HeadCfg) : (updHead s h f).headRecs = s.headRecs := rfl
@[simp] theorem updHead_actRecs (s : State) (h : Hd) (f : HeadCfg → HeadCfg) : (updHead s h f).actRecs = s.actRecs := rfl
@[simp] theorem updHead_rbld (s : State) (h : Hd) (f : HeadCfg → HeadCfg) : (updHead s h f).rbld = s.rbld := rfl
@[simp] theorem updHead_quay (s : State) (h : Hd) (f : HeadCfg → HeadCfg) : (updHead s h f).quay = s.quay := rfl
@[simp] theorem updHead_cmds (s : State) (h : Hd) (f : HeadCfg → HeadCfg) : (updHead s h f).cmds = s.cmds := rfl
@[simp] theorem updHead_dram (s : State) (h : Hd) (f : HeadCfg → HeadCfg) : (updHead s h f).dram = s.dram := rfl
@[simp] theorem updHead_seqs (s : State) (h : Hd) (f : HeadCfg → HeadCfg) : (updHead s h f).seqs = s.seqs := rfl
@[simp] theorem updHead_seqDev (s : State) (h : Hd) (f : HeadCfg → HeadCfg) : (updHead s h f).seqDev = s.seqDev := rfl
@[simp] theorem updHead_mbx (s : State) (h : Hd) (f : HeadCfg → HeadCfg) : (updHead s h f).mbx = s.mbx := rfl
@[simp] theorem updHead_mbxPtr (s : State) (h : Hd) (f : HeadCfg → HeadCfg) : (updHead s h f).mbxPtr = s.mbxPtr := rfl
@[simp] theorem updHead_bw (s : State) (h : Hd) (f : HeadCfg → HeadCfg) : (updHead s h f).bw = s.bw := rfl
@[simp] theorem updHead_sec (s : State) (h : Hd) (f : HeadCfg → HeadCfg) : (updHead s h f).sec = s.sec := rfl
@[simp] theorem updHead_evr (s : State) (h : Hd) (f : HeadCfg → HeadCfg) : (updHead s h f).evr = s.evr := rfl
@[simp] theorem updHead_ctr (s : State) (h : Hd) (f : HeadCfg → HeadCfg) : (updHead s h f).ctr = s.ctr := rfl
@[simp] theorem updHead_incidents (s : State) (h : Hd) (f : HeadCfg → HeadCfg) : (updHead s h f).incidents = s.incidents := rfl
@[simp] theorem updHead_boot (s : State) (h : Hd) (f : HeadCfg → HeadCfg) : (updHead s h f).boot = s.boot := rfl
@[simp] theorem updHead_fw (s : State) (h : Hd) (f : HeadCfg → HeadCfg) : (updHead s h f).fw = s.fw := rfl
@[simp] theorem updHead_aon (s : State) (h : Hd) (f : HeadCfg → HeadCfg) : (updHead s h f).aon = s.aon := rfl
@[simp] theorem updHead_nv (s : State) (h : Hd) (f : HeadCfg → HeadCfg) : (updHead s h f).nv = s.nv := rfl

@[simp] theorem updHloop_pending (s : State) (h : Hd) (f : HeadLoop → HeadLoop) : (updHloop s h f).pending = s.pending := rfl
@[simp] theorem updHloop_phase (s : State) (h : Hd) (f : HeadLoop → HeadLoop) : (updHloop s h f).phase = s.phase := rfl
@[simp] theorem updHloop_us (s : State) (h : Hd) (f : HeadLoop → HeadLoop) : (updHloop s h f).us = s.us := rfl
@[simp] theorem updHloop_freeCtr (s : State) (h : Hd) (f : HeadLoop → HeadLoop) : (updHloop s h f).freeCtr = s.freeCtr := rfl
@[simp] theorem updHloop_out (s : State) (h : Hd) (f : HeadLoop → HeadLoop) : (updHloop s h f).out = s.out := rfl
@[simp] theorem updHloop_ledger (s : State) (h : Hd) (f : HeadLoop → HeadLoop) : (updHloop s h f).ledger = s.ledger := rfl
@[simp] theorem updHloop_straps (s : State) (h : Hd) (f : HeadLoop → HeadLoop) : (updHloop s h f).straps = s.straps := rfl
@[simp] theorem updHloop_pins (s : State) (h : Hd) (f : HeadLoop → HeadLoop) : (updHloop s h f).pins = s.pins := rfl
@[simp] theorem updHloop_tap (s : State) (h : Hd) (f : HeadLoop → HeadLoop) : (updHloop s h f).tap = s.tap := rfl
@[simp] theorem updHloop_pmu (s : State) (h : Hd) (f : HeadLoop → HeadLoop) : (updHloop s h f).pmu = s.pmu := rfl
@[simp] theorem updHloop_surfaces (s : State) (h : Hd) (f : HeadLoop → HeadLoop) : (updHloop s h f).surfaces = s.surfaces := rfl
@[simp] theorem updHloop_heads (s : State) (h : Hd) (f : HeadLoop → HeadLoop) : (updHloop s h f).heads = s.heads := rfl
@[simp] theorem updHloop_streams (s : State) (h : Hd) (f : HeadLoop → HeadLoop) : (updHloop s h f).streams = s.streams := rfl
@[simp] theorem updHloop_guards (s : State) (h : Hd) (f : HeadLoop → HeadLoop) : (updHloop s h f).guards = s.guards := rfl
@[simp] theorem updHloop_acts (s : State) (h : Hd) (f : HeadLoop → HeadLoop) : (updHloop s h f).acts = s.acts := rfl
@[simp] theorem updHloop_strobe (s : State) (h : Hd) (f : HeadLoop → HeadLoop) : (updHloop s h f).strobe = s.strobe := rfl
@[simp] theorem updHloop_strobeDone (s : State) (h : Hd) (f : HeadLoop → HeadLoop) : (updHloop s h f).strobeDone = s.strobeDone := rfl
@[simp] theorem updHloop_hloops (s : State) (h : Hd) (f : HeadLoop → HeadLoop) : (updHloop s h f).hloops = vupd s.hloops h f := rfl
@[simp] theorem updHloop_spn (s : State) (h : Hd) (f : HeadLoop → HeadLoop) : (updHloop s h f).spn = s.spn := rfl
@[simp] theorem updHloop_chn (s : State) (h : Hd) (f : HeadLoop → HeadLoop) : (updHloop s h f).chn = s.chn := rfl
@[simp] theorem updHloop_chz (s : State) (h : Hd) (f : HeadLoop → HeadLoop) : (updHloop s h f).chz = s.chz := rfl
@[simp] theorem updHloop_chnDev (s : State) (h : Hd) (f : HeadLoop → HeadLoop) : (updHloop s h f).chnDev = s.chnDev := rfl
@[simp] theorem updHloop_wps (s : State) (h : Hd) (f : HeadLoop → HeadLoop) : (updHloop s h f).wps = s.wps := rfl
@[simp] theorem updHloop_wheads (s : State) (h : Hd) (f : HeadLoop → HeadLoop) : (updHloop s h f).wheads = s.wheads := rfl
@[simp] theorem updHloop_wdev (s : State) (h : Hd) (f : HeadLoop → HeadLoop) : (updHloop s h f).wdev = s.wdev := rfl
@[simp] theorem updHloop_plks (s : State) (h : Hd) (f : HeadLoop → HeadLoop) : (updHloop s h f).plks = s.plks := rfl
@[simp] theorem updHloop_psl (s : State) (h : Hd) (f : HeadLoop → HeadLoop) : (updHloop s h f).psl = s.psl := rfl
@[simp] theorem updHloop_lnk (s : State) (h : Hd) (f : HeadLoop → HeadLoop) : (updHloop s h f).lnk = s.lnk := rfl
@[simp] theorem updHloop_cache (s : State) (h : Hd) (f : HeadLoop → HeadLoop) : (updHloop s h f).cache = s.cache := rfl
@[simp] theorem updHloop_staged (s : State) (h : Hd) (f : HeadLoop → HeadLoop) : (updHloop s h f).staged = s.staged := rfl
@[simp] theorem updHloop_tbl (s : State) (h : Hd) (f : HeadLoop → HeadLoop) : (updHloop s h f).tbl = s.tbl := rfl
@[simp] theorem updHloop_brt (s : State) (h : Hd) (f : HeadLoop → HeadLoop) : (updHloop s h f).brt = s.brt := rfl
@[simp] theorem updHloop_ckptPend (s : State) (h : Hd) (f : HeadLoop → HeadLoop) : (updHloop s h f).ckptPend = s.ckptPend := rfl
@[simp] theorem updHloop_brtPar (s : State) (h : Hd) (f : HeadLoop → HeadLoop) : (updHloop s h f).brtPar = s.brtPar := rfl
@[simp] theorem updHloop_headRecs (s : State) (h : Hd) (f : HeadLoop → HeadLoop) : (updHloop s h f).headRecs = s.headRecs := rfl
@[simp] theorem updHloop_actRecs (s : State) (h : Hd) (f : HeadLoop → HeadLoop) : (updHloop s h f).actRecs = s.actRecs := rfl
@[simp] theorem updHloop_rbld (s : State) (h : Hd) (f : HeadLoop → HeadLoop) : (updHloop s h f).rbld = s.rbld := rfl
@[simp] theorem updHloop_quay (s : State) (h : Hd) (f : HeadLoop → HeadLoop) : (updHloop s h f).quay = s.quay := rfl
@[simp] theorem updHloop_cmds (s : State) (h : Hd) (f : HeadLoop → HeadLoop) : (updHloop s h f).cmds = s.cmds := rfl
@[simp] theorem updHloop_dram (s : State) (h : Hd) (f : HeadLoop → HeadLoop) : (updHloop s h f).dram = s.dram := rfl
@[simp] theorem updHloop_seqs (s : State) (h : Hd) (f : HeadLoop → HeadLoop) : (updHloop s h f).seqs = s.seqs := rfl
@[simp] theorem updHloop_seqDev (s : State) (h : Hd) (f : HeadLoop → HeadLoop) : (updHloop s h f).seqDev = s.seqDev := rfl
@[simp] theorem updHloop_mbx (s : State) (h : Hd) (f : HeadLoop → HeadLoop) : (updHloop s h f).mbx = s.mbx := rfl
@[simp] theorem updHloop_mbxPtr (s : State) (h : Hd) (f : HeadLoop → HeadLoop) : (updHloop s h f).mbxPtr = s.mbxPtr := rfl
@[simp] theorem updHloop_bw (s : State) (h : Hd) (f : HeadLoop → HeadLoop) : (updHloop s h f).bw = s.bw := rfl
@[simp] theorem updHloop_sec (s : State) (h : Hd) (f : HeadLoop → HeadLoop) : (updHloop s h f).sec = s.sec := rfl
@[simp] theorem updHloop_evr (s : State) (h : Hd) (f : HeadLoop → HeadLoop) : (updHloop s h f).evr = s.evr := rfl
@[simp] theorem updHloop_ctr (s : State) (h : Hd) (f : HeadLoop → HeadLoop) : (updHloop s h f).ctr = s.ctr := rfl
@[simp] theorem updHloop_incidents (s : State) (h : Hd) (f : HeadLoop → HeadLoop) : (updHloop s h f).incidents = s.incidents := rfl
@[simp] theorem updHloop_boot (s : State) (h : Hd) (f : HeadLoop → HeadLoop) : (updHloop s h f).boot = s.boot := rfl
@[simp] theorem updHloop_fw (s : State) (h : Hd) (f : HeadLoop → HeadLoop) : (updHloop s h f).fw = s.fw := rfl
@[simp] theorem updHloop_aon (s : State) (h : Hd) (f : HeadLoop → HeadLoop) : (updHloop s h f).aon = s.aon := rfl
@[simp] theorem updHloop_nv (s : State) (h : Hd) (f : HeadLoop → HeadLoop) : (updHloop s h f).nv = s.nv := rfl

@[simp] theorem updSpn_pending (s : State) (f : Spindle → Spindle) : (updSpn s f).pending = s.pending := rfl
@[simp] theorem updSpn_phase (s : State) (f : Spindle → Spindle) : (updSpn s f).phase = s.phase := rfl
@[simp] theorem updSpn_us (s : State) (f : Spindle → Spindle) : (updSpn s f).us = s.us := rfl
@[simp] theorem updSpn_freeCtr (s : State) (f : Spindle → Spindle) : (updSpn s f).freeCtr = s.freeCtr := rfl
@[simp] theorem updSpn_out (s : State) (f : Spindle → Spindle) : (updSpn s f).out = s.out := rfl
@[simp] theorem updSpn_ledger (s : State) (f : Spindle → Spindle) : (updSpn s f).ledger = s.ledger := rfl
@[simp] theorem updSpn_straps (s : State) (f : Spindle → Spindle) : (updSpn s f).straps = s.straps := rfl
@[simp] theorem updSpn_pins (s : State) (f : Spindle → Spindle) : (updSpn s f).pins = s.pins := rfl
@[simp] theorem updSpn_tap (s : State) (f : Spindle → Spindle) : (updSpn s f).tap = s.tap := rfl
@[simp] theorem updSpn_pmu (s : State) (f : Spindle → Spindle) : (updSpn s f).pmu = s.pmu := rfl
@[simp] theorem updSpn_surfaces (s : State) (f : Spindle → Spindle) : (updSpn s f).surfaces = s.surfaces := rfl
@[simp] theorem updSpn_heads (s : State) (f : Spindle → Spindle) : (updSpn s f).heads = s.heads := rfl
@[simp] theorem updSpn_streams (s : State) (f : Spindle → Spindle) : (updSpn s f).streams = s.streams := rfl
@[simp] theorem updSpn_guards (s : State) (f : Spindle → Spindle) : (updSpn s f).guards = s.guards := rfl
@[simp] theorem updSpn_acts (s : State) (f : Spindle → Spindle) : (updSpn s f).acts = s.acts := rfl
@[simp] theorem updSpn_strobe (s : State) (f : Spindle → Spindle) : (updSpn s f).strobe = s.strobe := rfl
@[simp] theorem updSpn_strobeDone (s : State) (f : Spindle → Spindle) : (updSpn s f).strobeDone = s.strobeDone := rfl
@[simp] theorem updSpn_hloops (s : State) (f : Spindle → Spindle) : (updSpn s f).hloops = s.hloops := rfl
@[simp] theorem updSpn_spn (s : State) (f : Spindle → Spindle) : (updSpn s f).spn = f s.spn := rfl
@[simp] theorem updSpn_chn (s : State) (f : Spindle → Spindle) : (updSpn s f).chn = s.chn := rfl
@[simp] theorem updSpn_chz (s : State) (f : Spindle → Spindle) : (updSpn s f).chz = s.chz := rfl
@[simp] theorem updSpn_chnDev (s : State) (f : Spindle → Spindle) : (updSpn s f).chnDev = s.chnDev := rfl
@[simp] theorem updSpn_wps (s : State) (f : Spindle → Spindle) : (updSpn s f).wps = s.wps := rfl
@[simp] theorem updSpn_wheads (s : State) (f : Spindle → Spindle) : (updSpn s f).wheads = s.wheads := rfl
@[simp] theorem updSpn_wdev (s : State) (f : Spindle → Spindle) : (updSpn s f).wdev = s.wdev := rfl
@[simp] theorem updSpn_plks (s : State) (f : Spindle → Spindle) : (updSpn s f).plks = s.plks := rfl
@[simp] theorem updSpn_psl (s : State) (f : Spindle → Spindle) : (updSpn s f).psl = s.psl := rfl
@[simp] theorem updSpn_lnk (s : State) (f : Spindle → Spindle) : (updSpn s f).lnk = s.lnk := rfl
@[simp] theorem updSpn_cache (s : State) (f : Spindle → Spindle) : (updSpn s f).cache = s.cache := rfl
@[simp] theorem updSpn_staged (s : State) (f : Spindle → Spindle) : (updSpn s f).staged = s.staged := rfl
@[simp] theorem updSpn_tbl (s : State) (f : Spindle → Spindle) : (updSpn s f).tbl = s.tbl := rfl
@[simp] theorem updSpn_brt (s : State) (f : Spindle → Spindle) : (updSpn s f).brt = s.brt := rfl
@[simp] theorem updSpn_ckptPend (s : State) (f : Spindle → Spindle) : (updSpn s f).ckptPend = s.ckptPend := rfl
@[simp] theorem updSpn_brtPar (s : State) (f : Spindle → Spindle) : (updSpn s f).brtPar = s.brtPar := rfl
@[simp] theorem updSpn_headRecs (s : State) (f : Spindle → Spindle) : (updSpn s f).headRecs = s.headRecs := rfl
@[simp] theorem updSpn_actRecs (s : State) (f : Spindle → Spindle) : (updSpn s f).actRecs = s.actRecs := rfl
@[simp] theorem updSpn_rbld (s : State) (f : Spindle → Spindle) : (updSpn s f).rbld = s.rbld := rfl
@[simp] theorem updSpn_quay (s : State) (f : Spindle → Spindle) : (updSpn s f).quay = s.quay := rfl
@[simp] theorem updSpn_cmds (s : State) (f : Spindle → Spindle) : (updSpn s f).cmds = s.cmds := rfl
@[simp] theorem updSpn_dram (s : State) (f : Spindle → Spindle) : (updSpn s f).dram = s.dram := rfl
@[simp] theorem updSpn_seqs (s : State) (f : Spindle → Spindle) : (updSpn s f).seqs = s.seqs := rfl
@[simp] theorem updSpn_seqDev (s : State) (f : Spindle → Spindle) : (updSpn s f).seqDev = s.seqDev := rfl
@[simp] theorem updSpn_mbx (s : State) (f : Spindle → Spindle) : (updSpn s f).mbx = s.mbx := rfl
@[simp] theorem updSpn_mbxPtr (s : State) (f : Spindle → Spindle) : (updSpn s f).mbxPtr = s.mbxPtr := rfl
@[simp] theorem updSpn_bw (s : State) (f : Spindle → Spindle) : (updSpn s f).bw = s.bw := rfl
@[simp] theorem updSpn_sec (s : State) (f : Spindle → Spindle) : (updSpn s f).sec = s.sec := rfl
@[simp] theorem updSpn_evr (s : State) (f : Spindle → Spindle) : (updSpn s f).evr = s.evr := rfl
@[simp] theorem updSpn_ctr (s : State) (f : Spindle → Spindle) : (updSpn s f).ctr = s.ctr := rfl
@[simp] theorem updSpn_incidents (s : State) (f : Spindle → Spindle) : (updSpn s f).incidents = s.incidents := rfl
@[simp] theorem updSpn_boot (s : State) (f : Spindle → Spindle) : (updSpn s f).boot = s.boot := rfl
@[simp] theorem updSpn_fw (s : State) (f : Spindle → Spindle) : (updSpn s f).fw = s.fw := rfl
@[simp] theorem updSpn_aon (s : State) (f : Spindle → Spindle) : (updSpn s f).aon = s.aon := rfl
@[simp] theorem updSpn_nv (s : State) (f : Spindle → Spindle) : (updSpn s f).nv = s.nv := rfl

@[simp] theorem updChn_pending (s : State) (m : Strm) (f : ChnStream → ChnStream) : (updChn s m f).pending = s.pending := rfl
@[simp] theorem updChn_phase (s : State) (m : Strm) (f : ChnStream → ChnStream) : (updChn s m f).phase = s.phase := rfl
@[simp] theorem updChn_us (s : State) (m : Strm) (f : ChnStream → ChnStream) : (updChn s m f).us = s.us := rfl
@[simp] theorem updChn_freeCtr (s : State) (m : Strm) (f : ChnStream → ChnStream) : (updChn s m f).freeCtr = s.freeCtr := rfl
@[simp] theorem updChn_out (s : State) (m : Strm) (f : ChnStream → ChnStream) : (updChn s m f).out = s.out := rfl
@[simp] theorem updChn_ledger (s : State) (m : Strm) (f : ChnStream → ChnStream) : (updChn s m f).ledger = s.ledger := rfl
@[simp] theorem updChn_straps (s : State) (m : Strm) (f : ChnStream → ChnStream) : (updChn s m f).straps = s.straps := rfl
@[simp] theorem updChn_pins (s : State) (m : Strm) (f : ChnStream → ChnStream) : (updChn s m f).pins = s.pins := rfl
@[simp] theorem updChn_tap (s : State) (m : Strm) (f : ChnStream → ChnStream) : (updChn s m f).tap = s.tap := rfl
@[simp] theorem updChn_pmu (s : State) (m : Strm) (f : ChnStream → ChnStream) : (updChn s m f).pmu = s.pmu := rfl
@[simp] theorem updChn_surfaces (s : State) (m : Strm) (f : ChnStream → ChnStream) : (updChn s m f).surfaces = s.surfaces := rfl
@[simp] theorem updChn_heads (s : State) (m : Strm) (f : ChnStream → ChnStream) : (updChn s m f).heads = s.heads := rfl
@[simp] theorem updChn_streams (s : State) (m : Strm) (f : ChnStream → ChnStream) : (updChn s m f).streams = s.streams := rfl
@[simp] theorem updChn_guards (s : State) (m : Strm) (f : ChnStream → ChnStream) : (updChn s m f).guards = s.guards := rfl
@[simp] theorem updChn_acts (s : State) (m : Strm) (f : ChnStream → ChnStream) : (updChn s m f).acts = s.acts := rfl
@[simp] theorem updChn_strobe (s : State) (m : Strm) (f : ChnStream → ChnStream) : (updChn s m f).strobe = s.strobe := rfl
@[simp] theorem updChn_strobeDone (s : State) (m : Strm) (f : ChnStream → ChnStream) : (updChn s m f).strobeDone = s.strobeDone := rfl
@[simp] theorem updChn_hloops (s : State) (m : Strm) (f : ChnStream → ChnStream) : (updChn s m f).hloops = s.hloops := rfl
@[simp] theorem updChn_spn (s : State) (m : Strm) (f : ChnStream → ChnStream) : (updChn s m f).spn = s.spn := rfl
@[simp] theorem updChn_chn (s : State) (m : Strm) (f : ChnStream → ChnStream) : (updChn s m f).chn = vupd s.chn m f := rfl
@[simp] theorem updChn_chz (s : State) (m : Strm) (f : ChnStream → ChnStream) : (updChn s m f).chz = s.chz := rfl
@[simp] theorem updChn_chnDev (s : State) (m : Strm) (f : ChnStream → ChnStream) : (updChn s m f).chnDev = s.chnDev := rfl
@[simp] theorem updChn_wps (s : State) (m : Strm) (f : ChnStream → ChnStream) : (updChn s m f).wps = s.wps := rfl
@[simp] theorem updChn_wheads (s : State) (m : Strm) (f : ChnStream → ChnStream) : (updChn s m f).wheads = s.wheads := rfl
@[simp] theorem updChn_wdev (s : State) (m : Strm) (f : ChnStream → ChnStream) : (updChn s m f).wdev = s.wdev := rfl
@[simp] theorem updChn_plks (s : State) (m : Strm) (f : ChnStream → ChnStream) : (updChn s m f).plks = s.plks := rfl
@[simp] theorem updChn_psl (s : State) (m : Strm) (f : ChnStream → ChnStream) : (updChn s m f).psl = s.psl := rfl
@[simp] theorem updChn_lnk (s : State) (m : Strm) (f : ChnStream → ChnStream) : (updChn s m f).lnk = s.lnk := rfl
@[simp] theorem updChn_cache (s : State) (m : Strm) (f : ChnStream → ChnStream) : (updChn s m f).cache = s.cache := rfl
@[simp] theorem updChn_staged (s : State) (m : Strm) (f : ChnStream → ChnStream) : (updChn s m f).staged = s.staged := rfl
@[simp] theorem updChn_tbl (s : State) (m : Strm) (f : ChnStream → ChnStream) : (updChn s m f).tbl = s.tbl := rfl
@[simp] theorem updChn_brt (s : State) (m : Strm) (f : ChnStream → ChnStream) : (updChn s m f).brt = s.brt := rfl
@[simp] theorem updChn_ckptPend (s : State) (m : Strm) (f : ChnStream → ChnStream) : (updChn s m f).ckptPend = s.ckptPend := rfl
@[simp] theorem updChn_brtPar (s : State) (m : Strm) (f : ChnStream → ChnStream) : (updChn s m f).brtPar = s.brtPar := rfl
@[simp] theorem updChn_headRecs (s : State) (m : Strm) (f : ChnStream → ChnStream) : (updChn s m f).headRecs = s.headRecs := rfl
@[simp] theorem updChn_actRecs (s : State) (m : Strm) (f : ChnStream → ChnStream) : (updChn s m f).actRecs = s.actRecs := rfl
@[simp] theorem updChn_rbld (s : State) (m : Strm) (f : ChnStream → ChnStream) : (updChn s m f).rbld = s.rbld := rfl
@[simp] theorem updChn_quay (s : State) (m : Strm) (f : ChnStream → ChnStream) : (updChn s m f).quay = s.quay := rfl
@[simp] theorem updChn_cmds (s : State) (m : Strm) (f : ChnStream → ChnStream) : (updChn s m f).cmds = s.cmds := rfl
@[simp] theorem updChn_dram (s : State) (m : Strm) (f : ChnStream → ChnStream) : (updChn s m f).dram = s.dram := rfl
@[simp] theorem updChn_seqs (s : State) (m : Strm) (f : ChnStream → ChnStream) : (updChn s m f).seqs = s.seqs := rfl
@[simp] theorem updChn_seqDev (s : State) (m : Strm) (f : ChnStream → ChnStream) : (updChn s m f).seqDev = s.seqDev := rfl
@[simp] theorem updChn_mbx (s : State) (m : Strm) (f : ChnStream → ChnStream) : (updChn s m f).mbx = s.mbx := rfl
@[simp] theorem updChn_mbxPtr (s : State) (m : Strm) (f : ChnStream → ChnStream) : (updChn s m f).mbxPtr = s.mbxPtr := rfl
@[simp] theorem updChn_bw (s : State) (m : Strm) (f : ChnStream → ChnStream) : (updChn s m f).bw = s.bw := rfl
@[simp] theorem updChn_sec (s : State) (m : Strm) (f : ChnStream → ChnStream) : (updChn s m f).sec = s.sec := rfl
@[simp] theorem updChn_evr (s : State) (m : Strm) (f : ChnStream → ChnStream) : (updChn s m f).evr = s.evr := rfl
@[simp] theorem updChn_ctr (s : State) (m : Strm) (f : ChnStream → ChnStream) : (updChn s m f).ctr = s.ctr := rfl
@[simp] theorem updChn_incidents (s : State) (m : Strm) (f : ChnStream → ChnStream) : (updChn s m f).incidents = s.incidents := rfl
@[simp] theorem updChn_boot (s : State) (m : Strm) (f : ChnStream → ChnStream) : (updChn s m f).boot = s.boot := rfl
@[simp] theorem updChn_fw (s : State) (m : Strm) (f : ChnStream → ChnStream) : (updChn s m f).fw = s.fw := rfl
@[simp] theorem updChn_aon (s : State) (m : Strm) (f : ChnStream → ChnStream) : (updChn s m f).aon = s.aon := rfl
@[simp] theorem updChn_nv (s : State) (m : Strm) (f : ChnStream → ChnStream) : (updChn s m f).nv = s.nv := rfl

@[simp] theorem updChz_pending (s : State) (h : Hd) (z : Zn) (f : ChnHZ → ChnHZ) : (updChz s h z f).pending = s.pending := rfl
@[simp] theorem updChz_phase (s : State) (h : Hd) (z : Zn) (f : ChnHZ → ChnHZ) : (updChz s h z f).phase = s.phase := rfl
@[simp] theorem updChz_us (s : State) (h : Hd) (z : Zn) (f : ChnHZ → ChnHZ) : (updChz s h z f).us = s.us := rfl
@[simp] theorem updChz_freeCtr (s : State) (h : Hd) (z : Zn) (f : ChnHZ → ChnHZ) : (updChz s h z f).freeCtr = s.freeCtr := rfl
@[simp] theorem updChz_out (s : State) (h : Hd) (z : Zn) (f : ChnHZ → ChnHZ) : (updChz s h z f).out = s.out := rfl
@[simp] theorem updChz_ledger (s : State) (h : Hd) (z : Zn) (f : ChnHZ → ChnHZ) : (updChz s h z f).ledger = s.ledger := rfl
@[simp] theorem updChz_straps (s : State) (h : Hd) (z : Zn) (f : ChnHZ → ChnHZ) : (updChz s h z f).straps = s.straps := rfl
@[simp] theorem updChz_pins (s : State) (h : Hd) (z : Zn) (f : ChnHZ → ChnHZ) : (updChz s h z f).pins = s.pins := rfl
@[simp] theorem updChz_tap (s : State) (h : Hd) (z : Zn) (f : ChnHZ → ChnHZ) : (updChz s h z f).tap = s.tap := rfl
@[simp] theorem updChz_pmu (s : State) (h : Hd) (z : Zn) (f : ChnHZ → ChnHZ) : (updChz s h z f).pmu = s.pmu := rfl
@[simp] theorem updChz_surfaces (s : State) (h : Hd) (z : Zn) (f : ChnHZ → ChnHZ) : (updChz s h z f).surfaces = s.surfaces := rfl
@[simp] theorem updChz_heads (s : State) (h : Hd) (z : Zn) (f : ChnHZ → ChnHZ) : (updChz s h z f).heads = s.heads := rfl
@[simp] theorem updChz_streams (s : State) (h : Hd) (z : Zn) (f : ChnHZ → ChnHZ) : (updChz s h z f).streams = s.streams := rfl
@[simp] theorem updChz_guards (s : State) (h : Hd) (z : Zn) (f : ChnHZ → ChnHZ) : (updChz s h z f).guards = s.guards := rfl
@[simp] theorem updChz_acts (s : State) (h : Hd) (z : Zn) (f : ChnHZ → ChnHZ) : (updChz s h z f).acts = s.acts := rfl
@[simp] theorem updChz_strobe (s : State) (h : Hd) (z : Zn) (f : ChnHZ → ChnHZ) : (updChz s h z f).strobe = s.strobe := rfl
@[simp] theorem updChz_strobeDone (s : State) (h : Hd) (z : Zn) (f : ChnHZ → ChnHZ) : (updChz s h z f).strobeDone = s.strobeDone := rfl
@[simp] theorem updChz_hloops (s : State) (h : Hd) (z : Zn) (f : ChnHZ → ChnHZ) : (updChz s h z f).hloops = s.hloops := rfl
@[simp] theorem updChz_spn (s : State) (h : Hd) (z : Zn) (f : ChnHZ → ChnHZ) : (updChz s h z f).spn = s.spn := rfl
@[simp] theorem updChz_chn (s : State) (h : Hd) (z : Zn) (f : ChnHZ → ChnHZ) : (updChz s h z f).chn = s.chn := rfl
@[simp] theorem updChz_chnDev (s : State) (h : Hd) (z : Zn) (f : ChnHZ → ChnHZ) : (updChz s h z f).chnDev = s.chnDev := rfl
@[simp] theorem updChz_wps (s : State) (h : Hd) (z : Zn) (f : ChnHZ → ChnHZ) : (updChz s h z f).wps = s.wps := rfl
@[simp] theorem updChz_wheads (s : State) (h : Hd) (z : Zn) (f : ChnHZ → ChnHZ) : (updChz s h z f).wheads = s.wheads := rfl
@[simp] theorem updChz_wdev (s : State) (h : Hd) (z : Zn) (f : ChnHZ → ChnHZ) : (updChz s h z f).wdev = s.wdev := rfl
@[simp] theorem updChz_plks (s : State) (h : Hd) (z : Zn) (f : ChnHZ → ChnHZ) : (updChz s h z f).plks = s.plks := rfl
@[simp] theorem updChz_psl (s : State) (h : Hd) (z : Zn) (f : ChnHZ → ChnHZ) : (updChz s h z f).psl = s.psl := rfl
@[simp] theorem updChz_lnk (s : State) (h : Hd) (z : Zn) (f : ChnHZ → ChnHZ) : (updChz s h z f).lnk = s.lnk := rfl
@[simp] theorem updChz_cache (s : State) (h : Hd) (z : Zn) (f : ChnHZ → ChnHZ) : (updChz s h z f).cache = s.cache := rfl
@[simp] theorem updChz_staged (s : State) (h : Hd) (z : Zn) (f : ChnHZ → ChnHZ) : (updChz s h z f).staged = s.staged := rfl
@[simp] theorem updChz_tbl (s : State) (h : Hd) (z : Zn) (f : ChnHZ → ChnHZ) : (updChz s h z f).tbl = s.tbl := rfl
@[simp] theorem updChz_brt (s : State) (h : Hd) (z : Zn) (f : ChnHZ → ChnHZ) : (updChz s h z f).brt = s.brt := rfl
@[simp] theorem updChz_ckptPend (s : State) (h : Hd) (z : Zn) (f : ChnHZ → ChnHZ) : (updChz s h z f).ckptPend = s.ckptPend := rfl
@[simp] theorem updChz_brtPar (s : State) (h : Hd) (z : Zn) (f : ChnHZ → ChnHZ) : (updChz s h z f).brtPar = s.brtPar := rfl
@[simp] theorem updChz_headRecs (s : State) (h : Hd) (z : Zn) (f : ChnHZ → ChnHZ) : (updChz s h z f).headRecs = s.headRecs := rfl
@[simp] theorem updChz_actRecs (s : State) (h : Hd) (z : Zn) (f : ChnHZ → ChnHZ) : (updChz s h z f).actRecs = s.actRecs := rfl
@[simp] theorem updChz_rbld (s : State) (h : Hd) (z : Zn) (f : ChnHZ → ChnHZ) : (updChz s h z f).rbld = s.rbld := rfl
@[simp] theorem updChz_quay (s : State) (h : Hd) (z : Zn) (f : ChnHZ → ChnHZ) : (updChz s h z f).quay = s.quay := rfl
@[simp] theorem updChz_cmds (s : State) (h : Hd) (z : Zn) (f : ChnHZ → ChnHZ) : (updChz s h z f).cmds = s.cmds := rfl
@[simp] theorem updChz_dram (s : State) (h : Hd) (z : Zn) (f : ChnHZ → ChnHZ) : (updChz s h z f).dram = s.dram := rfl
@[simp] theorem updChz_seqs (s : State) (h : Hd) (z : Zn) (f : ChnHZ → ChnHZ) : (updChz s h z f).seqs = s.seqs := rfl
@[simp] theorem updChz_seqDev (s : State) (h : Hd) (z : Zn) (f : ChnHZ → ChnHZ) : (updChz s h z f).seqDev = s.seqDev := rfl
@[simp] theorem updChz_mbx (s : State) (h : Hd) (z : Zn) (f : ChnHZ → ChnHZ) : (updChz s h z f).mbx = s.mbx := rfl
@[simp] theorem updChz_mbxPtr (s : State) (h : Hd) (z : Zn) (f : ChnHZ → ChnHZ) : (updChz s h z f).mbxPtr = s.mbxPtr := rfl
@[simp] theorem updChz_bw (s : State) (h : Hd) (z : Zn) (f : ChnHZ → ChnHZ) : (updChz s h z f).bw = s.bw := rfl
@[simp] theorem updChz_sec (s : State) (h : Hd) (z : Zn) (f : ChnHZ → ChnHZ) : (updChz s h z f).sec = s.sec := rfl
@[simp] theorem updChz_evr (s : State) (h : Hd) (z : Zn) (f : ChnHZ → ChnHZ) : (updChz s h z f).evr = s.evr := rfl
@[simp] theorem updChz_ctr (s : State) (h : Hd) (z : Zn) (f : ChnHZ → ChnHZ) : (updChz s h z f).ctr = s.ctr := rfl
@[simp] theorem updChz_incidents (s : State) (h : Hd) (z : Zn) (f : ChnHZ → ChnHZ) : (updChz s h z f).incidents = s.incidents := rfl
@[simp] theorem updChz_boot (s : State) (h : Hd) (z : Zn) (f : ChnHZ → ChnHZ) : (updChz s h z f).boot = s.boot := rfl
@[simp] theorem updChz_fw (s : State) (h : Hd) (z : Zn) (f : ChnHZ → ChnHZ) : (updChz s h z f).fw = s.fw := rfl
@[simp] theorem updChz_aon (s : State) (h : Hd) (z : Zn) (f : ChnHZ → ChnHZ) : (updChz s h z f).aon = s.aon := rfl
@[simp] theorem updChz_nv (s : State) (h : Hd) (z : Zn) (f : ChnHZ → ChnHZ) : (updChz s h z f).nv = s.nv := rfl

@[simp] theorem updWp_pending (s : State) (a : Act) (f : WritePath → WritePath) : (updWp s a f).pending = s.pending := rfl
@[simp] theorem updWp_phase (s : State) (a : Act) (f : WritePath → WritePath) : (updWp s a f).phase = s.phase := rfl
@[simp] theorem updWp_us (s : State) (a : Act) (f : WritePath → WritePath) : (updWp s a f).us = s.us := rfl
@[simp] theorem updWp_freeCtr (s : State) (a : Act) (f : WritePath → WritePath) : (updWp s a f).freeCtr = s.freeCtr := rfl
@[simp] theorem updWp_out (s : State) (a : Act) (f : WritePath → WritePath) : (updWp s a f).out = s.out := rfl
@[simp] theorem updWp_ledger (s : State) (a : Act) (f : WritePath → WritePath) : (updWp s a f).ledger = s.ledger := rfl
@[simp] theorem updWp_straps (s : State) (a : Act) (f : WritePath → WritePath) : (updWp s a f).straps = s.straps := rfl
@[simp] theorem updWp_pins (s : State) (a : Act) (f : WritePath → WritePath) : (updWp s a f).pins = s.pins := rfl
@[simp] theorem updWp_tap (s : State) (a : Act) (f : WritePath → WritePath) : (updWp s a f).tap = s.tap := rfl
@[simp] theorem updWp_pmu (s : State) (a : Act) (f : WritePath → WritePath) : (updWp s a f).pmu = s.pmu := rfl
@[simp] theorem updWp_surfaces (s : State) (a : Act) (f : WritePath → WritePath) : (updWp s a f).surfaces = s.surfaces := rfl
@[simp] theorem updWp_heads (s : State) (a : Act) (f : WritePath → WritePath) : (updWp s a f).heads = s.heads := rfl
@[simp] theorem updWp_streams (s : State) (a : Act) (f : WritePath → WritePath) : (updWp s a f).streams = s.streams := rfl
@[simp] theorem updWp_guards (s : State) (a : Act) (f : WritePath → WritePath) : (updWp s a f).guards = s.guards := rfl
@[simp] theorem updWp_acts (s : State) (a : Act) (f : WritePath → WritePath) : (updWp s a f).acts = s.acts := rfl
@[simp] theorem updWp_strobe (s : State) (a : Act) (f : WritePath → WritePath) : (updWp s a f).strobe = s.strobe := rfl
@[simp] theorem updWp_strobeDone (s : State) (a : Act) (f : WritePath → WritePath) : (updWp s a f).strobeDone = s.strobeDone := rfl
@[simp] theorem updWp_hloops (s : State) (a : Act) (f : WritePath → WritePath) : (updWp s a f).hloops = s.hloops := rfl
@[simp] theorem updWp_spn (s : State) (a : Act) (f : WritePath → WritePath) : (updWp s a f).spn = s.spn := rfl
@[simp] theorem updWp_chn (s : State) (a : Act) (f : WritePath → WritePath) : (updWp s a f).chn = s.chn := rfl
@[simp] theorem updWp_chz (s : State) (a : Act) (f : WritePath → WritePath) : (updWp s a f).chz = s.chz := rfl
@[simp] theorem updWp_chnDev (s : State) (a : Act) (f : WritePath → WritePath) : (updWp s a f).chnDev = s.chnDev := rfl
@[simp] theorem updWp_wps (s : State) (a : Act) (f : WritePath → WritePath) : (updWp s a f).wps = vupd s.wps a f := rfl
@[simp] theorem updWp_wheads (s : State) (a : Act) (f : WritePath → WritePath) : (updWp s a f).wheads = s.wheads := rfl
@[simp] theorem updWp_wdev (s : State) (a : Act) (f : WritePath → WritePath) : (updWp s a f).wdev = s.wdev := rfl
@[simp] theorem updWp_plks (s : State) (a : Act) (f : WritePath → WritePath) : (updWp s a f).plks = s.plks := rfl
@[simp] theorem updWp_psl (s : State) (a : Act) (f : WritePath → WritePath) : (updWp s a f).psl = s.psl := rfl
@[simp] theorem updWp_lnk (s : State) (a : Act) (f : WritePath → WritePath) : (updWp s a f).lnk = s.lnk := rfl
@[simp] theorem updWp_cache (s : State) (a : Act) (f : WritePath → WritePath) : (updWp s a f).cache = s.cache := rfl
@[simp] theorem updWp_staged (s : State) (a : Act) (f : WritePath → WritePath) : (updWp s a f).staged = s.staged := rfl
@[simp] theorem updWp_tbl (s : State) (a : Act) (f : WritePath → WritePath) : (updWp s a f).tbl = s.tbl := rfl
@[simp] theorem updWp_brt (s : State) (a : Act) (f : WritePath → WritePath) : (updWp s a f).brt = s.brt := rfl
@[simp] theorem updWp_ckptPend (s : State) (a : Act) (f : WritePath → WritePath) : (updWp s a f).ckptPend = s.ckptPend := rfl
@[simp] theorem updWp_brtPar (s : State) (a : Act) (f : WritePath → WritePath) : (updWp s a f).brtPar = s.brtPar := rfl
@[simp] theorem updWp_headRecs (s : State) (a : Act) (f : WritePath → WritePath) : (updWp s a f).headRecs = s.headRecs := rfl
@[simp] theorem updWp_actRecs (s : State) (a : Act) (f : WritePath → WritePath) : (updWp s a f).actRecs = s.actRecs := rfl
@[simp] theorem updWp_rbld (s : State) (a : Act) (f : WritePath → WritePath) : (updWp s a f).rbld = s.rbld := rfl
@[simp] theorem updWp_quay (s : State) (a : Act) (f : WritePath → WritePath) : (updWp s a f).quay = s.quay := rfl
@[simp] theorem updWp_cmds (s : State) (a : Act) (f : WritePath → WritePath) : (updWp s a f).cmds = s.cmds := rfl
@[simp] theorem updWp_dram (s : State) (a : Act) (f : WritePath → WritePath) : (updWp s a f).dram = s.dram := rfl
@[simp] theorem updWp_seqs (s : State) (a : Act) (f : WritePath → WritePath) : (updWp s a f).seqs = s.seqs := rfl
@[simp] theorem updWp_seqDev (s : State) (a : Act) (f : WritePath → WritePath) : (updWp s a f).seqDev = s.seqDev := rfl
@[simp] theorem updWp_mbx (s : State) (a : Act) (f : WritePath → WritePath) : (updWp s a f).mbx = s.mbx := rfl
@[simp] theorem updWp_mbxPtr (s : State) (a : Act) (f : WritePath → WritePath) : (updWp s a f).mbxPtr = s.mbxPtr := rfl
@[simp] theorem updWp_bw (s : State) (a : Act) (f : WritePath → WritePath) : (updWp s a f).bw = s.bw := rfl
@[simp] theorem updWp_sec (s : State) (a : Act) (f : WritePath → WritePath) : (updWp s a f).sec = s.sec := rfl
@[simp] theorem updWp_evr (s : State) (a : Act) (f : WritePath → WritePath) : (updWp s a f).evr = s.evr := rfl
@[simp] theorem updWp_ctr (s : State) (a : Act) (f : WritePath → WritePath) : (updWp s a f).ctr = s.ctr := rfl
@[simp] theorem updWp_incidents (s : State) (a : Act) (f : WritePath → WritePath) : (updWp s a f).incidents = s.incidents := rfl
@[simp] theorem updWp_boot (s : State) (a : Act) (f : WritePath → WritePath) : (updWp s a f).boot = s.boot := rfl
@[simp] theorem updWp_fw (s : State) (a : Act) (f : WritePath → WritePath) : (updWp s a f).fw = s.fw := rfl
@[simp] theorem updWp_aon (s : State) (a : Act) (f : WritePath → WritePath) : (updWp s a f).aon = s.aon := rfl
@[simp] theorem updWp_nv (s : State) (a : Act) (f : WritePath → WritePath) : (updWp s a f).nv = s.nv := rfl

@[simp] theorem updWhead_pending (s : State) (h : Hd) (f : WHead → WHead) : (updWhead s h f).pending = s.pending := rfl
@[simp] theorem updWhead_phase (s : State) (h : Hd) (f : WHead → WHead) : (updWhead s h f).phase = s.phase := rfl
@[simp] theorem updWhead_us (s : State) (h : Hd) (f : WHead → WHead) : (updWhead s h f).us = s.us := rfl
@[simp] theorem updWhead_freeCtr (s : State) (h : Hd) (f : WHead → WHead) : (updWhead s h f).freeCtr = s.freeCtr := rfl
@[simp] theorem updWhead_out (s : State) (h : Hd) (f : WHead → WHead) : (updWhead s h f).out = s.out := rfl
@[simp] theorem updWhead_ledger (s : State) (h : Hd) (f : WHead → WHead) : (updWhead s h f).ledger = s.ledger := rfl
@[simp] theorem updWhead_straps (s : State) (h : Hd) (f : WHead → WHead) : (updWhead s h f).straps = s.straps := rfl
@[simp] theorem updWhead_pins (s : State) (h : Hd) (f : WHead → WHead) : (updWhead s h f).pins = s.pins := rfl
@[simp] theorem updWhead_tap (s : State) (h : Hd) (f : WHead → WHead) : (updWhead s h f).tap = s.tap := rfl
@[simp] theorem updWhead_pmu (s : State) (h : Hd) (f : WHead → WHead) : (updWhead s h f).pmu = s.pmu := rfl
@[simp] theorem updWhead_surfaces (s : State) (h : Hd) (f : WHead → WHead) : (updWhead s h f).surfaces = s.surfaces := rfl
@[simp] theorem updWhead_heads (s : State) (h : Hd) (f : WHead → WHead) : (updWhead s h f).heads = s.heads := rfl
@[simp] theorem updWhead_streams (s : State) (h : Hd) (f : WHead → WHead) : (updWhead s h f).streams = s.streams := rfl
@[simp] theorem updWhead_guards (s : State) (h : Hd) (f : WHead → WHead) : (updWhead s h f).guards = s.guards := rfl
@[simp] theorem updWhead_acts (s : State) (h : Hd) (f : WHead → WHead) : (updWhead s h f).acts = s.acts := rfl
@[simp] theorem updWhead_strobe (s : State) (h : Hd) (f : WHead → WHead) : (updWhead s h f).strobe = s.strobe := rfl
@[simp] theorem updWhead_strobeDone (s : State) (h : Hd) (f : WHead → WHead) : (updWhead s h f).strobeDone = s.strobeDone := rfl
@[simp] theorem updWhead_hloops (s : State) (h : Hd) (f : WHead → WHead) : (updWhead s h f).hloops = s.hloops := rfl
@[simp] theorem updWhead_spn (s : State) (h : Hd) (f : WHead → WHead) : (updWhead s h f).spn = s.spn := rfl
@[simp] theorem updWhead_chn (s : State) (h : Hd) (f : WHead → WHead) : (updWhead s h f).chn = s.chn := rfl
@[simp] theorem updWhead_chz (s : State) (h : Hd) (f : WHead → WHead) : (updWhead s h f).chz = s.chz := rfl
@[simp] theorem updWhead_chnDev (s : State) (h : Hd) (f : WHead → WHead) : (updWhead s h f).chnDev = s.chnDev := rfl
@[simp] theorem updWhead_wps (s : State) (h : Hd) (f : WHead → WHead) : (updWhead s h f).wps = s.wps := rfl
@[simp] theorem updWhead_wheads (s : State) (h : Hd) (f : WHead → WHead) : (updWhead s h f).wheads = vupd s.wheads h f := rfl
@[simp] theorem updWhead_wdev (s : State) (h : Hd) (f : WHead → WHead) : (updWhead s h f).wdev = s.wdev := rfl
@[simp] theorem updWhead_plks (s : State) (h : Hd) (f : WHead → WHead) : (updWhead s h f).plks = s.plks := rfl
@[simp] theorem updWhead_psl (s : State) (h : Hd) (f : WHead → WHead) : (updWhead s h f).psl = s.psl := rfl
@[simp] theorem updWhead_lnk (s : State) (h : Hd) (f : WHead → WHead) : (updWhead s h f).lnk = s.lnk := rfl
@[simp] theorem updWhead_cache (s : State) (h : Hd) (f : WHead → WHead) : (updWhead s h f).cache = s.cache := rfl
@[simp] theorem updWhead_staged (s : State) (h : Hd) (f : WHead → WHead) : (updWhead s h f).staged = s.staged := rfl
@[simp] theorem updWhead_tbl (s : State) (h : Hd) (f : WHead → WHead) : (updWhead s h f).tbl = s.tbl := rfl
@[simp] theorem updWhead_brt (s : State) (h : Hd) (f : WHead → WHead) : (updWhead s h f).brt = s.brt := rfl
@[simp] theorem updWhead_ckptPend (s : State) (h : Hd) (f : WHead → WHead) : (updWhead s h f).ckptPend = s.ckptPend := rfl
@[simp] theorem updWhead_brtPar (s : State) (h : Hd) (f : WHead → WHead) : (updWhead s h f).brtPar = s.brtPar := rfl
@[simp] theorem updWhead_headRecs (s : State) (h : Hd) (f : WHead → WHead) : (updWhead s h f).headRecs = s.headRecs := rfl
@[simp] theorem updWhead_actRecs (s : State) (h : Hd) (f : WHead → WHead) : (updWhead s h f).actRecs = s.actRecs := rfl
@[simp] theorem updWhead_rbld (s : State) (h : Hd) (f : WHead → WHead) : (updWhead s h f).rbld = s.rbld := rfl
@[simp] theorem updWhead_quay (s : State) (h : Hd) (f : WHead → WHead) : (updWhead s h f).quay = s.quay := rfl
@[simp] theorem updWhead_cmds (s : State) (h : Hd) (f : WHead → WHead) : (updWhead s h f).cmds = s.cmds := rfl
@[simp] theorem updWhead_dram (s : State) (h : Hd) (f : WHead → WHead) : (updWhead s h f).dram = s.dram := rfl
@[simp] theorem updWhead_seqs (s : State) (h : Hd) (f : WHead → WHead) : (updWhead s h f).seqs = s.seqs := rfl
@[simp] theorem updWhead_seqDev (s : State) (h : Hd) (f : WHead → WHead) : (updWhead s h f).seqDev = s.seqDev := rfl
@[simp] theorem updWhead_mbx (s : State) (h : Hd) (f : WHead → WHead) : (updWhead s h f).mbx = s.mbx := rfl
@[simp] theorem updWhead_mbxPtr (s : State) (h : Hd) (f : WHead → WHead) : (updWhead s h f).mbxPtr = s.mbxPtr := rfl
@[simp] theorem updWhead_bw (s : State) (h : Hd) (f : WHead → WHead) : (updWhead s h f).bw = s.bw := rfl
@[simp] theorem updWhead_sec (s : State) (h : Hd) (f : WHead → WHead) : (updWhead s h f).sec = s.sec := rfl
@[simp] theorem updWhead_evr (s : State) (h : Hd) (f : WHead → WHead) : (updWhead s h f).evr = s.evr := rfl
@[simp] theorem updWhead_ctr (s : State) (h : Hd) (f : WHead → WHead) : (updWhead s h f).ctr = s.ctr := rfl
@[simp] theorem updWhead_incidents (s : State) (h : Hd) (f : WHead → WHead) : (updWhead s h f).incidents = s.incidents := rfl
@[simp] theorem updWhead_boot (s : State) (h : Hd) (f : WHead → WHead) : (updWhead s h f).boot = s.boot := rfl
@[simp] theorem updWhead_fw (s : State) (h : Hd) (f : WHead → WHead) : (updWhead s h f).fw = s.fw := rfl
@[simp] theorem updWhead_aon (s : State) (h : Hd) (f : WHead → WHead) : (updWhead s h f).aon = s.aon := rfl
@[simp] theorem updWhead_nv (s : State) (h : Hd) (f : WHead → WHead) : (updWhead s h f).nv = s.nv := rfl

@[simp] theorem updPlk_pending (s : State) (a : Act) (f : PLink → PLink) : (updPlk s a f).pending = s.pending := rfl
@[simp] theorem updPlk_phase (s : State) (a : Act) (f : PLink → PLink) : (updPlk s a f).phase = s.phase := rfl
@[simp] theorem updPlk_us (s : State) (a : Act) (f : PLink → PLink) : (updPlk s a f).us = s.us := rfl
@[simp] theorem updPlk_freeCtr (s : State) (a : Act) (f : PLink → PLink) : (updPlk s a f).freeCtr = s.freeCtr := rfl
@[simp] theorem updPlk_out (s : State) (a : Act) (f : PLink → PLink) : (updPlk s a f).out = s.out := rfl
@[simp] theorem updPlk_ledger (s : State) (a : Act) (f : PLink → PLink) : (updPlk s a f).ledger = s.ledger := rfl
@[simp] theorem updPlk_straps (s : State) (a : Act) (f : PLink → PLink) : (updPlk s a f).straps = s.straps := rfl
@[simp] theorem updPlk_pins (s : State) (a : Act) (f : PLink → PLink) : (updPlk s a f).pins = s.pins := rfl
@[simp] theorem updPlk_tap (s : State) (a : Act) (f : PLink → PLink) : (updPlk s a f).tap = s.tap := rfl
@[simp] theorem updPlk_pmu (s : State) (a : Act) (f : PLink → PLink) : (updPlk s a f).pmu = s.pmu := rfl
@[simp] theorem updPlk_surfaces (s : State) (a : Act) (f : PLink → PLink) : (updPlk s a f).surfaces = s.surfaces := rfl
@[simp] theorem updPlk_heads (s : State) (a : Act) (f : PLink → PLink) : (updPlk s a f).heads = s.heads := rfl
@[simp] theorem updPlk_streams (s : State) (a : Act) (f : PLink → PLink) : (updPlk s a f).streams = s.streams := rfl
@[simp] theorem updPlk_guards (s : State) (a : Act) (f : PLink → PLink) : (updPlk s a f).guards = s.guards := rfl
@[simp] theorem updPlk_acts (s : State) (a : Act) (f : PLink → PLink) : (updPlk s a f).acts = s.acts := rfl
@[simp] theorem updPlk_strobe (s : State) (a : Act) (f : PLink → PLink) : (updPlk s a f).strobe = s.strobe := rfl
@[simp] theorem updPlk_strobeDone (s : State) (a : Act) (f : PLink → PLink) : (updPlk s a f).strobeDone = s.strobeDone := rfl
@[simp] theorem updPlk_hloops (s : State) (a : Act) (f : PLink → PLink) : (updPlk s a f).hloops = s.hloops := rfl
@[simp] theorem updPlk_spn (s : State) (a : Act) (f : PLink → PLink) : (updPlk s a f).spn = s.spn := rfl
@[simp] theorem updPlk_chn (s : State) (a : Act) (f : PLink → PLink) : (updPlk s a f).chn = s.chn := rfl
@[simp] theorem updPlk_chz (s : State) (a : Act) (f : PLink → PLink) : (updPlk s a f).chz = s.chz := rfl
@[simp] theorem updPlk_chnDev (s : State) (a : Act) (f : PLink → PLink) : (updPlk s a f).chnDev = s.chnDev := rfl
@[simp] theorem updPlk_wps (s : State) (a : Act) (f : PLink → PLink) : (updPlk s a f).wps = s.wps := rfl
@[simp] theorem updPlk_wheads (s : State) (a : Act) (f : PLink → PLink) : (updPlk s a f).wheads = s.wheads := rfl
@[simp] theorem updPlk_wdev (s : State) (a : Act) (f : PLink → PLink) : (updPlk s a f).wdev = s.wdev := rfl
@[simp] theorem updPlk_plks (s : State) (a : Act) (f : PLink → PLink) : (updPlk s a f).plks = vupd s.plks a f := rfl
@[simp] theorem updPlk_psl (s : State) (a : Act) (f : PLink → PLink) : (updPlk s a f).psl = s.psl := rfl
@[simp] theorem updPlk_lnk (s : State) (a : Act) (f : PLink → PLink) : (updPlk s a f).lnk = s.lnk := rfl
@[simp] theorem updPlk_cache (s : State) (a : Act) (f : PLink → PLink) : (updPlk s a f).cache = s.cache := rfl
@[simp] theorem updPlk_staged (s : State) (a : Act) (f : PLink → PLink) : (updPlk s a f).staged = s.staged := rfl
@[simp] theorem updPlk_tbl (s : State) (a : Act) (f : PLink → PLink) : (updPlk s a f).tbl = s.tbl := rfl
@[simp] theorem updPlk_brt (s : State) (a : Act) (f : PLink → PLink) : (updPlk s a f).brt = s.brt := rfl
@[simp] theorem updPlk_ckptPend (s : State) (a : Act) (f : PLink → PLink) : (updPlk s a f).ckptPend = s.ckptPend := rfl
@[simp] theorem updPlk_brtPar (s : State) (a : Act) (f : PLink → PLink) : (updPlk s a f).brtPar = s.brtPar := rfl
@[simp] theorem updPlk_headRecs (s : State) (a : Act) (f : PLink → PLink) : (updPlk s a f).headRecs = s.headRecs := rfl
@[simp] theorem updPlk_actRecs (s : State) (a : Act) (f : PLink → PLink) : (updPlk s a f).actRecs = s.actRecs := rfl
@[simp] theorem updPlk_rbld (s : State) (a : Act) (f : PLink → PLink) : (updPlk s a f).rbld = s.rbld := rfl
@[simp] theorem updPlk_quay (s : State) (a : Act) (f : PLink → PLink) : (updPlk s a f).quay = s.quay := rfl
@[simp] theorem updPlk_cmds (s : State) (a : Act) (f : PLink → PLink) : (updPlk s a f).cmds = s.cmds := rfl
@[simp] theorem updPlk_dram (s : State) (a : Act) (f : PLink → PLink) : (updPlk s a f).dram = s.dram := rfl
@[simp] theorem updPlk_seqs (s : State) (a : Act) (f : PLink → PLink) : (updPlk s a f).seqs = s.seqs := rfl
@[simp] theorem updPlk_seqDev (s : State) (a : Act) (f : PLink → PLink) : (updPlk s a f).seqDev = s.seqDev := rfl
@[simp] theorem updPlk_mbx (s : State) (a : Act) (f : PLink → PLink) : (updPlk s a f).mbx = s.mbx := rfl
@[simp] theorem updPlk_mbxPtr (s : State) (a : Act) (f : PLink → PLink) : (updPlk s a f).mbxPtr = s.mbxPtr := rfl
@[simp] theorem updPlk_bw (s : State) (a : Act) (f : PLink → PLink) : (updPlk s a f).bw = s.bw := rfl
@[simp] theorem updPlk_sec (s : State) (a : Act) (f : PLink → PLink) : (updPlk s a f).sec = s.sec := rfl
@[simp] theorem updPlk_evr (s : State) (a : Act) (f : PLink → PLink) : (updPlk s a f).evr = s.evr := rfl
@[simp] theorem updPlk_ctr (s : State) (a : Act) (f : PLink → PLink) : (updPlk s a f).ctr = s.ctr := rfl
@[simp] theorem updPlk_incidents (s : State) (a : Act) (f : PLink → PLink) : (updPlk s a f).incidents = s.incidents := rfl
@[simp] theorem updPlk_boot (s : State) (a : Act) (f : PLink → PLink) : (updPlk s a f).boot = s.boot := rfl
@[simp] theorem updPlk_fw (s : State) (a : Act) (f : PLink → PLink) : (updPlk s a f).fw = s.fw := rfl
@[simp] theorem updPlk_aon (s : State) (a : Act) (f : PLink → PLink) : (updPlk s a f).aon = s.aon := rfl
@[simp] theorem updPlk_nv (s : State) (a : Act) (f : PLink → PLink) : (updPlk s a f).nv = s.nv := rfl

@[simp] theorem updPsl_pending (s : State) (f : PsLink → PsLink) : (updPsl s f).pending = s.pending := rfl
@[simp] theorem updPsl_phase (s : State) (f : PsLink → PsLink) : (updPsl s f).phase = s.phase := rfl
@[simp] theorem updPsl_us (s : State) (f : PsLink → PsLink) : (updPsl s f).us = s.us := rfl
@[simp] theorem updPsl_freeCtr (s : State) (f : PsLink → PsLink) : (updPsl s f).freeCtr = s.freeCtr := rfl
@[simp] theorem updPsl_out (s : State) (f : PsLink → PsLink) : (updPsl s f).out = s.out := rfl
@[simp] theorem updPsl_ledger (s : State) (f : PsLink → PsLink) : (updPsl s f).ledger = s.ledger := rfl
@[simp] theorem updPsl_straps (s : State) (f : PsLink → PsLink) : (updPsl s f).straps = s.straps := rfl
@[simp] theorem updPsl_pins (s : State) (f : PsLink → PsLink) : (updPsl s f).pins = s.pins := rfl
@[simp] theorem updPsl_tap (s : State) (f : PsLink → PsLink) : (updPsl s f).tap = s.tap := rfl
@[simp] theorem updPsl_pmu (s : State) (f : PsLink → PsLink) : (updPsl s f).pmu = s.pmu := rfl
@[simp] theorem updPsl_surfaces (s : State) (f : PsLink → PsLink) : (updPsl s f).surfaces = s.surfaces := rfl
@[simp] theorem updPsl_heads (s : State) (f : PsLink → PsLink) : (updPsl s f).heads = s.heads := rfl
@[simp] theorem updPsl_streams (s : State) (f : PsLink → PsLink) : (updPsl s f).streams = s.streams := rfl
@[simp] theorem updPsl_guards (s : State) (f : PsLink → PsLink) : (updPsl s f).guards = s.guards := rfl
@[simp] theorem updPsl_acts (s : State) (f : PsLink → PsLink) : (updPsl s f).acts = s.acts := rfl
@[simp] theorem updPsl_strobe (s : State) (f : PsLink → PsLink) : (updPsl s f).strobe = s.strobe := rfl
@[simp] theorem updPsl_strobeDone (s : State) (f : PsLink → PsLink) : (updPsl s f).strobeDone = s.strobeDone := rfl
@[simp] theorem updPsl_hloops (s : State) (f : PsLink → PsLink) : (updPsl s f).hloops = s.hloops := rfl
@[simp] theorem updPsl_spn (s : State) (f : PsLink → PsLink) : (updPsl s f).spn = s.spn := rfl
@[simp] theorem updPsl_chn (s : State) (f : PsLink → PsLink) : (updPsl s f).chn = s.chn := rfl
@[simp] theorem updPsl_chz (s : State) (f : PsLink → PsLink) : (updPsl s f).chz = s.chz := rfl
@[simp] theorem updPsl_chnDev (s : State) (f : PsLink → PsLink) : (updPsl s f).chnDev = s.chnDev := rfl
@[simp] theorem updPsl_wps (s : State) (f : PsLink → PsLink) : (updPsl s f).wps = s.wps := rfl
@[simp] theorem updPsl_wheads (s : State) (f : PsLink → PsLink) : (updPsl s f).wheads = s.wheads := rfl
@[simp] theorem updPsl_wdev (s : State) (f : PsLink → PsLink) : (updPsl s f).wdev = s.wdev := rfl
@[simp] theorem updPsl_plks (s : State) (f : PsLink → PsLink) : (updPsl s f).plks = s.plks := rfl
@[simp] theorem updPsl_psl (s : State) (f : PsLink → PsLink) : (updPsl s f).psl = f s.psl := rfl
@[simp] theorem updPsl_lnk (s : State) (f : PsLink → PsLink) : (updPsl s f).lnk = s.lnk := rfl
@[simp] theorem updPsl_cache (s : State) (f : PsLink → PsLink) : (updPsl s f).cache = s.cache := rfl
@[simp] theorem updPsl_staged (s : State) (f : PsLink → PsLink) : (updPsl s f).staged = s.staged := rfl
@[simp] theorem updPsl_tbl (s : State) (f : PsLink → PsLink) : (updPsl s f).tbl = s.tbl := rfl
@[simp] theorem updPsl_brt (s : State) (f : PsLink → PsLink) : (updPsl s f).brt = s.brt := rfl
@[simp] theorem updPsl_ckptPend (s : State) (f : PsLink → PsLink) : (updPsl s f).ckptPend = s.ckptPend := rfl
@[simp] theorem updPsl_brtPar (s : State) (f : PsLink → PsLink) : (updPsl s f).brtPar = s.brtPar := rfl
@[simp] theorem updPsl_headRecs (s : State) (f : PsLink → PsLink) : (updPsl s f).headRecs = s.headRecs := rfl
@[simp] theorem updPsl_actRecs (s : State) (f : PsLink → PsLink) : (updPsl s f).actRecs = s.actRecs := rfl
@[simp] theorem updPsl_rbld (s : State) (f : PsLink → PsLink) : (updPsl s f).rbld = s.rbld := rfl
@[simp] theorem updPsl_quay (s : State) (f : PsLink → PsLink) : (updPsl s f).quay = s.quay := rfl
@[simp] theorem updPsl_cmds (s : State) (f : PsLink → PsLink) : (updPsl s f).cmds = s.cmds := rfl
@[simp] theorem updPsl_dram (s : State) (f : PsLink → PsLink) : (updPsl s f).dram = s.dram := rfl
@[simp] theorem updPsl_seqs (s : State) (f : PsLink → PsLink) : (updPsl s f).seqs = s.seqs := rfl
@[simp] theorem updPsl_seqDev (s : State) (f : PsLink → PsLink) : (updPsl s f).seqDev = s.seqDev := rfl
@[simp] theorem updPsl_mbx (s : State) (f : PsLink → PsLink) : (updPsl s f).mbx = s.mbx := rfl
@[simp] theorem updPsl_mbxPtr (s : State) (f : PsLink → PsLink) : (updPsl s f).mbxPtr = s.mbxPtr := rfl
@[simp] theorem updPsl_bw (s : State) (f : PsLink → PsLink) : (updPsl s f).bw = s.bw := rfl
@[simp] theorem updPsl_sec (s : State) (f : PsLink → PsLink) : (updPsl s f).sec = s.sec := rfl
@[simp] theorem updPsl_evr (s : State) (f : PsLink → PsLink) : (updPsl s f).evr = s.evr := rfl
@[simp] theorem updPsl_ctr (s : State) (f : PsLink → PsLink) : (updPsl s f).ctr = s.ctr := rfl
@[simp] theorem updPsl_incidents (s : State) (f : PsLink → PsLink) : (updPsl s f).incidents = s.incidents := rfl
@[simp] theorem updPsl_boot (s : State) (f : PsLink → PsLink) : (updPsl s f).boot = s.boot := rfl
@[simp] theorem updPsl_fw (s : State) (f : PsLink → PsLink) : (updPsl s f).fw = s.fw := rfl
@[simp] theorem updPsl_aon (s : State) (f : PsLink → PsLink) : (updPsl s f).aon = s.aon := rfl
@[simp] theorem updPsl_nv (s : State) (f : PsLink → PsLink) : (updPsl s f).nv = s.nv := rfl

@[simp] theorem updTbl_pending (s : State) (f : Tables → Tables) : (updTbl s f).pending = s.pending := rfl
@[simp] theorem updTbl_phase (s : State) (f : Tables → Tables) : (updTbl s f).phase = s.phase := rfl
@[simp] theorem updTbl_us (s : State) (f : Tables → Tables) : (updTbl s f).us = s.us := rfl
@[simp] theorem updTbl_freeCtr (s : State) (f : Tables → Tables) : (updTbl s f).freeCtr = s.freeCtr := rfl
@[simp] theorem updTbl_out (s : State) (f : Tables → Tables) : (updTbl s f).out = s.out := rfl
@[simp] theorem updTbl_ledger (s : State) (f : Tables → Tables) : (updTbl s f).ledger = s.ledger := rfl
@[simp] theorem updTbl_straps (s : State) (f : Tables → Tables) : (updTbl s f).straps = s.straps := rfl
@[simp] theorem updTbl_pins (s : State) (f : Tables → Tables) : (updTbl s f).pins = s.pins := rfl
@[simp] theorem updTbl_tap (s : State) (f : Tables → Tables) : (updTbl s f).tap = s.tap := rfl
@[simp] theorem updTbl_pmu (s : State) (f : Tables → Tables) : (updTbl s f).pmu = s.pmu := rfl
@[simp] theorem updTbl_surfaces (s : State) (f : Tables → Tables) : (updTbl s f).surfaces = s.surfaces := rfl
@[simp] theorem updTbl_heads (s : State) (f : Tables → Tables) : (updTbl s f).heads = s.heads := rfl
@[simp] theorem updTbl_streams (s : State) (f : Tables → Tables) : (updTbl s f).streams = s.streams := rfl
@[simp] theorem updTbl_guards (s : State) (f : Tables → Tables) : (updTbl s f).guards = s.guards := rfl
@[simp] theorem updTbl_acts (s : State) (f : Tables → Tables) : (updTbl s f).acts = s.acts := rfl
@[simp] theorem updTbl_strobe (s : State) (f : Tables → Tables) : (updTbl s f).strobe = s.strobe := rfl
@[simp] theorem updTbl_strobeDone (s : State) (f : Tables → Tables) : (updTbl s f).strobeDone = s.strobeDone := rfl
@[simp] theorem updTbl_hloops (s : State) (f : Tables → Tables) : (updTbl s f).hloops = s.hloops := rfl
@[simp] theorem updTbl_spn (s : State) (f : Tables → Tables) : (updTbl s f).spn = s.spn := rfl
@[simp] theorem updTbl_chn (s : State) (f : Tables → Tables) : (updTbl s f).chn = s.chn := rfl
@[simp] theorem updTbl_chz (s : State) (f : Tables → Tables) : (updTbl s f).chz = s.chz := rfl
@[simp] theorem updTbl_chnDev (s : State) (f : Tables → Tables) : (updTbl s f).chnDev = s.chnDev := rfl
@[simp] theorem updTbl_wps (s : State) (f : Tables → Tables) : (updTbl s f).wps = s.wps := rfl
@[simp] theorem updTbl_wheads (s : State) (f : Tables → Tables) : (updTbl s f).wheads = s.wheads := rfl
@[simp] theorem updTbl_wdev (s : State) (f : Tables → Tables) : (updTbl s f).wdev = s.wdev := rfl
@[simp] theorem updTbl_plks (s : State) (f : Tables → Tables) : (updTbl s f).plks = s.plks := rfl
@[simp] theorem updTbl_psl (s : State) (f : Tables → Tables) : (updTbl s f).psl = s.psl := rfl
@[simp] theorem updTbl_lnk (s : State) (f : Tables → Tables) : (updTbl s f).lnk = s.lnk := rfl
@[simp] theorem updTbl_cache (s : State) (f : Tables → Tables) : (updTbl s f).cache = s.cache := rfl
@[simp] theorem updTbl_staged (s : State) (f : Tables → Tables) : (updTbl s f).staged = s.staged := rfl
@[simp] theorem updTbl_tbl (s : State) (f : Tables → Tables) : (updTbl s f).tbl = f s.tbl := rfl
@[simp] theorem updTbl_brt (s : State) (f : Tables → Tables) : (updTbl s f).brt = s.brt := rfl
@[simp] theorem updTbl_ckptPend (s : State) (f : Tables → Tables) : (updTbl s f).ckptPend = s.ckptPend := rfl
@[simp] theorem updTbl_brtPar (s : State) (f : Tables → Tables) : (updTbl s f).brtPar = s.brtPar := rfl
@[simp] theorem updTbl_headRecs (s : State) (f : Tables → Tables) : (updTbl s f).headRecs = s.headRecs := rfl
@[simp] theorem updTbl_actRecs (s : State) (f : Tables → Tables) : (updTbl s f).actRecs = s.actRecs := rfl
@[simp] theorem updTbl_rbld (s : State) (f : Tables → Tables) : (updTbl s f).rbld = s.rbld := rfl
@[simp] theorem updTbl_quay (s : State) (f : Tables → Tables) : (updTbl s f).quay = s.quay := rfl
@[simp] theorem updTbl_cmds (s : State) (f : Tables → Tables) : (updTbl s f).cmds = s.cmds := rfl
@[simp] theorem updTbl_dram (s : State) (f : Tables → Tables) : (updTbl s f).dram = s.dram := rfl
@[simp] theorem updTbl_seqs (s : State) (f : Tables → Tables) : (updTbl s f).seqs = s.seqs := rfl
@[simp] theorem updTbl_seqDev (s : State) (f : Tables → Tables) : (updTbl s f).seqDev = s.seqDev := rfl
@[simp] theorem updTbl_mbx (s : State) (f : Tables → Tables) : (updTbl s f).mbx = s.mbx := rfl
@[simp] theorem updTbl_mbxPtr (s : State) (f : Tables → Tables) : (updTbl s f).mbxPtr = s.mbxPtr := rfl
@[simp] theorem updTbl_bw (s : State) (f : Tables → Tables) : (updTbl s f).bw = s.bw := rfl
@[simp] theorem updTbl_sec (s : State) (f : Tables → Tables) : (updTbl s f).sec = s.sec := rfl
@[simp] theorem updTbl_evr (s : State) (f : Tables → Tables) : (updTbl s f).evr = s.evr := rfl
@[simp] theorem updTbl_ctr (s : State) (f : Tables → Tables) : (updTbl s f).ctr = s.ctr := rfl
@[simp] theorem updTbl_incidents (s : State) (f : Tables → Tables) : (updTbl s f).incidents = s.incidents := rfl
@[simp] theorem updTbl_boot (s : State) (f : Tables → Tables) : (updTbl s f).boot = s.boot := rfl
@[simp] theorem updTbl_fw (s : State) (f : Tables → Tables) : (updTbl s f).fw = s.fw := rfl
@[simp] theorem updTbl_aon (s : State) (f : Tables → Tables) : (updTbl s f).aon = s.aon := rfl
@[simp] theorem updTbl_nv (s : State) (f : Tables → Tables) : (updTbl s f).nv = s.nv := rfl

@[simp] theorem updBrt_pending (s : State) (f : BrtEng → BrtEng) : (updBrt s f).pending = s.pending := rfl
@[simp] theorem updBrt_phase (s : State) (f : BrtEng → BrtEng) : (updBrt s f).phase = s.phase := rfl
@[simp] theorem updBrt_us (s : State) (f : BrtEng → BrtEng) : (updBrt s f).us = s.us := rfl
@[simp] theorem updBrt_freeCtr (s : State) (f : BrtEng → BrtEng) : (updBrt s f).freeCtr = s.freeCtr := rfl
@[simp] theorem updBrt_out (s : State) (f : BrtEng → BrtEng) : (updBrt s f).out = s.out := rfl
@[simp] theorem updBrt_ledger (s : State) (f : BrtEng → BrtEng) : (updBrt s f).ledger = s.ledger := rfl
@[simp] theorem updBrt_straps (s : State) (f : BrtEng → BrtEng) : (updBrt s f).straps = s.straps := rfl
@[simp] theorem updBrt_pins (s : State) (f : BrtEng → BrtEng) : (updBrt s f).pins = s.pins := rfl
@[simp] theorem updBrt_tap (s : State) (f : BrtEng → BrtEng) : (updBrt s f).tap = s.tap := rfl
@[simp] theorem updBrt_pmu (s : State) (f : BrtEng → BrtEng) : (updBrt s f).pmu = s.pmu := rfl
@[simp] theorem updBrt_surfaces (s : State) (f : BrtEng → BrtEng) : (updBrt s f).surfaces = s.surfaces := rfl
@[simp] theorem updBrt_heads (s : State) (f : BrtEng → BrtEng) : (updBrt s f).heads = s.heads := rfl
@[simp] theorem updBrt_streams (s : State) (f : BrtEng → BrtEng) : (updBrt s f).streams = s.streams := rfl
@[simp] theorem updBrt_guards (s : State) (f : BrtEng → BrtEng) : (updBrt s f).guards = s.guards := rfl
@[simp] theorem updBrt_acts (s : State) (f : BrtEng → BrtEng) : (updBrt s f).acts = s.acts := rfl
@[simp] theorem updBrt_strobe (s : State) (f : BrtEng → BrtEng) : (updBrt s f).strobe = s.strobe := rfl
@[simp] theorem updBrt_strobeDone (s : State) (f : BrtEng → BrtEng) : (updBrt s f).strobeDone = s.strobeDone := rfl
@[simp] theorem updBrt_hloops (s : State) (f : BrtEng → BrtEng) : (updBrt s f).hloops = s.hloops := rfl
@[simp] theorem updBrt_spn (s : State) (f : BrtEng → BrtEng) : (updBrt s f).spn = s.spn := rfl
@[simp] theorem updBrt_chn (s : State) (f : BrtEng → BrtEng) : (updBrt s f).chn = s.chn := rfl
@[simp] theorem updBrt_chz (s : State) (f : BrtEng → BrtEng) : (updBrt s f).chz = s.chz := rfl
@[simp] theorem updBrt_chnDev (s : State) (f : BrtEng → BrtEng) : (updBrt s f).chnDev = s.chnDev := rfl
@[simp] theorem updBrt_wps (s : State) (f : BrtEng → BrtEng) : (updBrt s f).wps = s.wps := rfl
@[simp] theorem updBrt_wheads (s : State) (f : BrtEng → BrtEng) : (updBrt s f).wheads = s.wheads := rfl
@[simp] theorem updBrt_wdev (s : State) (f : BrtEng → BrtEng) : (updBrt s f).wdev = s.wdev := rfl
@[simp] theorem updBrt_plks (s : State) (f : BrtEng → BrtEng) : (updBrt s f).plks = s.plks := rfl
@[simp] theorem updBrt_psl (s : State) (f : BrtEng → BrtEng) : (updBrt s f).psl = s.psl := rfl
@[simp] theorem updBrt_lnk (s : State) (f : BrtEng → BrtEng) : (updBrt s f).lnk = s.lnk := rfl
@[simp] theorem updBrt_cache (s : State) (f : BrtEng → BrtEng) : (updBrt s f).cache = s.cache := rfl
@[simp] theorem updBrt_staged (s : State) (f : BrtEng → BrtEng) : (updBrt s f).staged = s.staged := rfl
@[simp] theorem updBrt_tbl (s : State) (f : BrtEng → BrtEng) : (updBrt s f).tbl = s.tbl := rfl
@[simp] theorem updBrt_brt (s : State) (f : BrtEng → BrtEng) : (updBrt s f).brt = f s.brt := rfl
@[simp] theorem updBrt_ckptPend (s : State) (f : BrtEng → BrtEng) : (updBrt s f).ckptPend = s.ckptPend := rfl
@[simp] theorem updBrt_brtPar (s : State) (f : BrtEng → BrtEng) : (updBrt s f).brtPar = s.brtPar := rfl
@[simp] theorem updBrt_headRecs (s : State) (f : BrtEng → BrtEng) : (updBrt s f).headRecs = s.headRecs := rfl
@[simp] theorem updBrt_actRecs (s : State) (f : BrtEng → BrtEng) : (updBrt s f).actRecs = s.actRecs := rfl
@[simp] theorem updBrt_rbld (s : State) (f : BrtEng → BrtEng) : (updBrt s f).rbld = s.rbld := rfl
@[simp] theorem updBrt_quay (s : State) (f : BrtEng → BrtEng) : (updBrt s f).quay = s.quay := rfl
@[simp] theorem updBrt_cmds (s : State) (f : BrtEng → BrtEng) : (updBrt s f).cmds = s.cmds := rfl
@[simp] theorem updBrt_dram (s : State) (f : BrtEng → BrtEng) : (updBrt s f).dram = s.dram := rfl
@[simp] theorem updBrt_seqs (s : State) (f : BrtEng → BrtEng) : (updBrt s f).seqs = s.seqs := rfl
@[simp] theorem updBrt_seqDev (s : State) (f : BrtEng → BrtEng) : (updBrt s f).seqDev = s.seqDev := rfl
@[simp] theorem updBrt_mbx (s : State) (f : BrtEng → BrtEng) : (updBrt s f).mbx = s.mbx := rfl
@[simp] theorem updBrt_mbxPtr (s : State) (f : BrtEng → BrtEng) : (updBrt s f).mbxPtr = s.mbxPtr := rfl
@[simp] theorem updBrt_bw (s : State) (f : BrtEng → BrtEng) : (updBrt s f).bw = s.bw := rfl
@[simp] theorem updBrt_sec (s : State) (f : BrtEng → BrtEng) : (updBrt s f).sec = s.sec := rfl
@[simp] theorem updBrt_evr (s : State) (f : BrtEng → BrtEng) : (updBrt s f).evr = s.evr := rfl
@[simp] theorem updBrt_ctr (s : State) (f : BrtEng → BrtEng) : (updBrt s f).ctr = s.ctr := rfl
@[simp] theorem updBrt_incidents (s : State) (f : BrtEng → BrtEng) : (updBrt s f).incidents = s.incidents := rfl
@[simp] theorem updBrt_boot (s : State) (f : BrtEng → BrtEng) : (updBrt s f).boot = s.boot := rfl
@[simp] theorem updBrt_fw (s : State) (f : BrtEng → BrtEng) : (updBrt s f).fw = s.fw := rfl
@[simp] theorem updBrt_aon (s : State) (f : BrtEng → BrtEng) : (updBrt s f).aon = s.aon := rfl
@[simp] theorem updBrt_nv (s : State) (f : BrtEng → BrtEng) : (updBrt s f).nv = s.nv := rfl

@[simp] theorem updRbld_pending (s : State) (f : RbldEng → RbldEng) : (updRbld s f).pending = s.pending := rfl
@[simp] theorem updRbld_phase (s : State) (f : RbldEng → RbldEng) : (updRbld s f).phase = s.phase := rfl
@[simp] theorem updRbld_us (s : State) (f : RbldEng → RbldEng) : (updRbld s f).us = s.us := rfl
@[simp] theorem updRbld_freeCtr (s : State) (f : RbldEng → RbldEng) : (updRbld s f).freeCtr = s.freeCtr := rfl
@[simp] theorem updRbld_out (s : State) (f : RbldEng → RbldEng) : (updRbld s f).out = s.out := rfl
@[simp] theorem updRbld_ledger (s : State) (f : RbldEng → RbldEng) : (updRbld s f).ledger = s.ledger := rfl
@[simp] theorem updRbld_straps (s : State) (f : RbldEng → RbldEng) : (updRbld s f).straps = s.straps := rfl
@[simp] theorem updRbld_pins (s : State) (f : RbldEng → RbldEng) : (updRbld s f).pins = s.pins := rfl
@[simp] theorem updRbld_tap (s : State) (f : RbldEng → RbldEng) : (updRbld s f).tap = s.tap := rfl
@[simp] theorem updRbld_pmu (s : State) (f : RbldEng → RbldEng) : (updRbld s f).pmu = s.pmu := rfl
@[simp] theorem updRbld_surfaces (s : State) (f : RbldEng → RbldEng) : (updRbld s f).surfaces = s.surfaces := rfl
@[simp] theorem updRbld_heads (s : State) (f : RbldEng → RbldEng) : (updRbld s f).heads = s.heads := rfl
@[simp] theorem updRbld_streams (s : State) (f : RbldEng → RbldEng) : (updRbld s f).streams = s.streams := rfl
@[simp] theorem updRbld_guards (s : State) (f : RbldEng → RbldEng) : (updRbld s f).guards = s.guards := rfl
@[simp] theorem updRbld_acts (s : State) (f : RbldEng → RbldEng) : (updRbld s f).acts = s.acts := rfl
@[simp] theorem updRbld_strobe (s : State) (f : RbldEng → RbldEng) : (updRbld s f).strobe = s.strobe := rfl
@[simp] theorem updRbld_strobeDone (s : State) (f : RbldEng → RbldEng) : (updRbld s f).strobeDone = s.strobeDone := rfl
@[simp] theorem updRbld_hloops (s : State) (f : RbldEng → RbldEng) : (updRbld s f).hloops = s.hloops := rfl
@[simp] theorem updRbld_spn (s : State) (f : RbldEng → RbldEng) : (updRbld s f).spn = s.spn := rfl
@[simp] theorem updRbld_chn (s : State) (f : RbldEng → RbldEng) : (updRbld s f).chn = s.chn := rfl
@[simp] theorem updRbld_chz (s : State) (f : RbldEng → RbldEng) : (updRbld s f).chz = s.chz := rfl
@[simp] theorem updRbld_chnDev (s : State) (f : RbldEng → RbldEng) : (updRbld s f).chnDev = s.chnDev := rfl
@[simp] theorem updRbld_wps (s : State) (f : RbldEng → RbldEng) : (updRbld s f).wps = s.wps := rfl
@[simp] theorem updRbld_wheads (s : State) (f : RbldEng → RbldEng) : (updRbld s f).wheads = s.wheads := rfl
@[simp] theorem updRbld_wdev (s : State) (f : RbldEng → RbldEng) : (updRbld s f).wdev = s.wdev := rfl
@[simp] theorem updRbld_plks (s : State) (f : RbldEng → RbldEng) : (updRbld s f).plks = s.plks := rfl
@[simp] theorem updRbld_psl (s : State) (f : RbldEng → RbldEng) : (updRbld s f).psl = s.psl := rfl
@[simp] theorem updRbld_lnk (s : State) (f : RbldEng → RbldEng) : (updRbld s f).lnk = s.lnk := rfl
@[simp] theorem updRbld_cache (s : State) (f : RbldEng → RbldEng) : (updRbld s f).cache = s.cache := rfl
@[simp] theorem updRbld_staged (s : State) (f : RbldEng → RbldEng) : (updRbld s f).staged = s.staged := rfl
@[simp] theorem updRbld_tbl (s : State) (f : RbldEng → RbldEng) : (updRbld s f).tbl = s.tbl := rfl
@[simp] theorem updRbld_brt (s : State) (f : RbldEng → RbldEng) : (updRbld s f).brt = s.brt := rfl
@[simp] theorem updRbld_ckptPend (s : State) (f : RbldEng → RbldEng) : (updRbld s f).ckptPend = s.ckptPend := rfl
@[simp] theorem updRbld_brtPar (s : State) (f : RbldEng → RbldEng) : (updRbld s f).brtPar = s.brtPar := rfl
@[simp] theorem updRbld_headRecs (s : State) (f : RbldEng → RbldEng) : (updRbld s f).headRecs = s.headRecs := rfl
@[simp] theorem updRbld_actRecs (s : State) (f : RbldEng → RbldEng) : (updRbld s f).actRecs = s.actRecs := rfl
@[simp] theorem updRbld_rbld (s : State) (f : RbldEng → RbldEng) : (updRbld s f).rbld = f s.rbld := rfl
@[simp] theorem updRbld_quay (s : State) (f : RbldEng → RbldEng) : (updRbld s f).quay = s.quay := rfl
@[simp] theorem updRbld_cmds (s : State) (f : RbldEng → RbldEng) : (updRbld s f).cmds = s.cmds := rfl
@[simp] theorem updRbld_dram (s : State) (f : RbldEng → RbldEng) : (updRbld s f).dram = s.dram := rfl
@[simp] theorem updRbld_seqs (s : State) (f : RbldEng → RbldEng) : (updRbld s f).seqs = s.seqs := rfl
@[simp] theorem updRbld_seqDev (s : State) (f : RbldEng → RbldEng) : (updRbld s f).seqDev = s.seqDev := rfl
@[simp] theorem updRbld_mbx (s : State) (f : RbldEng → RbldEng) : (updRbld s f).mbx = s.mbx := rfl
@[simp] theorem updRbld_mbxPtr (s : State) (f : RbldEng → RbldEng) : (updRbld s f).mbxPtr = s.mbxPtr := rfl
@[simp] theorem updRbld_bw (s : State) (f : RbldEng → RbldEng) : (updRbld s f).bw = s.bw := rfl
@[simp] theorem updRbld_sec (s : State) (f : RbldEng → RbldEng) : (updRbld s f).sec = s.sec := rfl
@[simp] theorem updRbld_evr (s : State) (f : RbldEng → RbldEng) : (updRbld s f).evr = s.evr := rfl
@[simp] theorem updRbld_ctr (s : State) (f : RbldEng → RbldEng) : (updRbld s f).ctr = s.ctr := rfl
@[simp] theorem updRbld_incidents (s : State) (f : RbldEng → RbldEng) : (updRbld s f).incidents = s.incidents := rfl
@[simp] theorem updRbld_boot (s : State) (f : RbldEng → RbldEng) : (updRbld s f).boot = s.boot := rfl
@[simp] theorem updRbld_fw (s : State) (f : RbldEng → RbldEng) : (updRbld s f).fw = s.fw := rfl
@[simp] theorem updRbld_aon (s : State) (f : RbldEng → RbldEng) : (updRbld s f).aon = s.aon := rfl
@[simp] theorem updRbld_nv (s : State) (f : RbldEng → RbldEng) : (updRbld s f).nv = s.nv := rfl

@[simp] theorem updHeadRec_pending (s : State) (h : Hd) (f : HeadRec → HeadRec) : (updHeadRec s h f).pending = s.pending := rfl
@[simp] theorem updHeadRec_phase (s : State) (h : Hd) (f : HeadRec → HeadRec) : (updHeadRec s h f).phase = s.phase := rfl
@[simp] theorem updHeadRec_us (s : State) (h : Hd) (f : HeadRec → HeadRec) : (updHeadRec s h f).us = s.us := rfl
@[simp] theorem updHeadRec_freeCtr (s : State) (h : Hd) (f : HeadRec → HeadRec) : (updHeadRec s h f).freeCtr = s.freeCtr := rfl
@[simp] theorem updHeadRec_out (s : State) (h : Hd) (f : HeadRec → HeadRec) : (updHeadRec s h f).out = s.out := rfl
@[simp] theorem updHeadRec_ledger (s : State) (h : Hd) (f : HeadRec → HeadRec) : (updHeadRec s h f).ledger = s.ledger := rfl
@[simp] theorem updHeadRec_straps (s : State) (h : Hd) (f : HeadRec → HeadRec) : (updHeadRec s h f).straps = s.straps := rfl
@[simp] theorem updHeadRec_pins (s : State) (h : Hd) (f : HeadRec → HeadRec) : (updHeadRec s h f).pins = s.pins := rfl
@[simp] theorem updHeadRec_tap (s : State) (h : Hd) (f : HeadRec → HeadRec) : (updHeadRec s h f).tap = s.tap := rfl
@[simp] theorem updHeadRec_pmu (s : State) (h : Hd) (f : HeadRec → HeadRec) : (updHeadRec s h f).pmu = s.pmu := rfl
@[simp] theorem updHeadRec_surfaces (s : State) (h : Hd) (f : HeadRec → HeadRec) : (updHeadRec s h f).surfaces = s.surfaces := rfl
@[simp] theorem updHeadRec_heads (s : State) (h : Hd) (f : HeadRec → HeadRec) : (updHeadRec s h f).heads = s.heads := rfl
@[simp] theorem updHeadRec_streams (s : State) (h : Hd) (f : HeadRec → HeadRec) : (updHeadRec s h f).streams = s.streams := rfl
@[simp] theorem updHeadRec_guards (s : State) (h : Hd) (f : HeadRec → HeadRec) : (updHeadRec s h f).guards = s.guards := rfl
@[simp] theorem updHeadRec_acts (s : State) (h : Hd) (f : HeadRec → HeadRec) : (updHeadRec s h f).acts = s.acts := rfl
@[simp] theorem updHeadRec_strobe (s : State) (h : Hd) (f : HeadRec → HeadRec) : (updHeadRec s h f).strobe = s.strobe := rfl
@[simp] theorem updHeadRec_strobeDone (s : State) (h : Hd) (f : HeadRec → HeadRec) : (updHeadRec s h f).strobeDone = s.strobeDone := rfl
@[simp] theorem updHeadRec_hloops (s : State) (h : Hd) (f : HeadRec → HeadRec) : (updHeadRec s h f).hloops = s.hloops := rfl
@[simp] theorem updHeadRec_spn (s : State) (h : Hd) (f : HeadRec → HeadRec) : (updHeadRec s h f).spn = s.spn := rfl
@[simp] theorem updHeadRec_chn (s : State) (h : Hd) (f : HeadRec → HeadRec) : (updHeadRec s h f).chn = s.chn := rfl
@[simp] theorem updHeadRec_chz (s : State) (h : Hd) (f : HeadRec → HeadRec) : (updHeadRec s h f).chz = s.chz := rfl
@[simp] theorem updHeadRec_chnDev (s : State) (h : Hd) (f : HeadRec → HeadRec) : (updHeadRec s h f).chnDev = s.chnDev := rfl
@[simp] theorem updHeadRec_wps (s : State) (h : Hd) (f : HeadRec → HeadRec) : (updHeadRec s h f).wps = s.wps := rfl
@[simp] theorem updHeadRec_wheads (s : State) (h : Hd) (f : HeadRec → HeadRec) : (updHeadRec s h f).wheads = s.wheads := rfl
@[simp] theorem updHeadRec_wdev (s : State) (h : Hd) (f : HeadRec → HeadRec) : (updHeadRec s h f).wdev = s.wdev := rfl
@[simp] theorem updHeadRec_plks (s : State) (h : Hd) (f : HeadRec → HeadRec) : (updHeadRec s h f).plks = s.plks := rfl
@[simp] theorem updHeadRec_psl (s : State) (h : Hd) (f : HeadRec → HeadRec) : (updHeadRec s h f).psl = s.psl := rfl
@[simp] theorem updHeadRec_lnk (s : State) (h : Hd) (f : HeadRec → HeadRec) : (updHeadRec s h f).lnk = s.lnk := rfl
@[simp] theorem updHeadRec_cache (s : State) (h : Hd) (f : HeadRec → HeadRec) : (updHeadRec s h f).cache = s.cache := rfl
@[simp] theorem updHeadRec_staged (s : State) (h : Hd) (f : HeadRec → HeadRec) : (updHeadRec s h f).staged = s.staged := rfl
@[simp] theorem updHeadRec_tbl (s : State) (h : Hd) (f : HeadRec → HeadRec) : (updHeadRec s h f).tbl = s.tbl := rfl
@[simp] theorem updHeadRec_brt (s : State) (h : Hd) (f : HeadRec → HeadRec) : (updHeadRec s h f).brt = s.brt := rfl
@[simp] theorem updHeadRec_ckptPend (s : State) (h : Hd) (f : HeadRec → HeadRec) : (updHeadRec s h f).ckptPend = s.ckptPend := rfl
@[simp] theorem updHeadRec_brtPar (s : State) (h : Hd) (f : HeadRec → HeadRec) : (updHeadRec s h f).brtPar = s.brtPar := rfl
@[simp] theorem updHeadRec_headRecs (s : State) (h : Hd) (f : HeadRec → HeadRec) : (updHeadRec s h f).headRecs = vupd s.headRecs h f := rfl
@[simp] theorem updHeadRec_actRecs (s : State) (h : Hd) (f : HeadRec → HeadRec) : (updHeadRec s h f).actRecs = s.actRecs := rfl
@[simp] theorem updHeadRec_rbld (s : State) (h : Hd) (f : HeadRec → HeadRec) : (updHeadRec s h f).rbld = s.rbld := rfl
@[simp] theorem updHeadRec_quay (s : State) (h : Hd) (f : HeadRec → HeadRec) : (updHeadRec s h f).quay = s.quay := rfl
@[simp] theorem updHeadRec_cmds (s : State) (h : Hd) (f : HeadRec → HeadRec) : (updHeadRec s h f).cmds = s.cmds := rfl
@[simp] theorem updHeadRec_dram (s : State) (h : Hd) (f : HeadRec → HeadRec) : (updHeadRec s h f).dram = s.dram := rfl
@[simp] theorem updHeadRec_seqs (s : State) (h : Hd) (f : HeadRec → HeadRec) : (updHeadRec s h f).seqs = s.seqs := rfl
@[simp] theorem updHeadRec_seqDev (s : State) (h : Hd) (f : HeadRec → HeadRec) : (updHeadRec s h f).seqDev = s.seqDev := rfl
@[simp] theorem updHeadRec_mbx (s : State) (h : Hd) (f : HeadRec → HeadRec) : (updHeadRec s h f).mbx = s.mbx := rfl
@[simp] theorem updHeadRec_mbxPtr (s : State) (h : Hd) (f : HeadRec → HeadRec) : (updHeadRec s h f).mbxPtr = s.mbxPtr := rfl
@[simp] theorem updHeadRec_bw (s : State) (h : Hd) (f : HeadRec → HeadRec) : (updHeadRec s h f).bw = s.bw := rfl
@[simp] theorem updHeadRec_sec (s : State) (h : Hd) (f : HeadRec → HeadRec) : (updHeadRec s h f).sec = s.sec := rfl
@[simp] theorem updHeadRec_evr (s : State) (h : Hd) (f : HeadRec → HeadRec) : (updHeadRec s h f).evr = s.evr := rfl
@[simp] theorem updHeadRec_ctr (s : State) (h : Hd) (f : HeadRec → HeadRec) : (updHeadRec s h f).ctr = s.ctr := rfl
@[simp] theorem updHeadRec_incidents (s : State) (h : Hd) (f : HeadRec → HeadRec) : (updHeadRec s h f).incidents = s.incidents := rfl
@[simp] theorem updHeadRec_boot (s : State) (h : Hd) (f : HeadRec → HeadRec) : (updHeadRec s h f).boot = s.boot := rfl
@[simp] theorem updHeadRec_fw (s : State) (h : Hd) (f : HeadRec → HeadRec) : (updHeadRec s h f).fw = s.fw := rfl
@[simp] theorem updHeadRec_aon (s : State) (h : Hd) (f : HeadRec → HeadRec) : (updHeadRec s h f).aon = s.aon := rfl
@[simp] theorem updHeadRec_nv (s : State) (h : Hd) (f : HeadRec → HeadRec) : (updHeadRec s h f).nv = s.nv := rfl

@[simp] theorem updActRec_pending (s : State) (a : Act) (f : ActRec → ActRec) : (updActRec s a f).pending = s.pending := rfl
@[simp] theorem updActRec_phase (s : State) (a : Act) (f : ActRec → ActRec) : (updActRec s a f).phase = s.phase := rfl
@[simp] theorem updActRec_us (s : State) (a : Act) (f : ActRec → ActRec) : (updActRec s a f).us = s.us := rfl
@[simp] theorem updActRec_freeCtr (s : State) (a : Act) (f : ActRec → ActRec) : (updActRec s a f).freeCtr = s.freeCtr := rfl
@[simp] theorem updActRec_out (s : State) (a : Act) (f : ActRec → ActRec) : (updActRec s a f).out = s.out := rfl
@[simp] theorem updActRec_ledger (s : State) (a : Act) (f : ActRec → ActRec) : (updActRec s a f).ledger = s.ledger := rfl
@[simp] theorem updActRec_straps (s : State) (a : Act) (f : ActRec → ActRec) : (updActRec s a f).straps = s.straps := rfl
@[simp] theorem updActRec_pins (s : State) (a : Act) (f : ActRec → ActRec) : (updActRec s a f).pins = s.pins := rfl
@[simp] theorem updActRec_tap (s : State) (a : Act) (f : ActRec → ActRec) : (updActRec s a f).tap = s.tap := rfl
@[simp] theorem updActRec_pmu (s : State) (a : Act) (f : ActRec → ActRec) : (updActRec s a f).pmu = s.pmu := rfl
@[simp] theorem updActRec_surfaces (s : State) (a : Act) (f : ActRec → ActRec) : (updActRec s a f).surfaces = s.surfaces := rfl
@[simp] theorem updActRec_heads (s : State) (a : Act) (f : ActRec → ActRec) : (updActRec s a f).heads = s.heads := rfl
@[simp] theorem updActRec_streams (s : State) (a : Act) (f : ActRec → ActRec) : (updActRec s a f).streams = s.streams := rfl
@[simp] theorem updActRec_guards (s : State) (a : Act) (f : ActRec → ActRec) : (updActRec s a f).guards = s.guards := rfl
@[simp] theorem updActRec_acts (s : State) (a : Act) (f : ActRec → ActRec) : (updActRec s a f).acts = s.acts := rfl
@[simp] theorem updActRec_strobe (s : State) (a : Act) (f : ActRec → ActRec) : (updActRec s a f).strobe = s.strobe := rfl
@[simp] theorem updActRec_strobeDone (s : State) (a : Act) (f : ActRec → ActRec) : (updActRec s a f).strobeDone = s.strobeDone := rfl
@[simp] theorem updActRec_hloops (s : State) (a : Act) (f : ActRec → ActRec) : (updActRec s a f).hloops = s.hloops := rfl
@[simp] theorem updActRec_spn (s : State) (a : Act) (f : ActRec → ActRec) : (updActRec s a f).spn = s.spn := rfl
@[simp] theorem updActRec_chn (s : State) (a : Act) (f : ActRec → ActRec) : (updActRec s a f).chn = s.chn := rfl
@[simp] theorem updActRec_chz (s : State) (a : Act) (f : ActRec → ActRec) : (updActRec s a f).chz = s.chz := rfl
@[simp] theorem updActRec_chnDev (s : State) (a : Act) (f : ActRec → ActRec) : (updActRec s a f).chnDev = s.chnDev := rfl
@[simp] theorem updActRec_wps (s : State) (a : Act) (f : ActRec → ActRec) : (updActRec s a f).wps = s.wps := rfl
@[simp] theorem updActRec_wheads (s : State) (a : Act) (f : ActRec → ActRec) : (updActRec s a f).wheads = s.wheads := rfl
@[simp] theorem updActRec_wdev (s : State) (a : Act) (f : ActRec → ActRec) : (updActRec s a f).wdev = s.wdev := rfl
@[simp] theorem updActRec_plks (s : State) (a : Act) (f : ActRec → ActRec) : (updActRec s a f).plks = s.plks := rfl
@[simp] theorem updActRec_psl (s : State) (a : Act) (f : ActRec → ActRec) : (updActRec s a f).psl = s.psl := rfl
@[simp] theorem updActRec_lnk (s : State) (a : Act) (f : ActRec → ActRec) : (updActRec s a f).lnk = s.lnk := rfl
@[simp] theorem updActRec_cache (s : State) (a : Act) (f : ActRec → ActRec) : (updActRec s a f).cache = s.cache := rfl
@[simp] theorem updActRec_staged (s : State) (a : Act) (f : ActRec → ActRec) : (updActRec s a f).staged = s.staged := rfl
@[simp] theorem updActRec_tbl (s : State) (a : Act) (f : ActRec → ActRec) : (updActRec s a f).tbl = s.tbl := rfl
@[simp] theorem updActRec_brt (s : State) (a : Act) (f : ActRec → ActRec) : (updActRec s a f).brt = s.brt := rfl
@[simp] theorem updActRec_ckptPend (s : State) (a : Act) (f : ActRec → ActRec) : (updActRec s a f).ckptPend = s.ckptPend := rfl
@[simp] theorem updActRec_brtPar (s : State) (a : Act) (f : ActRec → ActRec) : (updActRec s a f).brtPar = s.brtPar := rfl
@[simp] theorem updActRec_headRecs (s : State) (a : Act) (f : ActRec → ActRec) : (updActRec s a f).headRecs = s.headRecs := rfl
@[simp] theorem updActRec_actRecs (s : State) (a : Act) (f : ActRec → ActRec) : (updActRec s a f).actRecs = vupd s.actRecs a f := rfl
@[simp] theorem updActRec_rbld (s : State) (a : Act) (f : ActRec → ActRec) : (updActRec s a f).rbld = s.rbld := rfl
@[simp] theorem updActRec_quay (s : State) (a : Act) (f : ActRec → ActRec) : (updActRec s a f).quay = s.quay := rfl
@[simp] theorem updActRec_cmds (s : State) (a : Act) (f : ActRec → ActRec) : (updActRec s a f).cmds = s.cmds := rfl
@[simp] theorem updActRec_dram (s : State) (a : Act) (f : ActRec → ActRec) : (updActRec s a f).dram = s.dram := rfl
@[simp] theorem updActRec_seqs (s : State) (a : Act) (f : ActRec → ActRec) : (updActRec s a f).seqs = s.seqs := rfl
@[simp] theorem updActRec_seqDev (s : State) (a : Act) (f : ActRec → ActRec) : (updActRec s a f).seqDev = s.seqDev := rfl
@[simp] theorem updActRec_mbx (s : State) (a : Act) (f : ActRec → ActRec) : (updActRec s a f).mbx = s.mbx := rfl
@[simp] theorem updActRec_mbxPtr (s : State) (a : Act) (f : ActRec → ActRec) : (updActRec s a f).mbxPtr = s.mbxPtr := rfl
@[simp] theorem updActRec_bw (s : State) (a : Act) (f : ActRec → ActRec) : (updActRec s a f).bw = s.bw := rfl
@[simp] theorem updActRec_sec (s : State) (a : Act) (f : ActRec → ActRec) : (updActRec s a f).sec = s.sec := rfl
@[simp] theorem updActRec_evr (s : State) (a : Act) (f : ActRec → ActRec) : (updActRec s a f).evr = s.evr := rfl
@[simp] theorem updActRec_ctr (s : State) (a : Act) (f : ActRec → ActRec) : (updActRec s a f).ctr = s.ctr := rfl
@[simp] theorem updActRec_incidents (s : State) (a : Act) (f : ActRec → ActRec) : (updActRec s a f).incidents = s.incidents := rfl
@[simp] theorem updActRec_boot (s : State) (a : Act) (f : ActRec → ActRec) : (updActRec s a f).boot = s.boot := rfl
@[simp] theorem updActRec_fw (s : State) (a : Act) (f : ActRec → ActRec) : (updActRec s a f).fw = s.fw := rfl
@[simp] theorem updActRec_aon (s : State) (a : Act) (f : ActRec → ActRec) : (updActRec s a f).aon = s.aon := rfl
@[simp] theorem updActRec_nv (s : State) (a : Act) (f : ActRec → ActRec) : (updActRec s a f).nv = s.nv := rfl

@[simp] theorem updQuay_pending (s : State) (f : Quay → Quay) : (updQuay s f).pending = s.pending := rfl
@[simp] theorem updQuay_phase (s : State) (f : Quay → Quay) : (updQuay s f).phase = s.phase := rfl
@[simp] theorem updQuay_us (s : State) (f : Quay → Quay) : (updQuay s f).us = s.us := rfl
@[simp] theorem updQuay_freeCtr (s : State) (f : Quay → Quay) : (updQuay s f).freeCtr = s.freeCtr := rfl
@[simp] theorem updQuay_out (s : State) (f : Quay → Quay) : (updQuay s f).out = s.out := rfl
@[simp] theorem updQuay_ledger (s : State) (f : Quay → Quay) : (updQuay s f).ledger = s.ledger := rfl
@[simp] theorem updQuay_straps (s : State) (f : Quay → Quay) : (updQuay s f).straps = s.straps := rfl
@[simp] theorem updQuay_pins (s : State) (f : Quay → Quay) : (updQuay s f).pins = s.pins := rfl
@[simp] theorem updQuay_tap (s : State) (f : Quay → Quay) : (updQuay s f).tap = s.tap := rfl
@[simp] theorem updQuay_pmu (s : State) (f : Quay → Quay) : (updQuay s f).pmu = s.pmu := rfl
@[simp] theorem updQuay_surfaces (s : State) (f : Quay → Quay) : (updQuay s f).surfaces = s.surfaces := rfl
@[simp] theorem updQuay_heads (s : State) (f : Quay → Quay) : (updQuay s f).heads = s.heads := rfl
@[simp] theorem updQuay_streams (s : State) (f : Quay → Quay) : (updQuay s f).streams = s.streams := rfl
@[simp] theorem updQuay_guards (s : State) (f : Quay → Quay) : (updQuay s f).guards = s.guards := rfl
@[simp] theorem updQuay_acts (s : State) (f : Quay → Quay) : (updQuay s f).acts = s.acts := rfl
@[simp] theorem updQuay_strobe (s : State) (f : Quay → Quay) : (updQuay s f).strobe = s.strobe := rfl
@[simp] theorem updQuay_strobeDone (s : State) (f : Quay → Quay) : (updQuay s f).strobeDone = s.strobeDone := rfl
@[simp] theorem updQuay_hloops (s : State) (f : Quay → Quay) : (updQuay s f).hloops = s.hloops := rfl
@[simp] theorem updQuay_spn (s : State) (f : Quay → Quay) : (updQuay s f).spn = s.spn := rfl
@[simp] theorem updQuay_chn (s : State) (f : Quay → Quay) : (updQuay s f).chn = s.chn := rfl
@[simp] theorem updQuay_chz (s : State) (f : Quay → Quay) : (updQuay s f).chz = s.chz := rfl
@[simp] theorem updQuay_chnDev (s : State) (f : Quay → Quay) : (updQuay s f).chnDev = s.chnDev := rfl
@[simp] theorem updQuay_wps (s : State) (f : Quay → Quay) : (updQuay s f).wps = s.wps := rfl
@[simp] theorem updQuay_wheads (s : State) (f : Quay → Quay) : (updQuay s f).wheads = s.wheads := rfl
@[simp] theorem updQuay_wdev (s : State) (f : Quay → Quay) : (updQuay s f).wdev = s.wdev := rfl
@[simp] theorem updQuay_plks (s : State) (f : Quay → Quay) : (updQuay s f).plks = s.plks := rfl
@[simp] theorem updQuay_psl (s : State) (f : Quay → Quay) : (updQuay s f).psl = s.psl := rfl
@[simp] theorem updQuay_lnk (s : State) (f : Quay → Quay) : (updQuay s f).lnk = s.lnk := rfl
@[simp] theorem updQuay_cache (s : State) (f : Quay → Quay) : (updQuay s f).cache = s.cache := rfl
@[simp] theorem updQuay_staged (s : State) (f : Quay → Quay) : (updQuay s f).staged = s.staged := rfl
@[simp] theorem updQuay_tbl (s : State) (f : Quay → Quay) : (updQuay s f).tbl = s.tbl := rfl
@[simp] theorem updQuay_brt (s : State) (f : Quay → Quay) : (updQuay s f).brt = s.brt := rfl
@[simp] theorem updQuay_ckptPend (s : State) (f : Quay → Quay) : (updQuay s f).ckptPend = s.ckptPend := rfl
@[simp] theorem updQuay_brtPar (s : State) (f : Quay → Quay) : (updQuay s f).brtPar = s.brtPar := rfl
@[simp] theorem updQuay_headRecs (s : State) (f : Quay → Quay) : (updQuay s f).headRecs = s.headRecs := rfl
@[simp] theorem updQuay_actRecs (s : State) (f : Quay → Quay) : (updQuay s f).actRecs = s.actRecs := rfl
@[simp] theorem updQuay_rbld (s : State) (f : Quay → Quay) : (updQuay s f).rbld = s.rbld := rfl
@[simp] theorem updQuay_quay (s : State) (f : Quay → Quay) : (updQuay s f).quay = f s.quay := rfl
@[simp] theorem updQuay_cmds (s : State) (f : Quay → Quay) : (updQuay s f).cmds = s.cmds := rfl
@[simp] theorem updQuay_dram (s : State) (f : Quay → Quay) : (updQuay s f).dram = s.dram := rfl
@[simp] theorem updQuay_seqs (s : State) (f : Quay → Quay) : (updQuay s f).seqs = s.seqs := rfl
@[simp] theorem updQuay_seqDev (s : State) (f : Quay → Quay) : (updQuay s f).seqDev = s.seqDev := rfl
@[simp] theorem updQuay_mbx (s : State) (f : Quay → Quay) : (updQuay s f).mbx = s.mbx := rfl
@[simp] theorem updQuay_mbxPtr (s : State) (f : Quay → Quay) : (updQuay s f).mbxPtr = s.mbxPtr := rfl
@[simp] theorem updQuay_bw (s : State) (f : Quay → Quay) : (updQuay s f).bw = s.bw := rfl
@[simp] theorem updQuay_sec (s : State) (f : Quay → Quay) : (updQuay s f).sec = s.sec := rfl
@[simp] theorem updQuay_evr (s : State) (f : Quay → Quay) : (updQuay s f).evr = s.evr := rfl
@[simp] theorem updQuay_ctr (s : State) (f : Quay → Quay) : (updQuay s f).ctr = s.ctr := rfl
@[simp] theorem updQuay_incidents (s : State) (f : Quay → Quay) : (updQuay s f).incidents = s.incidents := rfl
@[simp] theorem updQuay_boot (s : State) (f : Quay → Quay) : (updQuay s f).boot = s.boot := rfl
@[simp] theorem updQuay_fw (s : State) (f : Quay → Quay) : (updQuay s f).fw = s.fw := rfl
@[simp] theorem updQuay_aon (s : State) (f : Quay → Quay) : (updQuay s f).aon = s.aon := rfl
@[simp] theorem updQuay_nv (s : State) (f : Quay → Quay) : (updQuay s f).nv = s.nv := rfl

@[simp] theorem updCmds_pending (s : State) (f : Cmds → Cmds) : (updCmds s f).pending = s.pending := rfl
@[simp] theorem updCmds_phase (s : State) (f : Cmds → Cmds) : (updCmds s f).phase = s.phase := rfl
@[simp] theorem updCmds_us (s : State) (f : Cmds → Cmds) : (updCmds s f).us = s.us := rfl
@[simp] theorem updCmds_freeCtr (s : State) (f : Cmds → Cmds) : (updCmds s f).freeCtr = s.freeCtr := rfl
@[simp] theorem updCmds_out (s : State) (f : Cmds → Cmds) : (updCmds s f).out = s.out := rfl
@[simp] theorem updCmds_ledger (s : State) (f : Cmds → Cmds) : (updCmds s f).ledger = s.ledger := rfl
@[simp] theorem updCmds_straps (s : State) (f : Cmds → Cmds) : (updCmds s f).straps = s.straps := rfl
@[simp] theorem updCmds_pins (s : State) (f : Cmds → Cmds) : (updCmds s f).pins = s.pins := rfl
@[simp] theorem updCmds_tap (s : State) (f : Cmds → Cmds) : (updCmds s f).tap = s.tap := rfl
@[simp] theorem updCmds_pmu (s : State) (f : Cmds → Cmds) : (updCmds s f).pmu = s.pmu := rfl
@[simp] theorem updCmds_surfaces (s : State) (f : Cmds → Cmds) : (updCmds s f).surfaces = s.surfaces := rfl
@[simp] theorem updCmds_heads (s : State) (f : Cmds → Cmds) : (updCmds s f).heads = s.heads := rfl
@[simp] theorem updCmds_streams (s : State) (f : Cmds → Cmds) : (updCmds s f).streams = s.streams := rfl
@[simp] theorem updCmds_guards (s : State) (f : Cmds → Cmds) : (updCmds s f).guards = s.guards := rfl
@[simp] theorem updCmds_acts (s : State) (f : Cmds → Cmds) : (updCmds s f).acts = s.acts := rfl
@[simp] theorem updCmds_strobe (s : State) (f : Cmds → Cmds) : (updCmds s f).strobe = s.strobe := rfl
@[simp] theorem updCmds_strobeDone (s : State) (f : Cmds → Cmds) : (updCmds s f).strobeDone = s.strobeDone := rfl
@[simp] theorem updCmds_hloops (s : State) (f : Cmds → Cmds) : (updCmds s f).hloops = s.hloops := rfl
@[simp] theorem updCmds_spn (s : State) (f : Cmds → Cmds) : (updCmds s f).spn = s.spn := rfl
@[simp] theorem updCmds_chn (s : State) (f : Cmds → Cmds) : (updCmds s f).chn = s.chn := rfl
@[simp] theorem updCmds_chz (s : State) (f : Cmds → Cmds) : (updCmds s f).chz = s.chz := rfl
@[simp] theorem updCmds_chnDev (s : State) (f : Cmds → Cmds) : (updCmds s f).chnDev = s.chnDev := rfl
@[simp] theorem updCmds_wps (s : State) (f : Cmds → Cmds) : (updCmds s f).wps = s.wps := rfl
@[simp] theorem updCmds_wheads (s : State) (f : Cmds → Cmds) : (updCmds s f).wheads = s.wheads := rfl
@[simp] theorem updCmds_wdev (s : State) (f : Cmds → Cmds) : (updCmds s f).wdev = s.wdev := rfl
@[simp] theorem updCmds_plks (s : State) (f : Cmds → Cmds) : (updCmds s f).plks = s.plks := rfl
@[simp] theorem updCmds_psl (s : State) (f : Cmds → Cmds) : (updCmds s f).psl = s.psl := rfl
@[simp] theorem updCmds_lnk (s : State) (f : Cmds → Cmds) : (updCmds s f).lnk = s.lnk := rfl
@[simp] theorem updCmds_cache (s : State) (f : Cmds → Cmds) : (updCmds s f).cache = s.cache := rfl
@[simp] theorem updCmds_staged (s : State) (f : Cmds → Cmds) : (updCmds s f).staged = s.staged := rfl
@[simp] theorem updCmds_tbl (s : State) (f : Cmds → Cmds) : (updCmds s f).tbl = s.tbl := rfl
@[simp] theorem updCmds_brt (s : State) (f : Cmds → Cmds) : (updCmds s f).brt = s.brt := rfl
@[simp] theorem updCmds_ckptPend (s : State) (f : Cmds → Cmds) : (updCmds s f).ckptPend = s.ckptPend := rfl
@[simp] theorem updCmds_brtPar (s : State) (f : Cmds → Cmds) : (updCmds s f).brtPar = s.brtPar := rfl
@[simp] theorem updCmds_headRecs (s : State) (f : Cmds → Cmds) : (updCmds s f).headRecs = s.headRecs := rfl
@[simp] theorem updCmds_actRecs (s : State) (f : Cmds → Cmds) : (updCmds s f).actRecs = s.actRecs := rfl
@[simp] theorem updCmds_rbld (s : State) (f : Cmds → Cmds) : (updCmds s f).rbld = s.rbld := rfl
@[simp] theorem updCmds_quay (s : State) (f : Cmds → Cmds) : (updCmds s f).quay = s.quay := rfl
@[simp] theorem updCmds_cmds (s : State) (f : Cmds → Cmds) : (updCmds s f).cmds = f s.cmds := rfl
@[simp] theorem updCmds_dram (s : State) (f : Cmds → Cmds) : (updCmds s f).dram = s.dram := rfl
@[simp] theorem updCmds_seqs (s : State) (f : Cmds → Cmds) : (updCmds s f).seqs = s.seqs := rfl
@[simp] theorem updCmds_seqDev (s : State) (f : Cmds → Cmds) : (updCmds s f).seqDev = s.seqDev := rfl
@[simp] theorem updCmds_mbx (s : State) (f : Cmds → Cmds) : (updCmds s f).mbx = s.mbx := rfl
@[simp] theorem updCmds_mbxPtr (s : State) (f : Cmds → Cmds) : (updCmds s f).mbxPtr = s.mbxPtr := rfl
@[simp] theorem updCmds_bw (s : State) (f : Cmds → Cmds) : (updCmds s f).bw = s.bw := rfl
@[simp] theorem updCmds_sec (s : State) (f : Cmds → Cmds) : (updCmds s f).sec = s.sec := rfl
@[simp] theorem updCmds_evr (s : State) (f : Cmds → Cmds) : (updCmds s f).evr = s.evr := rfl
@[simp] theorem updCmds_ctr (s : State) (f : Cmds → Cmds) : (updCmds s f).ctr = s.ctr := rfl
@[simp] theorem updCmds_incidents (s : State) (f : Cmds → Cmds) : (updCmds s f).incidents = s.incidents := rfl
@[simp] theorem updCmds_boot (s : State) (f : Cmds → Cmds) : (updCmds s f).boot = s.boot := rfl
@[simp] theorem updCmds_fw (s : State) (f : Cmds → Cmds) : (updCmds s f).fw = s.fw := rfl
@[simp] theorem updCmds_aon (s : State) (f : Cmds → Cmds) : (updCmds s f).aon = s.aon := rfl
@[simp] theorem updCmds_nv (s : State) (f : Cmds → Cmds) : (updCmds s f).nv = s.nv := rfl

@[simp] theorem updDram_pending (s : State) (f : Dram → Dram) : (updDram s f).pending = s.pending := rfl
@[simp] theorem updDram_phase (s : State) (f : Dram → Dram) : (updDram s f).phase = s.phase := rfl
@[simp] theorem updDram_us (s : State) (f : Dram → Dram) : (updDram s f).us = s.us := rfl
@[simp] theorem updDram_freeCtr (s : State) (f : Dram → Dram) : (updDram s f).freeCtr = s.freeCtr := rfl
@[simp] theorem updDram_out (s : State) (f : Dram → Dram) : (updDram s f).out = s.out := rfl
@[simp] theorem updDram_ledger (s : State) (f : Dram → Dram) : (updDram s f).ledger = s.ledger := rfl
@[simp] theorem updDram_straps (s : State) (f : Dram → Dram) : (updDram s f).straps = s.straps := rfl
@[simp] theorem updDram_pins (s : State) (f : Dram → Dram) : (updDram s f).pins = s.pins := rfl
@[simp] theorem updDram_tap (s : State) (f : Dram → Dram) : (updDram s f).tap = s.tap := rfl
@[simp] theorem updDram_pmu (s : State) (f : Dram → Dram) : (updDram s f).pmu = s.pmu := rfl
@[simp] theorem updDram_surfaces (s : State) (f : Dram → Dram) : (updDram s f).surfaces = s.surfaces := rfl
@[simp] theorem updDram_heads (s : State) (f : Dram → Dram) : (updDram s f).heads = s.heads := rfl
@[simp] theorem updDram_streams (s : State) (f : Dram → Dram) : (updDram s f).streams = s.streams := rfl
@[simp] theorem updDram_guards (s : State) (f : Dram → Dram) : (updDram s f).guards = s.guards := rfl
@[simp] theorem updDram_acts (s : State) (f : Dram → Dram) : (updDram s f).acts = s.acts := rfl
@[simp] theorem updDram_strobe (s : State) (f : Dram → Dram) : (updDram s f).strobe = s.strobe := rfl
@[simp] theorem updDram_strobeDone (s : State) (f : Dram → Dram) : (updDram s f).strobeDone = s.strobeDone := rfl
@[simp] theorem updDram_hloops (s : State) (f : Dram → Dram) : (updDram s f).hloops = s.hloops := rfl
@[simp] theorem updDram_spn (s : State) (f : Dram → Dram) : (updDram s f).spn = s.spn := rfl
@[simp] theorem updDram_chn (s : State) (f : Dram → Dram) : (updDram s f).chn = s.chn := rfl
@[simp] theorem updDram_chz (s : State) (f : Dram → Dram) : (updDram s f).chz = s.chz := rfl
@[simp] theorem updDram_chnDev (s : State) (f : Dram → Dram) : (updDram s f).chnDev = s.chnDev := rfl
@[simp] theorem updDram_wps (s : State) (f : Dram → Dram) : (updDram s f).wps = s.wps := rfl
@[simp] theorem updDram_wheads (s : State) (f : Dram → Dram) : (updDram s f).wheads = s.wheads := rfl
@[simp] theorem updDram_wdev (s : State) (f : Dram → Dram) : (updDram s f).wdev = s.wdev := rfl
@[simp] theorem updDram_plks (s : State) (f : Dram → Dram) : (updDram s f).plks = s.plks := rfl
@[simp] theorem updDram_psl (s : State) (f : Dram → Dram) : (updDram s f).psl = s.psl := rfl
@[simp] theorem updDram_lnk (s : State) (f : Dram → Dram) : (updDram s f).lnk = s.lnk := rfl
@[simp] theorem updDram_cache (s : State) (f : Dram → Dram) : (updDram s f).cache = s.cache := rfl
@[simp] theorem updDram_staged (s : State) (f : Dram → Dram) : (updDram s f).staged = s.staged := rfl
@[simp] theorem updDram_tbl (s : State) (f : Dram → Dram) : (updDram s f).tbl = s.tbl := rfl
@[simp] theorem updDram_brt (s : State) (f : Dram → Dram) : (updDram s f).brt = s.brt := rfl
@[simp] theorem updDram_ckptPend (s : State) (f : Dram → Dram) : (updDram s f).ckptPend = s.ckptPend := rfl
@[simp] theorem updDram_brtPar (s : State) (f : Dram → Dram) : (updDram s f).brtPar = s.brtPar := rfl
@[simp] theorem updDram_headRecs (s : State) (f : Dram → Dram) : (updDram s f).headRecs = s.headRecs := rfl
@[simp] theorem updDram_actRecs (s : State) (f : Dram → Dram) : (updDram s f).actRecs = s.actRecs := rfl
@[simp] theorem updDram_rbld (s : State) (f : Dram → Dram) : (updDram s f).rbld = s.rbld := rfl
@[simp] theorem updDram_quay (s : State) (f : Dram → Dram) : (updDram s f).quay = s.quay := rfl
@[simp] theorem updDram_cmds (s : State) (f : Dram → Dram) : (updDram s f).cmds = s.cmds := rfl
@[simp] theorem updDram_dram (s : State) (f : Dram → Dram) : (updDram s f).dram = f s.dram := rfl
@[simp] theorem updDram_seqs (s : State) (f : Dram → Dram) : (updDram s f).seqs = s.seqs := rfl
@[simp] theorem updDram_seqDev (s : State) (f : Dram → Dram) : (updDram s f).seqDev = s.seqDev := rfl
@[simp] theorem updDram_mbx (s : State) (f : Dram → Dram) : (updDram s f).mbx = s.mbx := rfl
@[simp] theorem updDram_mbxPtr (s : State) (f : Dram → Dram) : (updDram s f).mbxPtr = s.mbxPtr := rfl
@[simp] theorem updDram_bw (s : State) (f : Dram → Dram) : (updDram s f).bw = s.bw := rfl
@[simp] theorem updDram_sec (s : State) (f : Dram → Dram) : (updDram s f).sec = s.sec := rfl
@[simp] theorem updDram_evr (s : State) (f : Dram → Dram) : (updDram s f).evr = s.evr := rfl
@[simp] theorem updDram_ctr (s : State) (f : Dram → Dram) : (updDram s f).ctr = s.ctr := rfl
@[simp] theorem updDram_incidents (s : State) (f : Dram → Dram) : (updDram s f).incidents = s.incidents := rfl
@[simp] theorem updDram_boot (s : State) (f : Dram → Dram) : (updDram s f).boot = s.boot := rfl
@[simp] theorem updDram_fw (s : State) (f : Dram → Dram) : (updDram s f).fw = s.fw := rfl
@[simp] theorem updDram_aon (s : State) (f : Dram → Dram) : (updDram s f).aon = s.aon := rfl
@[simp] theorem updDram_nv (s : State) (f : Dram → Dram) : (updDram s f).nv = s.nv := rfl

@[simp] theorem updSeq_pending (s : State) (n : Sq) (f : Sequencer → Sequencer) : (updSeq s n f).pending = s.pending := rfl
@[simp] theorem updSeq_phase (s : State) (n : Sq) (f : Sequencer → Sequencer) : (updSeq s n f).phase = s.phase := rfl
@[simp] theorem updSeq_us (s : State) (n : Sq) (f : Sequencer → Sequencer) : (updSeq s n f).us = s.us := rfl
@[simp] theorem updSeq_freeCtr (s : State) (n : Sq) (f : Sequencer → Sequencer) : (updSeq s n f).freeCtr = s.freeCtr := rfl
@[simp] theorem updSeq_out (s : State) (n : Sq) (f : Sequencer → Sequencer) : (updSeq s n f).out = s.out := rfl
@[simp] theorem updSeq_ledger (s : State) (n : Sq) (f : Sequencer → Sequencer) : (updSeq s n f).ledger = s.ledger := rfl
@[simp] theorem updSeq_straps (s : State) (n : Sq) (f : Sequencer → Sequencer) : (updSeq s n f).straps = s.straps := rfl
@[simp] theorem updSeq_pins (s : State) (n : Sq) (f : Sequencer → Sequencer) : (updSeq s n f).pins = s.pins := rfl
@[simp] theorem updSeq_tap (s : State) (n : Sq) (f : Sequencer → Sequencer) : (updSeq s n f).tap = s.tap := rfl
@[simp] theorem updSeq_pmu (s : State) (n : Sq) (f : Sequencer → Sequencer) : (updSeq s n f).pmu = s.pmu := rfl
@[simp] theorem updSeq_surfaces (s : State) (n : Sq) (f : Sequencer → Sequencer) : (updSeq s n f).surfaces = s.surfaces := rfl
@[simp] theorem updSeq_heads (s : State) (n : Sq) (f : Sequencer → Sequencer) : (updSeq s n f).heads = s.heads := rfl
@[simp] theorem updSeq_streams (s : State) (n : Sq) (f : Sequencer → Sequencer) : (updSeq s n f).streams = s.streams := rfl
@[simp] theorem updSeq_guards (s : State) (n : Sq) (f : Sequencer → Sequencer) : (updSeq s n f).guards = s.guards := rfl
@[simp] theorem updSeq_acts (s : State) (n : Sq) (f : Sequencer → Sequencer) : (updSeq s n f).acts = s.acts := rfl
@[simp] theorem updSeq_strobe (s : State) (n : Sq) (f : Sequencer → Sequencer) : (updSeq s n f).strobe = s.strobe := rfl
@[simp] theorem updSeq_strobeDone (s : State) (n : Sq) (f : Sequencer → Sequencer) : (updSeq s n f).strobeDone = s.strobeDone := rfl
@[simp] theorem updSeq_hloops (s : State) (n : Sq) (f : Sequencer → Sequencer) : (updSeq s n f).hloops = s.hloops := rfl
@[simp] theorem updSeq_spn (s : State) (n : Sq) (f : Sequencer → Sequencer) : (updSeq s n f).spn = s.spn := rfl
@[simp] theorem updSeq_chn (s : State) (n : Sq) (f : Sequencer → Sequencer) : (updSeq s n f).chn = s.chn := rfl
@[simp] theorem updSeq_chz (s : State) (n : Sq) (f : Sequencer → Sequencer) : (updSeq s n f).chz = s.chz := rfl
@[simp] theorem updSeq_chnDev (s : State) (n : Sq) (f : Sequencer → Sequencer) : (updSeq s n f).chnDev = s.chnDev := rfl
@[simp] theorem updSeq_wps (s : State) (n : Sq) (f : Sequencer → Sequencer) : (updSeq s n f).wps = s.wps := rfl
@[simp] theorem updSeq_wheads (s : State) (n : Sq) (f : Sequencer → Sequencer) : (updSeq s n f).wheads = s.wheads := rfl
@[simp] theorem updSeq_wdev (s : State) (n : Sq) (f : Sequencer → Sequencer) : (updSeq s n f).wdev = s.wdev := rfl
@[simp] theorem updSeq_plks (s : State) (n : Sq) (f : Sequencer → Sequencer) : (updSeq s n f).plks = s.plks := rfl
@[simp] theorem updSeq_psl (s : State) (n : Sq) (f : Sequencer → Sequencer) : (updSeq s n f).psl = s.psl := rfl
@[simp] theorem updSeq_lnk (s : State) (n : Sq) (f : Sequencer → Sequencer) : (updSeq s n f).lnk = s.lnk := rfl
@[simp] theorem updSeq_cache (s : State) (n : Sq) (f : Sequencer → Sequencer) : (updSeq s n f).cache = s.cache := rfl
@[simp] theorem updSeq_staged (s : State) (n : Sq) (f : Sequencer → Sequencer) : (updSeq s n f).staged = s.staged := rfl
@[simp] theorem updSeq_tbl (s : State) (n : Sq) (f : Sequencer → Sequencer) : (updSeq s n f).tbl = s.tbl := rfl
@[simp] theorem updSeq_brt (s : State) (n : Sq) (f : Sequencer → Sequencer) : (updSeq s n f).brt = s.brt := rfl
@[simp] theorem updSeq_ckptPend (s : State) (n : Sq) (f : Sequencer → Sequencer) : (updSeq s n f).ckptPend = s.ckptPend := rfl
@[simp] theorem updSeq_brtPar (s : State) (n : Sq) (f : Sequencer → Sequencer) : (updSeq s n f).brtPar = s.brtPar := rfl
@[simp] theorem updSeq_headRecs (s : State) (n : Sq) (f : Sequencer → Sequencer) : (updSeq s n f).headRecs = s.headRecs := rfl
@[simp] theorem updSeq_actRecs (s : State) (n : Sq) (f : Sequencer → Sequencer) : (updSeq s n f).actRecs = s.actRecs := rfl
@[simp] theorem updSeq_rbld (s : State) (n : Sq) (f : Sequencer → Sequencer) : (updSeq s n f).rbld = s.rbld := rfl
@[simp] theorem updSeq_quay (s : State) (n : Sq) (f : Sequencer → Sequencer) : (updSeq s n f).quay = s.quay := rfl
@[simp] theorem updSeq_cmds (s : State) (n : Sq) (f : Sequencer → Sequencer) : (updSeq s n f).cmds = s.cmds := rfl
@[simp] theorem updSeq_dram (s : State) (n : Sq) (f : Sequencer → Sequencer) : (updSeq s n f).dram = s.dram := rfl
@[simp] theorem updSeq_seqs (s : State) (n : Sq) (f : Sequencer → Sequencer) : (updSeq s n f).seqs = vupd s.seqs n f := rfl
@[simp] theorem updSeq_seqDev (s : State) (n : Sq) (f : Sequencer → Sequencer) : (updSeq s n f).seqDev = s.seqDev := rfl
@[simp] theorem updSeq_mbx (s : State) (n : Sq) (f : Sequencer → Sequencer) : (updSeq s n f).mbx = s.mbx := rfl
@[simp] theorem updSeq_mbxPtr (s : State) (n : Sq) (f : Sequencer → Sequencer) : (updSeq s n f).mbxPtr = s.mbxPtr := rfl
@[simp] theorem updSeq_bw (s : State) (n : Sq) (f : Sequencer → Sequencer) : (updSeq s n f).bw = s.bw := rfl
@[simp] theorem updSeq_sec (s : State) (n : Sq) (f : Sequencer → Sequencer) : (updSeq s n f).sec = s.sec := rfl
@[simp] theorem updSeq_evr (s : State) (n : Sq) (f : Sequencer → Sequencer) : (updSeq s n f).evr = s.evr := rfl
@[simp] theorem updSeq_ctr (s : State) (n : Sq) (f : Sequencer → Sequencer) : (updSeq s n f).ctr = s.ctr := rfl
@[simp] theorem updSeq_incidents (s : State) (n : Sq) (f : Sequencer → Sequencer) : (updSeq s n f).incidents = s.incidents := rfl
@[simp] theorem updSeq_boot (s : State) (n : Sq) (f : Sequencer → Sequencer) : (updSeq s n f).boot = s.boot := rfl
@[simp] theorem updSeq_fw (s : State) (n : Sq) (f : Sequencer → Sequencer) : (updSeq s n f).fw = s.fw := rfl
@[simp] theorem updSeq_aon (s : State) (n : Sq) (f : Sequencer → Sequencer) : (updSeq s n f).aon = s.aon := rfl
@[simp] theorem updSeq_nv (s : State) (n : Sq) (f : Sequencer → Sequencer) : (updSeq s n f).nv = s.nv := rfl

@[simp] theorem updSeqDev_pending (s : State) (f : SeqDev → SeqDev) : (updSeqDev s f).pending = s.pending := rfl
@[simp] theorem updSeqDev_phase (s : State) (f : SeqDev → SeqDev) : (updSeqDev s f).phase = s.phase := rfl
@[simp] theorem updSeqDev_us (s : State) (f : SeqDev → SeqDev) : (updSeqDev s f).us = s.us := rfl
@[simp] theorem updSeqDev_freeCtr (s : State) (f : SeqDev → SeqDev) : (updSeqDev s f).freeCtr = s.freeCtr := rfl
@[simp] theorem updSeqDev_out (s : State) (f : SeqDev → SeqDev) : (updSeqDev s f).out = s.out := rfl
@[simp] theorem updSeqDev_ledger (s : State) (f : SeqDev → SeqDev) : (updSeqDev s f).ledger = s.ledger := rfl
@[simp] theorem updSeqDev_straps (s : State) (f : SeqDev → SeqDev) : (updSeqDev s f).straps = s.straps := rfl
@[simp] theorem updSeqDev_pins (s : State) (f : SeqDev → SeqDev) : (updSeqDev s f).pins = s.pins := rfl
@[simp] theorem updSeqDev_tap (s : State) (f : SeqDev → SeqDev) : (updSeqDev s f).tap = s.tap := rfl
@[simp] theorem updSeqDev_pmu (s : State) (f : SeqDev → SeqDev) : (updSeqDev s f).pmu = s.pmu := rfl
@[simp] theorem updSeqDev_surfaces (s : State) (f : SeqDev → SeqDev) : (updSeqDev s f).surfaces = s.surfaces := rfl
@[simp] theorem updSeqDev_heads (s : State) (f : SeqDev → SeqDev) : (updSeqDev s f).heads = s.heads := rfl
@[simp] theorem updSeqDev_streams (s : State) (f : SeqDev → SeqDev) : (updSeqDev s f).streams = s.streams := rfl
@[simp] theorem updSeqDev_guards (s : State) (f : SeqDev → SeqDev) : (updSeqDev s f).guards = s.guards := rfl
@[simp] theorem updSeqDev_acts (s : State) (f : SeqDev → SeqDev) : (updSeqDev s f).acts = s.acts := rfl
@[simp] theorem updSeqDev_strobe (s : State) (f : SeqDev → SeqDev) : (updSeqDev s f).strobe = s.strobe := rfl
@[simp] theorem updSeqDev_strobeDone (s : State) (f : SeqDev → SeqDev) : (updSeqDev s f).strobeDone = s.strobeDone := rfl
@[simp] theorem updSeqDev_hloops (s : State) (f : SeqDev → SeqDev) : (updSeqDev s f).hloops = s.hloops := rfl
@[simp] theorem updSeqDev_spn (s : State) (f : SeqDev → SeqDev) : (updSeqDev s f).spn = s.spn := rfl
@[simp] theorem updSeqDev_chn (s : State) (f : SeqDev → SeqDev) : (updSeqDev s f).chn = s.chn := rfl
@[simp] theorem updSeqDev_chz (s : State) (f : SeqDev → SeqDev) : (updSeqDev s f).chz = s.chz := rfl
@[simp] theorem updSeqDev_chnDev (s : State) (f : SeqDev → SeqDev) : (updSeqDev s f).chnDev = s.chnDev := rfl
@[simp] theorem updSeqDev_wps (s : State) (f : SeqDev → SeqDev) : (updSeqDev s f).wps = s.wps := rfl
@[simp] theorem updSeqDev_wheads (s : State) (f : SeqDev → SeqDev) : (updSeqDev s f).wheads = s.wheads := rfl
@[simp] theorem updSeqDev_wdev (s : State) (f : SeqDev → SeqDev) : (updSeqDev s f).wdev = s.wdev := rfl
@[simp] theorem updSeqDev_plks (s : State) (f : SeqDev → SeqDev) : (updSeqDev s f).plks = s.plks := rfl
@[simp] theorem updSeqDev_psl (s : State) (f : SeqDev → SeqDev) : (updSeqDev s f).psl = s.psl := rfl
@[simp] theorem updSeqDev_lnk (s : State) (f : SeqDev → SeqDev) : (updSeqDev s f).lnk = s.lnk := rfl
@[simp] theorem updSeqDev_cache (s : State) (f : SeqDev → SeqDev) : (updSeqDev s f).cache = s.cache := rfl
@[simp] theorem updSeqDev_staged (s : State) (f : SeqDev → SeqDev) : (updSeqDev s f).staged = s.staged := rfl
@[simp] theorem updSeqDev_tbl (s : State) (f : SeqDev → SeqDev) : (updSeqDev s f).tbl = s.tbl := rfl
@[simp] theorem updSeqDev_brt (s : State) (f : SeqDev → SeqDev) : (updSeqDev s f).brt = s.brt := rfl
@[simp] theorem updSeqDev_ckptPend (s : State) (f : SeqDev → SeqDev) : (updSeqDev s f).ckptPend = s.ckptPend := rfl
@[simp] theorem updSeqDev_brtPar (s : State) (f : SeqDev → SeqDev) : (updSeqDev s f).brtPar = s.brtPar := rfl
@[simp] theorem updSeqDev_headRecs (s : State) (f : SeqDev → SeqDev) : (updSeqDev s f).headRecs = s.headRecs := rfl
@[simp] theorem updSeqDev_actRecs (s : State) (f : SeqDev → SeqDev) : (updSeqDev s f).actRecs = s.actRecs := rfl
@[simp] theorem updSeqDev_rbld (s : State) (f : SeqDev → SeqDev) : (updSeqDev s f).rbld = s.rbld := rfl
@[simp] theorem updSeqDev_quay (s : State) (f : SeqDev → SeqDev) : (updSeqDev s f).quay = s.quay := rfl
@[simp] theorem updSeqDev_cmds (s : State) (f : SeqDev → SeqDev) : (updSeqDev s f).cmds = s.cmds := rfl
@[simp] theorem updSeqDev_dram (s : State) (f : SeqDev → SeqDev) : (updSeqDev s f).dram = s.dram := rfl
@[simp] theorem updSeqDev_seqs (s : State) (f : SeqDev → SeqDev) : (updSeqDev s f).seqs = s.seqs := rfl
@[simp] theorem updSeqDev_seqDev (s : State) (f : SeqDev → SeqDev) : (updSeqDev s f).seqDev = f s.seqDev := rfl
@[simp] theorem updSeqDev_mbx (s : State) (f : SeqDev → SeqDev) : (updSeqDev s f).mbx = s.mbx := rfl
@[simp] theorem updSeqDev_mbxPtr (s : State) (f : SeqDev → SeqDev) : (updSeqDev s f).mbxPtr = s.mbxPtr := rfl
@[simp] theorem updSeqDev_bw (s : State) (f : SeqDev → SeqDev) : (updSeqDev s f).bw = s.bw := rfl
@[simp] theorem updSeqDev_sec (s : State) (f : SeqDev → SeqDev) : (updSeqDev s f).sec = s.sec := rfl
@[simp] theorem updSeqDev_evr (s : State) (f : SeqDev → SeqDev) : (updSeqDev s f).evr = s.evr := rfl
@[simp] theorem updSeqDev_ctr (s : State) (f : SeqDev → SeqDev) : (updSeqDev s f).ctr = s.ctr := rfl
@[simp] theorem updSeqDev_incidents (s : State) (f : SeqDev → SeqDev) : (updSeqDev s f).incidents = s.incidents := rfl
@[simp] theorem updSeqDev_boot (s : State) (f : SeqDev → SeqDev) : (updSeqDev s f).boot = s.boot := rfl
@[simp] theorem updSeqDev_fw (s : State) (f : SeqDev → SeqDev) : (updSeqDev s f).fw = s.fw := rfl
@[simp] theorem updSeqDev_aon (s : State) (f : SeqDev → SeqDev) : (updSeqDev s f).aon = s.aon := rfl
@[simp] theorem updSeqDev_nv (s : State) (f : SeqDev → SeqDev) : (updSeqDev s f).nv = s.nv := rfl

@[simp] theorem updMbx_pending (s : State) (mb : Mb) (f : Mailbox → Mailbox) : (updMbx s mb f).pending = s.pending := rfl
@[simp] theorem updMbx_phase (s : State) (mb : Mb) (f : Mailbox → Mailbox) : (updMbx s mb f).phase = s.phase := rfl
@[simp] theorem updMbx_us (s : State) (mb : Mb) (f : Mailbox → Mailbox) : (updMbx s mb f).us = s.us := rfl
@[simp] theorem updMbx_freeCtr (s : State) (mb : Mb) (f : Mailbox → Mailbox) : (updMbx s mb f).freeCtr = s.freeCtr := rfl
@[simp] theorem updMbx_out (s : State) (mb : Mb) (f : Mailbox → Mailbox) : (updMbx s mb f).out = s.out := rfl
@[simp] theorem updMbx_ledger (s : State) (mb : Mb) (f : Mailbox → Mailbox) : (updMbx s mb f).ledger = s.ledger := rfl
@[simp] theorem updMbx_straps (s : State) (mb : Mb) (f : Mailbox → Mailbox) : (updMbx s mb f).straps = s.straps := rfl
@[simp] theorem updMbx_pins (s : State) (mb : Mb) (f : Mailbox → Mailbox) : (updMbx s mb f).pins = s.pins := rfl
@[simp] theorem updMbx_tap (s : State) (mb : Mb) (f : Mailbox → Mailbox) : (updMbx s mb f).tap = s.tap := rfl
@[simp] theorem updMbx_pmu (s : State) (mb : Mb) (f : Mailbox → Mailbox) : (updMbx s mb f).pmu = s.pmu := rfl
@[simp] theorem updMbx_surfaces (s : State) (mb : Mb) (f : Mailbox → Mailbox) : (updMbx s mb f).surfaces = s.surfaces := rfl
@[simp] theorem updMbx_heads (s : State) (mb : Mb) (f : Mailbox → Mailbox) : (updMbx s mb f).heads = s.heads := rfl
@[simp] theorem updMbx_streams (s : State) (mb : Mb) (f : Mailbox → Mailbox) : (updMbx s mb f).streams = s.streams := rfl
@[simp] theorem updMbx_guards (s : State) (mb : Mb) (f : Mailbox → Mailbox) : (updMbx s mb f).guards = s.guards := rfl
@[simp] theorem updMbx_acts (s : State) (mb : Mb) (f : Mailbox → Mailbox) : (updMbx s mb f).acts = s.acts := rfl
@[simp] theorem updMbx_strobe (s : State) (mb : Mb) (f : Mailbox → Mailbox) : (updMbx s mb f).strobe = s.strobe := rfl
@[simp] theorem updMbx_strobeDone (s : State) (mb : Mb) (f : Mailbox → Mailbox) : (updMbx s mb f).strobeDone = s.strobeDone := rfl
@[simp] theorem updMbx_hloops (s : State) (mb : Mb) (f : Mailbox → Mailbox) : (updMbx s mb f).hloops = s.hloops := rfl
@[simp] theorem updMbx_spn (s : State) (mb : Mb) (f : Mailbox → Mailbox) : (updMbx s mb f).spn = s.spn := rfl
@[simp] theorem updMbx_chn (s : State) (mb : Mb) (f : Mailbox → Mailbox) : (updMbx s mb f).chn = s.chn := rfl
@[simp] theorem updMbx_chz (s : State) (mb : Mb) (f : Mailbox → Mailbox) : (updMbx s mb f).chz = s.chz := rfl
@[simp] theorem updMbx_chnDev (s : State) (mb : Mb) (f : Mailbox → Mailbox) : (updMbx s mb f).chnDev = s.chnDev := rfl
@[simp] theorem updMbx_wps (s : State) (mb : Mb) (f : Mailbox → Mailbox) : (updMbx s mb f).wps = s.wps := rfl
@[simp] theorem updMbx_wheads (s : State) (mb : Mb) (f : Mailbox → Mailbox) : (updMbx s mb f).wheads = s.wheads := rfl
@[simp] theorem updMbx_wdev (s : State) (mb : Mb) (f : Mailbox → Mailbox) : (updMbx s mb f).wdev = s.wdev := rfl
@[simp] theorem updMbx_plks (s : State) (mb : Mb) (f : Mailbox → Mailbox) : (updMbx s mb f).plks = s.plks := rfl
@[simp] theorem updMbx_psl (s : State) (mb : Mb) (f : Mailbox → Mailbox) : (updMbx s mb f).psl = s.psl := rfl
@[simp] theorem updMbx_lnk (s : State) (mb : Mb) (f : Mailbox → Mailbox) : (updMbx s mb f).lnk = s.lnk := rfl
@[simp] theorem updMbx_cache (s : State) (mb : Mb) (f : Mailbox → Mailbox) : (updMbx s mb f).cache = s.cache := rfl
@[simp] theorem updMbx_staged (s : State) (mb : Mb) (f : Mailbox → Mailbox) : (updMbx s mb f).staged = s.staged := rfl
@[simp] theorem updMbx_tbl (s : State) (mb : Mb) (f : Mailbox → Mailbox) : (updMbx s mb f).tbl = s.tbl := rfl
@[simp] theorem updMbx_brt (s : State) (mb : Mb) (f : Mailbox → Mailbox) : (updMbx s mb f).brt = s.brt := rfl
@[simp] theorem updMbx_ckptPend (s : State) (mb : Mb) (f : Mailbox → Mailbox) : (updMbx s mb f).ckptPend = s.ckptPend := rfl
@[simp] theorem updMbx_brtPar (s : State) (mb : Mb) (f : Mailbox → Mailbox) : (updMbx s mb f).brtPar = s.brtPar := rfl
@[simp] theorem updMbx_headRecs (s : State) (mb : Mb) (f : Mailbox → Mailbox) : (updMbx s mb f).headRecs = s.headRecs := rfl
@[simp] theorem updMbx_actRecs (s : State) (mb : Mb) (f : Mailbox → Mailbox) : (updMbx s mb f).actRecs = s.actRecs := rfl
@[simp] theorem updMbx_rbld (s : State) (mb : Mb) (f : Mailbox → Mailbox) : (updMbx s mb f).rbld = s.rbld := rfl
@[simp] theorem updMbx_quay (s : State) (mb : Mb) (f : Mailbox → Mailbox) : (updMbx s mb f).quay = s.quay := rfl
@[simp] theorem updMbx_cmds (s : State) (mb : Mb) (f : Mailbox → Mailbox) : (updMbx s mb f).cmds = s.cmds := rfl
@[simp] theorem updMbx_dram (s : State) (mb : Mb) (f : Mailbox → Mailbox) : (updMbx s mb f).dram = s.dram := rfl
@[simp] theorem updMbx_seqs (s : State) (mb : Mb) (f : Mailbox → Mailbox) : (updMbx s mb f).seqs = s.seqs := rfl
@[simp] theorem updMbx_seqDev (s : State) (mb : Mb) (f : Mailbox → Mailbox) : (updMbx s mb f).seqDev = s.seqDev := rfl
@[simp] theorem updMbx_mbx (s : State) (mb : Mb) (f : Mailbox → Mailbox) : (updMbx s mb f).mbx = vupd s.mbx mb f := rfl
@[simp] theorem updMbx_mbxPtr (s : State) (mb : Mb) (f : Mailbox → Mailbox) : (updMbx s mb f).mbxPtr = s.mbxPtr := rfl
@[simp] theorem updMbx_bw (s : State) (mb : Mb) (f : Mailbox → Mailbox) : (updMbx s mb f).bw = s.bw := rfl
@[simp] theorem updMbx_sec (s : State) (mb : Mb) (f : Mailbox → Mailbox) : (updMbx s mb f).sec = s.sec := rfl
@[simp] theorem updMbx_evr (s : State) (mb : Mb) (f : Mailbox → Mailbox) : (updMbx s mb f).evr = s.evr := rfl
@[simp] theorem updMbx_ctr (s : State) (mb : Mb) (f : Mailbox → Mailbox) : (updMbx s mb f).ctr = s.ctr := rfl
@[simp] theorem updMbx_incidents (s : State) (mb : Mb) (f : Mailbox → Mailbox) : (updMbx s mb f).incidents = s.incidents := rfl
@[simp] theorem updMbx_boot (s : State) (mb : Mb) (f : Mailbox → Mailbox) : (updMbx s mb f).boot = s.boot := rfl
@[simp] theorem updMbx_fw (s : State) (mb : Mb) (f : Mailbox → Mailbox) : (updMbx s mb f).fw = s.fw := rfl
@[simp] theorem updMbx_aon (s : State) (mb : Mb) (f : Mailbox → Mailbox) : (updMbx s mb f).aon = s.aon := rfl
@[simp] theorem updMbx_nv (s : State) (mb : Mb) (f : Mailbox → Mailbox) : (updMbx s mb f).nv = s.nv := rfl

@[simp] theorem updBw_pending (s : State) (f : Breakwater → Breakwater) : (updBw s f).pending = s.pending := rfl
@[simp] theorem updBw_phase (s : State) (f : Breakwater → Breakwater) : (updBw s f).phase = s.phase := rfl
@[simp] theorem updBw_us (s : State) (f : Breakwater → Breakwater) : (updBw s f).us = s.us := rfl
@[simp] theorem updBw_freeCtr (s : State) (f : Breakwater → Breakwater) : (updBw s f).freeCtr = s.freeCtr := rfl
@[simp] theorem updBw_out (s : State) (f : Breakwater → Breakwater) : (updBw s f).out = s.out := rfl
@[simp] theorem updBw_ledger (s : State) (f : Breakwater → Breakwater) : (updBw s f).ledger = s.ledger := rfl
@[simp] theorem updBw_straps (s : State) (f : Breakwater → Breakwater) : (updBw s f).straps = s.straps := rfl
@[simp] theorem updBw_pins (s : State) (f : Breakwater → Breakwater) : (updBw s f).pins = s.pins := rfl
@[simp] theorem updBw_tap (s : State) (f : Breakwater → Breakwater) : (updBw s f).tap = s.tap := rfl
@[simp] theorem updBw_pmu (s : State) (f : Breakwater → Breakwater) : (updBw s f).pmu = s.pmu := rfl
@[simp] theorem updBw_surfaces (s : State) (f : Breakwater → Breakwater) : (updBw s f).surfaces = s.surfaces := rfl
@[simp] theorem updBw_heads (s : State) (f : Breakwater → Breakwater) : (updBw s f).heads = s.heads := rfl
@[simp] theorem updBw_streams (s : State) (f : Breakwater → Breakwater) : (updBw s f).streams = s.streams := rfl
@[simp] theorem updBw_guards (s : State) (f : Breakwater → Breakwater) : (updBw s f).guards = s.guards := rfl
@[simp] theorem updBw_acts (s : State) (f : Breakwater → Breakwater) : (updBw s f).acts = s.acts := rfl
@[simp] theorem updBw_strobe (s : State) (f : Breakwater → Breakwater) : (updBw s f).strobe = s.strobe := rfl
@[simp] theorem updBw_strobeDone (s : State) (f : Breakwater → Breakwater) : (updBw s f).strobeDone = s.strobeDone := rfl
@[simp] theorem updBw_hloops (s : State) (f : Breakwater → Breakwater) : (updBw s f).hloops = s.hloops := rfl
@[simp] theorem updBw_spn (s : State) (f : Breakwater → Breakwater) : (updBw s f).spn = s.spn := rfl
@[simp] theorem updBw_chn (s : State) (f : Breakwater → Breakwater) : (updBw s f).chn = s.chn := rfl
@[simp] theorem updBw_chz (s : State) (f : Breakwater → Breakwater) : (updBw s f).chz = s.chz := rfl
@[simp] theorem updBw_chnDev (s : State) (f : Breakwater → Breakwater) : (updBw s f).chnDev = s.chnDev := rfl
@[simp] theorem updBw_wps (s : State) (f : Breakwater → Breakwater) : (updBw s f).wps = s.wps := rfl
@[simp] theorem updBw_wheads (s : State) (f : Breakwater → Breakwater) : (updBw s f).wheads = s.wheads := rfl
@[simp] theorem updBw_wdev (s : State) (f : Breakwater → Breakwater) : (updBw s f).wdev = s.wdev := rfl
@[simp] theorem updBw_plks (s : State) (f : Breakwater → Breakwater) : (updBw s f).plks = s.plks := rfl
@[simp] theorem updBw_psl (s : State) (f : Breakwater → Breakwater) : (updBw s f).psl = s.psl := rfl
@[simp] theorem updBw_lnk (s : State) (f : Breakwater → Breakwater) : (updBw s f).lnk = s.lnk := rfl
@[simp] theorem updBw_cache (s : State) (f : Breakwater → Breakwater) : (updBw s f).cache = s.cache := rfl
@[simp] theorem updBw_staged (s : State) (f : Breakwater → Breakwater) : (updBw s f).staged = s.staged := rfl
@[simp] theorem updBw_tbl (s : State) (f : Breakwater → Breakwater) : (updBw s f).tbl = s.tbl := rfl
@[simp] theorem updBw_brt (s : State) (f : Breakwater → Breakwater) : (updBw s f).brt = s.brt := rfl
@[simp] theorem updBw_ckptPend (s : State) (f : Breakwater → Breakwater) : (updBw s f).ckptPend = s.ckptPend := rfl
@[simp] theorem updBw_brtPar (s : State) (f : Breakwater → Breakwater) : (updBw s f).brtPar = s.brtPar := rfl
@[simp] theorem updBw_headRecs (s : State) (f : Breakwater → Breakwater) : (updBw s f).headRecs = s.headRecs := rfl
@[simp] theorem updBw_actRecs (s : State) (f : Breakwater → Breakwater) : (updBw s f).actRecs = s.actRecs := rfl
@[simp] theorem updBw_rbld (s : State) (f : Breakwater → Breakwater) : (updBw s f).rbld = s.rbld := rfl
@[simp] theorem updBw_quay (s : State) (f : Breakwater → Breakwater) : (updBw s f).quay = s.quay := rfl
@[simp] theorem updBw_cmds (s : State) (f : Breakwater → Breakwater) : (updBw s f).cmds = s.cmds := rfl
@[simp] theorem updBw_dram (s : State) (f : Breakwater → Breakwater) : (updBw s f).dram = s.dram := rfl
@[simp] theorem updBw_seqs (s : State) (f : Breakwater → Breakwater) : (updBw s f).seqs = s.seqs := rfl
@[simp] theorem updBw_seqDev (s : State) (f : Breakwater → Breakwater) : (updBw s f).seqDev = s.seqDev := rfl
@[simp] theorem updBw_mbx (s : State) (f : Breakwater → Breakwater) : (updBw s f).mbx = s.mbx := rfl
@[simp] theorem updBw_mbxPtr (s : State) (f : Breakwater → Breakwater) : (updBw s f).mbxPtr = s.mbxPtr := rfl
@[simp] theorem updBw_bw (s : State) (f : Breakwater → Breakwater) : (updBw s f).bw = f s.bw := rfl
@[simp] theorem updBw_sec (s : State) (f : Breakwater → Breakwater) : (updBw s f).sec = s.sec := rfl
@[simp] theorem updBw_evr (s : State) (f : Breakwater → Breakwater) : (updBw s f).evr = s.evr := rfl
@[simp] theorem updBw_ctr (s : State) (f : Breakwater → Breakwater) : (updBw s f).ctr = s.ctr := rfl
@[simp] theorem updBw_incidents (s : State) (f : Breakwater → Breakwater) : (updBw s f).incidents = s.incidents := rfl
@[simp] theorem updBw_boot (s : State) (f : Breakwater → Breakwater) : (updBw s f).boot = s.boot := rfl
@[simp] theorem updBw_fw (s : State) (f : Breakwater → Breakwater) : (updBw s f).fw = s.fw := rfl
@[simp] theorem updBw_aon (s : State) (f : Breakwater → Breakwater) : (updBw s f).aon = s.aon := rfl
@[simp] theorem updBw_nv (s : State) (f : Breakwater → Breakwater) : (updBw s f).nv = s.nv := rfl

@[simp] theorem updSec_pending (s : State) (f : Security → Security) : (updSec s f).pending = s.pending := rfl
@[simp] theorem updSec_phase (s : State) (f : Security → Security) : (updSec s f).phase = s.phase := rfl
@[simp] theorem updSec_us (s : State) (f : Security → Security) : (updSec s f).us = s.us := rfl
@[simp] theorem updSec_freeCtr (s : State) (f : Security → Security) : (updSec s f).freeCtr = s.freeCtr := rfl
@[simp] theorem updSec_out (s : State) (f : Security → Security) : (updSec s f).out = s.out := rfl
@[simp] theorem updSec_ledger (s : State) (f : Security → Security) : (updSec s f).ledger = s.ledger := rfl
@[simp] theorem updSec_straps (s : State) (f : Security → Security) : (updSec s f).straps = s.straps := rfl
@[simp] theorem updSec_pins (s : State) (f : Security → Security) : (updSec s f).pins = s.pins := rfl
@[simp] theorem updSec_tap (s : State) (f : Security → Security) : (updSec s f).tap = s.tap := rfl
@[simp] theorem updSec_pmu (s : State) (f : Security → Security) : (updSec s f).pmu = s.pmu := rfl
@[simp] theorem updSec_surfaces (s : State) (f : Security → Security) : (updSec s f).surfaces = s.surfaces := rfl
@[simp] theorem updSec_heads (s : State) (f : Security → Security) : (updSec s f).heads = s.heads := rfl
@[simp] theorem updSec_streams (s : State) (f : Security → Security) : (updSec s f).streams = s.streams := rfl
@[simp] theorem updSec_guards (s : State) (f : Security → Security) : (updSec s f).guards = s.guards := rfl
@[simp] theorem updSec_acts (s : State) (f : Security → Security) : (updSec s f).acts = s.acts := rfl
@[simp] theorem updSec_strobe (s : State) (f : Security → Security) : (updSec s f).strobe = s.strobe := rfl
@[simp] theorem updSec_strobeDone (s : State) (f : Security → Security) : (updSec s f).strobeDone = s.strobeDone := rfl
@[simp] theorem updSec_hloops (s : State) (f : Security → Security) : (updSec s f).hloops = s.hloops := rfl
@[simp] theorem updSec_spn (s : State) (f : Security → Security) : (updSec s f).spn = s.spn := rfl
@[simp] theorem updSec_chn (s : State) (f : Security → Security) : (updSec s f).chn = s.chn := rfl
@[simp] theorem updSec_chz (s : State) (f : Security → Security) : (updSec s f).chz = s.chz := rfl
@[simp] theorem updSec_chnDev (s : State) (f : Security → Security) : (updSec s f).chnDev = s.chnDev := rfl
@[simp] theorem updSec_wps (s : State) (f : Security → Security) : (updSec s f).wps = s.wps := rfl
@[simp] theorem updSec_wheads (s : State) (f : Security → Security) : (updSec s f).wheads = s.wheads := rfl
@[simp] theorem updSec_wdev (s : State) (f : Security → Security) : (updSec s f).wdev = s.wdev := rfl
@[simp] theorem updSec_plks (s : State) (f : Security → Security) : (updSec s f).plks = s.plks := rfl
@[simp] theorem updSec_psl (s : State) (f : Security → Security) : (updSec s f).psl = s.psl := rfl
@[simp] theorem updSec_lnk (s : State) (f : Security → Security) : (updSec s f).lnk = s.lnk := rfl
@[simp] theorem updSec_cache (s : State) (f : Security → Security) : (updSec s f).cache = s.cache := rfl
@[simp] theorem updSec_staged (s : State) (f : Security → Security) : (updSec s f).staged = s.staged := rfl
@[simp] theorem updSec_tbl (s : State) (f : Security → Security) : (updSec s f).tbl = s.tbl := rfl
@[simp] theorem updSec_brt (s : State) (f : Security → Security) : (updSec s f).brt = s.brt := rfl
@[simp] theorem updSec_ckptPend (s : State) (f : Security → Security) : (updSec s f).ckptPend = s.ckptPend := rfl
@[simp] theorem updSec_brtPar (s : State) (f : Security → Security) : (updSec s f).brtPar = s.brtPar := rfl
@[simp] theorem updSec_headRecs (s : State) (f : Security → Security) : (updSec s f).headRecs = s.headRecs := rfl
@[simp] theorem updSec_actRecs (s : State) (f : Security → Security) : (updSec s f).actRecs = s.actRecs := rfl
@[simp] theorem updSec_rbld (s : State) (f : Security → Security) : (updSec s f).rbld = s.rbld := rfl
@[simp] theorem updSec_quay (s : State) (f : Security → Security) : (updSec s f).quay = s.quay := rfl
@[simp] theorem updSec_cmds (s : State) (f : Security → Security) : (updSec s f).cmds = s.cmds := rfl
@[simp] theorem updSec_dram (s : State) (f : Security → Security) : (updSec s f).dram = s.dram := rfl
@[simp] theorem updSec_seqs (s : State) (f : Security → Security) : (updSec s f).seqs = s.seqs := rfl
@[simp] theorem updSec_seqDev (s : State) (f : Security → Security) : (updSec s f).seqDev = s.seqDev := rfl
@[simp] theorem updSec_mbx (s : State) (f : Security → Security) : (updSec s f).mbx = s.mbx := rfl
@[simp] theorem updSec_mbxPtr (s : State) (f : Security → Security) : (updSec s f).mbxPtr = s.mbxPtr := rfl
@[simp] theorem updSec_bw (s : State) (f : Security → Security) : (updSec s f).bw = s.bw := rfl
@[simp] theorem updSec_sec (s : State) (f : Security → Security) : (updSec s f).sec = f s.sec := rfl
@[simp] theorem updSec_evr (s : State) (f : Security → Security) : (updSec s f).evr = s.evr := rfl
@[simp] theorem updSec_ctr (s : State) (f : Security → Security) : (updSec s f).ctr = s.ctr := rfl
@[simp] theorem updSec_incidents (s : State) (f : Security → Security) : (updSec s f).incidents = s.incidents := rfl
@[simp] theorem updSec_boot (s : State) (f : Security → Security) : (updSec s f).boot = s.boot := rfl
@[simp] theorem updSec_fw (s : State) (f : Security → Security) : (updSec s f).fw = s.fw := rfl
@[simp] theorem updSec_aon (s : State) (f : Security → Security) : (updSec s f).aon = s.aon := rfl
@[simp] theorem updSec_nv (s : State) (f : Security → Security) : (updSec s f).nv = s.nv := rfl

@[simp] theorem updEvr_pending (s : State) (f : Recorder → Recorder) : (updEvr s f).pending = s.pending := rfl
@[simp] theorem updEvr_phase (s : State) (f : Recorder → Recorder) : (updEvr s f).phase = s.phase := rfl
@[simp] theorem updEvr_us (s : State) (f : Recorder → Recorder) : (updEvr s f).us = s.us := rfl
@[simp] theorem updEvr_freeCtr (s : State) (f : Recorder → Recorder) : (updEvr s f).freeCtr = s.freeCtr := rfl
@[simp] theorem updEvr_out (s : State) (f : Recorder → Recorder) : (updEvr s f).out = s.out := rfl
@[simp] theorem updEvr_ledger (s : State) (f : Recorder → Recorder) : (updEvr s f).ledger = s.ledger := rfl
@[simp] theorem updEvr_straps (s : State) (f : Recorder → Recorder) : (updEvr s f).straps = s.straps := rfl
@[simp] theorem updEvr_pins (s : State) (f : Recorder → Recorder) : (updEvr s f).pins = s.pins := rfl
@[simp] theorem updEvr_tap (s : State) (f : Recorder → Recorder) : (updEvr s f).tap = s.tap := rfl
@[simp] theorem updEvr_pmu (s : State) (f : Recorder → Recorder) : (updEvr s f).pmu = s.pmu := rfl
@[simp] theorem updEvr_surfaces (s : State) (f : Recorder → Recorder) : (updEvr s f).surfaces = s.surfaces := rfl
@[simp] theorem updEvr_heads (s : State) (f : Recorder → Recorder) : (updEvr s f).heads = s.heads := rfl
@[simp] theorem updEvr_streams (s : State) (f : Recorder → Recorder) : (updEvr s f).streams = s.streams := rfl
@[simp] theorem updEvr_guards (s : State) (f : Recorder → Recorder) : (updEvr s f).guards = s.guards := rfl
@[simp] theorem updEvr_acts (s : State) (f : Recorder → Recorder) : (updEvr s f).acts = s.acts := rfl
@[simp] theorem updEvr_strobe (s : State) (f : Recorder → Recorder) : (updEvr s f).strobe = s.strobe := rfl
@[simp] theorem updEvr_strobeDone (s : State) (f : Recorder → Recorder) : (updEvr s f).strobeDone = s.strobeDone := rfl
@[simp] theorem updEvr_hloops (s : State) (f : Recorder → Recorder) : (updEvr s f).hloops = s.hloops := rfl
@[simp] theorem updEvr_spn (s : State) (f : Recorder → Recorder) : (updEvr s f).spn = s.spn := rfl
@[simp] theorem updEvr_chn (s : State) (f : Recorder → Recorder) : (updEvr s f).chn = s.chn := rfl
@[simp] theorem updEvr_chz (s : State) (f : Recorder → Recorder) : (updEvr s f).chz = s.chz := rfl
@[simp] theorem updEvr_chnDev (s : State) (f : Recorder → Recorder) : (updEvr s f).chnDev = s.chnDev := rfl
@[simp] theorem updEvr_wps (s : State) (f : Recorder → Recorder) : (updEvr s f).wps = s.wps := rfl
@[simp] theorem updEvr_wheads (s : State) (f : Recorder → Recorder) : (updEvr s f).wheads = s.wheads := rfl
@[simp] theorem updEvr_wdev (s : State) (f : Recorder → Recorder) : (updEvr s f).wdev = s.wdev := rfl
@[simp] theorem updEvr_plks (s : State) (f : Recorder → Recorder) : (updEvr s f).plks = s.plks := rfl
@[simp] theorem updEvr_psl (s : State) (f : Recorder → Recorder) : (updEvr s f).psl = s.psl := rfl
@[simp] theorem updEvr_lnk (s : State) (f : Recorder → Recorder) : (updEvr s f).lnk = s.lnk := rfl
@[simp] theorem updEvr_cache (s : State) (f : Recorder → Recorder) : (updEvr s f).cache = s.cache := rfl
@[simp] theorem updEvr_staged (s : State) (f : Recorder → Recorder) : (updEvr s f).staged = s.staged := rfl
@[simp] theorem updEvr_tbl (s : State) (f : Recorder → Recorder) : (updEvr s f).tbl = s.tbl := rfl
@[simp] theorem updEvr_brt (s : State) (f : Recorder → Recorder) : (updEvr s f).brt = s.brt := rfl
@[simp] theorem updEvr_ckptPend (s : State) (f : Recorder → Recorder) : (updEvr s f).ckptPend = s.ckptPend := rfl
@[simp] theorem updEvr_brtPar (s : State) (f : Recorder → Recorder) : (updEvr s f).brtPar = s.brtPar := rfl
@[simp] theorem updEvr_headRecs (s : State) (f : Recorder → Recorder) : (updEvr s f).headRecs = s.headRecs := rfl
@[simp] theorem updEvr_actRecs (s : State) (f : Recorder → Recorder) : (updEvr s f).actRecs = s.actRecs := rfl
@[simp] theorem updEvr_rbld (s : State) (f : Recorder → Recorder) : (updEvr s f).rbld = s.rbld := rfl
@[simp] theorem updEvr_quay (s : State) (f : Recorder → Recorder) : (updEvr s f).quay = s.quay := rfl
@[simp] theorem updEvr_cmds (s : State) (f : Recorder → Recorder) : (updEvr s f).cmds = s.cmds := rfl
@[simp] theorem updEvr_dram (s : State) (f : Recorder → Recorder) : (updEvr s f).dram = s.dram := rfl
@[simp] theorem updEvr_seqs (s : State) (f : Recorder → Recorder) : (updEvr s f).seqs = s.seqs := rfl
@[simp] theorem updEvr_seqDev (s : State) (f : Recorder → Recorder) : (updEvr s f).seqDev = s.seqDev := rfl
@[simp] theorem updEvr_mbx (s : State) (f : Recorder → Recorder) : (updEvr s f).mbx = s.mbx := rfl
@[simp] theorem updEvr_mbxPtr (s : State) (f : Recorder → Recorder) : (updEvr s f).mbxPtr = s.mbxPtr := rfl
@[simp] theorem updEvr_bw (s : State) (f : Recorder → Recorder) : (updEvr s f).bw = s.bw := rfl
@[simp] theorem updEvr_sec (s : State) (f : Recorder → Recorder) : (updEvr s f).sec = s.sec := rfl
@[simp] theorem updEvr_evr (s : State) (f : Recorder → Recorder) : (updEvr s f).evr = f s.evr := rfl
@[simp] theorem updEvr_ctr (s : State) (f : Recorder → Recorder) : (updEvr s f).ctr = s.ctr := rfl
@[simp] theorem updEvr_incidents (s : State) (f : Recorder → Recorder) : (updEvr s f).incidents = s.incidents := rfl
@[simp] theorem updEvr_boot (s : State) (f : Recorder → Recorder) : (updEvr s f).boot = s.boot := rfl
@[simp] theorem updEvr_fw (s : State) (f : Recorder → Recorder) : (updEvr s f).fw = s.fw := rfl
@[simp] theorem updEvr_aon (s : State) (f : Recorder → Recorder) : (updEvr s f).aon = s.aon := rfl
@[simp] theorem updEvr_nv (s : State) (f : Recorder → Recorder) : (updEvr s f).nv = s.nv := rfl

@[simp] theorem updNv_pending (s : State) (f : Nv → Nv) : (updNv s f).pending = s.pending := rfl
@[simp] theorem updNv_phase (s : State) (f : Nv → Nv) : (updNv s f).phase = s.phase := rfl
@[simp] theorem updNv_us (s : State) (f : Nv → Nv) : (updNv s f).us = s.us := rfl
@[simp] theorem updNv_freeCtr (s : State) (f : Nv → Nv) : (updNv s f).freeCtr = s.freeCtr := rfl
@[simp] theorem updNv_out (s : State) (f : Nv → Nv) : (updNv s f).out = s.out := rfl
@[simp] theorem updNv_ledger (s : State) (f : Nv → Nv) : (updNv s f).ledger = s.ledger := rfl
@[simp] theorem updNv_straps (s : State) (f : Nv → Nv) : (updNv s f).straps = s.straps := rfl
@[simp] theorem updNv_pins (s : State) (f : Nv → Nv) : (updNv s f).pins = s.pins := rfl
@[simp] theorem updNv_tap (s : State) (f : Nv → Nv) : (updNv s f).tap = s.tap := rfl
@[simp] theorem updNv_pmu (s : State) (f : Nv → Nv) : (updNv s f).pmu = s.pmu := rfl
@[simp] theorem updNv_surfaces (s : State) (f : Nv → Nv) : (updNv s f).surfaces = s.surfaces := rfl
@[simp] theorem updNv_heads (s : State) (f : Nv → Nv) : (updNv s f).heads = s.heads := rfl
@[simp] theorem updNv_streams (s : State) (f : Nv → Nv) : (updNv s f).streams = s.streams := rfl
@[simp] theorem updNv_guards (s : State) (f : Nv → Nv) : (updNv s f).guards = s.guards := rfl
@[simp] theorem updNv_acts (s : State) (f : Nv → Nv) : (updNv s f).acts = s.acts := rfl
@[simp] theorem updNv_strobe (s : State) (f : Nv → Nv) : (updNv s f).strobe = s.strobe := rfl
@[simp] theorem updNv_strobeDone (s : State) (f : Nv → Nv) : (updNv s f).strobeDone = s.strobeDone := rfl
@[simp] theorem updNv_hloops (s : State) (f : Nv → Nv) : (updNv s f).hloops = s.hloops := rfl
@[simp] theorem updNv_spn (s : State) (f : Nv → Nv) : (updNv s f).spn = s.spn := rfl
@[simp] theorem updNv_chn (s : State) (f : Nv → Nv) : (updNv s f).chn = s.chn := rfl
@[simp] theorem updNv_chz (s : State) (f : Nv → Nv) : (updNv s f).chz = s.chz := rfl
@[simp] theorem updNv_chnDev (s : State) (f : Nv → Nv) : (updNv s f).chnDev = s.chnDev := rfl
@[simp] theorem updNv_wps (s : State) (f : Nv → Nv) : (updNv s f).wps = s.wps := rfl
@[simp] theorem updNv_wheads (s : State) (f : Nv → Nv) : (updNv s f).wheads = s.wheads := rfl
@[simp] theorem updNv_wdev (s : State) (f : Nv → Nv) : (updNv s f).wdev = s.wdev := rfl
@[simp] theorem updNv_plks (s : State) (f : Nv → Nv) : (updNv s f).plks = s.plks := rfl
@[simp] theorem updNv_psl (s : State) (f : Nv → Nv) : (updNv s f).psl = s.psl := rfl
@[simp] theorem updNv_lnk (s : State) (f : Nv → Nv) : (updNv s f).lnk = s.lnk := rfl
@[simp] theorem updNv_cache (s : State) (f : Nv → Nv) : (updNv s f).cache = s.cache := rfl
@[simp] theorem updNv_staged (s : State) (f : Nv → Nv) : (updNv s f).staged = s.staged := rfl
@[simp] theorem updNv_tbl (s : State) (f : Nv → Nv) : (updNv s f).tbl = s.tbl := rfl
@[simp] theorem updNv_brt (s : State) (f : Nv → Nv) : (updNv s f).brt = s.brt := rfl
@[simp] theorem updNv_ckptPend (s : State) (f : Nv → Nv) : (updNv s f).ckptPend = s.ckptPend := rfl
@[simp] theorem updNv_brtPar (s : State) (f : Nv → Nv) : (updNv s f).brtPar = s.brtPar := rfl
@[simp] theorem updNv_headRecs (s : State) (f : Nv → Nv) : (updNv s f).headRecs = s.headRecs := rfl
@[simp] theorem updNv_actRecs (s : State) (f : Nv → Nv) : (updNv s f).actRecs = s.actRecs := rfl
@[simp] theorem updNv_rbld (s : State) (f : Nv → Nv) : (updNv s f).rbld = s.rbld := rfl
@[simp] theorem updNv_quay (s : State) (f : Nv → Nv) : (updNv s f).quay = s.quay := rfl
@[simp] theorem updNv_cmds (s : State) (f : Nv → Nv) : (updNv s f).cmds = s.cmds := rfl
@[simp] theorem updNv_dram (s : State) (f : Nv → Nv) : (updNv s f).dram = s.dram := rfl
@[simp] theorem updNv_seqs (s : State) (f : Nv → Nv) : (updNv s f).seqs = s.seqs := rfl
@[simp] theorem updNv_seqDev (s : State) (f : Nv → Nv) : (updNv s f).seqDev = s.seqDev := rfl
@[simp] theorem updNv_mbx (s : State) (f : Nv → Nv) : (updNv s f).mbx = s.mbx := rfl
@[simp] theorem updNv_mbxPtr (s : State) (f : Nv → Nv) : (updNv s f).mbxPtr = s.mbxPtr := rfl
@[simp] theorem updNv_bw (s : State) (f : Nv → Nv) : (updNv s f).bw = s.bw := rfl
@[simp] theorem updNv_sec (s : State) (f : Nv → Nv) : (updNv s f).sec = s.sec := rfl
@[simp] theorem updNv_evr (s : State) (f : Nv → Nv) : (updNv s f).evr = s.evr := rfl
@[simp] theorem updNv_ctr (s : State) (f : Nv → Nv) : (updNv s f).ctr = s.ctr := rfl
@[simp] theorem updNv_incidents (s : State) (f : Nv → Nv) : (updNv s f).incidents = s.incidents := rfl
@[simp] theorem updNv_boot (s : State) (f : Nv → Nv) : (updNv s f).boot = s.boot := rfl
@[simp] theorem updNv_fw (s : State) (f : Nv → Nv) : (updNv s f).fw = s.fw := rfl
@[simp] theorem updNv_aon (s : State) (f : Nv → Nv) : (updNv s f).aon = s.aon := rfl
@[simp] theorem updNv_nv (s : State) (f : Nv → Nv) : (updNv s f).nv = f s.nv := rfl

@[simp] theorem updBoot_pending (s : State) (f : Boot → Boot) : (updBoot s f).pending = s.pending := rfl
@[simp] theorem updBoot_phase (s : State) (f : Boot → Boot) : (updBoot s f).phase = s.phase := rfl
@[simp] theorem updBoot_us (s : State) (f : Boot → Boot) : (updBoot s f).us = s.us := rfl
@[simp] theorem updBoot_freeCtr (s : State) (f : Boot → Boot) : (updBoot s f).freeCtr = s.freeCtr := rfl
@[simp] theorem updBoot_out (s : State) (f : Boot → Boot) : (updBoot s f).out = s.out := rfl
@[simp] theorem updBoot_ledger (s : State) (f : Boot → Boot) : (updBoot s f).ledger = s.ledger := rfl
@[simp] theorem updBoot_straps (s : State) (f : Boot → Boot) : (updBoot s f).straps = s.straps := rfl
@[simp] theorem updBoot_pins (s : State) (f : Boot → Boot) : (updBoot s f).pins = s.pins := rfl
@[simp] theorem updBoot_tap (s : State) (f : Boot → Boot) : (updBoot s f).tap = s.tap := rfl
@[simp] theorem updBoot_pmu (s : State) (f : Boot → Boot) : (updBoot s f).pmu = s.pmu := rfl
@[simp] theorem updBoot_surfaces (s : State) (f : Boot → Boot) : (updBoot s f).surfaces = s.surfaces := rfl
@[simp] theorem updBoot_heads (s : State) (f : Boot → Boot) : (updBoot s f).heads = s.heads := rfl
@[simp] theorem updBoot_streams (s : State) (f : Boot → Boot) : (updBoot s f).streams = s.streams := rfl
@[simp] theorem updBoot_guards (s : State) (f : Boot → Boot) : (updBoot s f).guards = s.guards := rfl
@[simp] theorem updBoot_acts (s : State) (f : Boot → Boot) : (updBoot s f).acts = s.acts := rfl
@[simp] theorem updBoot_strobe (s : State) (f : Boot → Boot) : (updBoot s f).strobe = s.strobe := rfl
@[simp] theorem updBoot_strobeDone (s : State) (f : Boot → Boot) : (updBoot s f).strobeDone = s.strobeDone := rfl
@[simp] theorem updBoot_hloops (s : State) (f : Boot → Boot) : (updBoot s f).hloops = s.hloops := rfl
@[simp] theorem updBoot_spn (s : State) (f : Boot → Boot) : (updBoot s f).spn = s.spn := rfl
@[simp] theorem updBoot_chn (s : State) (f : Boot → Boot) : (updBoot s f).chn = s.chn := rfl
@[simp] theorem updBoot_chz (s : State) (f : Boot → Boot) : (updBoot s f).chz = s.chz := rfl
@[simp] theorem updBoot_chnDev (s : State) (f : Boot → Boot) : (updBoot s f).chnDev = s.chnDev := rfl
@[simp] theorem updBoot_wps (s : State) (f : Boot → Boot) : (updBoot s f).wps = s.wps := rfl
@[simp] theorem updBoot_wheads (s : State) (f : Boot → Boot) : (updBoot s f).wheads = s.wheads := rfl
@[simp] theorem updBoot_wdev (s : State) (f : Boot → Boot) : (updBoot s f).wdev = s.wdev := rfl
@[simp] theorem updBoot_plks (s : State) (f : Boot → Boot) : (updBoot s f).plks = s.plks := rfl
@[simp] theorem updBoot_psl (s : State) (f : Boot → Boot) : (updBoot s f).psl = s.psl := rfl
@[simp] theorem updBoot_lnk (s : State) (f : Boot → Boot) : (updBoot s f).lnk = s.lnk := rfl
@[simp] theorem updBoot_cache (s : State) (f : Boot → Boot) : (updBoot s f).cache = s.cache := rfl
@[simp] theorem updBoot_staged (s : State) (f : Boot → Boot) : (updBoot s f).staged = s.staged := rfl
@[simp] theorem updBoot_tbl (s : State) (f : Boot → Boot) : (updBoot s f).tbl = s.tbl := rfl
@[simp] theorem updBoot_brt (s : State) (f : Boot → Boot) : (updBoot s f).brt = s.brt := rfl
@[simp] theorem updBoot_ckptPend (s : State) (f : Boot → Boot) : (updBoot s f).ckptPend = s.ckptPend := rfl
@[simp] theorem updBoot_brtPar (s : State) (f : Boot → Boot) : (updBoot s f).brtPar = s.brtPar := rfl
@[simp] theorem updBoot_headRecs (s : State) (f : Boot → Boot) : (updBoot s f).headRecs = s.headRecs := rfl
@[simp] theorem updBoot_actRecs (s : State) (f : Boot → Boot) : (updBoot s f).actRecs = s.actRecs := rfl
@[simp] theorem updBoot_rbld (s : State) (f : Boot → Boot) : (updBoot s f).rbld = s.rbld := rfl
@[simp] theorem updBoot_quay (s : State) (f : Boot → Boot) : (updBoot s f).quay = s.quay := rfl
@[simp] theorem updBoot_cmds (s : State) (f : Boot → Boot) : (updBoot s f).cmds = s.cmds := rfl
@[simp] theorem updBoot_dram (s : State) (f : Boot → Boot) : (updBoot s f).dram = s.dram := rfl
@[simp] theorem updBoot_seqs (s : State) (f : Boot → Boot) : (updBoot s f).seqs = s.seqs := rfl
@[simp] theorem updBoot_seqDev (s : State) (f : Boot → Boot) : (updBoot s f).seqDev = s.seqDev := rfl
@[simp] theorem updBoot_mbx (s : State) (f : Boot → Boot) : (updBoot s f).mbx = s.mbx := rfl
@[simp] theorem updBoot_mbxPtr (s : State) (f : Boot → Boot) : (updBoot s f).mbxPtr = s.mbxPtr := rfl
@[simp] theorem updBoot_bw (s : State) (f : Boot → Boot) : (updBoot s f).bw = s.bw := rfl
@[simp] theorem updBoot_sec (s : State) (f : Boot → Boot) : (updBoot s f).sec = s.sec := rfl
@[simp] theorem updBoot_evr (s : State) (f : Boot → Boot) : (updBoot s f).evr = s.evr := rfl
@[simp] theorem updBoot_ctr (s : State) (f : Boot → Boot) : (updBoot s f).ctr = s.ctr := rfl
@[simp] theorem updBoot_incidents (s : State) (f : Boot → Boot) : (updBoot s f).incidents = s.incidents := rfl
@[simp] theorem updBoot_boot (s : State) (f : Boot → Boot) : (updBoot s f).boot = f s.boot := rfl
@[simp] theorem updBoot_fw (s : State) (f : Boot → Boot) : (updBoot s f).fw = s.fw := rfl
@[simp] theorem updBoot_aon (s : State) (f : Boot → Boot) : (updBoot s f).aon = s.aon := rfl
@[simp] theorem updBoot_nv (s : State) (f : Boot → Boot) : (updBoot s f).nv = s.nv := rfl

@[simp] theorem updFw_pending (s : State) (f : FwState → FwState) : (updFw s f).pending = s.pending := rfl
@[simp] theorem updFw_phase (s : State) (f : FwState → FwState) : (updFw s f).phase = s.phase := rfl
@[simp] theorem updFw_us (s : State) (f : FwState → FwState) : (updFw s f).us = s.us := rfl
@[simp] theorem updFw_freeCtr (s : State) (f : FwState → FwState) : (updFw s f).freeCtr = s.freeCtr := rfl
@[simp] theorem updFw_out (s : State) (f : FwState → FwState) : (updFw s f).out = s.out := rfl
@[simp] theorem updFw_ledger (s : State) (f : FwState → FwState) : (updFw s f).ledger = s.ledger := rfl
@[simp] theorem updFw_straps (s : State) (f : FwState → FwState) : (updFw s f).straps = s.straps := rfl
@[simp] theorem updFw_pins (s : State) (f : FwState → FwState) : (updFw s f).pins = s.pins := rfl
@[simp] theorem updFw_tap (s : State) (f : FwState → FwState) : (updFw s f).tap = s.tap := rfl
@[simp] theorem updFw_pmu (s : State) (f : FwState → FwState) : (updFw s f).pmu = s.pmu := rfl
@[simp] theorem updFw_surfaces (s : State) (f : FwState → FwState) : (updFw s f).surfaces = s.surfaces := rfl
@[simp] theorem updFw_heads (s : State) (f : FwState → FwState) : (updFw s f).heads = s.heads := rfl
@[simp] theorem updFw_streams (s : State) (f : FwState → FwState) : (updFw s f).streams = s.streams := rfl
@[simp] theorem updFw_guards (s : State) (f : FwState → FwState) : (updFw s f).guards = s.guards := rfl
@[simp] theorem updFw_acts (s : State) (f : FwState → FwState) : (updFw s f).acts = s.acts := rfl
@[simp] theorem updFw_strobe (s : State) (f : FwState → FwState) : (updFw s f).strobe = s.strobe := rfl
@[simp] theorem updFw_strobeDone (s : State) (f : FwState → FwState) : (updFw s f).strobeDone = s.strobeDone := rfl
@[simp] theorem updFw_hloops (s : State) (f : FwState → FwState) : (updFw s f).hloops = s.hloops := rfl
@[simp] theorem updFw_spn (s : State) (f : FwState → FwState) : (updFw s f).spn = s.spn := rfl
@[simp] theorem updFw_chn (s : State) (f : FwState → FwState) : (updFw s f).chn = s.chn := rfl
@[simp] theorem updFw_chz (s : State) (f : FwState → FwState) : (updFw s f).chz = s.chz := rfl
@[simp] theorem updFw_chnDev (s : State) (f : FwState → FwState) : (updFw s f).chnDev = s.chnDev := rfl
@[simp] theorem updFw_wps (s : State) (f : FwState → FwState) : (updFw s f).wps = s.wps := rfl
@[simp] theorem updFw_wheads (s : State) (f : FwState → FwState) : (updFw s f).wheads = s.wheads := rfl
@[simp] theorem updFw_wdev (s : State) (f : FwState → FwState) : (updFw s f).wdev = s.wdev := rfl
@[simp] theorem updFw_plks (s : State) (f : FwState → FwState) : (updFw s f).plks = s.plks := rfl
@[simp] theorem updFw_psl (s : State) (f : FwState → FwState) : (updFw s f).psl = s.psl := rfl
@[simp] theorem updFw_lnk (s : State) (f : FwState → FwState) : (updFw s f).lnk = s.lnk := rfl
@[simp] theorem updFw_cache (s : State) (f : FwState → FwState) : (updFw s f).cache = s.cache := rfl
@[simp] theorem updFw_staged (s : State) (f : FwState → FwState) : (updFw s f).staged = s.staged := rfl
@[simp] theorem updFw_tbl (s : State) (f : FwState → FwState) : (updFw s f).tbl = s.tbl := rfl
@[simp] theorem updFw_brt (s : State) (f : FwState → FwState) : (updFw s f).brt = s.brt := rfl
@[simp] theorem updFw_ckptPend (s : State) (f : FwState → FwState) : (updFw s f).ckptPend = s.ckptPend := rfl
@[simp] theorem updFw_brtPar (s : State) (f : FwState → FwState) : (updFw s f).brtPar = s.brtPar := rfl
@[simp] theorem updFw_headRecs (s : State) (f : FwState → FwState) : (updFw s f).headRecs = s.headRecs := rfl
@[simp] theorem updFw_actRecs (s : State) (f : FwState → FwState) : (updFw s f).actRecs = s.actRecs := rfl
@[simp] theorem updFw_rbld (s : State) (f : FwState → FwState) : (updFw s f).rbld = s.rbld := rfl
@[simp] theorem updFw_quay (s : State) (f : FwState → FwState) : (updFw s f).quay = s.quay := rfl
@[simp] theorem updFw_cmds (s : State) (f : FwState → FwState) : (updFw s f).cmds = s.cmds := rfl
@[simp] theorem updFw_dram (s : State) (f : FwState → FwState) : (updFw s f).dram = s.dram := rfl
@[simp] theorem updFw_seqs (s : State) (f : FwState → FwState) : (updFw s f).seqs = s.seqs := rfl
@[simp] theorem updFw_seqDev (s : State) (f : FwState → FwState) : (updFw s f).seqDev = s.seqDev := rfl
@[simp] theorem updFw_mbx (s : State) (f : FwState → FwState) : (updFw s f).mbx = s.mbx := rfl
@[simp] theorem updFw_mbxPtr (s : State) (f : FwState → FwState) : (updFw s f).mbxPtr = s.mbxPtr := rfl
@[simp] theorem updFw_bw (s : State) (f : FwState → FwState) : (updFw s f).bw = s.bw := rfl
@[simp] theorem updFw_sec (s : State) (f : FwState → FwState) : (updFw s f).sec = s.sec := rfl
@[simp] theorem updFw_evr (s : State) (f : FwState → FwState) : (updFw s f).evr = s.evr := rfl
@[simp] theorem updFw_ctr (s : State) (f : FwState → FwState) : (updFw s f).ctr = s.ctr := rfl
@[simp] theorem updFw_incidents (s : State) (f : FwState → FwState) : (updFw s f).incidents = s.incidents := rfl
@[simp] theorem updFw_boot (s : State) (f : FwState → FwState) : (updFw s f).boot = s.boot := rfl
@[simp] theorem updFw_fw (s : State) (f : FwState → FwState) : (updFw s f).fw = f s.fw := rfl
@[simp] theorem updFw_aon (s : State) (f : FwState → FwState) : (updFw s f).aon = s.aon := rfl
@[simp] theorem updFw_nv (s : State) (f : FwState → FwState) : (updFw s f).nv = s.nv := rfl

@[simp] theorem updDevCtr_pending (s : State) (f : DevCtr → DevCtr) : (updDevCtr s f).pending = s.pending := rfl
@[simp] theorem updDevCtr_phase (s : State) (f : DevCtr → DevCtr) : (updDevCtr s f).phase = s.phase := rfl
@[simp] theorem updDevCtr_us (s : State) (f : DevCtr → DevCtr) : (updDevCtr s f).us = s.us := rfl
@[simp] theorem updDevCtr_freeCtr (s : State) (f : DevCtr → DevCtr) : (updDevCtr s f).freeCtr = s.freeCtr := rfl
@[simp] theorem updDevCtr_out (s : State) (f : DevCtr → DevCtr) : (updDevCtr s f).out = s.out := rfl
@[simp] theorem updDevCtr_ledger (s : State) (f : DevCtr → DevCtr) : (updDevCtr s f).ledger = s.ledger := rfl
@[simp] theorem updDevCtr_straps (s : State) (f : DevCtr → DevCtr) : (updDevCtr s f).straps = s.straps := rfl
@[simp] theorem updDevCtr_pins (s : State) (f : DevCtr → DevCtr) : (updDevCtr s f).pins = s.pins := rfl
@[simp] theorem updDevCtr_tap (s : State) (f : DevCtr → DevCtr) : (updDevCtr s f).tap = s.tap := rfl
@[simp] theorem updDevCtr_pmu (s : State) (f : DevCtr → DevCtr) : (updDevCtr s f).pmu = s.pmu := rfl
@[simp] theorem updDevCtr_surfaces (s : State) (f : DevCtr → DevCtr) : (updDevCtr s f).surfaces = s.surfaces := rfl
@[simp] theorem updDevCtr_heads (s : State) (f : DevCtr → DevCtr) : (updDevCtr s f).heads = s.heads := rfl
@[simp] theorem updDevCtr_streams (s : State) (f : DevCtr → DevCtr) : (updDevCtr s f).streams = s.streams := rfl
@[simp] theorem updDevCtr_guards (s : State) (f : DevCtr → DevCtr) : (updDevCtr s f).guards = s.guards := rfl
@[simp] theorem updDevCtr_acts (s : State) (f : DevCtr → DevCtr) : (updDevCtr s f).acts = s.acts := rfl
@[simp] theorem updDevCtr_strobe (s : State) (f : DevCtr → DevCtr) : (updDevCtr s f).strobe = s.strobe := rfl
@[simp] theorem updDevCtr_strobeDone (s : State) (f : DevCtr → DevCtr) : (updDevCtr s f).strobeDone = s.strobeDone := rfl
@[simp] theorem updDevCtr_hloops (s : State) (f : DevCtr → DevCtr) : (updDevCtr s f).hloops = s.hloops := rfl
@[simp] theorem updDevCtr_spn (s : State) (f : DevCtr → DevCtr) : (updDevCtr s f).spn = s.spn := rfl
@[simp] theorem updDevCtr_chn (s : State) (f : DevCtr → DevCtr) : (updDevCtr s f).chn = s.chn := rfl
@[simp] theorem updDevCtr_chz (s : State) (f : DevCtr → DevCtr) : (updDevCtr s f).chz = s.chz := rfl
@[simp] theorem updDevCtr_chnDev (s : State) (f : DevCtr → DevCtr) : (updDevCtr s f).chnDev = s.chnDev := rfl
@[simp] theorem updDevCtr_wps (s : State) (f : DevCtr → DevCtr) : (updDevCtr s f).wps = s.wps := rfl
@[simp] theorem updDevCtr_wheads (s : State) (f : DevCtr → DevCtr) : (updDevCtr s f).wheads = s.wheads := rfl
@[simp] theorem updDevCtr_wdev (s : State) (f : DevCtr → DevCtr) : (updDevCtr s f).wdev = s.wdev := rfl
@[simp] theorem updDevCtr_plks (s : State) (f : DevCtr → DevCtr) : (updDevCtr s f).plks = s.plks := rfl
@[simp] theorem updDevCtr_psl (s : State) (f : DevCtr → DevCtr) : (updDevCtr s f).psl = s.psl := rfl
@[simp] theorem updDevCtr_lnk (s : State) (f : DevCtr → DevCtr) : (updDevCtr s f).lnk = s.lnk := rfl
@[simp] theorem updDevCtr_cache (s : State) (f : DevCtr → DevCtr) : (updDevCtr s f).cache = s.cache := rfl
@[simp] theorem updDevCtr_staged (s : State) (f : DevCtr → DevCtr) : (updDevCtr s f).staged = s.staged := rfl
@[simp] theorem updDevCtr_tbl (s : State) (f : DevCtr → DevCtr) : (updDevCtr s f).tbl = s.tbl := rfl
@[simp] theorem updDevCtr_brt (s : State) (f : DevCtr → DevCtr) : (updDevCtr s f).brt = s.brt := rfl
@[simp] theorem updDevCtr_ckptPend (s : State) (f : DevCtr → DevCtr) : (updDevCtr s f).ckptPend = s.ckptPend := rfl
@[simp] theorem updDevCtr_brtPar (s : State) (f : DevCtr → DevCtr) : (updDevCtr s f).brtPar = s.brtPar := rfl
@[simp] theorem updDevCtr_headRecs (s : State) (f : DevCtr → DevCtr) : (updDevCtr s f).headRecs = s.headRecs := rfl
@[simp] theorem updDevCtr_actRecs (s : State) (f : DevCtr → DevCtr) : (updDevCtr s f).actRecs = s.actRecs := rfl
@[simp] theorem updDevCtr_rbld (s : State) (f : DevCtr → DevCtr) : (updDevCtr s f).rbld = s.rbld := rfl
@[simp] theorem updDevCtr_quay (s : State) (f : DevCtr → DevCtr) : (updDevCtr s f).quay = s.quay := rfl
@[simp] theorem updDevCtr_cmds (s : State) (f : DevCtr → DevCtr) : (updDevCtr s f).cmds = s.cmds := rfl
@[simp] theorem updDevCtr_dram (s : State) (f : DevCtr → DevCtr) : (updDevCtr s f).dram = s.dram := rfl
@[simp] theorem updDevCtr_seqs (s : State) (f : DevCtr → DevCtr) : (updDevCtr s f).seqs = s.seqs := rfl
@[simp] theorem updDevCtr_seqDev (s : State) (f : DevCtr → DevCtr) : (updDevCtr s f).seqDev = s.seqDev := rfl
@[simp] theorem updDevCtr_mbx (s : State) (f : DevCtr → DevCtr) : (updDevCtr s f).mbx = s.mbx := rfl
@[simp] theorem updDevCtr_mbxPtr (s : State) (f : DevCtr → DevCtr) : (updDevCtr s f).mbxPtr = s.mbxPtr := rfl
@[simp] theorem updDevCtr_bw (s : State) (f : DevCtr → DevCtr) : (updDevCtr s f).bw = s.bw := rfl
@[simp] theorem updDevCtr_sec (s : State) (f : DevCtr → DevCtr) : (updDevCtr s f).sec = s.sec := rfl
@[simp] theorem updDevCtr_evr (s : State) (f : DevCtr → DevCtr) : (updDevCtr s f).evr = s.evr := rfl
@[simp] theorem updDevCtr_incidents (s : State) (f : DevCtr → DevCtr) : (updDevCtr s f).incidents = s.incidents := rfl
@[simp] theorem updDevCtr_boot (s : State) (f : DevCtr → DevCtr) : (updDevCtr s f).boot = s.boot := rfl
@[simp] theorem updDevCtr_fw (s : State) (f : DevCtr → DevCtr) : (updDevCtr s f).fw = s.fw := rfl
@[simp] theorem updDevCtr_aon (s : State) (f : DevCtr → DevCtr) : (updDevCtr s f).aon = s.aon := rfl
@[simp] theorem updDevCtr_nv (s : State) (f : DevCtr → DevCtr) : (updDevCtr s f).nv = s.nv := rfl

@[simp] theorem updHeadCtr_pending (s : State) (h : Hd) (f : HeadCtr → HeadCtr) : (updHeadCtr s h f).pending = s.pending := rfl
@[simp] theorem updHeadCtr_phase (s : State) (h : Hd) (f : HeadCtr → HeadCtr) : (updHeadCtr s h f).phase = s.phase := rfl
@[simp] theorem updHeadCtr_us (s : State) (h : Hd) (f : HeadCtr → HeadCtr) : (updHeadCtr s h f).us = s.us := rfl
@[simp] theorem updHeadCtr_freeCtr (s : State) (h : Hd) (f : HeadCtr → HeadCtr) : (updHeadCtr s h f).freeCtr = s.freeCtr := rfl
@[simp] theorem updHeadCtr_out (s : State) (h : Hd) (f : HeadCtr → HeadCtr) : (updHeadCtr s h f).out = s.out := rfl
@[simp] theorem updHeadCtr_ledger (s : State) (h : Hd) (f : HeadCtr → HeadCtr) : (updHeadCtr s h f).ledger = s.ledger := rfl
@[simp] theorem updHeadCtr_straps (s : State) (h : Hd) (f : HeadCtr → HeadCtr) : (updHeadCtr s h f).straps = s.straps := rfl
@[simp] theorem updHeadCtr_pins (s : State) (h : Hd) (f : HeadCtr → HeadCtr) : (updHeadCtr s h f).pins = s.pins := rfl
@[simp] theorem updHeadCtr_tap (s : State) (h : Hd) (f : HeadCtr → HeadCtr) : (updHeadCtr s h f).tap = s.tap := rfl
@[simp] theorem updHeadCtr_pmu (s : State) (h : Hd) (f : HeadCtr → HeadCtr) : (updHeadCtr s h f).pmu = s.pmu := rfl
@[simp] theorem updHeadCtr_surfaces (s : State) (h : Hd) (f : HeadCtr → HeadCtr) : (updHeadCtr s h f).surfaces = s.surfaces := rfl
@[simp] theorem updHeadCtr_heads (s : State) (h : Hd) (f : HeadCtr → HeadCtr) : (updHeadCtr s h f).heads = s.heads := rfl
@[simp] theorem updHeadCtr_streams (s : State) (h : Hd) (f : HeadCtr → HeadCtr) : (updHeadCtr s h f).streams = s.streams := rfl
@[simp] theorem updHeadCtr_guards (s : State) (h : Hd) (f : HeadCtr → HeadCtr) : (updHeadCtr s h f).guards = s.guards := rfl
@[simp] theorem updHeadCtr_acts (s : State) (h : Hd) (f : HeadCtr → HeadCtr) : (updHeadCtr s h f).acts = s.acts := rfl
@[simp] theorem updHeadCtr_strobe (s : State) (h : Hd) (f : HeadCtr → HeadCtr) : (updHeadCtr s h f).strobe = s.strobe := rfl
@[simp] theorem updHeadCtr_strobeDone (s : State) (h : Hd) (f : HeadCtr → HeadCtr) : (updHeadCtr s h f).strobeDone = s.strobeDone := rfl
@[simp] theorem updHeadCtr_hloops (s : State) (h : Hd) (f : HeadCtr → HeadCtr) : (updHeadCtr s h f).hloops = s.hloops := rfl
@[simp] theorem updHeadCtr_spn (s : State) (h : Hd) (f : HeadCtr → HeadCtr) : (updHeadCtr s h f).spn = s.spn := rfl
@[simp] theorem updHeadCtr_chn (s : State) (h : Hd) (f : HeadCtr → HeadCtr) : (updHeadCtr s h f).chn = s.chn := rfl
@[simp] theorem updHeadCtr_chz (s : State) (h : Hd) (f : HeadCtr → HeadCtr) : (updHeadCtr s h f).chz = s.chz := rfl
@[simp] theorem updHeadCtr_chnDev (s : State) (h : Hd) (f : HeadCtr → HeadCtr) : (updHeadCtr s h f).chnDev = s.chnDev := rfl
@[simp] theorem updHeadCtr_wps (s : State) (h : Hd) (f : HeadCtr → HeadCtr) : (updHeadCtr s h f).wps = s.wps := rfl
@[simp] theorem updHeadCtr_wheads (s : State) (h : Hd) (f : HeadCtr → HeadCtr) : (updHeadCtr s h f).wheads = s.wheads := rfl
@[simp] theorem updHeadCtr_wdev (s : State) (h : Hd) (f : HeadCtr → HeadCtr) : (updHeadCtr s h f).wdev = s.wdev := rfl
@[simp] theorem updHeadCtr_plks (s : State) (h : Hd) (f : HeadCtr → HeadCtr) : (updHeadCtr s h f).plks = s.plks := rfl
@[simp] theorem updHeadCtr_psl (s : State) (h : Hd) (f : HeadCtr → HeadCtr) : (updHeadCtr s h f).psl = s.psl := rfl
@[simp] theorem updHeadCtr_lnk (s : State) (h : Hd) (f : HeadCtr → HeadCtr) : (updHeadCtr s h f).lnk = s.lnk := rfl
@[simp] theorem updHeadCtr_cache (s : State) (h : Hd) (f : HeadCtr → HeadCtr) : (updHeadCtr s h f).cache = s.cache := rfl
@[simp] theorem updHeadCtr_staged (s : State) (h : Hd) (f : HeadCtr → HeadCtr) : (updHeadCtr s h f).staged = s.staged := rfl
@[simp] theorem updHeadCtr_tbl (s : State) (h : Hd) (f : HeadCtr → HeadCtr) : (updHeadCtr s h f).tbl = s.tbl := rfl
@[simp] theorem updHeadCtr_brt (s : State) (h : Hd) (f : HeadCtr → HeadCtr) : (updHeadCtr s h f).brt = s.brt := rfl
@[simp] theorem updHeadCtr_ckptPend (s : State) (h : Hd) (f : HeadCtr → HeadCtr) : (updHeadCtr s h f).ckptPend = s.ckptPend := rfl
@[simp] theorem updHeadCtr_brtPar (s : State) (h : Hd) (f : HeadCtr → HeadCtr) : (updHeadCtr s h f).brtPar = s.brtPar := rfl
@[simp] theorem updHeadCtr_headRecs (s : State) (h : Hd) (f : HeadCtr → HeadCtr) : (updHeadCtr s h f).headRecs = s.headRecs := rfl
@[simp] theorem updHeadCtr_actRecs (s : State) (h : Hd) (f : HeadCtr → HeadCtr) : (updHeadCtr s h f).actRecs = s.actRecs := rfl
@[simp] theorem updHeadCtr_rbld (s : State) (h : Hd) (f : HeadCtr → HeadCtr) : (updHeadCtr s h f).rbld = s.rbld := rfl
@[simp] theorem updHeadCtr_quay (s : State) (h : Hd) (f : HeadCtr → HeadCtr) : (updHeadCtr s h f).quay = s.quay := rfl
@[simp] theorem updHeadCtr_cmds (s : State) (h : Hd) (f : HeadCtr → HeadCtr) : (updHeadCtr s h f).cmds = s.cmds := rfl
@[simp] theorem updHeadCtr_dram (s : State) (h : Hd) (f : HeadCtr → HeadCtr) : (updHeadCtr s h f).dram = s.dram := rfl
@[simp] theorem updHeadCtr_seqs (s : State) (h : Hd) (f : HeadCtr → HeadCtr) : (updHeadCtr s h f).seqs = s.seqs := rfl
@[simp] theorem updHeadCtr_seqDev (s : State) (h : Hd) (f : HeadCtr → HeadCtr) : (updHeadCtr s h f).seqDev = s.seqDev := rfl
@[simp] theorem updHeadCtr_mbx (s : State) (h : Hd) (f : HeadCtr → HeadCtr) : (updHeadCtr s h f).mbx = s.mbx := rfl
@[simp] theorem updHeadCtr_mbxPtr (s : State) (h : Hd) (f : HeadCtr → HeadCtr) : (updHeadCtr s h f).mbxPtr = s.mbxPtr := rfl
@[simp] theorem updHeadCtr_bw (s : State) (h : Hd) (f : HeadCtr → HeadCtr) : (updHeadCtr s h f).bw = s.bw := rfl
@[simp] theorem updHeadCtr_sec (s : State) (h : Hd) (f : HeadCtr → HeadCtr) : (updHeadCtr s h f).sec = s.sec := rfl
@[simp] theorem updHeadCtr_evr (s : State) (h : Hd) (f : HeadCtr → HeadCtr) : (updHeadCtr s h f).evr = s.evr := rfl
@[simp] theorem updHeadCtr_incidents (s : State) (h : Hd) (f : HeadCtr → HeadCtr) : (updHeadCtr s h f).incidents = s.incidents := rfl
@[simp] theorem updHeadCtr_boot (s : State) (h : Hd) (f : HeadCtr → HeadCtr) : (updHeadCtr s h f).boot = s.boot := rfl
@[simp] theorem updHeadCtr_fw (s : State) (h : Hd) (f : HeadCtr → HeadCtr) : (updHeadCtr s h f).fw = s.fw := rfl
@[simp] theorem updHeadCtr_aon (s : State) (h : Hd) (f : HeadCtr → HeadCtr) : (updHeadCtr s h f).aon = s.aon := rfl
@[simp] theorem updHeadCtr_nv (s : State) (h : Hd) (f : HeadCtr → HeadCtr) : (updHeadCtr s h f).nv = s.nv := rfl

@[simp] theorem updActCtr_pending (s : State) (a : Act) (f : ActCtr → ActCtr) : (updActCtr s a f).pending = s.pending := rfl
@[simp] theorem updActCtr_phase (s : State) (a : Act) (f : ActCtr → ActCtr) : (updActCtr s a f).phase = s.phase := rfl
@[simp] theorem updActCtr_us (s : State) (a : Act) (f : ActCtr → ActCtr) : (updActCtr s a f).us = s.us := rfl
@[simp] theorem updActCtr_freeCtr (s : State) (a : Act) (f : ActCtr → ActCtr) : (updActCtr s a f).freeCtr = s.freeCtr := rfl
@[simp] theorem updActCtr_out (s : State) (a : Act) (f : ActCtr → ActCtr) : (updActCtr s a f).out = s.out := rfl
@[simp] theorem updActCtr_ledger (s : State) (a : Act) (f : ActCtr → ActCtr) : (updActCtr s a f).ledger = s.ledger := rfl
@[simp] theorem updActCtr_straps (s : State) (a : Act) (f : ActCtr → ActCtr) : (updActCtr s a f).straps = s.straps := rfl
@[simp] theorem updActCtr_pins (s : State) (a : Act) (f : ActCtr → ActCtr) : (updActCtr s a f).pins = s.pins := rfl
@[simp] theorem updActCtr_tap (s : State) (a : Act) (f : ActCtr → ActCtr) : (updActCtr s a f).tap = s.tap := rfl
@[simp] theorem updActCtr_pmu (s : State) (a : Act) (f : ActCtr → ActCtr) : (updActCtr s a f).pmu = s.pmu := rfl
@[simp] theorem updActCtr_surfaces (s : State) (a : Act) (f : ActCtr → ActCtr) : (updActCtr s a f).surfaces = s.surfaces := rfl
@[simp] theorem updActCtr_heads (s : State) (a : Act) (f : ActCtr → ActCtr) : (updActCtr s a f).heads = s.heads := rfl
@[simp] theorem updActCtr_streams (s : State) (a : Act) (f : ActCtr → ActCtr) : (updActCtr s a f).streams = s.streams := rfl
@[simp] theorem updActCtr_guards (s : State) (a : Act) (f : ActCtr → ActCtr) : (updActCtr s a f).guards = s.guards := rfl
@[simp] theorem updActCtr_acts (s : State) (a : Act) (f : ActCtr → ActCtr) : (updActCtr s a f).acts = s.acts := rfl
@[simp] theorem updActCtr_strobe (s : State) (a : Act) (f : ActCtr → ActCtr) : (updActCtr s a f).strobe = s.strobe := rfl
@[simp] theorem updActCtr_strobeDone (s : State) (a : Act) (f : ActCtr → ActCtr) : (updActCtr s a f).strobeDone = s.strobeDone := rfl
@[simp] theorem updActCtr_hloops (s : State) (a : Act) (f : ActCtr → ActCtr) : (updActCtr s a f).hloops = s.hloops := rfl
@[simp] theorem updActCtr_spn (s : State) (a : Act) (f : ActCtr → ActCtr) : (updActCtr s a f).spn = s.spn := rfl
@[simp] theorem updActCtr_chn (s : State) (a : Act) (f : ActCtr → ActCtr) : (updActCtr s a f).chn = s.chn := rfl
@[simp] theorem updActCtr_chz (s : State) (a : Act) (f : ActCtr → ActCtr) : (updActCtr s a f).chz = s.chz := rfl
@[simp] theorem updActCtr_chnDev (s : State) (a : Act) (f : ActCtr → ActCtr) : (updActCtr s a f).chnDev = s.chnDev := rfl
@[simp] theorem updActCtr_wps (s : State) (a : Act) (f : ActCtr → ActCtr) : (updActCtr s a f).wps = s.wps := rfl
@[simp] theorem updActCtr_wheads (s : State) (a : Act) (f : ActCtr → ActCtr) : (updActCtr s a f).wheads = s.wheads := rfl
@[simp] theorem updActCtr_wdev (s : State) (a : Act) (f : ActCtr → ActCtr) : (updActCtr s a f).wdev = s.wdev := rfl
@[simp] theorem updActCtr_plks (s : State) (a : Act) (f : ActCtr → ActCtr) : (updActCtr s a f).plks = s.plks := rfl
@[simp] theorem updActCtr_psl (s : State) (a : Act) (f : ActCtr → ActCtr) : (updActCtr s a f).psl = s.psl := rfl
@[simp] theorem updActCtr_lnk (s : State) (a : Act) (f : ActCtr → ActCtr) : (updActCtr s a f).lnk = s.lnk := rfl
@[simp] theorem updActCtr_cache (s : State) (a : Act) (f : ActCtr → ActCtr) : (updActCtr s a f).cache = s.cache := rfl
@[simp] theorem updActCtr_staged (s : State) (a : Act) (f : ActCtr → ActCtr) : (updActCtr s a f).staged = s.staged := rfl
@[simp] theorem updActCtr_tbl (s : State) (a : Act) (f : ActCtr → ActCtr) : (updActCtr s a f).tbl = s.tbl := rfl
@[simp] theorem updActCtr_brt (s : State) (a : Act) (f : ActCtr → ActCtr) : (updActCtr s a f).brt = s.brt := rfl
@[simp] theorem updActCtr_ckptPend (s : State) (a : Act) (f : ActCtr → ActCtr) : (updActCtr s a f).ckptPend = s.ckptPend := rfl
@[simp] theorem updActCtr_brtPar (s : State) (a : Act) (f : ActCtr → ActCtr) : (updActCtr s a f).brtPar = s.brtPar := rfl
@[simp] theorem updActCtr_headRecs (s : State) (a : Act) (f : ActCtr → ActCtr) : (updActCtr s a f).headRecs = s.headRecs := rfl
@[simp] theorem updActCtr_actRecs (s : State) (a : Act) (f : ActCtr → ActCtr) : (updActCtr s a f).actRecs = s.actRecs := rfl
@[simp] theorem updActCtr_rbld (s : State) (a : Act) (f : ActCtr → ActCtr) : (updActCtr s a f).rbld = s.rbld := rfl
@[simp] theorem updActCtr_quay (s : State) (a : Act) (f : ActCtr → ActCtr) : (updActCtr s a f).quay = s.quay := rfl
@[simp] theorem updActCtr_cmds (s : State) (a : Act) (f : ActCtr → ActCtr) : (updActCtr s a f).cmds = s.cmds := rfl
@[simp] theorem updActCtr_dram (s : State) (a : Act) (f : ActCtr → ActCtr) : (updActCtr s a f).dram = s.dram := rfl
@[simp] theorem updActCtr_seqs (s : State) (a : Act) (f : ActCtr → ActCtr) : (updActCtr s a f).seqs = s.seqs := rfl
@[simp] theorem updActCtr_seqDev (s : State) (a : Act) (f : ActCtr → ActCtr) : (updActCtr s a f).seqDev = s.seqDev := rfl
@[simp] theorem updActCtr_mbx (s : State) (a : Act) (f : ActCtr → ActCtr) : (updActCtr s a f).mbx = s.mbx := rfl
@[simp] theorem updActCtr_mbxPtr (s : State) (a : Act) (f : ActCtr → ActCtr) : (updActCtr s a f).mbxPtr = s.mbxPtr := rfl
@[simp] theorem updActCtr_bw (s : State) (a : Act) (f : ActCtr → ActCtr) : (updActCtr s a f).bw = s.bw := rfl
@[simp] theorem updActCtr_sec (s : State) (a : Act) (f : ActCtr → ActCtr) : (updActCtr s a f).sec = s.sec := rfl
@[simp] theorem updActCtr_evr (s : State) (a : Act) (f : ActCtr → ActCtr) : (updActCtr s a f).evr = s.evr := rfl
@[simp] theorem updActCtr_incidents (s : State) (a : Act) (f : ActCtr → ActCtr) : (updActCtr s a f).incidents = s.incidents := rfl
@[simp] theorem updActCtr_boot (s : State) (a : Act) (f : ActCtr → ActCtr) : (updActCtr s a f).boot = s.boot := rfl
@[simp] theorem updActCtr_fw (s : State) (a : Act) (f : ActCtr → ActCtr) : (updActCtr s a f).fw = s.fw := rfl
@[simp] theorem updActCtr_aon (s : State) (a : Act) (f : ActCtr → ActCtr) : (updActCtr s a f).aon = s.aon := rfl
@[simp] theorem updActCtr_nv (s : State) (a : Act) (f : ActCtr → ActCtr) : (updActCtr s a f).nv = s.nv := rfl

@[simp] theorem emit_pending (s : State) (x : Out) : (emit s x).pending = s.pending := rfl
@[simp] theorem emit_phase (s : State) (x : Out) : (emit s x).phase = s.phase := rfl
@[simp] theorem emit_us (s : State) (x : Out) : (emit s x).us = s.us := rfl
@[simp] theorem emit_freeCtr (s : State) (x : Out) : (emit s x).freeCtr = s.freeCtr := rfl
@[simp] theorem emit_out (s : State) (x : Out) : (emit s x).out = x :: s.out := rfl
@[simp] theorem emit_ledger (s : State) (x : Out) : (emit s x).ledger = s.ledger := rfl
@[simp] theorem emit_straps (s : State) (x : Out) : (emit s x).straps = s.straps := rfl
@[simp] theorem emit_pins (s : State) (x : Out) : (emit s x).pins = s.pins := rfl
@[simp] theorem emit_tap (s : State) (x : Out) : (emit s x).tap = s.tap := rfl
@[simp] theorem emit_pmu (s : State) (x : Out) : (emit s x).pmu = s.pmu := rfl
@[simp] theorem emit_surfaces (s : State) (x : Out) : (emit s x).surfaces = s.surfaces := rfl
@[simp] theorem emit_heads (s : State) (x : Out) : (emit s x).heads = s.heads := rfl
@[simp] theorem emit_streams (s : State) (x : Out) : (emit s x).streams = s.streams := rfl
@[simp] theorem emit_guards (s : State) (x : Out) : (emit s x).guards = s.guards := rfl
@[simp] theorem emit_acts (s : State) (x : Out) : (emit s x).acts = s.acts := rfl
@[simp] theorem emit_strobe (s : State) (x : Out) : (emit s x).strobe = s.strobe := rfl
@[simp] theorem emit_strobeDone (s : State) (x : Out) : (emit s x).strobeDone = s.strobeDone := rfl
@[simp] theorem emit_hloops (s : State) (x : Out) : (emit s x).hloops = s.hloops := rfl
@[simp] theorem emit_spn (s : State) (x : Out) : (emit s x).spn = s.spn := rfl
@[simp] theorem emit_chn (s : State) (x : Out) : (emit s x).chn = s.chn := rfl
@[simp] theorem emit_chz (s : State) (x : Out) : (emit s x).chz = s.chz := rfl
@[simp] theorem emit_chnDev (s : State) (x : Out) : (emit s x).chnDev = s.chnDev := rfl
@[simp] theorem emit_wps (s : State) (x : Out) : (emit s x).wps = s.wps := rfl
@[simp] theorem emit_wheads (s : State) (x : Out) : (emit s x).wheads = s.wheads := rfl
@[simp] theorem emit_wdev (s : State) (x : Out) : (emit s x).wdev = s.wdev := rfl
@[simp] theorem emit_plks (s : State) (x : Out) : (emit s x).plks = s.plks := rfl
@[simp] theorem emit_psl (s : State) (x : Out) : (emit s x).psl = s.psl := rfl
@[simp] theorem emit_lnk (s : State) (x : Out) : (emit s x).lnk = s.lnk := rfl
@[simp] theorem emit_cache (s : State) (x : Out) : (emit s x).cache = s.cache := rfl
@[simp] theorem emit_staged (s : State) (x : Out) : (emit s x).staged = s.staged := rfl
@[simp] theorem emit_tbl (s : State) (x : Out) : (emit s x).tbl = s.tbl := rfl
@[simp] theorem emit_brt (s : State) (x : Out) : (emit s x).brt = s.brt := rfl
@[simp] theorem emit_ckptPend (s : State) (x : Out) : (emit s x).ckptPend = s.ckptPend := rfl
@[simp] theorem emit_brtPar (s : State) (x : Out) : (emit s x).brtPar = s.brtPar := rfl
@[simp] theorem emit_headRecs (s : State) (x : Out) : (emit s x).headRecs = s.headRecs := rfl
@[simp] theorem emit_actRecs (s : State) (x : Out) : (emit s x).actRecs = s.actRecs := rfl
@[simp] theorem emit_rbld (s : State) (x : Out) : (emit s x).rbld = s.rbld := rfl
@[simp] theorem emit_quay (s : State) (x : Out) : (emit s x).quay = s.quay := rfl
@[simp] theorem emit_cmds (s : State) (x : Out) : (emit s x).cmds = s.cmds := rfl
@[simp] theorem emit_dram (s : State) (x : Out) : (emit s x).dram = s.dram := rfl
@[simp] theorem emit_seqs (s : State) (x : Out) : (emit s x).seqs = s.seqs := rfl
@[simp] theorem emit_seqDev (s : State) (x : Out) : (emit s x).seqDev = s.seqDev := rfl
@[simp] theorem emit_mbx (s : State) (x : Out) : (emit s x).mbx = s.mbx := rfl
@[simp] theorem emit_mbxPtr (s : State) (x : Out) : (emit s x).mbxPtr = s.mbxPtr := rfl
@[simp] theorem emit_bw (s : State) (x : Out) : (emit s x).bw = s.bw := rfl
@[simp] theorem emit_sec (s : State) (x : Out) : (emit s x).sec = s.sec := rfl
@[simp] theorem emit_evr (s : State) (x : Out) : (emit s x).evr = s.evr := rfl
@[simp] theorem emit_ctr (s : State) (x : Out) : (emit s x).ctr = s.ctr := rfl
@[simp] theorem emit_incidents (s : State) (x : Out) : (emit s x).incidents = s.incidents := rfl
@[simp] theorem emit_boot (s : State) (x : Out) : (emit s x).boot = s.boot := rfl
@[simp] theorem emit_fw (s : State) (x : Out) : (emit s x).fw = s.fw := rfl
@[simp] theorem emit_aon (s : State) (x : Out) : (emit s x).aon = s.aon := rfl
@[simp] theorem emit_nv (s : State) (x : Out) : (emit s x).nv = s.nv := rfl

end Sys2Proof.Machine
end

