-- ==== Sys2Proof/Laws/Events.lean ====
section
/-! SUPPORT. Events: what a notification, an event record and a fault report may change. -/

namespace Sys2Proof.Machine

/-- Doing something for each element keeps what each keeps. -/
theorem forEach_keeps {α β : Type} (g : State → β) (l : List α) (s : State) (f : State → α → State)
    (h : ∀ s x, g (f s x) = g s) : g (forEach l s f) = g s := by
  unfold forEach
  induction l generalizing s with
  | nil => rfl
  | cons x l ih => rw [List.foldl_cons, ih, h]

/-- Doing something for each element keeps a form that each keeps. -/
theorem forEach_shape {α : Type} (P : State → State → Prop) (hr : ∀ s, P s s)
    (ht : ∀ a b c, P a b → P b c → P a c) (l : List α) (s : State) (f : State → α → State)
    (h : ∀ s x, P s (f s x)) : P s (forEach l s f) := by
  unfold forEach
  induction l generalizing s with
  | nil => exact hr s
  | cons x l ih => rw [List.foldl_cons]; exact ht _ _ _ (h s x) (ih (f s x))

/-- `t` is `s` but for what was sent, the mailboxes and the balls. -/
def SentFrom (s t : State) : Prop := ∃ o m p, t = { s with out := o, mbx := m, pins := p }

/-- `t` is `s` but for what a record changes: the recorder, what was sent, the mailboxes and the balls. -/
def RecordedFrom (s t : State) : Prop := ∃ e o m p, t = { s with evr := e, out := o, mbx := m, pins := p }

/-- `t` is `s` but for what a report changes: a record's changes, the incidents and the counters. -/
def ReportedFrom (s t : State) : Prop :=
  ∃ e o m p i c, t = { s with evr := e, out := o, mbx := m, pins := p, incidents := i, ctr := c }

theorem SentFrom.trans {a b c : State} : SentFrom a b → SentFrom b c → SentFrom a c := by
  rintro ⟨_, _, _, rfl⟩ ⟨_, _, _, rfl⟩; exact ⟨_, _, _, rfl⟩

theorem SentFrom.recorded {a b : State} : SentFrom a b → RecordedFrom a b := by
  rintro ⟨_, _, _, rfl⟩; exact ⟨_, _, _, _, rfl⟩

theorem RecordedFrom.trans {a b c : State} : RecordedFrom a b → RecordedFrom b c → RecordedFrom a c := by
  rintro ⟨_, _, _, _, rfl⟩ ⟨_, _, _, _, rfl⟩; exact ⟨_, _, _, _, rfl⟩

theorem RecordedFrom.reported {a b : State} : RecordedFrom a b → ReportedFrom a b := by
  rintro ⟨_, _, _, _, rfl⟩; exact ⟨_, _, _, _, _, _, rfl⟩

theorem ReportedFrom.trans {a b c : State} : ReportedFrom a b → ReportedFrom b c → ReportedFrom a c := by
  rintro ⟨_, _, _, _, _, _, rfl⟩ ⟨_, _, _, _, _, _, rfl⟩; exact ⟨_, _, _, _, _, _, rfl⟩

theorem ReportedFrom.sent {a b c : State} (h : ReportedFrom a b) (k : SentFrom b c) : ReportedFrom a c :=
  h.trans k.recorded.reported

theorem pushNtf_sent (s : State) (mb : Mb) (n : Notif) : SentFrom s (pushNtf s mb n) := by
  unfold pushNtf
  dsimp only
  repeat' split
  all_goals exact ⟨_, _, _, rfl⟩

theorem notify_sent (s : State) (mb : Mb) (n : Notif) (always : Bool) : SentFrom s (notify s mb n always) := by
  unfold notify
  dsimp only
  repeat' split
  · exact ⟨_, _, _, rfl⟩
  · exact ⟨_, _, _, rfl⟩
  · exact SentFrom.trans ⟨_, _, _, rfl⟩ (pushNtf_sent _ _ _)

theorem notifyEvent_sent (s : State) (r : EvRec) : SentFrom s (notifyEvent s r) := by
  refine forEach_shape SentFrom (fun s => ⟨_, _, _, rfl⟩) (fun _ _ _ => SentFrom.trans) _ _ _ fun s mb => ?_
  split
  · exact notify_sent _ _ _ _
  · exact ⟨_, _, _, rfl⟩

theorem raise_recorded (s : State) (ev : Ev) (sev unit inst p0 p1 p2 : Nat) :
    RecordedFrom s (raise s ev sev unit inst p0 p1 p2) := by
  unfold raise number
  dsimp only
  repeat' split
  · exact ⟨_, _, _, _, rfl⟩
  · exact RecordedFrom.trans ⟨_, _, _, _, rfl⟩ (notifyEvent_sent _ _).recorded
  · exact ⟨_, _, _, _, rfl⟩

theorem closeIncident_reported (s : State) (i : Fin 256) : ReportedFrom s (closeIncident s i) := by
  unfold closeIncident
  dsimp only
  split
  · refine ReportedFrom.sent (b := { s with incidents := vupd s.incidents i fun x => { x with state := 2 } })
      ⟨_, _, _, _, _, _, rfl⟩ ?_
    refine forEach_shape SentFrom (fun s => ⟨_, _, _, rfl⟩) (fun _ _ _ => SentFrom.trans) _ _ _ fun s mb => ?_
    split
    · exact notify_sent _ _ _ _
    · exact ⟨_, _, _, rfl⟩
  · exact ⟨_, _, _, _, _, _, rfl⟩

theorem evictIncident_reported (s : State) (i : Fin 256) : ReportedFrom s (evictIncident s i) := by
  unfold evictIncident
  dsimp only
  split
  · exact (closeIncident_reported _ _).trans (raise_recorded _ _ _ _ _ _ _ _).reported
  · exact ⟨_, _, _, _, _, _, rfl⟩

theorem openNew_reported (s : State) (key : Nat × Nat) (ev : Ev) (sev unit inst p0 p1 p2 action : Nat) :
    ReportedFrom s (openNew s key ev sev unit inst p0 p1 p2 action) := by
  unfold openNew
  dsimp only
  obtain ⟨_, _, _, _, _, _, h1⟩ := evictIncident_reported
    (updDevCtr s fun d => { d with incidents := ctrAdd s.ctr.dev.incidents 1 })
    ⟨ctrAdd s.ctr.dev.incidents 1 % 256, by omega⟩
  obtain ⟨_, _, _, _, h2⟩ := raise_recorded (evictIncident
    (updDevCtr s fun d => { d with incidents := ctrAdd s.ctr.dev.incidents 1 })
    ⟨ctrAdd s.ctr.dev.incidents 1 % 256, by omega⟩) ev sev unit inst p0 p1 p2
  rw [h2, h1]
  exact ⟨_, _, _, _, _, _, rfl⟩

theorem report_reported (s : State) (key : Nat × Nat) (ev : Ev) (sev unit inst p0 p1 p2 action : Nat) :
    ReportedFrom s (report s key ev sev unit inst p0 p1 p2 action) := by
  unfold report
  split
  · exact ⟨_, _, _, _, _, _, rfl⟩
  · exact openNew_reported _ _ _ _ _ _ _ _ _ _

@[simp] theorem notify_pending (s : State) (mb : Mb) (n : Notif) (w : Bool) : (notify s mb n w).pending = s.pending := by
  obtain ⟨_, _, _, h⟩ := notify_sent s mb n w; rw [h]
@[simp] theorem notify_phase (s : State) (mb : Mb) (n : Notif) (w : Bool) : (notify s mb n w).phase = s.phase := by
  obtain ⟨_, _, _, h⟩ := notify_sent s mb n w; rw [h]
@[simp] theorem notify_us (s : State) (mb : Mb) (n : Notif) (w : Bool) : (notify s mb n w).us = s.us := by
  obtain ⟨_, _, _, h⟩ := notify_sent s mb n w; rw [h]
@[simp] theorem notify_freeCtr (s : State) (mb : Mb) (n : Notif) (w : Bool) : (notify s mb n w).freeCtr = s.freeCtr := by
  obtain ⟨_, _, _, h⟩ := notify_sent s mb n w; rw [h]
@[simp] theorem notify_ledger (s : State) (mb : Mb) (n : Notif) (w : Bool) : (notify s mb n w).ledger = s.ledger := by
  obtain ⟨_, _, _, h⟩ := notify_sent s mb n w; rw [h]
@[simp] theorem notify_straps (s : State) (mb : Mb) (n : Notif) (w : Bool) : (notify s mb n w).straps = s.straps := by
  obtain ⟨_, _, _, h⟩ := notify_sent s mb n w; rw [h]
@[simp] theorem notify_tap (s : State) (mb : Mb) (n : Notif) (w : Bool) : (notify s mb n w).tap = s.tap := by
  obtain ⟨_, _, _, h⟩ := notify_sent s mb n w; rw [h]
@[simp] theorem notify_pmu (s : State) (mb : Mb) (n : Notif) (w : Bool) : (notify s mb n w).pmu = s.pmu := by
  obtain ⟨_, _, _, h⟩ := notify_sent s mb n w; rw [h]
@[simp] theorem notify_surfaces (s : State) (mb : Mb) (n : Notif) (w : Bool) : (notify s mb n w).surfaces = s.surfaces := by
  obtain ⟨_, _, _, h⟩ := notify_sent s mb n w; rw [h]
@[simp] theorem notify_heads (s : State) (mb : Mb) (n : Notif) (w : Bool) : (notify s mb n w).heads = s.heads := by
  obtain ⟨_, _, _, h⟩ := notify_sent s mb n w; rw [h]
@[simp] theorem notify_streams (s : State) (mb : Mb) (n : Notif) (w : Bool) : (notify s mb n w).streams = s.streams := by
  obtain ⟨_, _, _, h⟩ := notify_sent s mb n w; rw [h]
@[simp] theorem notify_guards (s : State) (mb : Mb) (n : Notif) (w : Bool) : (notify s mb n w).guards = s.guards := by
  obtain ⟨_, _, _, h⟩ := notify_sent s mb n w; rw [h]
@[simp] theorem notify_acts (s : State) (mb : Mb) (n : Notif) (w : Bool) : (notify s mb n w).acts = s.acts := by
  obtain ⟨_, _, _, h⟩ := notify_sent s mb n w; rw [h]
@[simp] theorem notify_strobe (s : State) (mb : Mb) (n : Notif) (w : Bool) : (notify s mb n w).strobe = s.strobe := by
  obtain ⟨_, _, _, h⟩ := notify_sent s mb n w; rw [h]
@[simp] theorem notify_strobeDone (s : State) (mb : Mb) (n : Notif) (w : Bool) : (notify s mb n w).strobeDone = s.strobeDone := by
  obtain ⟨_, _, _, h⟩ := notify_sent s mb n w; rw [h]
@[simp] theorem notify_hloops (s : State) (mb : Mb) (n : Notif) (w : Bool) : (notify s mb n w).hloops = s.hloops := by
  obtain ⟨_, _, _, h⟩ := notify_sent s mb n w; rw [h]
@[simp] theorem notify_spn (s : State) (mb : Mb) (n : Notif) (w : Bool) : (notify s mb n w).spn = s.spn := by
  obtain ⟨_, _, _, h⟩ := notify_sent s mb n w; rw [h]
@[simp] theorem notify_chn (s : State) (mb : Mb) (n : Notif) (w : Bool) : (notify s mb n w).chn = s.chn := by
  obtain ⟨_, _, _, h⟩ := notify_sent s mb n w; rw [h]
@[simp] theorem notify_chz (s : State) (mb : Mb) (n : Notif) (w : Bool) : (notify s mb n w).chz = s.chz := by
  obtain ⟨_, _, _, h⟩ := notify_sent s mb n w; rw [h]
@[simp] theorem notify_chnDev (s : State) (mb : Mb) (n : Notif) (w : Bool) : (notify s mb n w).chnDev = s.chnDev := by
  obtain ⟨_, _, _, h⟩ := notify_sent s mb n w; rw [h]
@[simp] theorem notify_wps (s : State) (mb : Mb) (n : Notif) (w : Bool) : (notify s mb n w).wps = s.wps := by
  obtain ⟨_, _, _, h⟩ := notify_sent s mb n w; rw [h]
@[simp] theorem notify_wheads (s : State) (mb : Mb) (n : Notif) (w : Bool) : (notify s mb n w).wheads = s.wheads := by
  obtain ⟨_, _, _, h⟩ := notify_sent s mb n w; rw [h]
@[simp] theorem notify_wdev (s : State) (mb : Mb) (n : Notif) (w : Bool) : (notify s mb n w).wdev = s.wdev := by
  obtain ⟨_, _, _, h⟩ := notify_sent s mb n w; rw [h]
@[simp] theorem notify_plks (s : State) (mb : Mb) (n : Notif) (w : Bool) : (notify s mb n w).plks = s.plks := by
  obtain ⟨_, _, _, h⟩ := notify_sent s mb n w; rw [h]
@[simp] theorem notify_psl (s : State) (mb : Mb) (n : Notif) (w : Bool) : (notify s mb n w).psl = s.psl := by
  obtain ⟨_, _, _, h⟩ := notify_sent s mb n w; rw [h]
@[simp] theorem notify_lnk (s : State) (mb : Mb) (n : Notif) (w : Bool) : (notify s mb n w).lnk = s.lnk := by
  obtain ⟨_, _, _, h⟩ := notify_sent s mb n w; rw [h]
@[simp] theorem notify_cache (s : State) (mb : Mb) (n : Notif) (w : Bool) : (notify s mb n w).cache = s.cache := by
  obtain ⟨_, _, _, h⟩ := notify_sent s mb n w; rw [h]
@[simp] theorem notify_staged (s : State) (mb : Mb) (n : Notif) (w : Bool) : (notify s mb n w).staged = s.staged := by
  obtain ⟨_, _, _, h⟩ := notify_sent s mb n w; rw [h]
@[simp] theorem notify_tbl (s : State) (mb : Mb) (n : Notif) (w : Bool) : (notify s mb n w).tbl = s.tbl := by
  obtain ⟨_, _, _, h⟩ := notify_sent s mb n w; rw [h]
@[simp] theorem notify_brt (s : State) (mb : Mb) (n : Notif) (w : Bool) : (notify s mb n w).brt = s.brt := by
  obtain ⟨_, _, _, h⟩ := notify_sent s mb n w; rw [h]
@[simp] theorem notify_ckptPend (s : State) (mb : Mb) (n : Notif) (w : Bool) : (notify s mb n w).ckptPend = s.ckptPend := by
  obtain ⟨_, _, _, h⟩ := notify_sent s mb n w; rw [h]
@[simp] theorem notify_brtPar (s : State) (mb : Mb) (n : Notif) (w : Bool) : (notify s mb n w).brtPar = s.brtPar := by
  obtain ⟨_, _, _, h⟩ := notify_sent s mb n w; rw [h]
@[simp] theorem notify_headRecs (s : State) (mb : Mb) (n : Notif) (w : Bool) : (notify s mb n w).headRecs = s.headRecs := by
  obtain ⟨_, _, _, h⟩ := notify_sent s mb n w; rw [h]
@[simp] theorem notify_actRecs (s : State) (mb : Mb) (n : Notif) (w : Bool) : (notify s mb n w).actRecs = s.actRecs := by
  obtain ⟨_, _, _, h⟩ := notify_sent s mb n w; rw [h]
@[simp] theorem notify_rbld (s : State) (mb : Mb) (n : Notif) (w : Bool) : (notify s mb n w).rbld = s.rbld := by
  obtain ⟨_, _, _, h⟩ := notify_sent s mb n w; rw [h]
@[simp] theorem notify_quay (s : State) (mb : Mb) (n : Notif) (w : Bool) : (notify s mb n w).quay = s.quay := by
  obtain ⟨_, _, _, h⟩ := notify_sent s mb n w; rw [h]
@[simp] theorem notify_cmds (s : State) (mb : Mb) (n : Notif) (w : Bool) : (notify s mb n w).cmds = s.cmds := by
  obtain ⟨_, _, _, h⟩ := notify_sent s mb n w; rw [h]
@[simp] theorem notify_dram (s : State) (mb : Mb) (n : Notif) (w : Bool) : (notify s mb n w).dram = s.dram := by
  obtain ⟨_, _, _, h⟩ := notify_sent s mb n w; rw [h]
@[simp] theorem notify_seqs (s : State) (mb : Mb) (n : Notif) (w : Bool) : (notify s mb n w).seqs = s.seqs := by
  obtain ⟨_, _, _, h⟩ := notify_sent s mb n w; rw [h]
@[simp] theorem notify_seqDev (s : State) (mb : Mb) (n : Notif) (w : Bool) : (notify s mb n w).seqDev = s.seqDev := by
  obtain ⟨_, _, _, h⟩ := notify_sent s mb n w; rw [h]
@[simp] theorem notify_mbxPtr (s : State) (mb : Mb) (n : Notif) (w : Bool) : (notify s mb n w).mbxPtr = s.mbxPtr := by
  obtain ⟨_, _, _, h⟩ := notify_sent s mb n w; rw [h]
@[simp] theorem notify_bw (s : State) (mb : Mb) (n : Notif) (w : Bool) : (notify s mb n w).bw = s.bw := by
  obtain ⟨_, _, _, h⟩ := notify_sent s mb n w; rw [h]
@[simp] theorem notify_sec (s : State) (mb : Mb) (n : Notif) (w : Bool) : (notify s mb n w).sec = s.sec := by
  obtain ⟨_, _, _, h⟩ := notify_sent s mb n w; rw [h]
@[simp] theorem notify_evr (s : State) (mb : Mb) (n : Notif) (w : Bool) : (notify s mb n w).evr = s.evr := by
  obtain ⟨_, _, _, h⟩ := notify_sent s mb n w; rw [h]
@[simp] theorem notify_ctr (s : State) (mb : Mb) (n : Notif) (w : Bool) : (notify s mb n w).ctr = s.ctr := by
  obtain ⟨_, _, _, h⟩ := notify_sent s mb n w; rw [h]
@[simp] theorem notify_incidents (s : State) (mb : Mb) (n : Notif) (w : Bool) : (notify s mb n w).incidents = s.incidents := by
  obtain ⟨_, _, _, h⟩ := notify_sent s mb n w; rw [h]
@[simp] theorem notify_boot (s : State) (mb : Mb) (n : Notif) (w : Bool) : (notify s mb n w).boot = s.boot := by
  obtain ⟨_, _, _, h⟩ := notify_sent s mb n w; rw [h]
@[simp] theorem notify_fw (s : State) (mb : Mb) (n : Notif) (w : Bool) : (notify s mb n w).fw = s.fw := by
  obtain ⟨_, _, _, h⟩ := notify_sent s mb n w; rw [h]
@[simp] theorem notify_aon (s : State) (mb : Mb) (n : Notif) (w : Bool) : (notify s mb n w).aon = s.aon := by
  obtain ⟨_, _, _, h⟩ := notify_sent s mb n w; rw [h]
@[simp] theorem notify_nv (s : State) (mb : Mb) (n : Notif) (w : Bool) : (notify s mb n w).nv = s.nv := by
  obtain ⟨_, _, _, h⟩ := notify_sent s mb n w; rw [h]
@[simp] theorem raise_pending (s : State) (v : Ev) (a b c d e g : Nat) : (raise s v a b c d e g).pending = s.pending := by
  obtain ⟨_, _, _, _, h⟩ := raise_recorded s v a b c d e g; rw [h]
@[simp] theorem raise_phase (s : State) (v : Ev) (a b c d e g : Nat) : (raise s v a b c d e g).phase = s.phase := by
  obtain ⟨_, _, _, _, h⟩ := raise_recorded s v a b c d e g; rw [h]
@[simp] theorem raise_us (s : State) (v : Ev) (a b c d e g : Nat) : (raise s v a b c d e g).us = s.us := by
  obtain ⟨_, _, _, _, h⟩ := raise_recorded s v a b c d e g; rw [h]
@[simp] theorem raise_freeCtr (s : State) (v : Ev) (a b c d e g : Nat) : (raise s v a b c d e g).freeCtr = s.freeCtr := by
  obtain ⟨_, _, _, _, h⟩ := raise_recorded s v a b c d e g; rw [h]
@[simp] theorem raise_ledger (s : State) (v : Ev) (a b c d e g : Nat) : (raise s v a b c d e g).ledger = s.ledger := by
  obtain ⟨_, _, _, _, h⟩ := raise_recorded s v a b c d e g; rw [h]
@[simp] theorem raise_straps (s : State) (v : Ev) (a b c d e g : Nat) : (raise s v a b c d e g).straps = s.straps := by
  obtain ⟨_, _, _, _, h⟩ := raise_recorded s v a b c d e g; rw [h]
@[simp] theorem raise_tap (s : State) (v : Ev) (a b c d e g : Nat) : (raise s v a b c d e g).tap = s.tap := by
  obtain ⟨_, _, _, _, h⟩ := raise_recorded s v a b c d e g; rw [h]
@[simp] theorem raise_pmu (s : State) (v : Ev) (a b c d e g : Nat) : (raise s v a b c d e g).pmu = s.pmu := by
  obtain ⟨_, _, _, _, h⟩ := raise_recorded s v a b c d e g; rw [h]
@[simp] theorem raise_surfaces (s : State) (v : Ev) (a b c d e g : Nat) : (raise s v a b c d e g).surfaces = s.surfaces := by
  obtain ⟨_, _, _, _, h⟩ := raise_recorded s v a b c d e g; rw [h]
@[simp] theorem raise_heads (s : State) (v : Ev) (a b c d e g : Nat) : (raise s v a b c d e g).heads = s.heads := by
  obtain ⟨_, _, _, _, h⟩ := raise_recorded s v a b c d e g; rw [h]
@[simp] theorem raise_streams (s : State) (v : Ev) (a b c d e g : Nat) : (raise s v a b c d e g).streams = s.streams := by
  obtain ⟨_, _, _, _, h⟩ := raise_recorded s v a b c d e g; rw [h]
@[simp] theorem raise_guards (s : State) (v : Ev) (a b c d e g : Nat) : (raise s v a b c d e g).guards = s.guards := by
  obtain ⟨_, _, _, _, h⟩ := raise_recorded s v a b c d e g; rw [h]
@[simp] theorem raise_acts (s : State) (v : Ev) (a b c d e g : Nat) : (raise s v a b c d e g).acts = s.acts := by
  obtain ⟨_, _, _, _, h⟩ := raise_recorded s v a b c d e g; rw [h]
@[simp] theorem raise_strobe (s : State) (v : Ev) (a b c d e g : Nat) : (raise s v a b c d e g).strobe = s.strobe := by
  obtain ⟨_, _, _, _, h⟩ := raise_recorded s v a b c d e g; rw [h]
@[simp] theorem raise_strobeDone (s : State) (v : Ev) (a b c d e g : Nat) : (raise s v a b c d e g).strobeDone = s.strobeDone := by
  obtain ⟨_, _, _, _, h⟩ := raise_recorded s v a b c d e g; rw [h]
@[simp] theorem raise_hloops (s : State) (v : Ev) (a b c d e g : Nat) : (raise s v a b c d e g).hloops = s.hloops := by
  obtain ⟨_, _, _, _, h⟩ := raise_recorded s v a b c d e g; rw [h]
@[simp] theorem raise_spn (s : State) (v : Ev) (a b c d e g : Nat) : (raise s v a b c d e g).spn = s.spn := by
  obtain ⟨_, _, _, _, h⟩ := raise_recorded s v a b c d e g; rw [h]
@[simp] theorem raise_chn (s : State) (v : Ev) (a b c d e g : Nat) : (raise s v a b c d e g).chn = s.chn := by
  obtain ⟨_, _, _, _, h⟩ := raise_recorded s v a b c d e g; rw [h]
@[simp] theorem raise_chz (s : State) (v : Ev) (a b c d e g : Nat) : (raise s v a b c d e g).chz = s.chz := by
  obtain ⟨_, _, _, _, h⟩ := raise_recorded s v a b c d e g; rw [h]
@[simp] theorem raise_chnDev (s : State) (v : Ev) (a b c d e g : Nat) : (raise s v a b c d e g).chnDev = s.chnDev := by
  obtain ⟨_, _, _, _, h⟩ := raise_recorded s v a b c d e g; rw [h]
@[simp] theorem raise_wps (s : State) (v : Ev) (a b c d e g : Nat) : (raise s v a b c d e g).wps = s.wps := by
  obtain ⟨_, _, _, _, h⟩ := raise_recorded s v a b c d e g; rw [h]
@[simp] theorem raise_wheads (s : State) (v : Ev) (a b c d e g : Nat) : (raise s v a b c d e g).wheads = s.wheads := by
  obtain ⟨_, _, _, _, h⟩ := raise_recorded s v a b c d e g; rw [h]
@[simp] theorem raise_wdev (s : State) (v : Ev) (a b c d e g : Nat) : (raise s v a b c d e g).wdev = s.wdev := by
  obtain ⟨_, _, _, _, h⟩ := raise_recorded s v a b c d e g; rw [h]
@[simp] theorem raise_plks (s : State) (v : Ev) (a b c d e g : Nat) : (raise s v a b c d e g).plks = s.plks := by
  obtain ⟨_, _, _, _, h⟩ := raise_recorded s v a b c d e g; rw [h]
@[simp] theorem raise_psl (s : State) (v : Ev) (a b c d e g : Nat) : (raise s v a b c d e g).psl = s.psl := by
  obtain ⟨_, _, _, _, h⟩ := raise_recorded s v a b c d e g; rw [h]
@[simp] theorem raise_lnk (s : State) (v : Ev) (a b c d e g : Nat) : (raise s v a b c d e g).lnk = s.lnk := by
  obtain ⟨_, _, _, _, h⟩ := raise_recorded s v a b c d e g; rw [h]
@[simp] theorem raise_cache (s : State) (v : Ev) (a b c d e g : Nat) : (raise s v a b c d e g).cache = s.cache := by
  obtain ⟨_, _, _, _, h⟩ := raise_recorded s v a b c d e g; rw [h]
@[simp] theorem raise_staged (s : State) (v : Ev) (a b c d e g : Nat) : (raise s v a b c d e g).staged = s.staged := by
  obtain ⟨_, _, _, _, h⟩ := raise_recorded s v a b c d e g; rw [h]
@[simp] theorem raise_tbl (s : State) (v : Ev) (a b c d e g : Nat) : (raise s v a b c d e g).tbl = s.tbl := by
  obtain ⟨_, _, _, _, h⟩ := raise_recorded s v a b c d e g; rw [h]
@[simp] theorem raise_brt (s : State) (v : Ev) (a b c d e g : Nat) : (raise s v a b c d e g).brt = s.brt := by
  obtain ⟨_, _, _, _, h⟩ := raise_recorded s v a b c d e g; rw [h]
@[simp] theorem raise_ckptPend (s : State) (v : Ev) (a b c d e g : Nat) : (raise s v a b c d e g).ckptPend = s.ckptPend := by
  obtain ⟨_, _, _, _, h⟩ := raise_recorded s v a b c d e g; rw [h]
@[simp] theorem raise_brtPar (s : State) (v : Ev) (a b c d e g : Nat) : (raise s v a b c d e g).brtPar = s.brtPar := by
  obtain ⟨_, _, _, _, h⟩ := raise_recorded s v a b c d e g; rw [h]
@[simp] theorem raise_headRecs (s : State) (v : Ev) (a b c d e g : Nat) : (raise s v a b c d e g).headRecs = s.headRecs := by
  obtain ⟨_, _, _, _, h⟩ := raise_recorded s v a b c d e g; rw [h]
@[simp] theorem raise_actRecs (s : State) (v : Ev) (a b c d e g : Nat) : (raise s v a b c d e g).actRecs = s.actRecs := by
  obtain ⟨_, _, _, _, h⟩ := raise_recorded s v a b c d e g; rw [h]
@[simp] theorem raise_rbld (s : State) (v : Ev) (a b c d e g : Nat) : (raise s v a b c d e g).rbld = s.rbld := by
  obtain ⟨_, _, _, _, h⟩ := raise_recorded s v a b c d e g; rw [h]
@[simp] theorem raise_quay (s : State) (v : Ev) (a b c d e g : Nat) : (raise s v a b c d e g).quay = s.quay := by
  obtain ⟨_, _, _, _, h⟩ := raise_recorded s v a b c d e g; rw [h]
@[simp] theorem raise_cmds (s : State) (v : Ev) (a b c d e g : Nat) : (raise s v a b c d e g).cmds = s.cmds := by
  obtain ⟨_, _, _, _, h⟩ := raise_recorded s v a b c d e g; rw [h]
@[simp] theorem raise_dram (s : State) (v : Ev) (a b c d e g : Nat) : (raise s v a b c d e g).dram = s.dram := by
  obtain ⟨_, _, _, _, h⟩ := raise_recorded s v a b c d e g; rw [h]
@[simp] theorem raise_seqs (s : State) (v : Ev) (a b c d e g : Nat) : (raise s v a b c d e g).seqs = s.seqs := by
  obtain ⟨_, _, _, _, h⟩ := raise_recorded s v a b c d e g; rw [h]
@[simp] theorem raise_seqDev (s : State) (v : Ev) (a b c d e g : Nat) : (raise s v a b c d e g).seqDev = s.seqDev := by
  obtain ⟨_, _, _, _, h⟩ := raise_recorded s v a b c d e g; rw [h]
@[simp] theorem raise_mbxPtr (s : State) (v : Ev) (a b c d e g : Nat) : (raise s v a b c d e g).mbxPtr = s.mbxPtr := by
  obtain ⟨_, _, _, _, h⟩ := raise_recorded s v a b c d e g; rw [h]
@[simp] theorem raise_bw (s : State) (v : Ev) (a b c d e g : Nat) : (raise s v a b c d e g).bw = s.bw := by
  obtain ⟨_, _, _, _, h⟩ := raise_recorded s v a b c d e g; rw [h]
@[simp] theorem raise_sec (s : State) (v : Ev) (a b c d e g : Nat) : (raise s v a b c d e g).sec = s.sec := by
  obtain ⟨_, _, _, _, h⟩ := raise_recorded s v a b c d e g; rw [h]
@[simp] theorem raise_ctr (s : State) (v : Ev) (a b c d e g : Nat) : (raise s v a b c d e g).ctr = s.ctr := by
  obtain ⟨_, _, _, _, h⟩ := raise_recorded s v a b c d e g; rw [h]
@[simp] theorem raise_incidents (s : State) (v : Ev) (a b c d e g : Nat) : (raise s v a b c d e g).incidents = s.incidents := by
  obtain ⟨_, _, _, _, h⟩ := raise_recorded s v a b c d e g; rw [h]
@[simp] theorem raise_boot (s : State) (v : Ev) (a b c d e g : Nat) : (raise s v a b c d e g).boot = s.boot := by
  obtain ⟨_, _, _, _, h⟩ := raise_recorded s v a b c d e g; rw [h]
@[simp] theorem raise_fw (s : State) (v : Ev) (a b c d e g : Nat) : (raise s v a b c d e g).fw = s.fw := by
  obtain ⟨_, _, _, _, h⟩ := raise_recorded s v a b c d e g; rw [h]
@[simp] theorem raise_aon (s : State) (v : Ev) (a b c d e g : Nat) : (raise s v a b c d e g).aon = s.aon := by
  obtain ⟨_, _, _, _, h⟩ := raise_recorded s v a b c d e g; rw [h]
@[simp] theorem raise_nv (s : State) (v : Ev) (a b c d e g : Nat) : (raise s v a b c d e g).nv = s.nv := by
  obtain ⟨_, _, _, _, h⟩ := raise_recorded s v a b c d e g; rw [h]
@[simp] theorem report_pending (s : State) (k : Nat × Nat) (v : Ev) (a b c d e g i : Nat) :
    (report s k v a b c d e g i).pending = s.pending := by
  obtain ⟨_, _, _, _, _, _, h⟩ := report_reported s k v a b c d e g i; rw [h]
@[simp] theorem report_phase (s : State) (k : Nat × Nat) (v : Ev) (a b c d e g i : Nat) :
    (report s k v a b c d e g i).phase = s.phase := by
  obtain ⟨_, _, _, _, _, _, h⟩ := report_reported s k v a b c d e g i; rw [h]
@[simp] theorem report_us (s : State) (k : Nat × Nat) (v : Ev) (a b c d e g i : Nat) :
    (report s k v a b c d e g i).us = s.us := by
  obtain ⟨_, _, _, _, _, _, h⟩ := report_reported s k v a b c d e g i; rw [h]
@[simp] theorem report_freeCtr (s : State) (k : Nat × Nat) (v : Ev) (a b c d e g i : Nat) :
    (report s k v a b c d e g i).freeCtr = s.freeCtr := by
  obtain ⟨_, _, _, _, _, _, h⟩ := report_reported s k v a b c d e g i; rw [h]
@[simp] theorem report_ledger (s : State) (k : Nat × Nat) (v : Ev) (a b c d e g i : Nat) :
    (report s k v a b c d e g i).ledger = s.ledger := by
  obtain ⟨_, _, _, _, _, _, h⟩ := report_reported s k v a b c d e g i; rw [h]
@[simp] theorem report_straps (s : State) (k : Nat × Nat) (v : Ev) (a b c d e g i : Nat) :
    (report s k v a b c d e g i).straps = s.straps := by
  obtain ⟨_, _, _, _, _, _, h⟩ := report_reported s k v a b c d e g i; rw [h]
@[simp] theorem report_tap (s : State) (k : Nat × Nat) (v : Ev) (a b c d e g i : Nat) :
    (report s k v a b c d e g i).tap = s.tap := by
  obtain ⟨_, _, _, _, _, _, h⟩ := report_reported s k v a b c d e g i; rw [h]
@[simp] theorem report_pmu (s : State) (k : Nat × Nat) (v : Ev) (a b c d e g i : Nat) :
    (report s k v a b c d e g i).pmu = s.pmu := by
  obtain ⟨_, _, _, _, _, _, h⟩ := report_reported s k v a b c d e g i; rw [h]
@[simp] theorem report_surfaces (s : State) (k : Nat × Nat) (v : Ev) (a b c d e g i : Nat) :
    (report s k v a b c d e g i).surfaces = s.surfaces := by
  obtain ⟨_, _, _, _, _, _, h⟩ := report_reported s k v a b c d e g i; rw [h]
@[simp] theorem report_heads (s : State) (k : Nat × Nat) (v : Ev) (a b c d e g i : Nat) :
    (report s k v a b c d e g i).heads = s.heads := by
  obtain ⟨_, _, _, _, _, _, h⟩ := report_reported s k v a b c d e g i; rw [h]
@[simp] theorem report_streams (s : State) (k : Nat × Nat) (v : Ev) (a b c d e g i : Nat) :
    (report s k v a b c d e g i).streams = s.streams := by
  obtain ⟨_, _, _, _, _, _, h⟩ := report_reported s k v a b c d e g i; rw [h]
@[simp] theorem report_guards (s : State) (k : Nat × Nat) (v : Ev) (a b c d e g i : Nat) :
    (report s k v a b c d e g i).guards = s.guards := by
  obtain ⟨_, _, _, _, _, _, h⟩ := report_reported s k v a b c d e g i; rw [h]
@[simp] theorem report_acts (s : State) (k : Nat × Nat) (v : Ev) (a b c d e g i : Nat) :
    (report s k v a b c d e g i).acts = s.acts := by
  obtain ⟨_, _, _, _, _, _, h⟩ := report_reported s k v a b c d e g i; rw [h]
@[simp] theorem report_strobe (s : State) (k : Nat × Nat) (v : Ev) (a b c d e g i : Nat) :
    (report s k v a b c d e g i).strobe = s.strobe := by
  obtain ⟨_, _, _, _, _, _, h⟩ := report_reported s k v a b c d e g i; rw [h]
@[simp] theorem report_strobeDone (s : State) (k : Nat × Nat) (v : Ev) (a b c d e g i : Nat) :
    (report s k v a b c d e g i).strobeDone = s.strobeDone := by
  obtain ⟨_, _, _, _, _, _, h⟩ := report_reported s k v a b c d e g i; rw [h]
@[simp] theorem report_hloops (s : State) (k : Nat × Nat) (v : Ev) (a b c d e g i : Nat) :
    (report s k v a b c d e g i).hloops = s.hloops := by
  obtain ⟨_, _, _, _, _, _, h⟩ := report_reported s k v a b c d e g i; rw [h]
@[simp] theorem report_spn (s : State) (k : Nat × Nat) (v : Ev) (a b c d e g i : Nat) :
    (report s k v a b c d e g i).spn = s.spn := by
  obtain ⟨_, _, _, _, _, _, h⟩ := report_reported s k v a b c d e g i; rw [h]
@[simp] theorem report_chn (s : State) (k : Nat × Nat) (v : Ev) (a b c d e g i : Nat) :
    (report s k v a b c d e g i).chn = s.chn := by
  obtain ⟨_, _, _, _, _, _, h⟩ := report_reported s k v a b c d e g i; rw [h]
@[simp] theorem report_chz (s : State) (k : Nat × Nat) (v : Ev) (a b c d e g i : Nat) :
    (report s k v a b c d e g i).chz = s.chz := by
  obtain ⟨_, _, _, _, _, _, h⟩ := report_reported s k v a b c d e g i; rw [h]
@[simp] theorem report_chnDev (s : State) (k : Nat × Nat) (v : Ev) (a b c d e g i : Nat) :
    (report s k v a b c d e g i).chnDev = s.chnDev := by
  obtain ⟨_, _, _, _, _, _, h⟩ := report_reported s k v a b c d e g i; rw [h]
@[simp] theorem report_wps (s : State) (k : Nat × Nat) (v : Ev) (a b c d e g i : Nat) :
    (report s k v a b c d e g i).wps = s.wps := by
  obtain ⟨_, _, _, _, _, _, h⟩ := report_reported s k v a b c d e g i; rw [h]
@[simp] theorem report_wheads (s : State) (k : Nat × Nat) (v : Ev) (a b c d e g i : Nat) :
    (report s k v a b c d e g i).wheads = s.wheads := by
  obtain ⟨_, _, _, _, _, _, h⟩ := report_reported s k v a b c d e g i; rw [h]
@[simp] theorem report_wdev (s : State) (k : Nat × Nat) (v : Ev) (a b c d e g i : Nat) :
    (report s k v a b c d e g i).wdev = s.wdev := by
  obtain ⟨_, _, _, _, _, _, h⟩ := report_reported s k v a b c d e g i; rw [h]
@[simp] theorem report_plks (s : State) (k : Nat × Nat) (v : Ev) (a b c d e g i : Nat) :
    (report s k v a b c d e g i).plks = s.plks := by
  obtain ⟨_, _, _, _, _, _, h⟩ := report_reported s k v a b c d e g i; rw [h]
@[simp] theorem report_psl (s : State) (k : Nat × Nat) (v : Ev) (a b c d e g i : Nat) :
    (report s k v a b c d e g i).psl = s.psl := by
  obtain ⟨_, _, _, _, _, _, h⟩ := report_reported s k v a b c d e g i; rw [h]
@[simp] theorem report_lnk (s : State) (k : Nat × Nat) (v : Ev) (a b c d e g i : Nat) :
    (report s k v a b c d e g i).lnk = s.lnk := by
  obtain ⟨_, _, _, _, _, _, h⟩ := report_reported s k v a b c d e g i; rw [h]
@[simp] theorem report_cache (s : State) (k : Nat × Nat) (v : Ev) (a b c d e g i : Nat) :
    (report s k v a b c d e g i).cache = s.cache := by
  obtain ⟨_, _, _, _, _, _, h⟩ := report_reported s k v a b c d e g i; rw [h]
@[simp] theorem report_staged (s : State) (k : Nat × Nat) (v : Ev) (a b c d e g i : Nat) :
    (report s k v a b c d e g i).staged = s.staged := by
  obtain ⟨_, _, _, _, _, _, h⟩ := report_reported s k v a b c d e g i; rw [h]
@[simp] theorem report_tbl (s : State) (k : Nat × Nat) (v : Ev) (a b c d e g i : Nat) :
    (report s k v a b c d e g i).tbl = s.tbl := by
  obtain ⟨_, _, _, _, _, _, h⟩ := report_reported s k v a b c d e g i; rw [h]
@[simp] theorem report_brt (s : State) (k : Nat × Nat) (v : Ev) (a b c d e g i : Nat) :
    (report s k v a b c d e g i).brt = s.brt := by
  obtain ⟨_, _, _, _, _, _, h⟩ := report_reported s k v a b c d e g i; rw [h]
@[simp] theorem report_ckptPend (s : State) (k : Nat × Nat) (v : Ev) (a b c d e g i : Nat) :
    (report s k v a b c d e g i).ckptPend = s.ckptPend := by
  obtain ⟨_, _, _, _, _, _, h⟩ := report_reported s k v a b c d e g i; rw [h]
@[simp] theorem report_brtPar (s : State) (k : Nat × Nat) (v : Ev) (a b c d e g i : Nat) :
    (report s k v a b c d e g i).brtPar = s.brtPar := by
  obtain ⟨_, _, _, _, _, _, h⟩ := report_reported s k v a b c d e g i; rw [h]
@[simp] theorem report_headRecs (s : State) (k : Nat × Nat) (v : Ev) (a b c d e g i : Nat) :
    (report s k v a b c d e g i).headRecs = s.headRecs := by
  obtain ⟨_, _, _, _, _, _, h⟩ := report_reported s k v a b c d e g i; rw [h]
@[simp] theorem report_actRecs (s : State) (k : Nat × Nat) (v : Ev) (a b c d e g i : Nat) :
    (report s k v a b c d e g i).actRecs = s.actRecs := by
  obtain ⟨_, _, _, _, _, _, h⟩ := report_reported s k v a b c d e g i; rw [h]
@[simp] theorem report_rbld (s : State) (k : Nat × Nat) (v : Ev) (a b c d e g i : Nat) :
    (report s k v a b c d e g i).rbld = s.rbld := by
  obtain ⟨_, _, _, _, _, _, h⟩ := report_reported s k v a b c d e g i; rw [h]
@[simp] theorem report_quay (s : State) (k : Nat × Nat) (v : Ev) (a b c d e g i : Nat) :
    (report s k v a b c d e g i).quay = s.quay := by
  obtain ⟨_, _, _, _, _, _, h⟩ := report_reported s k v a b c d e g i; rw [h]
@[simp] theorem report_cmds (s : State) (k : Nat × Nat) (v : Ev) (a b c d e g i : Nat) :
    (report s k v a b c d e g i).cmds = s.cmds := by
  obtain ⟨_, _, _, _, _, _, h⟩ := report_reported s k v a b c d e g i; rw [h]
@[simp] theorem report_dram (s : State) (k : Nat × Nat) (v : Ev) (a b c d e g i : Nat) :
    (report s k v a b c d e g i).dram = s.dram := by
  obtain ⟨_, _, _, _, _, _, h⟩ := report_reported s k v a b c d e g i; rw [h]
@[simp] theorem report_seqs (s : State) (k : Nat × Nat) (v : Ev) (a b c d e g i : Nat) :
    (report s k v a b c d e g i).seqs = s.seqs := by
  obtain ⟨_, _, _, _, _, _, h⟩ := report_reported s k v a b c d e g i; rw [h]
@[simp] theorem report_seqDev (s : State) (k : Nat × Nat) (v : Ev) (a b c d e g i : Nat) :
    (report s k v a b c d e g i).seqDev = s.seqDev := by
  obtain ⟨_, _, _, _, _, _, h⟩ := report_reported s k v a b c d e g i; rw [h]
@[simp] theorem report_mbxPtr (s : State) (k : Nat × Nat) (v : Ev) (a b c d e g i : Nat) :
    (report s k v a b c d e g i).mbxPtr = s.mbxPtr := by
  obtain ⟨_, _, _, _, _, _, h⟩ := report_reported s k v a b c d e g i; rw [h]
@[simp] theorem report_bw (s : State) (k : Nat × Nat) (v : Ev) (a b c d e g i : Nat) :
    (report s k v a b c d e g i).bw = s.bw := by
  obtain ⟨_, _, _, _, _, _, h⟩ := report_reported s k v a b c d e g i; rw [h]
@[simp] theorem report_sec (s : State) (k : Nat × Nat) (v : Ev) (a b c d e g i : Nat) :
    (report s k v a b c d e g i).sec = s.sec := by
  obtain ⟨_, _, _, _, _, _, h⟩ := report_reported s k v a b c d e g i; rw [h]
@[simp] theorem report_boot (s : State) (k : Nat × Nat) (v : Ev) (a b c d e g i : Nat) :
    (report s k v a b c d e g i).boot = s.boot := by
  obtain ⟨_, _, _, _, _, _, h⟩ := report_reported s k v a b c d e g i; rw [h]
@[simp] theorem report_fw (s : State) (k : Nat × Nat) (v : Ev) (a b c d e g i : Nat) :
    (report s k v a b c d e g i).fw = s.fw := by
  obtain ⟨_, _, _, _, _, _, h⟩ := report_reported s k v a b c d e g i; rw [h]
@[simp] theorem report_aon (s : State) (k : Nat × Nat) (v : Ev) (a b c d e g i : Nat) :
    (report s k v a b c d e g i).aon = s.aon := by
  obtain ⟨_, _, _, _, _, _, h⟩ := report_reported s k v a b c d e g i; rw [h]
@[simp] theorem report_nv (s : State) (k : Nat × Nat) (v : Ev) (a b c d e g i : Nat) :
    (report s k v a b c d e g i).nv = s.nv := by
  obtain ⟨_, _, _, _, _, _, h⟩ := report_reported s k v a b c d e g i; rw [h]

end Sys2Proof.Machine
end

