-- ==== Sys2Proof/Laws/Mail.lean ====
section
/-! SUPPORT. Mail: what serving an admitted message does, once for every message. -/

namespace Sys2Proof.Machine

/-- A message that needs no authorisation consumes none. -/
theorem consumeAuth_of_ne {s : State} {r : Req} {m : Msg} (h : m.need ≠ .sg) : consumeAuth s r m = s := by
  simp [consumeAuth, h]

/-- Serving an admitted message is its own meaning and its answer. -/
theorem serve_of_admitted {s : State} {r : Req} {m : Msg} {i : Instr} {body : State → Ans} (h : Admitted s r m) :
    serve s r m i body =
      let a := body (consumeAuth s r m)
      if a.status = 0xFFFF then updMbx a.st r.mb fun x => { x with reply := none, waitOp := some (m.opc, r.seq) }
      else answer (follow a.st r m i a.status) r m.opc a.status a.aux a.payload := by
  simp [serve, h.1, h.2]

/-- A message whose meaning succeeds completes. -/
theorem completes_of {s s' : State} {r : Req} {m : Msg} {i : Instr} {body : State → Ans} {p : List Byte}
    (hx : exec i s = .next (serve s r m i body)) (hb : body (consumeAuth s r m) = dataA s' p) :
    Completes i s r m s' p := by
  intro h
  rw [hx, serve_of_admitted h, hb]
  rfl

/-- A message whose meaning succeeds completes, where it needs no authorisation. -/
theorem completes {s s' : State} {r : Req} {m : Msg} {i : Instr} {body : State → Ans} {p : List Byte}
    (hx : exec i s = .next (serve s r m i body)) (hn : m.need ≠ .sg) (hb : body s = dataA s' p) :
    Completes i s r m s' p :=
  completes_of hx (by rw [consumeAuth_of_ne hn]; exact hb)

/-- An L message whose meaning accepts begins. -/
theorem begins {s s' : State} {r : Req} {m : Msg} {i : Instr} {body : State → Ans}
    (hx : exec i s = .next (serve s r m i body)) (hn : m.need ≠ .sg) (hb : body s = failA s' 1) :
    Begins i s r m s' := by
  intro h
  rw [hx, serve_of_admitted h, consumeAuth_of_ne hn, hb]
  rfl

/-- A message whose answer waits has begun. -/
theorem defers {s s' : State} {r : Req} {m : Msg} {i : Instr} {body : State → Ans}
    (hx : exec i s = .next (serve s r m i body)) (hn : m.need ≠ .sg) (hb : body s = deferA s') : Defers i s r m s' := by
  intro h
  rw [hx, serve_of_admitted h, consumeAuth_of_ne hn, hb]
  rfl

/-- A message whose meaning fails is turned away. -/
theorem turnsAway {s : State} {r : Req} {m : Msg} {i : Instr} {body : State → Ans} {st aux : Nat}
    (hx : exec i s = .next (serve s r m i body)) (hn : m.need ≠ .sg) (hb : body s = failA s st aux)
    (h0 : st ≠ 0) (h1 : st ≠ 1) (hw : st ≠ 0xFFFF) : TurnsAway i s r m st aux := by
  intro h
  rw [hx, serve_of_admitted h, consumeAuth_of_ne hn, hb]
  simp [failA, follow, h0, h1, hw]

end Sys2Proof.Machine
end

