-- ==== Sys2Proof/Laws/Memory.lean ====
section
/-! SUPPORT. Memory: a sparse map keeps its canonical form, and a read after a write (R363, R369, R425). -/

namespace Sys2Proof.Machine

/-- A sorted map's first key is below every later one. -/
theorem smSorted_cons {α : Type} (k : Nat) (v : α) (m : SMap α) :
    smSorted ((k, v) :: m) = true ↔ (∀ e ∈ m, k < e.1) ∧ smSorted m = true := by
  induction m generalizing k v with
  | nil => simp [smSorted]
  | cons b m ih =>
    obtain ⟨k', v'⟩ := b
    simp only [smSorted, Bool.and_eq_true, decide_eq_true_eq, List.mem_cons, forall_eq_or_imp]
    exact ⟨fun h => ⟨⟨h.1, fun e he => Nat.lt_trans h.1 (((ih k' v').1 h.2).1 e he)⟩, h.2⟩, fun h => ⟨h.1.1, h.2⟩⟩

theorem smErase_mem {α : Type} {m : SMap α} {k : Nat} {e : Nat × α} (h : e ∈ smErase m k) : e ∈ m := by
  induction m with
  | nil => exact h
  | cons b m ih =>
    unfold smErase at h; split at h
    · exact List.mem_cons_of_mem _ h
    · rcases List.mem_cons.1 h with h | h
      · exact h ▸ List.mem_cons_self
      · exact List.mem_cons_of_mem _ (ih h)

theorem smPut_mem {α : Type} {m : SMap α} {k : Nat} {v : α} {e : Nat × α} (h : e ∈ smPut m k v) : e = (k, v) ∨ e ∈ m := by
  induction m with
  | nil => exact List.mem_cons.1 h
  | cons b m ih =>
    unfold smPut at h; split at h
    · exact List.mem_cons.1 h
    · split at h
      · rcases List.mem_cons.1 h with h | h
        · exact .inl h
        · exact .inr (List.mem_cons_of_mem _ h)
      · rcases List.mem_cons.1 h with h | h
        · exact .inr (h ▸ List.mem_cons_self)
        · exact (ih h).imp id (List.mem_cons_of_mem _)

theorem smErase_sorted {α : Type} {m : SMap α} (k : Nat) (h : smSorted m = true) : smSorted (smErase m k) = true := by
  induction m with
  | nil => rfl
  | cons b m ih =>
    obtain ⟨k', v'⟩ := b
    have ⟨h1, h2⟩ := (smSorted_cons k' v' m).1 h
    unfold smErase; split
    · exact h2
    · exact (smSorted_cons _ _ _).2 ⟨fun e he => h1 e (smErase_mem he), ih h2⟩

theorem smPut_sorted {α : Type} {m : SMap α} (k : Nat) (v : α) (h : smSorted m = true) : smSorted (smPut m k v) = true := by
  induction m with
  | nil => rfl
  | cons b m ih =>
    obtain ⟨k', v'⟩ := b
    have ⟨h1, h2⟩ := (smSorted_cons k' v' m).1 h
    unfold smPut; split
    · next hk =>
      refine (smSorted_cons _ _ _).2 ⟨fun e he => ?_, h⟩
      rcases List.mem_cons.1 he with he | he
      · exact he ▸ hk
      · exact Nat.lt_trans hk (h1 e he)
    · split
      · next hk => exact (smSorted_cons _ _ _).2 ⟨fun e he => hk ▸ h1 e he, h2⟩
      · refine (smSorted_cons _ _ _).2 ⟨fun e he => ?_, ih h2⟩
        rcases smPut_mem he with he | he
        · subst he; dsimp only; omega
        · exact h1 e he

/-- A write keeps the canonical form. -/
theorem smWrite_wf {α : Type} [DecidableEq α] {d : α} {m : SMap α} (k : Nat) (v : α) (h : smWf d m = true) :
    smWf d (smWrite d m k v) = true := by
  simp only [smWf, Bool.and_eq_true, List.all_eq_true, decide_eq_true_eq] at h ⊢
  unfold smWrite; split
  · exact ⟨smErase_sorted k h.1, fun e he => h.2 e (smErase_mem he)⟩
  · next hv =>
    refine ⟨smPut_sorted k v h.1, fun e he => ?_⟩
    rcases smPut_mem he with he | he
    · exact he ▸ hv
    · exact h.2 e he

/-- A write of many bytes keeps the canonical form. -/
theorem smWriteBytes_wf {m : SMap Byte} (k : Nat) (bs : List Byte) (h : smWf 0 m = true) :
    smWf 0 (smWriteBytes m k bs) = true := by
  induction bs generalizing m k with
  | nil => exact h
  | cons b bs ih => exact ih _ (smWrite_wf k b h)

theorem smGet_none {α : Type} {m : SMap α} {k : Nat} (h : ∀ e ∈ m, k < e.1) : smGet m k = none := by
  induction m with
  | nil => rfl
  | cons b m ih =>
    have hb : k < b.1 := h b List.mem_cons_self
    unfold smGet; rw [if_neg (by omega)]
    exact ih fun e he => h e (List.mem_cons_of_mem _ he)

theorem smGet_smPut {α : Type} (m : SMap α) (k : Nat) (v : α) : smGet (smPut m k v) k = some v := by
  induction m with
  | nil => simp [smPut, smGet]
  | cons b m ih =>
    unfold smPut; split
    · simp [smGet]
    · split
      · simp [smGet]
      · next h => unfold smGet; rw [if_neg h]; exact ih

theorem smGet_smPut_ne {α : Type} (m : SMap α) {k j : Nat} (v : α) (h : j ≠ k) : smGet (smPut m k v) j = smGet m j := by
  induction m with
  | nil => simp [smPut, smGet, h]
  | cons b m ih =>
    unfold smPut; split
    · simp [smGet, h]
    · split
      · next hk => simp only [smGet]; rw [if_neg h, if_neg (by omega)]
      · simp only [smGet]; rw [ih]

theorem smGet_smErase {α : Type} {m : SMap α} (k : Nat) (h : smSorted m = true) : smGet (smErase m k) k = none := by
  induction m with
  | nil => rfl
  | cons b m ih =>
    obtain ⟨k', v'⟩ := b
    have ⟨h1, h2⟩ := (smSorted_cons k' v' m).1 h
    unfold smErase; split
    · next hk => exact smGet_none fun e he => hk ▸ h1 e he
    · next hk => unfold smGet; rw [if_neg hk]; exact ih h2

theorem smGet_smErase_ne {α : Type} (m : SMap α) {k j : Nat} (h : j ≠ k) : smGet (smErase m k) j = smGet m j := by
  induction m with
  | nil => rfl
  | cons b m ih =>
    unfold smErase; split
    · next hk => simp only [smGet]; rw [if_neg (by omega)]
    · simp only [smGet]; rw [ih]

/-- A read after a write at the same key. -/
theorem smRead_smWrite {α : Type} [DecidableEq α] {d : α} {m : SMap α} (k : Nat) (v : α) (h : smSorted m = true) :
    smRead d (smWrite d m k v) k = v := by
  unfold smRead smWrite; split
  · next hv => rw [smGet_smErase k h, hv]; rfl
  · rw [smGet_smPut]; rfl

/-- A write leaves every other key alone. -/
theorem smRead_smWrite_ne {α : Type} [DecidableEq α] {d : α} (m : SMap α) {k j : Nat} (v : α) (h : j ≠ k) :
    smRead d (smWrite d m k v) j = smRead d m j := by
  unfold smRead smWrite; split
  · rw [smGet_smErase_ne m h]
  · rw [smGet_smPut_ne m v h]

end Sys2Proof.Machine
end

