-- ==== Sys2Proof/Laws/Payload.lean ====
section
/-! SUPPORT. Payload: the fields of a message written and read again (R425, R426). -/

namespace Sys2Proof.Machine

@[simp] theorem leBytes_length (n v : Nat) : (leBytes n v).length = n := by
  induction n generalizing v with
  | zero => rfl
  | succ n ih => simp [leBytes, ih]

/-- A number that fits its bytes is read as it was written. -/
theorem leNat_leBytes {n v : Nat} (h : v < 2 ^ (8 * n)) : leNat (leBytes n v) = v := by
  induction n generalizing v with
  | zero => simp at h; simp [leBytes, leNat, h]
  | succ n ih =>
    have hd : v / 256 < 2 ^ (8 * n) := by
      rw [Nat.div_lt_iff_lt_mul (by decide)]
      calc v < 2 ^ (8 * (n + 1)) := h
        _ = 2 ^ (8 * n) * 256 := by rw [Nat.mul_add, Nat.pow_add]
    simp only [leBytes, leNat, ih hd, BitVec.toNat_ofNat]
    omega

theorem flat_length (w : Nat) (l : List Nat) : (l.flatMap (leBytes w)).length = l.length * w := by
  induction l with
  | nil => simp
  | cons x l ih => rw [List.flatMap_cons, List.length_append, ih, leBytes_length, List.length_cons, Nat.succ_mul, Nat.add_comm]

/-- Numbers that fit their bytes are read as they were written. -/
theorem numsOf_flat (w : Nat) (l : List Nat) (t : List Byte) (h : ∀ x ∈ l, x < 2 ^ (8 * w)) :
    numsOf w l.length (l.flatMap (leBytes w) ++ t) = l := by
  induction l with
  | nil => rfl
  | cons x l ih =>
    rw [List.length_cons, List.flatMap_cons, List.append_assoc]
    unfold numsOf
    rw [List.take_append_of_le_length (by simp), List.take_of_length_le (by simp), leNat_leBytes (h x List.mem_cons_self),
      List.drop_append_of_le_length (by simp), List.drop_of_length_le (by simp), List.nil_append,
      ih fun y hy => h y (List.mem_cons_of_mem _ hy)]

theorem firstSet_zeros {p : List Byte} {o n : Nat} (h : ∀ k, k < n → p.getD (o + k) 0 = 0) : firstSet p o n = none := by
  unfold firstSet
  rw [List.findSome?_eq_none_iff]
  intro k hk
  rw [if_pos (h k (List.mem_range.1 hk))]

/-- Numbers read at the place where they were written behind their padding. -/
theorem readNums_put (out : List Byte) (w : Nat) (l : List Nat) (t : List Byte) (hw : 0 < w) (h : ∀ x ∈ l, x < 2 ^ (8 * w)) :
    readNums (out ++ padBytes out.length w ++ l.flatMap (leBytes w) ++ t) out.length l.length w =
      some (l, (out ++ padBytes out.length w ++ l.flatMap (leBytes w)).length, none) := by
  have ha : out.length ≤ (out.length + w - 1) / w * w := by
    have := Nat.div_add_mod (out.length + w - 1) w
    have := Nat.mod_lt (out.length + w - 1) hw
    rw [Nat.mul_comm]; omega
  generalize hb : (out.length + w - 1) / w * w = a at ha
  have hp : (out ++ padBytes out.length w).length = a := by
    rw [List.length_append, padBytes, List.length_replicate, hb]; omega
  unfold readNums; dsimp only; rw [hb]
  rw [if_neg (by simp only [List.length_append, flat_length]; rw [List.length_append] at hp; omega)]
  rw [List.append_assoc _ (l.flatMap _) t, ← hp, List.drop_append_of_le_length (Nat.le_refl _), List.drop_length, List.nil_append,
    numsOf_flat w l t h, firstSet_zeros]
  · simp only [List.length_append, flat_length]
  · intro k hk
    rw [List.length_append] at hk
    rw [List.append_assoc, List.getD_append_right _ _ _ _ (by omega), List.getD_append _ _ _ _ (by omega)]
    simp [padBytes, List.getD_eq_getElem?_getD, List.getElem?_replicate]
    split <;> rfl

/-! ### MASK and its words (R426) -/

/-- The MASK word of the parameters set. -/
def maskOf (ps : Params) : Nat := ps.foldl (fun a e => a + 2 ^ e.1) 0

theorem maskOf_cons (b : Nat) (ws : List (BitVec 32)) (ps : Params) : maskOf ((b, ws) :: ps) = 2 ^ b + maskOf ps := by
  have : ∀ (ps : Params) (a : Nat), ps.foldl (fun a e => a + 2 ^ e.1) a = a + maskOf ps := by
    intro ps
    induction ps with
    | nil => intro a; rfl
    | cons e ps ih =>
      intro a
      have : maskOf (e :: ps) = 2 ^ e.1 + maskOf ps := (ih (0 + 2 ^ e.1)).trans (by omega)
      rw [List.foldl_cons, ih, this]; omega
  rw [maskOf, List.foldl_cons, this]; simp

/-- The words of the parameters set, in order. -/
def wordsOf (ps : Params) : List Nat := ps.flatMap fun e => e.2.map BitVec.toNat

/-- The bits rise from `lo` on. -/
def Rises : Nat → Params → Prop
  | _, [] => True
  | lo, e :: ps => lo ≤ e.1 ∧ Rises (e.1 + 1) ps

theorem Rises.le {lo lo' : Nat} {ps : Params} (h : Rises lo ps) (hl : lo' ≤ lo) : Rises lo' ps := by
  cases ps with
  | nil => trivial
  | cons e ps => exact ⟨Nat.le_trans hl h.1, h.2⟩

theorem fitsPars_rises {ns : List Nat} {ps : Params} (h : fitsPars ns ps = true) : Rises 0 ps := by
  have : ∀ (ps : Params) (lo : Nat), fitsPars ns ps = true → (ps.all fun e => decide (lo ≤ e.1)) = true → Rises lo ps := by
    intro ps
    induction ps with
    | nil => intro lo _ _; trivial
    | cons e ps ih =>
      intro lo h ha
      obtain ⟨b, ws⟩ := e
      simp only [fitsPars, Bool.and_eq_true] at h
      simp only [List.all_cons, Bool.and_eq_true, decide_eq_true_eq] at ha
      exact ⟨ha.1, ih (b + 1) h.2 h.1.2⟩
  exact this ps 0 h (by simp)

theorem maskOf_dvd {lo : Nat} {ps : Params} (h : Rises lo ps) : 2 ^ lo ∣ maskOf ps := by
  induction ps generalizing lo with
  | nil => exact ⟨0, rfl⟩
  | cons e ps ih =>
    obtain ⟨b, ws⟩ := e
    rw [maskOf_cons]
    exact Nat.dvd_add (Nat.pow_dvd_pow 2 h.1) (Nat.dvd_trans (Nat.pow_dvd_pow 2 (Nat.le_succ_of_le h.1)) (ih h.2))

theorem bitAt_testBit (v i : Nat) : bitAt v i = v.testBit i := by
  simp only [bitAt, Nat.testBit_eq_decide_div_mod_eq]

/-- MASK holds exactly the bits of the parameters set. -/
theorem maskOf_bit {lo : Nat} {ps : Params} (h : Rises lo ps) (k : Nat) :
    bitAt (maskOf ps) k = (ps.map (·.1)).contains k := by
  induction ps generalizing lo with
  | nil => simp [maskOf, bitAt]
  | cons e ps ih =>
    obtain ⟨b, ws⟩ := e
    obtain ⟨c, hc⟩ := maskOf_dvd h.2
    have hs : maskOf ((b, ws) :: ps) = 2 ^ (b + 1) * c ||| 2 ^ b := by
      rw [maskOf_cons, hc, Nat.add_comm]
      exact Nat.two_pow_add_eq_or_of_lt (Nat.pow_lt_pow_right (by decide) (Nat.lt_succ_self b)) c
    rw [bitAt_testBit, hs, Nat.testBit_or, ← hc, ← bitAt_testBit, ih h.2, Nat.testBit_two_pow, List.map_cons, List.contains_cons]
    rw [Bool.or_comm]; congr 1
    by_cases hk : b = k
    · simp [hk]
    · simp [hk, Ne.symm hk]

/-- The bits of MASK from `b` on are those of the parameters. -/
theorem filter_bits {ps : Params} {m b : Nat} (k : Nat) (h : Rises b ps) (hk : ∀ e ∈ ps, e.1 < b + k)
    (hm : ∀ j, b ≤ j → bitAt m j = (ps.map (·.1)).contains j) : (List.range' b k).filter (bitAt m) = ps.map (·.1) := by
  induction k generalizing ps b with
  | zero =>
    cases ps with
    | nil => rfl
    | cons e ps => have := hk e List.mem_cons_self; have := h.1; omega
  | succ k ih =>
    rw [List.range'_succ, List.filter_cons, hm b (Nat.le_refl b)]
    cases ps with
    | nil => exact ih (ps := []) trivial (fun _ he => absurd he List.not_mem_nil) fun j hj => hm j (by omega)
    | cons e ps =>
      by_cases he : e.1 = b
      · rw [if_pos (by simp [he]), List.map_cons, he]
        congr 1
        refine ih (he ▸ h.2) (fun x hx => by have := hk x (List.mem_cons_of_mem _ hx); omega) fun j hj => ?_
        rw [hm j (by omega), List.map_cons, List.contains_cons]
        have : (j == e.1) = false := by rw [he]; simp; omega
        rw [this, Bool.false_or]
      · have hb : ((e :: ps).map (·.1)).contains b = false := by
          rw [← hm b (Nat.le_refl b)]
          rw [hm b (Nat.le_refl b)]
          simp only [List.map_cons, List.contains_cons, Bool.or_eq_false_iff]
          refine ⟨by simp; omega, ?_⟩
          have : ∀ (ps : Params) (lo : Nat), Rises lo ps → b < lo → (ps.map (·.1)).contains b = false := by
            intro ps
            induction ps with
            | nil => intros; rfl
            | cons x ps ih =>
              intro lo hr hl
              simp only [List.map_cons, List.contains_cons, Bool.or_eq_false_iff]
              exact ⟨by have := hr.1; simp; omega, ih _ hr.2 (by have := hr.1; omega)⟩
          exact this ps _ h.2 (by have := h.1; omega)
        rw [if_neg (by rw [hb]; decide)]
        refine ih ⟨by have := h.1; omega, h.2⟩ (fun x hx => by have := hk x hx; omega) fun j hj => hm j (by omega)

theorem fitsPars_get {ns : List Nat} {ps : Params} (h : fitsPars ns ps = true) : ∀ e ∈ ps, ns[e.1]? = some e.2.length := by
  induction ps with
  | nil => intro e he; exact absurd he List.not_mem_nil
  | cons x ps ih =>
    obtain ⟨b, ws⟩ := x
    simp only [fitsPars, Bool.and_eq_true, decide_eq_true_eq] at h
    intro e he
    rcases List.mem_cons.1 he with rfl | he
    · exact h.1.1
    · exact ih h.2 e he

theorem fitsPars_lt {ns : List Nat} {ps : Params} (h : fitsPars ns ps = true) : ∀ e ∈ ps, e.1 < ns.length := fun e he =>
  (List.getElem?_eq_some_iff.1 (fitsPars_get h e he)).1

/-- The parameters are taken again from MASK and its words. -/
theorem takePars_words {ns : List Nat} {ps : Params} {m b : Nat} (k : Nat) (h : Rises b ps) (hk : ∀ e ∈ ps, e.1 < b + k)
    (hg : ∀ e ∈ ps, ns[e.1]? = some e.2.length) (hm : ∀ j, b ≤ j → bitAt m j = (ps.map (·.1)).contains j) :
    takePars ns m k b (wordsOf ps) = ps := by
  induction k generalizing ps b with
  | zero =>
    cases ps with
    | nil => rfl
    | cons e ps => have := hk e List.mem_cons_self; have := h.1; omega
  | succ k ih =>
    unfold takePars
    rw [hm b (Nat.le_refl b)]
    cases ps with
    | nil => exact ih (ps := []) trivial (fun _ he => absurd he List.not_mem_nil) (fun _ he => absurd he List.not_mem_nil) fun j hj => hm j (by omega)
    | cons e ps =>
      by_cases he : e.1 = b
      · obtain ⟨b', ws⟩ := e
        dsimp only at he; subst he
        rw [if_pos (by simp)]
        have hl : ns.getD b' 0 = (ws.map BitVec.toNat).length := by
          have := hg (b', ws) List.mem_cons_self
          simp [List.getD_eq_getElem?_getD, this]
        dsimp only; rw [hl]
        have hw : wordsOf ((b', ws) :: ps) = ws.map BitVec.toNat ++ wordsOf ps := rfl
        rw [hw, List.take_left, List.drop_left, List.map_map, show (BitVec.ofNat 32 ∘ BitVec.toNat) = id from funext fun x => by simp, List.map_id]
        congr 1
        refine ih h.2 (fun x hx => by have := hk x (List.mem_cons_of_mem _ hx); omega) (fun x hx => hg x (List.mem_cons_of_mem _ hx)) fun j hj => ?_
        rw [hm j (by omega), List.map_cons, List.contains_cons]
        have : (j == b') = false := by simp; omega
        rw [this, Bool.false_or]
      · have hb : ((e :: ps).map (·.1)).contains b = false := by
          have : ∀ (ps : Params) (lo : Nat), Rises lo ps → b < lo → (ps.map (·.1)).contains b = false := by
            intro ps
            induction ps with
            | nil => intros; rfl
            | cons x ps ih =>
              intro lo hr hl
              simp only [List.map_cons, List.contains_cons, Bool.or_eq_false_iff]
              exact ⟨by have := hr.1; simp; omega, ih _ hr.2 (by have := hr.1; omega)⟩
          exact this (e :: ps) (b + 1) ⟨by have := h.1; omega, h.2⟩ (by omega)
        rw [hb, if_neg (by decide)]
        exact ih ⟨by have := h.1; omega, h.2⟩ (fun x hx => by have := hk x hx; omega) hg fun j hj => hm j (by omega)

theorem maskOf_lt {n lo : Nat} {ps : Params} (h : Rises lo ps) (hk : ∀ e ∈ ps, e.1 < n) : maskOf ps < 2 ^ n := by
  refine Nat.lt_pow_two_of_testBit _ fun i hi => ?_
  rw [← bitAt_testBit, maskOf_bit h]
  have : i ∉ ps.map (·.1) := by
    intro hc; obtain ⟨e, he, rfl⟩ := List.mem_map.1 hc
    have := hk e he; omega
  simpa using this

theorem wordsOf_length {ns : List Nat} {ps : Params} (hg : ∀ e ∈ ps, ns[e.1]? = some e.2.length) :
    (wordsOf ps).length = (ps.map (·.1)).foldl (fun a b => a + ns.getD b 0) 0 := by
  have : ∀ (ps : Params), (∀ e ∈ ps, ns[e.1]? = some e.2.length) → ∀ a, (ps.map (·.1)).foldl (fun a b => a + ns.getD b 0) a = a + (wordsOf ps).length := by
    intro ps
    induction ps with
    | nil => intros; rfl
    | cons e ps ih =>
      intro hg a
      rw [List.map_cons, List.foldl_cons, ih fun x hx => hg x (List.mem_cons_of_mem _ hx)]
      have := hg e List.mem_cons_self
      simp only [wordsOf, List.flatMap_cons, List.length_append, List.length_map, List.getD_eq_getElem?_getD, this, Option.getD_some]
      omega
  rw [this ps hg]; simp

/-! ### Fields (R425) -/

/-- The values fit the fields, and are all used up by them. -/
def Fits (all : List Nat) : List Fld → Vals → Prop
  | [], v => v = {}
  | f :: fs, v =>
    let nums := fun n w => 0 < w ∧ n ≤ v.nums.length ∧ (∀ x ∈ v.nums.take n, x < 2 ^ (8 * w)) ∧ Fits all fs { v with nums := v.nums.drop n }
    match f with
    | .num w => nums 1 w
    | .rep n w => nums n w
    | .repBy i k w => i + v.nums.length < all.length ∧ nums (all.getD i 0 * k) w
    | .arr n => fs = [] ∧ v.nums = [] ∧ v.pars = [] ∧ v.data.length = n
    | .rest => fs = [] ∧ v.nums = [] ∧ v.pars = []
    | .mask ns => fs = [] ∧ v.nums = [] ∧ v.data = [] ∧ ns.length ≤ 32 ∧ fitsPars ns v.pars = true

/-- Where the last field ends at most. -/
def endsBy (all : List Nat) (len : Nat) : List Fld → Nat → Nat
  | [], o => o
  | f :: fs, o =>
    let nums := fun n w => endsBy all len fs ((o + w - 1) / w * w + n * w)
    match f with
    | .num w => nums 1 w
    | .rep n w => nums n w
    | .repBy i k w => nums (all.getD i 0 * k) w
    | .arr n => endsBy all len fs (o + n)
    | .rest => endsBy all len fs (o + len)
    | .mask ns => endsBy all len fs ((o + 3) / 4 * 4 + 4 + 4 * ns.foldl (· + ·) 0)

/-- Writing fields only adds to the bytes there are. -/
theorem putFlds_prefix (all : List Nat) (fs : List Fld) (out : List Byte) (v : Vals) : ∃ t, putFlds all fs out v = out ++ t := by
  induction fs generalizing out v with
  | nil => exact ⟨[], by simp [putFlds]⟩
  | cons f fs ih =>
    cases f <;> (unfold putFlds; dsimp only; obtain ⟨t, ht⟩ := ih _ _; rw [ht]; simp only [List.append_assoc]; exact ⟨_, rfl⟩)

theorem words_flat (ps : Params) : (ps.flatMap fun e => e.2.flatMap fun w => leBytes 4 w.toNat) = (wordsOf ps).flatMap (leBytes 4) := by
  induction ps with
  | nil => rfl
  | cons e ps ih =>
    rw [List.flatMap_cons, ih, show wordsOf (e :: ps) = e.2.map BitVec.toNat ++ wordsOf ps from rfl, List.flatMap_append, List.flatMap_map]

/-- Fields are read as they were written. -/
theorem readFlds_put (all : List Nat) (fs : List Fld) (out : List Byte) (v acc : Vals) (h : Fits all fs v)
    (ha : all = acc.nums ++ v.nums) (hd : acc.data = []) (hp : acc.pars = []) :
    readFlds fs (putFlds all fs out v) out.length none acc = .ok { nums := all, data := v.data, pars := v.pars } := by
  induction fs generalizing out v acc with
  | nil =>
    have hv : v = {} := h
    subst hv; subst ha
    simp only [readFlds, putFlds, if_true]
    congr 1; cases acc; simp_all
  | cons f fs ih =>
    have key : ∀ n w, 0 < w ∧ n ≤ v.nums.length ∧ (∀ x ∈ v.nums.take n, x < 2 ^ (8 * w)) ∧ Fits all fs { v with nums := v.nums.drop n } →
        (match readNums (putFlds all fs (out ++ padBytes out.length w ++ (v.nums.take n).flatMap (leBytes w)) { v with nums := v.nums.drop n })
            out.length n w with
          | none => Except.error 16
          | some (xs, e, b) => readFlds fs (putFlds all fs (out ++ padBytes out.length w ++ (v.nums.take n).flatMap (leBytes w)) { v with nums := v.nums.drop n })
              e ((none : Option Nat).orElse fun _ => b) { acc with nums := acc.nums ++ xs }) =
          .ok { nums := all, data := v.data, pars := v.pars } := by
      rintro n w ⟨hw, hn, hx, hf⟩
      have hl : (v.nums.take n).length = n := by simp [hn]
      obtain ⟨t, ht⟩ := putFlds_prefix all fs (out ++ padBytes out.length w ++ (v.nums.take n).flatMap (leBytes w)) { v with nums := v.nums.drop n }
      have hr := readNums_put out w (v.nums.take n) t hw hx
      rw [hl, ← ht] at hr
      rw [hr]
      exact ih _ _ { acc with nums := acc.nums ++ v.nums.take n } hf (by simp [ha]) hd hp
    cases f with
    | num w => exact key 1 w h
    | rep n w => exact key n w h
    | repBy i k w =>
      have hi : acc.a i = all.getD i 0 := by
        have : i < acc.nums.length := by have := h.1; rw [ha, List.length_append] at this; omega
        simp only [Vals.a, ha, List.getD_append _ _ _ _ this]
      have := key (all.getD i 0 * k) w h.2
      simp only [readFlds, putFlds, hi]; exact this
    | arr n =>
      obtain ⟨rfl, h2, h3, h4⟩ := h
      have hpad : padTo n v.data = v.data := by
        rw [← h4, padTo]; simp
      simp only [readFlds, putFlds, hpad]
      rw [if_neg (by rw [List.length_append]; omega), if_pos (by rw [List.length_append, h4])]
      rw [List.drop_left, ← h4, List.take_length]
      rw [h2, List.append_nil] at ha
      simp [ha, h3, hp]
    | rest =>
      obtain ⟨rfl, h2, h3⟩ := h
      simp only [readFlds, putFlds, if_true, List.drop_left]
      rw [h2, List.append_nil] at ha
      simp [ha, h3, hp]
    | mask ns =>
      obtain ⟨rfl, h2, h3, h4, h5⟩ := h
      have hr := fitsPars_rises h5
      have hg := fitsPars_get h5
      have hlt : ∀ e ∈ v.pars, e.1 < 32 := fun e he => Nat.lt_of_lt_of_le (fitsPars_lt h5 e he) h4
      have hm := maskOf_bit hr
      have hM : maskOf v.pars < 2 ^ (8 * 4) := maskOf_lt hr hlt
      have hW : ∀ x ∈ wordsOf v.pars, x < 2 ^ (8 * 4) := by
        intro x hx
        simp only [wordsOf, List.mem_flatMap, List.mem_map] at hx
        obtain ⟨_, _, y, _, rfl⟩ := hx; exact y.isLt
      have hpw : parWords ns (maskOf v.pars) = (wordsOf v.pars).length := by
        rw [wordsOf_length hg, parWords, List.range_eq_range', filter_bits 32 hr (fun e he => by have := hlt e he; omega) fun j _ => hm j]
      have r1 := readNums_put out 4 [maskOf v.pars] ((wordsOf v.pars).flatMap (leBytes 4)) (by decide) (by simpa using hM)
      simp only [List.flatMap_cons, List.flatMap_nil, List.append_nil] at r1
      generalize ho : out ++ padBytes out.length 4 ++ leBytes 4 (maskOf v.pars) = o1 at r1
      have hp4 : padBytes o1.length 4 = [] := by
        have : o1.length % 4 = 0 := by
          rw [← ho]; simp only [List.length_append, leBytes_length, padBytes, List.length_replicate]
          have := Nat.div_add_mod (out.length + 4 - 1) 4
          omega
        unfold padBytes; rw [show (o1.length + 4 - 1) / 4 * 4 - o1.length = 0 by omega]; rfl
      have r2 := readNums_put o1 4 (wordsOf v.pars) [] (by decide) hW
      simp only [hp4, List.append_nil] at r2
      have hput : putFlds all [Fld.mask ns] out v = o1 ++ (wordsOf v.pars).flatMap (leBytes 4) := by
        simp only [putFlds]; rw [words_flat, ← ho]; rfl
      rw [hput]
      simp only [readFlds]
      rw [show ([maskOf v.pars] : List Nat).length = 1 from rfl] at r1
      rw [r1]; simp only [List.headD_cons]; rw [hpw, r2]; simp only [if_true]
      rw [takePars_words 32 hr (fun e he => by have := hlt e he; omega) hg fun j _ => hm j]
      rw [h2, List.append_nil] at ha
      simp [ha, h3, hd]

theorem words_le {ns : List Nat} {ps : Params} (h : fitsPars ns ps = true) : (wordsOf ps).length ≤ ns.foldl (· + ·) 0 := by
  have fold : ∀ (l : List Nat) (a : Nat), l.foldl (· + ·) a = a + l.foldl (· + ·) 0 := by
    intro l
    induction l with
    | nil => intro a; rfl
    | cons x l ih => intro a; rw [List.foldl_cons, List.foldl_cons, ih (a + x), ih (0 + x)]; omega
  have drop : ∀ (lo b : Nat), lo ≤ b → b < ns.length →
      ns[b]! + (ns.drop (b + 1)).foldl (· + ·) 0 ≤ (ns.drop lo).foldl (· + ·) 0 := by
    intro lo b hl hb
    obtain ⟨d, rfl⟩ := Nat.exists_eq_add_of_le hl
    induction d generalizing lo with
    | zero =>
      rw [Nat.add_zero] at hb ⊢
      rw [List.drop_eq_getElem_cons hb, List.foldl_cons, fold _ (0 + ns[lo]), getElem!_pos ns lo hb]; omega
    | succ d ih =>
      have := ih (lo + 1) (by omega) (by omega)
      rw [List.drop_eq_getElem_cons (by omega : lo < ns.length), List.foldl_cons, fold _ (0 + _)]
      rw [show lo + (d + 1) = lo + 1 + d by omega]; omega
  have main : ∀ (ps : Params) (lo : Nat), Rises lo ps → (∀ e ∈ ps, ns[e.1]? = some e.2.length) →
      (wordsOf ps).length ≤ (ns.drop lo).foldl (· + ·) 0 := by
    intro ps
    induction ps with
    | nil => intro lo _ _; exact Nat.zero_le _
    | cons e ps ih =>
      intro lo hr hg
      have h1 := hg e List.mem_cons_self
      obtain ⟨hb, he⟩ := List.getElem?_eq_some_iff.1 h1
      have h2 := drop lo e.1 hr.1 hb
      rw [getElem!_pos ns e.1 hb, he] at h2
      have h3 := ih (e.1 + 1) hr.2 fun x hx => hg x (List.mem_cons_of_mem _ hx)
      rw [show wordsOf (e :: ps) = e.2.map BitVec.toNat ++ wordsOf ps from rfl, List.length_append, List.length_map]
      omega
  exact main ps 0 (fitsPars_rises h) (fitsPars_get h)

/-- Fields written take no more bytes than `endsBy` says. -/
theorem putFlds_length (all : List Nat) (fs : List Fld) (out : List Byte) (v : Vals) (h : Fits all fs v) :
    (putFlds all fs out v).length ≤ endsBy all v.data.length fs out.length := by
  induction fs generalizing out v with
  | nil => exact Nat.le_refl _
  | cons f fs ih =>
    have key : ∀ n w, 0 < w ∧ n ≤ v.nums.length ∧ (∀ x ∈ v.nums.take n, x < 2 ^ (8 * w)) ∧ Fits all fs { v with nums := v.nums.drop n } →
        (putFlds all fs (out ++ padBytes out.length w ++ (v.nums.take n).flatMap (leBytes w)) { v with nums := v.nums.drop n }).length ≤
          endsBy all v.data.length fs ((out.length + w - 1) / w * w + n * w) := by
      rintro n w ⟨hw, hn, _, hf⟩
      have ha : out.length ≤ (out.length + w - 1) / w * w := by
        have := Nat.div_add_mod (out.length + w - 1) w
        have := Nat.mod_lt (out.length + w - 1) hw
        rw [Nat.mul_comm]; omega
      have := ih (out ++ padBytes out.length w ++ (v.nums.take n).flatMap (leBytes w)) { v with nums := v.nums.drop n } hf
      rwa [List.length_append, List.length_append, flat_length, padBytes, List.length_replicate, List.length_take,
        Nat.min_eq_left hn, show out.length + ((out.length + w - 1) / w * w - out.length) = (out.length + w - 1) / w * w by omega] at this
    cases f with
    | num w => exact key 1 w h
    | rep n w => exact key n w h
    | repBy i k w => exact key _ w h.2
    | arr n =>
      obtain ⟨rfl, h2, h3, h4⟩ := h
      simp [putFlds, endsBy, padTo]
    | rest =>
      obtain ⟨rfl, h2, h3⟩ := h
      simp [putFlds, endsBy]
    | mask ns =>
      obtain ⟨rfl, h2, h3, h4, h5⟩ := h
      have := words_le h5
      simp only [putFlds, endsBy, words_flat, List.length_append, flat_length, leBytes_length, padBytes, List.length_replicate]
      omega

/-! ### The envelope (R421) -/

theorem hdr_flag (b : Bool) : (leNat [if b then (4 : Byte) else 0]) = if b then 4 else 0 := by cases b <;> rfl

/-- A message whose values fit its fields is taken again as the message it was. -/
theorem requestOf_requestBytes {i : Instr} {r : Req} {op : Nat} {v : Vals} {e : Entry} (hm : messageOf i = some (r, op, v))
    (he : (catalogue.find? fun e => decide (e.opc = op)) = some e) (hop : op < 65536) (hs : r.seq < 2 ^ 32)
    (hf : Fits v.nums e.flds v) (hl : endsBy v.nums v.data.length e.flds 0 ≤ 2016) (hk : e.make r v = some i) :
    ∃ bs, requestBytes i = some bs ∧ requestOf r.mb bs = some i := by
  refine ⟨_, by unfold requestBytes; rw [hm]; simp only [Option.bind_some]; rw [he]; rfl, ?_⟩
  dsimp only
  have hp := readFlds_put v.nums e.flds [] v {} hf (by simp) rfl rfl
  have hlen := Nat.le_trans (putFlds_length v.nums e.flds [] v hf) hl
  generalize putFlds v.nums e.flds [] v = p at hp hlen
  have h0 : leBytes 2 op = [BitVec.ofNat 8 op, BitVec.ofNat 8 (op / 256)] := rfl
  have h1 : leBytes 4 r.seq = [BitVec.ofNat 8 r.seq, BitVec.ofNat 8 (r.seq / 256), BitVec.ofNat 8 (r.seq / 256 / 256),
    BitVec.ofNat 8 (r.seq / 256 / 256 / 256)] := rfl
  have h2 : leBytes 2 p.length = [BitVec.ofNat 8 p.length, BitVec.ofNat 8 (p.length / 256)] := rfl
  generalize hh : leBytes 2 op ++ [0, if r.persist then 4 else 0, 1] ++ List.replicate 7 0 ++ leBytes 4 r.seq ++
    leBytes 2 p.length ++ List.replicate 10 0 = h
  have hhl : h.length = 28 := by rw [← hh]; simp
  have hc : (crc32c (h ++ p)).toNat < 2 ^ (8 * 4) := (crc32c (h ++ p)).isLt
  generalize hcc : (crc32c (h ++ p)).toNat = c at hc
  have hcl : (leBytes 4 c).length = 4 := by simp
  have hd : ∀ k n, k + n ≤ 28 → hdrN (h ++ leBytes 4 c ++ p) k n = leNat ((h.drop k).take n) := by
    intro k n hkn
    unfold hdrN
    rw [List.append_assoc, List.drop_append_of_le_length (by omega), List.take_append_of_le_length (by rw [List.length_drop]; omega)]
  have hpay : ∀ n, n = p.length → ((h ++ leBytes 4 c ++ p).drop 32).take n = p := by
    rintro n rfl
    rw [List.drop_append_of_le_length (by rw [List.length_append]; omega), List.drop_of_length_le (by rw [List.length_append]; omega)]
    simp
  have hp2 : p.length < 2 ^ (8 * 2) := by omega
  have e16 : hdrN (h ++ leBytes 4 c ++ p) 16 2 = p.length := by
    rw [hd 16 2 (by decide), ← hh]
    have : leNat (leBytes 2 p.length) = p.length := leNat_leBytes hp2
    rw [h2] at this ⊢; rw [h0, h1]; exact this
  have e0 : hdrN (h ++ leBytes 4 c ++ p) 0 2 = op := by
    rw [hd 0 2 (by decide), ← hh]
    have : leNat (leBytes 2 op) = op := leNat_leBytes hop
    rw [h0] at this ⊢; rw [h2, h1]; exact this
  have e12 : hdrN (h ++ leBytes 4 c ++ p) 12 4 = r.seq := by
    rw [hd 12 4 (by decide), ← hh]
    have : leNat (leBytes 4 r.seq) = r.seq := leNat_leBytes hs
    rw [h1] at this ⊢; rw [h2, h0]; exact this
  have e3 : hdrN (h ++ leBytes 4 c ++ p) 3 1 = if r.persist then 4 else 0 := by
    rw [hd 3 1 (by decide), ← hh, h0, h1, h2]; exact hdr_flag _
  have e4 : hdrN (h ++ leBytes 4 c ++ p) 4 1 = 1 := by rw [hd 4 1 (by decide), ← hh, h0, h1, h2]; rfl
  have e28 : hdrN (h ++ leBytes 4 c ++ p) 28 4 = c := by
    unfold hdrN
    rw [List.append_assoc, List.drop_append_of_le_length (by omega), List.drop_of_length_le (by omega), List.nil_append,
      List.take_append_of_le_length (by omega), List.take_of_length_le (by omega), leNat_leBytes hc]
  have ez : ∀ k, k ∈ [2, 5, 6, 7, 8, 9, 10, 11, 18, 19, 20, 21, 22, 23, 24, 25, 26, 27] → hdrN (h ++ leBytes 4 c ++ p) k 1 = 0 := by
    intro k hk
    rw [hd k 1 (by simp only [List.mem_cons, List.not_mem_nil, or_false] at hk; omega), ← hh, h0, h1, h2]
    simp only [List.mem_cons, List.not_mem_nil, or_false] at hk
    rcases hk with rfl | rfl | rfl | rfl | rfl | rfl | rfl | rfl | rfl | rfl | rfl | rfl | rfl | rfl | rfl | rfl | rfl | rfl <;> rfl
  have hpl : payloadOf (h ++ leBytes 4 c ++ p) = p := by unfold payloadOf; rw [e16]; exact hpay _ rfl
  have hfr : framingBad true (h ++ leBytes 4 c ++ p) = [] := by
    unfold framingBad
    rw [if_pos e4, if_pos, e28, hpl, List.append_assoc, List.take_append_of_le_length (by omega), List.take_of_length_le (by omega), hcc,
      if_pos rfl]; rfl
    unfold lengthOk; rw [e16]
    simp only [List.length_append, hhl, hcl]
    simp; omega
  have hrb : reservedBad (h ++ leBytes 4 c ++ p) = [] := by
    unfold reservedBad
    rw [List.filter_eq_nil_iff.2 fun k hk => by rw [ez k hk]; decide, e3]
    cases r.persist <;> rfl
  unfold requestOf
  rw [if_neg (by rw [hfr, hrb]; simp), e0, he, hpl]
  simp only [Option.bind_some]
  rw [show ([] : List Byte).length = 0 from rfl] at hp
  rw [hp, e3, e12]
  have hper : bitAt (if r.persist = true then 4 else 0) 2 = r.persist := by cases r.persist <;> rfl
  rw [hper]; exact hk

end Sys2Proof.Machine
end

