-- ==== Sys2Proof/Laws/PerInstr.lean ====
section
/-! SUPPORT. Facts of the commands as syntax, one lemma a constructor. Catalogued: a command that is a message carries
an OPCODE that the catalogue lists, so that its request bytes can be written (R435). -/

namespace Sys2Proof.Laws
open Sys2Proof.Machine

/-- The OPCODE of a message stands in the catalogue (R435). -/
def Catalogued.Statement (i : Instr) : Prop :=
  ∀ m, messageOf i = some m → (catalogue.find? fun e => decide (e.opc = m.2.1)).isSome = true

theorem no_message {i : Instr} (h : messageOf i = none) : Catalogued.Statement i := fun m hm => by simp [h] at hm

theorem of_opcode {i : Instr} {r : Req} {op : Nat} {v : Vals} (h : messageOf i = some (r, op, v))
    (hc : (catalogue.find? fun e => decide (e.opc = op)).isSome = true) : Catalogued.Statement i := fun m hm => by
  rw [h] at hm
  cases hm
  exact hc

theorem Catalogued.auditEpochClose : ∀ a, Catalogued.Statement (.auditEpochClose a) := fun _ => no_message rfl
theorem Catalogued.guardGapTimeout : ∀ a, Catalogued.Statement (.guardGapTimeout a) := fun _ => no_message rfl
theorem Catalogued.internalResetRelease : ∀ a, Catalogued.Statement (.internalResetRelease a) := fun _ => no_message rfl
theorem Catalogued.haltUartLine : Catalogued.Statement .haltUartLine := no_message rfl
theorem Catalogued.resetNAssert : Catalogued.Statement .resetNAssert := no_message rfl
theorem Catalogued.porstNAssert : Catalogued.Statement .porstNAssert := no_message rfl
theorem Catalogued.pwrfailNAssert : Catalogued.Statement .pwrfailNAssert := no_message rfl
theorem Catalogued.powerOnDetect : Catalogued.Statement .powerOnDetect := no_message rfl
theorem Catalogued.avsTick : ∀ a b, Catalogued.Statement (.avsTick a b) := fun _ _ => no_message rfl
theorem Catalogued.speedMonitorEmergency : ∀ a, Catalogued.Statement (.speedMonitorEmergency a) := fun _ => no_message rfl
theorem Catalogued.avsAcknowledge : ∀ a b, Catalogued.Statement (.avsAcknowledge a b) := fun _ _ => no_message rfl
theorem Catalogued.coreFrequencyRaise : Catalogued.Statement .coreFrequencyRaise := no_message rfl
theorem Catalogued.thermalSensorRead : ∀ a, Catalogued.Statement (.thermalSensorRead a) := fun _ => no_message rfl
theorem Catalogued.thermalThrottleStep : Catalogued.Statement .thermalThrottleStep := no_message rfl
theorem Catalogued.thermalRelease : Catalogued.Statement .thermalRelease := no_message rfl
theorem Catalogued.thermalTrip : Catalogued.Statement .thermalTrip := no_message rfl
theorem Catalogued.loopSlot : ∀ a b c d, Catalogued.Statement (.loopSlot a b c d) := fun _ _ _ _ => no_message rfl
theorem Catalogued.positionSampleArrival : ∀ a b, Catalogued.Statement (.positionSampleArrival a b) := fun _ _ => no_message rfl
theorem Catalogued.addressWordDecoded : ∀ a b c, Catalogued.Statement (.addressWordDecoded a b c) := fun _ _ _ => no_message rfl
theorem Catalogued.toneLockDeclared : ∀ a, Catalogued.Statement (.toneLockDeclared a) := fun _ => no_message rfl
theorem Catalogued.toneLockLost : ∀ a, Catalogued.Statement (.toneLockLost a) := fun _ => no_message rfl
theorem Catalogued.holdoverTimeout : ∀ a, Catalogued.Statement (.holdoverTimeout a) := fun _ => no_message rfl
theorem Catalogued.headSelect : ∀ a b, Catalogued.Statement (.headSelect a b) := fun _ _ => no_message rfl
theorem Catalogued.acquisitionFail : ∀ a, Catalogued.Statement (.acquisitionFail a) := fun _ => no_message rfl
theorem Catalogued.zoneRatioApply : ∀ a, Catalogued.Statement (.zoneRatioApply a) := fun _ => no_message rfl
theorem Catalogued.zoneSettleEnd : ∀ a, Catalogued.Statement (.zoneSettleEnd a) := fun _ => no_message rfl
theorem Catalogued.rateOutOfRange : ∀ a, Catalogued.Statement (.rateOutOfRange a) := fun _ => no_message rfl
theorem Catalogued.demodParamApply : ∀ a, Catalogued.Statement (.demodParamApply a) := fun _ => no_message rfl
theorem Catalogued.lkbSetSurface : ∀ a b c d e f, Catalogued.Statement (.lkbSetSurface a b c d e f) := fun _ _ _ _ _ _ => of_opcode rfl rfl
theorem Catalogued.lkbSetZoneMap : ∀ a b c, Catalogued.Statement (.lkbSetZoneMap a b c) := fun _ _ _ => of_opcode rfl rfl
theorem Catalogued.lkbSetRatio : ∀ a b c d, Catalogued.Statement (.lkbSetRatio a b c d) := fun _ _ _ _ => of_opcode rfl rfl
theorem Catalogued.lkbSetGuard : ∀ a b c, Catalogued.Statement (.lkbSetGuard a b c) := fun _ _ _ => of_opcode rfl rfl
theorem Catalogued.lkbSetDemod : ∀ a b c d, Catalogued.Statement (.lkbSetDemod a b c d) := fun _ _ _ _ => of_opcode rfl rfl
theorem Catalogued.lkbGetStatus : ∀ a b c, Catalogued.Statement (.lkbGetStatus a b c) := fun _ _ _ => of_opcode rfl rfl
theorem Catalogued.lkbReadPosition : ∀ a b, Catalogued.Statement (.lkbReadPosition a b) := fun _ _ => of_opcode rfl rfl
theorem Catalogued.lawDeadlineMiss : ∀ a b, Catalogued.Statement (.lawDeadlineMiss a b) := fun _ _ => no_message rfl
theorem Catalogued.vcmMissRetract : ∀ a, Catalogued.Statement (.vcmMissRetract a) := fun _ => no_message rfl
theorem Catalogued.seekTarget : ∀ a b, Catalogued.Statement (.seekTarget a b) := fun _ _ => no_message rfl
theorem Catalogued.trajStopPlan : ∀ a, Catalogued.Statement (.trajStopPlan a) := fun _ => no_message rfl
theorem Catalogued.seekAbort : ∀ a, Catalogued.Statement (.seekAbort a) := fun _ => no_message rfl
theorem Catalogued.followRmsCheck : ∀ a, Catalogued.Statement (.followRmsCheck a) := fun _ => no_message rfl
theorem Catalogued.actuatorLoad : ∀ a, Catalogued.Statement (.actuatorLoad a) := fun _ => no_message rfl
theorem Catalogued.actuatorUnload : ∀ a, Catalogued.Statement (.actuatorUnload a) := fun _ => no_message rfl
theorem Catalogued.rampStopReached : ∀ a, Catalogued.Statement (.rampStopReached a) := fun _ => no_message rfl
theorem Catalogued.writeReadySet : ∀ a, Catalogued.Statement (.writeReadySet a) := fun _ => no_message rfl
theorem Catalogued.blendEnd : ∀ a b, Catalogued.Statement (.blendEnd a b) := fun _ _ => no_message rfl
theorem Catalogued.maRampEnd : ∀ a, Catalogued.Statement (.maRampEnd a) := fun _ => no_message rfl
theorem Catalogued.holdEntry : ∀ a, Catalogued.Statement (.holdEntry a) := fun _ => no_message rfl
theorem Catalogued.holdTimeoutRetract : ∀ a, Catalogued.Statement (.holdTimeoutRetract a) := fun _ => no_message rfl
theorem Catalogued.twinRegistration : ∀ a, Catalogued.Statement (.twinRegistration a) := fun _ => no_message rfl
theorem Catalogued.twinFallback : ∀ a b c, Catalogued.Statement (.twinFallback a b c) := fun _ _ _ => no_message rfl
theorem Catalogued.twinFallbackHandover : ∀ a, Catalogued.Statement (.twinFallbackHandover a) := fun _ => no_message rfl
theorem Catalogued.twinStreamRelease : ∀ a, Catalogued.Statement (.twinStreamRelease a) := fun _ => no_message rfl
theorem Catalogued.twinHoldoffExpiry : ∀ a b c, Catalogued.Statement (.twinHoldoffExpiry a b c) := fun _ _ _ => no_message rfl
theorem Catalogued.loopSetLaw : ∀ a b c d e f, Catalogued.Statement (.loopSetLaw a b c d e f) := fun _ _ _ _ _ _ => of_opcode rfl rfl
theorem Catalogued.loopSetRwo : ∀ a b c, Catalogued.Statement (.loopSetRwo a b c) := fun _ _ _ => of_opcode rfl rfl
theorem Catalogued.loopSetMaGain : ∀ a b c, Catalogued.Statement (.loopSetMaGain a b c) := fun _ _ _ => of_opcode rfl rfl
theorem Catalogued.loopSetSeek : ∀ a b c, Catalogued.Statement (.loopSetSeek a b c) := fun _ _ _ => of_opcode rfl rfl
theorem Catalogued.loopSetFollow : ∀ a b c, Catalogued.Statement (.loopSetFollow a b c) := fun _ _ _ => of_opcode rfl rfl
theorem Catalogued.loopSetTwin : ∀ a b c, Catalogued.Statement (.loopSetTwin a b c) := fun _ _ _ => of_opcode rfl rfl
theorem Catalogued.loopGetStatus : ∀ a b c, Catalogued.Statement (.loopGetStatus a b c) := fun _ _ _ => of_opcode rfl rfl
theorem Catalogued.pwmPeriodStart : Catalogued.Statement .pwmPeriodStart := no_message rfl
theorem Catalogued.currentSamplesReady : ∀ a b c, Catalogued.Statement (.currentSamplesReady a b c) := fun _ _ _ => no_message rfl
theorem Catalogued.overcurrentTrip : Catalogued.Statement .overcurrentTrip := no_message rfl
theorem Catalogued.coastRestart : Catalogued.Statement .coastRestart := no_message rfl
theorem Catalogued.observerLock : Catalogued.Statement .observerLock := no_message rfl
theorem Catalogued.observerLockLoss : Catalogued.Statement .observerLockLoss := no_message rfl
theorem Catalogued.indexCrossing : ∀ a b, Catalogued.Statement (.indexCrossing a b) := fun _ _ => no_message rfl
theorem Catalogued.currentLawMissCoast : Catalogued.Statement .currentLawMissCoast := no_message rfl
theorem Catalogued.speedLawSample : ∀ a b, Catalogued.Statement (.speedLawSample a b) := fun _ _ => no_message rfl
theorem Catalogued.listenComplete : Catalogued.Statement .listenComplete := no_message rfl
theorem Catalogued.brakeDecision : ∀ a b, Catalogued.Statement (.brakeDecision a b) := fun _ _ => no_message rfl
theorem Catalogued.standstillDeclared : Catalogued.Statement .standstillDeclared := no_message rfl
theorem Catalogued.alignComplete : Catalogued.Statement .alignComplete := no_message rfl
theorem Catalogued.startFail : Catalogued.Statement .startFail := no_message rfl
theorem Catalogued.freeRampStart : Catalogued.Statement .freeRampStart := no_message rfl
theorem Catalogued.speedPolicyEval : ∀ a, Catalogued.Statement (.speedPolicyEval a) := fun _ => no_message rfl
theorem Catalogued.dirtyHoldRelease : Catalogued.Statement .dirtyHoldRelease := no_message rfl
theorem Catalogued.underspeed : Catalogued.Statement .underspeed := no_message rfl
theorem Catalogued.chopperFault : Catalogued.Statement .chopperFault := no_message rfl
theorem Catalogued.holdupEntry : Catalogued.Statement .holdupEntry := no_message rfl
theorem Catalogued.spnSetSpeed : ∀ a b c, Catalogued.Statement (.spnSetSpeed a b c) := fun _ _ _ => of_opcode rfl rfl
theorem Catalogued.spnSetPolicy : ∀ a b, Catalogued.Statement (.spnSetPolicy a b) := fun _ _ => of_opcode rfl rfl
theorem Catalogued.spnSetLimits : ∀ a b, Catalogued.Statement (.spnSetLimits a b) := fun _ _ => of_opcode rfl rfl
theorem Catalogued.spnSetMotor : ∀ a b, Catalogued.Statement (.spnSetMotor a b) := fun _ _ => of_opcode rfl rfl
theorem Catalogued.spnStart : ∀ a, Catalogued.Statement (.spnStart a) := fun _ => of_opcode rfl rfl
theorem Catalogued.spnStop : ∀ a, Catalogued.Statement (.spnStop a) := fun _ => of_opcode rfl rfl
theorem Catalogued.spnGetStatus : ∀ a b, Catalogued.Statement (.spnGetStatus a b) := fun _ _ => of_opcode rfl rfl
theorem Catalogued.sectorReadStart : ∀ a b, Catalogued.Statement (.sectorReadStart a b) := fun _ _ => no_message rfl
theorem Catalogued.sectorDecodeDone : ∀ a b, Catalogued.Statement (.sectorDecodeDone a b) := fun _ _ => no_message rfl
theorem Catalogued.sectorResultPost : ∀ a, Catalogued.Statement (.sectorResultPost a) := fun _ => no_message rfl
theorem Catalogued.deepDecodeStart : Catalogued.Statement .deepDecodeStart := no_message rfl
theorem Catalogued.deepDecodeDone : ∀ a b, Catalogued.Statement (.deepDecodeDone a b) := fun _ _ => no_message rfl
theorem Catalogued.recoveryLimitExpiry : ∀ a b c, Catalogued.Statement (.recoveryLimitExpiry a b c) := fun _ _ _ => no_message rfl
theorem Catalogued.formatApply : ∀ a, Catalogued.Statement (.formatApply a) := fun _ => no_message rfl
theorem Catalogued.syncParamApply : ∀ a b, Catalogued.Statement (.syncParamApply a b) := fun _ _ => no_message rfl
theorem Catalogued.chnSetFormat : ∀ a b c d, Catalogued.Statement (.chnSetFormat a b c d) := fun _ _ _ _ => of_opcode rfl rfl
theorem Catalogued.chnSetFrontend : ∀ a b c d, Catalogued.Statement (.chnSetFrontend a b c d) := fun _ _ _ _ => of_opcode rfl rfl
theorem Catalogued.chnSetEq : ∀ a b c d e, Catalogued.Statement (.chnSetEq a b c d e) := fun _ _ _ _ _ => of_opcode rfl rfl
theorem Catalogued.chnSetDetector : ∀ a b c d, Catalogued.Statement (.chnSetDetector a b c d) := fun _ _ _ _ => of_opcode rfl rfl
theorem Catalogued.chnSetSync : ∀ a b c d, Catalogued.Statement (.chnSetSync a b c d) := fun _ _ _ _ => of_opcode rfl rfl
theorem Catalogued.chnSetRecovery : ∀ a b c, Catalogued.Statement (.chnSetRecovery a b c) := fun _ _ _ => of_opcode rfl rfl
theorem Catalogued.chnGetStatus : ∀ a b c, Catalogued.Statement (.chnGetStatus a b c) := fun _ _ _ => of_opcode rfl rfl
theorem Catalogued.chnCapture : ∀ a b c d e, Catalogued.Statement (.chnCapture a b c d e) := fun _ _ _ _ _ => of_opcode rfl rfl
theorem Catalogued.writeOrderDispatch : ∀ a b, Catalogued.Statement (.writeOrderDispatch a b) := fun _ _ => no_message rfl
theorem Catalogued.htrReadySet : ∀ a, Catalogued.Statement (.htrReadySet a) := fun _ => no_message rfl
theorem Catalogued.assistEnableRise : ∀ a, Catalogued.Statement (.assistEnableRise a) := fun _ => no_message rfl
theorem Catalogued.writeGateOpen : ∀ a, Catalogued.Statement (.writeGateOpen a) := fun _ => no_message rfl
theorem Catalogued.writeSectorEnd : ∀ a, Catalogued.Statement (.writeSectorEnd a) := fun _ => no_message rfl
theorem Catalogued.writeUnderrun : ∀ a, Catalogued.Statement (.writeUnderrun a) := fun _ => no_message rfl
theorem Catalogued.writeRunEnd : ∀ a, Catalogued.Statement (.writeRunEnd a) := fun _ => no_message rfl
theorem Catalogued.sectorRewrite : ∀ a b c, Catalogued.Statement (.sectorRewrite a b c) := fun _ _ _ => no_message rfl
theorem Catalogued.ffPersist : Catalogued.Statement .ffPersist := no_message rfl
theorem Catalogued.heaterHoldEnd : ∀ a, Catalogued.Statement (.heaterHoldEnd a) := fun _ => no_message rfl
theorem Catalogued.contactRearm : ∀ a, Catalogued.Statement (.contactRearm a) := fun _ => no_message rfl
theorem Catalogued.wrpSetFormat : ∀ a b c d, Catalogued.Statement (.wrpSetFormat a b c d) := fun _ _ _ _ => of_opcode rfl rfl
theorem Catalogued.wrpSetAssist : ∀ a b c d, Catalogued.Statement (.wrpSetAssist a b c d) := fun _ _ _ _ => of_opcode rfl rfl
theorem Catalogued.wrpSetFh : ∀ a b c d, Catalogued.Statement (.wrpSetFh a b c d) := fun _ _ _ _ => of_opcode rfl rfl
theorem Catalogued.wrpSetLimits : ∀ a b, Catalogued.Statement (.wrpSetLimits a b) := fun _ _ => of_opcode rfl rfl
theorem Catalogued.wrpSetWear : ∀ a b c, Catalogued.Statement (.wrpSetWear a b c) := fun _ _ _ => of_opcode rfl rfl
theorem Catalogued.wrpOpenBand : ∀ a b c, Catalogued.Statement (.wrpOpenBand a b c) := fun _ _ _ => of_opcode rfl rfl
theorem Catalogued.wrpCloseBand : ∀ a b c, Catalogued.Statement (.wrpCloseBand a b c) := fun _ _ _ => of_opcode rfl rfl
theorem Catalogued.wrpStop : ∀ a b, Catalogued.Statement (.wrpStop a b) := fun _ _ => of_opcode rfl rfl
theorem Catalogued.wrpRelease : ∀ a b, Catalogued.Statement (.wrpRelease a b) := fun _ _ => of_opcode rfl rfl
theorem Catalogued.wrpGetStatus : ∀ a b c, Catalogued.Statement (.wrpGetStatus a b c) := fun _ _ _ => of_opcode rfl rfl
theorem Catalogued.wrpGetWear : ∀ a b, Catalogued.Statement (.wrpGetWear a b) := fun _ _ => of_opcode rfl rfl
theorem Catalogued.preampDownstreamFrame : ∀ a, Catalogued.Statement (.preampDownstreamFrame a) := fun _ => no_message rfl
theorem Catalogued.preampUpstreamFrame : ∀ a b, Catalogued.Statement (.preampUpstreamFrame a b) := fun _ _ => no_message rfl
theorem Catalogued.pslTxFrame : Catalogued.Statement .pslTxFrame := no_message rfl
theorem Catalogued.pslRxFrame : ∀ a, Catalogued.Statement (.pslRxFrame a) := fun _ => no_message rfl
theorem Catalogued.regRequestTimeout : ∀ a b, Catalogued.Statement (.regRequestTimeout a b) := fun _ _ => no_message rfl
theorem Catalogued.linkTrainingTimeout : ∀ a, Catalogued.Statement (.linkTrainingTimeout a) := fun _ => no_message rfl
theorem Catalogued.linkTrainingRetry : ∀ a, Catalogued.Statement (.linkTrainingRetry a) := fun _ => no_message rfl
theorem Catalogued.preampLinkLost : ∀ a, Catalogued.Statement (.preampLinkLost a) := fun _ => no_message rfl
theorem Catalogued.pslLinkLost : Catalogued.Statement .pslLinkLost := no_message rfl
theorem Catalogued.plkGetStatus : ∀ a b c, Catalogued.Statement (.plkGetStatus a b c) := fun _ _ _ => of_opcode rfl rfl
theorem Catalogued.pslGetStatus : ∀ a b, Catalogued.Statement (.pslGetStatus a b) := fun _ _ => of_opcode rfl rfl
theorem Catalogued.plkRegAccess : ∀ a b c d e, Catalogued.Statement (.plkRegAccess a b c d e) := fun _ _ _ _ _ => of_opcode rfl rfl
theorem Catalogued.pslRegAccess : ∀ a b c d, Catalogued.Statement (.pslRegAccess a b c d) := fun _ _ _ _ => of_opcode rfl rfl
theorem Catalogued.lnkSetLimits : ∀ a b, Catalogued.Statement (.lnkSetLimits a b) := fun _ _ => of_opcode rfl rfl
theorem Catalogued.pslSetSafe : ∀ a b, Catalogued.Statement (.pslSetSafe a b) := fun _ _ => of_opcode rfl rfl
theorem Catalogued.stripeDestageStart : ∀ a b, Catalogued.Statement (.stripeDestageStart a b) := fun _ _ => no_message rfl
theorem Catalogued.parityEngineDone : ∀ a, Catalogued.Statement (.parityEngineDone a) := fun _ => no_message rfl
theorem Catalogued.manifestEntryRecorded : ∀ a, Catalogued.Statement (.manifestEntryRecorded a) := fun _ => no_message rfl
theorem Catalogued.memberStripComplete : ∀ a b c d, Catalogued.Statement (.memberStripComplete a b c d) := fun _ _ _ _ => no_message rfl
theorem Catalogued.logStripeAged : ∀ a b, Catalogued.Statement (.logStripeAged a b) := fun _ _ => no_message rfl
theorem Catalogued.dredgeStart : Catalogued.Statement .dredgeStart := no_message rfl
theorem Catalogued.dredgeVictimDone : Catalogued.Statement .dredgeVictimDone := no_message rfl
theorem Catalogued.patrolStripeCheck : ∀ a b c, Catalogued.Statement (.patrolStripeCheck a b c) := fun _ _ _ => no_message rfl
theorem Catalogued.checkpointStart : Catalogued.Statement .checkpointStart := no_message rfl
theorem Catalogued.checkpointCommit : ∀ a b, Catalogued.Statement (.checkpointCommit a b) := fun _ _ => no_message rfl
theorem Catalogued.brtSetLayout : ∀ a b c, Catalogued.Statement (.brtSetLayout a b c) := fun _ _ _ => of_opcode rfl rfl
theorem Catalogued.brtSetLimits : ∀ a b, Catalogued.Statement (.brtSetLimits a b) := fun _ _ => of_opcode rfl rfl
theorem Catalogued.brtSetPatrol : ∀ a b, Catalogued.Statement (.brtSetPatrol a b) := fun _ _ => of_opcode rfl rfl
theorem Catalogued.brtSetCkpt : ∀ a b, Catalogued.Statement (.brtSetCkpt a b) := fun _ _ => of_opcode rfl rfl
theorem Catalogued.brtCheckpoint : ∀ a, Catalogued.Statement (.brtCheckpoint a) := fun _ => of_opcode rfl rfl
theorem Catalogued.brtGetBerth : ∀ a b c, Catalogued.Statement (.brtGetBerth a b c) := fun _ _ _ => of_opcode rfl rfl
theorem Catalogued.brtGetStatus : ∀ a b, Catalogued.Statement (.brtGetStatus a b) := fun _ _ => of_opcode rfl rfl
theorem Catalogued.headDeclared : ∀ a b, Catalogued.Statement (.headDeclared a b) := fun _ _ => no_message rfl
theorem Catalogued.actuatorDeclaredFailed : ∀ a, Catalogued.Statement (.actuatorDeclaredFailed a) := fun _ => no_message rfl
theorem Catalogued.rebuildEntryCreate : ∀ a, Catalogued.Statement (.rebuildEntryCreate a) := fun _ => no_message rfl
theorem Catalogued.rebuildEntryStart : ∀ a, Catalogued.Statement (.rebuildEntryStart a) := fun _ => no_message rfl
theorem Catalogued.rebuildStripeComplete : ∀ a b c d e, Catalogued.Statement (.rebuildStripeComplete a b c d e) := fun _ _ _ _ _ => no_message rfl
theorem Catalogued.copySwitch : ∀ a, Catalogued.Statement (.copySwitch a) := fun _ => no_message rfl
theorem Catalogued.relocation : ∀ a b c, Catalogued.Statement (.relocation a b c) := fun _ _ _ => no_message rfl
theorem Catalogued.shareWindow : Catalogued.Statement .shareWindow := no_message rfl
theorem Catalogued.checkpointHeadMove : Catalogued.Statement .checkpointHeadMove := no_message rfl
theorem Catalogued.reshapeSwitch : ∀ a, Catalogued.Statement (.reshapeSwitch a) := fun _ => no_message rfl
theorem Catalogued.brtSetHead : ∀ a b c, Catalogued.Statement (.brtSetHead a b c) := fun _ _ _ => of_opcode rfl rfl
theorem Catalogued.brtSetHealth : ∀ a b, Catalogued.Statement (.brtSetHealth a b) := fun _ _ => of_opcode rfl rfl
theorem Catalogued.brtSetRebuild : ∀ a b, Catalogued.Statement (.brtSetRebuild a b) := fun _ _ => of_opcode rfl rfl
theorem Catalogued.brtReshape : ∀ a b c d, Catalogued.Statement (.brtReshape a b c d) := fun _ _ _ _ => of_opcode rfl rfl
theorem Catalogued.brtGetRebuild : ∀ a b c, Catalogued.Statement (.brtGetRebuild a b c) := fun _ _ _ => of_opcode rfl rfl
theorem Catalogued.brtGetLost : ∀ a b c, Catalogued.Statement (.brtGetLost a b c) := fun _ _ _ => of_opcode rfl rfl
theorem Catalogued.brtGetReloc : ∀ a b, Catalogued.Statement (.brtGetReloc a b) := fun _ _ => of_opcode rfl rfl
theorem Catalogued.brtGetHead : ∀ a b, Catalogued.Statement (.brtGetHead a b) := fun _ _ => of_opcode rfl rfl
theorem Catalogued.sqTailDoorbell : ∀ a b c, Catalogued.Statement (.sqTailDoorbell a b c) := fun _ _ _ => no_message rfl
theorem Catalogued.cqHeadDoorbell : ∀ a b c, Catalogued.Statement (.cqHeadDoorbell a b c) := fun _ _ _ => no_message rfl
theorem Catalogued.doorbellFifoApply : ∀ a, Catalogued.Statement (.doorbellFifoApply a) := fun _ => no_message rfl
theorem Catalogued.mooringFill : ∀ a b c, Catalogued.Statement (.mooringFill a b c) := fun _ _ _ => no_message rfl
theorem Catalogued.arbiterGrant : Catalogued.Statement .arbiterGrant := no_message rfl
theorem Catalogued.sqEntryReturn : ∀ a, Catalogued.Statement (.sqEntryReturn a) := fun _ => no_message rfl
theorem Catalogued.hostDataReceived : ∀ a b c d, Catalogued.Statement (.hostDataReceived a b c d) := fun _ _ _ _ => no_message rfl
theorem Catalogued.writeIndexAck : ∀ a, Catalogued.Statement (.writeIndexAck a) := fun _ => no_message rfl
theorem Catalogued.completionPost : ∀ a, Catalogued.Statement (.completionPost a) := fun _ => no_message rfl
theorem Catalogued.capWindow : Catalogued.Statement .capWindow := no_message rfl
theorem Catalogued.tallyMinuteClose : Catalogued.Statement .tallyMinuteClose := no_message rfl
theorem Catalogued.orderWaitRelease : ∀ a, Catalogued.Statement (.orderWaitRelease a) := fun _ => no_message rfl
theorem Catalogued.heldWriteRelease : Catalogued.Statement .heldWriteRelease := no_message rfl
theorem Catalogued.pilotEntry : ∀ a, Catalogued.Statement (.pilotEntry a) := fun _ => no_message rfl
theorem Catalogued.pilotDispatch : ∀ a b, Catalogued.Statement (.pilotDispatch a b) := fun _ _ => no_message rfl
theorem Catalogued.mediaOperationEnd : ∀ a b, Catalogued.Statement (.mediaOperationEnd a b) := fun _ _ => no_message rfl
theorem Catalogued.sweptCommandEnd : ∀ a, Catalogued.Statement (.sweptCommandEnd a) := fun _ => no_message rfl
theorem Catalogued.deleteSqComplete : ∀ a, Catalogued.Statement (.deleteSqComplete a) := fun _ => no_message rfl
theorem Catalogued.controllerEnable : ∀ a b c d e f, Catalogued.Statement (.controllerEnable a b c d e f) := fun _ _ _ _ _ _ => no_message rfl
theorem Catalogued.controllerReset : ∀ a, Catalogued.Statement (.controllerReset a) := fun _ => no_message rfl
theorem Catalogued.functionLevelReset : ∀ a, Catalogued.Statement (.functionLevelReset a) := fun _ => no_message rfl
theorem Catalogued.hotReset : ∀ a, Catalogued.Statement (.hotReset a) := fun _ => no_message rfl
theorem Catalogued.perstAssert : ∀ a, Catalogued.Statement (.perstAssert a) := fun _ => no_message rfl
theorem Catalogued.perstDeassert : ∀ a, Catalogued.Statement (.perstDeassert a) := fun _ => no_message rfl
theorem Catalogued.nvmSubsystemReset : Catalogued.Statement .nvmSubsystemReset := no_message rfl
theorem Catalogued.itNexusLoss : ∀ a b, Catalogued.Statement (.itNexusLoss a b) := fun _ _ => no_message rfl
theorem Catalogued.createIoCq : ∀ a, Catalogued.Statement (.createIoCq a) := fun _ => no_message rfl
theorem Catalogued.createIoSq : ∀ a, Catalogued.Statement (.createIoSq a) := fun _ => no_message rfl
theorem Catalogued.deleteIoSq : ∀ a, Catalogued.Statement (.deleteIoSq a) := fun _ => no_message rfl
theorem Catalogued.deleteIoCq : ∀ a, Catalogued.Statement (.deleteIoCq a) := fun _ => no_message rfl
theorem Catalogued.identify : ∀ a, Catalogued.Statement (.identify a) := fun _ => no_message rfl
theorem Catalogued.getLogPage : ∀ a, Catalogued.Statement (.getLogPage a) := fun _ => no_message rfl
theorem Catalogued.getLogPageTally : ∀ a, Catalogued.Statement (.getLogPageTally a) := fun _ => no_message rfl
theorem Catalogued.setFeatures : ∀ a, Catalogued.Statement (.setFeatures a) := fun _ => no_message rfl
theorem Catalogued.setFeaturesTimestamp : ∀ a, Catalogued.Statement (.setFeaturesTimestamp a) := fun _ => no_message rfl
theorem Catalogued.getFeatures : ∀ a, Catalogued.Statement (.getFeatures a) := fun _ => no_message rfl
theorem Catalogued.asyncEventRequest : ∀ a, Catalogued.Statement (.asyncEventRequest a) := fun _ => no_message rfl
theorem Catalogued.abort : ∀ a, Catalogued.Statement (.abort a) := fun _ => no_message rfl
theorem Catalogued.namespaceManagementCreate : ∀ a, Catalogued.Statement (.namespaceManagementCreate a) := fun _ => no_message rfl
theorem Catalogued.namespaceManagementDelete : ∀ a, Catalogued.Statement (.namespaceManagementDelete a) := fun _ => no_message rfl
theorem Catalogued.namespaceAttach : ∀ a, Catalogued.Statement (.namespaceAttach a) := fun _ => no_message rfl
theorem Catalogued.namespaceDetach : ∀ a, Catalogued.Statement (.namespaceDetach a) := fun _ => no_message rfl
theorem Catalogued.firmwareImageDownload : ∀ a, Catalogued.Statement (.firmwareImageDownload a) := fun _ => no_message rfl
theorem Catalogued.firmwareCommitCa000 : ∀ a, Catalogued.Statement (.firmwareCommitCa000 a) := fun _ => no_message rfl
theorem Catalogued.firmwareCommitCa001 : ∀ a, Catalogued.Statement (.firmwareCommitCa001 a) := fun _ => no_message rfl
theorem Catalogued.firmwareCommitCa010 : ∀ a, Catalogued.Statement (.firmwareCommitCa010 a) := fun _ => no_message rfl
theorem Catalogued.firmwareCommitCa011 : ∀ a, Catalogued.Statement (.firmwareCommitCa011 a) := fun _ => no_message rfl
theorem Catalogued.virtualizationManagement : ∀ a, Catalogued.Statement (.virtualizationManagement a) := fun _ => no_message rfl
theorem Catalogued.formatNvm : ∀ a, Catalogued.Statement (.formatNvm a) := fun _ => no_message rfl
theorem Catalogued.sanitizeCryptoErase : ∀ a, Catalogued.Statement (.sanitizeCryptoErase a) := fun _ => no_message rfl
theorem Catalogued.securitySend : ∀ a b, Catalogued.Statement (.securitySend a b) := fun _ _ => no_message rfl
theorem Catalogued.securityReceive : ∀ a, Catalogued.Statement (.securityReceive a) := fun _ => no_message rfl
theorem Catalogued.opalAuthenticate : ∀ a b c, Catalogued.Statement (.opalAuthenticate a b c) := fun _ _ _ => no_message rfl
theorem Catalogued.opalGenkey : ∀ a, Catalogued.Statement (.opalGenkey a) := fun _ => no_message rfl
theorem Catalogued.opalRevert : Catalogued.Statement .opalRevert := no_message rfl
theorem Catalogued.opalRevertsp : Catalogued.Statement .opalRevertsp := no_message rfl
theorem Catalogued.getLbaStatus : ∀ a, Catalogued.Statement (.getLbaStatus a) := fun _ => no_message rfl
theorem Catalogued.deviceSelfTest : ∀ a, Catalogued.Statement (.deviceSelfTest a) := fun _ => no_message rfl
theorem Catalogued.read : ∀ a, Catalogued.Statement (.read a) := fun _ => no_message rfl
theorem Catalogued.write : ∀ a, Catalogued.Statement (.write a) := fun _ => no_message rfl
theorem Catalogued.flush : ∀ a, Catalogued.Statement (.flush a) := fun _ => no_message rfl
theorem Catalogued.writeZeroes : ∀ a, Catalogued.Statement (.writeZeroes a) := fun _ => no_message rfl
theorem Catalogued.datasetManagement : ∀ a, Catalogued.Statement (.datasetManagement a) := fun _ => no_message rfl
theorem Catalogued.verify : ∀ a, Catalogued.Statement (.verify a) := fun _ => no_message rfl
theorem Catalogued.reservationRegister : ∀ a, Catalogued.Statement (.reservationRegister a) := fun _ => no_message rfl
theorem Catalogued.reservationReport : ∀ a, Catalogued.Statement (.reservationReport a) := fun _ => no_message rfl
theorem Catalogued.reservationAcquire : ∀ a, Catalogued.Statement (.reservationAcquire a) := fun _ => no_message rfl
theorem Catalogued.reservationRelease : ∀ a, Catalogued.Statement (.reservationRelease a) := fun _ => no_message rfl
theorem Catalogued.zoneAppend : ∀ a, Catalogued.Statement (.zoneAppend a) := fun _ => no_message rfl
theorem Catalogued.zoneOpen : ∀ a, Catalogued.Statement (.zoneOpen a) := fun _ => no_message rfl
theorem Catalogued.zoneClose : ∀ a, Catalogued.Statement (.zoneClose a) := fun _ => no_message rfl
theorem Catalogued.zoneFinish : ∀ a, Catalogued.Statement (.zoneFinish a) := fun _ => no_message rfl
theorem Catalogued.zoneReset : ∀ a, Catalogued.Statement (.zoneReset a) := fun _ => no_message rfl
theorem Catalogued.zoneOffline : ∀ a, Catalogued.Statement (.zoneOffline a) := fun _ => no_message rfl
theorem Catalogued.reportZones : ∀ a, Catalogued.Statement (.reportZones a) := fun _ => no_message rfl
theorem Catalogued.inquiry : ∀ a b, Catalogued.Statement (.inquiry a b) := fun _ _ => no_message rfl
theorem Catalogued.reportLuns : ∀ a b, Catalogued.Statement (.reportLuns a b) := fun _ _ => no_message rfl
theorem Catalogued.testUnitReady : ∀ a b, Catalogued.Statement (.testUnitReady a b) := fun _ _ => no_message rfl
theorem Catalogued.requestSense : ∀ a b, Catalogued.Statement (.requestSense a b) := fun _ _ => no_message rfl
theorem Catalogued.readCapacity16 : ∀ a b, Catalogued.Statement (.readCapacity16 a b) := fun _ _ => no_message rfl
theorem Catalogued.read16 : ∀ a b, Catalogued.Statement (.read16 a b) := fun _ _ => no_message rfl
theorem Catalogued.write16 : ∀ a b, Catalogued.Statement (.write16 a b) := fun _ _ => no_message rfl
theorem Catalogued.verify16 : ∀ a b, Catalogued.Statement (.verify16 a b) := fun _ _ => no_message rfl
theorem Catalogued.synchronizeCache16 : ∀ a b, Catalogued.Statement (.synchronizeCache16 a b) := fun _ _ => no_message rfl
theorem Catalogued.unmap : ∀ a b, Catalogued.Statement (.unmap a b) := fun _ _ => no_message rfl
theorem Catalogued.formatUnit : ∀ a b, Catalogued.Statement (.formatUnit a b) := fun _ _ => no_message rfl
theorem Catalogued.scsiSanitize : ∀ a b, Catalogued.Statement (.scsiSanitize a b) := fun _ _ => no_message rfl
theorem Catalogued.modeSense10 : ∀ a b, Catalogued.Statement (.modeSense10 a b) := fun _ _ => no_message rfl
theorem Catalogued.modeSelect10 : ∀ a b, Catalogued.Statement (.modeSelect10 a b) := fun _ _ => no_message rfl
theorem Catalogued.logSense : ∀ a b, Catalogued.Statement (.logSense a b) := fun _ _ => no_message rfl
theorem Catalogued.startStopUnit : ∀ a b, Catalogued.Statement (.startStopUnit a b) := fun _ _ => no_message rfl
theorem Catalogued.writeBufferMode0e : ∀ a b, Catalogued.Statement (.writeBufferMode0e a b) := fun _ _ => no_message rfl
theorem Catalogued.writeBufferMode0f : ∀ a b, Catalogued.Statement (.writeBufferMode0f a b) := fun _ _ => no_message rfl
theorem Catalogued.writeBufferMode07 : ∀ a b, Catalogued.Statement (.writeBufferMode07 a b) := fun _ _ => no_message rfl
theorem Catalogued.readBuffer : ∀ a b, Catalogued.Statement (.readBuffer a b) := fun _ _ => no_message rfl
theorem Catalogued.securityProtocolIn : ∀ a b, Catalogued.Statement (.securityProtocolIn a b) := fun _ _ => no_message rfl
theorem Catalogued.securityProtocolOut : ∀ a b c, Catalogued.Statement (.securityProtocolOut a b c) := fun _ _ _ => no_message rfl
theorem Catalogued.persistentReserveIn : ∀ a b, Catalogued.Statement (.persistentReserveIn a b) := fun _ _ => no_message rfl
theorem Catalogued.persistentReserveOut : ∀ a b, Catalogued.Statement (.persistentReserveOut a b) := fun _ _ => no_message rfl
theorem Catalogued.scsiReportZones : ∀ a b, Catalogued.Statement (.scsiReportZones a b) := fun _ _ => no_message rfl
theorem Catalogued.resetWritePointer : ∀ a b, Catalogued.Statement (.resetWritePointer a b) := fun _ _ => no_message rfl
theorem Catalogued.openZone : ∀ a b, Catalogued.Statement (.openZone a b) := fun _ _ => no_message rfl
theorem Catalogued.closeZone : ∀ a b, Catalogued.Statement (.closeZone a b) := fun _ _ => no_message rfl
theorem Catalogued.finishZone : ∀ a b, Catalogued.Statement (.finishZone a b) := fun _ _ => no_message rfl
theorem Catalogued.mailboxSend : ∀ a b c, Catalogued.Statement (.mailboxSend a b c) := fun _ _ _ => no_message rfl
theorem Catalogued.mailboxReceive : ∀ a b c, Catalogued.Statement (.mailboxReceive a b c) := fun _ _ _ => no_message rfl
theorem Catalogued.mailboxReceiveNotify : ∀ a b c, Catalogued.Statement (.mailboxReceiveNotify a b c) := fun _ _ _ => no_message rfl
theorem Catalogued.abortTask : ∀ a b c, Catalogued.Statement (.abortTask a b c) := fun _ _ _ => no_message rfl
theorem Catalogued.abortTaskSet : ∀ a b, Catalogued.Statement (.abortTaskSet a b) := fun _ _ => no_message rfl
theorem Catalogued.clearTaskSet : ∀ a b, Catalogued.Statement (.clearTaskSet a b) := fun _ _ => no_message rfl
theorem Catalogued.logicalUnitReset : ∀ a b, Catalogued.Statement (.logicalUnitReset a b) := fun _ _ => no_message rfl
theorem Catalogued.iTNexusReset : ∀ a, Catalogued.Statement (.iTNexusReset a) := fun _ => no_message rfl
theorem Catalogued.queryTask : ∀ a b c, Catalogued.Statement (.queryTask a b c) := fun _ _ _ => no_message rfl
theorem Catalogued.queryTaskSet : ∀ a b, Catalogued.Statement (.queryTaskSet a b) := fun _ _ => no_message rfl
theorem Catalogued.queryAsynchronousEvent : ∀ a b, Catalogued.Statement (.queryAsynchronousEvent a b) := fun _ _ => no_message rfl
theorem Catalogued.clearAca : ∀ a b, Catalogued.Statement (.clearAca a b) := fun _ _ => no_message rfl
theorem Catalogued.quaySetMoormode : ∀ a b, Catalogued.Statement (.quaySetMoormode a b) := fun _ _ => of_opcode rfl rfl
theorem Catalogued.quaySetArb : ∀ a b, Catalogued.Statement (.quaySetArb a b) := fun _ _ => of_opcode rfl rfl
theorem Catalogued.quaySetAllot : ∀ a b c, Catalogued.Statement (.quaySetAllot a b c) := fun _ _ _ => of_opcode rfl rfl
theorem Catalogued.quayGetAllot : ∀ a b, Catalogued.Statement (.quayGetAllot a b) := fun _ _ => of_opcode rfl rfl
theorem Catalogued.quaySetAdmit : ∀ a b c, Catalogued.Statement (.quaySetAdmit a b c) := fun _ _ _ => of_opcode rfl rfl
theorem Catalogued.quaySetDrivePower : ∀ a b, Catalogued.Statement (.quaySetDrivePower a b) := fun _ _ => of_opcode rfl rfl
theorem Catalogued.quayGetMooring : ∀ a b c, Catalogued.Statement (.quayGetMooring a b c) := fun _ _ _ => of_opcode rfl rfl
theorem Catalogued.quayGetTag : ∀ a b, Catalogued.Statement (.quayGetTag a b) := fun _ _ => of_opcode rfl rfl
theorem Catalogued.tallyRead : ∀ a b c d, Catalogued.Statement (.tallyRead a b c d) := fun _ _ _ _ => of_opcode rfl rfl
theorem Catalogued.tallyClear : ∀ a b, Catalogued.Statement (.tallyClear a b) := fun _ _ => of_opcode rfl rfl
theorem Catalogued.dramRead : ∀ a b c, Catalogued.Statement (.dramRead a b c) := fun _ _ _ => no_message rfl
theorem Catalogued.dramWrite : ∀ a b c, Catalogued.Statement (.dramWrite a b c) := fun _ _ _ => no_message rfl
theorem Catalogued.dramNarrowWrite : ∀ a b, Catalogued.Statement (.dramNarrowWrite a b) := fun _ _ => no_message rfl
theorem Catalogued.mergeEntryTimeout : ∀ a b, Catalogued.Statement (.mergeEntryTimeout a b) := fun _ _ => no_message rfl
theorem Catalogued.scrubLine : ∀ a b, Catalogued.Statement (.scrubLine a b) := fun _ _ => no_message rfl
theorem Catalogued.dramRefresh : ∀ a, Catalogued.Statement (.dramRefresh a) := fun _ => no_message rfl
theorem Catalogued.dramTempRead : ∀ a b, Catalogued.Statement (.dramTempRead a b) := fun _ _ => no_message rfl
theorem Catalogued.selfRefreshEntry : ∀ a, Catalogued.Statement (.selfRefreshEntry a) := fun _ => no_message rfl
theorem Catalogued.selfRefreshExit : ∀ a b, Catalogued.Statement (.selfRefreshExit a b) := fun _ _ => no_message rfl
theorem Catalogued.dramRetrain : ∀ a b, Catalogued.Statement (.dramRetrain a b) := fun _ _ => no_message rfl
theorem Catalogued.drcGetStatus : ∀ a b, Catalogued.Statement (.drcGetStatus a b) := fun _ _ => of_opcode rfl rfl
theorem Catalogued.drcGetRegions : ∀ a, Catalogued.Statement (.drcGetRegions a) := fun _ => of_opcode rfl rfl
theorem Catalogued.drcSetScrub : ∀ a b, Catalogued.Statement (.drcSetScrub a b) := fun _ _ => of_opcode rfl rfl
theorem Catalogued.drcSetPort : ∀ a b c, Catalogued.Statement (.drcSetPort a b c) := fun _ _ _ => of_opcode rfl rfl
theorem Catalogued.drcSetTrain : ∀ a b, Catalogued.Statement (.drcSetTrain a b) := fun _ _ => of_opcode rfl rfl
theorem Catalogued.drcSetPower : ∀ a b, Catalogued.Statement (.drcSetPower a b) := fun _ _ => of_opcode rfl rfl
theorem Catalogued.drcInject : ∀ a b c, Catalogued.Statement (.drcInject a b c) := fun _ _ _ => of_opcode rfl rfl
theorem Catalogued.orderPost : ∀ a b, Catalogued.Statement (.orderPost a b) := fun _ _ => no_message rfl
theorem Catalogued.seqEventLine : ∀ a b, Catalogued.Statement (.seqEventLine a b) := fun _ _ => no_message rfl
theorem Catalogued.seqTimerExpiry : ∀ a, Catalogued.Statement (.seqTimerExpiry a) := fun _ => no_message rfl
theorem Catalogued.watchdogExpiry : ∀ a, Catalogued.Statement (.watchdogExpiry a) := fun _ => no_message rfl
theorem Catalogued.networkAccessTimeout : ∀ a, Catalogued.Statement (.networkAccessTimeout a) := fun _ => no_message rfl
theorem Catalogued.networkWriteError : ∀ a, Catalogued.Statement (.networkWriteError a) := fun _ => no_message rfl
theorem Catalogued.moveDone : ∀ a, Catalogued.Statement (.moveDone a) := fun _ => no_message rfl
theorem Catalogued.storeAudit : ∀ a b, Catalogued.Statement (.storeAudit a b) := fun _ _ => no_message rfl
theorem Catalogued.nop : ∀ a b, Catalogued.Statement (.nop a b) := fun _ _ => no_message rfl
theorem Catalogued.yield : ∀ a b, Catalogued.Statement (.yield a b) := fun _ _ => no_message rfl
theorem Catalogued.commit : ∀ a b, Catalogued.Statement (.commit a b) := fun _ _ => no_message rfl
theorem Catalogued.halt : ∀ a b, Catalogued.Statement (.halt a b) := fun _ _ => no_message rfl
theorem Catalogued.fault : ∀ a b, Catalogued.Statement (.fault a b) := fun _ _ => no_message rfl
theorem Catalogued.getord : ∀ a b, Catalogued.Statement (.getord a b) := fun _ _ => no_message rfl
theorem Catalogued.dispatch : ∀ a b, Catalogued.Statement (.dispatch a b) := fun _ _ => no_message rfl
theorem Catalogued.post : ∀ a b, Catalogued.Statement (.post a b) := fun _ _ => no_message rfl
theorem Catalogued.evt : ∀ a b, Catalogued.Statement (.evt a b) := fun _ _ => no_message rfl
theorem Catalogued.iret : ∀ a b, Catalogued.Statement (.iret a b) := fun _ _ => no_message rfl
theorem Catalogued.add : ∀ a b, Catalogued.Statement (.add a b) := fun _ _ => no_message rfl
theorem Catalogued.sub : ∀ a b, Catalogued.Statement (.sub a b) := fun _ _ => no_message rfl
theorem Catalogued.and : ∀ a b, Catalogued.Statement (.and a b) := fun _ _ => no_message rfl
theorem Catalogued.or : ∀ a b, Catalogued.Statement (.or a b) := fun _ _ => no_message rfl
theorem Catalogued.xor : ∀ a b, Catalogued.Statement (.xor a b) := fun _ _ => no_message rfl
theorem Catalogued.shl : ∀ a b, Catalogued.Statement (.shl a b) := fun _ _ => no_message rfl
theorem Catalogued.shr : ∀ a b, Catalogued.Statement (.shr a b) := fun _ _ => no_message rfl
theorem Catalogued.sar : ∀ a b, Catalogued.Statement (.sar a b) := fun _ _ => no_message rfl
theorem Catalogued.mul : ∀ a b, Catalogued.Statement (.mul a b) := fun _ _ => no_message rfl
theorem Catalogued.mulhu : ∀ a b, Catalogued.Statement (.mulhu a b) := fun _ _ => no_message rfl
theorem Catalogued.min : ∀ a b, Catalogued.Statement (.min a b) := fun _ _ => no_message rfl
theorem Catalogued.max : ∀ a b, Catalogued.Statement (.max a b) := fun _ _ => no_message rfl
theorem Catalogued.minu : ∀ a b, Catalogued.Statement (.minu a b) := fun _ _ => no_message rfl
theorem Catalogued.maxu : ∀ a b, Catalogued.Statement (.maxu a b) := fun _ _ => no_message rfl
theorem Catalogued.cmp : ∀ a b, Catalogued.Statement (.cmp a b) := fun _ _ => no_message rfl
theorem Catalogued.crc : ∀ a b, Catalogued.Statement (.crc a b) := fun _ _ => no_message rfl
theorem Catalogued.addi : ∀ a b, Catalogued.Statement (.addi a b) := fun _ _ => no_message rfl
theorem Catalogued.andi : ∀ a b, Catalogued.Statement (.andi a b) := fun _ _ => no_message rfl
theorem Catalogued.ori : ∀ a b, Catalogued.Statement (.ori a b) := fun _ _ => no_message rfl
theorem Catalogued.xori : ∀ a b, Catalogued.Statement (.xori a b) := fun _ _ => no_message rfl
theorem Catalogued.shli : ∀ a b, Catalogued.Statement (.shli a b) := fun _ _ => no_message rfl
theorem Catalogued.shri : ∀ a b, Catalogued.Statement (.shri a b) := fun _ _ => no_message rfl
theorem Catalogued.sari : ∀ a b, Catalogued.Statement (.sari a b) := fun _ _ => no_message rfl
theorem Catalogued.movi : ∀ a b, Catalogued.Statement (.movi a b) := fun _ _ => no_message rfl
theorem Catalogued.lui : ∀ a b, Catalogued.Statement (.lui a b) := fun _ _ => no_message rfl
theorem Catalogued.cmpi : ∀ a b, Catalogued.Statement (.cmpi a b) := fun _ _ => no_message rfl
theorem Catalogued.ld : ∀ a b, Catalogued.Statement (.ld a b) := fun _ _ => no_message rfl
theorem Catalogued.st : ∀ a b, Catalogued.Statement (.st a b) := fun _ _ => no_message rfl
theorem Catalogued.ldn : ∀ a b, Catalogued.Statement (.ldn a b) := fun _ _ => no_message rfl
theorem Catalogued.stn : ∀ a b, Catalogued.Statement (.stn a b) := fun _ _ => no_message rfl
theorem Catalogued.atom : ∀ a b, Catalogued.Statement (.atom a b) := fun _ _ => no_message rfl
theorem Catalogued.move : ∀ a b, Catalogued.Statement (.move a b) := fun _ _ => no_message rfl
theorem Catalogued.inPort : ∀ a b, Catalogued.Statement (.inPort a b) := fun _ _ => no_message rfl
theorem Catalogued.inc : ∀ a b, Catalogued.Statement (.inc a b) := fun _ _ => no_message rfl
theorem Catalogued.outPort : ∀ a b, Catalogued.Statement (.outPort a b) := fun _ _ => no_message rfl
theorem Catalogued.br : ∀ a b, Catalogued.Statement (.br a b) := fun _ _ => no_message rfl
theorem Catalogued.call : ∀ a b, Catalogued.Statement (.call a b) := fun _ _ => no_message rfl
theorem Catalogued.ret : ∀ a b, Catalogued.Statement (.ret a b) := fun _ _ => no_message rfl
theorem Catalogued.bri : ∀ a b, Catalogued.Statement (.bri a b) := fun _ _ => no_message rfl
theorem Catalogued.loop : ∀ a b, Catalogued.Statement (.loop a b) := fun _ _ => no_message rfl
theorem Catalogued.seqGetStatus : ∀ a b c, Catalogued.Statement (.seqGetStatus a b c) := fun _ _ _ => of_opcode rfl rfl
theorem Catalogued.seqResume : ∀ a b, Catalogued.Statement (.seqResume a b) := fun _ _ => of_opcode rfl rfl
theorem Catalogued.seqSetLimits : ∀ a b, Catalogued.Statement (.seqSetLimits a b) := fun _ _ => of_opcode rfl rfl
theorem Catalogued.seqLoad : ∀ a b c d e f g, Catalogued.Statement (.seqLoad a b c d e f g) := fun _ _ _ _ _ _ _ => of_opcode rfl rfl
theorem Catalogued.seqSwap : ∀ a b, Catalogued.Statement (.seqSwap a b) := fun _ _ => of_opcode rfl rfl
theorem Catalogued.mbxReqTailWrite : ∀ a b, Catalogued.Statement (.mbxReqTailWrite a b) := fun _ _ => no_message rfl
theorem Catalogued.mbxRespHeadWrite : ∀ a b, Catalogued.Statement (.mbxRespHeadWrite a b) := fun _ _ => no_message rfl
theorem Catalogued.mbxNtfHeadWrite : ∀ a b, Catalogued.Statement (.mbxNtfHeadWrite a b) := fun _ _ => no_message rfl
theorem Catalogued.registerWrite : ∀ a b c, Catalogued.Statement (.registerWrite a b c) := fun _ _ _ => no_message rfl
theorem Catalogued.mailboxRequestStart : ∀ a, Catalogued.Statement (.mailboxRequestStart a) := fun _ => no_message rfl
theorem Catalogued.uartFrame : ∀ a, Catalogued.Statement (.uartFrame a) := fun _ => no_message rfl
theorem Catalogued.nvmeMiCommand : ∀ a, Catalogued.Statement (.nvmeMiCommand a) := fun _ => no_message rfl
theorem Catalogued.lMessageDone : ∀ a b c d, Catalogued.Statement (.lMessageDone a b c d) := fun _ _ _ _ => no_message rfl
theorem Catalogued.nonceExpiry : ∀ a, Catalogued.Statement (.nonceExpiry a) := fun _ => no_message rfl
theorem Catalogued.authArmExpiry : ∀ a, Catalogued.Statement (.authArmExpiry a) := fun _ => no_message rfl
theorem Catalogued.authLockoutEnd : ∀ a, Catalogued.Statement (.authLockoutEnd a) := fun _ => no_message rfl
theorem Catalogued.mbxGetInfo : ∀ a, Catalogued.Statement (.mbxGetInfo a) := fun _ => of_opcode rfl rfl
theorem Catalogued.mbxGetNotify : ∀ a b, Catalogued.Statement (.mbxGetNotify a b) := fun _ _ => of_opcode rfl rfl
theorem Catalogued.mbxSetNotify : ∀ a b c d, Catalogued.Statement (.mbxSetNotify a b c d) := fun _ _ _ _ => of_opcode rfl rfl
theorem Catalogued.mbxSetPriv : ∀ a b c, Catalogued.Statement (.mbxSetPriv a b c) := fun _ _ _ => of_opcode rfl rfl
theorem Catalogued.mbxStageWrite : ∀ a b c, Catalogued.Statement (.mbxStageWrite a b c) := fun _ _ _ => of_opcode rfl rfl
theorem Catalogued.mbxStageRead : ∀ a b c, Catalogued.Statement (.mbxStageRead a b c) := fun _ _ _ => of_opcode rfl rfl
theorem Catalogued.mbxStageClear : ∀ a, Catalogued.Statement (.mbxStageClear a) := fun _ => of_opcode rfl rfl
theorem Catalogued.engineReinitFunction : ∀ a b, Catalogued.Statement (.engineReinitFunction a b) := fun _ _ => of_opcode rfl rfl
theorem Catalogued.engineReinitQuay : ∀ a, Catalogued.Statement (.engineReinitQuay a) := fun _ => of_opcode rfl rfl
theorem Catalogued.engineReinitSequencer : ∀ a b, Catalogued.Statement (.engineReinitSequencer a b) := fun _ _ => of_opcode rfl rfl
theorem Catalogued.engineReinitMailbox : ∀ a b, Catalogued.Statement (.engineReinitMailbox a b) := fun _ _ => of_opcode rfl rfl
theorem Catalogued.engineReinitTally : ∀ a, Catalogued.Statement (.engineReinitTally a) := fun _ => of_opcode rfl rfl
theorem Catalogued.engineReinitParity : ∀ a b, Catalogued.Statement (.engineReinitParity a b) := fun _ _ => of_opcode rfl rfl
theorem Catalogued.engineReinitDecoder : ∀ a b, Catalogued.Statement (.engineReinitDecoder a b) := fun _ _ => of_opcode rfl rfl
theorem Catalogued.hbmGetLedger : ∀ a b, Catalogued.Statement (.hbmGetLedger a b) := fun _ _ => of_opcode rfl rfl
theorem Catalogued.supplySample : ∀ a, Catalogued.Statement (.supplySample a) := fun _ => no_message rfl
theorem Catalogued.nvWriteInhibitEntry : Catalogued.Statement .nvWriteInhibitEntry := no_message rfl
theorem Catalogued.nvWriteInhibitEnd : Catalogued.Statement .nvWriteInhibitEnd := no_message rfl
theorem Catalogued.breakwaterStart : ∀ a, Catalogued.Statement (.breakwaterStart a) := fun _ => no_message rfl
theorem Catalogued.actuatorParked : ∀ a, Catalogued.Statement (.actuatorParked a) := fun _ => no_message rfl
theorem Catalogued.parkTimeout : ∀ a, Catalogued.Statement (.parkTimeout a) := fun _ => no_message rfl
theorem Catalogued.parkOpenLoopEnd : ∀ a, Catalogued.Statement (.parkOpenLoopEnd a) := fun _ => no_message rfl
theorem Catalogued.vaultPageProgramDone : ∀ a, Catalogued.Statement (.vaultPageProgramDone a) := fun _ => no_message rfl
theorem Catalogued.quiescentRelease : Catalogued.Statement .quiescentRelease := no_message rfl
theorem Catalogued.vaultAreaEraseDone : ∀ a, Catalogued.Statement (.vaultAreaEraseDone a) := fun _ => no_message rfl
theorem Catalogued.hostAdmission : Catalogued.Statement .hostAdmission := no_message rfl
theorem Catalogued.lcReset : Catalogued.Statement .lcReset := no_message rfl
theorem Catalogued.sessionKeyReady : Catalogued.Statement .sessionKeyReady := no_message rfl
theorem Catalogued.sessionKeySuccessor : Catalogued.Statement .sessionKeySuccessor := no_message rfl
theorem Catalogued.treeCacheRebuilt : Catalogued.Statement .treeCacheRebuilt := no_message rfl
theorem Catalogued.springTestFail : ∀ a, Catalogued.Statement (.springTestFail a) := fun _ => no_message rfl
theorem Catalogued.randomnessTimeout : ∀ a b, Catalogued.Statement (.randomnessTimeout a b) := fun _ _ => no_message rfl
theorem Catalogued.authChallenge : ∀ a b c, Catalogued.Statement (.authChallenge a b c) := fun _ _ _ => of_opcode rfl rfl
theorem Catalogued.authResponse : ∀ a b c, Catalogued.Statement (.authResponse a b c) := fun _ _ _ => of_opcode rfl rfl
theorem Catalogued.lcChange : ∀ a b, Catalogued.Statement (.lcChange a b) := fun _ _ => of_opcode rfl rfl
theorem Catalogued.debugUnlock : ∀ a b, Catalogued.Statement (.debugUnlock a b) := fun _ _ => of_opcode rfl rfl
theorem Catalogued.idGetCert : ∀ a b c, Catalogued.Statement (.idGetCert a b c) := fun _ _ _ => of_opcode rfl rfl
theorem Catalogued.attestQuote : ∀ a b, Catalogued.Statement (.attestQuote a b) := fun _ _ => of_opcode rfl rfl
theorem Catalogued.eventFlush : ∀ a b, Catalogued.Statement (.eventFlush a b) := fun _ _ => no_message rfl
theorem Catalogued.counterBlockWrite : ∀ a b, Catalogued.Statement (.counterBlockWrite a b) := fun _ _ => no_message rfl
theorem Catalogued.powerOnSecond : Catalogued.Statement .powerOnSecond := no_message rfl
theorem Catalogued.incidentClose : ∀ a, Catalogued.Statement (.incidentClose a) := fun _ => no_message rfl
theorem Catalogued.evtSetCursor : ∀ a b c, Catalogued.Statement (.evtSetCursor a b c) := fun _ _ _ => of_opcode rfl rfl
theorem Catalogued.evtRead : ∀ a b, Catalogued.Statement (.evtRead a b) := fun _ _ => of_opcode rfl rfl
theorem Catalogued.evtClear : ∀ a, Catalogued.Statement (.evtClear a) := fun _ => of_opcode rfl rfl
theorem Catalogued.ctrRead : ∀ a b c, Catalogued.Statement (.ctrRead a b c) := fun _ _ _ => of_opcode rfl rfl
theorem Catalogued.hbmGetIncident : ∀ a b, Catalogued.Statement (.hbmGetIncident a b) := fun _ _ => of_opcode rfl rfl
theorem Catalogued.fwCommit : ∀ a b c d e f g, Catalogued.Statement (.fwCommit a b c d e f g) := fun _ _ _ _ _ _ _ => of_opcode rfl rfl
theorem Catalogued.fwActivate : ∀ a b, Catalogued.Statement (.fwActivate a b) := fun _ _ => of_opcode rfl rfl
theorem Catalogued.slipwayBackout : ∀ a, Catalogued.Statement (.slipwayBackout a) := fun _ => no_message rfl
theorem Catalogued.fwGetSlots : ∀ a, Catalogued.Statement (.fwGetSlots a) := fun _ => of_opcode rfl rfl
theorem Catalogued.pwrSupplyPolicy : ∀ a b, Catalogued.Statement (.pwrSupplyPolicy a b) := fun _ _ => of_opcode rfl rfl
theorem Catalogued.pwrGetStatus : ∀ a, Catalogued.Statement (.pwrGetStatus a) := fun _ => of_opcode rfl rfl
theorem Catalogued.phaseVoltageSample : ∀ a b c, Catalogued.Statement (.phaseVoltageSample a b c) := fun _ _ _ => no_message rfl
theorem Catalogued.retractTExpiry : Catalogued.Statement .retractTExpiry := no_message rfl
theorem Catalogued.channelRateReturn : ∀ a, Catalogued.Statement (.channelRateReturn a) := fun _ => no_message rfl
theorem Catalogued.bootSpindleTimeout : Catalogued.Statement .bootSpindleTimeout := no_message rfl

end Sys2Proof.Laws
end

