-- ==== Sys2Proof/Laws/Seq.lean ====
section
/-! SUPPORT. What fetching a word leaves as it is: everything but the sequencer's cached lines and its port's pointer
(R404). -/

namespace Sys2Proof.Machine

/-- A fetch changes the cached lines of its sequencer and the pointers of the fetch ports, and nothing else. -/
theorem fetched_form (s : State) (n : Sq) : ∃ ls fp, fetched s n =
    updSeqDev (updSeq s n fun q => { q with lines := ls }) fun d => { d with fetchPtr := fp } := by
  unfold fetched
  by_cases h : s.seqs[n].lines.contains (s.seqs[n].r.pc.toNat / 8) = true
  · exact ⟨s.seqs[n].lines, s.seqDev.fetchPtr, by rw [if_pos h]; unfold updSeqDev updSeq; rw [vupd_same rfl]⟩
  · refine ⟨s.seqs[n].r.pc.toNat / 8 :: s.seqs[n].lines.filter fun x => decide (x % 32 ≠ s.seqs[n].r.pc.toNat / 8 % 32),
      vupd s.seqDev.fetchPtr (fetchPortOf n) fun _ => (n.val / 4 + 1) % 8, ?_⟩
    rw [if_neg h]; unfold updSeqDev updSeq; dsimp only
    congr 1

/-- The sequencer that fetches keeps all but its cached lines. -/
theorem fetched_self (s : State) (n : Sq) : ∃ ls, (fetched s n).seqs[n] = { s.seqs[n] with lines := ls } := by
  obtain ⟨ls, fp, h⟩ := fetched_form s n
  exact ⟨ls, by rw [h]; simp only [updSeqDev_seqs, updSeq_seqs, vupd_self]⟩

/-- A component that ignores the sequencers and their shared part is kept by a fetch. -/
theorem fetched_keeps {α : Type} (f : State → α) (hf : ∀ (s : State) v d, f { s with seqs := v, seqDev := d } = f s)
    (s : State) (n : Sq) : f (fetched s n) = f s := by
  obtain ⟨ls, fp, h⟩ := fetched_form s n
  rw [h]; exact hf s _ _

@[simp] theorem fetched_st (s : State) (n : Sq) : (fetched s n).seqs[n].st = s.seqs[n].st := by
  obtain ⟨ls, h⟩ := fetched_self s n; rw [h]
@[simp] theorem fetched_r (s : State) (n : Sq) : (fetched s n).seqs[n].r = s.seqs[n].r := by
  obtain ⟨ls, h⟩ := fetched_self s n; rw [h]
@[simp] theorem fetched_held (s : State) (n : Sq) : (fetched s n).seqs[n].held = s.seqs[n].held := by
  obtain ⟨ls, h⟩ := fetched_self s n; rw [h]
@[simp] theorem fetched_queue (s : State) (n : Sq) : (fetched s n).seqs[n].queue = s.seqs[n].queue := by
  obtain ⟨ls, h⟩ := fetched_self s n; rw [h]
@[simp] theorem fetched_active (s : State) (n : Sq) : (fetched s n).seqs[n].active = s.seqs[n].active := by
  obtain ⟨ls, h⟩ := fetched_self s n; rw [h]
@[simp] theorem fetched_ops (s : State) (n : Sq) : (fetched s n).seqs[n].ops = s.seqs[n].ops := by
  obtain ⟨ls, h⟩ := fetched_self s n; rw [h]
@[simp] theorem fetched_netErr (s : State) (n : Sq) : (fetched s n).seqs[n].netErr = s.seqs[n].netErr := by
  obtain ⟨ls, h⟩ := fetched_self s n; rw [h]
@[simp] theorem fetched_scratch (s : State) (n : Sq) : (fetched s n).seqs[n].scratch = s.seqs[n].scratch := by
  obtain ⟨ls, h⟩ := fetched_self s n; rw [h]
@[simp] theorem fetched_imask (s : State) (n : Sq) : (fetched s n).seqs[n].imask = s.seqs[n].imask := by
  obtain ⟨ls, h⟩ := fetched_self s n; rw [h]
@[simp] theorem fetched_freeCtr (s : State) (n : Sq) : (fetched s n).freeCtr = s.freeCtr :=
  fetched_keeps _ (fun _ _ _ => rfl) s n
@[simp] theorem fetched_dram (s : State) (n : Sq) : (fetched s n).dram = s.dram :=
  fetched_keeps _ (fun _ _ _ => rfl) s n
@[simp] theorem fetched_mbx (s : State) (n : Sq) : (fetched s n).mbx = s.mbx :=
  fetched_keeps _ (fun _ _ _ => rfl) s n
@[simp] theorem fetched_out (s : State) (n : Sq) : (fetched s n).out = s.out :=
  fetched_keeps _ (fun _ _ _ => rfl) s n
/-- The banks stand as they are. -/
@[simp] theorem fetched_banks (s : State) (n : Sq) : (fetched s n).seqDev.banks = s.seqDev.banks := by
  obtain ⟨ls, fp, h⟩ := fetched_form s n; rw [h]; rfl
@[simp] theorem fetched_seqBank (s : State) (n : Sq) (q : Sequencer) : seqBank (fetched s n) q = seqBank s q := by
  unfold seqBank; rw [fetched_banks]
/-- The other sequencers stand as they are. -/
theorem fetched_other (s : State) {n m : Sq} (h : m ≠ n) : (fetched s n).seqs[m] = s.seqs[m] := by
  obtain ⟨ls, fp, e⟩ := fetched_form s n; rw [e]; simp only [updSeqDev_seqs, updSeq_seqs]; exact vupd_ne _ _ (Ne.symm h)

/-- A word that is the one stored shows no parity error. -/
@[simp] theorem parityBad_same (b : Bank) (x : BitVec 32) : parityBad b x x = false := by
  have : parityDiffers x x = false := by rw [parityDiffers, BitVec.xor_self]; decide
  rw [parityBad, this, Bool.and_false]

end Sys2Proof.Machine
end

