-- ==== Sys2Proof/Machine/Package.lean ====
section
/-! DEFINITION. Package: what each ball of the package carries (R32 to R38). No command depends on it. -/

namespace Sys2Proof.Machine

/-- The supply groups (R38). -/
inductive SupplyRail where
  | vddCpu | vddSoc | vddAna | vddPll | vddDphy | vddqD | vddSerdes | vddhSerdes | vddio18 | vddio12 | vddAon | vss
  deriving DecidableEq, Repr

/-- What a ball carries. -/
inductive Ball where
  | signal (name : String)
  /-- no connection to the die (R37) -/
  | nc
  | rail (r : SupplyRail)
  deriving DecidableEq, Repr

/-- The regions of the array (R33). -/
inductive Region where
  | top | bottom | left | right | core
  deriving DecidableEq, Repr

/-- The region of a ball; rows are numbered 1 (A) to 38 (AY), columns 1 to 38 (R33). -/
def ballRegion (row col : Nat) : Region :=
  if row ≤ 5 then .top else if 34 ≤ row then .bottom else if col ≤ 5 then .left else if 34 ≤ col then .right else .core

/-- P or N. -/
def pn (k : Nat) : String := if k % 2 = 0 then "P" else "N"

/-- The ball of actuator `a`, place `k`, in row B or D (R34). -/
def preampBall (b : Bool) (a k : Nat) : String :=
  let n := toString a
  if b then (if k = 8 then "WG" ++ n else "RD" ++ n ++ "_" ++ toString (k / 2) ++ pn k)
  else if k < 2 then "WD" ++ n ++ "_" ++ pn k
  else if k < 4 then "PLD" ++ n ++ "_0" ++ pn k
  else if k < 6 then "PLD" ++ n ++ "_1" ++ pn k
  else if k < 8 then "PLU" ++ n ++ "_" ++ pn k
  else "AE" ++ n

/-- The ball of DRAM channel `c`, subchannel B where `sb`, place `k`, in row AT, AV or AY (R35). -/
def dramBall (row c : Nat) (sb : Bool) (k : Nat) : String :=
  let d := "D" ++ toString c
  let p := d ++ (if sb then "B" else "A") ++ "_"
  if row = 34 then p ++ "DQ[" ++ toString k ++ "]"
  else if row = 36 then p ++ (if k < 4 then "DQ[" ++ toString (8 + k) ++ "]" else ["WCK_T", "WCK_C", "RDQS_T", "RDQS_C"].getD (k - 4) "")
  else if k = 7 then d ++ (if sb then "_ZQ" else "_RST_N")
  else p ++ (if k < 4 then "CA[" ++ toString k ++ "]" else ["CK_T", "CK_C", "CS"].getD (k - 4) "")

/-- Rows F to AP: the balls in columns 2, 4, 35 and 37 (R36). -/
def sideBalls : List (Nat × Ball × Ball × Ball × Ball) :=
  [(6, .signal "PSL_TXP", .signal "PSL_TXN", .signal "PE_TX0_P", .signal "PE_TX0_N"),
   (7, .signal "PSL_RXP", .signal "PSL_RXN", .signal "PE_RX0_P", .signal "PE_RX0_N"),
   (8, .signal "SPG_EN[0]", .signal "SPG_EN[1]", .signal "PE_TX1_P", .signal "PE_TX1_N"),
   (9, .signal "SPG_EN[2]", .signal "SPG_EN[3]", .signal "PE_RX1_P", .signal "PE_RX1_N"),
   (10, .signal "SPG_EN[4]", .signal "SPG_EN[5]", .signal "REFCLKA_P", .signal "REFCLKA_N"),
   (11, .signal "ISH_P", .signal "ISH_N", .signal "PE_TX2_P", .signal "PE_TX2_N"),
   (12, .signal "VPH_U", .signal "VPH_V", .signal "PE_RX2_P", .signal "PE_RX2_N"),
   (13, .signal "VPH_W", .signal "VMON12", .signal "PE_TX3_P", .signal "PE_TX3_N"),
   (14, .signal "VMON5", .signal "PWRFAIL_N", .signal "PE_RX3_P", .signal "PE_RX3_N"),
   (15, .signal "PORST_N", .nc, .signal "REFCLKB_P", .signal "REFCLKB_N"),
   (16, .signal "XSPI_CK", .signal "XSPI_CS_N", .signal "PERSTA_N", .signal "PERSTB_N"),
   (17, .signal "XSPI_DS", .signal "XSPI_RST_N", .signal "CLKREQA_N", .signal "CLKREQB_N"),
   (18, .signal "XSPI_DQ[0]", .signal "XSPI_DQ[1]", .signal "HOST_RCAL", .nc),
   (19, .signal "XSPI_DQ[2]", .signal "XSPI_DQ[3]", .signal "MG_SCL", .signal "MG_SDA"),
   (20, .signal "XSPI_DQ[4]", .signal "XSPI_DQ[5]", .signal "MG_ALERT_N", .nc),
   (21, .signal "XSPI_DQ[6]", .signal "XSPI_DQ[7]", .signal "UART_TXD", .signal "UART_RXD"),
   (22, .signal "NF_DQ[0]", .signal "NF_DQ[1]", .signal "TCK", .signal "TMS"),
   (23, .signal "NF_DQ[2]", .signal "NF_DQ[3]", .signal "TDI", .signal "TDO"),
   (24, .signal "NF_DQ[4]", .signal "NF_DQ[5]", .signal "TRST_N", .nc),
   (25, .signal "NF_DQ[6]", .signal "NF_DQ[7]", .signal "AVS_CLK", .signal "AVS_MDATA"),
   (26, .signal "NF_DQS_T", .signal "NF_DQS_C", .signal "AVS_SDATA", .signal "VR_PGOOD"),
   (27, .signal "NF_RE_T", .signal "NF_RE_C", .signal "XT25_IN", .signal "XT25_OUT"),
   (28, .signal "NF_WE_N", .signal "NF_ALE", .signal "XT32K_IN", .signal "XT32K_OUT"),
   (29, .signal "NF_CLE", .signal "NF_WP_N", .signal "RESET_N", .signal "THERM_N"),
   (30, .signal "NF_CE_N[0]", .signal "NF_CE_N[1]", .signal "TD_P", .signal "TD_N"),
   (31, .signal "NF_RB_N[0]", .signal "NF_RB_N[1]", .signal "STRAP_HOST[0]", .signal "STRAP_HOST[1]"),
   (32, .nc, .nc, .signal "STRAP_BOOT", .signal "STRAP_TEST"),
   (33, .nc, .nc, .nc, .nc)]

/-- The supply group of a ball that carries no signal, VSS for every remaining one (R38). -/
def railAt (row col : Nat) : SupplyRail :=
  let core : Bool := decide (6 ≤ col) && decide (col ≤ 33)
  let even : Bool := decide ((row + col) % 2 = 0)
  if row = 35 ∨ row = 37 then
    (if [1, 2, 19, 20, 37, 38].contains col then .vddDphy
     else if col % 2 = 1 ∧ (3 ≤ col ∧ col ≤ 17 ∨ 21 ≤ col ∧ col ≤ 35) then .vddqD else .vss)
  else if row < 6 ∨ 34 ≤ row then .vss
  else if core then
    (if row = 6 then (if col % 2 = 0 ∧ col ≤ 32 then .vddPll else .vss)
     else if !even then .vss
     else if row ≤ 10 then .vddAna
     else if row ≤ 29 then (if col ≤ 19 then .vddCpu else .vddSoc)
     else .vddDphy)
  else if col = 3 then (if row ≤ 21 then .vddio18 else if 22 ≤ row then .vddio12 else .vss)
  else if col = 36 then (if row ≤ 15 then .vddSerdes else .vss)
  else if col = 38 then
    (if row ≤ 15 then .vddhSerdes else if row ≤ 23 then .vddio18 else if 24 ≤ row ∧ row ≤ 28 then .vddAon else .vss)
  else .vss

/-- The signal of a ball, `none` for a supply ball (R34 to R36). -/
def signalAt (row col : Nat) : Option Ball :=
  if row = 2 ∨ row = 4 then
    (if 2 ≤ col ∧ col ≤ 37 then some (.signal (preampBall (decide (row = 2)) ((col - 2) / 9) ((col - 2) % 9))) else none)
  else if row = 34 ∨ row = 36 ∨ row = 38 then
    (if 3 ≤ col ∧ col ≤ 18 then some (.signal (dramBall row 0 (decide (8 ≤ col - 3)) ((col - 3) % 8)))
     else if 21 ≤ col ∧ col ≤ 36 then some (.signal (dramBall row 1 (decide (8 ≤ col - 21)) ((col - 21) % 8)))
     else none)
  else match sideBalls.find? fun x => decide (x.1 = row) with
    | some x => if col = 2 then some x.2.1 else if col = 4 then some x.2.2.1
                else if col = 35 then some x.2.2.2.1 else if col = 37 then some x.2.2.2.2 else none
    | none => none

/-- What the ball in a row and a column carries. -/
def ball (row col : Nat) : Ball := (signalAt row col).getD (.rail (railAt row col))

/-- Balls of the array that something holds for. -/
def countBalls (p : Ball → Bool) : Nat :=
  (List.range 38).foldl (fun n r => (List.range 38).foldl (fun n c => if p (ball (r + 1) (c + 1)) then n + 1 else n) n) 0

end Sys2Proof.Machine
end

