-- ==== Sys2Proof/Tests/Slice0.lean ====
section
/-! SUPPORT. Tests: ill-formed commands that WellFormed refuses, worked examples of the spec, and for every statement with
hypotheses the inputs that meet them together. -/

namespace Sys2Proof.Tests
open Sys2Proof.Machine

/- Each theorem here is many kernel evaluations; one after the other they need far fewer threads. -/
set_option Elab.async false

/-! ### What WellFormed refuses -/

theorem test_wf_seq_wide : (Instr.mbxGetInfo { seq := 2 ^ 32 }).wf = false := by decide
theorem test_wf_seq_fits : (Instr.mbxGetInfo { seq := 2 ^ 32 - 1 }).wf = true := by decide
theorem test_wf_field_wide : (Instr.lkbGetStatus {} 256 0).wf = false := by decide
theorem test_wf_signed_low : (Instr.lkbSetSurface {} 0 0 2000 (-(2 ^ 31) - 1) (List.replicate 256 0)).wf = false := by decide
theorem test_wf_signed_high : (Instr.lkbSetSurface {} 0 0 2000 (2 ^ 31) (List.replicate 256 0)).wf = false := by decide
theorem test_wf_element_high : (Instr.lkbSetSurface {} 0 0 2000 0 (List.replicate 256 (2 ^ 15))).wf = false := by decide +kernel
theorem test_wf_list_short : (Instr.lkbSetZoneMap {} 0 (List.replicate 62 0)).wf = false := by decide
theorem test_wf_mask_beyond : (Instr.lnkSetLimits {} [(1, [0])]).wf = false := by decide
theorem test_wf_mask_elements : (Instr.lnkSetLimits {} [(0, [0, 0])]).wf = false := by decide
theorem test_wf_mask_falls : (Instr.brtSetPatrol {} [(1, [0]), (0, [0])]).wf = false := by decide
theorem test_wf_stage_long : (Instr.mbxStageWrite {} 0 (List.replicate 2013 0)).wf = false := by decide +kernel
theorem test_wf_law_count : (Instr.loopSetLaw {} 0 0 84 0 (List.replicate 504 0)).wf = false := by decide +kernel
theorem test_wf_opcode_wide : (Instr.sqEntryReturn { opc := 256 }).wf = false := by decide
theorem test_wf_doorbell_wide : (Instr.sqTailDoorbell 0 1 (2 ^ 32)).wf = false := by decide
theorem test_wf_register_odd : (Instr.registerWrite 0 2 none).wf = false := by decide

/-! ### Worked examples of the spec -/

/-- R34's example: ball B27 carries RD2_3N. -/
theorem test_ball_B27 : ball 2 27 = .signal "RD2_3N" := by decide
/-- R148's example: anchors 412 and 436 at 6,600 rpm, 4,800 eighths above 6,000 rpm, give 424. -/
theorem test_tap_half_way : tapAt 412 436 4800 = 424 := by decide
/-- R243's example: bytes 0x5A and 0x3C give P 0x66 and Q 0x22. -/
theorem test_parity_example :
    (parityP [[0x5A#8], [0x3C#8]], parityQ [[0x5A#8], [0x3C#8]]) = ([0x66#8], [0x22#8]) := by decide +kernel
/-- No row of the table gives bits, so no word spells a command. -/
theorem test_no_word_spells : decodeTableWord 16 0 = none := by decide

/-! ### States the tests start from -/

theorem ok_of {ε α : Type} {x : Except ε α} (h : x.toOption.isSome = true) : x = .ok (x.toOption.get h) := by
  cases x with
  | ok a => rfl
  | error e => cases h
theorem ok_spec {ε α : Type} {x : Except ε α} (h : x.toOption.isSome = true) : x = .ok (x.toOption.get h) := ok_of h
theorem some_spec {α : Type} {x : Option α} (h : x.isSome = true) : x = some (x.get h) := by
  cases x with
  | some a => rfl
  | none => cases h
theorem some_pair {α β : Type} {x : Option (α × β)} (h : x.isSome = true) : x = some ((x.get h).1, (x.get h).2) := some_spec h
theorem ok_pair {ε α β : Type} {x : Except ε (α × β)} (h : x.toOption.isSome = true) :
    x = .ok ((x.toOption.get h).1, (x.toOption.get h).2) := ok_of h
def wb : State :=
  { State.reset with
    phase := .run
    sec := { State.reset.sec with life := .manufacture }
    bw := { State.reset.bw with inputs := vupd State.reset.bw.inputs 10 fun x => { x with mv := 1800 } } }
/-- A write path with everything R187 asks for, and the run that waits on it. -/
def wbBand : Band := { desc := { tracks := 4 } }
def wbRun : Run := { ord := { count := 2 } }
def wbWrite : State :=
  { wb with
    surfaces := vupd wb.surfaces 0 fun x => { x with rings := [(0, 16)], tracks := 100 }
    heads := vupd wb.heads 0 fun x => { x with surface := 0, ratio := vupd x.ratio 0 fun _ => { n := 1000, m := 1 } }
    streams := vupd wb.streams 0 fun x =>
      { x with selected := true, toneLock := true, fine := true, trackValid := true, angleValid := true }
    chz := vupd wb.chz 0 fun x => vupd x 0 fun c => { c with slotTc := 2000 }
    acts := vupd wb.acts 0 fun x => { x with writeReady := true, mode := .follow }
    spn := { wb.spn with xferOk := true, st := .run }
    wheads := vupd wb.wheads 0 fun x => { x with htrReady := true }
    plks := vupd wb.plks 0 fun x => { x with wackV := true, wack := 0, l := { x.l with st := .up } }
    wps := vupd wb.wps 0 fun x =>
      { x with assistReady := true, buffer := [[]], bands := vupd x.bands 0 fun _ => some wbBand, run := some wbRun } }
def wbRead : State :=
  { wbWrite with streams := vupd wbWrite.streams 0 fun x => { x with sample := 0x8000000000000000#64 } }
def goodFrame (sync : Nat) : BitVec 128 :=
  let w := BitVec.ofNat 128 sync
  w ||| (frameCrc (frameRaw w)).setWidth 128 <<< 112
/-- The header of an information block with PSA 0 and GEN 0, and the CHECK of a block of no data. -/
def goodBlock : List Byte :=
  let h := List.replicate 7 0 ++ [0x40] ++ List.replicate 4 0
  h ++ leBytes 4 (crc32c h).toNat
/-- A drive with room on its first surface. -/
def wbBig : State :=
  { wbWrite with
    surfaces := vupd wbWrite.surfaces 0 fun x => { x with tracks := 4000000 }
    chz := vupd wbWrite.chz 0 fun x => vupd x 0 fun c => { c with slotTc := 600 } }
def wbNs : Ns := { nsid := 1, size := 1048576, attached := [0] }
def wbZns : Ns := { nsid := 1, size := 1048576, attached := [0], zoned := true }
/-- The record of a command admitted as tag 0. -/
def wbRec (q : Nat) (c : HostCmd) : TagRec := { stage := 1, qid := q, cmd := c }
/-- A device with one namespace, function 0 enabled with its queues, and one tag in use. -/
def wbOn (b : State) (n : Ns) (r : TagRec) : State :=
  { b with
    nv := { b.nv with namespaces := [n] }
    quay := { b.quay with
      funcs := [{ idx := 0, en := true, rdy := true, online := true, vq := 8, vi := 8 }]
      moorings := [{ func := 0, qid := 0, sqMade := true, cqMade := true, st := 1, sqSize := 31, cqSize := 31, sqTail := 1 },
        { func := 0, qid := 1, sqMade := true, cqMade := true, st := 1, sqSize := 31, cqSize := 31 }] }
    cmds := { b.cmds with tags := [r] } }
def wbCmd (n : Ns) (r : TagRec) : State := wbOn wb n r
/-- The SAS personality with one logical unit. -/
def wbSas (n : Ns) : State :=
  { wb with nv := { wb.nv with namespaces := [n] }, quay := { wb.quay with sas := true, funcs := [{ idx := 0 }] } }
/-- The state once the command `c` has its tag and is granted. -/
def uOf (s : State) (lu : Fn) (c : HostCmd) (t : Tag) : State :=
  match nextSas (sasTaken s lu c t) lu with
  | some r0 => sasEntered (sasTaken s lu c t) r0
  | none => s
/-- Its record then. -/
def rOf (s : State) (lu : Fn) (c : HostCmd) (t : Tag) : TagRec := (tagAt (uOf s lu c t) t).getD {}
/-- What a grant asks of the state before. -/
def sasOk (s : State) (lu : Fn) (c : HostCmd) (t : Tag) : Bool :=
  sasUp s && hostIo s && admits (knowNexus s c.nexus) lu (sasAdminOps.contains c.opc) &&
    decide (nextTag (knowNexus s c.nexus) = some t) && decide (c.attr ≠ 4) &&
    (sasAlways.contains c.opc || decide (attnOf (takeTag (knowNexus s c.nexus) lu c t) lu c.nexus = none)) &&
    decide (chooseFn (sasTaken s lu c t) = some lu) && (tagAt (uOf s lu c t) t).isSome &&
    decide ((rOf s lu c t).tag = t) && decide ((rOf s lu c t).cmd = c) && decide ((rOf s lu c t).func = lu) &&
    (uOf s lu c t).quay.sas && (match nextSas (sasTaken s lu c t) lu with | some r0 => decide (r0.tag = t) | none => false)
theorem granted_of {s : State} {lu : Fn} {c : HostCmd} {t : Tag} (h : sasOk s lu c t = true) :
    SasGranted s lu c t (uOf s lu c t) (rOf s lu c t) := by
  simp only [sasOk, Bool.and_eq_true, Bool.or_eq_true, decide_eq_true_eq] at h
  obtain ⟨⟨⟨⟨⟨⟨⟨⟨⟨⟨⟨⟨h1, h2⟩, h3⟩, h4⟩, h5⟩, h6⟩, h7⟩, h8⟩, h9⟩, h10⟩, h11⟩, h12⟩, h13⟩ := h
  refine ⟨h1, h2, h3, h4, h5, h6, h7, ?_, h9, h10, h11, h12, ?_⟩
  · unfold rOf; obtain ⟨x, hx⟩ := Option.isSome_iff_exists.mp h8; rw [hx]; rfl
  · unfold uOf
    cases hn : nextSas (sasTaken s lu c t) lu with
    | none => rw [hn] at h13; cases h13
    | some r0 => rw [hn] at h13; exact ⟨r0, rfl, of_decide_eq_true h13, rfl⟩
def wbMbx (m : Mailbox) : State := { wbSas wbNs with mbx := vupd wb.mbx 0 fun _ => m }

/-- Sequencer 0 runs with the word `x` at its program counter, 0. -/
def wbSeq (q : Sequencer) (x : Nat) : State :=
  { wb with
    seqs := vupd wb.seqs 0 fun _ => { q with st := .run }
    seqDev := { wb.seqDev with banks := vupd wb.seqDev.banks 0 fun b => { b with words := [(0, BitVec.ofNat 32 x)] } } }
/-- An admitted message that an armed authorisation allows. -/
theorem adm_sg {s : State} {r : Req} {m : Msg} (hg : gateOf s r.mb m.opc = 0) (ha : authorised s r.mb m = true)
    (h : (!r.persist && lifeAccepts s m && holds s r.mb m.need && !s.bw.inhibit && decide (s.mbx[r.mb].lMsgs.length < 8)) = true)
    (hs : m.scope = none) : Admitted s r m := by
  simp only [Bool.and_eq_true, Bool.not_eq_true', decide_eq_true_eq] at h
  obtain ⟨⟨⟨⟨h1, h2⟩, h3⟩, h4⟩, h5⟩ := h
  refine ⟨hg, ?_⟩
  unfold refusal
  rw [h1, h2, h3, hs, h4, ha]
  simp
  intro _; exact h5
/-- The first word of a DATA region of 2 MiB at 0. -/
def wbReg : BitVec 64 := 1#64 <<< 63
/-- A request as bytes, its CHECK right: opcode, SEQ 0, no payload. -/
def goodReq (op : Nat) : List Byte :=
  let h := leBytes 2 op ++ [0, 0] ++ [1] ++ List.replicate 23 0
  h ++ leBytes 4 (crc32c h).toNat
/-- A package of a BLANK part in the download buffer: no signatures, a microcode image of 2,065 words of zeros. -/
def wbPkg : SMap Byte :=
  [(0, 0x47), (1, 0x4B), (2, 0x50), (3, 0x46), (4, 1), (16, 64), (24, 64), (28, 0x84), (29, 0x20), (32, 64),
   (64, 0x49), (65, 0x4D), (66, 0x51), (67, 0x53), (68, 1), (76, 0x11), (77, 0x08)]

/-- The levels of a supply that is up. -/
def wbRails : Vector SupplyIn 16 :=
  (#v[12000, 5000, 800, 750, 900, 900, 750, 500, 750, 1200, 1800, 1200, 0, 0, 0, 0] : Vector Nat 16).map fun v => { mv := v }

/-! ### Inputs that meet each statement's hypotheses -/

/-- Inputs that meet the hypotheses of each clause of `LakebedComplete`, in their order. -/
theorem test_LakebedComplete_met :
    (∃ (s : State) (m : Strm), powered s = true ∧ s.streams[m].selected = true ∧ gateOpenOn s s.streams[m].head = false ∧
        s.sec.life ≠ .manufacture) ∧
    (∃ (s : State) (h : Hd) (x : PosSample) (u : Nat), cyclePos s.heads[h].lin (windowSegs s.heads[h].demod.rdsel x) = some u) ∧
    (∃ (s : State) (a : Act), powered s = true ∧ s.wps[a].wg = true) ∧
    (∃ (s : State) (m : Strm) (w : BitVec 80), powered s = true ∧ s.streams[m].selected = true ∧ s.streams[m].toneLock = true ∧
        wordSync w = true ∧ wordCrcOk w = false ∧ gateOpenOn s s.streams[m].head = true) ∧
    (∃ (s : State) (w : BitVec 80), powered s = true ∧ wordSync w = false) ∧
    (∃ (s : State) (m : Strm) (w : BitVec 80), powered s = true ∧ s.streams[m].selected = true ∧ s.streams[m].toneLock = true ∧
        wordSync w = true ∧ s.streams[m].trackValid = false ∧ wordCrcOk w = false ∧ gateOpenOn s s.streams[m].head = false) ∧
    (∃ (s : State) (m : Strm) (w : BitVec 80) (f : WordFacts), powered s = true ∧ s.streams[m].selected = true ∧
        s.streams[m].toneLock = true ∧ wordSync w = true ∧ wordCrcOk w = true ∧ acquireWord s m w f = true) ∧
    (∃ (s : State) (m : Strm), powered s = true ∧ s.streams[m].selected = true ∧ s.streams[m].lost = true ∧
        s.streams[m].toneLock = false) ∧
    (∃ (s : State) (m : Strm), powered s = true ∧ s.streams[m].selected = true ∧ s.streams[m].lost = false ∧
        s.streams[m].toneLock = false) ∧
    (∃ (s : State) (m : Strm), powered s = true ∧ s.streams[m].toneLock = true) ∧
    (∃ (s : State) (m : Strm), powered s = true ∧ s.streams[m].holdover = true ∧ s.streams[m].toneLock = false ∧
        s.streams[m].lost = false) ∧
    (∃ (s : State) (m : Strm) (h : Hd), powered s = true ∧ inDrive s h = true ∧ actOf s h = actOfStream m ∧ breaksRun s m h = false) ∧
    (∃ (s : State) (m : Strm), powered s = true ∧ s.streams[m].selected = true ∧ 2 ≤ s.streams[m].acqStep ∧ s.streams[m].acqStep ≤ 4) ∧
    (∃ (s : State) (m : Strm) (z : Zn), powered s = true ∧ s.streams[m].selected = true ∧ s.streams[m].ratioPend = true ∧
        gatesClosed s m = true ∧ zoneAt (surfOf s s.streams[m].head) s.streams[m].track = z) ∧
    (∃ (s : State), powered s = true) ∧
    (∃ (s : State) (m : Strm), powered s = true ∧ s.streams[m].selected = true ∧ s.streams[m].rateClamped = false ∧
        gateOpenOn s s.streams[m].head = false) ∧
    (∃ (s : State) (h : Hd) (d : Demod), powered s = true ∧ gateOpenOn s h = false ∧ s.heads[h].demodHeld = some d ∧
        s.heads[h].bwHeld = none) ∧
    (∃ (s : State) (h : Hd) (d : Demod) (m : Strm) (bw : Nat), powered s = true ∧ gateOpenOn s h = false ∧
        s.heads[h].demodHeld = some d ∧ (s.heads[h].bwHeld = some (m, bw))) ∧
    (∃ (s : State) (r : Req) (head : Nat) (pL : Nat), ((s.sec.life = .manufacture ∨ s.sec.life = .ret)) ∧ 1200 ≤ pL ∧ pL ≤ 4000 ∧
        selHeads s head ≠ [] ∧ (Admitted s r { opc := 0x0201, need := .fa, setter := true })) ∧
    (∃ (s : State) (r : Req) (first : List Nat), first.length = 63 ∧ rising first = true ∧ first.all (· < 2 ^ 24) = true ∧
        (Admitted s r { opc := 0x0202, setter := true })) ∧
    (∃ (s : State) (r : Req) (head : Nat) (zone : Nat) (word : BitVec 32), selHeads s head ≠ [] ∧ selZones zone ≠ [] ∧
        fld word.toNat 10 6 = 0 ∧ ratioOk (fld word.toNat 16 16) (fld word.toNat 0 10) = true ∧
        (Admitted s r { opc := 0x0203, setter := true })) ∧
    (∃ (s : State) (r : Req) (word : BitVec 32), fld word.toNat 30 2 = 0 ∧ guardOk (guardWord word) = true ∧
        (Admitted s r { opc := 0x0204, setter := true })) ∧
    (∃ (s : State) (r : Req) (head : Nat) (m : Strm) (ps : Params) (s' : State), selHeads s head ≠ [] ∧
        foldExcept (selHeads s head) s (demodHead m ps) = .ok s' ∧ (Admitted s r { opc := 0x0205, setter := true })) ∧
    (∃ (s : State) (h : Hd) (m : Strm) (ps : Params) (d : Demod) (bw : Nat), (anyBit ps [0, 1, 2] = true) ∧
        (applyPars demodPars (fun _ => []) ps ((s.heads[h].demodHeld).getD s.heads[h].demod, s.streams[m].toneBw) = .ok (d, bw))) ∧
    (∃ (s : State) (h : Hd) (m : Strm) (ps : Params) (d : Demod) (bw : Nat), (anyBit ps [0, 1, 2] = false) ∧
        (applyPars demodPars (fun _ => []) ps ((s.heads[h].demodHeld).getD s.heads[h].demod, s.streams[m].toneBw) = .ok (d, bw))) ∧
    (∃ (s : State) (r : Req), (Admitted s r { opc := 0x0206, need := .rd })) ∧
    (∃ (s : State) (r : Req), (Admitted s r { opc := 0x0207, need := .rd })) :=
  ⟨⟨(fun z : State => { z with sec.life := .field }) ((fun z : State => { z with streams := vupd z.streams 0 fun y => { y with selected := true } }) (wb)),
      0, by decide +kernel, by decide +kernel, by decide +kernel, by decide +kernel⟩,
   ⟨wb, 0, { segs := #v[[{ a := 1, d := 1 }], [], []] }, _, some_spec (by decide +kernel)⟩,
   ⟨(fun z : State => { z with wps := vupd z.wps 0 fun y => { y with wg := true } }) (wb), 0, by decide +kernel, by decide +kernel⟩,
   ⟨(fun z : State => { z with wps := vupd z.wps 0 fun y => { y with wg := true } }) ((fun z : State => { z with streams := vupd z.streams 0 fun y => { y with toneLock := true } }) ((fun z : State => { z with streams := vupd z.streams 0 fun y => { y with selected := true } }) (wb))),
       0, BitVec.ofNat 80 (2 ^ 59 + 0xE2D), by decide +kernel, by decide +kernel, by decide +kernel, by decide +kernel,
       by decide +kernel, by decide +kernel⟩,
   ⟨wb, 0, by decide +kernel, by decide +kernel⟩,
   ⟨(fun z : State => { z with streams := vupd z.streams 0 fun y => { y with trackValid := false } }) ((fun z : State => { z with streams := vupd z.streams 0 fun y => { y with toneLock := true } }) ((fun z : State => { z with streams := vupd z.streams 0 fun y => { y with selected := true } }) (wb))),
       0, BitVec.ofNat 80 (2 ^ 59 + 0xE2D), by decide +kernel, by decide +kernel, by decide +kernel, by decide +kernel,
       by decide +kernel, by decide +kernel, by decide +kernel⟩,
   ⟨(fun z : State => { z with streams := vupd z.streams 0 fun y => { y with acqStep := 4 } }) ((fun z : State => { z with streams := vupd z.streams 0 fun y => { y with toneLock := true } }) ((fun z : State => { z with streams := vupd z.streams 0 fun y => { y with selected := true } }) (wb))),
       0, BitVec.ofNat 80 (2 ^ 59 + 0xE2D) ||| (wordCrc (BitVec.ofNat 80 (2 ^ 59 + 0xE2D))).setWidth 80 <<< 64, {}, by decide +kernel,
       by decide +kernel, by decide +kernel, by decide +kernel, by decide +kernel, by decide +kernel⟩,
   ⟨(fun z : State => { z with streams := vupd z.streams 0 fun y => { y with toneLock := false } }) ((fun z : State => { z with streams := vupd z.streams 0 fun y => { y with lost := true } }) ((fun z : State => { z with streams := vupd z.streams 0 fun y => { y with selected := true } }) (wb))),
       0, by decide +kernel, by decide +kernel, by decide +kernel, by decide +kernel⟩,
   ⟨(fun z : State => { z with streams := vupd z.streams 0 fun y => { y with toneLock := false } }) ((fun z : State => { z with streams := vupd z.streams 0 fun y => { y with lost := false } }) ((fun z : State => { z with streams := vupd z.streams 0 fun y => { y with selected := true } }) (wb))),
       0, by decide +kernel, by decide +kernel, by decide +kernel, by decide +kernel⟩,
   ⟨(fun z : State => { z with streams := vupd z.streams 0 fun y => { y with toneLock := true } }) (wb), 0, by decide +kernel,
       by decide +kernel⟩,
   ⟨(fun z : State => { z with streams := vupd z.streams 0 fun y => { y with lost := false } }) ((fun z : State => { z with streams := vupd z.streams 0 fun y => { y with toneLock := false } }) ((fun z : State => { z with streams := vupd z.streams 0 fun y => { y with holdover := true } }) (wb))),
       0, by decide +kernel, by decide +kernel, by decide +kernel, by decide +kernel⟩,
   ⟨wb, 0, 0, by decide +kernel, by decide +kernel, by decide +kernel, by decide +kernel⟩,
   ⟨(fun z : State => { z with streams := vupd z.streams 0 fun y => { y with acqStep := 2 } }) ((fun z : State => { z with streams := vupd z.streams 0 fun y => { y with selected := true } }) (wb)),
       0, by decide +kernel, by decide +kernel, by decide +kernel, by decide +kernel⟩,
   ⟨(fun z : State => { z with streams := vupd z.streams 0 fun y => { y with ratioPend := true } }) ((fun z : State => { z with streams := vupd z.streams 0 fun y => { y with selected := true } }) (wb)),
       0, _, by decide +kernel, by decide +kernel, by decide +kernel, by decide +kernel, rfl⟩,
   ⟨wb, by decide +kernel⟩,
   ⟨(fun z : State => { z with streams := vupd z.streams 0 fun y => { y with rateClamped := false } }) ((fun z : State => { z with streams := vupd z.streams 0 fun y => { y with selected := true } }) (wb)),
       0, by decide +kernel, by decide +kernel, by decide +kernel, by decide +kernel⟩,
   ⟨(fun z : State => { z with heads := vupd z.heads 0 fun y => { y with bwHeld := none } }) ((fun z : State => { z with heads := vupd z.heads 0 fun y => { y with demodHeld := some ({}) } }) (wb)),
       0, {}, by decide +kernel, by decide +kernel, by decide +kernel, by decide +kernel⟩,
   ⟨(fun z : State => { z with heads := vupd z.heads 0 fun y => { y with bwHeld := some (0, 0) } }) ((fun z : State => { z with heads := vupd z.heads 0 fun y => { y with demodHeld := some ({}) } }) (wb)),
       0, {}, _, _, by decide +kernel, by decide +kernel, by decide +kernel, some_pair (by decide +kernel)⟩,
   ⟨wb, {}, 0, 2100, by decide +kernel, by decide +kernel, by decide +kernel, by decide +kernel, by unfold Admitted; decide +kernel⟩,
   ⟨wb, {}, (List.range 63), by decide +kernel, by decide +kernel, by decide +kernel, by unfold Admitted; decide +kernel⟩,
   ⟨wb, {}, 0, 0, 0x00080001, by decide +kernel, by decide +kernel, by decide +kernel, by decide +kernel,
       by unfold Admitted; decide +kernel⟩,
   ⟨wb, {}, BitVec.ofNat 32 (205 * 2 ^ 20 + 82 * 2 ^ 10 + 123), by decide +kernel, by decide +kernel, by unfold Admitted; decide +kernel⟩,
   ⟨wb, {}, 0, 0, [(3, [8])], _, by decide +kernel, ok_spec (by decide +kernel), by unfold Admitted; decide +kernel⟩,
   ⟨wb, 0, 0, [(0, [1])], _, _, by decide +kernel, ok_pair (by decide +kernel)⟩,
   ⟨wb, 0, 0, [], _, _, by decide +kernel, ok_pair (by decide +kernel)⟩,
   ⟨wb, {}, by unfold Admitted; decide +kernel⟩,
   ⟨wb, {}, by unfold Admitted; decide +kernel⟩⟩

/-- Inputs that meet the hypotheses of each clause of `LoopSlotEventsComplete`, in their order. -/
theorem test_LoopSlotEventsComplete_met :
    (∃ (s : State) (a : Act) (late : List Nat) (uncorr : List Nat) (accs : List Int) (s1 : State), powered s = true ∧
        s.actRecs[a].failed = false ∧ slotTrips late uncorr accs a (strobeFor a s) = s1) ∧
    (∃ (s : State) (a : Act), s.strobeDone.contains a = false) ∧
    (∃ (s : State) (a : Act), s.strobeDone.contains a = true) ∧
    (∃ (s : State) (a : Act) (i : Fin 8), powered s = true ∧ i.val ∈ runningLaws s a ∧ (lawOf s.acts[a] i.val).valid = true) ∧
    (∃ (s : State) (a : Act) (l : Nat) (h : Hd) (m : Strm), powered s = true ∧ 8 ≤ l ∧ l ≤ 15 ∧ l ∈ runningLaws s a ∧
        (lawOf s.acts[a] l).valid = true ∧ (headsOf s a)[l - 8]? = some h ∧ streamOfHead s h = some m) ∧
    (∃ (s : State) (a : Act) (l : Nat), powered s = true ∧ 16 ≤ l ∧ l ≤ 19 ∧ s.acts[a].slot = 0 ∧ l ∈ runningLaws s a ∧
        (lawOf s.acts[a] l).valid = true) ∧
    (∃ (s : State) (a : Act) (l : Nat), powered s = true ∧ 20 ≤ l ∧ l ≤ 22 ∧ s.acts[a].slot = l - 19 ∧ l ∈ runningLaws s a ∧
        (lawOf s.acts[a] l).valid = true) ∧
    (∃ (s : State) (a : Act), powered s = true ∧ 16 ≤ s.acts[a].vcmMissRun ∧ s.acts[a].mode ≠ .parked ∧ parks s.acts[a] = false) ∧
    (∃ (s : State) (a : Act), powered s = true ∧ (s.acts[a].mode = .follow ∨ s.acts[a].mode = .twin) ∧
        s.acts[a].followPar.nWready ≤ s.acts[a].wreadyRun ∧ s.acts[a].writeReady = false ∧ parks s.acts[a] = false) ∧
    (∃ (s : State) (a : Act) (l : Nat), powered s = true ∧ (lawOf s.acts[a] l).blendLeft = 0) ∧
    (∃ (s : State) (a : Act), powered s = true ∧ s.acts[a].maRampLeft = 0 ∧ s.acts[a].mode = .seek) ∧
    (∃ (s : State) (a : Act), powered s = true ∧ (s.acts[a].mode = .settle ∨ s.acts[a].mode = .follow) ∧ 16 ≤ s.acts[a].missRun ∧
        (lawOf s.acts[a] 18).valid = true ∧ parks s.acts[a] = false) ∧
    (∃ (s : State) (a : Act), powered s = true ∧ s.acts[a].mode = .twin ∧ 16 ≤ s.acts[a].missRun ∧ 16 ≤ s.acts[a].missRunP ∧
        (lawOf s.acts[a] 18).valid = true ∧ parks s.acts[a] = false) ∧
    (∃ (s : State) (a : Act), powered s = true ∧ s.acts[a].mode = .hold ∧ s.acts[a].validRun = 0 ∧ parks s.acts[a] = false) :=
  ⟨⟨(fun z : State => { z with actRecs := vupd z.actRecs 0 fun y => { y with failed := false } }) (wb), 0, [], [], [], _,
      by decide +kernel, by decide +kernel, rfl⟩,
   ⟨wb, 0, by decide +kernel⟩,
   ⟨(fun z : State => { z with strobeDone := [0] }) (wb), 0, by decide +kernel⟩,
   ⟨(fun z : State => { z with acts := vupd z.acts 0 fun y => { y with laws := vupd y.laws (0 : Fin 32) fun y => { y with valid := true } } }) ((fun z : State => { z with acts := vupd z.acts 0 fun y => { y with mode := .follow } }) (wb)),
       0, 0, by decide +kernel, by decide +kernel, by decide +kernel⟩,
   ⟨(fun z : State => { z with streams := vupd z.streams 0 fun y => { y with selected := true } }) ((fun z : State => { z with acts := vupd z.acts 0 fun y => { y with laws := vupd y.laws (8 : Fin 32) fun y => { y with valid := true } } }) ((fun z : State => { z with acts := vupd z.acts 0 fun y => { y with mode := .follow } }) (wb))),
       0, 8, 0, 0, by decide +kernel, by decide +kernel, by decide +kernel, by decide +kernel, by decide +kernel, by decide +kernel,
       by decide +kernel⟩,
   ⟨(fun z : State => { z with acts := vupd z.acts 0 fun y => { y with laws := vupd y.laws (18 : Fin 32) fun y => { y with valid := true } } }) ((fun z : State => { z with acts := vupd z.acts 0 fun y => { y with mode := .follow } }) ((fun z : State => { z with acts := vupd z.acts 0 fun y => { y with slot := 0 } }) (wb))),
       0, 18, by decide +kernel, by decide +kernel, by decide +kernel, by decide +kernel, by decide +kernel, by decide +kernel⟩,
   ⟨(fun z : State => { z with acts := vupd z.acts 0 fun y => { y with laws := vupd y.laws (20 : Fin 32) fun y => { y with valid := true } } }) ((fun z : State => { z with acts := vupd z.acts 0 fun y => { y with slot := 1 } }) ((fun z : State => { z with acts := vupd z.acts 0 fun y => { y with mode := .follow } }) (wb))),
       0, 20, by decide +kernel, by decide +kernel, by decide +kernel, by decide +kernel, by decide +kernel, by decide +kernel⟩,
   ⟨(fun z : State => { z with acts := vupd z.acts 0 fun y => { y with mode := .follow } }) ((fun z : State => { z with acts := vupd z.acts 0 fun y => { y with vcmMissRun := 16 } }) (wb)),
       0, by decide +kernel, by decide +kernel, by decide +kernel, by decide +kernel⟩,
   ⟨(fun z : State => { z with acts := vupd z.acts 0 fun y => { y with wreadyRun := 100 } }) ((fun z : State => { z with acts := vupd z.acts 0 fun y => { y with mode := .follow } }) ((fun z : State => { z with acts := vupd z.acts 0 fun y => { y with writeReady := false } }) (wb))),
       0, by decide +kernel, by decide +kernel, by decide +kernel, by decide +kernel, by decide +kernel⟩,
   ⟨wb, 0, 0, by decide +kernel, by decide +kernel⟩,
   ⟨(fun z : State => { z with acts := vupd z.acts 0 fun y => { y with mode := .seek } }) ((fun z : State => { z with acts := vupd z.acts 0 fun y => { y with maRampLeft := 0 } }) (wb)),
       0, by decide +kernel, by decide +kernel, by decide +kernel⟩,
   ⟨(fun z : State => { z with acts := vupd z.acts 0 fun y => { y with laws := vupd y.laws (18 : Fin 32) fun y => { y with valid := true } } }) ((fun z : State => { z with acts := vupd z.acts 0 fun y => { y with mode := .follow } }) ((fun z : State => { z with acts := vupd z.acts 0 fun y => { y with missRun := 16 } }) (wb))),
       0, by decide +kernel, by decide +kernel, by decide +kernel, by decide +kernel, by decide +kernel⟩,
   ⟨(fun z : State => { z with acts := vupd z.acts 0 fun y => { y with laws := vupd y.laws (18 : Fin 32) fun y => { y with valid := true } } }) ((fun z : State => { z with acts := vupd z.acts 0 fun y => { y with mode := .twin } }) ((fun z : State => { z with acts := vupd z.acts 0 fun y => { y with missRunP := 16 } }) ((fun z : State => { z with acts := vupd z.acts 0 fun y => { y with missRun := 16 } }) ((fun z : State => { z with acts := vupd z.acts 0 fun y => { y with mode := .twin } }) (wb))))),
       0, by decide +kernel, by decide +kernel, by decide +kernel, by decide +kernel, by decide +kernel, by decide +kernel⟩,
   ⟨(fun z : State => { z with acts := vupd z.acts 0 fun y => { y with validRun := 0 } }) ((fun z : State => { z with acts := vupd z.acts 0 fun y => { y with mode := .hold } }) (wb)),
       0, by decide +kernel, by decide +kernel, by decide +kernel, by decide +kernel⟩⟩

/-- Inputs that meet the hypotheses of each clause of `SeekAndLoadEventsComplete`, in their order. -/
theorem test_SeekAndLoadEventsComplete_met :
    (∃ (s : State) (a : Act) (t : SeekTarget), seekTaken s a t = true ∧ ((lawsFor t).all (fun l => (lawOf s.acts[a] l).valid) = true)) ∧
    (∃ (s : State) (a : Act) (t : SeekTarget), seekTaken s a t = true ∧ s.acts[a].mode = .hold ∧
        ((lawsFor t).all (fun l => (lawOf s.acts[a] l).valid) = false)) ∧
    (∃ (s : State) (a : Act), powered s = true ∧ 4 ≤ s.acts[a].emptyFrames ∧ s.acts[a].mode = .seek ∧ s.acts[a].stopPlan = false ∧
        parks s.acts[a] = false) ∧
    (∃ (s : State) (a : Act), powered s = true ∧ 8 ≤ s.acts[a].errFrames ∧ s.acts[a].mode = .seek ∧ s.acts[a].stopPlan = false ∧
        parks s.acts[a] = false ∧ s.acts[a].aborts + 1 < s.acts[a].seekPar.nAbort) ∧
    (∃ (s : State) (a : Act), powered s = true ∧ 8 ≤ s.acts[a].errFrames ∧ s.acts[a].mode = .seek ∧ s.acts[a].stopPlan = false ∧
        parks s.acts[a] = false ∧ s.acts[a].seekPar.nAbort ≤ s.acts[a].aborts + 1) ∧
    (∃ (s : State) (a : Act), powered s = true ∧ 1024 ≤ s.acts[a].rmsN ∧ activePartner s.acts[a] = none ∧
        rmsHigh s.acts[a] s.acts[a].rmsSum = false) ∧
    (∃ (s : State) (a : Act), powered s = true ∧ 1024 ≤ s.acts[a].rmsN ∧ activePartner s.acts[a] = none ∧
        rmsHigh s.acts[a] s.acts[a].rmsSum = true) ∧
    (∃ (s : State) (a : Act) (p : Hd), powered s = true ∧ 1024 ≤ s.acts[a].rmsN ∧ activePartner s.acts[a] = some p ∧
        rmsHigh s.acts[a] s.acts[a].rmsSum = false ∧ rmsHigh s.acts[a] s.acts[a].rmsSumP = true) ∧
    (∃ (s : State) (a : Act), powered s = true ∧ s.bw.started = false ∧ s.acts[a].mode = .parked ∧ 38400 ≤ s.spn.meas ∧
        s.actRecs[a].failed = false ∧ s.plks[a].l.st = .up ∧ s.psl.l.st = .up) ∧
    (∃ (s : State) (a : Act), s.acts[a].loadReq = true ∧ s.acts[a].unloadReq = false ∧ s.acts[a].mode = .parked ∧
        parks s.acts[a] = false) ∧
    (∃ (s : State) (a : Act), powered s = true ∧ s.acts[a].mode ≠ .parked ∧ s.acts[a].mode ≠ .twin) ∧
    (∃ (s : State) (a : Act), s.acts[a].unloadReq = true ∧ s.acts[a].mode ≠ .parked ∧ parks s.acts[a] = false) ∧
    (∃ (s : State) (a : Act), powered s = true ∧ s.acts[a].mode = .ramp ∧ s.acts[a].loadReq = false ∧ s.bw.started = false) :=
  ⟨⟨(fun z : State => { z with acts := vupd z.acts 0 fun y => { y with laws := vupd y.laws (18 : Fin 32) fun y => { y with valid := true } } }) ((fun z : State => { z with acts := vupd z.acts 0 fun y => { y with laws := vupd y.laws (17 : Fin 32) fun y => { y with valid := true } } }) ((fun z : State => { z with acts := vupd z.acts 0 fun y => { y with laws := vupd y.laws (16 : Fin 32) fun y => { y with valid := true } } }) ((fun z : State => { z with acts := vupd z.acts 0 fun y => { y with mode := .hold } }) (wb)))),
      0, {}, by decide +kernel, by decide +kernel⟩,
   ⟨(fun z : State => { z with acts := vupd z.acts 0 fun y => { y with mode := .hold } }) ((fun z : State => { z with acts := vupd z.acts 0 fun y => { y with mode := .hold } }) (wb)),
       0, {}, by decide +kernel, by decide +kernel, by decide +kernel⟩,
   ⟨(fun z : State => { z with acts := vupd z.acts 0 fun y => { y with stopPlan := false } }) ((fun z : State => { z with acts := vupd z.acts 0 fun y => { y with mode := .seek } }) ((fun z : State => { z with acts := vupd z.acts 0 fun y => { y with emptyFrames := 4 } }) (wb))),
       0, by decide +kernel, by decide +kernel, by decide +kernel, by decide +kernel, by decide +kernel⟩,
   ⟨(fun z : State => { z with acts := vupd z.acts 0 fun y => { y with stopPlan := false } }) ((fun z : State => { z with acts := vupd z.acts 0 fun y => { y with mode := .seek } }) ((fun z : State => { z with acts := vupd z.acts 0 fun y => { y with errFrames := 8 } }) (wb))),
       0, by decide +kernel, by decide +kernel, by decide +kernel, by decide +kernel, by decide +kernel, by decide +kernel⟩,
   ⟨(fun z : State => { z with acts := vupd z.acts 0 fun y => { y with aborts := 5 } }) ((fun z : State => { z with acts := vupd z.acts 0 fun y => { y with stopPlan := false } }) ((fun z : State => { z with acts := vupd z.acts 0 fun y => { y with mode := .seek } }) ((fun z : State => { z with acts := vupd z.acts 0 fun y => { y with errFrames := 8 } }) (wb)))),
       0, by decide +kernel, by decide +kernel, by decide +kernel, by decide +kernel, by decide +kernel, by decide +kernel⟩,
   ⟨(fun z : State => { z with acts := vupd z.acts 0 fun y => { y with rmsN := 1024 } }) (wb), 0, by decide +kernel, by decide +kernel,
       by decide +kernel, by decide +kernel⟩,
   ⟨(fun z : State => { z with acts := vupd z.acts 0 fun y => { y with rmsSum := 10000000 } }) ((fun z : State => { z with acts := vupd z.acts 0 fun y => { y with rmsN := 1024 } }) (wb)),
       0, by decide +kernel, by decide +kernel, by decide +kernel, by decide +kernel⟩,
   ⟨(fun z : State => { z with acts := vupd z.acts 0 fun y => { y with rmsSumP := 10000000 } }) ((fun z : State => { z with acts := vupd z.acts 0 fun y => { y with partner := some 1 } }) ((fun z : State => { z with acts := vupd z.acts 0 fun y => { y with mode := .twin } }) ((fun z : State => { z with acts := vupd z.acts 0 fun y => { y with rmsN := 1024 } }) (wb)))),
       0, 1, by decide +kernel, by decide +kernel, by decide +kernel, by decide +kernel, by decide +kernel⟩,
   ⟨(fun z : State => { z with psl.l.st := .up }) ((fun z : State => { z with plks := vupd z.plks 0 fun y => { y with l.st := .up } }) ((fun z : State => { z with actRecs := vupd z.actRecs 0 fun y => { y with failed := false } }) ((fun z : State => { z with spn.meas := 38400 }) ((fun z : State => { z with acts := vupd z.acts 0 fun y => { y with mode := .parked } }) ((fun z : State => { z with bw.started := false }) (wb)))))),
       0, by decide +kernel, by decide +kernel, by decide +kernel, by decide +kernel, by decide +kernel, by decide +kernel,
       by decide +kernel⟩,
   ⟨(fun z : State => { z with acts := vupd z.acts 0 fun y => { y with mode := .parked } }) ((fun z : State => { z with acts := vupd z.acts 0 fun y => { y with unloadReq := false } }) ((fun z : State => { z with acts := vupd z.acts 0 fun y => { y with loadReq := true } }) (wb))),
       0, by decide +kernel, by decide +kernel, by decide +kernel, by decide +kernel⟩,
   ⟨(fun z : State => { z with acts := vupd z.acts 0 fun y => { y with mode := .hold } }) (wb), 0, by decide +kernel, by decide +kernel,
       by decide +kernel⟩,
   ⟨(fun z : State => { z with acts := vupd z.acts 0 fun y => { y with mode := .hold } }) ((fun z : State => { z with acts := vupd z.acts 0 fun y => { y with unloadReq := true } }) (wb)),
       0, by decide +kernel, by decide +kernel, by decide +kernel⟩,
   ⟨(fun z : State => { z with bw.started := false }) ((fun z : State => { z with acts := vupd z.acts 0 fun y => { y with loadReq := false } }) ((fun z : State => { z with acts := vupd z.acts 0 fun y => { y with mode := .ramp } }) (wb))),
       0, by decide +kernel, by decide +kernel, by decide +kernel, by decide +kernel⟩⟩

/-- Inputs that meet the hypotheses of each clause of `TwinEventsComplete`, in their order. -/
theorem test_TwinEventsComplete_met :
    (∃ (s : State) (a : Act), powered s = true ∧ s.acts[a].mode = .twin ∧ 64 ≤ s.acts[a].regN) ∧
    (∃ (s : State) (a : Act) (p : Hd) (k : Nat), powered s = true ∧ s.acts[a].mode = .twin ∧ s.acts[a].partner = some p ∧
        s.acts[a].fallback = none ∧ parks s.acts[a] = false ∧ fallbackTrigger s a p k = true ∧
        (triggerOn s a p k).1 ≠ (triggerOn s a p k).2) ∧
    (∃ (s : State) (a : Act) (p : Hd) (k : Nat), powered s = true ∧ s.acts[a].mode = .twin ∧ s.acts[a].partner = some p ∧
        s.acts[a].fallback = none ∧ parks s.acts[a] = false ∧ k ≤ 4 ∧ fallbackTrigger s a p k = true ∧
        (triggerOn s a p k).1 = (triggerOn s a p k).2) ∧
    (∃ (s : State) (a : Act) (p : Hd), powered s = true ∧ s.acts[a].mode = .twin ∧ s.acts[a].partner = some p ∧
        s.acts[a].fallback = none ∧ parks s.acts[a] = false ∧ 2 ≤ s.pmu.level) ∧
    (∃ (s : State) (a : Act), pairedCtxs s a = []) ∧
    (∃ (s : State) (a : Act) (d : Hd) (p : Hd), powered s = true ∧ s.acts[a].mode = .twin ∧ s.acts[a].fallback = some d ∧
        s.acts[a].partner = some p ∧ (lawOf s.acts[a] 18).valid = true ∧ parks s.acts[a] = false ∧ (∀ m,
        streamOfHead s d = some m → s.chn[m].readGate = false)) ∧
    (∃ (s : State) (a : Act) (d : Hd), powered s = true ∧ s.acts[a].mode ≠ .twin ∧ s.acts[a].fallback = some d ∧
        s.acts[a].dropRampLeft = 0) ∧
    (∃ (s : State), powered s = true) :=
  ⟨⟨(fun z : State => { z with acts := vupd z.acts 0 fun y => { y with regN := 64 } }) ((fun z : State => { z with acts := vupd z.acts 0 fun y => { y with mode := .twin } }) (wb)),
      0, by decide +kernel, by decide +kernel, by decide +kernel⟩,
   ⟨(fun z : State => { z with acts := vupd z.acts 0 fun y => { y with missRun := 4 } }) ((fun z : State => { z with acts := vupd z.acts 0 fun y => { y with fallback := none } }) ((fun z : State => { z with acts := vupd z.acts 0 fun y => { y with partner := some 1 } }) ((fun z : State => { z with acts := vupd z.acts 0 fun y => { y with mode := .twin } }) (wb)))),
       0, 1, 3, by decide +kernel, by decide +kernel, by decide +kernel, by decide +kernel, by decide +kernel, by decide +kernel,
       by decide +kernel⟩,
   ⟨(fun z : State => { z with acts := vupd z.acts 0 fun y => { y with missRunP := 4 } }) ((fun z : State => { z with acts := vupd z.acts 0 fun y => { y with missRun := 4 } }) ((fun z : State => { z with acts := vupd z.acts 0 fun y => { y with fallback := none } }) ((fun z : State => { z with acts := vupd z.acts 0 fun y => { y with partner := some 1 } }) ((fun z : State => { z with acts := vupd z.acts 0 fun y => { y with mode := .twin } }) (wb))))),
       0, 1, 3, by decide +kernel, by decide +kernel, by decide +kernel, by decide +kernel, by decide +kernel, by decide +kernel,
       by decide +kernel, by decide +kernel⟩,
   ⟨(fun z : State => { z with pmu.level := 2 }) ((fun z : State => { z with acts := vupd z.acts 0 fun y => { y with fallback := none } }) ((fun z : State => { z with acts := vupd z.acts 0 fun y => { y with partner := some 0 } }) ((fun z : State => { z with acts := vupd z.acts 0 fun y => { y with mode := .twin } }) (wb)))),
       0, 0, by decide +kernel, by decide +kernel, by decide +kernel, by decide +kernel, by decide +kernel, by decide +kernel⟩,
   ⟨wb, 0, by decide +kernel⟩,
   ⟨(fun z : State => { z with acts := vupd z.acts 0 fun y => { y with laws := vupd y.laws (18 : Fin 32) fun y => { y with valid := true } } }) ((fun z : State => { z with acts := vupd z.acts 0 fun y => { y with partner := some 1 } }) ((fun z : State => { z with acts := vupd z.acts 0 fun y => { y with fallback := some 1 } }) ((fun z : State => { z with acts := vupd z.acts 0 fun y => { y with mode := .twin } }) (wb)))),
       0, 1, 1, by decide +kernel, by decide +kernel, by decide +kernel, by decide +kernel, by decide +kernel, by decide +kernel,
       by decide +kernel⟩,
   ⟨(fun z : State => { z with acts := vupd z.acts 0 fun y => { y with dropRampLeft := 0 } }) ((fun z : State => { z with acts := vupd z.acts 0 fun y => { y with fallback := some 0 } }) (wb)),
       0, 0, by decide +kernel, by decide +kernel, by decide +kernel, by decide +kernel⟩,
   ⟨wb, by decide +kernel⟩⟩

/-- Inputs that meet the hypotheses of each clause of `LoopMessagesComplete`, in their order. -/
theorem test_LoopMessagesComplete_met :
    (∃ (s : State) (r : Req) (a : Act) (law : Nat) (count : Nat) (start : Nat) (words : List (BitVec 32)),
        lawFits (allotment law) count start = true ∧ words.length = 6 * count ∧
        ((sectionsOf count words).all (fun c => decide (c.shift ≤ 16)) = true) ∧ sectionsBad count 8 words = none ∧
        ((runningLaws s a).any (fun l => overlapsLaw (lawOf s.acts[a] l) start count) = false) ∧
        (Admitted s r { opc := 0x0211, setter := true })) ∧
    (∃ (s : State) (r : Req) (law : Nat) (count : Nat) (start : Nat) (words : List (BitVec 32)),
        lawFits (allotment4 law) count start = true ∧ words.length = 6 * count ∧
        ((sectionsOf count words).all (fun c => decide (c.shift ≤ 16)) = true) ∧ sectionsBad count 8 words = none ∧
        overlaps4 s start count = false ∧ (Admitted s r { opc := 0x0211, setter := true })) ∧
    (∃ (s : State) (r : Req) (head : Nat) (vals : List Int), selHeads s head ≠ [] ∧ vals.length = 64 ∧
        (vals.all (fun v => decide (-8388608 ≤ v ∧ v ≤ 8388607)) = true) ∧ (Admitted s r { opc := 0x0212, setter := true })) ∧
    (∃ (s : State) (r : Req) (head : Nat) (gain : Nat), selHeads s head ≠ [] ∧ gain < 65536 ∧
        (Admitted s r { opc := 0x0213, setter := true })) ∧
    (∃ (s : State) (r : Req) (a : Act) (ps : Params) (v : SeekPar),
        (applyPars seekPars (fun _ => []) ps (s.acts[a].seekPend.getD s.acts[a].seekPar) = .ok v) ∧
        (Admitted s r { opc := 0x0214, setter := true })) ∧
    (∃ (s : State) (r : Req) (a : Act) (ps : Params) (v : FollowPar), (applyPars followPars (fun v => [([3],
        decide (v.tWready ≤ (s.guards[a].pend.getD s.guards[a].cfg).tOt))]) ps (s.acts[a].followPend.getD s.acts[a].followPar) = .ok v) ∧
        (Admitted s r { opc := 0x0215, setter := true })) ∧
    (∃ (s : State) (r : Req) (a : Act) (ps : Params) (v : TwinPar × List PairRec), (applyPars twinPars (fun v => [([0, 1],
        decide (v.1.enter + 1 ≤ 2 * v.1.exit))]) ps (s.acts[a].twinPar, s.acts[a].pairs) = .ok v) ∧
        (Admitted s r { opc := 0x0216, setter := true })) ∧
    (∃ (s : State) (r : Req), (Admitted s r { opc := 0x0217, need := .rd })) :=
  ⟨⟨wb, {}, 0, 16, 1, 0, (List.replicate 6 0), by decide +kernel, by decide +kernel, by decide +kernel, by decide +kernel,
      by decide +kernel, by unfold Admitted; decide +kernel⟩,
   ⟨wb, {}, 0, 1, 0, (List.replicate 6 0), by decide +kernel, by decide +kernel, by decide +kernel, by decide +kernel, by decide +kernel,
       by unfold Admitted; decide +kernel⟩,
   ⟨wb, {}, 0, (List.replicate 64 0), by decide +kernel, by decide +kernel, by decide +kernel, by unfold Admitted; decide +kernel⟩,
   ⟨wb, {}, 0, 0, by decide +kernel, by decide +kernel, by unfold Admitted; decide +kernel⟩,
   ⟨wb, {}, 0, [], _, ok_spec (by decide +kernel), by unfold Admitted; decide +kernel⟩,
   ⟨wb, {}, 0, [], _, ok_spec (by decide +kernel), by unfold Admitted; decide +kernel⟩,
   ⟨wb, {}, 0, [], _, ok_spec (by decide +kernel), by unfold Admitted; decide +kernel⟩,
   ⟨wb, {}, by unfold Admitted; decide +kernel⟩⟩

/-- Inputs that meet the hypotheses of each clause of `SpindleDriveComplete`, in their order. -/
theorem test_SpindleDriveComplete_met :
    (∃ (s : State), powered s = true ∧ s.spn.chopFail = false) ∧
    (∃ (s : State) (d : Nat) (m : Nat), powered s = true ∧ (s.spn.pwmPend = some (d, m))) ∧
    (∃ (s : State), powered s = true ∧ s.spn.pwmPend = none ∧ s.spn.st = .forced ∧ s.spn.chopFail = false) ∧
    (∃ (s : State) (code1 : Int) (code2 : Int), powered s = true ∧ s.spn.gatesOff = true ∧ codeBad code1 = false ∧
        codeBad code2 = false) ∧
    (∃ (s : State) (code1 : Int) (code2 : Int) (s1 : State) (s2 : State), powered s = true ∧ s.spn.gatesOff = false ∧
        drives s.spn = true ∧ busLaw [] (takeSamples code1 code2 s) = s1 ∧
        runLaw4 [] 1 (s1.spn.iqRef - axisMa s1 1) (runLaw4 [] 0 (s1.spn.idRef - axisMa s1 0) s1) = s2) ∧
    (∃ (s : State), powered s = true ∧ s.spn.st = .run ∧ (recent s.us 1000000 s.spn.ocTimes).length < 2) ∧
    (∃ (s : State), powered s = true ∧ s.spn.st = .run ∧ 2 ≤ (recent s.us 1000000 s.spn.ocTimes).length) ∧
    (∃ (s : State), powered s = true ∧ s.spn.st = .coast ∧ s.spn.fault = false ∧ s.bw.started = false ∧
        passedNs s s.spn.coastUs (s.spn.coastMs * 1000000) = true) ∧
    (∃ (s : State), powered s = true ∧ 2400 ≤ s.spn.meas ∧ s.spn.st = .forced ∧ s.bw.started = false) ∧
    (∃ (s : State), powered s = true ∧ 2400 ≤ s.spn.meas ∧ s.spn.st ≠ .forced) ∧
    (∃ (s : State), powered s = true ∧ s.spn.st = .run) ∧
    (∃ (s : State) (m : Strm) (last : Nat), powered s = true ∧ s.streams[m].angleValid = true ∧ s.spn.revStream = some m ∧
        s.spn.lastIndex = some last) ∧
    (∃ (s : State), powered s = true ∧ s.spn.st = .run ∧ 8 ≤ s.spn.missRun) ∧
    (∃ (s : State), powered s = true ∧ s.spn.st = .holdup ∧ 8 ≤ s.spn.missRun) ∧
    (∃ (s : State), powered s = true ∧ s.spn.st = .listen ∧ 100 * s.spn.lim.listenT ≤ s.spn.vphN ∧ listenFinding s.spn = 1 ∧
        8 * s.spn.lim.catchMin < listenSpeed s.spn ∧ s.spn.stopping = false ∧ s.bw.started = false) ∧
    (∃ (s : State), powered s = true ∧ s.spn.st = .listen ∧ 100 * s.spn.lim.listenT ≤ s.spn.vphN ∧ listenFinding s.spn ≠ 1) ∧
    (∃ (s : State), powered s = true ∧ s.spn.st = .listen ∧ s.spn.vphLast = none) ∧
    (∃ (s : State), powered s = true ∧ s.spn.st = .run) ∧
    (∃ (s : State) (emf : Nat) (rpm : Nat), powered s = true ∧ s.spn.st = .brake ∧ brakeAllowed s.spn emf rpm = true ∧
        s.bw.started = false ∧ 2500 ≤ 3 * emf * emf) ∧
    (∃ (s : State) (emf : Nat) (rpm : Nat), powered s = true ∧ s.spn.st = .brake ∧ brakeAllowed s.spn emf rpm = false) ∧
    (∃ (s : State), powered s = true ∧ s.spn.st = .brake ∧ 10000 ≤ s.spn.quietN ∧ s.spn.stopping = true) ∧
    (∃ (s : State), powered s = true ∧ s.spn.st = .brake ∧ 10000 ≤ s.spn.quietN ∧ s.spn.stopping = false ∧ s.bw.started = false) ∧
    (∃ (s : State), powered s = true ∧ s.spn.st = .align ∧ 40 * s.spn.lim.tAlign ≤ s.spn.alignN) ∧
    (∃ (s : State), powered s = true ∧ s.spn.st = .forced ∧ s.spn.obsLock = false ∧ 4800000000 ≤ s.spn.forced ∧ s.spn.starts < 2) ∧
    (∃ (s : State), powered s = true ∧ s.spn.st = .forced ∧ s.spn.obsLock = false ∧ 4800000000 ≤ s.spn.forced ∧ 2 ≤ s.spn.starts) :=
  ⟨⟨(fun z : State => { z with spn.chopFail := false }) (wb), by decide +kernel, by decide +kernel⟩,
   ⟨(fun z : State => { z with spn.pwmPend := some (0, 0) }) (wb), _, _, by decide +kernel, some_pair (by decide +kernel)⟩,
   ⟨(fun z : State => { z with spn.chopFail := false }) ((fun z : State => { z with spn.st := .forced }) ((fun z : State => { z with spn.pwmPend := none }) (wb))),
       by decide +kernel, by decide +kernel, by decide +kernel, by decide +kernel⟩,
   ⟨(fun z : State => { z with spn.gatesOff := true }) (wb), 0, 0, by decide +kernel, by decide +kernel, by decide +kernel,
       by decide +kernel⟩,
   ⟨(fun z : State => { z with spn.st := .run }) ((fun z : State => { z with spn.gatesOff := false }) (wb)), 0, 0, _, _,
       by decide +kernel, by decide +kernel, by decide +kernel, rfl, rfl⟩,
   ⟨(fun z : State => { z with spn.st := .run }) (wb), by decide +kernel, by decide +kernel, by decide +kernel⟩,
   ⟨(fun z : State => { z with spn.ocTimes := [0, 0] }) ((fun z : State => { z with spn.st := .run }) (wb)), by decide +kernel,
       by decide +kernel, by decide +kernel⟩,
   ⟨(fun z : State => { z with bw.started := false }) ((fun z : State => { z with spn.fault := false }) ((fun z : State => { z with spn.st := .coast }) (wb))),
       by decide +kernel, by decide +kernel, by decide +kernel, by decide +kernel, by decide +kernel⟩,
   ⟨(fun z : State => { z with bw.started := false }) ((fun z : State => { z with spn.st := .forced }) ((fun z : State => { z with spn.meas := 2400 }) (wb))),
       by decide +kernel, by decide +kernel, by decide +kernel, by decide +kernel⟩,
   ⟨(fun z : State => { z with spn.meas := 2400 }) (wb), by decide +kernel, by decide +kernel, by decide +kernel⟩,
   ⟨(fun z : State => { z with spn.st := .run }) (wb), by decide +kernel, by decide +kernel⟩,
   ⟨(fun z : State => { z with spn.lastIndex := some 0 }) ((fun z : State => { z with spn.revStream := some 0 }) ((fun z : State => { z with streams := vupd z.streams 0 fun y => { y with angleValid := true } }) (wb))),
       0, 0, by decide +kernel, by decide +kernel, by decide +kernel, by decide +kernel⟩,
   ⟨(fun z : State => { z with spn.missRun := 8 }) ((fun z : State => { z with spn.st := .run }) (wb)), by decide +kernel,
       by decide +kernel, by decide +kernel⟩,
   ⟨(fun z : State => { z with spn.missRun := 8 }) ((fun z : State => { z with spn.st := .holdup }) (wb)), by decide +kernel,
       by decide +kernel, by decide +kernel⟩,
   ⟨(fun z : State => { z with spn.vphN := 2000 }) ((fun z : State => { z with spn.crossHalf := 100 }) ((fun z : State => { z with spn.crossDir := 1 }) ((fun z : State => { z with spn.crossN := 4 }) ((fun z : State => { z with spn.vphPeak := 100 }) ((fun z : State => { z with bw.started := false }) ((fun z : State => { z with spn.stopping := false }) ((fun z : State => { z with spn.st := .listen }) (wb)))))))),
       by decide +kernel, by decide +kernel, by decide +kernel, by decide +kernel, by decide +kernel, by decide +kernel,
       by decide +kernel⟩,
   ⟨(fun z : State => { z with spn.vphN := 2000 }) ((fun z : State => { z with spn.st := .listen }) (wb)), by decide +kernel,
       by decide +kernel, by decide +kernel, by decide +kernel⟩,
   ⟨(fun z : State => { z with spn.vphLast := none }) ((fun z : State => { z with spn.st := .listen }) (wb)), by decide +kernel,
       by decide +kernel, by decide +kernel⟩,
   ⟨(fun z : State => { z with spn.st := .run }) (wb), by decide +kernel, by decide +kernel⟩,
   ⟨(fun z : State => { z with spn.lim.iWindMax := 3000 }) ((fun z : State => { z with bw.started := false }) ((fun z : State => { z with spn.st := .brake }) (wb))),
       50, 0, by decide +kernel, by decide +kernel, by decide +kernel, by decide +kernel, by decide +kernel⟩,
   ⟨(fun z : State => { z with spn.st := .brake }) (wb), 1000000000, 0, by decide +kernel, by decide +kernel, by decide +kernel⟩,
   ⟨(fun z : State => { z with spn.stopping := true }) ((fun z : State => { z with spn.quietN := 10000 }) ((fun z : State => { z with spn.st := .brake }) (wb))),
       by decide +kernel, by decide +kernel, by decide +kernel, by decide +kernel⟩,
   ⟨(fun z : State => { z with bw.started := false }) ((fun z : State => { z with spn.stopping := false }) ((fun z : State => { z with spn.quietN := 10000 }) ((fun z : State => { z with spn.st := .brake }) (wb)))),
       by decide +kernel, by decide +kernel, by decide +kernel, by decide +kernel, by decide +kernel⟩,
   ⟨(fun z : State => { z with spn.alignN := 1000000 }) ((fun z : State => { z with spn.st := .align }) (wb)), by decide +kernel,
       by decide +kernel, by decide +kernel⟩,
   ⟨(fun z : State => { z with spn.forced := 4800000000 }) ((fun z : State => { z with spn.obsLock := false }) ((fun z : State => { z with spn.st := .forced }) (wb))),
       by decide +kernel, by decide +kernel, by decide +kernel, by decide +kernel, by decide +kernel⟩,
   ⟨(fun z : State => { z with spn.starts := 2 }) ((fun z : State => { z with spn.forced := 4800000000 }) ((fun z : State => { z with spn.obsLock := false }) ((fun z : State => { z with spn.st := .forced }) (wb)))),
       by decide +kernel, by decide +kernel, by decide +kernel, by decide +kernel, by decide +kernel⟩⟩

/-- Inputs that meet the hypotheses of each clause of `SpindleSpeedAndMessagesComplete`, in their order. -/
theorem test_SpindleSpeedAndMessagesComplete_met :
    (∃ (s : State), powered s = true) ∧
    (∃ (s : State), powered s = true) ∧
    (∃ (s : State), powered s = true ∧ s.spn.freeDrain = true ∧ mediaBusy s = false) ∧
    (∃ (s : State) (busy : List Nat), live s = true ∧ s.spn.pol.demand = true ∧ s.spn.pol.lHi < busy.foldl max 0 ∧
        s.spn.pol.lLo ≤ s.spn.pol.lHi ∧ 1 ≤ s.spn.highN ∧ s.spn.setPoint < s.spn.pol.sMax) ∧
    (∃ (s : State), powered s = true ∧ s.spn.dirtyHold = true ∧ dirtyBlocks s ≤ bound15 ∧ s.spn.free = false) ∧
    (∃ (s : State), powered s = true ∧ s.spn.dirtyHold = true ∧ dirtyBlocks s ≤ bound15 ∧ s.spn.free = true ∧ s.spn.capThermal = false) ∧
    (∃ (s : State), powered s = true ∧ (80 ≤ s.spn.underN ∨ 80 ≤ s.spn.underDirtyN)) ∧
    (∃ (s : State), powered s = true ∧ s.spn.chopFail = false ∧ s.psl.chopFault = true) ∧
    (∃ (s : State), powered s = true ∧ s.bw.started = true ∧ s.bw.cause < 8 ∧ s.spn.st ≠ .holdup ∧ s.spn.obsLock = true) ∧
    (∃ (s : State), powered s = true ∧ s.bw.started = true ∧ s.bw.cause < 8 ∧ s.spn.st ≠ .holdup ∧ s.spn.obsLock = false) ∧
    (∃ (s : State) (r : Req) (rpm : Nat) (cls : Nat), s.spn.pol.demand = false ∧ 4800 ≤ rpm ∧ rpm ≤ 7200 ∧ cls ≤ 1 ∧
        (Admitted s r { opc := 0x0601, setter := true })) ∧
    (∃ (s : State) (r : Req) (rpm : Nat), s.spn.pol.demand = false ∧ (rpm < 4800 ∨ 7200 < rpm) ∧
        (Admitted s r { opc := 0x0601, setter := true })) ∧
    (∃ (s : State) (r : Req) (ps : Params) (p : SpnPolicy), (applyPars policyPars (fun p => [([2, 3], decide (p.sMin ≤ p.sMax)), ([5, 6],
        decide (p.lLo < p.lHi))]) ps s.spn.pol = .ok p) ∧ ((p.demand = true ∨ anyBit ps [0, 1] = false)) ∧
        (Admitted s r { opc := 0x0602, setter := true })) ∧
    (∃ (s : State) (r : Req) (ps : Params) (p : SpnPolicy), (applyPars policyPars (fun p => [([2, 3], decide (p.sMin ≤ p.sMax)), ([5, 6],
        decide (p.lLo < p.lHi))]) ps s.spn.pol = .ok p) ∧ p.demand = false ∧ (anyBit ps [0, 1] = true) ∧
        (Admitted s r { opc := 0x0602, setter := true })) ∧
    (∃ (s : State) (r : Req) (ps : Params) (p : SpnLimits), s.spn.limPend = none ∧ s.spn.pwmPend = none ∧
        (applyPars limitPars (fun p => [([0], decide (p.iSpinMax * s.spn.motor.shunt ≤ 200000)), ([11, 12],
        decide (p.vChopOn + 200 ≤ p.vOv))]) ps s.spn.lim = .ok p) ∧ (Admitted s r { opc := 0x0603, setter := true })) ∧
    (∃ (s : State) (r : Req) (ps : Params) (p : SpnMotor), ((s.sec.life = .manufacture ∨ s.sec.life = .ret)) ∧
        (applyPars motorPars (fun p => [([5], decide (s.spn.lim.iSpinMax * p.shunt ≤ 200000))]) ps s.spn.motor = .ok p) ∧
        (Admitted s r { opc := 0x0604, need := .fa, setter := true })) ∧
    (∃ (s : State) (r : Req), s.sec.life = .blank ∧ (Admitted s r { opc := 0x0604, need := .fa, setter := true })) ∧
    (∃ (s : State) (r : Req), s.spn.st = .stopped ∧ s.psl.l.st = .up ∧ Admitted s r { opc := 0x0605 }) ∧
    (∃ (s : State) (r : Req), s.spn.st = .stopped ∧ s.psl.l.st ≠ .up ∧ Admitted s r { opc := 0x0605 }) ∧
    (∃ (s : State) (r : Req), s.spn.st = .run ∧ Admitted s r { opc := 0x0606 }) ∧
    (∃ (s : State) (r : Req), (Admitted s r { opc := 0x0607, need := .rd })) :=
  ⟨⟨wb, by decide +kernel⟩,
   ⟨wb, by decide +kernel⟩,
   ⟨(fun z : State => { z with spn.freeDrain := true }) (wb), by decide +kernel, by decide +kernel, by decide +kernel⟩,
   ⟨(fun z : State => { z with spn.pol.demand := true }) ((fun z : State => { z with spn.setPoint := 6000 }) ((fun z : State => { z with spn.highN := 1 }) ((fun z : State => { z with spn.pol.demand := true }) (wb)))),
       [90], by decide +kernel, by decide +kernel, by decide +kernel, by decide +kernel, by decide +kernel, by decide +kernel⟩,
   ⟨(fun z : State => { z with spn.free := false }) ((fun z : State => { z with spn.dirtyHold := true }) (wb)), by decide +kernel,
       by decide +kernel, by decide +kernel, by decide +kernel⟩,
   ⟨(fun z : State => { z with spn.capThermal := false }) ((fun z : State => { z with spn.free := true }) ((fun z : State => { z with spn.dirtyHold := true }) (wb))),
       by decide +kernel, by decide +kernel, by decide +kernel, by decide +kernel, by decide +kernel⟩,
   ⟨(fun z : State => { z with spn.underN := 80 }) (wb), by decide +kernel, by decide +kernel⟩,
   ⟨(fun z : State => { z with psl.chopFault := true }) ((fun z : State => { z with spn.chopFail := false }) (wb)), by decide +kernel,
       by decide +kernel, by decide +kernel⟩,
   ⟨(fun z : State => { z with spn.obsLock := true }) ((fun z : State => { z with bw.started := true }) (wb)), by decide +kernel,
       by decide +kernel, by decide +kernel, by decide +kernel, by decide +kernel⟩,
   ⟨(fun z : State => { z with spn.obsLock := false }) ((fun z : State => { z with bw.started := true }) (wb)), by decide +kernel,
       by decide +kernel, by decide +kernel, by decide +kernel, by decide +kernel⟩,
   ⟨(fun z : State => { z with spn.pol.demand := false }) (wb), {}, 5000, 0, by decide +kernel, by decide +kernel, by decide +kernel,
       by decide +kernel, by unfold Admitted; decide +kernel⟩,
   ⟨(fun z : State => { z with spn.pol.demand := false }) (wb), {}, 0, by decide +kernel, by decide +kernel,
       by unfold Admitted; decide +kernel⟩,
   ⟨wb, {}, [], _, ok_spec (by decide +kernel), by decide +kernel, by unfold Admitted; decide +kernel⟩,
   ⟨wb, {}, [(0, [0])], _, ok_spec (by decide +kernel), by decide +kernel, by decide +kernel, by unfold Admitted; decide +kernel⟩,
   ⟨(fun z : State => { z with spn.pwmPend := none }) ((fun z : State => { z with spn.limPend := none }) (wb)), {}, [], _,
       by decide +kernel, by decide +kernel, ok_spec (by decide +kernel), by unfold Admitted; decide +kernel⟩,
   ⟨wb, {}, [], _, by decide +kernel, ok_spec (by decide +kernel), by unfold Admitted; decide +kernel⟩,
   ⟨(fun z : State => { z with sec.life := .blank }) (wb), { mb := 3 }, by decide +kernel, by unfold Admitted; decide +kernel⟩,
   ⟨(fun z : State => { z with psl.l.st := .up }) ((fun z : State => { z with spn.st := .stopped }) (wb)), {}, by decide +kernel,
       by decide +kernel, by unfold Admitted; decide +kernel⟩,
   ⟨(fun z : State => { z with spn.st := .stopped }) (wb), {}, by decide +kernel, by decide +kernel, by unfold Admitted; decide +kernel⟩,
   ⟨(fun z : State => { z with spn.st := .run }) (wb), {}, by decide +kernel, by unfold Admitted; decide +kernel⟩,
   ⟨wb, {}, by unfold Admitted; decide +kernel⟩⟩

/-- Inputs that meet the hypotheses of each clause of `ChannelEventsComplete`, in their order. -/
theorem test_ChannelEventsComplete_met :
    (∃ (s : State) (m : Strm) (o : ReadOrd), powered s = true ∧ s.bw.started = false ∧ s.acts[actOfStream m].fallback = none ∧
        readGateOk s m o = true) ∧
    (∃ (s : State) (m : Strm) (o : ReadOrd), powered s = true ∧ s.bw.started = false ∧ s.acts[actOfStream m].fallback = none ∧
        readGateOk s m o = false) ∧
    (∃ (s : State) (m : Strm) (d : DecodeFacts) (st : Nat) (s1 : State) (x : ReadCtx) (found : Option Int) (v : Verdict),
        powered s = true ∧ (takeDecode s m = some (x, s1)) ∧ foundSync x.par (d.soft.map (llrOf x.par.llrScale)) = found ∧
        streamVerdict s1 x found d = v ∧ finalStatus s1 m x v d = st ∧ (st = 0 ∨ st = 1 ∨ st = 6)) ∧
    (∃ (s : State) (m : Strm) (q : ReadRes) (rest : List ReadRes), powered s = true ∧ s.chn[m].results = q :: rest ∧ q.ends = false) ∧
    (∃ (s : State) (m : Strm) (q : ReadRes) (rest : List ReadRes), powered s = true ∧ s.chn[m].results = q :: rest ∧ q.ends = true ∧
        q.reloc = false) ∧
    (∃ (s : State) (m : Strm) (d : Fin 2), powered s = true ∧ freeDeep s = some d ∧
        roundRobin 8 s.chnDev.deepPtr (wantsDeep s) = some m.val) ∧
    (∃ (s : State) (d : Fin 2) (m : Strm) (psa : Nat) (r : RecRec), powered s = true ∧ (s.chnDev.deep[d] = some (m, psa)) ∧
        (s.chn[m].ladder.find? (fun r => r.inDeep && decide ((readPsa s r.ord).toNat = psa)) = some r)) ∧
    (∃ (s : State) (m : Strm) (d : Fin 2) (f : DecodeFacts) (psa : Nat) (r : RecRec) (v : Verdict), powered s = true ∧
        (s.chnDev.deep[d] = some (m, psa)) ∧
        (s.chn[m].ladder.find? (fun r => r.inDeep && decide ((readPsa s r.ord).toNat = psa)) = some r) ∧
        tryCandidates (readPsa s r.ord) r.ord.gen (candidates r.tol r.found f s.chnDev.now.iterDeep s.chnDev.now.iterDeep) = v ∧
        v.status = 0) ∧
    (∃ (s : State) (m : Strm) (h : Hd) (track : Nat) (slot : Nat) (r : RecRec), powered s = true ∧ recovLimitOf s r ≠ 0 ∧
        ((s.chn[m].ladder.find? fun r => r.ord.head = h ∧ r.ord.track = track ∧ r.ord.slot = slot) = some r) ∧
        rereading s.chn[m] r.ord = true) ∧
    (∃ (s : State) (m : Strm) (h : Hd) (track : Nat) (slot : Nat) (r : RecRec), powered s = true ∧ recovLimitOf s r ≠ 0 ∧
        ((s.chn[m].ladder.find? fun r => r.ord.head = h ∧ r.ord.track = track ∧ r.ord.slot = slot) = some r) ∧
        (r.rung = 2 ∨ r.rung = 3) ∧ r.waitDeep = false ∧ r.inDeep = false ∧ rereading s.chn[m] r.ord = false) ∧
    (∃ (s : State) (m : Strm) (a : Nat) (b : Nat) (k : Nat), powered s = true ∧ s.streams[m].selected = true ∧
        noGate s s.streams[m].head = true ∧ ((s.chz[s.streams[m].head][s.streams[m].zone]).fmtPend = some (a, b, k))) ∧
    (∃ (s : State) (h : Hd) (z : Zn) (tol : Nat) (win : Nat) (hd : Nat) (ofs : Int), powered s = true ∧ noGate s h = true ∧
        ((s.chz[h][z]).syncPend = some (tol, win, hd, ofs))) :=
  ⟨⟨wbRead, 0, {}, by decide +kernel, by decide +kernel, by decide +kernel, by decide +kernel⟩,
   ⟨(fun z : State => { z with acts := vupd z.acts (actOfStream 0) fun y => { y with fallback := none } }) ((fun z : State => { z with bw.started := false }) (wb)),
       0, {}, by decide +kernel, by decide +kernel, by decide +kernel, by decide +kernel⟩,
   ⟨{ wb with chn := vupd wb.chn 0 fun x => { x with decq := [{ aborted := false }] } }, 0,
       { atE := some { iters := 0, block := goodBlock } }, 0, _, _, _, _, by decide +kernel, some_pair (by decide +kernel), rfl, rfl,
       by decide +kernel, by decide +kernel⟩,
   ⟨(fun z : State => { z with chn := vupd z.chn 0 fun y => { y with results := ({}) :: ([]) } }) (wb), 0, {}, [], by decide +kernel,
       by decide +kernel, by decide +kernel⟩,
   ⟨(fun z : State => { z with chn := vupd z.chn 0 fun y => { y with results := ({ ends := true }) :: ([]) } }) (wb), 0,
       { ends := true }, [], by decide +kernel, by decide +kernel, by decide +kernel, by decide +kernel⟩,
   ⟨(fun z : State => { z with chn := vupd z.chn 0 fun y => { y with ladder := [{ waitDeep := true }] } }) (wb), 0, _, by decide +kernel,
       some_spec (by decide +kernel), by decide +kernel⟩,
   ⟨(fun z : State => { z with chnDev.deep := vupd z.chnDev.deep 0 fun y => some (0, 0) }) ((fun z : State => { z with chn := vupd z.chn 0 fun y => { y with ladder := [{ inDeep := true }] } }) ((fun z : State => { z with chnDev.deep := vupd z.chnDev.deep 0 fun y => some (0, 0) }) (wb))),
       0, 0, 0, _, by decide +kernel, by decide +kernel, some_spec (by decide +kernel)⟩,
   ⟨(fun z : State => { z with chnDev.deep := vupd z.chnDev.deep 0 fun y => some (0, 0) }) ((fun z : State => { z with chn := vupd z.chn 0 fun y => { y with ladder := [{ inDeep := true }] } }) ((fun z : State => { z with chnDev.deep := vupd z.chnDev.deep 0 fun y => some (0, 0) }) (wb))),
       0, 0, { atE := some { iters := 0, block := goodBlock } }, 0, _, _, by decide +kernel, by decide +kernel,
       some_spec (by decide +kernel), rfl, by decide +kernel⟩,
   ⟨(fun z : State => { z with chn := vupd z.chn 0 fun y => { y with cur := some { } } }) ((fun z : State => { z with chnDev.now.recovLimit := 100 }) ((fun z : State => { z with chn := vupd z.chn 0 fun y => { y with ladder := [{ }] } }) (wb))),
       0, 0, 0, 0, { }, by decide +kernel, by decide +kernel, by decide +kernel, by decide +kernel⟩,
   ⟨(fun z : State => { z with chnDev.now.recovLimit := 100 }) ((fun z : State => { z with chn := vupd z.chn 0 fun y => { y with ladder := [{ rung := 2 }] } }) (wb)),
       0, 0, 0, 0, { rung := 2 }, by decide +kernel, by decide +kernel, by decide +kernel, by decide +kernel, by decide +kernel,
       by decide +kernel, by decide +kernel⟩,
   ⟨(fun z : State => { z with chz := vupd z.chz 0 fun y => vupd y 0 fun y => { y with fmtPend := some (0, 0, 0) } }) ((fun z : State => { z with streams := vupd z.streams 0 fun y => { y with selected := true } }) (wb)),
       0, 0, 0, 0, by decide +kernel, by decide +kernel, by decide +kernel, by decide +kernel⟩,
   ⟨(fun z : State => { z with chz := vupd z.chz 0 fun y => vupd y 0 fun y => { y with syncPend := some (0, 0, 0, 0) } }) (wb), 0, 0, 0,
       0, 0, 0, by decide +kernel, by decide +kernel, by decide +kernel⟩⟩

/-- Inputs that meet the hypotheses of each clause of `ChannelMessagesComplete`, in their order. -/
theorem test_ChannelMessagesComplete_met :
    (∃ (s : State) (r : Req) (head : Nat) (zone : Nat) (w : BitVec 32) (s' : State), fld w.toNat 0 9 = 0 ∧ selHz s head zone ≠ [] ∧
        foldExcept (selHz s head zone) s (fmtStep (fld w.toNat 30 2) (fld w.toNat 17 13) (fld w.toNat 9 8)) = .ok s' ∧
        (Admitted s r { opc := 0x0301, setter := true })) ∧
    (∃ (s : State) (r : Req) (head : Nat) (zone : Nat) (ps : Params) (s' : State), selHz s head zone ≠ [] ∧
        (foldExcept (selHz s head zone) s (hzStep fun c => applyPars frontendPars (fun _ => []) ps c) = .ok s') ∧
        (Admitted s r { opc := 0x0302, setter := true })) ∧
    (∃ (s : State) (r : Req) (head : Nat) (zone : Nat) (m : Strm) (ps : Params) (s' : State), selHz s head zone ≠ [] ∧
        foldExcept (selHz s head zone) s (eqStep m ps) = .ok s' ∧ (Admitted s r { opc := 0x0303, setter := true })) ∧
    (∃ (s : State) (r : Req) (head : Nat) (zone : Nat) (ps : Params) (s' : State), selHz s head zone ≠ [] ∧
        (foldExcept (selHz s head zone) s (hzStep fun c => applyPars detectorPars (fun c => [([2, 3],
        decide (c.iterWeak ≤ c.iterOtf))]) ps c) = .ok s') ∧ (Admitted s r { opc := 0x0304, setter := true })) ∧
    (∃ (s : State) (r : Req) (head : Nat) (zone : Nat) (ps : Params) (s' : State), selHz s head zone ≠ [] ∧
        foldExcept (selHz s head zone) s (hzStep (syncPut ps)) = .ok s' ∧ (Admitted s r { opc := 0x0305, setter := true })) ∧
    (∃ (s : State) (r : Req) (m : Strm) (ps : Params) (x : RecovPar × Nat), (applyPars recoveryPars (fun _ => []) ps (s.chnDev.par,
        s.chn[m].recovSlots) = .ok x) ∧ (Admitted s r { opc := 0x0306, setter := true })) ∧
    (∃ (s : State) (r : Req), (Admitted s r { opc := 0x0307, need := .rd })) ∧
    (∃ (s : State) (r : Req) (head : Nat) (count : Nat) (h : Hd) (m : Strm), selHead s head = some h ∧ 1 ≤ count ∧ count ≤ 65536 ∧
        streamOfHead s h = some m ∧ s.chn[m].capture = none ∧ (Admitted s r { opc := 0x0308, need := .db 1, long := true })) :=
  ⟨⟨wb, {}, 0, 0, 0, _, by decide +kernel, by decide +kernel, ok_spec (by decide +kernel), by unfold Admitted; decide +kernel⟩,
   ⟨wb, {}, 0, 0, [], _, by decide +kernel, ok_spec (by decide +kernel), by unfold Admitted; decide +kernel⟩,
   ⟨wb, {}, 0, 0, 0, [], _, by decide +kernel, ok_spec (by decide +kernel), by unfold Admitted; decide +kernel⟩,
   ⟨wb, {}, 0, 0, [], _, by decide +kernel, ok_spec (by decide +kernel), by unfold Admitted; decide +kernel⟩,
   ⟨wb, {}, 0, 0, [], _, by decide +kernel, ok_spec (by decide +kernel), by unfold Admitted; decide +kernel⟩,
   ⟨wb, {}, 0, [], _, ok_spec (by decide +kernel), by unfold Admitted; decide +kernel⟩,
   ⟨wb, {}, by unfold Admitted; decide +kernel⟩,
   ⟨(fun z : State => { z with streams := vupd z.streams 0 fun y => { y with selected := true } }) ((fun z : State => { z with chn := vupd z.chn 0 fun y => { y with capture := none } }) (wb)),
       {}, 0, 1, 0, 0, by decide +kernel, by decide +kernel, by decide +kernel, by decide +kernel, by decide +kernel,
       by unfold Admitted; decide +kernel⟩⟩

/-- Inputs that meet the hypotheses of each clause of `WriteEventsComplete`, in their order. -/
theorem test_WriteEventsComplete_met :
    (∃ (s : State) (o : WriteOrd) (a : Act) (blocks : List (List Byte)), live s = true ∧ s.bw.started = false ∧ actOf s o.head = a ∧
        0 < o.count ∧ s.wps[a].run = none ∧ orderBlocks s a o = blocks) ∧
    (∃ (s : State) (o : WriteOrd) (r : Run) (a : Act) (blocks : List (List Byte)), live s = true ∧ s.bw.started = false ∧
        actOf s o.head = a ∧ 0 < o.count ∧ s.wps[a].run = some r ∧ orderBlocks s a o = blocks) ∧
    (∃ (s : State) (h : Hd) (since : Nat), powered s = true ∧ s.wheads[h].htrSince = some since ∧
        passedNs s since (s.wdev.whLead * 1000) = true) ∧
    (∃ (s : State) (a : Act) (r : Run), live s = true ∧ vddioUp s = true ∧ s.wps[a].run = some r ∧ r.phase = 0 ∧ s.wps[a].ae = false ∧
        assistCode s a r = none) ∧
    (∃ (s : State) (a : Act) (r : Run) (c : Nat), live s = true ∧ vddioUp s = true ∧ s.wps[a].run = some r ∧ r.phase = 0 ∧
        s.wps[a].ae = false ∧ assistCode s a r = some c) ∧
    (∃ (s : State) (a : Act) (r : Run), live s = true ∧ vddioUp s = true ∧ s.wps[a].run = some r ∧ r.phase = 1 ∧ s.wps[a].ae = true ∧
        s.wps[a].wg = false ∧ gateCode s a r = none) ∧
    (∃ (s : State) (a : Act) (r : Run) (c : Nat), live s = true ∧ vddioUp s = true ∧ s.wps[a].run = some r ∧ r.phase = 1 ∧
        s.wps[a].ae = true ∧ s.wps[a].wg = false ∧ gateCode s a r = some c) ∧
    (∃ (s : State) (a : Act) (r : Run), powered s = true ∧ s.wps[a].run = some r ∧ s.wps[a].wg = true ∧ r.ended.length < r.ord.count ∧
        s.wps[a].buffer ≠ [] ∧ r.orderly = none ∧ ((r.ord.count ≤ r.ended.length + 1 ∨ (endSector s a r).wps[a].buffer ≠ []))) ∧
    (∃ (s : State) (a : Act) (r : Run) (c : Nat), powered s = true ∧ s.wps[a].run = some r ∧ s.wps[a].wg = true ∧
        r.ended.length < r.ord.count ∧ s.wps[a].buffer ≠ [] ∧ r.orderly = some c) ∧
    (∃ (s : State) (a : Act) (r : Run), powered s = true ∧ s.wps[a].run = some r ∧ s.wps[a].wg = true ∧
        r.ended.length + 1 < r.ord.count ∧ s.wps[a].buffer ≠ [] ∧ r.orderly = none ∧ (endSector s a r).wps[a].buffer = []) ∧
    (∃ (s : State) (a : Act) (r : Run), powered s = true ∧ s.wps[a].run = some r ∧ s.wps[a].wg = true ∧
        r.ended.length + 1 < r.ord.count ∧ s.wps[a].buffer.length ≤ 1) ∧
    (∃ (s : State) (a : Act) (r : Run), powered s = true ∧ s.wps[a].run = some r ∧ s.wps[a].wg = true ∧ r.ended.length = r.ord.count) ∧
    (∃ (s : State) (a : Act) (ctx : Nat) (slot : Nat) (st : Nat) (b : Band), live s = true ∧ s.bw.started = false ∧
        bandOf s a ctx = some b ∧ b.complete.contains slot = false ∧ slotStatus s a b slot = some st ∧ (st = 1 ∨ st = 2) ∧
        b.closed = false ∧ triesOf b slot < s.wps[a].par.lim.wrRetry) ∧
    (∃ (s : State) (a : Act) (ctx : Nat) (slot : Nat) (st : Nat) (b : Band), live s = true ∧ s.bw.started = false ∧
        bandOf s a ctx = some b ∧ b.complete.contains slot = false ∧ slotStatus s a b slot = some st ∧ (st = 1 ∨ st = 2) ∧
        s.wps[a].par.lim.wrRetry ≤ triesOf b slot) ∧
    (∃ (s : State), live s = true ∧ s.bw.inhibit = false) ∧
    (∃ (s : State) (h : Hd), powered s = true ∧ s.wheads[h].htrHold = true) ∧
    (∃ (s : State) (h : Hd), powered s = true ∧ s.wheads[h].contactRun = 0) :=
  ⟨⟨(fun z : State => { z with wps := vupd z.wps 0 fun y => { y with run := none } }) ((fun z : State => { z with bw.started := false }) (wb)),
      { count := 1 }, _, _, by decide +kernel, by decide +kernel, rfl, by decide +kernel, by decide +kernel, rfl⟩,
   ⟨(fun z : State => { z with wps := vupd z.wps 0 fun y => { y with run := some ({}) } }) ((fun z : State => { z with bw.started := false }) (wb)),
       { count := 1 }, {}, _, _, by decide +kernel, by decide +kernel, rfl, by decide +kernel, by decide +kernel, rfl⟩,
   ⟨(fun z : State => { z with us := 1000000 }) ((fun z : State => { z with wheads := vupd z.wheads 0 fun y => { y with htrSince := some 0 } }) (wb)),
       0, 0, by decide +kernel, by decide +kernel, by decide +kernel⟩,
   ⟨wbWrite, 0, wbRun, by decide +kernel, by decide +kernel, by decide +kernel, by decide +kernel, by decide +kernel, by decide +kernel⟩,
   ⟨(fun z : State => { z with wps := vupd z.wps 0 fun y => { y with ae := false } }) ((fun z : State => { z with wps := vupd z.wps 0 fun y => { y with run := some ({ }) } }) (wb)),
       0, { }, _, by decide +kernel, by decide +kernel, by decide +kernel, by decide +kernel, by decide +kernel,
       some_spec (by decide +kernel)⟩,
   ⟨{ wbWrite with wps := vupd wbWrite.wps 0 fun x => { x with ae := true, run := some { wbRun with phase := 1 } } }, 0,
       { wbRun with phase := 1 }, by decide +kernel, by decide +kernel, by decide +kernel, by decide +kernel, by decide +kernel,
       by decide +kernel, by decide +kernel⟩,
   ⟨(fun z : State => { z with wps := vupd z.wps 0 fun y => { y with wg := false } }) ((fun z : State => { z with wps := vupd z.wps 0 fun y => { y with ae := true } }) ((fun z : State => { z with wps := vupd z.wps 0 fun y => { y with run := some ({ phase := 1 }) } }) (wb))),
       0, { phase := 1 }, _, by decide +kernel, by decide +kernel, by decide +kernel, by decide +kernel, by decide +kernel,
       by decide +kernel, some_spec (by decide +kernel)⟩,
   ⟨(fun z : State => { z with wps := vupd z.wps 0 fun y => { y with buffer := (List.replicate 1 []) } }) ((fun z : State => { z with wps := vupd z.wps 0 fun y => { y with wg := true } }) ((fun z : State => { z with wps := vupd z.wps 0 fun y => { y with run := some ({ ord := { count := 1 } }) } }) (wb))),
       0, { ord := { count := 1 } }, by decide +kernel, by decide +kernel, by decide +kernel, by decide +kernel, by decide +kernel,
       by decide +kernel, by decide +kernel⟩,
   ⟨(fun z : State => { z with wps := vupd z.wps 0 fun y => { y with buffer := (List.replicate 1 []) } }) ((fun z : State => { z with wps := vupd z.wps 0 fun y => { y with wg := true } }) ((fun z : State => { z with wps := vupd z.wps 0 fun y => { y with run := some ({ ord := { count := 1 }, orderly := some 1 }) } }) (wb))),
       0, { ord := { count := 1 }, orderly := some 1 }, 1, by decide +kernel, by decide +kernel, by decide +kernel, by decide +kernel,
       by decide +kernel, by decide +kernel⟩,
   ⟨(fun z : State => { z with wps := vupd z.wps 0 fun y => { y with buffer := (List.replicate 1 []) } }) ((fun z : State => { z with wps := vupd z.wps 0 fun y => { y with wg := true } }) ((fun z : State => { z with wps := vupd z.wps 0 fun y => { y with run := some ({ ord := { count := 2 } }) } }) (wb))),
       0, { ord := { count := 2 } }, by decide +kernel, by decide +kernel, by decide +kernel, by decide +kernel, by decide +kernel,
       by decide +kernel, by decide +kernel⟩,
   ⟨(fun z : State => { z with wps := vupd z.wps 0 fun y => { y with wg := true } }) ((fun z : State => { z with wps := vupd z.wps 0 fun y => { y with run := some ({ ord := { count := 2 } }) } }) (wb)),
       0, { ord := { count := 2 } }, by decide +kernel, by decide +kernel, by decide +kernel, by decide +kernel, by decide +kernel⟩,
   ⟨(fun z : State => { z with wps := vupd z.wps 0 fun y => { y with wg := true } }) ((fun z : State => { z with wps := vupd z.wps 0 fun y => { y with run := some ({ }) } }) (wb)),
       0, { }, by decide +kernel, by decide +kernel, by decide +kernel, by decide +kernel⟩,
   ⟨{ wbWrite with wps := vupd wbWrite.wps 0 fun x => { x with results := [{ status := 1, psa := psaOf 0 wbWrite.heads[(0 : Fin 32)].surface 0 }] } },
       0, 0, 0, 1, wbBand, by decide +kernel, by decide +kernel, by decide +kernel, by decide +kernel, by decide +kernel,
       by decide +kernel, by decide +kernel, by decide +kernel⟩,
   ⟨{ wbWrite with wps := vupd wbWrite.wps 0 fun x => { x with bands := vupd x.bands 0 fun _ => some { wbBand with tries := [(0, 100)] }, results := [{ status := 1, psa := psaOf 0 wbWrite.heads[(0 : Fin 32)].surface 0 }] } },
       0, 0, 0, 1, { wbBand with tries := [(0, 100)] }, by decide +kernel, by decide +kernel, by decide +kernel, by decide +kernel,
       by decide +kernel, by decide +kernel, by decide +kernel⟩,
   ⟨(fun z : State => { z with bw.inhibit := false }) (wb), by decide +kernel, by decide +kernel⟩,
   ⟨(fun z : State => { z with wheads := vupd z.wheads 0 fun y => { y with htrHold := true } }) (wb), 0, by decide +kernel,
       by decide +kernel⟩,
   ⟨(fun z : State => { z with wheads := vupd z.wheads 0 fun y => { y with contactRun := 0 } }) (wb), 0, by decide +kernel,
       by decide +kernel⟩⟩

/-- Inputs that meet the hypotheses of each clause of `WriteMessagesComplete`, in their order. -/
theorem test_WriteMessagesComplete_met :
    (∃ (s : State) (r : Req) (head : Nat) (zone : Nat) (ps : Params) (s' : State), selHz s head zone ≠ [] ∧
        (foldExcept (selHz s head zone) s (whzStep (applyPars wrpFormatPars (fun _ => []) ps)) = .ok s') ∧
        (Admitted s r { opc := 0x0401, setter := true })) ∧
    (∃ (s : State) (r : Req) (head : Nat) (zone : Nat) (ps : Params) (s' : State), selHz s head zone ≠ [] ∧
        (((ps.any fun e => e.1 = 0) = false ∨ s.sec.life = .manufacture ∨ s.sec.life = .ret)) ∧
        (foldExcept (selHz s head zone) s (whzStep (applyPars wrpAssistPars (fun x => [([4, 5],
        decide (x.2.2.atLimit + 10 ≤ x.2.2.atTrip))]) ps)) = .ok s') ∧
        (Admitted s r { opc := 0x0402, need := needOf wrpAssistPars ps, setter := true })) ∧
    (∃ (s : State) (r : Req) (head : Nat) (zone : Nat) (ps : Params) (s' : State), selHz s head zone ≠ [] ∧
        (foldExcept (selHz s head zone) s (whzStep (applyPars wrpFhPars (fun _ => []) ps)) = .ok s') ∧
        (Admitted s r { opc := 0x0403, setter := true })) ∧
    (∃ (s : State) (r : Req) (ps : Params) (l : WrpLimits), (applyPars wrpLimitPars (fun l => [([5],
        s.guards.all fun g => decide (l.tSqz ≤ g.cfg.tOt))]) ps s.wdev.lim = .ok l) ∧ (Admitted s r { opc := 0x0404, setter := true })) ∧
    (∃ (s : State) (r : Req) (head : Nat) (ps : Params) (s' : State), selHeads s head ≠ [] ∧
        foldExcept (selHeads s head) s (wearStep ps) = .ok s' ∧ (Admitted s r { opc := 0x0405, setter := true })) ∧
    (∃ (s : State) (r : Req) (a : Act) (d : BitVec 256) (s' : State) (c : Fin 16), fld d.toNat 0 75 = 0 ∧
        (openBand s a (descOf d) = .ok (c, s')) ∧ (Admitted s r { opc := 0x0406, need := .db 4 })) ∧
    (∃ (s : State) (r : Req) (a : Act) (ctx : Nat) (b : Band), bandOf s a ctx = some b ∧ runCtx s a ≠ ctx ∧
        (Admitted s r { opc := 0x0407, need := .db 4 })) ∧
    (∃ (s : State) (r : Req), (Admitted s r { opc := 0x0408, need := .db 4 })) ∧
    (∃ (s : State) (r : Req) (head : Nat) (h : Hd), selHead s head = some h ∧ Admitted s r { opc := 0x0409 }) ∧
    (∃ (s : State) (r : Req), (Admitted s r { opc := 0x040A, need := .rd })) ∧
    (∃ (s : State) (r : Req) (head : Nat) (h : Hd), selHead s head = some h ∧ (Admitted s r { opc := 0x040B, need := .rd })) :=
  ⟨⟨wb, {}, 0, 0, [], _, by decide +kernel, ok_spec (by decide +kernel), by unfold Admitted; decide +kernel⟩,
   ⟨wb, {}, 0, 0, [], _, by decide +kernel, by decide +kernel, ok_spec (by decide +kernel), by unfold Admitted; decide +kernel⟩,
   ⟨wb, {}, 0, 0, [], _, by decide +kernel, ok_spec (by decide +kernel), by unfold Admitted; decide +kernel⟩,
   ⟨wb, {}, [], _, ok_spec (by decide +kernel), by unfold Admitted; decide +kernel⟩,
   ⟨wb, {}, 0, [], _, by decide +kernel, ok_spec (by decide +kernel), by unfold Admitted; decide +kernel⟩,
   ⟨wb, {}, 0, BitVec.ofNat 256 (2 ^ 198 + 2 ^ 99 * 1 + 2 ^ 75), _, _, by decide +kernel, ok_pair (by decide +kernel),
       by unfold Admitted; decide +kernel⟩,
   ⟨{ wbWrite with wps := vupd wbWrite.wps 0 fun x => { x with run := none } }, {}, 0, 0, wbBand, by decide +kernel, by decide +kernel,
       by unfold Admitted; decide +kernel⟩,
   ⟨wb, {}, by unfold Admitted; decide +kernel⟩,
   ⟨wb, {}, 0, _, some_spec (by decide +kernel), by unfold Admitted; decide +kernel⟩,
   ⟨wb, {}, by unfold Admitted; decide +kernel⟩,
   ⟨wb, {}, 0, _, some_spec (by decide +kernel), by unfold Admitted; decide +kernel⟩⟩

/-- Inputs that meet the hypotheses of each clause of `LinksComplete`, in their order. -/
theorem test_LinksComplete_met :
    (∃ (s : State) (a : Act), powered s = true ∧ linkSends s.plks[a].l = true) ∧
    (∃ (s : State) (a : Act) (f : BitVec 128), powered s = true ∧ s.plks[a].l.st = .up ∧ frameGood 0x4B s.plks[a].l f = true) ∧
    (∃ (s : State) (a : Act), powered s = true ∧ linkSends s.plks[a].l = true ∧ s.plks[a].l.st ≠ .up) ∧
    (∃ (s : State) (a : Act) (f : BitVec 128), powered s = true ∧ s.plks[a].l.st = .train ∧ s.plks[a].l.trainStep = 3 ∧
        s.plks[a].l.trainRun = 7 ∧ frameIntact 0x4B f = true ∧ frameType f = 0) ∧
    (∃ (s : State), powered s = true ∧ linkSends s.psl.l = true) ∧
    (∃ (s : State) (f : BitVec 128), powered s = true ∧ s.psl.l.st = .up ∧ frameGood 0x8D s.psl.l f = true) ∧
    (∃ (s : State) (link : Nat) (tag : Nat) (q : RegReq), powered s = true ∧ (linkOf s link).st = .up ∧
        (((linkOf s link).reqs.find? fun x => decide (x.tag = tag) && x.sent) = some q) ∧ 8 ≤ q.frames ∧ q.tries < s.lnk.regRetry) ∧
    (∃ (s : State) (link : Nat) (tag : Nat) (q : RegReq), powered s = true ∧ (linkOf s link).st = .up ∧
        (((linkOf s link).reqs.find? fun x => decide (x.tag = tag) && x.sent) = some q) ∧ 8 ≤ q.frames ∧ s.lnk.regRetry ≤ q.tries) ∧
    (∃ (s : State) (link : Nat), powered s = true ∧ link < 5 ∧ (linkOf s link).trainStep ≠ 0 ∧ (linkOf s link).st = .train ∧
        (linkOf s link).attempts < 2) ∧
    (∃ (s : State) (a : Act), powered s = true ∧ s.plks[a].l.trainStep ≠ 0 ∧ s.plks[a].l.st = .train ∧ 2 ≤ s.plks[a].l.attempts) ∧
    (∃ (s : State) (link : Nat), powered s = true ∧ link < 5 ∧ (linkOf s link).st = .fail ∧ (linkOf s link).trainStep = 0) ∧
    (∃ (s : State) (a : Act), powered s = true ∧ s.plks[a].l.st = .up ∧ 3 ≤ s.plks[a].l.badRun) ∧
    (∃ (s : State) (u : State), powered s = true ∧ s.psl.l.st = .up ∧ 4 ≤ s.psl.l.badRun ∧
        ((report (endAllReqs (updPsl s fun p => { p with lossUs := s.us, l := { p.l with st := .down, loss := true, lost := true } }) 4) (0x07,
        0) .pslLoss 2 0x0A 0 s.psl.l.badTotal) = u) ∧ s.bw.started = false) ∧
    (∃ (s : State) (r : Req), (Admitted s r { opc := 0x0902, need := .rd })) ∧
    (∃ (s : State) (r : Req), (Admitted s r { opc := 0x0903, need := .rd })) ∧
    (∃ (s : State) (r : Req) (a : Act) (op : Nat) (addr : Nat) (data : Nat), (op = 1 ∨ op = 2) ∧ addr ≤ 4095 ∧ data ≤ 65535 ∧
        s.plks[a].l.st = .up ∧ (Admitted s r { opc := 0x0904, need := if op = 1 then .db 2 else .rd })) ∧
    (∃ (s : State) (r : Req) (op : Nat) (addr : Nat) (data : Nat), (op = 1 ∨ op = 2) ∧ addr ≤ 255 ∧ data ≤ 255 ∧ s.psl.l.st = .up ∧
        (Admitted s r { opc := 0x0905, need := if op = 1 then .db 2 else .rd })) ∧
    (∃ (s : State) (k : Nat) (tag : Nat) (tg : Bool) (q : RegReq) (mb : Mb),
        (((linkOf s k).reqs.find? fun x => decide (x.tag = tag) && decide (x.toggle = tg)) = some q) ∧ q.mb = some mb) ∧
    (∃ (s : State) (r : Req) (ps : Params) (p : LnkPar),
        (applyPars [parN 0 7 fun v (p : LnkPar) => { p with regRetry := v }] (fun _ => []) ps s.lnk = .ok p) ∧
        (Admitted s r { opc := 0x0906, setter := true })) ∧
    (∃ (s : State) (r : Req) (ps : Params) (p : PsLink), (applyPars safePars (fun _ => []) ps s.psl = .ok p) ∧
        (Admitted s r { opc := 0x0B02, setter := true })) :=
  ⟨⟨(fun z : State => { z with plks := vupd z.plks 0 fun y => { y with l.st := .up } }) (wb), 0, by decide +kernel, by decide +kernel⟩,
   ⟨(fun z : State => { z with plks := vupd z.plks 0 fun y => { y with l.rxFseq := 63 } }) ((fun z : State => { z with plks := vupd z.plks 0 fun y => { y with l.st := .up } }) ((fun z : State => { z with plks := vupd z.plks 0 fun y => { y with l.st := .up } }) (wb))),
       0, (goodFrame 0x4B), by decide +kernel, by decide +kernel, by decide +kernel⟩,
   ⟨(fun z : State => { z with plks := vupd z.plks 0 fun y => { y with l.trainStep := 1 } }) (wb), 0, by decide +kernel,
       by decide +kernel, by decide +kernel⟩,
   ⟨(fun z : State => { z with plks := vupd z.plks 0 fun y => { y with l.trainRun := 7 } }) ((fun z : State => { z with plks := vupd z.plks 0 fun y => { y with l.trainStep := 3 } }) ((fun z : State => { z with plks := vupd z.plks 0 fun y => { y with l.st := .train } }) ((fun z : State => { z with plks := vupd z.plks 0 fun y => { y with l.trainRun := 7 } }) ((fun z : State => { z with plks := vupd z.plks 0 fun y => { y with l.trainStep := 3 } }) ((fun z : State => { z with plks := vupd z.plks 0 fun y => { y with l.st := .train } }) (wb)))))),
       0, (goodFrame 0x4B), by decide +kernel, by decide +kernel, by decide +kernel, by decide +kernel, by decide +kernel,
       by decide +kernel⟩,
   ⟨(fun z : State => { z with psl.l.st := .up }) (wb), by decide +kernel, by decide +kernel⟩,
   ⟨(fun z : State => { z with psl.l.rxFseq := 63 }) ((fun z : State => { z with psl.l.st := .up }) ((fun z : State => { z with psl.l.st := .up }) (wb))),
       (goodFrame 0x8D), by decide +kernel, by decide +kernel, by decide +kernel⟩,
   ⟨(fun z : State => { z with plks := vupd z.plks 0 fun y => { y with l.reqs := [{ sent := true, frames := 8 }] } }) ((fun z : State => { z with plks := vupd z.plks 0 fun y => { y with l.st := .up } }) (wb)),
       0, 0, { sent := true, frames := 8 }, by decide +kernel, by decide +kernel, by decide +kernel, by decide +kernel,
       by decide +kernel⟩,
   ⟨(fun z : State => { z with plks := vupd z.plks 0 fun y => { y with l.reqs := [{ sent := true, frames := 8, tries := 9 }] } }) ((fun z : State => { z with plks := vupd z.plks 0 fun y => { y with l.st := .up } }) (wb)),
       0, 0, { sent := true, frames := 8, tries := 9 }, by decide +kernel, by decide +kernel, by decide +kernel, by decide +kernel,
       by decide +kernel⟩,
   ⟨(fun z : State => { z with plks := vupd z.plks 0 fun y => { y with l.trainStep := 1 } }) ((fun z : State => { z with plks := vupd z.plks 0 fun y => { y with l.st := .train } }) (wb)),
       0, by decide +kernel, by decide +kernel, by decide +kernel, by decide +kernel, by decide +kernel⟩,
   ⟨(fun z : State => { z with plks := vupd z.plks 0 fun y => { y with l.attempts := 2 } }) ((fun z : State => { z with plks := vupd z.plks 0 fun y => { y with l.trainStep := 1 } }) ((fun z : State => { z with plks := vupd z.plks 0 fun y => { y with l.st := .train } }) ((fun z : State => { z with plks := vupd z.plks 0 fun y => { y with l.attempts := 2 } }) ((fun z : State => { z with plks := vupd z.plks 0 fun y => { y with l.st := .train } }) (wb))))),
       0, by decide +kernel, by decide +kernel, by decide +kernel, by decide +kernel⟩,
   ⟨(fun z : State => { z with plks := vupd z.plks 0 fun y => { y with l.st := .fail } }) (wb), 0, by decide +kernel, by decide +kernel,
       by decide +kernel, by decide +kernel⟩,
   ⟨(fun z : State => { z with plks := vupd z.plks 0 fun y => { y with l.badRun := 3 } }) ((fun z : State => { z with plks := vupd z.plks 0 fun y => { y with l.st := .up } }) (wb)),
       0, by decide +kernel, by decide +kernel, by decide +kernel⟩,
   ⟨(fun z : State => { z with bw.started := false }) ((fun z : State => { z with psl.l.badRun := 4 }) ((fun z : State => { z with psl.l.st := .up }) (wb))),
       _, by decide +kernel, by decide +kernel, by decide +kernel, rfl, by decide +kernel⟩,
   ⟨wb, {}, by unfold Admitted; decide +kernel⟩,
   ⟨wb, {}, by unfold Admitted; decide +kernel⟩,
   ⟨(fun z : State => { z with plks := vupd z.plks 0 fun y => { y with l.st := .up } }) (wb), {}, 0, 1, 0, 0, by decide +kernel,
       by decide +kernel, by decide +kernel, by decide +kernel, by unfold Admitted; decide +kernel⟩,
   ⟨(fun z : State => { z with psl.l.st := .up }) (wb), {}, 1, 0, 0, by decide +kernel, by decide +kernel, by decide +kernel,
       by decide +kernel, by unfold Admitted; decide +kernel⟩,
   ⟨(fun z : State => { z with plks := vupd z.plks 0 fun y => { y with l.reqs := [{ mb := some 0 }] } }) (wb), 0, 0, false,
       { mb := some 0 }, 0, by decide +kernel, by decide +kernel⟩,
   ⟨wb, {}, [], _, ok_spec (by decide +kernel), by unfold Admitted; decide +kernel⟩,
   ⟨wb, {}, [], _, ok_spec (by decide +kernel), by unfold Admitted; decide +kernel⟩⟩

/-- Inputs that meet the hypotheses of each clause of `BerthEventsComplete`, in their order. -/
theorem test_BerthEventsComplete_met :
    (∃ (s : State) (berth : Nat) (stripe : Nat) (b : Berth) (k : Fin 4), live s = true ∧ s.bw.started = false ∧
        berthAt s berth = some b ∧ ((roundRobin 4 s.brt.parityPtr fun k => if h : k < 4 then s.brt.parity[(⟨k,
        h⟩ : Fin 4)].isNone else false) = some k.val) ∧ (s.brt.destage.contains (berth, stripe) = true) ∧
        ((s.brt.destage.any fun x => decide (x.1 = berth) && decide (x.2 < stripe)) = false) ∧ s.brt.parityBufs + layK b.layout ≤ 1024) ∧
    (∃ (s : State) (e : Fin 4) (x : Nat × Nat) (b : Berth), powered s = true ∧ s.brt.parity[e] = some x ∧ berthAt s x.1 = some b) ∧
    (∃ (s : State) (slot : Nat) (m : ManEnt) (b : Berth), live s = true ∧ s.bw.started = false ∧ manAt s slot = some m ∧ m.st = 1 ∧
        berthAt s m.berth = some b) ∧
    (∃ (s : State) (slot : Nat) (member : Nat) (m : ManEnt) (a : Act) (o : PilotOp) (b : Berth), powered s = true ∧
        manAt s slot = some m ∧ (stripOp s slot member = some (a, o)) ∧ m.st = 2 ∧ stripDone o = true ∧ m.done.contains member = false ∧
        berthAt s m.berth = some b) ∧
    (∃ (s : State) (kind : Nat) (layout : Nat), live s = true ∧ s.bw.started = false ∧ (builderOf s kind layout).blocks ≠ [] ∧
        (builderOf s kind layout).since + 1000 * s.brtPar.logAge ≤ s.us) ∧
    (∃ (s : State) (b : Berth), live s = true ∧ s.bw.started = false ∧ s.brt.victim = none ∧ dredgeWanted s = true ∧
        chooseVictim s = some b) ∧
    (∃ (s : State) (b : Berth) (s1 : State), live s = true ∧ s.brt.victim.bind (berthAt s) = some b ∧ b.live = 0 ∧
        berthRead s b.id = false ∧ ((updBrt (releaseBerth s b.id) fun e => { e with victim := none }) = s1)) ∧
    (∃ (s : State) (berth : Nat) (stripe : Nat) (b : Berth), live s = true ∧ s.bw.started = false ∧ rebuilding s = false ∧
        berthAt s berth = some b ∧ (visitNext s (berth, stripe) = true) ∧ (visitLt (berth, stripe) (s.brt.patrolBerth,
        s.brt.patrolStripe) = false)) ∧
    (∃ (s : State) (berth : Nat) (stripe : Nat) (b : Berth), live s = true ∧ s.bw.started = false ∧ rebuilding s = false ∧
        berthAt s berth = some b ∧ (visitNext s (berth, stripe) = true) ∧ (visitLt (berth, stripe) (s.brt.patrolBerth,
        s.brt.patrolStripe) = true)) ∧
    (∃ (s : State), live s = true ∧ s.bw.started = false ∧ s.brt.ckptRun = false ∧
        ((freeMan s < 256 ∨ s.brt.ckptStart + 1000 * s.brtPar.ckptMs ≤ s.us))) ∧
    (∃ (s : State) (p : Tables), powered s = true ∧ s.bw.started = false ∧ s.ckptPend = some p) ∧
    (∃ (s : State) (p : Tables), powered s = true ∧ s.bw.started = false ∧ s.ckptPend = some p ∧ ckptHeadGone s 1 = true) :=
  ⟨⟨(fun z : State => { z with brt.destage := [(1, 0)] }) ((fun z : State => { z with tbl.berths := [{ id := 1 }] }) ((fun z : State => { z with bw.started := false }) (wb))),
      1, 0, { id := 1 }, 0, by decide +kernel, by decide +kernel, by decide +kernel, by decide +kernel, by decide +kernel,
      by decide +kernel, by decide +kernel⟩,
   ⟨(fun z : State => { z with brt.parity := vupd z.brt.parity 0 fun y => some (1, 0) }) ((fun z : State => { z with tbl.berths := [{ id := 1 }] }) ((fun z : State => { z with brt.parity := vupd z.brt.parity 0 fun y => some ((1, 0)) }) (wb))),
       0, (1, 0), { id := 1 }, by decide +kernel, by decide +kernel, by decide +kernel⟩,
   ⟨(fun z : State => { z with tbl.manifest := [{ berth := 1, st := 1 }] }) ((fun z : State => { z with tbl.berths := [{ id := 1 }] }) ((fun z : State => { z with bw.started := false }) (wb))),
       0, { berth := 1, st := 1 }, { id := 1 }, by decide +kernel, by decide +kernel, by decide +kernel, by decide +kernel,
       by decide +kernel⟩,
   ⟨(fun z : State => { z with cmds.pilots := vupd z.cmds.pilots 0 fun y => { y with entries := [{ man := some 0, res := (List.range 64).map fun k => (k, 0, []) }] } }) ((fun z : State => { z with tbl.manifest := [{ berth := 1, st := 2 }] }) ((fun z : State => { z with tbl.berths := [{ id := 1 }] }) (wb))),
       0, 0, { berth := 1, st := 2 }, 0, { man := some 0, res := (List.range 64).map fun k => (k, 0, []) }, { id := 1 },
       by decide +kernel, by decide +kernel, by decide +kernel, by decide +kernel, by decide +kernel, by decide +kernel,
       by decide +kernel⟩,
   ⟨(fun z : State => { z with us := 1000000000 }) ((fun z : State => { z with tbl.builders := [{ blocks := [0] }] }) ((fun z : State => { z with bw.started := false }) (wb))),
       0, 0, by decide +kernel, by decide +kernel, by decide +kernel, by decide +kernel⟩,
   ⟨(fun z : State => { z with tbl.losts := [{ berthType := true, berth := 1 }] }) ((fun z : State => { z with brtPar.dredgeLow := 100 }) ((fun z : State => { z with tbl.berths := [{ id := 1, kind := 1, st := .sealed }] }) ((fun z : State => { z with brt.victim := none }) ((fun z : State => { z with bw.started := false }) (wb))))),
       { id := 1, kind := 1, st := .sealed }, by decide +kernel, by decide +kernel, by decide +kernel, by decide +kernel,
       by decide +kernel⟩,
   ⟨(fun z : State => { z with brt.victim := some 1 }) ((fun z : State => { z with tbl.berths := [{ id := 1 }] }) (wb)), { id := 1 }, _,
       by decide +kernel, by decide +kernel, by decide +kernel, by decide +kernel, rfl⟩,
   ⟨(fun z : State => { z with tbl.berths := [{ id := 1, st := .sealed, wstripe := 4 }] }) ((fun z : State => { z with bw.started := false }) (wb)),
       1, 0, { id := 1, st := .sealed, wstripe := 4 }, by decide +kernel, by decide +kernel, by decide +kernel, by decide +kernel,
       by decide +kernel, by decide +kernel⟩,
   ⟨(fun z : State => { z with brt.patrolBerth := 2 }) ((fun z : State => { z with tbl.berths := [{ id := 1, st := .sealed, wstripe := 4 }] }) ((fun z : State => { z with bw.started := false }) (wb))),
       1, 0, { id := 1, st := .sealed, wstripe := 4 }, by decide +kernel, by decide +kernel, by decide +kernel, by decide +kernel,
       by decide +kernel, by decide +kernel⟩,
   ⟨(fun z : State => { z with us := 1000000000 }) ((fun z : State => { z with brt.ckptRun := false }) ((fun z : State => { z with bw.started := false }) (wb))),
       by decide +kernel, by decide +kernel, by decide +kernel, by decide +kernel⟩,
   ⟨(fun z : State => { z with ckptPend := some ({ }) }) ((fun z : State => { z with bw.started := false }) (wb)), { },
       by decide +kernel, by decide +kernel, by decide +kernel⟩,
   ⟨(fun z : State => { z with tbl.heads := vupd z.tbl.heads (wb.brtPar.ckptHeadB) fun y => .failed }) ((fun z : State => { z with ckptPend := some ({ }) }) ((fun z : State => { z with bw.started := false }) (wb))),
       { }, by decide +kernel, by decide +kernel, by decide +kernel, by decide +kernel⟩⟩

/-- Inputs that meet the hypotheses of each clause of `BerthAndRebuildMessagesComplete`, in their order. -/
theorem test_BerthAndRebuildMessagesComplete_met :
    (∃ (s : State) (r : Req) (layout : Nat), layout ≤ 2 ∧ layoutNeed s layout = true ∧ (Admitted s r { opc := 0x0501, setter := true })) ∧
    (∃ (s : State) (r : Req) (nsid : Nat) (layout : Nat) (n : Ns), layout ≤ 2 ∧ layoutNeed s layout = true ∧ nsid ≠ 0 ∧
        ((s.nv.namespaces.find? fun n => n.nsid = nsid) = some n) ∧ n.attached = [] ∧ nsEmpty s nsid = true ∧
        (Admitted s r { opc := 0x0501, setter := true })) ∧
    (∃ (s : State) (r : Req) (ps : Params) (p : BrtPar),
        (((ps.any fun e => e.1 = 1) = false ∨ s.sec.life = .manufacture ∨ s.sec.life = .ret)) ∧ (applyPars brtPars (fun p => [([5, 6],
        decide (p.dredgeCrit + 1 ≤ p.dredgeLow))]) ps s.brtPar = .ok p) ∧
        (Admitted s r { opc := 0x0502, need := needOf brtPars ps, setter := true })) ∧
    (∃ (s : State) (r : Req) (ps : Params) (p : BrtPar), (applyPars [parN 0 20 fun v (p : BrtPar) => { p with patrolShare := v },
        parN 0 100 fun v p => { p with patrolIdle := v }] (fun _ => []) ps s.brtPar = .ok p) ∧
        (Admitted s r { opc := 0x0503, setter := true })) ∧
    (∃ (s : State) (r : Req) (ps : Params) (p : BrtPar),
        (((ps.any fun e => e.1 ≠ 0) = false ∨ s.sec.life = .manufacture ∨ s.sec.life = .ret)) ∧ (applyPars ckptPars (fun p => [([1, 2],
        decide (actOf s p.ckptHeadA ≠ actOf s p.ckptHeadB) && inDrive s p.ckptHeadA && inDrive s p.ckptHeadB)]) ps s.brtPar = .ok p) ∧
        (Admitted s r { opc := 0x0504, need := needOf ckptPars ps, setter := true })) ∧
    (∃ (s : State) (r : Req), s.brt.ckptRun = false ∧ (Admitted s r { opc := 0x0505, long := true })) ∧
    (∃ (s : State) (r : Req), s.brt.ckptRun = true ∧ (Admitted s r { opc := 0x0505, long := true })) ∧
    (∃ (s : State) (r : Req) (berth : Nat) (b : Berth) (gs : List Seg), berthAt s berth = some b ∧
        (List.range (layN b.layout)).flatMap (memberSegs s b) = gs ∧ (Admitted s r { opc := 0x0506, need := .rd })) ∧
    (∃ (s : State) (r : Req), (Admitted s r { opc := 0x0507, need := .rd })) ∧
    (∃ (s : State) (r : Req) (h : Hd), inDrive s h = true ∧ s.tbl.heads[h] ≠ .inService ∧
        (Admitted s r { opc := 0x0508, need := .fa, setter := true })) ∧
    (∃ (s : State) (r : Req) (h : Hd) (state : Nat), inDrive s h = true ∧ (state = 1 ∨ state = 2) ∧
        mayDeclare s.tbl.heads[h] (headStateOf state) = true ∧ (Admitted s r { opc := 0x0508, need := .cf, setter := true })) ∧
    (∃ (s : State) (r : Req) (h : Hd), inDrive s h = true ∧ s.tbl.heads[h] = .failed ∧
        (Admitted s r { opc := 0x0508, need := .cf, setter := true })) ∧
    (∃ (s : State) (r : Req) (ps : Params) (p : RbldPar), (applyPars [parN 1 16 fun v (p : RbldPar) => { p with headAcqMax := v },
        parN 1 65535 fun v p => { p with headUncMax := v }, parN 64 65535 fun v p => { p with relocFail := v },
        parN 1 16 fun v p => { p with releaseMax := v }, parN 1 64 fun v p => { p with actSeekMax := v },
        parB fun v p => { p with weakReloc := v }] (fun _ => []) ps s.rbld.parNext = .ok p) ∧
        (Admitted s r { opc := 0x0509, setter := true })) ∧
    (∃ (s : State) (r : Req) (ps : Params) (p : RbldPar), (applyPars [parN 8 256 fun v (p : RbldPar) => { p with relocTracks := v },
        parN 1 50 fun v p => { p with rebuildFloor := v }, parN 1 100 fun v p => { p with rebuildCrit := v },
        parN 0 50 fun v p => { p with reshapeShare := v }, parN 1 16 fun v p => { p with reshapePar := v }] (fun p => [([1, 2],
        decide (p.rebuildFloor ≤ p.rebuildCrit))]) ps s.rbld.parNext = .ok p) ∧ (Admitted s r { opc := 0x050A, setter := true })) ∧
    (∃ (s : State) (r : Req) (layout : Nat) (nsid : Nat) (n : Ns), layout ≤ 2 ∧ layoutNeed s layout = true ∧ nsAt s nsid = some n ∧
        ((s.tbl.reshapes.any fun x => !x.move && decide (x.target = nsid)) = false) ∧
        (growth s n layout ≤ (allHeads.filter (headWritable s)).foldl (fun a h => a + freeSlots s h) 0) ∧
        (Admitted s r { opc := 0x050B, long := true })) ∧
    (∃ (s : State) (r : Req) (layout : Nat) (nsid : Nat) (n : Ns), layout ≤ 2 ∧ layoutNeed s layout = true ∧ nsAt s nsid = some n ∧
        ((s.tbl.reshapes.any fun x => !x.move && decide (x.target = nsid)) = false) ∧
        ((allHeads.filter (headWritable s)).foldl (fun a h => a + freeSlots s h) 0 < growth s n layout) ∧
        (Admitted s r { opc := 0x050B, long := true })) ∧
    (∃ (s : State) (r : Req), (Admitted s r { opc := 0x050C, need := .rd })) ∧
    (∃ (s : State) (r : Req) (nsid : Nat) (n : Ns), nsAt s nsid = some n ∧ (Admitted s r { opc := 0x050D, need := .rd })) ∧
    (∃ (s : State) (r : Req) (index : Nat), index < 262144 ∧ (Admitted s r { opc := 0x050E, need := .rd })) ∧
    (∃ (s : State) (r : Req) (h : Hd), inDrive s h = true ∧ (Admitted s r { opc := 0x050F, need := .rd })) :=
  ⟨⟨wb, {}, 0, by decide +kernel, by decide +kernel, by unfold Admitted; decide +kernel⟩,
   ⟨(fun z : State => { z with nv.namespaces := [{ nsid := 1 }] }) (wb), {}, 1, 0, { nsid := 1 }, by decide +kernel, by decide +kernel,
       by decide +kernel, by decide +kernel, by decide +kernel, by decide +kernel, by unfold Admitted; decide +kernel⟩,
   ⟨wb, {}, [], _, by decide +kernel, ok_spec (by decide +kernel), by unfold Admitted; decide +kernel⟩,
   ⟨wb, {}, [], _, ok_spec (by decide +kernel), by unfold Admitted; decide +kernel⟩,
   ⟨wb, {}, [(1, [0]), (2, [8])], _, by decide +kernel, ok_spec (by decide +kernel), by unfold Admitted; decide +kernel⟩,
   ⟨(fun z : State => { z with brt.ckptRun := false }) (wb), {}, by decide +kernel, by unfold Admitted; decide +kernel⟩,
   ⟨(fun z : State => { z with brt.ckptRun := true }) (wb), {}, by decide +kernel, by unfold Admitted; decide +kernel⟩,
   ⟨(fun z : State => { z with tbl.berths := [{ id := 1 }] }) (wb), {}, 1, { id := 1 }, _, by decide +kernel, rfl,
       by unfold Admitted; decide +kernel⟩,
   ⟨wb, {}, by unfold Admitted; decide +kernel⟩,
   ⟨(fun z : State => { z with tbl.heads := vupd z.tbl.heads 0 fun y => .failed }) (wb), {}, 0, by decide +kernel, by decide +kernel,
       by unfold Admitted; decide +kernel⟩,
   ⟨wb, {}, 0, 1, by decide +kernel, by decide +kernel, by decide +kernel, by unfold Admitted; decide +kernel⟩,
   ⟨(fun z : State => { z with tbl.heads := vupd z.tbl.heads 0 fun y => .failed }) (wb), {}, 0, by decide +kernel, by decide +kernel,
       by unfold Admitted; decide +kernel⟩,
   ⟨wb, {}, [], _, ok_spec (by decide +kernel), by unfold Admitted; decide +kernel⟩,
   ⟨wb, {}, [], _, ok_spec (by decide +kernel), by unfold Admitted; decide +kernel⟩,
   ⟨{ wbBig with nv := { wbBig.nv with namespaces := [{ nsid := 1 }] } }, {}, 0, 1, { nsid := 1 }, by decide +kernel, by decide +kernel,
       by decide +kernel, by decide +kernel, by decide +kernel, by unfold Admitted; decide +kernel⟩,
   ⟨(fun z : State => { z with nv.namespaces := [{ nsid := 1 }] }) (wb), {}, 0, 1, { nsid := 1 }, by decide +kernel, by decide +kernel,
       by decide +kernel, by decide +kernel, by decide +kernel, by unfold Admitted; decide +kernel⟩,
   ⟨wb, {}, by unfold Admitted; decide +kernel⟩,
   ⟨(fun z : State => { z with nv.namespaces := [{ nsid := 1 }] }) (wb), {}, 1, { nsid := 1 }, by decide +kernel,
       by unfold Admitted; decide +kernel⟩,
   ⟨wb, {}, 0, by decide +kernel, by unfold Admitted; decide +kernel⟩,
   ⟨wb, {}, 0, by decide +kernel, by unfold Admitted; decide +kernel⟩⟩

/-- Inputs that meet the hypotheses of each clause of `RebuildEventsComplete`, in their order. -/
theorem test_RebuildEventsComplete_met :
    (∃ (s : State) (h : Hd) (reason : Nat), live s = true ∧ inDrive s h = true ∧ headTrigger s h reason = true) ∧
    (∃ (s : State) (a : Act), live s = true ∧ s.actRecs[a].failed = false ∧ actTrigger s a = true) ∧
    (∃ (s : State) (h : Hd), live s = true ∧ s.tbl.heads[h] ≠ .inService) ∧
    (∃ (s : State) (e : Nat) (x : Rbld) (b : Berth) (h : Hd) (w : Nat × Nat), live s = true ∧ s.bw.started = false ∧
        entryAt s e = some x ∧ berthAt s x.berth = some b ∧ x.st = 1 ∧ (replacement s b x = some (h, w)) ∧ goesFirst s x = true ∧
        ((activeBerths s).contains b.id || decide ((activeBerths s).length < 8)) = true) ∧
    (∃ (s : State) (e : Nat) (x : Rbld) (b : Berth), live s = true ∧ s.bw.started = false ∧ entryAt s e = some x ∧
        berthAt s x.berth = some b ∧ x.st = 1 ∧ replacement s b x = none) ∧
    (∃ (s : State) (e : Nat) (x : Rbld) (b : Berth) (s1 : State), live s = true ∧ s.bw.started = false ∧ entryAt s e = some x ∧
        berthAt s x.berth = some b ∧ x.st = 2 ∧ x.progress < x.start ∧
        (workLeft s 1 b.id (fun o => decide (o.n = 64 * x.progress)) = false) ∧ recordRebuilt s b x x.progress = some s1) ∧
    (∃ (s : State) (e : Nat) (x : Rbld) (b : Berth), live s = true ∧ s.bw.started = false ∧ entryAt s e = some x ∧
        berthAt s x.berth = some b ∧ x.st = 2 ∧ x.copy = true ∧ x.progress = x.start) ∧
    (∃ (s : State) (berth : Nat) (member : Nat) (n : Nat) (b : Berth) (h : Hd) (s1 : State) (p : Spare), live s = true ∧
        s.bw.started = false ∧ berthAt s berth = some b ∧ memberHead s b member = some h ∧ (s.rbld.relocPend.contains (berth, member,
        n) = true) ∧ s.tbl.heads[h] = .inService ∧ (otherRelocs s berth member n).length < 262144 ∧ (openSpare s h = some (p, s1)) ∧
        rowLostAt s berth (n / 64) (n % 64) member = false) ∧
    (∃ (s : State) (berth : Nat) (member : Nat) (n : Nat) (b : Berth) (h : Hd) (s1 : State) (p : Spare), live s = true ∧
        s.bw.started = false ∧ berthAt s berth = some b ∧ memberHead s b member = some h ∧ (s.rbld.relocPend.contains (berth, member,
        n) = true) ∧ s.tbl.heads[h] = .inService ∧ (otherRelocs s berth member n).length < 262144 ∧ (openSpare s h = some (p, s1)) ∧
        rowLostAt s berth (n / 64) (n % 64) member = true) ∧
    (∃ (s : State), live s = true ∧ s.bw.started = false) ∧
    (∃ (s : State) (berth : Nat) (nb : Nat) (r : Reshape) (old : Berth), live s = true ∧ s.bw.started = false ∧
        ((s.tbl.reshapes.find? fun r => decide (r.oldBerth = some berth)) = some r) ∧ berthAt s berth = some old ∧ r.newBerth = some nb ∧
        r.move = false ∧ reshapeTotal s r ≤ r.copied ∧ (workLeft s 3 berth (fun _ => true) = false)) ∧
    (∃ (s : State), live s = true) :=
  ⟨⟨(fun z : State => { z with headRecs := vupd z.headRecs 0 fun y => { y with acqFails := 100 } }) (wb), 0, 1, by decide +kernel,
      by decide +kernel, by decide +kernel⟩,
   ⟨(fun z : State => { z with actRecs := vupd z.actRecs 0 fun y => { y with kindMismatch := 3 } }) ((fun z : State => { z with actRecs := vupd z.actRecs 0 fun y => { y with failed := false } }) (wb)),
       0, by decide +kernel, by decide +kernel, by decide +kernel⟩,
   ⟨(fun z : State => { z with tbl.heads := vupd z.tbl.heads 0 fun y => .failed }) (wb), 0, by decide +kernel, by decide +kernel⟩,
   ⟨{ wbBig with tbl := { wbBig.tbl with berths := [{ id := 1 }], rblds := [{ berth := 1, st := 1 }] } }, 0, { berth := 1, st := 1 },
       { id := 1 }, 0, (0, 244), by decide +kernel, by decide +kernel, by decide +kernel, by decide +kernel, by decide +kernel,
       by decide +kernel, by decide +kernel, by decide +kernel⟩,
   ⟨(fun z : State => { z with tbl.rblds := [{ berth := 1, st := 1 }] }) ((fun z : State => { z with tbl.berths := [{ id := 1 }] }) ((fun z : State => { z with bw.started := false }) (wb))),
       0, { berth := 1, st := 1 }, { id := 1 }, by decide +kernel, by decide +kernel, by decide +kernel, by decide +kernel,
       by decide +kernel, by decide +kernel⟩,
   ⟨(fun z : State => { z with tbl.rblds := [{ berth := 1, st := 2, start := 10 }] }) ((fun z : State => { z with tbl.berths := [{ id := 1 }] }) ((fun z : State => { z with bw.started := false }) (wb))),
       0, { berth := 1, st := 2, start := 10 }, { id := 1 }, _, by decide +kernel, by decide +kernel, by decide +kernel,
       by decide +kernel, by decide +kernel, by decide +kernel, by decide +kernel, some_spec (by decide +kernel)⟩,
   ⟨(fun z : State => { z with tbl.rblds := [{ berth := 1, st := 2, copy := true }] }) ((fun z : State => { z with tbl.berths := [{ id := 1 }] }) ((fun z : State => { z with bw.started := false }) (wb))),
       0, { berth := 1, st := 2, copy := true }, { id := 1 }, by decide +kernel, by decide +kernel, by decide +kernel, by decide +kernel,
       by decide +kernel, by decide +kernel, by decide +kernel⟩,
   ⟨{ wbBig with tbl := { wbBig.tbl with berths := [{ id := 1, member := [0] }], segs := [{ id := 0 }] }, rbld := { wbBig.rbld with relocPend := [(1, 0, 0)] } },
       1, 0, 0, { id := 1, member := [0] }, 0, _, _, by decide +kernel, by decide +kernel, by decide +kernel, by decide +kernel,
       by decide +kernel, by decide +kernel, by decide +kernel, some_pair (by decide +kernel), by decide +kernel⟩,
   ⟨{ wbBig with tbl := { wbBig.tbl with losts := [{ berth := 1, berthType := true, members := [0] }], berths := [{ id := 1, member := [0] }], segs := [{ id := 0 }] }, rbld := { wbBig.rbld with relocPend := [(1, 0, 0)] } },
       1, 0, 0, { id := 1, member := [0] }, 0, _, _, by decide +kernel, by decide +kernel, by decide +kernel, by decide +kernel,
       by decide +kernel, by decide +kernel, by decide +kernel, some_pair (by decide +kernel), by decide +kernel⟩,
   ⟨(fun z : State => { z with tbl.reshapes := [{ oldBerth := some 1, newBerth := some 2, copied := 10000 }] }) ((fun z : State => { z with tbl.berths := [{ id := 1 }] }) ((fun z : State => { z with bw.started := false }) (wb))),
       by decide +kernel, by decide +kernel⟩,
   ⟨(fun z : State => { z with tbl.reshapes := [{ oldBerth := some 1, newBerth := some 2, copied := 10000 }] }) ((fun z : State => { z with tbl.berths := [{ id := 1 }] }) ((fun z : State => { z with bw.started := false }) (wb))),
       1, 2, { oldBerth := some 1, newBerth := some 2, copied := 10000 }, { id := 1 }, by decide +kernel, by decide +kernel,
       by decide +kernel, by decide +kernel, by decide +kernel, by decide +kernel, by decide +kernel, by decide +kernel⟩,
   ⟨wb, by decide +kernel⟩⟩

/-- Inputs that meet the hypotheses of each clause of `QueueEventsComplete`, in their order. -/
theorem test_QueueEventsComplete_met :
    (∃ (s : State) (f : Fn) (qid : Nat) (value : Nat) (m : Mooring), nvmeUp s = true ∧ s.quay.par.full = false ∧ qid < 65536 ∧
        value < 2 ^ 32 ∧ (checkDb s { func := f, qid := qid, value := value } = .ok m)) ∧
    (∃ (s : State) (f : Fn) (qid : Nat) (value : Nat), nvmeUp s = true ∧ s.quay.par.full = false ∧ qid < 65536 ∧ value < 2 ^ 32 ∧
        (checkDb s { func := f, qid := qid, value := value } = .wrong)) ∧
    (∃ (s : State) (f : Fn) (qid : Nat) (value : Nat) (m : Mooring), nvmeUp s = true ∧ s.quay.par.full = false ∧ qid < 65536 ∧
        value < 2 ^ 32 ∧ (checkDb s { func := f, qid := qid, cq := true, value := value } = .ok m)) ∧
    (∃ (s : State) (p : Fin 2) (d : DbWrite), nvmeUp s = true ∧ s.quay.fifos[p] = [d] ∧ (moorReady s d.func d.qid = true)) ∧
    (∃ (s : State) (f : Fn) (qid : Nat) (m : Mooring), nvmeUp s = true ∧ s.quay.par.full = true ∧ (s.quay.cache.contains (f,
        qid) = false) ∧ moorAt s f qid = some m) ∧
    (∃ (s : State) (f : Fn), s.quay.sas = false ∧ chooseFn (refresh s) = some f) ∧
    (∃ (s : State) (f : Fn) (m : Mooring) (y : Func) (t : Tag), (chooseQueue s f = some (m, y)) ∧ nextTag s = some t) ∧
    (∃ (s : State) (c : HostCmd) (f : Fn) (q : Nat) (rest : List (Fn × Nat)) (r : TagRec) (s1 : State) (r1 : TagRec), powered s = true ∧
        s.bw.started = false ∧ (s.quay.grants = (f, q) :: rest) ∧
        ((s.cmds.tags.find? fun r => decide (r.func = f) && decide (r.qid = q) && r.await) = some r) ∧
        ({ r with cmd := c, cid := c.cid, await := false } = r1) ∧
        (knowCmd (updTag (updQuay s fun x => { x with grants := rest }) r.tag fun _ => r1) r1 = s1)) ∧
    (∃ (s : State) (t : Tag) (r : TagRec), tagAt s t = some r ∧ released s r = true) ∧
    (∃ (s : State) (t : Tag) (r : TagRec) (st : St) (m : Mooring), live s = true ∧ s.bw.started = false ∧ s.quay.sas = false ∧
        tagAt s t = some r ∧ r.status = some st ∧ r.stage = 5 ∧ r.noPost = false ∧ (moorAt s r.func r.qid = some m) ∧ m.cqMade = true ∧
        (moorReady s r.func r.qid = true) ∧ (m.cqTail + 1) % (m.cqSize + 1) ≠ m.cqHead) ∧
    (∃ (s : State) (t : Tag) (r : TagRec) (st : St), live s = true ∧ s.bw.started = false ∧ s.quay.sas = true ∧ tagAt s t = some r ∧
        r.status = some st ∧ r.stage = 5 ∧ r.noPost = false) ∧
    (∃ (s : State), powered s = true) :=
  ⟨⟨(wbCmd wbNs (wbRec 1 { nsid := 1, opc := 2 })), 0, 1, 1,
      { func := 0, qid := 1, sqMade := true, cqMade := true, st := 1, sqSize := 31, cqSize := 31 }, by decide +kernel, by decide +kernel,
      by decide +kernel, by decide +kernel, by decide +kernel⟩,
   ⟨(wbCmd wbNs (wbRec 1 { nsid := 1, opc := 2 })), 0, 1, 40, by decide +kernel, by decide +kernel, by decide +kernel, by decide +kernel,
       by decide +kernel⟩,
   ⟨(wbCmd wbNs (wbRec 1 { nsid := 1, opc := 2 })), 0, 1, 0,
       { func := 0, qid := 1, sqMade := true, cqMade := true, st := 1, sqSize := 31, cqSize := 31 }, by decide +kernel,
       by decide +kernel, by decide +kernel, by decide +kernel, by decide +kernel⟩,
   ⟨(fun z : State => { z with quay.fifos := vupd z.quay.fifos 0 fun y => [{ func := 0, qid := 1 }] }) ((wbCmd wbNs
       (wbRec 1 { nsid := 1, opc := 2 }))), 0, { func := 0, qid := 1 }, by decide +kernel, by decide +kernel, by decide +kernel⟩,
   ⟨(fun z : State => { z with quay.par.full := true }) ((wbCmd wbNs (wbRec 1 { nsid := 1, opc := 2 }))), 0, 1,
       { func := 0, qid := 1, sqMade := true, cqMade := true, st := 1, sqSize := 31, cqSize := 31 }, by decide +kernel,
       by decide +kernel, by decide +kernel, by decide +kernel⟩,
   ⟨(wbCmd wbNs (wbRec 1 { nsid := 1, opc := 2 })), 0, by decide +kernel, by decide +kernel⟩,
   ⟨(wbCmd wbNs (wbRec 1 { nsid := 1, opc := 2 })), 0, _, _, _, some_pair (by decide +kernel), some_spec (by decide +kernel)⟩,
   ⟨(fun z : State => { z with quay.grants := [(0, 1)] }) ((wbCmd wbNs { wbRec 1 {} with await := true })), {}, 0, 1, [],
       { wbRec 1 {} with await := true }, _, _, by decide +kernel, by decide +kernel, by decide +kernel, by decide +kernel, rfl, rfl⟩,
   ⟨(wbCmd wbNs { wbRec 1 {} with stage := 2 }), 0, { wbRec 1 {} with stage := 2 }, by decide +kernel, by decide +kernel⟩,
   ⟨(wbCmd wbNs { wbRec 1 {} with stage := 5, status := some (0, false) }), 0, { wbRec 1 {} with stage := 5, status := some (0, false) },
       (0, false), { func := 0, qid := 1, sqMade := true, cqMade := true, st := 1, sqSize := 31, cqSize := 31 }, by decide +kernel,
       by decide +kernel, by decide +kernel, by decide +kernel, by decide +kernel, by decide +kernel, by decide +kernel,
       by decide +kernel, by decide +kernel, by decide +kernel, by decide +kernel⟩,
   ⟨(fun z : State => { z with quay.sas := true }) ((wbCmd wbNs { wbRec 1 {} with stage := 5, status := some (0, false) })), 0,
       { wbRec 1 {} with stage := 5, status := some (0, false) }, (0, false), by decide +kernel, by decide +kernel, by decide +kernel,
       by decide +kernel, by decide +kernel, by decide +kernel, by decide +kernel⟩,
   ⟨wb, by decide +kernel⟩⟩

/-- Inputs that meet the hypotheses of each clause of `CommandEventsComplete`, in their order. -/
theorem test_CommandEventsComplete_met :
    (∃ (s : State) (t : Tag) (r : TagRec) (data : List Byte) (pi : List Byte) (n : Ns) (bs : List CBlock), powered s = true ∧
        s.bw.started = false ∧ tagAt s t = some r ∧ r.stage = 3 ∧ r.latch = false ∧ ([IoOp.write, .append].contains (opOf s r) = true) ∧
        0 < data.length / 4096 ∧ data.length % 4096 = 0 ∧ r.fetchedBlks + data.length / 4096 ≤ nlbOf s.quay.sas r.cmd ∧
        nsAt s (nsidOf s r) = some n ∧ pondBlocks s n r data pi = .ok bs) ∧
    (∃ (s : State) (t : Tag) (r : TagRec) (data : List Byte), powered s = true ∧ s.bw.started = false ∧ tagAt s t = some r ∧
        r.stage = 3 ∧ r.latch = false ∧ ([IoOp.write, .append].contains (opOf s r) = true) ∧ 0 < data.length / 4096 ∧
        data.length % 4096 = 0 ∧ r.fetchedBlks + data.length / 4096 ≤ nlbOf s.quay.sas r.cmd) ∧
    (∃ (s : State) (t : Tag) (r : TagRec) (n : Ns), live s = true ∧ s.bw.started = false ∧ tagAt s t = some r ∧ r.stage = 3 ∧
        r.latch = false ∧ r.installed = false ∧ opOf s r = .write ∧ r.fetchedBlks = nlbOf s.quay.sas r.cmd ∧ mayInstall s r = true ∧
        nsAt s (nsidOf s r) = some n ∧ logRoom s n = true) ∧
    (∃ (s : State) (t : Tag) (r : TagRec), live s = true ∧ s.bw.started = false ∧ s.brt.held = [t] ∧ tagAt s t = some r ∧
        dredgeHolds s r = false ∧ overBound s r = false) ∧
    (∃ (s : State), live s = true ∧ s.bw.started = false) ∧
    (∃ (s : State) (a : Act) (costs : List (Nat × Nat)) (o : PilotOp), live s = true ∧ s.bw.started = false ∧ s.spn.xferOk = true ∧
        s.spn.freeDrain = false ∧ s.cmds.pilots[a].busy = none ∧ s.acts[a].failed = false ∧
        ((s.cmds.pilots[a].entries.filter fun o => !o.dispatched && !o.write && headDead s o.head) = []) ∧
        choose s s.cmds.pilots[a] costs = some o ∧ o.tag = none) ∧
    (∃ (s : State) (a : Act) (rows : List (Nat × List (Option (List Byte)))) (id : Nat) (o : PilotOp) (b : Berth) (o1 : PilotOp),
        powered s = true ∧ s.cmds.pilots[a].busy = some id ∧ ((s.cmds.pilots[a].entries.find? fun e => e.id = id) = some o) ∧
        berthAt s o.berth = some b ∧ o.man = none ∧ o.withdrawn = false ∧ o.write = false ∧
        (((forEach (List.range o.count) s (settlePlace a id b rows)).cmds.pilots[a].entries.find? fun e => e.id = id) = some o1) ∧
        opDone o1 = true) ∧
    (∃ (s : State) (t : Tag) (r : TagRec), live s = true ∧ s.bw.started = false ∧ s.quay.sas = false ∧ tagAt s t = some r ∧
        r.aborted = true ∧ r.stage < 5 ∧ r.await = false) ∧
    (∃ (s : State) (t : Tag) (r : TagRec) (d : Tag × Nat) (m : Mooring), live s = true ∧ s.bw.started = false ∧ tagAt s t = some r ∧
        ((s.cmds.deletes.find? fun d => d.1 = t) = some d) ∧ (moorAt s r.func d.2 = some m) ∧ m.inflight = 0) :=
  ⟨⟨(wbCmd wbNs { wbRec 1 { nsid := 1, opc := 1 } with stage := 3 }), 0, { wbRec 1 { nsid := 1, opc := 1 } with stage := 3 },
      (List.replicate 4096 0), [], wbNs, _, by decide +kernel, by decide +kernel, by decide +kernel, by decide +kernel,
      by decide +kernel, by decide +kernel, by decide +kernel, by decide +kernel, by decide +kernel, by decide +kernel,
      ok_spec (by decide +kernel)⟩,
   ⟨(wbCmd wbNs { wbRec 1 { nsid := 1, opc := 1 } with stage := 3 }), 0, { wbRec 1 { nsid := 1, opc := 1 } with stage := 3 },
       (List.replicate 4096 0), by decide +kernel, by decide +kernel, by decide +kernel, by decide +kernel, by decide +kernel,
       by decide +kernel, by decide +kernel, by decide +kernel, by decide +kernel⟩,
   ⟨(wbCmd wbZns { wbRec 1 { nsid := 1, opc := 1 } with stage := 3, fetchedBlks := 1 }), 0,
       { wbRec 1 { nsid := 1, opc := 1 } with stage := 3, fetchedBlks := 1 }, wbZns, by decide +kernel, by decide +kernel,
       by decide +kernel, by decide +kernel, by decide +kernel, by decide +kernel, by decide +kernel, by decide +kernel,
       by decide +kernel, by decide +kernel, by decide +kernel⟩,
   ⟨(fun z : State => { z with brt.held := [0] }) ((wbCmd wbNs { wbRec 1 { nsid := 1, opc := 1 } with stage := 3 })), 0,
       { wbRec 1 { nsid := 1, opc := 1 } with stage := 3 }, by decide +kernel, by decide +kernel, by decide +kernel, by decide +kernel,
       by decide +kernel, by decide +kernel⟩,
   ⟨(fun z : State => { z with bw.started := false }) (wb), by decide +kernel, by decide +kernel⟩,
   ⟨(fun z : State => { z with spn.xferOk := true }) ((fun z : State => { z with cmds.pilots := vupd z.cmds.pilots 0 fun y => { y with entries := [{ id := 1, cls := 5 }] } }) ((fun z : State => { z with acts := vupd z.acts 0 fun y => { y with failed := false } }) ((fun z : State => { z with cmds.pilots := vupd z.cmds.pilots 0 fun y => { y with busy := none } }) ((fun z : State => { z with spn.freeDrain := false }) ((fun z : State => { z with spn.xferOk := true }) ((fun z : State => { z with bw.started := false }) (wb))))))),
       0, [], { id := 1, cls := 5 }, by decide +kernel, by decide +kernel, by decide +kernel, by decide +kernel, by decide +kernel,
       by decide +kernel, by decide +kernel, by decide +kernel, by decide +kernel⟩,
   ⟨(fun z : State => { z with tbl.berths := [{ id := 1 }] }) ((fun z : State => { z with cmds.pilots := vupd z.cmds.pilots 0 fun y => { y with busy := some 0 } }) ((fun z : State => { z with cmds.pilots := vupd z.cmds.pilots 0 fun y => { y with entries := [{ berth := 1 }] } }) ((fun z : State => { z with cmds.pilots := vupd z.cmds.pilots 0 fun y => { y with busy := some 0 } }) (wb)))),
       0, [], 0, { berth := 1 }, { id := 1 }, _, by decide +kernel, by decide +kernel, by decide +kernel, by decide +kernel,
       by decide +kernel, by decide +kernel, by decide +kernel, some_spec (by decide +kernel), by decide +kernel⟩,
   ⟨(wbCmd wbNs { wbRec 1 { nsid := 1, opc := 1 } with aborted := true }), 0, { wbRec 1 { nsid := 1, opc := 1 } with aborted := true },
       by decide +kernel, by decide +kernel, by decide +kernel, by decide +kernel, by decide +kernel, by decide +kernel,
       by decide +kernel⟩,
   ⟨(fun z : State => { z with cmds.deletes := [(0, 1)] }) ((wbCmd wbNs (wbRec 0 { }))), 0, (wbRec 0 { }), (0, 1),
       { func := 0, qid := 1, sqMade := true, cqMade := true, st := 1, sqSize := 31, cqSize := 31 }, by decide +kernel,
       by decide +kernel, by decide +kernel, by decide +kernel, by decide +kernel, by decide +kernel⟩⟩

/-- Inputs that meet the hypotheses of each clause of `PortsAndQuayMessagesComplete`, in their order. -/
theorem test_PortsAndQuayMessagesComplete_met :
    (∃ (s : State) (f : Fn), s.phase = .run ∧ s.bw.started = false ∧ s.quay.sas = false ∧ s.quay.disabled = false ∧
        (fnOf s f).en = false ∧ mayEnable s f = true) ∧
    (∃ (s : State) (f : Fn), powered s = true ∧ s.quay.sas = false ∧ s.bw.started = false ∧ (fnOf s f).en = true) ∧
    (∃ (s : State), powered s = true ∧ s.quay.sas = false ∧ s.quay.disabled = false ∧ s.bw.started = false) ∧
    (∃ (s : State), powered s = true ∧ s.quay.sas = false ∧ s.quay.disabled = false ∧ s.bw.started = false) ∧
    (∃ (s : State), powered s = true ∧ s.quay.sas = false ∧ s.quay.disabled = false) ∧
    (∃ (s : State), powered s = true ∧ s.quay.sas = true ∧ s.bw.started = false) ∧
    (∃ (s : State) (r : Req) (n : Nat), n ≤ 1 ∧ (Admitted s r { opc := 0x0101, setter := true, writesNor := true })) ∧
    (∃ (s : State) (r : Req) (ps : Params) (p : QuayPar), (applyPars arbPars (fun _ => []) ps s.quay.par = .ok p) ∧
        (Admitted s r { opc := 0x0102, setter := true })) ∧
    (∃ (s : State) (r : Req) (f : Fn) (word : BitVec 64), fld word.toNat 0 7 = 0 ∧
        (¬((allotOf word.toNat).wMedia = 0 ∨ (allotOf word.toNat).wByte = 0 ∨ (allotOf word.toNat).wCmd = 0 ∨ 100 < (allotOf word.toNat).mtCap)) ∧
        (Admitted s r { opc := 0x0103, need := .op, scope := some f.val, setter := true })) ∧
    (∃ (s : State) (r : Req) (f : Fn) (word : BitVec 64), fld word.toNat 0 7 = 0 ∧
        (((allotOf word.toNat).wMedia = 0 ∨ (allotOf word.toNat).wByte = 0 ∨ (allotOf word.toNat).wCmd = 0 ∨ 100 < (allotOf word.toNat).mtCap)) ∧
        (Admitted s r { opc := 0x0103, need := .op, scope := some f.val, setter := true })) ∧
    (∃ (s : State) (r : Req) (f : Fn), (Admitted s r { opc := 0x0104, need := .rd, scope := some f.val })) ∧
    (∃ (s : State) (r : Req) (f : Fn) (ps : Params) (p : QuayPar × Nat), (applyPars admitPars (fun p => [([0, 1],
        decide (p.2 + p.1.adminRes ≤ 4096) || !ps.any fun e => decide (e.1 ≤ 1))]) ps (s.quay.par, (fnOf s f).tagLimit) = .ok p) ∧
        (Admitted s r { opc := 0x0105, need := if ps.all fun e => decide (e.1 = 1) then .op else .cf, scope := some f.val, setter := true })) ∧
    (∃ (s : State) (r : Req) (w : Nat), r.persist = true ∧ 100 ≤ w ∧ w ≤ 6000 ∧
        (Admitted s r { opc := 0x010A, need := .fa, setter := true })) ∧
    (∃ (s : State) (r : Req) (f : Fn) (qid : Nat) (m : Mooring), qid ≤ 65535 ∧ moorAt s f qid = some m ∧
        (Admitted s r { opc := 0x0907, need := .rd, scope := some f.val })) ∧
    (∃ (s : State) (r : Req) (f : Fn) (qid : Nat), qid ≤ 65535 ∧ moorAt s f qid = none ∧
        (Admitted s r { opc := 0x0907, need := .rd, scope := some f.val })) ∧
    (∃ (s : State) (r : Req) (t : Tag), (Admitted s r { opc := 0x0908, need := .rd, scope := tagFunc s t.val })) ∧
    (∃ (s : State) (r : Req) (func : Nat) (count : Nat), (func ≤ 1025) ∧ count ≤ 31 ∧
        (Admitted s r { opc := 0x0801, need := tallyNeed r.mb func .rd, scope := if func < 1024 then some func else none })) ∧
    (∃ (s : State) (r : Req) (func : Nat), (func ≤ 1025) ∧
        (Admitted s r { opc := 0x0802, need := if 1024 ≤ func then .cf else .op, scope := if func < 1024 then some func else none })) :=
  ⟨⟨(fun z : State => { z with quay.disabled := false }) ((fun z : State => { z with quay.sas := false }) ((fun z : State => { z with bw.started := false }) ((fun z : State => { z with phase := .run }) (wb)))),
      0, by decide +kernel, by decide +kernel, by decide +kernel, by decide +kernel, by decide +kernel, by decide +kernel⟩,
   ⟨(wbCmd wbNs (wbRec 1 { nsid := 1, opc := 2 })), 0, by decide +kernel, by decide +kernel, by decide +kernel, by decide +kernel⟩,
   ⟨(fun z : State => { z with bw.started := false }) ((fun z : State => { z with quay.disabled := false }) ((fun z : State => { z with quay.sas := false }) (wb))),
       by decide +kernel, by decide +kernel, by decide +kernel, by decide +kernel⟩,
   ⟨(fun z : State => { z with bw.started := false }) ((fun z : State => { z with quay.disabled := false }) ((fun z : State => { z with quay.sas := false }) (wb))),
       by decide +kernel, by decide +kernel, by decide +kernel, by decide +kernel⟩,
   ⟨(fun z : State => { z with quay.disabled := false }) ((fun z : State => { z with quay.sas := false }) (wb)), by decide +kernel,
       by decide +kernel, by decide +kernel⟩,
   ⟨(fun z : State => { z with bw.started := false }) ((fun z : State => { z with quay.sas := true }) (wb)), by decide +kernel,
       by decide +kernel, by decide +kernel⟩,
   ⟨wb, {}, 0, by decide +kernel, by unfold Admitted; decide +kernel⟩,
   ⟨wb, {}, [], _, ok_spec (by decide +kernel), by unfold Admitted; decide +kernel⟩,
   ⟨wb, {}, 0, BitVec.ofNat 64 (2 ^ 48 + 2 ^ 32 + 2 ^ 16), by decide +kernel, by decide +kernel, by unfold Admitted; decide +kernel⟩,
   ⟨wb, {}, 0, 0, by decide +kernel, by decide +kernel, by unfold Admitted; decide +kernel⟩,
   ⟨wb, {}, 0, by unfold Admitted; decide +kernel⟩,
   ⟨wb, {}, 0, [], _, ok_spec (by decide +kernel), by unfold Admitted; decide +kernel⟩,
   ⟨wb, { persist := true }, 100, by decide +kernel, by decide +kernel, by decide +kernel, by unfold Admitted; decide +kernel⟩,
   ⟨(wbCmd wbNs (wbRec 1 { nsid := 1, opc := 2 })), {}, 0, 1,
       { func := 0, qid := 1, sqMade := true, cqMade := true, st := 1, sqSize := 31, cqSize := 31 }, by decide +kernel,
       by decide +kernel, by unfold Admitted; decide +kernel⟩,
   ⟨wb, {}, 0, 0, by decide +kernel, by decide +kernel, by unfold Admitted; decide +kernel⟩,
   ⟨wb, {}, 0, by unfold Admitted; decide +kernel⟩,
   ⟨wb, {}, 0, 0, by decide +kernel, by decide +kernel, by unfold Admitted; decide +kernel⟩,
   ⟨wb, {}, 0, by decide +kernel, by unfold Admitted; decide +kernel⟩⟩

/-- Inputs that meet the hypotheses of each clause of `NvmeIoComplete`, in their order. -/
theorem test_NvmeIoComplete_met :
    (∃ (s : State) (t : Tag) (r : TagRec), IoReady s t r 0x02 ∧ IoClear s r) ∧
    (∃ (s : State) (t : Tag) (r : TagRec), IoReady s t r 0x0C ∧ IoClear s r) ∧
    (∃ (s : State) (r : TagRec) (n : Ns) (s1 : State) (s2 : State) (srcs : List BlkSrc) (ops : List (Act × PilotOp × Nat)),
        nsAt s (nsidOf s r) = some n ∧ opOf s r = .read ∧
        (((List.range (nlbOf s.quay.sas r.cmd)).map fun k => lookupOne s n (slbaOf r.cmd + k)) = srcs) ∧
        (readOps s r.tag r.func srcs = ops) ∧
        ((updTag (addRefs s srcs) r.tag fun x => { x with stage := 3, lba := slbaOf r.cmd, srcs := srcs, lookedUp := true, ops := ops.length }) = s1) ∧
        (forEach ops s1 (fun s o => queueOp s o.1 o.2.1) = s2)) ∧
    (∃ (s : State) (t : Tag) (r : TagRec) (n : Ns), IoReady s t r 0x01 ∧ IoClear s r ∧ nsAt s (nsidOf s r) = some n ∧ n.zoned = false ∧
        overBound s r = false ∧ dredgeHolds s r = false) ∧
    (∃ (s : State) (t : Tag) (r : TagRec) (n : Ns), IoReady s t r 0x01 ∧ IoClear s r ∧ nsAt s (nsidOf s r) = some n ∧ n.zoned = false ∧
        ((overBound s r = true ∨ dredgeHolds s r = true))) ∧
    (∃ (s : State) (t : Tag) (r : TagRec) (n : Ns), IoReady s t r 0x01 ∧ IoClear s r ∧ nsAt s (nsidOf s r) = some n ∧ n.zoned = true) ∧
    (∃ (s : State) (t : Tag) (r : TagRec) (n : Ns), IoReady s t r 0x08 ∧ IoClear s r ∧ nsAt s (nsidOf s r) = some n ∧ n.zoned = false) ∧
    (∃ (s : State) (t : Tag) (r : TagRec) (n : Ns), IoReady s t r 0x09 ∧ IoClear s r ∧ nsAt s (nsidOf s r) = some n ∧ n.zoned = false ∧
        bitAt r.cmd.dw11 2 = true) ∧
    (∃ (s : State) (t : Tag) (r : TagRec) (n : Ns), IoReady s t r 0x7D ∧ IoClear s r ∧ nsAt s (nsidOf s r) = some n ∧ n.zoned = true) ∧
    (∃ (s : State) (r : TagRec) (n : Ns) (s1 : State) (f : TagRec → TagRec), opOf s r = .append ∧
        takeRange s n (slbaOf r.cmd / 262144) (getZone s n.nsid (slbaOf r.cmd / 262144)).wp (nlbOf s.quay.sas r.cmd) = .ok s1 ∧
        ((fun x : TagRec => { x with taken := some (n.nsid, slbaOf r.cmd / 262144 * 262144 + (getZone s n.nsid (slbaOf r.cmd / 262144)).wp, nlbOf s.quay.sas r.cmd), zmLba := slbaOf r.cmd / 262144 * 262144 + (getZone s n.nsid (slbaOf r.cmd / 262144)).wp }) = f)) ∧
    (∃ (s : State) (t : Tag) (r : TagRec), IoReady s t r 0x00 ∧ ((r.cmd.nsid = 0xFFFFFFFF ∨ IoClear s r))) ∧
    (∃ (s : State) (t : Tag) (r : TagRec), IoReady s t r 0x0D ∧ IoClear s r) ∧
    (∃ (s : State) (t : Tag) (r : TagRec), IoReady s t r 0x11 ∧ IoClear s r) ∧
    (∃ (s : State) (t : Tag) (r : TagRec), IoReady s t r 0x15 ∧ IoClear s r) ∧
    (∃ (s : State) (t : Tag) (r : TagRec), IoReady s t r 0x0E ∧ IoClear s r) ∧
    (∃ (s : State) (t : Tag) (r : TagRec) (n : Ns), IoReady s t r 0x7A ∧ IoClear s r ∧ nsAt s (nsidOf s r) = some n ∧ n.zoned = true ∧
        slbaOf r.cmd < n.size ∧ r.cmd.dw13 % 256 = 0 ∧ fld r.cmd.dw13 8 8 ≤ 7) :=
  ⟨⟨(wbCmd wbNs (wbRec 1 { nsid := 1, opc := 0x02 })), 0, (wbRec 1 { nsid := 1, opc := 0x02 }), by unfold IoReady; decide +kernel,
      by unfold IoClear; decide +kernel⟩,
   ⟨(wbCmd wbNs (wbRec 1 { nsid := 1, opc := 0x0C })), 0, (wbRec 1 { nsid := 1, opc := 0x0C }), by unfold IoReady; decide +kernel,
       by unfold IoClear; decide +kernel⟩,
   ⟨(wbCmd wbNs (wbRec 1 { nsid := 1, opc := 0x02 })), (wbRec 1 { nsid := 1, opc := 0x02 }), wbNs, _, _, _, _, by decide +kernel,
       by decide +kernel, rfl, rfl, rfl, rfl⟩,
   ⟨(fun z : State => { z with tbl.usedTracks := [] }) ((wbCmd wbNs (wbRec 1 { nsid := 1, opc := 0x01 }))), 0,
       (wbRec 1 { nsid := 1, opc := 0x01 }), wbNs, by unfold IoReady; decide +kernel, by unfold IoClear; decide +kernel,
       by decide +kernel, by decide +kernel, by decide +kernel, by decide +kernel⟩,
   ⟨(fun z : State => { z with brtPar.dredgeCrit := 200 }) ((wbCmd wbNs (wbRec 1 { nsid := 1, opc := 0x01 }))), 0,
       (wbRec 1 { nsid := 1, opc := 0x01 }), wbNs, by unfold IoReady; decide +kernel, by unfold IoClear; decide +kernel,
       by decide +kernel, by decide +kernel, by decide +kernel⟩,
   ⟨(wbCmd wbZns (wbRec 1 { nsid := 1, opc := 0x01 })), 0, (wbRec 1 { nsid := 1, opc := 0x01 }), wbZns,
       by unfold IoReady; decide +kernel, by unfold IoClear; decide +kernel, by decide +kernel, by decide +kernel⟩,
   ⟨(wbCmd wbNs (wbRec 1 { nsid := 1, opc := 0x08 })), 0, (wbRec 1 { nsid := 1, opc := 0x08 }), wbNs, by unfold IoReady; decide +kernel,
       by unfold IoClear; decide +kernel, by decide +kernel, by decide +kernel⟩,
   ⟨(wbCmd wbNs (wbRec 1 { nsid := 1, opc := 0x09, dw11 := 4 })), 0, (wbRec 1 { nsid := 1, opc := 0x09, dw11 := 4 }), wbNs,
       by unfold IoReady; decide +kernel, by unfold IoClear; decide +kernel, by decide +kernel, by decide +kernel, by decide +kernel⟩,
   ⟨(wbCmd wbZns (wbRec 1 { nsid := 1, opc := 0x7D })), 0, (wbRec 1 { nsid := 1, opc := 0x7D }), wbZns,
       by unfold IoReady; decide +kernel, by unfold IoClear; decide +kernel, by decide +kernel, by decide +kernel⟩,
   ⟨(fun z : State => { z with tbl.zones := [{ nsid := 1, st := .impOpen, charged := true, berth := some 1 }] }) ({ wbCmd wbZns (wbRec 1 { nsid := 1, opc := 0x7D }) with tbl := { wb.tbl with zones := [{ nsid := 1, st := .impOpen, charged := true, berth := some 1 }] } }),
       (wbRec 1 { nsid := 1, opc := 0x7D }), wbZns, _, _, by decide +kernel, ok_spec (by decide +kernel), rfl⟩,
   ⟨(wbCmd wbNs (wbRec 1 { nsid := 1, opc := 0 })), 0, (wbRec 1 { nsid := 1, opc := 0 }), by unfold IoReady; decide +kernel,
       by unfold IoClear; decide +kernel⟩,
   ⟨(wbCmd wbNs (wbRec 1 { nsid := 1, opc := 13 })), 0, (wbRec 1 { nsid := 1, opc := 13 }), by unfold IoReady; decide +kernel,
       by unfold IoClear; decide +kernel⟩,
   ⟨(wbCmd wbNs (wbRec 1 { nsid := 1, opc := 17 })), 0, (wbRec 1 { nsid := 1, opc := 17 }), by unfold IoReady; decide +kernel,
       by unfold IoClear; decide +kernel⟩,
   ⟨(wbCmd wbNs (wbRec 1 { nsid := 1, opc := 21 })), 0, (wbRec 1 { nsid := 1, opc := 21 }), by unfold IoReady; decide +kernel,
       by unfold IoClear; decide +kernel⟩,
   ⟨(wbCmd wbNs (wbRec 1 { nsid := 1, opc := 14 })), 0, (wbRec 1 { nsid := 1, opc := 14 }), by unfold IoReady; decide +kernel,
       by unfold IoClear; decide +kernel⟩,
   ⟨(wbCmd wbZns (wbRec 1 { nsid := 1, opc := 0x7A })), 0, (wbRec 1 { nsid := 1, opc := 0x7A }), wbZns,
       by unfold IoReady; decide +kernel, by unfold IoClear; decide +kernel, by decide +kernel, by decide +kernel, by decide +kernel,
       by decide +kernel, by decide +kernel⟩⟩

/-- Inputs that meet the hypotheses of each clause of `ZoneCommandsComplete`, in their order. -/
theorem test_ZoneCommandsComplete_met :
    (∃ (s : State) (t : Tag) (r : TagRec) (n : Ns) (s1 : State), IoReady s t r 0x79 ∧ IoClear s r ∧ nsAt s (nsidOf s r) = some n ∧
        zoneAction r.cmd = 3 ∧ zonesUnder 3 n (zonesNamed s n r.cmd) s = .ok s1) ∧
    (∃ (s : State) (t : Tag) (r : TagRec) (n : Ns) (s1 : State), IoReady s t r 0x79 ∧ IoClear s r ∧ nsAt s (nsidOf s r) = some n ∧
        zoneAction r.cmd = 1 ∧ zonesUnder 1 n (zonesNamed s n r.cmd) s = .ok s1) ∧
    (∃ (s : State) (t : Tag) (r : TagRec) (n : Ns) (s1 : State), IoReady s t r 0x79 ∧ IoClear s r ∧ nsAt s (nsidOf s r) = some n ∧
        zoneAction r.cmd = 2 ∧ zonesUnder 2 n (zonesNamed s n r.cmd) s = .ok s1) ∧
    (∃ (s : State) (t : Tag) (r : TagRec) (n : Ns) (s1 : State), IoReady s t r 0x79 ∧ IoClear s r ∧ nsAt s (nsidOf s r) = some n ∧
        zoneAction r.cmd = 4 ∧ zonesUnder 4 n (zonesNamed s n r.cmd) s = .ok s1) ∧
    (∃ (s : State) (t : Tag) (r : TagRec) (n : Ns), IoReady s t r 0x79 ∧ IoClear s r ∧ nsAt s (nsidOf s r) = some n ∧
        ((zoneAction r.cmd = 0 ∨ 4 < zoneAction r.cmd))) ∧
    (∃ (z : Zone), z.st = .expOpen) ∧
    (∃ (z : Zone), z.st = .readOnly) ∧
    (∃ (s : State) (n : Ns) (z : Zone), (z.st = .empty ∨ z.st = .impOpen ∨ z.st = .closed) ∧ z.charged = false ∧
        tailReserve s < tailUsed s + layBlocks n.layout) ∧
    (∃ (z : Zone), (z.st = .full ∨ z.st = .impOpen ∨ z.st = .expOpen ∨ z.st = .closed)) ∧
    (∃ (z : Zone), (z.st = .empty ∨ z.st = .impOpen ∨ z.st = .expOpen ∨ z.st = .closed)) :=
  ⟨⟨(fun z : State => { z with tbl.zones := [{ nsid := 1, st := .impOpen, charged := true, berth := some 1 }] }) ((wbCmd wbZns
      (wbRec 1 { nsid := 1, opc := 0x79, dw13 := 3 }))), 0, (wbRec 1 { nsid := 1, opc := 0x79, dw13 := 3 }), wbZns, _,
      by unfold IoReady; decide +kernel, by unfold IoClear; decide +kernel, by decide +kernel, by decide +kernel,
      ok_spec (by decide +kernel)⟩,
   ⟨(fun z : State => { z with tbl.zones := [{ nsid := 1, st := .impOpen, charged := true, berth := some 1 }] }) ((wbCmd wbZns
       (wbRec 1 { nsid := 1, opc := 0x79, dw13 := 1 }))), 0, (wbRec 1 { nsid := 1, opc := 0x79, dw13 := 1 }), wbZns, _,
       by unfold IoReady; decide +kernel, by unfold IoClear; decide +kernel, by decide +kernel, by decide +kernel,
       ok_spec (by decide +kernel)⟩,
   ⟨(fun z : State => { z with tbl.zones := [{ nsid := 1, st := .impOpen, charged := true, berth := some 1 }] }) ((wbCmd wbZns
       (wbRec 1 { nsid := 1, opc := 0x79, dw13 := 2 }))), 0, (wbRec 1 { nsid := 1, opc := 0x79, dw13 := 2 }), wbZns, _,
       by unfold IoReady; decide +kernel, by unfold IoClear; decide +kernel, by decide +kernel, by decide +kernel,
       ok_spec (by decide +kernel)⟩,
   ⟨(fun z : State => { z with tbl.zones := [{ nsid := 1, st := .impOpen, charged := true, berth := some 1 }] }) ((wbCmd wbZns
       (wbRec 1 { nsid := 1, opc := 0x79, dw13 := 4 }))), 0, (wbRec 1 { nsid := 1, opc := 0x79, dw13 := 4 }), wbZns, _,
       by unfold IoReady; decide +kernel, by unfold IoClear; decide +kernel, by decide +kernel, by decide +kernel,
       ok_spec (by decide +kernel)⟩,
   ⟨(wbCmd wbZns (wbRec 1 { nsid := 1, opc := 0x79, dw13 := 9 })), 0, (wbRec 1 { nsid := 1, opc := 0x79, dw13 := 9 }), wbZns,
       by unfold IoReady; decide +kernel, by unfold IoClear; decide +kernel, by decide +kernel, by decide +kernel⟩,
   ⟨{ st := .expOpen }, by decide +kernel⟩,
   ⟨{ st := .readOnly }, by decide +kernel⟩,
   ⟨(fun z : State => { z with brtPar.tailShare := 0 }) (wb), {}, { st := .closed }, by decide +kernel, by decide +kernel,
       by decide +kernel⟩,
   ⟨{ st := .full }, by decide +kernel⟩,
   ⟨{ st := .closed }, by decide +kernel⟩⟩

/-- Inputs that meet the hypotheses of `NvmeIoChecked`. -/
theorem test_NvmeIoChecked_met :
    ∃ (s : State) (t : Tag) (r : TagRec) (x : Instr × Nat), (x ∈ [(Instr.read t, 0x02), (.write t, 0x01), (.flush t, 0x00),
        (.writeZeroes t, 0x08), (.datasetManagement t, 0x09), (.verify t, 0x0C), (.reservationRegister t, 0x0D), (.reservationReport t,
        0x0E), (.reservationAcquire t, 0x11), (.reservationRelease t, 0x15), (.zoneAppend t, 0x7D), (.reportZones t, 0x7A)]) ∧
        IoReady s t r x.2 ∧ r.cmd.nsid ≠ 0xFFFFFFFF :=
  ⟨(wbCmd wbNs (wbRec 1 { nsid := 1, opc := 0x02 })), 0, (wbRec 1 { nsid := 1, opc := 0x02 }), (.read 0, 0x02), List.mem_cons_self,
      by unfold IoReady; decide +kernel, by decide +kernel⟩

/-- Inputs that meet the hypotheses of each clause of `NvmeAdminComplete`, in their order. -/
theorem test_NvmeAdminComplete_met :
    (∃ (s : State) (t : Tag) (r : TagRec), AdminReady s t r 0x05 ∧ r.cmd.dw10 % 65536 ≠ 0 ∧ (r.cmd.dw10 % 65536 ≤ queueLimit s r.func) ∧
        (moorAt s r.func (r.cmd.dw10 % 65536) = none) ∧ r.cmd.dw10 / 65536 % 65536 ≠ 0 ∧ bitAt r.cmd.dw11 0 = true ∧
        (r.cmd.dw11 / 65536 % 65536 < viOf s r.func) ∧ r.cmd.prp1 % 4096 = 0) ∧
    (∃ (s : State) (t : Tag) (r : TagRec) (m : Mooring), AdminReady s t r 0x01 ∧ r.cmd.dw10 % 65536 ≠ 0 ∧
        (r.cmd.dw10 % 65536 ≤ queueLimit s r.func) ∧ (moorAt s r.func (r.cmd.dw10 % 65536) = some m) ∧ m.sqMade = false ∧
        m.cqMade = true ∧ m.st = 1 ∧ r.cmd.dw11 / 65536 % 65536 = r.cmd.dw10 % 65536 ∧ r.cmd.dw10 / 65536 % 65536 ≠ 0 ∧
        bitAt r.cmd.dw11 0 = true ∧ r.cmd.prp1 % 4096 = 0) ∧
    (∃ (s : State) (t : Tag) (r : TagRec) (m : Mooring), AdminReady s t r 0x00 ∧ r.cmd.dw10 % 65536 ≠ 0 ∧
        (moorAt s r.func (r.cmd.dw10 % 65536) = some m) ∧ m.sqMade = true ∧ m.st ≠ 3) ∧
    (∃ (s : State) (t : Tag) (r : TagRec) (m : Mooring), AdminReady s t r 0x04 ∧ r.cmd.dw10 % 65536 ≠ 0 ∧
        (moorAt s r.func (r.cmd.dw10 % 65536) = some m) ∧ m.cqMade = true ∧ m.sqMade = false) ∧
    (∃ (s : State) (t : Tag) (r : TagRec) (x : List Byte × State), AdminReady s t r 0x06 ∧ identifyOf s r = .ok x) ∧
    (∃ (s : State) (t : Tag) (r : TagRec) (x : List Byte × State), AdminReady s t r 0x02 ∧ r.cmd.dw10 % 256 ≠ 0xC4 ∧ logOf s r = .ok x) ∧
    (∃ (s : State) (t : Tag) (r : TagRec) (f : Nat), AdminReady s t r 0x02 ∧ r.cmd.dw10 % 256 = 0xC4 ∧
        (tallyTarget r.func (r.cmd.dw11 / 65536 % 65536) = some f)) ∧
    (∃ (s : State) (t : Tag) (r : TagRec), AdminReady s t r 0x09 ∧ bitAt r.cmd.dw10 31 = false ∧ r.cmd.dw10 % 256 = 0x08) ∧
    (∃ (s : State) (t : Tag) (r : TagRec), AdminReady s t r 0x09 ∧ r.cmd.dw10 % 256 ≠ 0x0E ∧ bitAt r.cmd.dw10 31 = true) ∧
    (∃ (s : State) (t : Tag) (r : TagRec), AdminReady s t r 0x09 ∧ bitAt r.cmd.dw10 31 = false ∧ r.cmd.dw10 % 256 = 0x0E) ∧
    (∃ (s : State) (t : Tag) (r : TagRec), AdminReady s t r 0x0A ∧ r.cmd.dw10 % 256 = 0x08 ∧ fld r.cmd.dw10 8 3 = 0) ∧
    (∃ (s : State) (t : Tag) (r : TagRec), AdminReady s t r 0x0C ∧ ((fnOf s r.func).aerParked = none)) ∧
    (∃ (s : State) (t : Tag) (r : TagRec), AdminReady s t r 0x0C ∧ ((fnOf s r.func).aerParked.isSome = true)) ∧
    (∃ (s : State) (t : Tag) (r : TagRec), AdminReady s t r 0x08) ∧
    (∃ (s : State) (t : Tag) (r : TagRec) (id : Nat), AdminReady s t r 0x0D ∧ r.cmd.dw10 % 16 = 0 ∧ createCheck s r.cmd = none ∧
        freeNsid s = some id) ∧
    (∃ (s : State) (t : Tag) (r : TagRec) (n : Ns), AdminReady s t r 0x0D ∧ r.cmd.dw10 % 16 = 1 ∧ r.cmd.nsid ≠ 0xFFFFFFFF ∧
        nsAt s r.cmd.nsid = some n) ∧
    (∃ (s : State) (t : Tag) (r : TagRec) (n : Ns), AdminReady s t r 0x15 ∧ r.cmd.dw10 % 16 = 0 ∧ nsAt s r.cmd.nsid = some n ∧
        ctrlFns r.cmd ≠ [] ∧ (ctrlFns r.cmd).length = (ctrlList r.cmd).length ∧ (ctrlFns r.cmd).any n.attached.contains = false) ∧
    (∃ (s : State) (t : Tag) (r : TagRec) (n : Ns), AdminReady s t r 0x15 ∧ r.cmd.dw10 % 16 = 1 ∧ nsAt s r.cmd.nsid = some n ∧
        ctrlFns r.cmd ≠ [] ∧ (ctrlFns r.cmd).length = (ctrlList r.cmd).length ∧ (ctrlFns r.cmd).all n.attached.contains = true) ∧
    (∃ (s : State) (t : Tag) (r : TagRec), AdminReady s t r 0x11 ∧ r.cmd.dw11 % 2 ^ 32 * 4 + (r.cmd.dw10 % 2 ^ 32 + 1) * 4 ≤ 67108864) ∧
    (∃ (s : State) (t : Tag) (r : TagRec) (v : Fn), AdminReady s t r 0x1C ∧ r.cmd.dw10 % 16 = 9 ∧
        (ownVf r.func (r.cmd.dw10 / 65536 % 65536) = some v) ∧ 2 ≤ (fnOf s v).vq ∧ 1 ≤ (fnOf s v).vi) ∧
    (∃ (s : State) (t : Tag) (r : TagRec) (v : Fn), AdminReady s t r 0x1C ∧ r.cmd.dw10 % 16 = 7 ∧
        (ownVf r.func (r.cmd.dw10 / 65536 % 65536) = some v)) ∧
    (∃ (s : State) (t : Tag) (r : TagRec) (n : Ns), AdminReady s t r 0x80 ∧ r.cmd.nsid ≠ 0xFFFFFFFF ∧ nsAt s r.cmd.nsid = some n ∧
        fld r.cmd.dw10 9 3 ≤ 2 ∧ r.cmd.dw10 % 16 = 0 ∧ fld r.cmd.dw10 5 3 = 0 ∧ conflicts (rsvOf s n.nsid) (whoOf s r) true = false) ∧
    (∃ (s : State) (t : Tag) (r : TagRec), AdminReady s t r 0x84 ∧ r.cmd.dw10 % 8 = 4) ∧
    (∃ (s : State) (t : Tag) (r : TagRec), AdminReady s t r 0x84 ∧ r.cmd.dw10 % 8 ≠ 4) ∧
    (∃ (s : State) (t : Tag) (r : TagRec) (n : Ns) (rs : List (Nat × Nat)) (room : Nat), AdminReady s t r 0x86 ∧
        nsAt s r.cmd.nsid = some n ∧ r.cmd.dw13 / 2 ^ 24 % 256 = 0x10 ∧ slbaOf r.cmd < n.size ∧
        (runsOf ((lostLbas s n.nsid).filter fun l => decide (slbaOf r.cmd ≤ l) && decide (l < if r.cmd.dw13 % 65536 = 0 then n.size else slbaOf r.cmd + r.cmd.dw13 % 65536)) = rs) ∧
        ((r.cmd.dw12 % 2 ^ 32 + 1) * 4 - 8) / 16 = room) ∧
    (∃ (s : State) (t : Tag) (r : TagRec), AdminReady s t r 0x14 ∧ r.cmd.dw10 % 16 = 15) :=
  ⟨⟨(wbCmd wbNs (wbRec 0 { nsid := 1, opc := 5, dw10 := 3 * 65536 + 2, dw11 := 1 })), 0,
      (wbRec 0 { nsid := 1, opc := 5, dw10 := 3 * 65536 + 2, dw11 := 1 }), by unfold AdminReady; decide +kernel, by decide +kernel,
      by decide +kernel, by decide +kernel, by decide +kernel, by decide +kernel, by decide +kernel, by decide +kernel⟩,
   ⟨(fun z : State => { z with quay.moorings := [{ func := 0, qid := 2, cqMade := true, st := 1 }] }) ((wbCmd wbNs
       (wbRec 0 { nsid := 1, opc := 1, dw10 := 3 * 65536 + 2, dw11 := 2 * 65536 + 1 }))), 0,
       (wbRec 0 { nsid := 1, opc := 1, dw10 := 3 * 65536 + 2, dw11 := 2 * 65536 + 1 }), { func := 0, qid := 2, cqMade := true, st := 1 },
       by unfold AdminReady; decide +kernel, by decide +kernel, by decide +kernel, by decide +kernel, by decide +kernel,
       by decide +kernel, by decide +kernel, by decide +kernel, by decide +kernel, by decide +kernel, by decide +kernel⟩,
   ⟨(fun z : State => { z with quay.moorings := [{ func := 0, qid := 2, cqMade := true, sqMade := true, st := 1 }] }) ((wbCmd wbNs
       (wbRec 0 { nsid := 1, opc := 0, dw10 := 2 }))), 0, (wbRec 0 { nsid := 1, opc := 0, dw10 := 2 }),
       { func := 0, qid := 2, cqMade := true, sqMade := true, st := 1 }, by unfold AdminReady; decide +kernel, by decide +kernel,
       by decide +kernel, by decide +kernel, by decide +kernel⟩,
   ⟨(fun z : State => { z with quay.moorings := [{ func := 0, qid := 2, cqMade := true, st := 1 }] }) ((wbCmd wbNs
       (wbRec 0 { nsid := 1, opc := 4, dw10 := 2 }))), 0, (wbRec 0 { nsid := 1, opc := 4, dw10 := 2 }),
       { func := 0, qid := 2, cqMade := true, st := 1 }, by unfold AdminReady; decide +kernel, by decide +kernel, by decide +kernel,
       by decide +kernel, by decide +kernel⟩,
   ⟨(wbCmd wbNs (wbRec 0 { nsid := 1, opc := 6, dw10 := 1 })), 0, (wbRec 0 { nsid := 1, opc := 6, dw10 := 1 }), _,
       by unfold AdminReady; decide +kernel, ok_spec (by decide +kernel)⟩,
   ⟨(wbCmd wbNs (wbRec 0 { nsid := 1, opc := 2, dw10 := 2 })), 0, (wbRec 0 { nsid := 1, opc := 2, dw10 := 2 }), _,
       by unfold AdminReady; decide +kernel, by decide +kernel, ok_spec (by decide +kernel)⟩,
   ⟨(wbCmd wbNs (wbRec 0 { nsid := 1, opc := 2, dw10 := 0xC4, dw11 := 0xFFFF0000 })), 0,
       (wbRec 0 { nsid := 1, opc := 2, dw10 := 0xC4, dw11 := 0xFFFF0000 }), 0, by unfold AdminReady; decide +kernel, by decide +kernel,
       by decide +kernel⟩,
   ⟨(wbCmd wbNs (wbRec 0 { nsid := 1, opc := 9, dw10 := 8 })), 0, (wbRec 0 { nsid := 1, opc := 9, dw10 := 8 }),
       by unfold AdminReady; decide +kernel, by decide +kernel, by decide +kernel⟩,
   ⟨(wbCmd wbNs (wbRec 0 { nsid := 1, opc := 9, dw10 := 8 + 2 ^ 31 })), 0, (wbRec 0 { nsid := 1, opc := 9, dw10 := 8 + 2 ^ 31 }),
       by unfold AdminReady; decide +kernel, by decide +kernel, by decide +kernel⟩,
   ⟨(wbCmd wbNs (wbRec 0 { nsid := 1, opc := 9, dw10 := 0xE })), 0, (wbRec 0 { nsid := 1, opc := 9, dw10 := 0xE }),
       by unfold AdminReady; decide +kernel, by decide +kernel, by decide +kernel⟩,
   ⟨(wbCmd wbNs (wbRec 0 { nsid := 1, opc := 10, dw10 := 8 })), 0, (wbRec 0 { nsid := 1, opc := 10, dw10 := 8 }),
       by unfold AdminReady; decide +kernel, by decide +kernel, by decide +kernel⟩,
   ⟨(wbCmd wbNs (wbRec 0 { nsid := 1, opc := 12 })), 0, (wbRec 0 { nsid := 1, opc := 12 }), by unfold AdminReady; decide +kernel,
       by decide +kernel⟩,
   ⟨(fun z : State => { z with quay.funcs := [{ idx := 0, en := true, rdy := true, aerParked := some 5 }] }) ((wbCmd wbNs
       (wbRec 0 { nsid := 1, opc := 12 }))), 0, (wbRec 0 { nsid := 1, opc := 12 }), by unfold AdminReady; decide +kernel,
       by decide +kernel⟩,
   ⟨(wbCmd wbNs (wbRec 0 { nsid := 1, opc := 8 })), 0, (wbRec 0 { nsid := 1, opc := 8 }), by unfold AdminReady; decide +kernel⟩,
   ⟨(wbOn wbBig { nsid := 1 } (wbRec 0 { nsid := 1, opc := 13, data := [1] })), 0, (wbRec 0 { nsid := 1, opc := 13, data := [1] }), _,
       by unfold AdminReady; decide +kernel, by decide +kernel, by decide +kernel, some_spec (by decide +kernel)⟩,
   ⟨(wbCmd wbNs (wbRec 0 { nsid := 1, opc := 13, dw10 := 1 })), 0, (wbRec 0 { nsid := 1, opc := 13, dw10 := 1 }), wbNs,
       by unfold AdminReady; decide +kernel, by decide +kernel, by decide +kernel, by decide +kernel⟩,
   ⟨(wbCmd wbNs (wbRec 0 { nsid := 1, opc := 21, data := [1, 0, 1, 0] })), 0, (wbRec 0 { nsid := 1, opc := 21, data := [1, 0, 1, 0] }),
       wbNs, by unfold AdminReady; decide +kernel, by decide +kernel, by decide +kernel, by decide +kernel, by decide +kernel,
       by decide +kernel⟩,
   ⟨(wbCmd wbNs (wbRec 0 { nsid := 1, opc := 21, dw10 := 1, data := [1, 0, 0, 0] })), 0,
       (wbRec 0 { nsid := 1, opc := 21, dw10 := 1, data := [1, 0, 0, 0] }), wbNs, by unfold AdminReady; decide +kernel,
       by decide +kernel, by decide +kernel, by decide +kernel, by decide +kernel, by decide +kernel⟩,
   ⟨(wbCmd wbNs (wbRec 0 { nsid := 1, opc := 17 })), 0, (wbRec 0 { nsid := 1, opc := 17 }), by unfold AdminReady; decide +kernel,
       by decide +kernel⟩,
   ⟨(fun z : State => { z with quay.funcs := [{ idx := 1, vq := 8, vi := 8 }] }) ((wbCmd wbNs
       (wbRec 0 { nsid := 1, opc := 28, dw10 := 9 + 65536 * 1 }))), 0, (wbRec 0 { nsid := 1, opc := 28, dw10 := 9 + 65536 * 1 }), 1,
       by unfold AdminReady; decide +kernel, by decide +kernel, by decide +kernel, by decide +kernel, by decide +kernel⟩,
   ⟨(wbCmd wbNs (wbRec 0 { nsid := 1, opc := 28, dw10 := 7 + 65536 * 1 })), 0, (wbRec 0 { nsid := 1, opc := 28, dw10 := 7 + 65536 * 1 }),
       _, by unfold AdminReady; decide +kernel, by decide +kernel, some_spec (by decide +kernel)⟩,
   ⟨(wbCmd wbNs (wbRec 0 { nsid := 1, opc := 128 })), 0, (wbRec 0 { nsid := 1, opc := 128 }), wbNs, by unfold AdminReady; decide +kernel,
       by decide +kernel, by decide +kernel, by decide +kernel, by decide +kernel, by decide +kernel, by decide +kernel⟩,
   ⟨(wbCmd wbNs (wbRec 0 { nsid := 1, opc := 132, dw10 := 4 })), 0, (wbRec 0 { nsid := 1, opc := 132, dw10 := 4 }),
       by unfold AdminReady; decide +kernel, by decide +kernel⟩,
   ⟨(wbCmd wbNs (wbRec 0 { nsid := 1, opc := 132, dw10 := 2 })), 0, (wbRec 0 { nsid := 1, opc := 132, dw10 := 2 }),
       by unfold AdminReady; decide +kernel, by decide +kernel⟩,
   ⟨(wbCmd wbNs (wbRec 0 { nsid := 1, opc := 134, dw13 := 0x10000000 })), 0, (wbRec 0 { nsid := 1, opc := 134, dw13 := 0x10000000 }),
       wbNs, _, _, by unfold AdminReady; decide +kernel, by decide +kernel, by decide +kernel, by decide +kernel, rfl, rfl⟩,
   ⟨(wbCmd wbNs (wbRec 0 { nsid := 1, opc := 20, dw10 := 15 })), 0, (wbRec 0 { nsid := 1, opc := 20, dw10 := 15 }),
       by unfold AdminReady; decide +kernel, by decide +kernel⟩⟩

/-- Inputs that meet the hypotheses of each clause of `ScsiCommandsComplete`, in their order. -/
theorem test_ScsiCommandsComplete_met :
    (∃ (s : State) (u : State) (lu : Fn) (c : HostCmd) (t : Tag) (r : TagRec), SasGranted s lu { c with opc := 0x12 } t u r ∧
        SasClear u r) ∧
    (∃ (s : State) (u : State) (lu : Fn) (c : HostCmd) (t : Tag) (r : TagRec), SasGranted s lu { c with opc := 0xA0 } t u r ∧
        SasClear u r) ∧
    (∃ (s : State) (u : State) (lu : Fn) (c : HostCmd) (t : Tag) (r : TagRec), SasGranted s lu { c with opc := 0x00 } t u r ∧
        SasClear u r) ∧
    (∃ (s : State) (u : State) (lu : Fn) (c : HostCmd) (t : Tag) (r : TagRec), SasGranted s lu { c with opc := 0x03 } t u r ∧
        SasClear u r) ∧
    (∃ (s : State) (u : State) (lu : Fn) (c : HostCmd) (t : Tag) (r : TagRec) (n : Ns), SasGranted s lu { c with opc := 0x9E } t u r ∧
        SasClear u r ∧ luNs u lu = some n) ∧
    (∃ (s : State) (u : State) (lu : Fn) (c : HostCmd) (t : Tag) (r : TagRec) (n : Ns) (p : Nat × Nat),
        SasGranted s lu { c with opc := 0x04 } t u r ∧ SasClear u r ∧ luNs u lu = some n ∧ formatPi r.cmd = some p ∧
        ((p.1 = 0 ∨ protectedNs u n.nsid < 64))) ∧
    (∃ (s : State) (u : State) (lu : Fn) (c : HostCmd) (t : Tag) (r : TagRec) (n : Ns), SasGranted s lu { c with opc := 0x48 } t u r ∧
        SasClear u r ∧ luNs u lu = some n ∧ r.cmd.dw13 % 32 = 3) ∧
    (∃ (s : State) (u : State) (lu : Fn) (c : HostCmd) (t : Tag) (r : TagRec) (d : List Byte × State),
        SasGranted s lu { c with opc := 0x5A } t u r ∧ SasClear u r ∧ modeSenseData u lu r.cmd = .ok d) ∧
    (∃ (s : State) (u : State) (lu : Fn) (c : HostCmd) (t : Tag) (r : TagRec) (ps : List (Nat × List Byte)),
        SasGranted s lu { c with opc := 0x55 } t u r ∧ SasClear u r ∧
        8 + beNat (((r.cmd.data.take r.cmd.dw12).drop 6).take 2) ≤ (r.cmd.data.take r.cmd.dw12).length ∧
        parsePages (r.cmd.data.take r.cmd.dw12).length ((r.cmd.data.take r.cmd.dw12).drop (8 + beNat (((r.cmd.data.take r.cmd.dw12).drop 6).take 2))) = some ps) ∧
    (∃ (s : State) (u : State) (lu : Fn) (c : HostCmd) (t : Tag) (r : TagRec) (d : List Byte × State),
        SasGranted s lu { c with opc := 0x4D } t u r ∧ SasClear u r ∧ logSenseData u lu r.cmd = .ok d) ∧
    (∃ (s : State) (u : State) (lu : Fn) (c : HostCmd) (t : Tag) (r : TagRec), SasGranted s lu { c with opc := 0x1B } t u r ∧
        SasClear u r) ∧
    (∃ (s : State) (u : State) (lu : Fn) (c : HostCmd) (t : Tag) (r : TagRec), SasGranted s lu { c with opc := 0x3C } t u r ∧
        SasClear u r) ∧
    (∃ (s : State) (u : State) (lu : Fn) (c : HostCmd) (t : Tag) (r : TagRec), SasGranted s lu { c with opc := 0xA2 } t u r ∧
        SasClear u r) ∧
    (∃ (s : State) (u : State) (lu : Fn) (c : HostCmd) (t : Tag) (r : TagRec) (b : List Byte),
        SasGranted s lu { c with opc := 0x5E } t u r ∧ SasClear u r ∧ prInData (rsvOf u (nsidOf u r)) r.cmd = some b) ∧
    (∃ (s : State) (u : State) (lu : Fn) (c : HostCmd) (t : Tag) (r : TagRec) (y : Rsv), SasGranted s lu { c with opc := 0x5F } t u r ∧
        SasClear u r ∧ prOut (rsvOf u (nsidOf u r)) r.nexus r.cmd = .ok y) ∧
    (∃ (s : State) (u : State) (lu : Fn) (c : HostCmd) (t : Tag) (r : TagRec) (n : Ns), SasGranted s lu { c with opc := 0x95 } t u r ∧
        SasClear u r ∧ luNs u lu = some n ∧ n.zoned = true ∧ slbaOf r.cmd < n.size) ∧
    (∃ (s : State) (u : State) (lu : Fn) (c : HostCmd) (t : Tag) (r : TagRec),
        (SasGranted s lu { c with opc := 0x3B, dw13 := 0x0E } t u r) ∧ SasClear u r) ∧
    (∃ (s : State) (u : State) (lu : Fn) (c : HostCmd) (t : Tag) (r : TagRec),
        (SasGranted s lu { c with opc := 0x3B, dw13 := 0x0F } t u r) ∧ SasClear u r) ∧
    (∃ (s : State) (u : State) (lu : Fn) (c : HostCmd) (t : Tag) (r : TagRec),
        (SasGranted s lu { c with opc := 0x3B, dw13 := 0x07 } t u r) ∧ SasClear u r) :=
  ⟨⟨(wbSas wbNs), (uOf (wbSas wbNs) 0 ({ ({  } : HostCmd) with opc := 0x12 }) 0), 0, {  }, 0, (rOf
      (wbSas wbNs) 0 ({ ({  } : HostCmd) with opc := 0x12 }) 0), granted_of (by decide +kernel), by unfold SasClear; decide +kernel⟩,
   ⟨(wbSas wbNs), (uOf (wbSas wbNs) 0 ({ ({  } : HostCmd) with opc := 0xA0 }) 0), 0, {  }, 0, (rOf
       (wbSas wbNs) 0 ({ ({  } : HostCmd) with opc := 0xA0 }) 0), granted_of (by decide +kernel), by unfold SasClear; decide +kernel⟩,
   ⟨(wbSas wbNs), (uOf (wbSas wbNs) 0 ({ ({  } : HostCmd) with opc := 0x00 }) 0), 0, {  }, 0, (rOf
       (wbSas wbNs) 0 ({ ({  } : HostCmd) with opc := 0x00 }) 0), granted_of (by decide +kernel), by unfold SasClear; decide +kernel⟩,
   ⟨(wbSas wbNs), (uOf (wbSas wbNs) 0 ({ ({  } : HostCmd) with opc := 0x03 }) 0), 0, {  }, 0, (rOf
       (wbSas wbNs) 0 ({ ({  } : HostCmd) with opc := 0x03 }) 0), granted_of (by decide +kernel), by unfold SasClear; decide +kernel⟩,
   ⟨(wbSas wbNs), (uOf (wbSas wbNs) 0 ({ ({  } : HostCmd) with opc := 0x9E }) 0), 0, {  }, 0, (rOf
       (wbSas wbNs) 0 ({ ({  } : HostCmd) with opc := 0x9E }) 0), wbNs, granted_of (by decide +kernel),
       by unfold SasClear; decide +kernel, by decide +kernel⟩,
   ⟨(wbSas wbNs), (uOf (wbSas wbNs) 0 ({ ({  } : HostCmd) with opc := 0x04 }) 0), 0, {  }, 0, (rOf
       (wbSas wbNs) 0 ({ ({  } : HostCmd) with opc := 0x04 }) 0), wbNs, _, granted_of (by decide +kernel),
       by unfold SasClear; decide +kernel, by decide +kernel, some_spec (by decide +kernel), by decide +kernel⟩,
   ⟨(wbSas wbNs), (uOf (wbSas wbNs) 0 ({ ({ dw13 := 3 } : HostCmd) with opc := 0x48 }) 0), 0, { dw13 := 3 }, 0, (rOf
       (wbSas wbNs) 0 ({ ({ dw13 := 3 } : HostCmd) with opc := 0x48 }) 0), wbNs, granted_of (by decide +kernel),
       by unfold SasClear; decide +kernel, by decide +kernel, by decide +kernel⟩,
   ⟨(wbSas wbNs), (uOf (wbSas wbNs) 0 ({ ({ dw12 := 255, dw14 := 1 } : HostCmd) with opc := 0x5A }) 0), 0, { dw12 := 255, dw14 := 1 }, 0,
       (rOf (wbSas wbNs) 0 ({ ({ dw12 := 255, dw14 := 1 } : HostCmd) with opc := 0x5A }) 0), _, granted_of (by decide +kernel),
       by unfold SasClear; decide +kernel, ok_spec (by decide +kernel)⟩,
   ⟨(wbSas wbNs), (uOf (wbSas wbNs) 0 ({ ({ dw12 := 8, data := List.replicate 8 0 } : HostCmd) with opc := 0x55 }) 0), 0,
       { dw12 := 8, data := List.replicate 8 0 }, 0, (rOf
       (wbSas wbNs) 0 ({ ({ dw12 := 8, data := List.replicate 8 0 } : HostCmd) with opc := 0x55 }) 0), _, granted_of (by decide +kernel),
       by unfold SasClear; decide +kernel, by decide +kernel, some_spec (by decide +kernel)⟩,
   ⟨(wbSas wbNs), (uOf (wbSas wbNs) 0 ({ ({  } : HostCmd) with opc := 0x4D }) 0), 0, {  }, 0, (rOf
       (wbSas wbNs) 0 ({ ({  } : HostCmd) with opc := 0x4D }) 0), _, granted_of (by decide +kernel), by unfold SasClear; decide +kernel,
       ok_spec (by decide +kernel)⟩,
   ⟨(wbSas wbNs), (uOf (wbSas wbNs) 0 ({ ({  } : HostCmd) with opc := 0x1B }) 0), 0, {  }, 0, (rOf
       (wbSas wbNs) 0 ({ ({  } : HostCmd) with opc := 0x1B }) 0), granted_of (by decide +kernel), by unfold SasClear; decide +kernel⟩,
   ⟨(wbSas wbNs), (uOf (wbSas wbNs) 0 ({ ({  } : HostCmd) with opc := 0x3C }) 0), 0, {  }, 0, (rOf
       (wbSas wbNs) 0 ({ ({  } : HostCmd) with opc := 0x3C }) 0), granted_of (by decide +kernel), by unfold SasClear; decide +kernel⟩,
   ⟨(wbSas wbNs), (uOf (wbSas wbNs) 0 ({ ({  } : HostCmd) with opc := 0xA2 }) 0), 0, {  }, 0, (rOf
       (wbSas wbNs) 0 ({ ({  } : HostCmd) with opc := 0xA2 }) 0), granted_of (by decide +kernel), by unfold SasClear; decide +kernel⟩,
   ⟨(wbSas wbNs), (uOf (wbSas wbNs) 0 ({ ({  } : HostCmd) with opc := 0x5E }) 0), 0, {  }, 0, (rOf
       (wbSas wbNs) 0 ({ ({  } : HostCmd) with opc := 0x5E }) 0), _, granted_of (by decide +kernel), by unfold SasClear; decide +kernel,
       some_spec (by decide +kernel)⟩,
   ⟨(wbSas wbNs), (uOf (wbSas wbNs) 0 ({ ({ data := List.replicate 24 1, dw13 := 6 } : HostCmd) with opc := 0x5F }) 0), 0,
       { data := List.replicate 24 1, dw13 := 6 }, 0, (rOf
       (wbSas wbNs) 0 ({ ({ data := List.replicate 24 1, dw13 := 6 } : HostCmd) with opc := 0x5F }) 0), _,
       granted_of (by decide +kernel), by unfold SasClear; decide +kernel, ok_spec (by decide +kernel)⟩,
   ⟨(wbSas wbZns), (uOf (wbSas wbZns) 0 ({ ({  } : HostCmd) with opc := 0x95 }) 0), 0, {  }, 0, (rOf
       (wbSas wbZns) 0 ({ ({  } : HostCmd) with opc := 0x95 }) 0), wbZns, granted_of (by decide +kernel),
       by unfold SasClear; decide +kernel, by decide +kernel, by decide +kernel, by decide +kernel⟩,
   ⟨(wbSas wbNs), (uOf (wbSas wbNs) 0 ({ ({  } : HostCmd) with opc := 0x3B, dw13 := 0x0E }) 0), 0, {  }, 0, (rOf
       (wbSas wbNs) 0 ({ ({  } : HostCmd) with opc := 0x3B, dw13 := 0x0E }) 0), granted_of (by decide +kernel),
       by unfold SasClear; decide +kernel⟩,
   ⟨(wbSas wbNs), (uOf (wbSas wbNs) 0 ({ ({  } : HostCmd) with opc := 0x3B, dw13 := 0x0F }) 0), 0, {  }, 0, (rOf
       (wbSas wbNs) 0 ({ ({  } : HostCmd) with opc := 0x3B, dw13 := 0x0F }) 0), granted_of (by decide +kernel),
       by unfold SasClear; decide +kernel⟩,
   ⟨(wbSas wbNs), (uOf (wbSas wbNs) 0 ({ ({  } : HostCmd) with opc := 0x3B, dw13 := 0x07 }) 0), 0, {  }, 0, (rOf
       (wbSas wbNs) 0 ({ ({  } : HostCmd) with opc := 0x3B, dw13 := 0x07 }) 0), granted_of (by decide +kernel),
       by unfold SasClear; decide +kernel⟩⟩

/-- Inputs that meet the hypotheses of each clause of `ScsiBlocksComplete`, in their order. -/
theorem test_ScsiBlocksComplete_met :
    (∃ (s : State) (u : State) (lu : Fn) (c : HostCmd) (t : Tag) (r : TagRec), SasGranted s lu { c with opc := 0x88 } t u r ∧
        SasClear u r ∧ IoClear u r) ∧
    (∃ (s : State) (u : State) (lu : Fn) (c : HostCmd) (t : Tag) (r : TagRec), SasGranted s lu { c with opc := 0x8A } t u r ∧
        SasClear u r ∧ IoClear u r) ∧
    (∃ (s : State) (u : State) (lu : Fn) (c : HostCmd) (t : Tag) (r : TagRec), SasGranted s lu { c with opc := 0x8F } t u r ∧
        SasClear u r ∧ IoClear u r) ∧
    (∃ (s : State) (u : State) (lu : Fn) (c : HostCmd) (t : Tag) (r : TagRec), SasGranted s lu { c with opc := 0x91 } t u r ∧
        SasClear u r ∧ IoClear u r) ∧
    (∃ (s : State) (u : State) (lu : Fn) (c : HostCmd) (t : Tag) (r : TagRec), SasGranted s lu { c with opc := 0x42 } t u r ∧
        SasClear u r ∧ IoClear u r) ∧
    (∃ (s : State) (u : State) (lu : Fn) (c : HostCmd) (t : Tag) (r : TagRec),
        (SasGranted s lu { c with opc := 0x94, dw13 := 4 } t u r) ∧ SasClear u r ∧ IoClear u r) ∧
    (∃ (s : State) (u : State) (lu : Fn) (c : HostCmd) (t : Tag) (r : TagRec),
        (SasGranted s lu { c with opc := 0x94, dw13 := 3 } t u r) ∧ SasClear u r ∧ IoClear u r) ∧
    (∃ (s : State) (u : State) (lu : Fn) (c : HostCmd) (t : Tag) (r : TagRec),
        (SasGranted s lu { c with opc := 0x94, dw13 := 1 } t u r) ∧ SasClear u r ∧ IoClear u r) ∧
    (∃ (s : State) (u : State) (lu : Fn) (c : HostCmd) (t : Tag) (r : TagRec),
        (SasGranted s lu { c with opc := 0x94, dw13 := 2 } t u r) ∧ SasClear u r ∧ IoClear u r) ∧
    (∃ (s : State) (r : TagRec) (n : Ns) (s1 : State), nsAt s (nsidOf s r) = some n ∧ 1 ≤ zoneAction r.cmd ∧ zoneAction r.cmd ≤ 4 ∧
        zonesUnder (zoneAction r.cmd) n (zonesNamed s n r.cmd) s = .ok s1) :=
  ⟨⟨(wbSas wbNs), (uOf (wbSas wbNs) 0 ({ ({ dw12 := 1 } : HostCmd) with opc := 0x88 }) 0), 0, { dw12 := 1 }, 0, (rOf
      (wbSas wbNs) 0 ({ ({ dw12 := 1 } : HostCmd) with opc := 0x88 }) 0), granted_of (by decide +kernel),
      by unfold SasClear; decide +kernel, by unfold IoClear; decide +kernel⟩,
   ⟨(wbSas wbNs), (uOf (wbSas wbNs) 0 ({ ({ dw12 := 1 } : HostCmd) with opc := 0x8A }) 0), 0, { dw12 := 1 }, 0, (rOf
       (wbSas wbNs) 0 ({ ({ dw12 := 1 } : HostCmd) with opc := 0x8A }) 0), granted_of (by decide +kernel),
       by unfold SasClear; decide +kernel, by unfold IoClear; decide +kernel⟩,
   ⟨(wbSas wbNs), (uOf (wbSas wbNs) 0 ({ ({ dw12 := 1 } : HostCmd) with opc := 0x8F }) 0), 0, { dw12 := 1 }, 0, (rOf
       (wbSas wbNs) 0 ({ ({ dw12 := 1 } : HostCmd) with opc := 0x8F }) 0), granted_of (by decide +kernel),
       by unfold SasClear; decide +kernel, by unfold IoClear; decide +kernel⟩,
   ⟨(wbSas wbNs), (uOf (wbSas wbNs) 0 ({ ({ dw12 := 1 } : HostCmd) with opc := 0x91 }) 0), 0, { dw12 := 1 }, 0, (rOf
       (wbSas wbNs) 0 ({ ({ dw12 := 1 } : HostCmd) with opc := 0x91 }) 0), granted_of (by decide +kernel),
       by unfold SasClear; decide +kernel, by unfold IoClear; decide +kernel⟩,
   ⟨(wbSas wbNs), (uOf (wbSas wbNs) 0 ({ ({  } : HostCmd) with opc := 0x42 }) 0), 0, {  }, 0, (rOf
       (wbSas wbNs) 0 ({ ({  } : HostCmd) with opc := 0x42 }) 0), granted_of (by decide +kernel), by unfold SasClear; decide +kernel,
       by unfold IoClear; decide +kernel⟩,
   ⟨(wbSas wbZns), (uOf (wbSas wbZns) 0 ({ ({  } : HostCmd) with opc := 0x94, dw13 := 4 }) 0), 0, {  }, 0, (rOf
       (wbSas wbZns) 0 ({ ({  } : HostCmd) with opc := 0x94, dw13 := 4 }) 0), granted_of (by decide +kernel),
       by unfold SasClear; decide +kernel, by unfold IoClear; decide +kernel⟩,
   ⟨(wbSas wbZns), (uOf (wbSas wbZns) 0 ({ ({  } : HostCmd) with opc := 0x94, dw13 := 3 }) 0), 0, {  }, 0, (rOf
       (wbSas wbZns) 0 ({ ({  } : HostCmd) with opc := 0x94, dw13 := 3 }) 0), granted_of (by decide +kernel),
       by unfold SasClear; decide +kernel, by unfold IoClear; decide +kernel⟩,
   ⟨(wbSas wbZns), (uOf (wbSas wbZns) 0 ({ ({  } : HostCmd) with opc := 0x94, dw13 := 1 }) 0), 0, {  }, 0, (rOf
       (wbSas wbZns) 0 ({ ({  } : HostCmd) with opc := 0x94, dw13 := 1 }) 0), granted_of (by decide +kernel),
       by unfold SasClear; decide +kernel, by unfold IoClear; decide +kernel⟩,
   ⟨(wbSas wbZns), (uOf (wbSas wbZns) 0 ({ ({  } : HostCmd) with opc := 0x94, dw13 := 2 }) 0), 0, {  }, 0, (rOf
       (wbSas wbZns) 0 ({ ({  } : HostCmd) with opc := 0x94, dw13 := 2 }) 0), granted_of (by decide +kernel),
       by unfold SasClear; decide +kernel, by unfold IoClear; decide +kernel⟩,
   ⟨(fun z : State => { z with tbl.zones := [{ nsid := 1, st := .impOpen, charged := true, berth := some 1 }] }) ((wbOn wb wbZns
       (wbRec 1 { nsid := 1, opc := 0x79, dw13 := 1 }))), (wbRec 1 { nsid := 1, opc := 0x79, dw13 := 2 }), wbZns, _, by decide +kernel,
       by decide +kernel, by decide +kernel, ok_spec (by decide +kernel)⟩⟩

/-- Inputs that meet the hypotheses of each clause of `ScsiMailboxAndEarlyAnswers`, in their order. -/
theorem test_ScsiMailboxAndEarlyAnswers_met :
    (∃ (s : State) (u : State) (lu : Fn) (c : HostCmd) (t : Tag) (r : TagRec) (x : TagRec),
        SasGranted s lu { c with opc := 0xB5 } t u r ∧ SasClear u r ∧ waitingTask s lu { c with opc := 0xB5 } = none ∧
        (waitingTask (refresh (updTag u t fun x => { x with stage := 2 })) lu { c with opc := 0xB5 } = some x) ∧
        (live (refresh (updTag u t fun x => { x with stage := 2 })) = true) ∧
        ((refresh (updTag u t fun x => { x with stage := 2 })).bw.started = false)) ∧
    (∃ (s : State) (r : TagRec) (m : OpalMethod), protoOf s r = 1 ∧ mustWait s r = false ∧ (s.bw.inhibit && opalWrites m) = false) ∧
    (∃ (s : State) (u : State) (lu : Fn) (port : Fin 2) (c : HostCmd) (t : Tag) (r : TagRec),
        SasGranted s lu (withPort port 0xC0 0 c) t u r ∧ SasClear u r ∧ 32 ≤ r.cmd.dw12 ∧ r.cmd.dw12 ≤ 2048 ∧
        mbxFree u.mbx[portMb r.cmd] ≠ 0) ∧
    (∃ (s : State) (u : State) (lu : Fn) (port : Fin 2) (c : HostCmd) (t : Tag) (r : TagRec),
        SasGranted s lu (withPort port 0xC0 0 c) t u r ∧ SasClear u r ∧ 32 ≤ r.cmd.dw12 ∧ r.cmd.dw12 ≤ 2048 ∧
        mbxFree u.mbx[portMb r.cmd] = 0) ∧
    (∃ (s : State) (u : State) (lu : Fn) (port : Fin 2) (c : HostCmd) (t : Tag) (r : TagRec),
        SasGranted s lu (withPort port 0xC1 0 c) t u r ∧ SasClear u r ∧ bitAt r.cmd.dw15 0 = false ∧
        u.mbx[portMb r.cmd].respHead ≠ u.mbx[portMb r.cmd].respTail) ∧
    (∃ (s : State) (u : State) (lu : Fn) (port : Fin 2) (c : HostCmd) (t : Tag) (r : TagRec) (n : Nat),
        SasGranted s lu (withPort port 0xC1 1 c) t u r ∧ SasClear u r ∧ bitAt r.cmd.dw15 0 = true ∧
        min (min (ntfUsed u.mbx[portMb r.cmd]) 31) (r.cmd.dw12 / 64) = n ∧ n ≠ 0) ∧
    (∃ (s : State), s.quay.disabled = false ∧ s.quay.sas = true ∧ s.bw.started = false ∧ s.phase = .boot) ∧
    (∃ (s : State), s.quay.disabled = false ∧ s.quay.sas = true ∧ s.bw.started = false ∧ s.phase = .halted) ∧
    (∃ (s : State) (lu : Fn) (c : HostCmd), sasUp s = true ∧ hostIo s = true ∧ admits (knowNexus s c.nexus) lu false = false) :=
  ⟨⟨(wbSas wbNs), (uOf (wbSas wbNs) 0 ({ ({  } : HostCmd) with opc := 0xB5 }) 0), 0, {  }, 0, (rOf
      (wbSas wbNs) 0 ({ ({  } : HostCmd) with opc := 0xB5 }) 0), _, granted_of (by decide +kernel), by unfold SasClear; decide +kernel,
      by decide +kernel, some_spec (by decide +kernel), by decide +kernel, by decide +kernel⟩,
   ⟨(wbSas wbNs), (wbRec 0 { opc := 0xB5, dw13 := 1 }), .plain, by decide +kernel, by decide +kernel, by decide +kernel⟩,
   ⟨(wbSas wbNs), (uOf (wbSas wbNs) 0 (withPort 0 0xC0 0 { dw12 := 32, data := List.replicate 32 0 }) 0), 0, 0,
       { dw12 := 32, data := List.replicate 32 0 }, 0, (rOf
       (wbSas wbNs) 0 (withPort 0 0xC0 0 { dw12 := 32, data := List.replicate 32 0 }) 0), granted_of (by decide +kernel),
       by unfold SasClear; decide +kernel, by decide +kernel, by decide +kernel, by decide +kernel⟩,
   ⟨(wbMbx { reqTail := 32 }), (uOf (wbMbx { reqTail := 32 }) 0 (withPort 0 0xC0 0 { dw12 := 32, data := List.replicate 32 0 }) 0), 0, 0,
       { dw12 := 32, data := List.replicate 32 0 }, 0, (rOf
       (wbMbx { reqTail := 32 }) 0 (withPort 0 0xC0 0 { dw12 := 32, data := List.replicate 32 0 }) 0), granted_of (by decide +kernel),
       by unfold SasClear; decide +kernel, by decide +kernel, by decide +kernel, by decide +kernel⟩,
   ⟨(wbMbx { respTail := 1, ntfTail := 1 }), (uOf (wbMbx { respTail := 1, ntfTail := 1 }) 0 (withPort 0 0xC1 0 {  }) 0), 0, 0, {  }, 0,
       (rOf (wbMbx { respTail := 1, ntfTail := 1 }) 0 (withPort 0 0xC1 0 {  }) 0), granted_of (by decide +kernel),
       by unfold SasClear; decide +kernel, by decide +kernel, by decide +kernel⟩,
   ⟨(wbMbx { respTail := 1, ntfTail := 1 }), (uOf (wbMbx { respTail := 1, ntfTail := 1 }) 0 (withPort 0 0xC1 1 { dw12 := 64 }) 0), 0, 0,
       { dw12 := 64 }, 0, (rOf (wbMbx { respTail := 1, ntfTail := 1 }) 0 (withPort 0 0xC1 1 { dw12 := 64 }) 0), _,
       granted_of (by decide +kernel), by unfold SasClear; decide +kernel, by decide +kernel, rfl, by decide +kernel⟩,
   ⟨(fun z : State => { z with phase := .boot }) ((fun z : State => { z with bw.started := false }) ((fun z : State => { z with quay.sas := true }) ((fun z : State => { z with quay.disabled := false }) (wb)))),
       by decide +kernel, by decide +kernel, by decide +kernel, by decide +kernel⟩,
   ⟨(fun z : State => { z with phase := .halted }) ((fun z : State => { z with bw.started := false }) ((fun z : State => { z with quay.sas := true }) ((fun z : State => { z with quay.disabled := false }) (wb)))),
       by decide +kernel, by decide +kernel, by decide +kernel, by decide +kernel⟩,
   ⟨(fun z : State => { z with quay.funcs := [{ idx := 0, tagLimit := 0 }] }) ((wbSas wbNs)), 0, {}, by decide +kernel,
       by decide +kernel, by decide +kernel⟩⟩

/-- Inputs that meet the hypotheses of each clause of `TaskManagementComplete`, in their order. -/
theorem test_TaskManagementComplete_met :
    (∃ (s : State), sasUp s = true) ∧
    (∃ (s : State), sasUp s = true) ∧
    (∃ (s : State) (lu : Fn) (nexus : Nat) (s1 : State), sasUp s = true ∧ restorePages (knowNexus s nexus) lu = s1) ∧
    (∃ (s : State), sasUp s = true) :=
  ⟨⟨(wbSas wbNs), by decide +kernel⟩,
   ⟨(wbSas wbNs), by decide +kernel⟩,
   ⟨(wbSas wbNs), 0, 0, _, by decide +kernel, rfl⟩,
   ⟨(wbSas wbNs), by decide +kernel⟩⟩

/-- Inputs that meet the hypotheses of each clause of `SeqRegisterOpsComplete`, in their order. -/
theorem test_SeqRegisterOpsComplete_met :
    (∃ (s : State) (n : Sq) (w : BitVec 26), Issues s n 0x10 w ∧ mw w 0 14 = 0 ∧ s.seqs[n].r.pc ≠ 0xFFFF) ∧
    (∃ (s : State) (n : Sq) (w : BitVec 26), Issues s n 0x11 w ∧ mw w 0 14 = 0 ∧ s.seqs[n].r.pc ≠ 0xFFFF) ∧
    (∃ (s : State) (n : Sq) (w : BitVec 26), Issues s n 0x12 w ∧ mw w 0 14 = 0 ∧ s.seqs[n].r.pc ≠ 0xFFFF) ∧
    (∃ (s : State) (n : Sq) (w : BitVec 26), Issues s n 0x13 w ∧ mw w 0 14 = 0 ∧ s.seqs[n].r.pc ≠ 0xFFFF) ∧
    (∃ (s : State) (n : Sq) (w : BitVec 26), Issues s n 0x14 w ∧ mw w 0 14 = 0 ∧ s.seqs[n].r.pc ≠ 0xFFFF) ∧
    (∃ (s : State) (n : Sq) (w : BitVec 26), Issues s n 0x15 w ∧ mw w 0 14 = 0 ∧ s.seqs[n].r.pc ≠ 0xFFFF) ∧
    (∃ (s : State) (n : Sq) (w : BitVec 26), Issues s n 0x16 w ∧ mw w 0 14 = 0 ∧ s.seqs[n].r.pc ≠ 0xFFFF) ∧
    (∃ (s : State) (n : Sq) (w : BitVec 26), Issues s n 0x17 w ∧ mw w 0 14 = 0 ∧ s.seqs[n].r.pc ≠ 0xFFFF) ∧
    (∃ (s : State) (n : Sq) (w : BitVec 26), Issues s n 0x18 w ∧ mw w 0 14 = 0 ∧ s.seqs[n].r.pc ≠ 0xFFFF) ∧
    (∃ (s : State) (n : Sq) (w : BitVec 26), Issues s n 0x19 w ∧ mw w 0 14 = 0 ∧ s.seqs[n].r.pc ≠ 0xFFFF) ∧
    (∃ (s : State) (n : Sq) (w : BitVec 26), Issues s n 0x1a w ∧ mw w 0 14 = 0 ∧ s.seqs[n].r.pc ≠ 0xFFFF) ∧
    (∃ (s : State) (n : Sq) (w : BitVec 26), Issues s n 0x1b w ∧ mw w 0 14 = 0 ∧ s.seqs[n].r.pc ≠ 0xFFFF) ∧
    (∃ (s : State) (n : Sq) (w : BitVec 26), Issues s n 0x1c w ∧ mw w 0 14 = 0 ∧ s.seqs[n].r.pc ≠ 0xFFFF) ∧
    (∃ (s : State) (n : Sq) (w : BitVec 26), Issues s n 0x1d w ∧ mw w 0 14 = 0 ∧ s.seqs[n].r.pc ≠ 0xFFFF) ∧
    (∃ (s : State) (n : Sq) (w : BitVec 26), Issues s n 0x1e w ∧ mw w 0 14 = 0 ∧ mw w 22 4 = 0 ∧ s.seqs[n].r.pc ≠ 0xFFFF) ∧
    (∃ (s : State) (n : Sq) (w : BitVec 26), Issues s n 0x1f w ∧ mw w 0 14 = 0 ∧ s.seqs[n].r.pc ≠ 0xFFFF) :=
  ⟨⟨(wbSeq { } 1073741824), 0, 0, by unfold Issues; decide +kernel, by decide +kernel, by decide +kernel⟩,
   ⟨(wbSeq { } 1140850688), 0, 0, by unfold Issues; decide +kernel, by decide +kernel, by decide +kernel⟩,
   ⟨(wbSeq { } 1207959552), 0, 0, by unfold Issues; decide +kernel, by decide +kernel, by decide +kernel⟩,
   ⟨(wbSeq { } 1275068416), 0, 0, by unfold Issues; decide +kernel, by decide +kernel, by decide +kernel⟩,
   ⟨(wbSeq { } 1342177280), 0, 0, by unfold Issues; decide +kernel, by decide +kernel, by decide +kernel⟩,
   ⟨(wbSeq { } 1409286144), 0, 0, by unfold Issues; decide +kernel, by decide +kernel, by decide +kernel⟩,
   ⟨(wbSeq { } 1476395008), 0, 0, by unfold Issues; decide +kernel, by decide +kernel, by decide +kernel⟩,
   ⟨(wbSeq { } 1543503872), 0, 0, by unfold Issues; decide +kernel, by decide +kernel, by decide +kernel⟩,
   ⟨(wbSeq { } 1610612736), 0, 0, by unfold Issues; decide +kernel, by decide +kernel, by decide +kernel⟩,
   ⟨(wbSeq { } 1677721600), 0, 0, by unfold Issues; decide +kernel, by decide +kernel, by decide +kernel⟩,
   ⟨(wbSeq { } 1744830464), 0, 0, by unfold Issues; decide +kernel, by decide +kernel, by decide +kernel⟩,
   ⟨(wbSeq { } 1811939328), 0, 0, by unfold Issues; decide +kernel, by decide +kernel, by decide +kernel⟩,
   ⟨(wbSeq { } 1879048192), 0, 0, by unfold Issues; decide +kernel, by decide +kernel, by decide +kernel⟩,
   ⟨(wbSeq { } 1946157056), 0, 0, by unfold Issues; decide +kernel, by decide +kernel, by decide +kernel⟩,
   ⟨(wbSeq { } 2013265920), 0, 0, by unfold Issues; decide +kernel, by decide +kernel, by decide +kernel, by decide +kernel⟩,
   ⟨(wbSeq { } 2080374784), 0, 0, by unfold Issues; decide +kernel, by decide +kernel, by decide +kernel⟩⟩

/-- Inputs that meet the hypotheses of each clause of `SeqImmediateOpsComplete`, in their order. -/
theorem test_SeqImmediateOpsComplete_met :
    (∃ (s : State) (n : Sq) (w : BitVec 26), Issues s n 0x20 w ∧ s.seqs[n].r.pc ≠ 0xFFFF) ∧
    (∃ (s : State) (n : Sq) (w : BitVec 26), Issues s n 0x21 w ∧ s.seqs[n].r.pc ≠ 0xFFFF) ∧
    (∃ (s : State) (n : Sq) (w : BitVec 26), Issues s n 0x22 w ∧ s.seqs[n].r.pc ≠ 0xFFFF) ∧
    (∃ (s : State) (n : Sq) (w : BitVec 26), Issues s n 0x23 w ∧ s.seqs[n].r.pc ≠ 0xFFFF) ∧
    (∃ (s : State) (n : Sq) (w : BitVec 26), Issues s n 0x24 w ∧ s.seqs[n].r.pc ≠ 0xFFFF) ∧
    (∃ (s : State) (n : Sq) (w : BitVec 26), Issues s n 0x25 w ∧ s.seqs[n].r.pc ≠ 0xFFFF) ∧
    (∃ (s : State) (n : Sq) (w : BitVec 26), Issues s n 0x26 w ∧ s.seqs[n].r.pc ≠ 0xFFFF) ∧
    (∃ (s : State) (n : Sq) (w : BitVec 26), Issues s n 0x29 w ∧ mw w 22 4 = 0 ∧ s.seqs[n].r.pc ≠ 0xFFFF) ∧
    (∃ (s : State) (n : Sq) (w : BitVec 26), Issues s n 0x27 w ∧ s.seqs[n].r.pc ≠ 0xFFFF) ∧
    (∃ (s : State) (n : Sq) (w : BitVec 26), Issues s n 0x28 w ∧ s.seqs[n].r.pc ≠ 0xFFFF) :=
  ⟨⟨(wbSeq { } 2147483648), 0, 0, by unfold Issues; decide +kernel, by decide +kernel⟩,
   ⟨(wbSeq { } 2214592512), 0, 0, by unfold Issues; decide +kernel, by decide +kernel⟩,
   ⟨(wbSeq { } 2281701376), 0, 0, by unfold Issues; decide +kernel, by decide +kernel⟩,
   ⟨(wbSeq { } 2348810240), 0, 0, by unfold Issues; decide +kernel, by decide +kernel⟩,
   ⟨(wbSeq { } 2415919104), 0, 0, by unfold Issues; decide +kernel, by decide +kernel⟩,
   ⟨(wbSeq { } 2483027968), 0, 0, by unfold Issues; decide +kernel, by decide +kernel⟩,
   ⟨(wbSeq { } 2550136832), 0, 0, by unfold Issues; decide +kernel, by decide +kernel⟩,
   ⟨(wbSeq { } 2751463424), 0, 0, by unfold Issues; decide +kernel, by decide +kernel, by decide +kernel⟩,
   ⟨(wbSeq { } 2617245696), 0, 0, by unfold Issues; decide +kernel, by decide +kernel⟩,
   ⟨(wbSeq { } 2684354560), 0, 0, by unfold Issues; decide +kernel, by decide +kernel⟩⟩

/-- Inputs that meet the hypotheses of each clause of `SeqMemoryComplete`, in their order. -/
theorem test_SeqMemoryComplete_met :
    (∃ (s : State) (n : Sq) (w : BitVec 26) (a : Nat), Issues s n 0x2c w ∧ oddD w = false ∧ s.seqs[n].r.pc ≠ 0xFFFF ∧
        scratchAddr s.seqs[n].r w = some a) ∧
    (∃ (s : State) (n : Sq) (w : BitVec 26), Issues s n 0x2c w ∧ oddD w = false ∧ scratchAddr s.seqs[n].r w = none) ∧
    (∃ (s : State) (n : Sq) (w : BitVec 26) (a : Nat), Issues s n 0x2d w ∧ oddD w = false ∧ s.seqs[n].r.pc ≠ 0xFFFF ∧
        scratchAddr s.seqs[n].r w = some a ∧ s.seqs[n].held.length < 16) ∧
    (∃ (s : State) (n : Sq) (w : BitVec 26) (a : Nat), Issues s n 0x2e w ∧ oddD w = false ∧ oddA w = false ∧ s.seqs[n].r.pc ≠ 0xFFFF ∧
        netAddr s.seqs[n].r w = some a ∧ (regionOf s (a / 64)).isSome = true) ∧
    (∃ (s : State) (n : Sq) (w : BitVec 26), Issues s n 0x2e w ∧ oddD w = false ∧ oddA w = false ∧ netAddr s.seqs[n].r w = none) ∧
    (∃ (s : State) (n : Sq) (w : BitVec 26) (a : Nat), Issues s n 0x2f w ∧ oddD w = false ∧ oddA w = false ∧ s.seqs[n].r.pc ≠ 0xFFFF ∧
        netAddr s.seqs[n].r w = some a ∧ s.seqs[n].held.length < 16) ∧
    (∃ (s : State) (n : Sq) (w : BitVec 26), Issues s n 0x30 w ∧ mw w 0 14 = 0 ∧ oddA w = false ∧
        pairAt s.seqs[n].r (mwA w) + 4 ≤ 2 ^ 40) ∧
    (∃ (s : State) (n : Sq) (w : BitVec 26), Issues s n 0x31 w ∧ mw w 0 14 = 0 ∧ oddA w = false ∧ (mwD w).val % 2 = 0 ∧
        movesOf s.seqs[n] < 4 ∧ s.seqs[n].r.pc ≠ 0xFFFF ∧ s.seqs[n].held.length < 16 ∧ (gOf s.seqs[n].r (mwB w)).toNat % 64 = 0 ∧
        (gOf s.seqs[n].r (mwB w)).toNat ≤ 2 ^ 20 ∧ pairAt s.seqs[n].r (mwA w) + (gOf s.seqs[n].r (mwB w)).toNat ≤ 2 ^ 40 ∧
        pairAt s.seqs[n].r (mwD w) + (gOf s.seqs[n].r (mwB w)).toNat ≤ 2 ^ 40) ∧
    (∃ (s : State) (n : Sq) (w : BitVec 26), Issues s n 0x32 w ∧ mw w 0 10 = 0 ∧ s.seqs[n].r.pc ≠ 0xFFFF ∧ portOf12 w = 2) ∧
    (∃ (s : State) (n : Sq) (w : BitVec 26), Issues s n 0x32 w ∧ mw w 0 10 = 0 ∧ s.seqs[n].r.pc ≠ 0xFFFF ∧ portOf12 w ≠ 2) ∧
    (∃ (s : State) (n : Sq) (w : BitVec 26), Issues s n 0x33 w ∧ mw w 0 10 = 0) ∧
    (∃ (s : State) (n : Sq) (w : BitVec 26), Issues s n 0x34 w ∧ mw w 0 10 = 0 ∧ s.seqs[n].r.pc ≠ 0xFFFF ∧ s.seqs[n].held.length < 16) :=
  ⟨⟨(wbSeq { } 2952790016), 0, 0, 0, by unfold Issues; decide +kernel, by decide +kernel, by decide +kernel, by decide +kernel⟩,
   ⟨(wbSeq { } 2952855553), 0, 65537, by unfold Issues; decide +kernel, by decide +kernel, by decide +kernel⟩,
   ⟨(wbSeq { } 3019898880), 0, 0, 0, by unfold Issues; decide +kernel, by decide +kernel, by decide +kernel, by decide +kernel,
       by decide +kernel⟩,
   ⟨{ wbSeq { } 3087007744 with dram := { wb.dram with regions := [wbReg] } }, 0, 0, 0, by unfold Issues; decide +kernel,
       by decide +kernel, by decide +kernel, by decide +kernel, by decide +kernel, by decide +kernel⟩,
   ⟨(wbSeq { } 3087073279), 0, 65535, by unfold Issues; decide +kernel, by decide +kernel, by decide +kernel, by decide +kernel⟩,
   ⟨(wbSeq { } 3154116608), 0, 0, 0, by unfold Issues; decide +kernel, by decide +kernel, by decide +kernel, by decide +kernel,
       by decide +kernel, by decide +kernel⟩,
   ⟨(wbSeq { } 3221225472), 0, 0, by unfold Issues; decide +kernel, by decide +kernel, by decide +kernel, by decide +kernel⟩,
   ⟨(wbSeq { } 3288334336), 0, 0, by unfold Issues; decide +kernel, by decide +kernel, by decide +kernel, by decide +kernel,
       by decide +kernel, by decide +kernel, by decide +kernel, by decide +kernel, by decide +kernel, by decide +kernel,
       by decide +kernel⟩,
   ⟨(wbSeq { } 3355445248), 0, 2048, by unfold Issues; decide +kernel, by decide +kernel, by decide +kernel, by decide +kernel⟩,
   ⟨(wbSeq { } 3355443200), 0, 0, by unfold Issues; decide +kernel, by decide +kernel, by decide +kernel, by decide +kernel⟩,
   ⟨(wbSeq { } 3422552064), 0, 0, by unfold Issues; decide +kernel, by decide +kernel⟩,
   ⟨(wbSeq { } 3489660928), 0, 0, by unfold Issues; decide +kernel, by decide +kernel, by decide +kernel, by decide +kernel⟩⟩

/-- Inputs that meet the hypotheses of each clause of `SeqControlComplete`, in their order. -/
theorem test_SeqControlComplete_met :
    (∃ (s : State) (n : Sq), Issues s n 0x00 0 ∧ s.seqs[n].r.pc ≠ 0xFFFF) ∧
    (∃ (s : State) (n : Sq) (w : BitVec 26) (s1 : State), Issues s n 0x01 w ∧ mw w 24 2 ≠ 3 ∧ mw w 16 8 = 0 ∧
        advanceTo (release (ticked s n) n) n id = s1 ∧ s1.seqs[n].st = .run ∧ (restart s1 n).seqs[n].st = .run) ∧
    (∃ (s : State) (n : Sq) (s1 : State), Issues s n 0x02 0 ∧ advanceTo (release (ticked s n) n) n id = s1 ∧ s1.seqs[n].st = .run) ∧
    (∃ (s : State) (n : Sq) (s1 : State), Issues s n 0x03 0 ∧ advanceTo (release (ticked s n) n) n id = s1 ∧ s1.seqs[n].st = .run ∧
        (restart s1 n).seqs[n].st = .run) ∧
    (∃ (s : State) (n : Sq) (w : BitVec 26), Issues s n 0x04 w) ∧
    (∃ (s : State) (n : Sq) (w : BitVec 26), Issues s n 0x05 w ∧ (mwD w).val % 4 = 0 ∧ mw w 0 22 = 0 ∧ s.seqs[n].held = [] ∧
        s.seqs[n].netErr = false ∧ s.seqs[n].r.pc ≠ 0xFFFF ∧ s.seqs[n].queue = []) ∧
    (∃ (s : State) (n : Sq) (w : BitVec 26) (o : Order) (os : List Order), Issues s n 0x05 w ∧ (mwD w).val % 4 = 0 ∧ mw w 0 22 = 0 ∧
        s.seqs[n].held = [] ∧ s.seqs[n].netErr = false ∧ s.seqs[n].r.pc ≠ 0xFFFF ∧ s.seqs[n].queue = o :: os) ∧
    (∃ (s : State) (n : Sq) (w : BitVec 26), Issues s n 0x06 w ∧ mw w 0 22 = 0 ∧
        (bankWord (seqBank s s.seqs[n]) ((gOf s.seqs[n].r (mwD w)).toNat % 2048)).toNat / 65536 = 0) ∧
    (∃ (s : State) (n : Sq) (w : BitVec 26), Issues s n 0x07 w ∧ mw w 0 14 = 0 ∧ s.seqs[n].r.pc ≠ 0xFFFF ∧ s.seqs[n].held.length < 16) ∧
    (∃ (s : State) (n : Sq) (w : BitVec 26), Issues s n 0x08 w ∧ mw w 0 14 = 0 ∧ (mwA w).val ≠ 15 ∧ s.seqs[n].r.pc ≠ 0xFFFF ∧
        s.seqs[n].held.length < 16) ∧
    (∃ (s : State) (n : Sq), Issues s n 0x09 0) :=
  ⟨⟨(wbSeq { } 0), 0, by unfold Issues; decide +kernel, by decide +kernel⟩,
   ⟨(wbSeq { } 67108864), 0, 0, _, by unfold Issues; decide +kernel, by decide +kernel, by decide +kernel, rfl, by decide +kernel,
       by decide +kernel⟩,
   ⟨(wbSeq { } 134217728), 0, _, by unfold Issues; decide +kernel, rfl, by decide +kernel⟩,
   ⟨(wbSeq { } 201326592), 0, _, by unfold Issues; decide +kernel, rfl, by decide +kernel, by decide +kernel⟩,
   ⟨(wbSeq { } 268435456), 0, 0, by unfold Issues; decide +kernel⟩,
   ⟨(wbSeq { } 335544320), 0, 0, by unfold Issues; decide +kernel, by decide +kernel, by decide +kernel, by decide +kernel,
       by decide +kernel, by decide +kernel, by decide +kernel⟩,
   ⟨(wbSeq { queue := [{ }] } 335544320), 0, 0, { }, [], by unfold Issues; decide +kernel, by decide +kernel, by decide +kernel,
       by decide +kernel, by decide +kernel, by decide +kernel, by decide +kernel⟩,
   ⟨(wbSeq { r := { g := Vector.replicate 16 1 } } 402653184), 0, 0, by unfold Issues; decide +kernel, by decide +kernel,
       by decide +kernel⟩,
   ⟨(wbSeq { } 469762048), 0, 0, by unfold Issues; decide +kernel, by decide +kernel, by decide +kernel, by decide +kernel⟩,
   ⟨(wbSeq { } 536870912), 0, 0, by unfold Issues; decide +kernel, by decide +kernel, by decide +kernel, by decide +kernel,
       by decide +kernel⟩,
   ⟨(wbSeq { } 603979776), 0, by unfold Issues; decide +kernel⟩⟩

/-- Inputs that meet the hypotheses of each clause of `SeqBranchesComplete`, in their order. -/
theorem test_SeqBranchesComplete_met :
    (∃ (s : State) (n : Sq) (w : BitVec 26), Issues s n 0x38 w ∧ mw w 16 2 = 0 ∧ condHolds s.seqs[n] (mw w 22 4) = true) ∧
    (∃ (s : State) (n : Sq) (w : BitVec 26) (x : Instr × Nat), (x ∈ [(Instr.br n w, 0x38), (.call n w, 0x39), (.ret n w, 0x3a),
        (.bri n w, 0x3b)]) ∧ Issues s n x.2 w ∧ mw w 16 2 = 0 ∧ condHolds s.seqs[n] (mw w 22 4) = false ∧ s.seqs[n].r.pc ≠ 0xFFFF) ∧
    (∃ (s : State) (n : Sq) (w : BitVec 26), Issues s n 0x39 w ∧ mw w 16 2 = 0 ∧ condHolds s.seqs[n] (mw w 22 4) = true ∧
        s.seqs[n].r.stack.length < 8) ∧
    (∃ (s : State) (n : Sq) (w : BitVec 26), Issues s n 0x39 w ∧ mw w 16 2 = 0 ∧ condHolds s.seqs[n] (mw w 22 4) = true ∧
        8 ≤ s.seqs[n].r.stack.length) ∧
    (∃ (s : State) (n : Sq) (w : BitVec 26) (a : BitVec 16) (as : List (BitVec 16)), Issues s n 0x3a w ∧ mw w 16 2 = 0 ∧
        condHolds s.seqs[n] (mw w 22 4) = true ∧ s.seqs[n].r.stack = a :: as) ∧
    (∃ (s : State) (n : Sq) (w : BitVec 26), Issues s n 0x3a w ∧ mw w 16 2 = 0 ∧ condHolds s.seqs[n] (mw w 22 4) = true ∧
        s.seqs[n].r.stack = []) ∧
    (∃ (s : State) (n : Sq) (w : BitVec 26), Issues s n 0x3b w ∧ mw w 16 2 = 0 ∧ condHolds s.seqs[n] (mw w 22 4) = true) ∧
    (∃ (s : State) (n : Sq) (w : BitVec 26), Issues s n 0x3c w ∧ mw w 16 2 = 0 ∧ mw w 22 4 = 0 ∧ gOf s.seqs[n].r (mwA w) ≠ 1) ∧
    (∃ (s : State) (n : Sq) (w : BitVec 26), Issues s n 0x3c w ∧ mw w 16 2 = 0 ∧ mw w 22 4 = 0 ∧ gOf s.seqs[n].r (mwA w) = 1 ∧
        s.seqs[n].r.pc ≠ 0xFFFF) :=
  ⟨⟨(wbSeq { } 3758096384), 0, 0, by unfold Issues; decide +kernel, by decide +kernel, by decide +kernel⟩,
   ⟨(wbSeq { } 3762290688), 0, 4194304, (.br 0 (4194304), 0x38), List.mem_cons_self, by unfold Issues; decide +kernel, by decide +kernel,
       by decide +kernel, by decide +kernel⟩,
   ⟨(wbSeq { } 3825205248), 0, 0, by unfold Issues; decide +kernel, by decide +kernel, by decide +kernel, by decide +kernel⟩,
   ⟨(wbSeq { r := { stack := List.replicate 8 0 } } 3825205248), 0, 0, by unfold Issues; decide +kernel, by decide +kernel,
       by decide +kernel, by decide +kernel⟩,
   ⟨(wbSeq { r := { stack := [0] } } 3892314112), 0, 0, 0, [], by unfold Issues; decide +kernel, by decide +kernel, by decide +kernel,
       by decide +kernel⟩,
   ⟨(wbSeq { } 3892314112), 0, 0, by unfold Issues; decide +kernel, by decide +kernel, by decide +kernel, by decide +kernel⟩,
   ⟨(wbSeq { } 3959422976), 0, 0, by unfold Issues; decide +kernel, by decide +kernel, by decide +kernel⟩,
   ⟨(wbSeq { } 4026531840), 0, 0, by unfold Issues; decide +kernel, by decide +kernel, by decide +kernel, by decide +kernel⟩,
   ⟨(wbSeq { r := { g := Vector.replicate 16 1 } } 4026531840), 0, 0, by unfold Issues; decide +kernel, by decide +kernel,
       by decide +kernel, by decide +kernel, by decide +kernel⟩⟩

/-- Inputs that meet the hypotheses of each clause of `SeqEventsComplete`, in their order. -/
theorem test_SeqEventsComplete_met :
    (∃ (s : State) (n : Sq), powered s = true ∧ s.seqs[n].st ≠ .off ∧ s.fw.slip ≠ .paused ∧ s.seqs[n].queue.length < 32) ∧
    (∃ (s : State) (n : Sq), powered s = true ∧ s.seqs[n].st ≠ .off ∧ s.fw.slip ≠ .paused ∧ 32 ≤ s.seqs[n].queue.length) ∧
    (∃ (s : State) (n : Sq) (k : Fin 16), powered s = true ∧ (k.val = 3 ∨ (roleLines n.val).contains k.val = true)) ∧
    (∃ (s : State) (n : Sq) (t : Nat), powered s = true ∧ s.seqs[n].timer = some t ∧ passedNs s s.seqs[n].timerUs (t * 1000) = true) ∧
    (∃ (s : State) (n : Sq), powered s = true ∧ s.seqs[n].st = .run) ∧
    (∃ (s : State) (n : Sq) (src : Nat) (dst : Nat) (len : Nat) (ms : List (Nat × Nat × Nat)), powered s = true ∧
        (s.seqs[n].moves = (src, dst, len) :: ms)) ∧
    (∃ (s : State) (digest : List Byte), live s = true ∧ s.bw.started = false ∧ s.sec.life = .field ∧
        s.seqDev.banks[(0 : Fin 2)].locked = true ∧ bankFree s false = false ∧ digest ≠ s.seqDev.banks[(0 : Fin 2)].digest ∧
        s.seqDev.auditOpen.contains 0 = false ∧ bankFree s true = false ∧
        passedNs s s.seqDev.auditUs[(0 : Fin 2)] (s.seqDev.storeAudit * 1000000) = true) :=
  ⟨⟨(fun z : State => { z with seqs := vupd z.seqs 0 fun y => { y with st := .run } }) (wb), 0, by decide +kernel, by decide +kernel,
      by decide +kernel, by decide +kernel⟩,
   ⟨{ wb with seqs := vupd wb.seqs 0 fun q => { q with st := .run, queue := List.replicate 32 { } } }, 0, by decide +kernel,
       by decide +kernel, by decide +kernel, by decide +kernel⟩,
   ⟨wb, 0, 3, by decide +kernel, by decide +kernel⟩,
   ⟨(fun z : State => { z with seqs := vupd z.seqs 0 fun y => { y with timer := some 0 } }) (wb), 0, 0, by decide +kernel,
       by decide +kernel, by decide +kernel⟩,
   ⟨(fun z : State => { z with seqs := vupd z.seqs 0 fun y => { y with st := .run } }) (wb), 0, by decide +kernel, by decide +kernel⟩,
   ⟨(fun z : State => { z with seqs := vupd z.seqs 0 fun y => { y with moves := (0, 0, 0) :: ([]) } }) (wb), 0, 0, 0, 0, [],
       by decide +kernel, by decide +kernel⟩,
   ⟨(fun z : State => { z with seqs := vupd z.seqs 1 fun y => { y with bankB := true } }) ((fun z : State => { z with seqs := vupd z.seqs 1 fun y => { y with st := .run } }) ((fun z : State => { z with seqs := vupd z.seqs 0 fun y => { y with st := .run } }) ((fun z : State => { z with us := 10000000 }) ((fun z : State => { z with sec.life := .field }) ((fun z : State => { z with seqDev.banks := vupd z.seqDev.banks (0 : Fin 2) fun y => { y with locked := true } }) ((fun z : State => { z with sec.life := .field }) ((fun z : State => { z with bw.started := false }) (wb)))))))),
       [1], by decide +kernel, by decide +kernel, by decide +kernel, by decide +kernel, by decide +kernel, by decide +kernel,
       by decide +kernel, by decide +kernel, by decide +kernel⟩⟩

/-- Inputs that meet the hypotheses of each clause of `SeqMessagesComplete`, in their order. -/
theorem test_SeqMessagesComplete_met :
    (∃ (s : State) (r : Req) (bank : Nat) (unsigned : Nat) (imgOfs : Nat) (imgLen : Nat) (sigOfs : Nat) (sigLen : Nat), bank ≤ 1 ∧
        unsigned ≤ 1 ∧ imgOfs + imgLen ≤ 33554432 ∧ sigOfs + sigLen ≤ 33554432 ∧ s.fw.slip = .idle ∧ s.seqDev.job = none ∧
        bankFree s (decide (bank = 1)) = true ∧
        (Admitted s r { opc := 0x0A01, need := if unsigned = 1 then .fa else .cf, long := true })) ∧
    (∃ (s : State) (r : Req) (unsigned : Nat) (imgOfs : Nat) (imgLen : Nat) (sigOfs : Nat) (sigLen : Nat) (b : Fin 2), unsigned ≤ 1 ∧
        imgOfs + imgLen ≤ 33554432 ∧ sigOfs + sigLen ≤ 33554432 ∧ bankFree s (decide (b.val = 1)) = false ∧
        (Admitted s r { opc := 0x0A01, need := if unsigned = 1 then .fa else .cf, long := true })) ∧
    (∃ (s : State) (r : Req) (mask : BitVec 32) (ns : List Sq), ((allSeqs.filter fun n => mask.getLsbD n.val && maySwap s n) = ns) ∧
        ns ≠ [] ∧ s.fw.slip = .idle ∧ s.seqDev.swap = none ∧ s.seqDev.swapRefused = false ∧
        (Admitted s r { opc := 0x0A02, long := true })) ∧
    (∃ (s : State) (r : Req) (n : Sq), s.seqs[n].st = .halted ∧ Admitted s r { opc := 0x090D }) ∧
    (∃ (s : State) (r : Req) (n : Sq), s.seqs[n].st ≠ .halted ∧ Admitted s r { opc := 0x090D }) ∧
    (∃ (s : State) (r : Req) (ps : Params) (d : SeqDev), ((s.sec.life ≠ .field ∨ asksFa seqPars ps = false)) ∧
        (applyPars seqPars (fun _ => []) ps s.seqDev = .ok d) ∧
        (Admitted s r { opc := 0x090E, need := needOf seqPars ps, setter := true })) :=
  ⟨⟨(fun z : State => { z with seqDev.job := none }) ((fun z : State => { z with fw.slip := .idle }) (wb)), {}, 0, 0, 0, 0, 0, 0,
      by decide +kernel, by decide +kernel, by decide +kernel, by decide +kernel, by decide +kernel, by decide +kernel,
      by decide +kernel, by unfold Admitted; decide +kernel⟩,
   ⟨(fun z : State => { z with seqs := vupd z.seqs 0 fun y => { y with st := .run } }) (wb), {}, 0, 0, 0, 0, 0, 0, by decide +kernel,
       by decide +kernel, by decide +kernel, by decide +kernel, by unfold Admitted; decide +kernel⟩,
   ⟨(fun z : State => { z with seqDev.banks := vupd z.seqDev.banks 1 fun y => { y with roles := 1 } }) ((fun z : State => { z with seqDev.banks := vupd z.seqDev.banks 1 fun y => { y with valid := true } }) ((fun z : State => { z with seqs := vupd z.seqs 0 fun y => { y with st := .run } }) ((fun z : State => { z with seqDev.swapRefused := false }) ((fun z : State => { z with seqDev.swap := none }) ((fun z : State => { z with fw.slip := .idle }) (wb)))))),
       {}, 1, [0], by decide +kernel, by decide +kernel, by decide +kernel, by decide +kernel, by decide +kernel,
       by unfold Admitted; decide +kernel⟩,
   ⟨(fun z : State => { z with seqs := vupd z.seqs 0 fun y => { y with st := .halted } }) (wb), {}, 0, by decide +kernel,
       by unfold Admitted; decide +kernel⟩,
   ⟨wb, {}, 0, by decide +kernel, by unfold Admitted; decide +kernel⟩,
   ⟨wb, {}, [], _, by decide +kernel, ok_spec (by decide +kernel), by unfold Admitted; decide +kernel⟩⟩

/-- Inputs that meet the hypotheses of each clause of `SeqFaultsFirst`, in their order. -/
theorem test_SeqFaultsFirst_met :
    (∃ (s : State) (n : Sq), powered s = true ∧ s.seqs[n].st = .run ∧ 512 ≤ s.seqs[n].ops ∧
        (bankWord (seqBank s s.seqs[n]) s.seqs[n].r.pc.toNat).toNat / 2 ^ 26 ≠ 1) ∧
    (∃ (s : State) (n : Sq) (w : BitVec 26), powered s = true ∧ s.seqs[n].st = .run ∧ s.seqs[n].ops < 512 ∧
        parityBad (seqBank s s.seqs[n]) (bankWord (seqBank s s.seqs[n]) s.seqs[n].r.pc.toNat) (BitVec.ofNat 32 w.toNat) = true) ∧
    (∃ (s : State) (n : Sq), powered s = true ∧ s.seqs[n].st = .run ∧ s.seqs[n].ops < 512 ∧ (seqBank s s.seqs[n]).locked = true ∧
        reservedOp ((bankWord (seqBank s s.seqs[n]) s.seqs[n].r.pc.toNat).toNat / 2 ^ 26) = true) ∧
    (∃ (s : State) (n : Sq) (w : BitVec 26), Issues s n 0x10 w ∧ mw w 0 14 ≠ 0) :=
  ⟨⟨(wbSeq { ops := 512 } 0), 0, by decide +kernel, by decide +kernel, by decide +kernel, by decide +kernel⟩,
   ⟨(wbSeq { } 1073741824), 0, 0, by decide +kernel, by decide +kernel, by decide +kernel, by decide +kernel⟩,
   ⟨{ wbSeq { } 4093640704 with seqDev := { wb.seqDev with banks := vupd wb.seqDev.banks 0 fun b => { b with locked := true, words := [(0, BitVec.ofNat 32 4093640704)] } } },
       0, by decide +kernel, by decide +kernel, by decide +kernel, by decide +kernel, by decide +kernel⟩,
   ⟨(wbSeq { } 1073741825), 0, 1, by unfold Issues; decide +kernel, by decide +kernel⟩⟩

/-- Inputs that meet the hypotheses of each clause of `DramAccessesComplete`, in their order. -/
theorem test_DramAccessesComplete_met :
    (∃ (s : State) (line : Nat) (x : ReadResult) (me : DReq) (others : List DReq) (v : State), powered s = true ∧
        (regionOf s line).isSome = true ∧ granted s me others = true ∧ request (portServed s me.port) (chanOf line) = v ∧
        mergeAt s line = none ∧ foundIn (lineAt s line) x = .clean) ∧
    (∃ (s : State) (line : Nat) (x : ReadResult) (me : DReq) (others : List DReq), powered s = true ∧ (regionOf s line).isSome = true ∧
        granted s me others = true ∧ mergeAt s line = none ∧ foundIn (lineAt s line) x = .corrected ∧ smSorted s.dram.lines = true) ∧
    (∃ (s : State) (line : Nat) (x : ReadResult) (b : List Byte) (g : BitVec 64 × Nat) (me : DReq) (others : List DReq) (v : State),
        powered s = true ∧ regionOf s line = some g ∧ granted s me others = true ∧ request (portServed s me.port) (chanOf line) = v ∧
        mergeAt s line = none ∧ foundIn (lineAt s line) x = .uncorrectable b ∧ smSorted s.dram.lines = true) ∧
    (∃ (s : State) (line : Nat) (x : ReadResult) (e : MergeEnt) (me : DReq) (others : List DReq) (v : State), powered s = true ∧
        (regionOf s line).isSome = true ∧ granted s me others = true ∧ request (portServed s me.port) (chanOf line) = v ∧
        mergeAt s line = some e ∧ foundIn (lineAt s line) x = .clean ∧ smSorted s.dram.lines = true ∧
        ((s.dram.inject.find? fun i => i.1 = line) = none)) ∧
    (∃ (s : State) (line : Nat) (x : ReadResult) (me : DReq) (others : List DReq) (v : State), powered s = true ∧
        (regionOf s line).isSome = true ∧ granted s me others = true ∧ request (portServed s me.port) (chanOf line) = v ∧
        mergeAt s line = none ∧ foundIn (lineAt s line) x = .clean ∧ (lineAt s line).poison ≠ .clean) ∧
    (∃ (s : State) (line : Nat), regionOf s line = none) ∧
    (∃ (s : State) (line : Nat) (me : DReq) (others : List DReq), (regionOf s line).isSome = true ∧ granted s me others = false) ∧
    (∃ (s : State) (line : Nat) (me : DReq) (others : List DReq) (v : State), powered s = true ∧ (regionOf s line).isSome = true ∧
        granted s me others = true ∧ request (portServed s me.port) (chanOf line) = v ∧
        ((s.dram.inject.find? fun i => i.1 = line) = none)) ∧
    (∃ (s : State), smSorted s.dram.lines = true) ∧
    (∃ (s : State) (addr : Nat) (bytes : List Byte) (v : State), powered s = true ∧ bytes.length ≤ 63 ∧ addr % 64 + bytes.length ≤ 64 ∧
        (regionOf s (addr / 64)).isSome = true ∧ request s (chanOf (addr / 64)) = v ∧ mergeAt s (addr / 64) = none ∧
        s.dram.merge.length < 64) ∧
    (∃ (s : State) (x : ReadResult) (e : MergeEnt) (v : State) (line : Nat), powered s = true ∧ mergeAt s line = some e ∧ e.line = line ∧
        passedNs s e.since s.dram.mergeT = true ∧ request s (chanOf line) = v ∧ foundIn (lineAt s line) x = .clean ∧
        ((s.dram.inject.find? fun i => i.1 = line) = none)) ∧
    (∃ (s : State) (x : ReadResult) (e : MergeEnt) (b : List Byte) (line : Nat), powered s = true ∧ mergeAt s line = some e ∧
        e.line = line ∧ passedNs s e.since s.dram.mergeT = true ∧ foundIn (lineAt s line) x = .uncorrectable b ∧
        ((s.dram.inject.find? fun i => i.1 = line) = none) ∧ smSorted s.dram.lines = true) ∧
    (∃ (s : State) (due : List (Fin 4)) (c : Fin 4) (line : Nat) (x : ReadResult), powered s = true ∧ s.dram.scrubStop = false ∧
        scrubClass s due = some c ∧ nthLine (classRegions s c) s.dram.scrub[c].ptr = some line ∧ (lineAt s line).poison = .clean ∧
        foundIn (lineAt s line) x = .clean ∧ s.dram.scrub[c].ptr + 1 < classLines s c) ∧
    (∃ (s : State) (due : List (Fin 4)) (c : Fin 4) (line : Nat), powered s = true ∧ s.dram.scrubStop = false ∧
        scrubClass s due = some c ∧ nthLine (classRegions s c) s.dram.scrub[c].ptr = some line ∧ (lineAt s line).poison ≠ .clean ∧
        s.dram.scrub[c].ptr + 1 < classLines s c) ∧
    (∃ (s : State) (due : List (Fin 4)) (c : Fin 4), scrubClass s due = some c) :=
  ⟨⟨(fun z : State => { z with dram.regions := [wbReg] }) (wb), 0, .clean, {}, [], _, by decide +kernel, by decide +kernel,
      by decide +kernel, rfl, by decide +kernel, by decide +kernel⟩,
   ⟨(fun z : State => { z with dram.regions := [wbReg] }) (wb), 0, .corrected, {}, [], by decide +kernel, by decide +kernel,
       by decide +kernel, by decide +kernel, by decide +kernel, by decide +kernel⟩,
   ⟨(fun z : State => { z with dram.regions := [wbReg] }) (wb), 0, (.uncorrectable []), [], (wbReg, 0), {}, [], _, by decide +kernel,
       by decide +kernel, by decide +kernel, rfl, by decide +kernel, by decide +kernel, by decide +kernel⟩,
   ⟨(fun z : State => { z with dram.merge := [{ line := 0, bytes := [(0, 1)] }] }) ((fun z : State => { z with dram.regions := [wbReg] }) (wb)),
       0, .clean, { line := 0, bytes := [(0, 1)] }, {}, [], _, by decide +kernel, by decide +kernel, by decide +kernel, rfl,
       by decide +kernel, by decide +kernel, by decide +kernel, by decide +kernel⟩,
   ⟨(fun z : State => { z with dram.lines := [(0, { poison := .detected })] }) ((fun z : State => { z with dram.regions := [wbReg] })
       (wb)), 0, .clean, {}, [], _, by decide +kernel, by decide +kernel, by decide +kernel, rfl, by decide +kernel, by decide +kernel,
       by decide +kernel⟩,
   ⟨wb, 0, by decide +kernel⟩,
   ⟨(fun z : State => { z with dram.regions := [wbReg] }) (wb), 0, { port := 15 }, [{ port := 14, cls := some 0, wait := 1000000000 }],
       by decide +kernel, by decide +kernel⟩,
   ⟨(fun z : State => { z with dram.regions := [wbReg] }) (wb), 0, {}, [], _, by decide +kernel, by decide +kernel, by decide +kernel,
       rfl, by decide +kernel⟩,
   ⟨wb, by decide +kernel⟩,
   ⟨(fun z : State => { z with dram.regions := [wbReg] }) (wb), 0, [], _, by decide +kernel, by decide +kernel, by decide +kernel,
       by decide +kernel, rfl, by decide +kernel, by decide +kernel⟩,
   ⟨(fun z : State => { z with us := 1000000000 }) ((fun z : State => { z with dram.merge := [{ line := 0, bytes := [(0, 1)] }] }) ((fun z : State => { z with dram.regions := [wbReg] }) (wb))),
       .clean, { line := 0, bytes := [(0, 1)] }, _, _, by decide +kernel, by decide +kernel, rfl, by decide +kernel, rfl,
       by decide +kernel, by decide +kernel⟩,
   ⟨(fun z : State => { z with us := 1000000000 }) ((fun z : State => { z with dram.merge := [{ line := 0, bytes := [(0, 1)] }] }) ((fun z : State => { z with dram.regions := [wbReg] }) (wb))),
       (.uncorrectable []), { line := 0, bytes := [(0, 1)] }, [], _, by decide +kernel, by decide +kernel, rfl, by decide +kernel,
       by decide +kernel, by decide +kernel, by decide +kernel⟩,
   ⟨(fun z : State => { z with us := 1000000000 }) ((fun z : State => { z with dram.regions := [wbReg] }) ((fun z : State => { z with dram.scrubStop := false }) (wb))),
       [0], 0, 0, .clean, by decide +kernel, by decide +kernel, by decide +kernel, by decide +kernel, by decide +kernel,
       by decide +kernel, by decide +kernel⟩,
   ⟨(fun z : State => { z with dram.lines := [(0, { poison := .detected })] }) ((fun z : State => { z with us := 1000000000 }) ((fun z : State => { z with dram.regions := [wbReg] }) ((fun z : State => { z with dram.scrubStop := false }) (wb)))),
       [0], 0, 0, by decide +kernel, by decide +kernel, by decide +kernel, by decide +kernel, by decide +kernel, by decide +kernel⟩,
   ⟨(fun z : State => { z with us := 1000000000 }) ((fun z : State => { z with dram.regions := [wbReg] }) (wb)), [0], 0,
       by decide +kernel⟩⟩

/-- Inputs that meet the hypotheses of each clause of `DramUpkeepAndMessagesComplete`, in their order. -/
theorem test_DramUpkeepAndMessagesComplete_met :
    (∃ (s : State) (ch : Fin 2), powered s = true ∧ s.dram.chans[ch].sr ≠ 2) ∧
    (∃ (s : State) (t0 : Int) (t1 : Int), powered s = true ∧ t0 ≤ 85 ∧ t1 ≤ 85 ∧ 3 ≤ s.dram.chans[(0 : Fin 2)].hotLow ∧
        3 ≤ s.dram.chans[(1 : Fin 2)].hotLow) ∧
    (∃ (s : State) (t0 : Int) (t1 : Int), powered s = true ∧ 85 < t0 ∧ t0 ≤ 95 ∧ t1 ≤ 95) ∧
    (∃ (s : State) (t0 : Int), powered s = true ∧ 95 < t0) ∧
    (∃ (s : State) (ch : Fin 2), live s = true ∧ s.bw.started = false ∧ s.dram.srEnable = true ∧ standby s = true ∧
        s.dram.chans[ch].lastReq + s.dram.srIdle ≤ s.us) ∧
    (∃ (s : State), powered s = true) ∧
    (∃ (s : State), powered s = true) ∧
    (∃ (s : State) (ch : Fin 2), powered s = true ∧ s.dram.scrubStop = false ∧ s.dram.chans[ch].sr = 0 ∧ retrainDue s ch = true) ∧
    (∃ (s : State) (r : Req), (Admitted s r { opc := 0x090A, need := .rd })) ∧
    (∃ (s : State) (r : Req), s.dram.regions.length = 16 ∧ (Admitted s r { opc := 0x0909, need := .rd })) ∧
    (∃ (s : State) (r : Req) (ps : Params) (d : Dram), (applyPars scrubPars (fun _ => []) ps s.dram = .ok d) ∧
        (Admitted s r { opc := 0x0106, setter := true })) ∧
    (∃ (s : State) (r : Req) (p : Fin 16) (ps : Params) (d : Dram), (applyPars (portPars p) (fun _ => []) ps s.dram = .ok d) ∧
        (Admitted s r { opc := 0x0107, setter := true })) ∧
    (∃ (s : State) (r : Req) (p : Fin 16), p.val < 4 ∧ (Admitted s r { opc := 0x0107, setter := true })) ∧
    (∃ (s : State) (r : Req) (ps : Params) (d : Dram), (applyPars trainPars (fun _ => []) ps s.dram = .ok d) ∧
        (Admitted s r { opc := 0x0108, setter := true })) ∧
    (∃ (s : State) (r : Req) (ps : Params) (d : Dram), (applyPars drcPowerPars (fun _ => []) ps s.dram = .ok d) ∧
        (Admitted s r { opc := 0x0B03, setter := true })) ∧
    (∃ (s : State) (r : Req) (line : Nat) (g : BitVec 64 × Nat), regionOf s line = some g ∧ regClass g.1 ≠ 3 ∧
        (Admitted s r { opc := 0x090B, need := .db 3 })) ∧
    (∃ (s : State) (r : Req) (line : Nat) (g : BitVec 64 × Nat), regionOf s line = some g ∧ regClass g.1 = 3 ∧
        (Admitted s r { opc := 0x090B, need := .db 3 })) :=
  ⟨⟨wb, 0, by decide +kernel, by decide +kernel⟩,
   ⟨(fun z : State => { z with dram.chans := vupd z.dram.chans (1 : Fin 2) fun y => { y with hotLow := 3 } }) ((fun z : State => { z with dram.chans := vupd z.dram.chans (0 : Fin 2) fun y => { y with hotLow := 3 } }) (wb)),
       0, 0, by decide +kernel, by decide +kernel, by decide +kernel, by decide +kernel, by decide +kernel⟩,
   ⟨wb, 90, 0, by decide +kernel, by decide +kernel, by decide +kernel, by decide +kernel⟩,
   ⟨wb, 96, by decide +kernel, by decide +kernel⟩,
   ⟨(fun z : State => { z with us := 1000000000 }) ((fun z : State => { z with dram.srEnable := true }) ((fun z : State => { z with bw.started := false }) (wb))),
       0, by decide +kernel, by decide +kernel, by decide +kernel, by decide +kernel, by decide +kernel⟩,
   ⟨wb, by decide +kernel⟩,
   ⟨wb, by decide +kernel⟩,
   ⟨(fun z : State => { z with us := 100000000000 }) ((fun z : State => { z with dram.chans := vupd z.dram.chans 0 fun y => { y with sr := 0 } }) ((fun z : State => { z with dram.scrubStop := false }) (wb))),
       0, by decide +kernel, by decide +kernel, by decide +kernel, by decide +kernel⟩,
   ⟨wb, {}, by unfold Admitted; decide +kernel⟩,
   ⟨{ wb with dram := { wb.dram with regions := List.replicate 16 0 } }, {}, by decide +kernel, by unfold Admitted; decide +kernel⟩,
   ⟨wb, {}, [], _, ok_spec (by decide +kernel), by unfold Admitted; decide +kernel⟩,
   ⟨wb, {}, 0, [], _, ok_spec (by decide +kernel), by unfold Admitted; decide +kernel⟩,
   ⟨wb, {}, 0, by decide +kernel, by unfold Admitted; decide +kernel⟩,
   ⟨wb, {}, [], _, ok_spec (by decide +kernel), by unfold Admitted; decide +kernel⟩,
   ⟨wb, {}, [], _, ok_spec (by decide +kernel), by unfold Admitted; decide +kernel⟩,
   ⟨(fun z : State => { z with dram.regions := [wbReg] }) (wb), {}, 0, (wbReg, 0), by decide +kernel, by decide +kernel,
       by unfold Admitted; decide +kernel⟩,
   ⟨(fun z : State => { z with dram.regions := [(7#64 <<< 61)] }) (wb), {}, 0, ((7#64 <<< 61), 0), by decide +kernel, by decide +kernel,
       by unfold Admitted; decide +kernel⟩⟩

/-- Inputs that meet the hypotheses of each clause of `SecurityComplete`, in their order. -/
theorem test_SecurityComplete_met :
    (∃ (s : State) (r : Req), s.mbx[r.mb].lockout = false ∧ s.sec.springFailed = false ∧ (Admitted s r { opc := 0x0C01, need := .rd })) ∧
    (∃ (s : State) (r : Req), s.mbx[r.mb].lockout = true ∧ (Admitted s r { opc := 0x0C01, need := .rd })) ∧
    (∃ (s : State) (r : Req), s.mbx[r.mb].lockout = false ∧ s.sec.springFailed = true ∧ (Admitted s r { opc := 0x0C01, need := .rd })) ∧
    (∃ (s : State) (r : Req) (ofs : Nat) (len : Nat) (nonce : List Byte) (fs : List Nat), ofs + len ≤ 33554432 ∧
        s.mbx[r.mb].nonce = some nonce ∧ s.us :: recent s.us 3600000000 s.mbx[r.mb].authFails = fs ∧
        (Admitted s r { opc := 0x0C02, need := .rd })) ∧
    (∃ (s : State) (r : Req) (ofs : Nat) (len : Nat) (fs : List Nat), ofs + len ≤ 33554432 ∧ s.mbx[r.mb].nonce = none ∧
        s.us :: recent s.us 3600000000 s.mbx[r.mb].authFails = fs ∧ (Admitted s r { opc := 0x0C02, need := .rd })) ∧
    (∃ (s : State) (r : Req) (target : Nat) (need : List Nat), lcRoles s target = some need ∧ s.sec.lcChange = none ∧
        s.sec.lcResetDue = false ∧ (∀ k ∈ need, s.mbx[r.mb].armedRoles / 2 ^ k % 2 = 1) ∧ s.sec.springFailed = false ∧
        (Admitted s r { opc := 0x0C03, need := .sg, writesNor := true, long := true, body := leBytes 1 target })) ∧
    (∃ (s : State), s.sec.lcResetDue = true) ∧
    (∃ (s : State) (r : Req) (scope : BitVec 32), scope.toNat < 32 ∧ s.sec.life = .field ∧
        (Admitted s r { opc := 0x0C04, need := .sg, body := leBytes 4 scope.toNat })) ∧
    (∃ (s : State) (r : Req) (ofs : Nat) (len : Nat), len ≤ 2016 ∧ s.sec.chainOk = true ∧ ofs < s.nv.certChain.length ∧
        (Admitted s r { opc := 0x0C05, need := .rd })) ∧
    (∃ (s : State) (r : Req) (ofs : Nat) (len : Nat), len ≤ 2016 ∧ s.sec.chainOk = false ∧ s.nv.csr ≠ [] ∧ ofs < s.nv.csr.length ∧
        (Admitted s r { opc := 0x0C05, need := .rd })) ∧
    (∃ (s : State) (r : Req), s.sec.life ≠ .blank ∧ (Admitted s r { opc := 0x0C06, need := .rd, long := true })) ∧
    (∃ (s : State), canCertify s = true ∧ s.sec.sess = none) ∧
    (∃ (s : State) (k : SessKey), canCertify s = true ∧ s.sec.sess = some k ∧ s.sec.successor = none ∧ 64512 ≤ k.qidx) ∧
    (∃ (s : State), powered s = true ∧ s.sec.treeReady = false ∧ s.nv.otp.iseed.isSome = true ∧ s.sec.identityLost = false) ∧
    (∃ (s : State), powered s = true ∧ s.sec.springFailed = false ∧ (recent s.us 60000000 s.sec.springFails).length < 2) ∧
    (∃ (s : State), powered s = true ∧ s.sec.springFailed = false ∧ 2 ≤ (recent s.us 60000000 s.sec.springFails).length) ∧
    (∃ (s : State) (r : Req), s.sec.springFailed = true ∧ (s.mbx[r.mb].waitOp = some (0x0C01, r.seq))) :=
  ⟨⟨(fun z : State => { z with sec.springFailed := false }) ((fun z : State => { z with mbx := vupd z.mbx (({ } : Req)).mb fun y => { y with lockout := false } }) (wb)),
      ({ } : Req), by decide +kernel, by decide +kernel, by unfold Admitted; decide +kernel⟩,
   ⟨(fun z : State => { z with mbx := vupd z.mbx (0 : Mb) fun y => { y with lockout := true } }) ((fun z : State => { z with mbx := vupd z.mbx (({ } : Req)).mb fun y => { y with lockout := true } }) (wb)),
       ({ } : Req), by decide +kernel, by unfold Admitted; decide +kernel⟩,
   ⟨(fun z : State => { z with sec.springFailed := true }) ((fun z : State => { z with sec.springFailed := true }) ((fun z : State => { z with mbx := vupd z.mbx (({ } : Req)).mb fun y => { y with lockout := false } }) (wb))),
       ({ } : Req), by decide +kernel, by decide +kernel, by unfold Admitted; decide +kernel⟩,
   ⟨(fun z : State => { z with mbx := vupd z.mbx (0 : Mb) fun y => { y with nonce := some [] } }) ((fun z : State => { z with mbx := vupd z.mbx (({ } : Req)).mb fun y => { y with nonce := some ([]) } }) (wb)),
       ({ } : Req), 0, 0, [], _, by decide +kernel, by decide +kernel, rfl, by unfold Admitted; decide +kernel⟩,
   ⟨(fun z : State => { z with mbx := vupd z.mbx (0 : Mb) fun y => { y with nonce := none } }) ((fun z : State => { z with mbx := vupd z.mbx (({ } : Req)).mb fun y => { y with nonce := none } }) (wb)),
       ({ } : Req), 0, 0, _, by decide +kernel, by decide +kernel, rfl, by unfold Admitted; decide +kernel⟩,
   ⟨(fun z : State => { z with mbx := vupd z.mbx (0 : Mb) fun y => { y with armed := some (0x0C03, Config.shake256 (leBytes 1 4)) } }) ((fun z : State => { z with mbx := vupd z.mbx (0 : Mb) fun y => { y with armedRoles := 1 } }) ((fun z : State => { z with sec.springFailed := false }) ((fun z : State => { z with sec.lcResetDue := false }) ((fun z : State => { z with sec.lcChange := none }) (wb))))),
       ({ } : Req), 4, [0], by decide +kernel, by decide +kernel, by decide +kernel, by decide +kernel, by decide +kernel,
       adm_sg (by decide +kernel) (beq_self_eq_true _) (by decide +kernel) rfl⟩,
   ⟨(fun z : State => { z with sec.lcResetDue := true }) (wb), by decide +kernel⟩,
   ⟨(fun z : State => { z with sec.life := .field }) ((fun z : State => { z with mbx := vupd z.mbx (0 : Mb) fun y => { y with armed := some (0x0C04, Config.shake256 (leBytes 4 0)) } }) ((fun z : State => { z with sec.life := .field }) (wb))),
       ({ } : Req), 0, by decide +kernel, by decide +kernel, adm_sg (by decide +kernel) (beq_self_eq_true _) (by decide +kernel) rfl⟩,
   ⟨(fun z : State => { z with nv.certChain := [0] }) ((fun z : State => { z with sec.chainOk := true }) ((fun z : State => { z with sec.chainOk := true }) (wb))),
       {}, 0, 0, by decide +kernel, by decide +kernel, by decide +kernel, by unfold Admitted; decide +kernel⟩,
   ⟨(fun z : State => { z with nv.csr := [0] }) ((fun z : State => { z with sec.chainOk := false }) ((fun z : State => { z with sec.chainOk := false }) (wb))),
       {}, 0, 0, by decide +kernel, by decide +kernel, by decide +kernel, by decide +kernel, by unfold Admitted; decide +kernel⟩,
   ⟨wb, {}, by decide +kernel, by unfold Admitted; decide +kernel⟩,
   ⟨(fun z : State => { z with sec.sess := none }) ((fun z : State => { z with sec.treeReady := true }) ((fun z : State => { z with nv.otp.iseed := some [] }) ((fun z : State => { z with sec.sess := none }) (wb)))),
       by decide +kernel, by decide +kernel⟩,
   ⟨(fun z : State => { z with sec.sess := some { qidx := 64512 } }) ((fun z : State => { z with sec.successor := none }) ((fun z : State => { z with sec.treeReady := true }) ((fun z : State => { z with nv.otp.iseed := some [] }) ((fun z : State => { z with sec.successor := none }) ((fun z : State => { z with sec.sess := some ({ qidx := 64512 }) }) (wb)))))),
       { qidx := 64512 }, by decide +kernel, by decide +kernel, by decide +kernel, by decide +kernel⟩,
   ⟨{ wb with sec := { wb.sec with treeReady := false }, nv := { wb.nv with otp := { wb.nv.otp with iseed := some [] } } },
       by decide +kernel, by decide +kernel, by decide +kernel, by decide +kernel⟩,
   ⟨(fun z : State => { z with sec.springFailed := false }) (wb), by decide +kernel, by decide +kernel, by decide +kernel⟩,
   ⟨(fun z : State => { z with sec.springFails := [0, 0] }) ((fun z : State => { z with sec.springFailed := false }) (wb)),
       by decide +kernel, by decide +kernel, by decide +kernel⟩,
   ⟨(fun z : State => { z with mbx := vupd z.mbx (0 : Mb) fun y => { y with waitOp := some (0x0C01, 0) } }) ((fun z : State => { z with sec.springFailed := true }) ((fun z : State => { z with mbx := vupd z.mbx (({ } : Req)).mb fun y => { y with waitOp := some (0x0C01, (({ } : Req)).seq) } }) ((fun z : State => { z with sec.springFailed := true }) (wb)))),
       ({ } : Req), by decide +kernel, by decide +kernel⟩⟩

/-- Inputs that meet the hypotheses of each clause of `OpalComplete`, in their order. -/
theorem test_OpalComplete_met :
    (∃ (s : State) (t : Tag) (r : TagRec), AdminReady s t r 0x81 ∧ r.cmd.dw10 / 2 ^ 24 % 256 = 1 ∧ s.bw.inhibit = false) ∧
    (∃ (s : State) (t : Tag) (r : TagRec), AdminReady s t r 0x81 ∧ r.cmd.dw10 / 2 ^ 24 % 256 ≠ 1) ∧
    (∃ (s : State) (t : Tag) (r : TagRec) (m : OpalMethod), AdminReady s t r 0x81 ∧ r.cmd.dw10 / 2 ^ 24 % 256 = 1 ∧ s.bw.inhibit = true ∧
        m ≠ .plain) ∧
    (∃ (s : State) (t : Tag) (r : TagRec), AdminReady s t r 0x82 ∧ r.cmd.dw10 / 2 ^ 24 % 256 = 1) ∧
    (∃ (s : State) (t : Tag) (r : TagRec), AdminReady s t r 0x82 ∧ r.cmd.dw10 / 2 ^ 24 % 256 ≠ 1) ∧
    (∃ (s : State) (auth : Nat) (nsid : Nat) (l : Lock), lockAt s nsid = some l ∧ l.unlockers.contains auth = true ∧
        opalAuthed s auth nsid = true) ∧
    (∃ (l : Lock), l.readLocked = true ∧ l.writeLocked = true) ∧
    (∃ (s : State) (auth : Nat), opalAdminOn s auth = false) ∧
    (∃ (s : State) (auth : Nat) (cred : List Byte), live s = true ∧ s.bw.started = false ∧ (s.nv.opalOwner.contains (auth,
        shake32 cred) = false)) ∧
    (∃ (s : State) (auth : Nat) (nsid : Nat) (cred : List Byte) (l : Lock), live s = true ∧ s.bw.started = false ∧
        (s.nv.opalOwner.contains (auth, shake32 cred) = true) ∧ lockAt s nsid = some l ∧ l.unlockers.contains auth = true) ∧
    (∃ (s : State) (n : Ns), nsAt s n.nsid = some n ∧ eraseReady s [n] = true) ∧
    (∃ (s : State), eraseReady s s.nv.namespaces = true) :=
  ⟨⟨(wbCmd wbNs (wbRec 0 { nsid := 1, opc := 129, dw10 := 16777216 })), 0, (wbRec 0 { nsid := 1, opc := 129, dw10 := 16777216 }),
      by unfold AdminReady; decide +kernel, by decide +kernel, by decide +kernel⟩,
   ⟨(wbCmd wbNs (wbRec 0 { nsid := 1, opc := 129 })), 0, (wbRec 0 { nsid := 1, opc := 129 }), by unfold AdminReady; decide +kernel,
       by decide +kernel⟩,
   ⟨(fun z : State => { z with bw.inhibit := true }) ((wbCmd wbNs (wbRec 0 { nsid := 1, opc := 129, dw10 := 16777216 }))), 0,
       (wbRec 0 { nsid := 1, opc := 129, dw10 := 16777216 }), (.setLock 1 0 true true), by unfold AdminReady; decide +kernel,
       by decide +kernel, by decide +kernel, by decide +kernel⟩,
   ⟨(wbCmd wbNs (wbRec 0 { nsid := 1, opc := 130, dw10 := 16777216 })), 0, (wbRec 0 { nsid := 1, opc := 130, dw10 := 16777216 }),
       by unfold AdminReady; decide +kernel, by decide +kernel⟩,
   ⟨(wbCmd wbNs (wbRec 0 { nsid := 1, opc := 130 })), 0, (wbRec 0 { nsid := 1, opc := 130 }), by unfold AdminReady; decide +kernel,
       by decide +kernel⟩,
   ⟨(fun z : State => { z with sec.opalSessions := [(1, 5)] }) ((fun z : State => { z with nv.locks := [{ nsid := 1, unlockers := [5] }] }) (wb)),
       5, 1, { nsid := 1, unlockers := [5] }, by decide +kernel, by decide +kernel, by decide +kernel⟩,
   ⟨{ readLocked := true, writeLocked := true }, by decide +kernel, by decide +kernel⟩,
   ⟨wb, 0, by decide +kernel⟩,
   ⟨(fun z : State => { z with bw.started := false }) (wb), 0, [], by decide +kernel, by decide +kernel, by decide +kernel⟩,
   ⟨(fun z : State => { z with nv.opalOwner := [(5, shake32 [])] }) ((fun z : State => { z with nv.locks := [{ nsid := 1, unlockers := [5] }] }) ((fun z : State => { z with bw.started := false }) (wb))),
       5, 1, [], { nsid := 1, unlockers := [5] }, by decide +kernel, by decide +kernel,
       List.contains_iff_mem.mpr (List.mem_singleton.mpr rfl), by decide +kernel, by decide +kernel⟩,
   ⟨(wbSas wbNs), wbNs, by decide +kernel, by decide +kernel⟩,
   ⟨wb, by decide +kernel⟩⟩

/-- Inputs that meet the hypotheses of each clause of `FirmwareComplete`, in their order. -/
theorem test_FirmwareComplete_met :
    (∃ (s : State) (t : Tag) (r : TagRec), AdminReady s t r 0x10 ∧ caOf r.cmd = 0 ∧
        (2 < commitSlot s (fsOf r.cmd) ∨ commitSlot s (fsOf r.cmd) = s.boot.slot)) ∧
    (∃ (s : State) (t : Tag) (r : TagRec), AdminReady s t r 0x10 ∧ caOf r.cmd = 0 ∧ commitSlot s (fsOf r.cmd) ≤ 2 ∧
        commitSlot s (fsOf r.cmd) ≠ s.boot.slot ∧ pkgReason s (downloaded s) = none) ∧
    (∃ (s : State) (t : Tag) (r : TagRec), AdminReady s t r 0x10 ∧ 4 ≤ caOf r.cmd) ∧
    (∃ (s : State) (t : Tag) (r : TagRec), AdminReady s t r 0x10 ∧ caOf r.cmd = 1 ∧ commitSlot s (fsOf r.cmd) ≤ 2 ∧
        commitSlot s (fsOf r.cmd) ≠ s.boot.slot ∧ pkgReason s (downloaded s) = none) ∧
    (∃ (s : State) (t : Tag) (r : TagRec) (c : Nat) (k : Nat), AdminReady s t r 0x10 ∧ caOf r.cmd = 1 ∧ commitSlot s (fsOf r.cmd) ≤ 2 ∧
        commitSlot s (fsOf r.cmd) ≠ s.boot.slot ∧ (pkgReason s (downloaded s) = some (c, k))) ∧
    (∃ (s : State) (t : Tag) (r : TagRec) (x : Slot) (p : Package), AdminReady s t r 0x10 ∧ caOf r.cmd = 2 ∧
        slotAt s (fsOf r.cmd) = some x ∧ x.pkg = some p ∧ pkgReason s p = none) ∧
    (∃ (s : State) (t : Tag) (r : TagRec), AdminReady s t r 0x10 ∧ caOf r.cmd = 3 ∧ commitSlot s (fsOf r.cmd) ≤ 2 ∧
        commitSlot s (fsOf r.cmd) ≠ s.boot.slot ∧ pkgReason s (downloaded s) = none) ∧
    (∃ (s : State) (r : Req) (slot : Nat) (next : Nat) (io : Nat) (il : Nat) (so : Nat) (sl : Nat), io + il ≤ 33554432 ∧
        so + sl ≤ 33554432 ∧ next ≤ 1 ∧ ((slot = 1 ∨ slot = 2)) ∧ slot ≠ s.boot.slot ∧
        (Admitted s r { opc := 0x0A03, writesNor := true, long := true })) ∧
    (∃ (s : State) (r : Req) (slot : Nat) (next : Nat) (io : Nat) (il : Nat) (so : Nat) (sl : Nat), io + il ≤ 33554432 ∧
        so + sl ≤ 33554432 ∧ next ≤ 1 ∧ ((slot = 1 ∨ slot = 2)) ∧ slot = s.boot.slot ∧
        (Admitted s r { opc := 0x0A03, writesNor := true, long := true })) ∧
    (∃ (s : State) (r : Req) (next : Nat) (io : Nat) (il : Nat), io + il ≤ 33554432 ∧ next ≤ 1 ∧ s.sec.life = .field ∧
        (Admitted s r { opc := 0x0A03, writesNor := true, long := true })) ∧
    (∃ (s : State) (r : Req) (slot : Nat) (x : Slot), slotAt s slot = some x ∧ s.fw.slip = .idle ∧ x.next = true ∧ s.seqDev.swap = none ∧
        s.seqDev.job = none ∧ (Admitted s r { opc := 0x0A04, long := true })) ∧
    (∃ (s : State) (r : Req) (slot : Nat) (x : Slot), slotAt s slot = some x ∧ (s.fw.slip ≠ .idle ∨ x.next = false) ∧
        (Admitted s r { opc := 0x0A04, long := true })) ∧
    (∃ (s : State) (aux : Nat), live s = true ∧ s.bw.started = false ∧ s.fw.slip = .paused ∧ ((aux = 1 ∨ aux = 2)) ∧
        s.seqDev.swap = none) :=
  ⟨⟨(wbCmd wbNs (wbRec 0 { nsid := 1, opc := 0x10, dw10 := 3 })), 0, (wbRec 0 { nsid := 1, opc := 0x10, dw10 := 3 }),
      by unfold AdminReady; decide +kernel, by decide +kernel, by decide +kernel⟩,
   ⟨(fun z : State => { z with boot.slot := 1 }) ((fun z : State => { z with fw.download := wbPkg }) ((fun z : State => { z with sec.life := .blank }) ((wbCmd wbNs (wbRec 0 { nsid := 1, opc := 0x10, dw10 := 2 }))))),
       0, (wbRec 0 { nsid := 1, opc := 0x10, dw10 := 2 }), by unfold AdminReady; decide +kernel, by decide +kernel, by decide +kernel,
       by decide +kernel, by decide +kernel⟩,
   ⟨(wbCmd wbNs (wbRec 0 { nsid := 1, opc := 0x10, dw10 := 32 })), 0, (wbRec 0 { nsid := 1, opc := 0x10, dw10 := 32 }),
       by unfold AdminReady; decide +kernel, by decide +kernel⟩,
   ⟨(fun z : State => { z with boot.slot := 1 }) ((fun z : State => { z with fw.download := wbPkg }) ((fun z : State => { z with sec.life := .blank }) ((wbCmd wbNs (wbRec 0 { nsid := 1, opc := 0x10, dw10 := 10 }))))),
       0, (wbRec 0 { nsid := 1, opc := 0x10, dw10 := 10 }), by unfold AdminReady; decide +kernel, by decide +kernel, by decide +kernel,
       by decide +kernel, by decide +kernel⟩,
   ⟨(fun z : State => { z with boot.slot := 1 }) ((wbCmd wbNs (wbRec 0 { nsid := 1, opc := 0x10, dw10 := 10 }))), 0,
       (wbRec 0 { nsid := 1, opc := 0x10, dw10 := 10 }), _, _, by unfold AdminReady; decide +kernel, by decide +kernel,
       by decide +kernel, by decide +kernel, some_pair (by decide +kernel)⟩,
   ⟨(fun z : State => { z with nv.slots := vupd z.nv.slots 1 fun y => { pkg := some { magic := 0x46504B47, format := 1, uc := some { } } } }) ((fun z : State => { z with sec.life := .blank }) ((wbCmd wbNs (wbRec 0 { nsid := 1, opc := 0x10, dw10 := 18 })))),
       0, (wbRec 0 { nsid := 1, opc := 0x10, dw10 := 18 }), { pkg := some { magic := 0x46504B47, format := 1, uc := some { } } },
       { magic := 0x46504B47, format := 1, uc := some { } }, by unfold AdminReady; decide +kernel, by decide +kernel, by decide +kernel,
       by decide +kernel, by decide +kernel⟩,
   ⟨(fun z : State => { z with boot.slot := 1 }) ((fun z : State => { z with fw.download := wbPkg }) ((fun z : State => { z with sec.life := .blank }) ((wbCmd wbNs (wbRec 0 { nsid := 1, opc := 0x10, dw10 := 26 }))))),
       0, (wbRec 0 { nsid := 1, opc := 0x10, dw10 := 26 }), by unfold AdminReady; decide +kernel, by decide +kernel, by decide +kernel,
       by decide +kernel, by decide +kernel⟩,
   ⟨(fun z : State => { z with boot.slot := 1 }) (wb), {}, 2, 0, 0, 0, 0, 0, by decide +kernel, by decide +kernel, by decide +kernel,
       by decide +kernel, by decide +kernel, by unfold Admitted; decide +kernel⟩,
   ⟨(fun z : State => { z with boot.slot := 1 }) (wb), {}, 1, 0, 0, 0, 0, 0, by decide +kernel, by decide +kernel, by decide +kernel,
       by decide +kernel, by decide +kernel, by unfold Admitted; decide +kernel⟩,
   ⟨(fun z : State => { z with sec.life := .field }) (wb), {}, 0, 0, 0, by decide +kernel, by decide +kernel, by decide +kernel,
       by unfold Admitted; decide +kernel⟩,
   ⟨(fun z : State => { z with nv.slots := vupd z.nv.slots 0 fun y => { next := true } }) ((fun z : State => { z with seqDev.job := none }) ((fun z : State => { z with seqDev.swap := none }) ((fun z : State => { z with fw.slip := .idle }) (wb)))),
       {}, 1, { next := true }, by decide +kernel, by decide +kernel, by decide +kernel, by decide +kernel, by decide +kernel,
       by unfold Admitted; decide +kernel⟩,
   ⟨(fun z : State => { z with nv.slots := vupd z.nv.slots 0 fun y => { } }) (wb), {}, 1, { }, by decide +kernel, by decide +kernel,
       by unfold Admitted; decide +kernel⟩,
   ⟨(fun z : State => { z with seqDev.swap := none }) ((fun z : State => { z with fw.slip := .paused }) ((fun z : State => { z with bw.started := false }) (wb))),
       1, by decide +kernel, by decide +kernel, by decide +kernel, by decide +kernel, by decide +kernel⟩⟩

/-- Inputs that meet the hypotheses of each clause of `RecorderComplete`, in their order. -/
theorem test_RecorderComplete_met :
    (∃ (s : State), norFree s = true ∧ flushDue s = true) ∧
    (∃ (s : State), (norFree s && flushDue s) = false) ∧
    (∃ (s : State) (r : Req), (Admitted s r { opc := 0x0701, need := .rd })) ∧
    (∃ (s : State) (r : Req) (pos : Nat), serialLt s.evr.nextRecno pos = false ∧ serialLt pos (oldestRec s) = false ∧
        (Admitted s r { opc := 0x0701, need := .rd })) ∧
    (∃ (s : State) (r : Req) (pos : Nat), serialLt s.evr.nextRecno pos = true ∧ (Admitted s r { opc := 0x0701, need := .rd })) ∧
    (∃ (s : State) (r : Req) (n : Nat) (rs : List EvRec) (x : EvRec), n ≤ 62 ∧
        (((heldRecs s).filter fun e => serialLe (cursorOf s r.mb) e.recno).take n = rs) ∧ rs.getLast? = some x ∧
        (Admitted s r { opc := 0x0702, need := .rd })) ∧
    (∃ (s : State) (r : Req), s.evr.dropped = 0 ∧ (Admitted s r { opc := 0x0703, need := .sg, writesNor := true })) ∧
    (∃ (s : State) (r : Req), (Admitted s r { opc := 0x0704, need := .rd })) ∧
    (∃ (s : State) (r : Req) (h : Hd), inDrive s h = true ∧ (Admitted s r { opc := 0x0704, need := .rd })) ∧
    (∃ (s : State) (r : Req) (a : Act), headsOf s a ≠ [] ∧ (Admitted s r { opc := 0x0704, need := .rd })) ∧
    (∃ (s : State), norFree s = true ∧ 600 ≤ s.aon.sinceBlock) ∧
    (∃ (s : State) (r : Req), (Admitted s r { opc := 0x0705, need := .rd })) :=
  ⟨⟨(fun z : State => { z with evr.buf := (List.replicate 8 { }) }) (wb), by decide +kernel, by decide +kernel⟩,
   ⟨wb, by decide +kernel⟩,
   ⟨wb, {}, by unfold Admitted; decide +kernel⟩,
   ⟨wb, {}, 0, by decide +kernel, by decide +kernel, by unfold Admitted; decide +kernel⟩,
   ⟨wb, {}, 1, by decide +kernel, by unfold Admitted; decide +kernel⟩,
   ⟨(fun z : State => { z with evr.buf := [{ }] }) (wb), {}, 1, _, _, by decide +kernel, rfl, some_spec (by decide +kernel),
       by unfold Admitted; decide +kernel⟩,
   ⟨(fun z : State => { z with mbx := vupd z.mbx (0 : Mb) fun y => { y with armed := some (0x0703, Config.shake256 []) } }) ((fun z : State => { z with evr.dropped := 0 }) ((fun z : State => { z with evr.dropped := 0 }) (wb))),
       ({ } : Req), by decide +kernel, adm_sg (by decide +kernel) (beq_self_eq_true _) (by decide +kernel) rfl⟩,
   ⟨wb, {}, by unfold Admitted; decide +kernel⟩,
   ⟨wb, {}, 0, by decide +kernel, by unfold Admitted; decide +kernel⟩,
   ⟨wb, {}, 0, by decide +kernel, by unfold Admitted; decide +kernel⟩,
   ⟨(fun z : State => { z with aon.sinceBlock := 600 }) (wb), by decide +kernel, by decide +kernel⟩,
   ⟨wb, {}, by unfold Admitted; decide +kernel⟩⟩

/-- Inputs that meet the hypotheses of each clause of `AuditorComplete`, in their order. -/
theorem test_AuditorComplete_met :
    (∃ (s : State) (rep : EpochReport), audits s = true ∧ s.ledger.skip = false ∧ failed s rep = []) ∧
    (∃ (s : State) (rep : EpochReport), audits s = true ∧ s.ledger.skip = false ∧ failed s rep ≠ []) ∧
    (∃ (s : State), audits s = false) ∧
    (∃ (rep : EpochReport), rep.freeTags + rep.inflightTags ≠ 4096) ∧
    (∃ (rep : EpochReport), ((∃ x ∈ rep.tally, x.1 ≠ x.2))) ∧
    (∃ (s : State) (r : Req) (f : Fn), (Admitted s r { opc := 0x0109, need := .op, scope := some f.val })) ∧
    (∃ (s : State) (r : Req), Admitted s r { opc := 0x0109 }) ∧
    (∃ (s : State) (r : Req), Admitted s r { opc := 0x0109 }) ∧
    (∃ (s : State) (r : Req) (m : Mb), m ≠ r.mb ∧ Admitted s r { opc := 0x0109 }) ∧
    (∃ (s : State) (r : Req), Admitted s r { opc := 0x0109 }) ∧
    (∃ (s : State) (r : Req), Admitted s r { opc := 0x0109 }) :=
  ⟨⟨(fun z : State => { z with ledger.skip := false }) ((fun z : State => { z with ledger.skip := false }) (wb)), {}, by decide +kernel,
      by decide +kernel, by decide +kernel⟩,
   ⟨(fun z : State => { z with ledger.skip := false }) ((fun z : State => { z with ledger.skip := false }) (wb)), { freeTags := 0 },
       by decide +kernel, by decide +kernel, by decide +kernel⟩,
   ⟨(fun z : State => { z with ledger.stopped := true }) (wb), by decide +kernel⟩,
   ⟨{ freeTags := 0 }, by decide +kernel⟩,
   ⟨{ tally := [(0, 1)] }, ⟨(0, 1), by decide⟩⟩,
   ⟨wb, {}, 0, by unfold Admitted; decide +kernel⟩,
   ⟨wb, {}, by unfold Admitted; decide +kernel⟩,
   ⟨wb, {}, by unfold Admitted; decide +kernel⟩,
   ⟨wb, ({ } : Req), 1, by decide +kernel, by unfold Admitted; decide +kernel⟩,
   ⟨wb, {}, by unfold Admitted; decide +kernel⟩,
   ⟨wb, {}, by unfold Admitted; decide +kernel⟩⟩

/-- Inputs that meet the hypotheses of each clause of `MailboxEventsAndRequests`, in their order. -/
theorem test_MailboxEventsAndRequests_met :
    (∃ (s : State) (mb : Mb) (v : BitVec 32), barUp s mb = true ∧ s.mbx[mb].enable = true ∧ v.toNat < 64 ∧
        (v.toNat + 64 - s.mbx[mb].reqTail) % 64 ≤ mbxFree s.mbx[mb]) ∧
    (∃ (s : State) (mb : Mb) (v : BitVec 32), barUp s mb = true ∧
        (s.mbx[mb].enable = false ∨ 64 ≤ v.toNat ∨ mbxFree s.mbx[mb] < (v.toNat + 64 - s.mbx[mb].reqTail) % 64)) ∧
    (∃ (s : State) (mb : Mb) (v : BitVec 32), barUp s mb = true ∧
        (v.toNat % 64 + 64 - s.mbx[mb].respHead) % 64 ≤ (s.mbx[mb].respTail + 64 - s.mbx[mb].respHead) % 64) ∧
    (∃ (s : State) (mb : Mb) (v : BitVec 32), barUp s mb = true ∧
        (s.mbx[mb].respTail + 64 - s.mbx[mb].respHead) % 64 < (v.toNat % 64 + 64 - s.mbx[mb].respHead) % 64) ∧
    (∃ (s : State) (mb : Mb) (v : BitVec 32), barUp s mb = true ∧ (v.toNat % 128 + 128 - s.mbx[mb].ntfHead) % 128 ≤ ntfUsed s.mbx[mb]) ∧
    (∃ (s : State) (mb : Mb) (v : BitVec 32), barUp s mb = true ∧ ntfUsed s.mbx[mb] < (v.toNat % 128 + 128 - s.mbx[mb].ntfHead) % 128) ∧
    (∃ (s : State) (mb : Mb), barUp s mb = true) ∧
    (∃ (s : State) (mb : Mb) (k : Nat), barUp s mb = true ∧ (k ∈ [0x000, 0x010, 0x014, 0x01C, 0x020, 0x028])) ∧
    (∃ (s : State) (mb : Mb) (o : Nat), barUp s mb = true ∧ o ≠ 0x008) ∧
    (∃ (s : State) (mb : Mb), barUp s mb = true) ∧
    (∃ (s : State) (mb : Mb) (i : Nat) (k : Nat), barUp s mb = true ∧ i < 32 ∧ k < 512) ∧
    (∃ (s : State) (mb : Mb), nextMailbox s = some mb ∧ s.mbx[mb].dirty = []) ∧
    (∃ (s : State), served s 3 = true ∧ (s.mbx[(3 : Mb)].reqTail + 64 - s.mbx[(3 : Mb)].respHead) % 64 < 4) ∧
    (∃ (s : State), served s 2 = true ∧ (s.mbx[(2 : Mb)].reqTail + 64 - s.mbx[(2 : Mb)].respHead) % 64 < 2) ∧
    (∃ (s : State), served s 2 = true ∧ 2 ≤ (s.mbx[(2 : Mb)].reqTail + 64 - s.mbx[(2 : Mb)].respHead) % 64) ∧
    (∃ (s : State) (mb : Mb) (seq : Nat) (l : LMsg), powered s = true ∧ s.bw.started = false ∧
        ((s.mbx[mb].lMsgs.find? fun x => x.seq = seq) = some l) ∧ (l.op = 0x0605 ∨ l.op = 0x0606)) ∧
    (∃ (mb : Mb) (bs : List Byte), framingBad (decide (2 ≤ mb.val)) bs ≠ []) ∧
    (∃ (s : State) (mb : Mb) (bs : List Byte) (e : Nat), framingBad (decide (2 ≤ mb.val)) bs = [] ∧ s.mbx[mb].expSeq = some e ∧
        e ≠ hdrN bs 12 4 ∧ s.mbx[mb].lastReply = none) ∧
    (∃ (s : State) (mb : Mb) (bs : List Byte) (e : Nat) (x : Reply), framingBad (decide (2 ≤ mb.val)) bs = [] ∧
        s.mbx[mb].expSeq = some e ∧ e ≠ hdrN bs 12 4 ∧ s.mbx[mb].lastReply = some x ∧ x.seq = hdrN bs 12 4 ∧ x.op = hdrN bs 0 2) ∧
    (∃ (s : State) (mb : Mb) (bs : List Byte), framingBad (decide (2 ≤ mb.val)) bs = [] ∧ s.mbx[mb].expSeq = some (hdrN bs 12 4) ∧
        reservedBad bs = [] ∧ ((catalogue.find? fun e => decide (e.opc = hdrN bs 0 2)) = none)) :=
  ⟨⟨(fun z : State => { z with mbx := vupd z.mbx 0 fun y => { y with enable := true } }) (wb), 0, 0, by decide +kernel,
      by decide +kernel, by decide +kernel, by decide +kernel⟩,
   ⟨wb, 0, 0, by decide +kernel, by decide +kernel⟩,
   ⟨wb, 0, 0, by decide +kernel, by decide +kernel⟩,
   ⟨wb, 0, 1, by decide +kernel, by decide +kernel⟩,
   ⟨wb, 0, 0, by decide +kernel, by decide +kernel⟩,
   ⟨wb, 0, 1, by decide +kernel, by decide +kernel⟩,
   ⟨wb, 0, by decide +kernel⟩,
   ⟨wb, 0, 0, by decide +kernel, by decide +kernel⟩,
   ⟨wb, 0, 0, by decide +kernel, by decide +kernel⟩,
   ⟨wb, 0, by decide +kernel⟩,
   ⟨wb, 0, 0, 0, by decide +kernel, by decide +kernel, by decide +kernel⟩,
   ⟨(fun z : State => { z with mbx := vupd z.mbx (0 : Mb) fun y => { y with reqTail := 1 } }) ((fun z : State => { z with mbx := vupd z.mbx 0 fun y => { y with dirty := [] } }) (wb)),
       _, some_spec (by decide +kernel), by decide +kernel⟩,
   ⟨wb, by decide +kernel, by decide +kernel⟩,
   ⟨wb, by decide +kernel, by decide +kernel⟩,
   ⟨(fun z : State => { z with mbx := vupd z.mbx (2 : Mb) fun y => { y with reqTail := 2 } }) (wb), by decide +kernel, by decide +kernel⟩,
   ⟨(fun z : State => { z with mbx := vupd z.mbx (0 : Mb) fun y => { y with lMsgs := [{ op := 0x0605 }] } }) ((fun z : State => { z with bw.started := false }) (wb)),
       0, 0, { op := 0x0605 }, by decide +kernel, by decide +kernel, by decide +kernel, by decide +kernel⟩,
   ⟨0, [], by decide +kernel⟩,
   ⟨(fun z : State => { z with mbx := vupd z.mbx (0 : Mb) fun y => { y with expSeq := some 1 } }) ((fun z : State => { z with mbx := vupd z.mbx 0 fun y => { y with lastReply := none } }) ((fun z : State => { z with mbx := vupd z.mbx 0 fun y => { y with expSeq := some 1 } }) (wb))),
       0, (goodReq 1), 1, by decide +kernel, by decide +kernel, by decide +kernel, by decide +kernel⟩,
   ⟨(fun z : State => { z with mbx := vupd z.mbx (0 : Mb) fun y => { y with lastReply := some { op := 1, seq := 0 } } }) ((fun z : State => { z with mbx := vupd z.mbx (0 : Mb) fun y => { y with expSeq := some 1 } }) ((fun z : State => { z with mbx := vupd z.mbx 0 fun y => { y with lastReply := some ({ op := 1, seq := 0 }) } }) ((fun z : State => { z with mbx := vupd z.mbx 0 fun y => { y with expSeq := some 1 } }) (wb)))),
       0, (goodReq 1), 1, { op := 1, seq := 0 }, by decide +kernel, by decide +kernel, by decide +kernel, by decide +kernel,
       by decide +kernel, by decide +kernel⟩,
   ⟨(fun z : State => { z with mbx := vupd z.mbx (0 : Mb) fun y => { y with expSeq := some 0 } }) ((fun z : State => { z with mbx := vupd z.mbx 0 fun y => { y with expSeq := some (hdrN ((goodReq 0xFFFF)) 12 4) } }) (wb)),
       0, (goodReq 0xFFFF), by decide +kernel, by decide +kernel, by decide +kernel, by decide +kernel⟩⟩

/-- Inputs that meet the hypotheses of each clause of `MailboxMessagesComplete`, in their order. -/
theorem test_MailboxMessagesComplete_met :
    (∃ (s : State) (r : Req), (Admitted s r { opc := 0x0001, need := .rd })) ∧
    (∃ (s : State) (r : Req) (max : Nat) (n : Nat), r.mb ≠ 2 ∧ min (min max 31) (ntfUsed s.mbx[r.mb]) = n ∧
        (Admitted s r { opc := 0x0002, need := .rd })) ∧
    (∃ (s : State) (r : Req) (sev : Nat) (flags : Nat), r.mb.val < 2 ∧ flags < 4 ∧ sev ≤ 4 ∧
        (Admitted s r { opc := 0x0003, need := .rd })) ∧
    (∃ (s : State) (r : Req) (i : Mb) (p : Nat), p ≤ privOf s i ∧ Admitted s r { opc := 0x0004 }) ∧
    (∃ (s : State) (r : Req) (i : Mb) (p : Nat), privOf s i < p ∧ Admitted s r { opc := 0x0004 }) ∧
    (∃ (s : State) (r : Req) (o : Nat) (d : List Byte), o + d.length ≤ 33554432 ∧ (Admitted s r { opc := 0x0005, need := .rd })) ∧
    (∃ (s : State) (r : Req) (o : Nat) (n : Nat), n ≤ 2016 ∧ o + n ≤ 33554432 ∧ (Admitted s r { opc := 0x0006, need := .rd })) ∧
    (∃ (s : State) (r : Req) (o : Nat) (n : Nat), (2016 < n ∨ 33554432 < o + n) ∧ (Admitted s r { opc := 0x0006, need := .rd })) ∧
    (∃ (s : State) (r : Req), (Admitted s r { opc := 0x0007, need := .rd })) :=
  ⟨⟨wb, {}, by unfold Admitted; decide +kernel⟩,
   ⟨wb, {}, 0, _, by decide +kernel, rfl, by unfold Admitted; decide +kernel⟩,
   ⟨wb, {}, 0, 0, by decide +kernel, by decide +kernel, by decide +kernel, by unfold Admitted; decide +kernel⟩,
   ⟨wb, {}, 0, 0, by decide +kernel, by unfold Admitted; decide +kernel⟩,
   ⟨wb, {}, 0, 9, by decide +kernel, by unfold Admitted; decide +kernel⟩,
   ⟨wb, {}, 0, [], by decide +kernel, by unfold Admitted; decide +kernel⟩,
   ⟨wb, {}, 0, 0, by decide +kernel, by decide +kernel, by unfold Admitted; decide +kernel⟩,
   ⟨wb, {}, 0, 2017, by decide +kernel, by unfold Admitted; decide +kernel⟩,
   ⟨wb, {}, by unfold Admitted; decide +kernel⟩⟩

/-- Inputs that meet the hypotheses of each clause of `PowerComplete`, in their order. -/
theorem test_PowerComplete_met :
    (∃ (s : State), powered s = true) ∧
    (∃ (s : State) (m : Nat), m < s.pmu.mLo ∧ s.pmu.mLo ≤ s.pmu.mHi ∧ s.pmu.cpu.fixedMv = 0 ∧ 900 ≤ s.pmu.cpu.ackedMv) ∧
    (∃ (s : State) (m : Nat), s.pmu.mLo ≤ m ∧ m ≤ s.pmu.mHi ∧ s.pmu.cpu.fixedMv = 0) ∧
    (∃ (s : State) (m : Nat), m < s.pmu.mLo ∧ s.pmu.mLo ≤ s.pmu.mHi ∧ s.pmu.cpu.fixedMv = 0 ∧ s.pmu.cpu.ackedMv < 900 ∧
        s.pmu.stopped = false ∧ s.pmu.seqStopped = false ∧ s.pmu.cpu.req = none) ∧
    (∃ (s : State), powered s = true ∧ s.pmu.restoreTo = none) ∧
    (∃ (s : State), powered s = true ∧ s.pmu.soc.fixedMv = 0 ∧ s.pmu.soc.ackedMv < 850 ∧ s.pmu.soc.req = none ∧ s.pmu.stopped = false ∧
        s.pmu.seqStopped = false) ∧
    (∃ (s : State) (mv : Nat), s.pmu.soc.req = some mv) ∧
    (∃ (s : State) (mv : Nat) (f : Nat), s.pmu.cpu.req = some mv ∧ s.pmu.cpu.ackedMv < mv ∧ s.pmu.restoreTo = some f) ∧
    (∃ (s : State) (soc : Bool) (mv : Nat), (railOf s.pmu soc).req = some mv ∧ s.pmu.seqStopped = true) ∧
    (∃ (s : State) (soc : Bool) (mv : Nat), (railOf s.pmu soc).req = some mv ∧ (railOf s.pmu soc).attempts < 2 ∧
        s.pmu.seqStopped = false) ∧
    (∃ (s : State) (soc : Bool) (mv : Nat), (railOf s.pmu soc).req = some mv ∧ 2 ≤ (railOf s.pmu soc).attempts ∧
        s.pmu.seqStopped = false) ∧
    (∃ (s : State) (f : Nat), powered s = true ∧ s.pmu.raiseTo = some f ∧ s.pmu.throttleBase = none) ∧
    (∃ (s : State) (x : Int), powered s = true ∧ s.phase ≠ .quiescent ∧ x < 210 ∧ s.pmu.level = 0 ∧ s.spn.capThermal = false) ∧
    (∃ (s : State) (x : Int), powered s = true ∧ s.phase ≠ .quiescent ∧ 230 ≤ x ∧ x < 240 ∧ s.pmu.level ≤ 3) ∧
    (∃ (s : State), powered s = true ∧ 1 ≤ s.pmu.level) ∧
    (∃ (s : State), powered s = true ∧ 0 < s.pmu.level ∧ s.pmu.tj < thermRelease s.pmu.level) ∧
    (∃ (s : State), powered s = true ∧ s.pmu.overTrip = true ∧ s.bw.started = false) ∧
    (∃ (s : State) (r : Req) (ps : Params) (p : Pmu), (applyPars supplyPars (fun p => [([0, 1],
        decide (p.mLo + 3 ≤ p.mHi))]) ps s.pmu = .ok p) ∧ (Admitted s r { opc := 0x0B01, setter := true })) ∧
    (∃ (s : State) (r : Req), (Admitted s r { opc := 0x0B04, need := .rd })) :=
  ⟨⟨wb, by decide +kernel⟩,
   ⟨(fun z : State => { z with pmu.cpu.ackedMv := 900 }) ((fun z : State => { z with pmu.cpu.fixedMv := 0 }) (wb)), 0, by decide +kernel,
       by decide +kernel, by decide +kernel, by decide +kernel⟩,
   ⟨(fun z : State => { z with pmu.cpu.fixedMv := 0 }) (wb), 10, by decide +kernel, by decide +kernel, by decide +kernel⟩,
   ⟨(fun z : State => { z with pmu.cpu.req := none }) ((fun z : State => { z with pmu.seqStopped := false }) ((fun z : State => { z with pmu.stopped := false }) ((fun z : State => { z with pmu.cpu.fixedMv := 0 }) (wb)))),
       0, by decide +kernel, by decide +kernel, by decide +kernel, by decide +kernel, by decide +kernel, by decide +kernel,
       by decide +kernel⟩,
   ⟨(fun z : State => { z with pmu.restoreTo := none }) (wb), by decide +kernel, by decide +kernel⟩,
   ⟨(fun z : State => { z with pmu.seqStopped := false }) ((fun z : State => { z with pmu.stopped := false }) ((fun z : State => { z with pmu.soc.req := none }) ((fun z : State => { z with pmu.soc.fixedMv := 0 }) (wb)))),
       by decide +kernel, by decide +kernel, by decide +kernel, by decide +kernel, by decide +kernel, by decide +kernel⟩,
   ⟨(fun z : State => { z with pmu.soc.req := some 0 }) (wb), 0, by decide +kernel⟩,
   ⟨(fun z : State => { z with pmu.cpu.ackedMv := 700 }) ((fun z : State => { z with pmu.restoreTo := some 700 }) ((fun z : State => { z with pmu.cpu.req := some 800 }) (wb))),
       800, 700, by decide +kernel, by decide +kernel, by decide +kernel⟩,
   ⟨(fun z : State => { z with pmu.cpu.req := some 700 }) ((fun z : State => { z with pmu.seqStopped := true }) (wb)), false, 700,
       by decide +kernel, by decide +kernel⟩,
   ⟨(fun z : State => { z with pmu.cpu.req := some 700 }) ((fun z : State => { z with pmu.seqStopped := false }) (wb)), false, 700,
       by decide +kernel, by decide +kernel, by decide +kernel⟩,
   ⟨(fun z : State => { z with pmu.cpu.attempts := 2 }) ((fun z : State => { z with pmu.cpu.req := some 700 }) ((fun z : State => { z with pmu.seqStopped := false }) (wb))),
       false, 700, by decide +kernel, by decide +kernel, by decide +kernel⟩,
   ⟨(fun z : State => { z with pmu.throttleBase := none }) ((fun z : State => { z with pmu.raiseTo := some 0 }) (wb)), 0,
       by decide +kernel, by decide +kernel, by decide +kernel⟩,
   ⟨(fun z : State => { z with spn.capThermal := false }) ((fun z : State => { z with pmu.level := 0 }) (wb)), 0, by decide +kernel,
       by decide +kernel, by decide +kernel, by decide +kernel, by decide +kernel⟩,
   ⟨wb, 235, by decide +kernel, by decide +kernel, by decide +kernel, by decide +kernel, by decide +kernel⟩,
   ⟨(fun z : State => { z with pmu.level := 1 }) (wb), by decide +kernel, by decide +kernel⟩,
   ⟨(fun z : State => { z with pmu.level := 1 }) (wb), by decide +kernel, by decide +kernel, by decide +kernel⟩,
   ⟨(fun z : State => { z with bw.started := false }) ((fun z : State => { z with pmu.overTrip := true }) (wb)), by decide +kernel,
       by decide +kernel, by decide +kernel⟩,
   ⟨wb, {}, [], _, ok_spec (by decide +kernel), by unfold Admitted; decide +kernel⟩,
   ⟨wb, {}, by unfold Admitted; decide +kernel⟩⟩

/-- Inputs that meet the hypotheses of each clause of `StartAndBreakwaterComplete`, in their order. -/
theorem test_StartAndBreakwaterComplete_met :
    (∃ (s : State), (s.phase ≠ .reset ∨ releaseReady s = false)) ∧
    (∃ (s : State) (b : BootFacts) (u : State), s.phase = .reset ∧ releaseReady s = true ∧
        (bootB1 b (keepWarning { updBoot s fun x => { x with startUs := s.us, step := 1 } with phase := .boot }) = u) ∧
        otpBlocksBoot u b.otpBad = true) ∧
    (∃ (s : State) (b : BootFacts) (k : Nat) (p : Package) (u : State), s.phase = .reset ∧ releaseReady s = true ∧
        (bootB1 b (keepWarning { updBoot s fun x => { x with startUs := s.us, step := 1 } with phase := .boot }) = u) ∧
        otpBlocksBoot u b.otpBad = false ∧ (choosePkg u b = .ok (k, 0, p)) ∧ b.dramOk = true) ∧
    (∃ (s : State), s.phase = .boot ∧ 8 ≤ s.boot.step ∧ (s.spn.meas < 38400 ∨ s.boot.ckptLoaded = false)) ∧
    (∃ (s : State), s.phase = .halted) ∧
    (∃ (s : State), s.phase = .boot ∧ s.bw.started = false ∧ s.boot.replayDone = true ∧ (erased s 0 = true ∨ erased s 1 = true) ∧
        ckptReady s = true) ∧
    (∃ (s : State), s.bw.started = false) ∧
    (∃ (s : State), s.bw.started = true) ∧
    (∃ (s : State), s.phase ≠ .sequence) ∧
    (∃ (s : State), s.phase = .sequence) ∧
    (∃ (s : State), (s.bw.started = false ∨ s.bw.startUs ≠ s.us ∨ (s.bw.cause ≠ 7 ∧ s.bw.cause ≠ 8))) ∧
    (∃ (s : State), s.bw.started = true ∧ s.bw.startUs = s.us ∧ (s.bw.cause = 7 ∨ s.bw.cause = 8) ∧ s.bw.step ≠ .close) ∧
    (∃ (s : State) (i : Fin 16), powered s = true ∧ s.bw.inhibit = false ∧ entryInput s = some i) ∧
    (∃ (s : State), powered s = true ∧ s.bw.inhibit = true ∧ leaveHolds s = true ∧ s.fw.eraseDue = false ∧ s.fw.svnDue = false) ∧
    (∃ (s : State) (cause : Nat), triggerHolds s cause = true) ∧
    (∃ (s : State) (cause : Nat), s.phase ≠ .quiescent ∧ s.phase ≠ .reset ∧ s.bw.started = true ∧ (cause ∉ [1, 2, 3, 6])) ∧
    (∃ (s : State), (s.phase = .quiescent ∨ s.phase = .reset)) ∧
    (∃ (s : State) (a : Act), s.phase = .sequence ∧ s.acts[a].mode ≠ .parked ∧ s.bw.step ≠ .park) ∧
    (∃ (s : State) (a : Act), s.phase = .sequence ∧ s.bw.step = .park ∧ s.bw.parkDone.contains a = false ∧ s.bw.cause = 6) ∧
    (∃ (s : State) (a : Act), s.phase = .sequence ∧ s.bw.step = .park ∧ s.bw.parkDone.contains a = false ∧ s.bw.cause ≠ 6) ∧
    (∃ (s : State) (a : Act), s.bw.openLoop.contains a = true) ∧
    (∃ (s : State), s.phase = .sequence ∧ s.bw.cause = 6 ∧ (∀ a : Act, s.acts[a].mode = .parked) ∧
        passedNs s s.psl.lossUs (s.psl.retractT * 2000000) = true) ∧
    (∃ (s : State), s.phase = .sequence ∧ s.bw.step = .save) ∧
    (∃ (s : State), s.bw.page + 1 < s.bw.pagesTotal ∧ s.bw.page ≠ 0) ∧
    (∃ (s : State), s.phase = .quiescent ∧ releaseHolds s = true) ∧
    (∃ (s : State) (k : Fin 2), powered s = true ∧ s.nv.areas[k].erasing = true ∧ s.bw.started = false) :=
  ⟨⟨wb, by decide +kernel⟩,
   ⟨(fun z : State => { z with nv.otp.lc := 1 }) ((fun z : State => { z with pins.porstN := true }) ((fun z : State => { z with pins.resetN := true }) ((fun z : State => { z with bw.inputs := wbRails }) ((fun z : State => { z with phase := .reset }) (wb))))),
       { otpBad := [(256, 0)] }, _, by decide +kernel, by decide +kernel, rfl, by decide +kernel⟩,
   ⟨(fun z : State => { z with nv.slots := vupd z.nv.slots 0 fun y => { pkg := some { magic := 0x46504B47, format := 1, uc := some { } } } }) ((fun z : State => { z with pins.porstN := true }) ((fun z : State => { z with pins.resetN := true }) ((fun z : State => { z with bw.inputs := wbRails }) ((fun z : State => { z with phase := .reset }) (wb))))),
       { }, 1, { magic := 0x46504B47, format := 1, uc := some { } }, _, by decide +kernel, by decide +kernel, rfl, by decide +kernel,
       rfl, by decide +kernel⟩,
   ⟨(fun z : State => { z with boot.step := 8 }) ((fun z : State => { z with phase := .boot }) (wb)), by decide +kernel,
       by decide +kernel, by decide +kernel⟩,
   ⟨(fun z : State => { z with phase := .halted }) (wb), by decide +kernel⟩,
   ⟨(fun z : State => { z with boot.replayDone := true }) ((fun z : State => { z with bw.started := false }) ((fun z : State => { z with phase := .boot }) (wb))),
       by decide +kernel, by decide +kernel, by decide +kernel, by decide +kernel, by decide +kernel⟩,
   ⟨(fun z : State => { z with bw.started := false }) (wb), by decide +kernel⟩,
   ⟨(fun z : State => { z with bw.started := true }) (wb), by decide +kernel⟩,
   ⟨wb, by decide +kernel⟩,
   ⟨(fun z : State => { z with phase := .sequence }) (wb), by decide +kernel⟩,
   ⟨wb, by decide +kernel⟩,
   ⟨(fun z : State => { z with bw.cause := 8 }) ((fun z : State => { z with bw.started := true }) (wb)), by decide +kernel,
       by decide +kernel, by decide +kernel, by decide +kernel⟩,
   ⟨(fun z : State => { z with bw.inputs := wb.bw.inputs.map fun x => { x with entryRun := 3 } }) ((fun z : State => { z with bw.inhibit := false }) (wb)),
       0, by decide +kernel, by decide +kernel, by decide +kernel⟩,
   ⟨(fun z : State => { z with bw.inputs := wb.bw.inputs.map fun x => { x with leaveRun := 10001 } }) ((fun z : State => { z with fw.svnDue := false }) ((fun z : State => { z with fw.eraseDue := false }) ((fun z : State => { z with bw.inhibit := true }) (wb)))),
       by decide +kernel, by decide +kernel, by decide +kernel, by decide +kernel, by decide +kernel⟩,
   ⟨(fun z : State => { z with pmu.overTrip := true }) (wb), 4, by decide +kernel⟩,
   ⟨(fun z : State => { z with bw.started := true }) (wb), 8, by decide +kernel, by decide +kernel, by decide +kernel, by decide +kernel⟩,
   ⟨(fun z : State => { z with phase := .quiescent }) (wb), by decide +kernel⟩,
   ⟨(fun z : State => { z with acts := vupd z.acts (0 : Act) fun y => { y with mode := .hold } }) ((fun z : State => { z with phase := .sequence }) (wb)),
       0, by decide +kernel, by decide +kernel, by decide +kernel⟩,
   ⟨(fun z : State => { z with bw.cause := 6 }) ((fun z : State => { z with bw.step := .park }) ((fun z : State => { z with phase := .sequence }) (wb))),
       0, by decide +kernel, by decide +kernel, by decide +kernel, by decide +kernel⟩,
   ⟨(fun z : State => { z with bw.step := .park }) ((fun z : State => { z with phase := .sequence }) (wb)), 0, by decide +kernel,
       by decide +kernel, by decide +kernel, by decide +kernel⟩,
   ⟨(fun z : State => { z with bw.openLoop := [0] }) (wb), 0, by decide +kernel⟩,
   ⟨(fun z : State => { z with us := 1000000000 }) ((fun z : State => { z with bw.cause := 6 }) ((fun z : State => { z with phase := .sequence }) (wb))),
       by decide +kernel, by decide +kernel, by decide +kernel, by decide +kernel⟩,
   ⟨(fun z : State => { z with bw.step := .save }) ((fun z : State => { z with phase := .sequence }) (wb)), by decide +kernel,
       by decide +kernel⟩,
   ⟨(fun z : State => { z with bw.pagesTotal := 3 }) ((fun z : State => { z with bw.page := 1 }) (wb)), by decide +kernel,
       by decide +kernel⟩,
   ⟨(fun z : State => { z with bw.upgraded := false }) ((fun z : State => { z with bw.cause := 9 }) ((fun z : State => { z with phase := .quiescent }) (wb))),
       by decide +kernel, by decide +kernel⟩,
   ⟨(fun z : State => { z with bw.started := false }) ((fun z : State => { z with nv.areas := vupd z.nv.areas 0 fun y => { y with erasing := true } }) (wb)),
       0, by decide +kernel, by decide +kernel, by decide +kernel⟩⟩

/-- Inputs that meet the hypotheses of each clause of `StepRunsFront`, in their order. -/
theorem test_StepRunsFront_met :
    (∃ (s : State) (c : Instr) (cs : List Instr), s.pending = c :: cs) ∧
    (∃ (s : State), s.pending = []) :=
  ⟨⟨(fun z : State => { z with pending := (.avsTick (Vector.replicate 24 0) (Vector.replicate 24 0)) :: ([]) }) (wb),
      .avsTick (Vector.replicate 24 0) (Vector.replicate 24 0), [], by decide +kernel⟩,
   ⟨(fun z : State => { z with pending := [] }) (wb), by decide +kernel⟩⟩

/-- Inputs that meet the hypotheses of each clause of `ScopeChecked`, in their order. -/
theorem test_ScopeChecked_met :
    (∃ (f : Nat), f < 1024) ∧
    (∃ (s : State) (i : Instr) (r : Req) (op : Nat) (f : Nat), ((∃ word, i = .quaySetAllot r f word ∧
        op = 0x0103) ∨ (i = .quayGetAllot r f ∧ op = 0x0104) ∨ (∃ ps, i = .quaySetAdmit r f ps ∧ op = 0x0105) ∨ (∃ qid,
        i = .quayGetMooring r f qid ∧ op = 0x0907) ∨ (∃ start count, i = .tallyRead r f start count ∧
        op = 0x0801) ∨ (i = .tallyClear r f ∧ op = 0x0802) ∨ (i = .engineReinitFunction r f ∧ op = 0x0109)) ∧ f < 1024 ∧
        gateOf s r.mb op = 0 ∧ r.persist = false ∧ s.sec.life ≠ .decommissioned ∧ 3 ≤ privOf s r.mb ∧ inScope s r.mb f = false) :=
  ⟨⟨0, by decide +kernel⟩,
   ⟨wb, .tallyClear { } 512, {}, 0x0802, 512, Or.inr (Or.inr (Or.inr (Or.inr (Or.inr (Or.inl ⟨rfl, rfl⟩))))), by decide +kernel,
       by decide +kernel, by decide +kernel, by decide +kernel, by decide +kernel, by decide +kernel⟩⟩

/-- Inputs that meet the hypotheses of each clause of `DeviceTemperature`, in their order. -/
theorem test_DeviceTemperature_met :
    (∃ (s : State) (ch : Fin 2), powered s = true ∧ s.dram.chans[ch].sr ≠ 2) ∧
    (∃ (s : State) (t0 : Int) (t1 : Int) (n0 : Nat) (n1 : Nat), powered s = true ∧
        n0 = (if t0 ≤ 85 then min 4 (s.dram.chans[(0 : Fin 2)].hotLow + 1) else 0) ∧
        n1 = (if t1 ≤ 85 then min 4 (s.dram.chans[(1 : Fin 2)].hotLow + 1) else 0)) :=
  ⟨⟨wb, 0, by decide +kernel, by decide +kernel⟩,
   ⟨wb, 0, 0, _, _, by decide +kernel, rfl, rfl⟩⟩

/-- Inputs that meet the hypotheses of each clause of `StrapsHeld`, in their order. -/
theorem test_StrapsHeld_met :
    (∃ (c : Instr), (∀ b, c ≠ .internalResetRelease b)) ∧
    (∃ (s : State), s.phase = .reset) :=
  ⟨⟨.nvmSubsystemReset, fun b h => by cases h⟩,
   ⟨(fun z : State => { z with phase := .reset }) (wb), by decide +kernel⟩⟩

theorem next_spec {σ φ ρ : Type} {o : Host.Outcome σ φ ρ} (h : (match o with | .next _ => true | _ => false) = true) :
    ∃ t, o = .next t := by
  cases o with
  | next t => exact ⟨t, rfl⟩
  | fault r => cases h
  | refused r => cases h

/-- A command that runs, for `QueueUntouched`. -/
theorem test_QueueUntouched_met : ∃ (c : Instr) (s t : State), exec c s = .next t :=
  ⟨.haltUartLine, wb, next_spec (by decide +kernel)⟩

/-- A step that runs, for `CanonicalKept`. -/
theorem test_CanonicalKept_met : ∃ s t : State, canonical s = true ∧ step s = .next t :=
  ⟨{ wb with pending := [.haltUartLine] }, by
    obtain ⟨t, h⟩ := next_spec (o := step { wb with pending := [.haltUartLine] }) (by decide +kernel)
    exact ⟨t, by decide +kernel, h⟩⟩

/-- A step that runs, for `FusesOneWay`. -/
theorem test_FusesOneWay_met : ∃ s t : State, step s = .next t :=
  ⟨{ wb with pending := [.haltUartLine] }, next_spec (by decide +kernel)⟩

/-- A message at a mailbox that gives no answer, and one at a mailbox that turns it away, for `MessagesGated`. -/
theorem test_MessagesGated_met :
    (∃ (i : Instr) (m : Req × Nat × Vals) (s : State), messageOf i = some m ∧ gateOf s m.1.mb m.2.1 = 1) ∧
    (∃ (i : Instr) (m : Req × Nat × Vals) (s : State), messageOf i = some m ∧ gateOf s m.1.mb m.2.1 = 2) :=
  ⟨⟨.mbxGetInfo {}, _, State.reset, rfl, by decide +kernel⟩,
   ⟨.spnStop { mb := 2 }, _, { wb with phase := .halted, boot := { wb.boot with halt := 2 } }, rfl, by decide +kernel⟩⟩

/-- A message taken up, for `MessagesAnswered`. -/
theorem test_MessagesAnswered_met :
    ∃ (i : Instr) (m : Req × Nat × Vals) (s : State), messageOf i = some m ∧ gateOf s m.1.mb m.2.1 = 0 :=
  ⟨.mbxGetInfo {}, _, wb, rfl, by decide +kernel⟩

/-- A message without its privilege, and one on a decommissioned part, for `PrivilegeChecked`. -/
theorem test_PrivilegeChecked_met :
    (∃ (i : Instr) (m : Req × Nat × Vals) (s : State), messageOf i = some m ∧ gateOf s m.1.mb m.2.1 = 0 ∧ m.1.persist = false ∧
      s.mbx[m.1.mb].armed = none ∧ s.sec.life ≠ .decommissioned ∧ privOf s m.1.mb = 0 ∧ s.sec.debugScope = 0) ∧
    (∃ (i : Instr) (m : Req × Nat × Vals) (s : State), messageOf i = some m ∧ gateOf s m.1.mb m.2.1 = 0 ∧ m.1.persist = false ∧
      s.mbx[m.1.mb].armed = none ∧ s.sec.life = .decommissioned ∧ m.2.1 / 256 ≠ 0x00 ∧ m.2.1 / 256 ≠ 0x07 ∧ m.2.1 / 256 ≠ 0x0C) :=
  ⟨⟨.spnStop { mb := 0 }, _, { wb with sec := { wb.sec with life := .field }, mbx := vupd wb.mbx 0 fun x => { x with privCap := 0 } },
      rfl, by decide +kernel⟩,
   ⟨.spnStop { mb := 0 }, _, { wb with sec := { wb.sec with life := .decommissioned } }, rfl, by decide +kernel⟩⟩

/-- A setter of the catalogue, for `SettersAtomic`. -/
theorem test_SettersAtomic_met :
    ∃ (i : Instr) (m : Req × Nat × Vals) (e : Entry), messageOf i = some m ∧
      (catalogue.find? fun e => decide (e.opc = m.2.1)) = some e ∧ e.setter = true :=
  ⟨.drcSetTrain {} [], _, (catalogue.find? fun e => decide (e.opc = 0x0108)).get (by decide), rfl, some_spec (by decide), by decide⟩

/-- A byte staged and read again, for `StagingReadsBack`. -/
theorem test_StagingReadsBack_met :
    ∃ (s : State) (r q : Req) (ofs : Nat) (data : List Byte) (t : State), r.mb = q.mb ∧ data.length ≤ 2012 ∧
      ofs + data.length ≤ stageSize ∧ smWf 0 s.mbx[r.mb].staging = true ∧ Admitted s r { opc := 0x0005, need := .rd } ∧
      exec (.mbxStageWrite r ofs data) s = .next t ∧ Admitted t q { opc := 0x0006, need := .rd } := by
  refine ⟨wb, {}, { seq := 1 }, 4, [0x5A], ?_⟩
  have h : (match exec (.mbxStageWrite {} 4 [0x5A]) wb with
      | .next t => decide (gateOf t 0 6 = 0) && decide (refusal t { seq := 1 } { opc := 0x0006, need := .rd } = none)
      | _ => false) = true := by decide +kernel
  revert h
  cases exec (.mbxStageWrite {} 4 [0x5A]) wb with
  | next t =>
    intro h
    simp only [Bool.and_eq_true, decide_eq_true_eq] at h
    exact ⟨t, rfl, by decide, by decide, by decide +kernel, by unfold Admitted; decide +kernel, rfl, h.1, h.2⟩
  | fault r => intro h; cases h
  | refused r => intro h; cases h

/-- A well-formed message, for `MessagesRoundTrip`. -/
theorem test_MessagesRoundTrip_met : ∃ (i : Instr) (m : Req × Nat × Vals), messageOf i = some m ∧ i.wf = true :=
  ⟨.loopSetMaGain { seq := 7 } 3 9, _, rfl, by decide⟩

end Sys2Proof.Tests
end

section
/-! SUPPORT. DramTemperature: the readings of the two devices, HOT and OVERTEMP (R379). -/

namespace Sys2Proof.Machine

/-! ### A channel changed -/

/-- Two changes of the DRAM controller, one after the other. -/
theorem updDram_updDram (s : State) (f g : Dram → Dram) : updDram (updDram s f) g = updDram s fun d => g (f d) := rfl

/-- The channel that was changed. -/
theorem updChan_self (s : State) (ch : Fin 2) (f : DChan → DChan) :
    (updChan s ch f).dram.chans[ch] = f s.dram.chans[ch] :=
  vupd_self s.dram.chans ch f

/-- The other channel. -/
theorem updChan_ne (s : State) {ch i : Fin 2} (f : DChan → DChan) (h : ch ≠ i) :
    (updChan s ch f).dram.chans[i] = s.dram.chans[i] :=
  vupd_ne s.dram.chans f h

/-- Two changes of a channel that agree on it. -/
theorem updChan_congr {s : State} {ch : Fin 2} {f g : DChan → DChan} (h : f s.dram.chans[ch] = g s.dram.chans[ch]) :
    updChan s ch f = updChan s ch g :=
  congrArg (fun v => updDram s fun d => { d with chans := v }) (vupd_congr h)

@[simp] theorem updChan_hot (s : State) (ch : Fin 2) (f : DChan → DChan) : (updChan s ch f).dram.hot = s.dram.hot := rfl

/-! ### DRAM_REFRESH -/

/-- A refresh of a channel outside self-refresh takes HOT from the last readings. -/
theorem exec_dramRefresh {s : State} {ch : Fin 2} (hp : powered s = true) (hsr : s.dram.chans[ch].sr ≠ 2) :
    exec (.dramRefresh ch) s = .next (updDram (updChan s ch fun c => { c with refreshes := c.refreshes + 1 }) fun d =>
      { d with hot := d.hot || decide (85 < d.chans[(0 : Fin 2)].temp) || decide (85 < d.chans[(1 : Fin 2)].temp) }) := by
  change execDramRefresh ch s = _
  unfold execDramRefresh
  rw [if_pos (by rw [hp, decide_eq_true hsr]; rfl)]

/-- Counting a refresh leaves every reading. -/
theorem temp_of_refreshed (s : State) (ch i : Fin 2) :
    (updChan s ch fun c => { c with refreshes := c.refreshes + 1 }).dram.chans[i].temp = s.dram.chans[i].temp := by
  by_cases h : ch = i
  · rw [h, updChan_self]
  · rw [updChan_ne s _ h]

/-! ### DRAM_TEMP_READ -/

/-- The state with a reading of each device. -/
def tempsRead (t0 t1 : Int) (s : State) : State := updChan (updChan s 0 (tempRead t0)) 1 (tempRead t1)

theorem tempsRead_chan0 (t0 t1 : Int) (s : State) :
    (tempsRead t0 t1 s).dram.chans[(0 : Fin 2)] = tempRead t0 s.dram.chans[(0 : Fin 2)] := by
  rw [tempsRead, updChan_ne _ _ (by decide), updChan_self]

theorem tempsRead_chan1 (t0 t1 : Int) (s : State) :
    (tempsRead t0 t1 s).dram.chans[(1 : Fin 2)] = tempRead t1 s.dram.chans[(1 : Fin 2)] := by
  rw [tempsRead, updChan_self, updChan_ne _ _ (by decide)]

/-- Reading one device leaves the other's count: both new counts follow from the counts of `s`. -/
theorem tempsRead_eq (t0 t1 : Int) (s : State) : tempsRead t0 t1 s =
    updChan (updChan s 0 fun c => { c with temp := t0, hotLow := (tempRead t0 s.dram.chans[(0 : Fin 2)]).hotLow }) 1
      fun c => { c with temp := t1, hotLow := (tempRead t1 s.dram.chans[(1 : Fin 2)]).hotLow } := by
  have hfirst : updChan s 0 (tempRead t0) =
      updChan s 0 fun c => { c with temp := t0, hotLow := (tempRead t0 s.dram.chans[(0 : Fin 2)]).hotLow } :=
    updChan_congr rfl
  rw [tempsRead, hfirst]
  refine updChan_congr ?_
  rw [updChan_ne s _ (by decide)]
  rfl

/-- Both devices have now reported 85 °C or below in 4 consecutive readings. -/
def bothCool (t0 t1 : Int) (s : State) : Bool :=
  decide (4 ≤ (tempRead t0 s.dram.chans[(0 : Fin 2)]).hotLow) && decide (4 ≤ (tempRead t1 s.dram.chans[(1 : Fin 2)]).hotLow)

/-- The state after the two readings, before an event is recorded. -/
def tempsTaken (t0 t1 : Int) (s : State) : State :=
  updDram (tempsRead t0 t1 s) fun d =>
    { d with hot := d.hot && !bothCool t0 t1 s, overtemp := d.overtemp || decide (95 < t0) || decide (95 < t1) }

/-- With a report above 95 °C, OVERTEMP is set. -/
theorem tempsTaken_of_over {t0 t1 : Int} (s : State) (h : 95 < t0 ∨ 95 < t1) :
    tempsTaken t0 t1 s = updDram (updDram (tempsRead t0 t1 s) fun d => { d with hot := d.hot && !bothCool t0 t1 s })
      fun d => { d with overtemp := true } := by
  have hset : ∀ b : Bool, (b || decide (95 < t0) || decide (95 < t1)) = true := fun b => by
    rw [Bool.or_assoc, ← Bool.decide_or, decide_eq_true h, Bool.or_true]
  simp only [tempsTaken, updDram_updDram, hset]

/-- Without one, OVERTEMP stays. -/
theorem tempsTaken_of_not_over {t0 t1 : Int} (s : State) (h : ¬(95 < t0 ∨ 95 < t1)) :
    tempsTaken t0 t1 s = updDram (tempsRead t0 t1 s) fun d => { d with hot := d.hot && !bothCool t0 t1 s } := by
  have hkeep : ∀ b : Bool, (b || decide (95 < t0) || decide (95 < t1)) = b := fun b => by
    rw [Bool.or_assoc, ← Bool.decide_or, decide_eq_false h, Bool.or_false]
  simp only [tempsTaken, hkeep]

/-- Two readings leave `tempsTaken`, and record an event where one is above 95 °C. -/
theorem exec_dramTempRead {s : State} (t0 t1 : Int) (hp : powered s = true) :
    exec (.dramTempRead t0 t1) s = .next (if 95 < t0 ∨ 95 < t1 then
      raise (tempsTaken t0 t1 s) .overtemp 2 0x0D 0 (toPat 32 t0) (toPat 32 t1) else tempsTaken t0 t1 s) := by
  have hlow : (decide (4 ≤ (tempsRead t0 t1 s).dram.chans[(0 : Fin 2)].hotLow) &&
      decide (4 ≤ (tempsRead t0 t1 s).dram.chans[(1 : Fin 2)].hotLow)) = bothCool t0 t1 s := by
    rw [tempsRead_chan0, tempsRead_chan1]; rfl
  change execDramTempRead t0 t1 s = _
  unfold execDramTempRead
  rw [if_pos hp]
  change Host.Outcome.next (if 95 < t0 ∨ 95 < t1 then _ else updDram (tempsRead t0 t1 s) _) = _
  by_cases hover : 95 < t0 ∨ 95 < t1
  · rw [if_pos hover, if_pos hover, tempsTaken_of_over s hover, ← hlow]; rfl
  · rw [if_neg hover, if_neg hover, tempsTaken_of_not_over s hover, ← hlow]; rfl

/-- Settles O54: a refresh leaves the readings it takes HOT from, and a reading's state is `tempsTaken`. -/
theorem deviceTemperature : Obligations.DeviceTemperature := by
  unfold Obligations.DeviceTemperature
  refine ⟨fun s ch hp hsr => ⟨_, exec_dramRefresh hp hsr, ?_⟩, ?_⟩
  · rw [updDram_dram, temp_of_refreshed, temp_of_refreshed, updChan_hot]
    simp only [Bool.or_eq_true, decide_eq_true_eq, or_assoc]
  · rintro s t0 t1 n0 n1 hp rfl rfl
    exact ⟨tempsTaken t0 t1 s, by rw [tempsTaken, tempsRead_eq]; rfl, exec_dramTempRead t0 t1 hp⟩

end Sys2Proof.Machine
end

section
/-! SUPPORT. MailScope: the scope of a mailbox, and a message that names a function outside it (R431). -/

namespace Sys2Proof.Machine

/-- The functions within a mailbox's scope (R431). -/
theorem inScope_iff (s : State) (mb : Mb) (f : Nat) : inScope s mb f = true ↔
    (s.quay.sas = true ∨ mb = 2 ∨ mb = 3 ∨ (mb = 0 ∧ f ≤ 511) ∨ (mb = 1 ∧ 512 ≤ f)) := by
  unfold inScope
  match mb with
  | 0 => simp
  | 1 => simp
  | 2 => simp
  | 3 => simp

/-- Every lifecycle state but DECOMMISSIONED accepts every message (R430). -/
theorem lifeAccepts_of_ne {s : State} (m : Msg) (h : s.sec.life ≠ .decommissioned) : lifeAccepts s m = true := by
  simp [lifeAccepts, h]

/-- CONFIGURE opens the messages that need READ, OPERATE or CONFIGURE (R430). -/
theorem holds_of_configure {s : State} {mb : Mb} {n : Need} (hp : 3 ≤ privOf s mb) (hn : n ∈ [.rd, .op, .cf]) :
    holds s mb n = true := by
  simp only [List.mem_cons, List.not_mem_nil, or_false] at hn
  rcases hn with rfl | rfl | rfl <;> simp only [holds, decide_eq_true_eq] <;> omega

/-- A refused message that needs no authorisation is answered with its refusal, and changes nothing else. -/
theorem serve_of_refusal {s : State} {r : Req} {m : Msg} {st aux : Nat} (i : Instr) (body : State → Ans)
    (hg : gateOf s r.mb m.opc = 0) (hn : m.need ≠ .sg) (h : refusal s r m = some (st, aux)) :
    serve s r m i body = answer s r m.opc st aux [] := by
  simp [serve, hg, h, consumeAuth_of_ne hn]

/-- Command `i` serves message `op`, which names function `f` and needs CONFIGURE at most. -/
def NamesFunction (s : State) (i : Instr) (r : Req) (op f : Nat) : Prop :=
  ∃ (m : Msg) (body : State → Ans), exec i s = .next (serve s r m i body) ∧
    m.opc = op ∧ m.scope = some f ∧ m.need ∈ [.rd, .op, .cf]

section OutOfScope

variable {s : State} {r : Req} {f : Nat} (hr : r.persist = false) (hl : s.sec.life ≠ .decommissioned)
  (hp : 3 ≤ privOf s r.mb) (hf : inScope s r.mb f = false)
include hr hl hp hf

/-- Lifecycle and privilege let the message pass, so its scope is what refuses it (R431). -/
theorem refusal_of_outOfScope {m : Msg} (hs : m.scope = some f) (hn : m.need ∈ [.rd, .op, .cf]) :
    refusal s r m = some (0x0007, 0) := by
  simp [refusal, hr, lifeAccepts_of_ne m hl, holds_of_configure hp hn, hs, hf]

/-- A message that names a function outside the scope of its mailbox is answered SCOPE. -/
theorem exec_of_outOfScope {i : Instr} {op : Nat} (hi : NamesFunction s i r op f) (hg : gateOf s r.mb op = 0) :
    exec i s = .next (answer s r op 0x0007 0 []) := by
  obtain ⟨m, body, hx, rfl, hs, hn⟩ := hi
  have hsg : m.need ≠ .sg := by
    intro h
    simp [h] at hn
  rw [hx, serve_of_refusal i body hg hsg (refusal_of_outOfScope hr hl hp hf hs hn)]

end OutOfScope

/-- A tally message that names a function needs no more than its row says. -/
theorem tallyNeed_of_lt {f : Nat} (mb : Mb) (n : Need) (h : f < 1024) : tallyNeed mb f n = n :=
  if_neg fun hd => absurd hd.1 (by omega)

/-- QUAY_SET_ADMIT needs OPERATE for TAG_LIMIT alone, CONFIGURE for the rest. -/
theorem admitNeed_mem (ps : Params) :
    (if ps.all fun e => decide (e.1 = 1) then Need.op else .cf) ∈ [Need.rd, .op, .cf] := by
  split <;> decide

/-- TALLY_READ names the function whose ring it reads. -/
theorem tallyRead_namesFunction (s : State) (r : Req) {f : Nat} (start count : Nat) (h : f < 1024) :
    NamesFunction s (.tallyRead r f start count) r 0x0801 f :=
  ⟨_, _, rfl, rfl, if_pos h, by simp [tallyNeed_of_lt r.mb .rd h]⟩

/-- TALLY_CLEAR names the function whose ring it restarts. -/
theorem tallyClear_namesFunction (s : State) (r : Req) {f : Nat} (h : f < 1024) :
    NamesFunction s (.tallyClear r f) r 0x0802 f :=
  ⟨_, _, rfl, rfl, if_pos h, by simp [Nat.not_le.mpr h]⟩

/-- Settles O53: each message names its function as its scope and needs CONFIGURE at most, so the refusal is SCOPE. -/
theorem scopeChecked : Obligations.ScopeChecked := by
  unfold Obligations.ScopeChecked
  refine ⟨fun s mb f _ => inScope_iff s mb f, fun s i r op f hi hlt hg hr hl hp hf => ?_⟩
  refine exec_of_outOfScope hr hl hp hf ?_ hg
  rcases hi with ⟨word, rfl, rfl⟩ | ⟨rfl, rfl⟩ | ⟨ps, rfl, rfl⟩ | ⟨qid, rfl, rfl⟩ | ⟨start, count, rfl, rfl⟩ |
    ⟨rfl, rfl⟩ | ⟨rfl, rfl⟩
  · exact ⟨_, _, rfl, rfl, rfl, by simp⟩
  · exact ⟨_, _, rfl, rfl, rfl, by simp⟩
  · exact ⟨_, _, rfl, rfl, rfl, admitNeed_mem ps⟩
  · exact ⟨_, _, rfl, rfl, rfl, by simp⟩
  · exact tallyRead_namesFunction s r start count hlt
  · exact tallyClear_namesFunction s r hlt
  · exact ⟨_, _, rfl, rfl, rfl, by simp⟩

end Sys2Proof.Machine
end

section
/-! SUPPORT. RequestBytes: a well-formed message written as the bytes of its request is read again as itself
(R421, R425, R426, R435). -/

namespace Sys2Proof.Machine

/-! ### Operands that fit their fields -/

@[simp] theorem fitsN_iff (w n : Nat) : fitsN w n = true ↔ n < 2 ^ w := by simp [fitsN]
@[simp] theorem fitsLen_iff {α : Type} (n : Nat) (l : List α) : fitsLen n l = true ↔ l.length = n := by simp [fitsLen]
@[simp] theorem reqFits_iff (r : Req) : r.fits = true ↔ r.seq < 2 ^ 32 := by simp [Req.fits]

/-- The pattern of a signed number fits its bits. -/
theorem toPat_lt (w : Nat) (i : Int) : toPat w i < 2 ^ w := by
  have h := Int.emod_lt_of_pos i (show (0 : Int) < 2 ^ w by positivity)
  have := Int.emod_nonneg i (show (2 ^ w : Int) ≠ 0 by positivity)
  unfold toPat
  zify
  omega

/-- A signed number that fits its bits is read again from its pattern. -/
theorem ofPat_toPat {w : Nat} {i : Int} (h : fitsI (w + 1) i = true) : ofPat (w + 1) (toPat (w + 1) i) = i := by
  simp only [fitsI, Bool.and_eq_true, decide_eq_true_eq, Nat.add_sub_cancel] at h
  have hm : ((toPat (w + 1) i : Nat) : Int) = i % 2 ^ (w + 1) := by
    unfold toPat
    exact Int.toNat_of_nonneg (Int.emod_nonneg _ (by positivity))
  have hp : (2 : Int) ^ (w + 1) = 2 * 2 ^ w := by ring
  unfold ofPat
  dsimp only
  rw [Nat.mod_eq_of_lt (toPat_lt _ _), Nat.add_sub_cancel]
  by_cases hi : 0 ≤ i
  · have e : i % 2 ^ (w + 1) = i := Int.emod_eq_of_lt hi (by omega)
    rw [if_pos (by zify; omega)]
    omega
  · have e : i % 2 ^ (w + 1) = i + 2 ^ (w + 1) := by
      rw [← Int.add_emod_right, Int.emod_eq_of_lt (by omega) (by omega)]
    rw [if_neg (by zify; omega)]
    omega

/-- Signed numbers that fit their bits are read again from their patterns. -/
theorem map_ofPat_toPat {w : Nat} {l : List Int} (h : l.all (fitsI (w + 1)) = true) :
    l.map (ofPat (w + 1) ∘ toPat (w + 1)) = l :=
  (List.map_congr_left fun i hi => ofPat_toPat (List.all_eq_true.1 h i hi)).trans (List.map_id l)

/-- Words are read again from their numbers. -/
theorem map_ofNat_toNat {w : Nat} (l : List (BitVec w)) : l.map (BitVec.ofNat w ∘ BitVec.toNat) = l :=
  (List.map_congr_left fun x _ => by simp).trans (List.map_id l)

/-! ### Values that fit a payload -/

@[simp] theorem vals_a (v : Vals) (i : Nat) : v.a i = v.nums.getD i 0 := rfl
@[simp] theorem vals_w (v : Vals) (n i : Nat) : v.w n i = BitVec.ofNat n (v.nums.getD i 0) := rfl

@[simp] theorem fits_nil (all : List Nat) (v : Vals) : Fits all [] v ↔ v = {} := Iff.rfl
@[simp] theorem fits_num (all : List Nat) (w : Nat) (fs : List Fld) (v : Vals) : Fits all (.num w :: fs) v ↔
    0 < w ∧ 1 ≤ v.nums.length ∧ (∀ x ∈ v.nums.take 1, x < 2 ^ (8 * w)) ∧ Fits all fs { v with nums := v.nums.drop 1 } := Iff.rfl
@[simp] theorem fits_rep (all : List Nat) (n w : Nat) (fs : List Fld) (v : Vals) : Fits all (.rep n w :: fs) v ↔
    0 < w ∧ n ≤ v.nums.length ∧ (∀ x ∈ v.nums.take n, x < 2 ^ (8 * w)) ∧ Fits all fs { v with nums := v.nums.drop n } := Iff.rfl
@[simp] theorem fits_arr (all : List Nat) (n : Nat) (fs : List Fld) (v : Vals) : Fits all (.arr n :: fs) v ↔
    fs = [] ∧ v.nums = [] ∧ v.pars = [] ∧ v.data.length = n := Iff.rfl
@[simp] theorem fits_rest (all : List Nat) (fs : List Fld) (v : Vals) : Fits all (.rest :: fs) v ↔
    fs = [] ∧ v.nums = [] ∧ v.pars = [] := Iff.rfl
@[simp] theorem fits_mask (all ns : List Nat) (fs : List Fld) (v : Vals) : Fits all (.mask ns :: fs) v ↔
    fs = [] ∧ v.nums = [] ∧ v.data = [] ∧ ns.length ≤ 32 ∧ fitsPars ns v.pars = true := Iff.rfl

/-! ### A message read back -/

/-- Message `i` written as the bytes of its request and read again is `i`. -/
def ReadsBack (i : Instr) : Prop :=
  ∀ m, messageOf i = some m → i.wf = true → ∃ bs, requestBytes i = some bs ∧ requestOf m.1.mb bs = some i

/-- What is no message has no request to read. -/
theorem readsBack_of_silent {i : Instr} (h : messageOf i = none) : ReadsBack i :=
  fun m hm => by rw [h] at hm; cases hm

/-- What the operands of a well-formed message give: SEQ and the payload's fields hold them, the payload is no longer
than a request carries, and the catalogue's entry makes the same command of them. -/
structure Carried (e : Entry) (r : Req) (v : Vals) (i : Instr) : Prop where
  seq : r.seq < 2 ^ 32
  fits : Fits v.nums e.flds v
  ends : endsBy v.nums v.data.length e.flds 0 ≤ 2016
  make : e.make r v = some i

theorem readsBack_of {i : Instr} {r : Req} {op : Nat} {v : Vals} {e : Entry} (hm : messageOf i = some (r, op, v))
    (he : (catalogue.find? fun e => decide (e.opc = op)) = some e) (hop : op < 65536) (hc : i.wf = true → Carried e r v i) :
    ReadsBack i := fun m h hw => by
  obtain rfl : (r, op, v) = m := Option.some.inj (hm.symm.trans h)
  obtain ⟨hs, hf, hl, hk⟩ := hc hw
  exact requestOf_requestBytes hm he hop hs hf hl hk

/-! ### Each message of the catalogue -/

theorem mbxGetInfo_readsBack (r : Req) : ReadsBack (.mbxGetInfo r) :=
  readsBack_of rfl rfl (by decide) fun (h : r.fits = true) => by
    simp at h
    constructor <;> simp [endsBy, h]
theorem mbxGetNotify_readsBack (r : Req) (max : Nat) : ReadsBack (.mbxGetNotify r max) :=
  readsBack_of rfl rfl (by decide) fun (h : (r.fits && fitsN 8 max) = true) => by
    simp at h
    constructor <;> simp [endsBy, h]
theorem mbxSetNotify_readsBack (r : Req) (groups : BitVec 16) (minSev flags : Nat) :
    ReadsBack (.mbxSetNotify r groups minSev flags) :=
  readsBack_of rfl rfl (by decide) fun (h : (r.fits && fitsN 8 minSev && fitsN 8 flags) = true) => by
    simp at h
    constructor <;> simp [endsBy, h, groups.isLt]
theorem mbxSetPriv_readsBack (r : Req) (index priv : Nat) : ReadsBack (.mbxSetPriv r index priv) :=
  readsBack_of rfl rfl (by decide) fun (h : (r.fits && fitsN 8 index && fitsN 8 priv) = true) => by
    simp at h
    constructor <;> simp [endsBy, h]
theorem mbxStageWrite_readsBack (r : Req) (offset : Nat) (data : List Byte) : ReadsBack (.mbxStageWrite r offset data) :=
  readsBack_of rfl rfl (by decide) fun (h : (r.fits && fitsN 32 offset && decide (data.length ≤ 2012)) = true) => by
    simp at h
    constructor
    case ends => simp [endsBy]; omega
    all_goals simp [h]
theorem mbxStageRead_readsBack (r : Req) (offset length : Nat) : ReadsBack (.mbxStageRead r offset length) :=
  readsBack_of rfl rfl (by decide) fun (h : (r.fits && fitsN 32 offset && fitsN 16 length) = true) => by
    simp at h
    constructor <;> simp [endsBy, h]
theorem mbxStageClear_readsBack (r : Req) : ReadsBack (.mbxStageClear r) :=
  readsBack_of rfl rfl (by decide) fun (h : r.fits = true) => by
    simp at h
    constructor <;> simp [endsBy, h]
theorem quaySetMoormode_readsBack (r : Req) (fullNext : Nat) : ReadsBack (.quaySetMoormode r fullNext) :=
  readsBack_of rfl rfl (by decide) fun (h : (r.fits && fitsN 8 fullNext) = true) => by
    simp at h
    constructor <;> simp [endsBy, h]
theorem quaySetArb_readsBack (r : Req) (ps : Params) : ReadsBack (.quaySetArb r ps) :=
  readsBack_of rfl rfl (by decide) fun (h : (r.fits && fitsPars [1, 1, 1, 1] ps) = true) => by
    simp at h
    constructor <;> simp [endsBy, h]
theorem quaySetAllot_readsBack (r : Req) (func : Nat) (word : BitVec 64) : ReadsBack (.quaySetAllot r func word) :=
  readsBack_of rfl rfl (by decide) fun (h : (r.fits && fitsN 16 func) = true) => by
    simp at h
    constructor <;> simp [endsBy, h, word.isLt]
theorem quayGetAllot_readsBack (r : Req) (func : Nat) : ReadsBack (.quayGetAllot r func) :=
  readsBack_of rfl rfl (by decide) fun (h : (r.fits && fitsN 16 func) = true) => by
    simp at h
    constructor <;> simp [endsBy, h]
theorem quaySetAdmit_readsBack (r : Req) (func : Nat) (ps : Params) : ReadsBack (.quaySetAdmit r func ps) :=
  readsBack_of rfl rfl (by decide) fun (h : (r.fits && fitsN 16 func && fitsPars [1, 1, 1] ps) = true) => by
    simp at h
    constructor <;> simp [endsBy, h]
theorem drcSetScrub_readsBack (r : Req) (ps : Params) : ReadsBack (.drcSetScrub r ps) :=
  readsBack_of rfl rfl (by decide) fun (h : (r.fits && fitsPars [4, 1] ps) = true) => by
    simp at h
    constructor <;> simp [endsBy, h]
theorem drcSetPort_readsBack (r : Req) (port : Nat) (ps : Params) : ReadsBack (.drcSetPort r port ps) :=
  readsBack_of rfl rfl (by decide) fun (h : (r.fits && fitsN 8 port && fitsPars [1, 1, 1, 1] ps) = true) => by
    simp at h
    constructor <;> simp [endsBy, h]
theorem drcSetTrain_readsBack (r : Req) (ps : Params) : ReadsBack (.drcSetTrain r ps) :=
  readsBack_of rfl rfl (by decide) fun (h : (r.fits && fitsPars [1, 1] ps) = true) => by
    simp at h
    constructor <;> simp [endsBy, h]
theorem quaySetDrivePower_readsBack (r : Req) (maxpwr : Nat) : ReadsBack (.quaySetDrivePower r maxpwr) :=
  readsBack_of rfl rfl (by decide) fun (h : (r.fits && fitsN 32 maxpwr) = true) => by
    simp at h
    constructor <;> simp [endsBy, h]
theorem lkbSetSurface_readsBack (r : Req) (head surface pL : Nat) (index : Int) (lin : List Int) :
    ReadsBack (.lkbSetSurface r head surface pL index lin) :=
  readsBack_of rfl rfl (by decide) fun (h : (r.fits && fitsN 8 head && fitsN 8 surface && fitsN 32 pL && fitsI 32 index &&
      fitsLen 256 lin && lin.all (fitsI 16)) = true) => by
    rw [Bool.and_eq_true, Bool.and_eq_true, Bool.and_eq_true] at h
    obtain ⟨⟨⟨hn, hi⟩, hl⟩, ha⟩ := h
    have hw : ∀ x ∈ lin, toPat 16 x < 65536 := fun x _ => toPat_lt 16 x
    simp at hn hl
    constructor
    case fits => simp [hn, hl, List.take_of_length_le]; exact ⟨toPat_lt 32 index, hw⟩
    case make => simp [ofPat_toPat hi, map_ofPat_toPat ha]
    all_goals simp [hn, endsBy]
theorem lkbSetZoneMap_readsBack (r : Req) (surface : Nat) (first : List Nat) :
    ReadsBack (.lkbSetZoneMap r surface first) :=
  readsBack_of rfl rfl (by decide) fun (h : (r.fits && fitsN 8 surface && fitsLen 63 first && first.all (fitsN 32)) = true) => by
    simp at h
    obtain ⟨hn, ha⟩ := h
    constructor <;> simp [hn, endsBy, List.take_of_length_le, List.drop_of_length_le]
    exact ha
theorem lkbSetRatio_readsBack (r : Req) (head zone : Nat) (word : BitVec 32) :
    ReadsBack (.lkbSetRatio r head zone word) :=
  readsBack_of rfl rfl (by decide) fun (h : (r.fits && fitsN 8 head && fitsN 8 zone) = true) => by
    simp at h
    constructor <;> simp [endsBy, h, word.isLt]
theorem lkbSetGuard_readsBack (r : Req) (act : Nat) (word : BitVec 32) : ReadsBack (.lkbSetGuard r act word) :=
  readsBack_of rfl rfl (by decide) fun (h : (r.fits && fitsN 8 act) = true) => by
    simp at h
    constructor <;> simp [endsBy, h, word.isLt]
theorem lkbSetDemod_readsBack (r : Req) (head stream : Nat) (ps : Params) : ReadsBack (.lkbSetDemod r head stream ps) :=
  readsBack_of rfl rfl (by decide) fun (h : (r.fits && fitsN 8 head && fitsN 8 stream && fitsPars [1, 1, 1, 1] ps) = true) => by
    simp at h
    constructor <;> simp [endsBy, h]
theorem lkbGetStatus_readsBack (r : Req) (stream : Nat) (clear : BitVec 64) :
    ReadsBack (.lkbGetStatus r stream clear) :=
  readsBack_of rfl rfl (by decide) fun (h : (r.fits && fitsN 8 stream) = true) => by
    simp at h
    constructor <;> simp [endsBy, h, clear.isLt]
theorem lkbReadPosition_readsBack (r : Req) (stream : Nat) : ReadsBack (.lkbReadPosition r stream) :=
  readsBack_of rfl rfl (by decide) fun (h : (r.fits && fitsN 8 stream) = true) => by
    simp at h
    constructor <;> simp [endsBy, h]
theorem loopSetLaw_readsBack (r : Req) (act law count start : Nat) (words : List (BitVec 32)) :
    ReadsBack (.loopSetLaw r act law count start words) :=
  readsBack_of rfl rfl (by decide) fun (h : (r.fits && fitsN 8 act && fitsN 8 law && fitsN 8 count && fitsN 16 start &&
      decide (count ≤ 83) && fitsLen (count * 6) words) = true) => by
    simp at h
    have hw : ∀ x ∈ words, x.toNat < 4294967296 := fun x _ => x.isLt
    constructor
    case fits => simp [h, Fits, List.take_of_length_le]; exact ⟨by omega, hw⟩
    case make => simp [map_ofNat_toNat]
    case ends => simp [endsBy]; omega
    case seq => simp [h]
theorem loopSetRwo_readsBack (r : Req) (head : Nat) (vals : List Int) : ReadsBack (.loopSetRwo r head vals) :=
  readsBack_of rfl rfl (by decide) fun (h : (r.fits && fitsN 8 head && fitsLen 64 vals && vals.all (fitsI 32)) = true) => by
    rw [Bool.and_eq_true] at h
    obtain ⟨hn, ha⟩ := h
    have hw : ∀ x ∈ vals, toPat 32 x < 4294967296 := fun x _ => toPat_lt 32 x
    simp at hn
    constructor
    case fits => simp [hn, List.take_of_length_le, List.drop_of_length_le]; exact hw
    case make => simp [map_ofPat_toPat ha]
    all_goals simp [hn, endsBy]
theorem loopSetMaGain_readsBack (r : Req) (head gain : Nat) : ReadsBack (.loopSetMaGain r head gain) :=
  readsBack_of rfl rfl (by decide) fun (h : (r.fits && fitsN 8 head && fitsN 32 gain) = true) => by
    simp at h
    constructor <;> simp [endsBy, h]
theorem loopSetSeek_readsBack (r : Req) (act : Nat) (ps : Params) : ReadsBack (.loopSetSeek r act ps) :=
  readsBack_of rfl rfl (by decide) fun (h : (r.fits && fitsN 8 act && fitsPars [1, 1, 1, 1, 1, 1, 1] ps) = true) => by
    simp at h
    constructor <;> simp [endsBy, h]
theorem loopSetFollow_readsBack (r : Req) (act : Nat) (ps : Params) : ReadsBack (.loopSetFollow r act ps) :=
  readsBack_of rfl rfl (by decide) fun (h : (r.fits && fitsN 8 act && fitsPars [1, 1, 1, 1, 1, 1, 1] ps) = true) => by
    simp at h
    constructor <;> simp [endsBy, h]
theorem loopSetTwin_readsBack (r : Req) (act : Nat) (ps : Params) : ReadsBack (.loopSetTwin r act ps) :=
  readsBack_of rfl rfl (by decide) fun (h : (r.fits && fitsN 8 act && fitsPars [1, 1, 1, 1, 1, 4] ps) = true) => by
    simp at h
    constructor <;> simp [endsBy, h]
theorem loopGetStatus_readsBack (r : Req) (act : Nat) (clear : BitVec 64) : ReadsBack (.loopGetStatus r act clear) :=
  readsBack_of rfl rfl (by decide) fun (h : (r.fits && fitsN 8 act) = true) => by
    simp at h
    constructor <;> simp [endsBy, h, clear.isLt]
theorem chnSetFormat_readsBack (r : Req) (head zone : Nat) (word : BitVec 32) :
    ReadsBack (.chnSetFormat r head zone word) :=
  readsBack_of rfl rfl (by decide) fun (h : (r.fits && fitsN 8 head && fitsN 8 zone) = true) => by
    simp at h
    constructor <;> simp [endsBy, h, word.isLt]
theorem chnSetFrontend_readsBack (r : Req) (head zone : Nat) (ps : Params) :
    ReadsBack (.chnSetFrontend r head zone ps) :=
  readsBack_of rfl rfl (by decide) fun (h : (r.fits && fitsN 8 head && fitsN 8 zone && fitsPars [1, 1, 1, 1] ps) = true) => by
    simp at h
    constructor <;> simp [endsBy, h]
theorem chnSetEq_readsBack (r : Req) (head zone stream : Nat) (ps : Params) :
    ReadsBack (.chnSetEq r head zone stream ps) :=
  readsBack_of rfl rfl (by decide) fun (h : (r.fits && fitsN 8 head && fitsN 8 zone && fitsN 8 stream && fitsPars [96, 1, 1, 1, 1] ps) = true) => by
    simp at h
    constructor <;> simp [endsBy, h]
theorem chnSetDetector_readsBack (r : Req) (head zone : Nat) (ps : Params) :
    ReadsBack (.chnSetDetector r head zone ps) :=
  readsBack_of rfl rfl (by decide) fun (h : (r.fits && fitsN 8 head && fitsN 8 zone && fitsPars [24, 1, 1, 1] ps) = true) => by
    simp at h
    constructor <;> simp [endsBy, h]
theorem chnSetSync_readsBack (r : Req) (head zone : Nat) (ps : Params) : ReadsBack (.chnSetSync r head zone ps) :=
  readsBack_of rfl rfl (by decide) fun (h : (r.fits && fitsN 8 head && fitsN 8 zone && fitsPars [1, 1, 1, 1] ps) = true) => by
    simp at h
    constructor <;> simp [endsBy, h]
theorem chnSetRecovery_readsBack (r : Req) (stream : Nat) (ps : Params) : ReadsBack (.chnSetRecovery r stream ps) :=
  readsBack_of rfl rfl (by decide) fun (h : (r.fits && fitsN 8 stream && fitsPars [1, 1, 1, 1, 1, 1] ps) = true) => by
    simp at h
    constructor <;> simp [endsBy, h]
theorem chnGetStatus_readsBack (r : Req) (stream : Nat) (clear : BitVec 64) :
    ReadsBack (.chnGetStatus r stream clear) :=
  readsBack_of rfl rfl (by decide) fun (h : (r.fits && fitsN 8 stream) = true) => by
    simp at h
    constructor <;> simp [endsBy, h, clear.isLt]
theorem chnCapture_readsBack (r : Req) (head slot track count : Nat) :
    ReadsBack (.chnCapture r head slot track count) :=
  readsBack_of rfl rfl (by decide) fun (h : (r.fits && fitsN 8 head && fitsN 16 slot && fitsN 32 track && fitsN 32 count) = true) => by
    simp at h
    constructor <;> simp [endsBy, h]
theorem wrpSetFormat_readsBack (r : Req) (head zone : Nat) (ps : Params) : ReadsBack (.wrpSetFormat r head zone ps) :=
  readsBack_of rfl rfl (by decide) fun (h : (r.fits && fitsN 8 head && fitsN 8 zone && fitsPars [1, 1, 1, 1] ps) = true) => by
    simp at h
    constructor <;> simp [endsBy, h]
theorem wrpSetAssist_readsBack (r : Req) (head zone : Nat) (ps : Params) : ReadsBack (.wrpSetAssist r head zone ps) :=
  readsBack_of rfl rfl (by decide) fun (h : (r.fits && fitsN 8 head && fitsN 8 zone && fitsPars [1, 5, 5, 1, 1, 1, 1] ps) = true) => by
    simp at h
    constructor <;> simp [endsBy, h]
theorem wrpSetFh_readsBack (r : Req) (head zone : Nat) (ps : Params) : ReadsBack (.wrpSetFh r head zone ps) :=
  readsBack_of rfl rfl (by decide) fun (h : (r.fits && fitsN 8 head && fitsN 8 zone && fitsPars [5, 5, 1, 1, 1] ps) = true) => by
    simp at h
    constructor <;> simp [endsBy, h]
theorem wrpSetLimits_readsBack (r : Req) (ps : Params) : ReadsBack (.wrpSetLimits r ps) :=
  readsBack_of rfl rfl (by decide) fun (h : (r.fits && fitsPars [1, 1, 1, 1, 1, 1, 1, 1] ps) = true) => by
    simp at h
    constructor <;> simp [endsBy, h]
theorem wrpSetWear_readsBack (r : Req) (head : Nat) (ps : Params) : ReadsBack (.wrpSetWear r head ps) :=
  readsBack_of rfl rfl (by decide) fun (h : (r.fits && fitsN 8 head && fitsPars [1, 1, 1] ps) = true) => by
    simp at h
    constructor <;> simp [endsBy, h]
theorem wrpOpenBand_readsBack (r : Req) (act : Nat) (desc : BitVec 256) : ReadsBack (.wrpOpenBand r act desc) :=
  readsBack_of rfl rfl (by decide) fun (h : (r.fits && fitsN 8 act) = true) => by
    simp at h
    constructor <;> simp [endsBy, h, leNat_leBytes (n := 32) desc.isLt]
theorem wrpCloseBand_readsBack (r : Req) (act ctx : Nat) : ReadsBack (.wrpCloseBand r act ctx) :=
  readsBack_of rfl rfl (by decide) fun (h : (r.fits && fitsN 8 act && fitsN 8 ctx) = true) => by
    simp at h
    constructor <;> simp [endsBy, h]
theorem wrpStop_readsBack (r : Req) (act : Nat) : ReadsBack (.wrpStop r act) :=
  readsBack_of rfl rfl (by decide) fun (h : (r.fits && fitsN 8 act) = true) => by
    simp at h
    constructor <;> simp [endsBy, h]
theorem wrpRelease_readsBack (r : Req) (head : Nat) : ReadsBack (.wrpRelease r head) :=
  readsBack_of rfl rfl (by decide) fun (h : (r.fits && fitsN 8 head) = true) => by
    simp at h
    constructor <;> simp [endsBy, h]
theorem wrpGetStatus_readsBack (r : Req) (act : Nat) (clear : BitVec 64) : ReadsBack (.wrpGetStatus r act clear) :=
  readsBack_of rfl rfl (by decide) fun (h : (r.fits && fitsN 8 act) = true) => by
    simp at h
    constructor <;> simp [endsBy, h, clear.isLt]
theorem wrpGetWear_readsBack (r : Req) (head : Nat) : ReadsBack (.wrpGetWear r head) :=
  readsBack_of rfl rfl (by decide) fun (h : (r.fits && fitsN 8 head) = true) => by
    simp at h
    constructor <;> simp [endsBy, h]
theorem brtSetLayout_readsBack (r : Req) (nsid layout : Nat) : ReadsBack (.brtSetLayout r nsid layout) :=
  readsBack_of rfl rfl (by decide) fun (h : (r.fits && fitsN 32 nsid && fitsN 8 layout) = true) => by
    simp at h
    constructor <;> simp [endsBy, h]
theorem brtSetLimits_readsBack (r : Req) (ps : Params) : ReadsBack (.brtSetLimits r ps) :=
  readsBack_of rfl rfl (by decide) fun (h : (r.fits && fitsPars [1, 1, 1, 1, 1, 1, 1, 1] ps) = true) => by
    simp at h
    constructor <;> simp [endsBy, h]
theorem brtSetPatrol_readsBack (r : Req) (ps : Params) : ReadsBack (.brtSetPatrol r ps) :=
  readsBack_of rfl rfl (by decide) fun (h : (r.fits && fitsPars [1, 1] ps) = true) => by
    simp at h
    constructor <;> simp [endsBy, h]
theorem brtSetCkpt_readsBack (r : Req) (ps : Params) : ReadsBack (.brtSetCkpt r ps) :=
  readsBack_of rfl rfl (by decide) fun (h : (r.fits && fitsPars [1, 1, 1, 1] ps) = true) => by
    simp at h
    constructor <;> simp [endsBy, h]
theorem brtCheckpoint_readsBack (r : Req) : ReadsBack (.brtCheckpoint r) :=
  readsBack_of rfl rfl (by decide) fun (h : r.fits = true) => by
    simp at h
    constructor <;> simp [endsBy, h]
theorem brtGetBerth_readsBack (r : Req) (berth skip : Nat) : ReadsBack (.brtGetBerth r berth skip) :=
  readsBack_of rfl rfl (by decide) fun (h : (r.fits && fitsN 32 berth && fitsN 16 skip) = true) => by
    simp at h
    constructor <;> simp [endsBy, h]
theorem brtGetStatus_readsBack (r : Req) (clear : BitVec 64) : ReadsBack (.brtGetStatus r clear) :=
  readsBack_of rfl rfl (by decide) fun (h : r.fits = true) => by
    simp at h
    constructor <;> simp [endsBy, h, clear.isLt]
theorem brtSetHead_readsBack (r : Req) (head state : Nat) : ReadsBack (.brtSetHead r head state) :=
  readsBack_of rfl rfl (by decide) fun (h : (r.fits && fitsN 8 head && fitsN 8 state) = true) => by
    simp at h
    constructor <;> simp [endsBy, h]
theorem brtSetHealth_readsBack (r : Req) (ps : Params) : ReadsBack (.brtSetHealth r ps) :=
  readsBack_of rfl rfl (by decide) fun (h : (r.fits && fitsPars [1, 1, 1, 1, 1, 1] ps) = true) => by
    simp at h
    constructor <;> simp [endsBy, h]
theorem brtSetRebuild_readsBack (r : Req) (ps : Params) : ReadsBack (.brtSetRebuild r ps) :=
  readsBack_of rfl rfl (by decide) fun (h : (r.fits && fitsPars [1, 1, 1, 1, 1] ps) = true) => by
    simp at h
    constructor <;> simp [endsBy, h]
theorem brtReshape_readsBack (r : Req) (kind layout target : Nat) : ReadsBack (.brtReshape r kind layout target) :=
  readsBack_of rfl rfl (by decide) fun (h : (r.fits && fitsN 8 kind && fitsN 8 layout && fitsN 32 target) = true) => by
    simp at h
    constructor <;> simp [endsBy, h]
theorem brtGetRebuild_readsBack (r : Req) (berth : Nat) (clear : BitVec 64) :
    ReadsBack (.brtGetRebuild r berth clear) :=
  readsBack_of rfl rfl (by decide) fun (h : (r.fits && fitsN 32 berth) = true) => by
    simp at h
    constructor <;> simp [endsBy, h, clear.isLt]
theorem brtGetLost_readsBack (r : Req) (nsid start : Nat) : ReadsBack (.brtGetLost r nsid start) :=
  readsBack_of rfl rfl (by decide) fun (h : (r.fits && fitsN 32 nsid && fitsN 32 start) = true) => by
    simp at h
    constructor <;> simp [endsBy, h]
theorem brtGetReloc_readsBack (r : Req) (index : Nat) : ReadsBack (.brtGetReloc r index) :=
  readsBack_of rfl rfl (by decide) fun (h : (r.fits && fitsN 32 index) = true) => by
    simp at h
    constructor <;> simp [endsBy, h]
theorem brtGetHead_readsBack (r : Req) (head : Nat) : ReadsBack (.brtGetHead r head) :=
  readsBack_of rfl rfl (by decide) fun (h : (r.fits && fitsN 8 head) = true) => by
    simp at h
    constructor <;> simp [endsBy, h]
theorem spnSetSpeed_readsBack (r : Req) (rpm cls : Nat) : ReadsBack (.spnSetSpeed r rpm cls) :=
  readsBack_of rfl rfl (by decide) fun (h : (r.fits && fitsN 32 rpm && fitsN 8 cls) = true) => by
    simp at h
    constructor <;> simp [endsBy, h]
theorem spnSetPolicy_readsBack (r : Req) (ps : Params) : ReadsBack (.spnSetPolicy r ps) :=
  readsBack_of rfl rfl (by decide) fun (h : (r.fits && fitsPars [1, 1, 1, 1, 1, 1, 1, 1] ps) = true) => by
    simp at h
    constructor <;> simp [endsBy, h]
theorem spnSetLimits_readsBack (r : Req) (ps : Params) : ReadsBack (.spnSetLimits r ps) :=
  readsBack_of rfl rfl (by decide) fun (h : (r.fits && fitsPars [1, 1, 1, 1, 1, 1, 1, 1, 1, 1, 1, 1, 1, 1, 1] ps) = true) => by
    simp at h
    constructor <;> simp [endsBy, h]
theorem spnSetMotor_readsBack (r : Req) (ps : Params) : ReadsBack (.spnSetMotor r ps) :=
  readsBack_of rfl rfl (by decide) fun (h : (r.fits && fitsPars [1, 1, 1, 1, 1, 1] ps) = true) => by
    simp at h
    constructor <;> simp [endsBy, h]
theorem spnStart_readsBack (r : Req) : ReadsBack (.spnStart r) :=
  readsBack_of rfl rfl (by decide) fun (h : r.fits = true) => by
    simp at h
    constructor <;> simp [endsBy, h]
theorem spnStop_readsBack (r : Req) : ReadsBack (.spnStop r) :=
  readsBack_of rfl rfl (by decide) fun (h : r.fits = true) => by
    simp at h
    constructor <;> simp [endsBy, h]
theorem spnGetStatus_readsBack (r : Req) (clear : BitVec 64) : ReadsBack (.spnGetStatus r clear) :=
  readsBack_of rfl rfl (by decide) fun (h : r.fits = true) => by
    simp at h
    constructor <;> simp [endsBy, h, clear.isLt]
theorem evtSetCursor_readsBack (r : Req) (mode position : Nat) : ReadsBack (.evtSetCursor r mode position) :=
  readsBack_of rfl rfl (by decide) fun (h : (r.fits && fitsN 8 mode && fitsN 32 position) = true) => by
    simp at h
    constructor <;> simp [endsBy, h]
theorem evtRead_readsBack (r : Req) (count : Nat) : ReadsBack (.evtRead r count) :=
  readsBack_of rfl rfl (by decide) fun (h : (r.fits && fitsN 8 count) = true) => by
    simp at h
    constructor <;> simp [endsBy, h]
theorem evtClear_readsBack (r : Req) : ReadsBack (.evtClear r) :=
  readsBack_of rfl rfl (by decide) fun (h : r.fits = true) => by
    simp at h
    constructor <;> simp [endsBy, h]
theorem ctrRead_readsBack (r : Req) (scope index : Nat) : ReadsBack (.ctrRead r scope index) :=
  readsBack_of rfl rfl (by decide) fun (h : (r.fits && fitsN 8 scope && fitsN 8 index) = true) => by
    simp at h
    constructor <;> simp [endsBy, h]
theorem hbmGetIncident_readsBack (r : Req) (index : Nat) : ReadsBack (.hbmGetIncident r index) :=
  readsBack_of rfl rfl (by decide) fun (h : (r.fits && fitsN 16 index) = true) => by
    simp at h
    constructor <;> simp [endsBy, h]
theorem tallyRead_readsBack (r : Req) (func start count : Nat) : ReadsBack (.tallyRead r func start count) :=
  readsBack_of rfl rfl (by decide) fun (h : (r.fits && fitsN 16 func && fitsN 16 start && fitsN 8 count) = true) => by
    simp at h
    constructor <;> simp [endsBy, h]
theorem tallyClear_readsBack (r : Req) (func : Nat) : ReadsBack (.tallyClear r func) :=
  readsBack_of rfl rfl (by decide) fun (h : (r.fits && fitsN 16 func) = true) => by
    simp at h
    constructor <;> simp [endsBy, h]
theorem hbmGetLedger_readsBack (r : Req) (clear : BitVec 64) : ReadsBack (.hbmGetLedger r clear) :=
  readsBack_of rfl rfl (by decide) fun (h : r.fits = true) => by
    simp at h
    constructor <;> simp [endsBy, h, clear.isLt]
theorem plkGetStatus_readsBack (r : Req) (act : Nat) (clear : BitVec 64) : ReadsBack (.plkGetStatus r act clear) :=
  readsBack_of rfl rfl (by decide) fun (h : (r.fits && fitsN 8 act) = true) => by
    simp at h
    constructor <;> simp [endsBy, h, clear.isLt]
theorem pslGetStatus_readsBack (r : Req) (clear : BitVec 64) : ReadsBack (.pslGetStatus r clear) :=
  readsBack_of rfl rfl (by decide) fun (h : r.fits = true) => by
    simp at h
    constructor <;> simp [endsBy, h, clear.isLt]
theorem plkRegAccess_readsBack (r : Req) (act op addr data : Nat) : ReadsBack (.plkRegAccess r act op addr data) :=
  readsBack_of rfl rfl (by decide) fun (h : (r.fits && fitsN 8 act && fitsN 8 op && fitsN 16 addr && fitsN 16 data) = true) => by
    simp at h
    constructor <;> simp [endsBy, h]
theorem pslRegAccess_readsBack (r : Req) (op addr data : Nat) : ReadsBack (.pslRegAccess r op addr data) :=
  readsBack_of rfl rfl (by decide) fun (h : (r.fits && fitsN 8 op && fitsN 8 addr && fitsN 8 data) = true) => by
    simp at h
    constructor <;> simp [endsBy, h]
theorem lnkSetLimits_readsBack (r : Req) (ps : Params) : ReadsBack (.lnkSetLimits r ps) :=
  readsBack_of rfl rfl (by decide) fun (h : (r.fits && fitsPars [1] ps) = true) => by
    simp at h
    constructor <;> simp [endsBy, h]
theorem quayGetMooring_readsBack (r : Req) (func qid : Nat) : ReadsBack (.quayGetMooring r func qid) :=
  readsBack_of rfl rfl (by decide) fun (h : (r.fits && fitsN 16 func && fitsN 16 qid) = true) => by
    simp at h
    constructor <;> simp [endsBy, h]
theorem quayGetTag_readsBack (r : Req) (tag : Nat) : ReadsBack (.quayGetTag r tag) :=
  readsBack_of rfl rfl (by decide) fun (h : (r.fits && fitsN 16 tag) = true) => by
    simp at h
    constructor <;> simp [endsBy, h]
theorem drcGetRegions_readsBack (r : Req) : ReadsBack (.drcGetRegions r) :=
  readsBack_of rfl rfl (by decide) fun (h : r.fits = true) => by
    simp at h
    constructor <;> simp [endsBy, h]
theorem drcGetStatus_readsBack (r : Req) (clear : BitVec 64) : ReadsBack (.drcGetStatus r clear) :=
  readsBack_of rfl rfl (by decide) fun (h : r.fits = true) => by
    simp at h
    constructor <;> simp [endsBy, h, clear.isLt]
theorem drcInject_readsBack (r : Req) (addr : Nat) (flip : List Byte) : ReadsBack (.drcInject r addr flip) :=
  readsBack_of rfl rfl (by decide) fun (h : (r.fits && fitsN 64 addr && fitsLen 72 flip) = true) => by
    simp at h
    constructor <;> simp [endsBy, h]
theorem seqGetStatus_readsBack (r : Req) (seq : Nat) (clear : BitVec 64) : ReadsBack (.seqGetStatus r seq clear) :=
  readsBack_of rfl rfl (by decide) fun (h : (r.fits && fitsN 8 seq) = true) => by
    simp at h
    constructor <;> simp [endsBy, h, clear.isLt]
theorem seqResume_readsBack (r : Req) (seq : Nat) : ReadsBack (.seqResume r seq) :=
  readsBack_of rfl rfl (by decide) fun (h : (r.fits && fitsN 8 seq) = true) => by
    simp at h
    constructor <;> simp [endsBy, h]
theorem seqSetLimits_readsBack (r : Req) (ps : Params) : ReadsBack (.seqSetLimits r ps) :=
  readsBack_of rfl rfl (by decide) fun (h : (r.fits && fitsPars [1, 1] ps) = true) => by
    simp at h
    constructor <;> simp [endsBy, h]
theorem seqLoad_readsBack (r : Req) (bank unsigned imgOfs imgLen sigOfs sigLen : Nat) :
    ReadsBack (.seqLoad r bank unsigned imgOfs imgLen sigOfs sigLen) :=
  readsBack_of rfl rfl (by decide) fun (h : (r.fits && fitsN 8 bank && fitsN 8 unsigned && fitsN 32 imgOfs && fitsN 32 imgLen && fitsN 32 sigOfs && fitsN 32 sigLen) = true) => by
    simp at h
    constructor <;> simp [endsBy, h]
theorem seqSwap_readsBack (r : Req) (mask : BitVec 32) : ReadsBack (.seqSwap r mask) :=
  readsBack_of rfl rfl (by decide) fun (h : r.fits = true) => by
    simp at h
    constructor <;> simp [endsBy, h, mask.isLt]
theorem fwCommit_readsBack (r : Req) (slot next imgOfs imgLen sigOfs sigLen : Nat) :
    ReadsBack (.fwCommit r slot next imgOfs imgLen sigOfs sigLen) :=
  readsBack_of rfl rfl (by decide) fun (h : (r.fits && fitsN 8 slot && fitsN 8 next && fitsN 32 imgOfs && fitsN 32 imgLen && fitsN 32 sigOfs && fitsN 32 sigLen) = true) => by
    simp at h
    constructor <;> simp [endsBy, h]
theorem fwActivate_readsBack (r : Req) (slot : Nat) : ReadsBack (.fwActivate r slot) :=
  readsBack_of rfl rfl (by decide) fun (h : (r.fits && fitsN 8 slot) = true) => by
    simp at h
    constructor <;> simp [endsBy, h]
theorem fwGetSlots_readsBack (r : Req) : ReadsBack (.fwGetSlots r) :=
  readsBack_of rfl rfl (by decide) fun (h : r.fits = true) => by
    simp at h
    constructor <;> simp [endsBy, h]
theorem pwrSupplyPolicy_readsBack (r : Req) (ps : Params) : ReadsBack (.pwrSupplyPolicy r ps) :=
  readsBack_of rfl rfl (by decide) fun (h : (r.fits && fitsPars [1, 1, 1, 1, 1] ps) = true) => by
    simp at h
    constructor <;> simp [endsBy, h]
theorem pslSetSafe_readsBack (r : Req) (ps : Params) : ReadsBack (.pslSetSafe r ps) :=
  readsBack_of rfl rfl (by decide) fun (h : (r.fits && fitsPars [1, 1, 1] ps) = true) => by
    simp at h
    constructor <;> simp [endsBy, h]
theorem drcSetPower_readsBack (r : Req) (ps : Params) : ReadsBack (.drcSetPower r ps) :=
  readsBack_of rfl rfl (by decide) fun (h : (r.fits && fitsPars [1, 1] ps) = true) => by
    simp at h
    constructor <;> simp [endsBy, h]
theorem pwrGetStatus_readsBack (r : Req) : ReadsBack (.pwrGetStatus r) :=
  readsBack_of rfl rfl (by decide) fun (h : r.fits = true) => by
    simp at h
    constructor <;> simp [endsBy, h]
theorem authChallenge_readsBack (r : Req) (opcode : Nat) (digest : List Byte) :
    ReadsBack (.authChallenge r opcode digest) :=
  readsBack_of rfl rfl (by decide) fun (h : (r.fits && fitsN 16 opcode && fitsLen 32 digest) = true) => by
    simp at h
    constructor <;> simp [endsBy, h]
theorem authResponse_readsBack (r : Req) (sigOfs sigLen : Nat) : ReadsBack (.authResponse r sigOfs sigLen) :=
  readsBack_of rfl rfl (by decide) fun (h : (r.fits && fitsN 32 sigOfs && fitsN 32 sigLen) = true) => by
    simp at h
    constructor <;> simp [endsBy, h]
theorem lcChange_readsBack (r : Req) (target : Nat) : ReadsBack (.lcChange r target) :=
  readsBack_of rfl rfl (by decide) fun (h : (r.fits && fitsN 8 target) = true) => by
    simp at h
    constructor <;> simp [endsBy, h]
theorem debugUnlock_readsBack (r : Req) (scope : BitVec 32) : ReadsBack (.debugUnlock r scope) :=
  readsBack_of rfl rfl (by decide) fun (h : r.fits = true) => by
    simp at h
    constructor <;> simp [endsBy, h, scope.isLt]
theorem idGetCert_readsBack (r : Req) (offset length : Nat) : ReadsBack (.idGetCert r offset length) :=
  readsBack_of rfl rfl (by decide) fun (h : (r.fits && fitsN 32 offset && fitsN 16 length) = true) => by
    simp at h
    constructor <;> simp [endsBy, h]
theorem attestQuote_readsBack (r : Req) (nonce : List Byte) : ReadsBack (.attestQuote r nonce) :=
  readsBack_of rfl rfl (by decide) fun (h : (r.fits && fitsLen 32 nonce) = true) => by
    simp at h
    constructor <;> simp [endsBy, h]
theorem engineReinitFunction_readsBack (r : Req) (index : Nat) : ReadsBack (.engineReinitFunction r index) :=
  readsBack_of rfl rfl (by decide) fun (h : (r.fits && fitsN 16 index) = true) => by
    simp at h
    constructor <;> simp [endsBy, h, engineOf]
theorem engineReinitQuay_readsBack (r : Req) : ReadsBack (.engineReinitQuay r) :=
  readsBack_of rfl rfl (by decide) fun (h : r.fits = true) => by
    simp at h
    constructor <;> simp [endsBy, h, engineOf]
theorem engineReinitSequencer_readsBack (r : Req) (index : Nat) : ReadsBack (.engineReinitSequencer r index) :=
  readsBack_of rfl rfl (by decide) fun (h : (r.fits && fitsN 16 index) = true) => by
    simp at h
    constructor <;> simp [endsBy, h, engineOf]
theorem engineReinitMailbox_readsBack (r : Req) (index : Nat) : ReadsBack (.engineReinitMailbox r index) :=
  readsBack_of rfl rfl (by decide) fun (h : (r.fits && fitsN 16 index) = true) => by
    simp at h
    constructor <;> simp [endsBy, h, engineOf]
theorem engineReinitTally_readsBack (r : Req) : ReadsBack (.engineReinitTally r) :=
  readsBack_of rfl rfl (by decide) fun (h : r.fits = true) => by
    simp at h
    constructor <;> simp [endsBy, h, engineOf]
theorem engineReinitParity_readsBack (r : Req) (index : Nat) : ReadsBack (.engineReinitParity r index) :=
  readsBack_of rfl rfl (by decide) fun (h : (r.fits && fitsN 16 index) = true) => by
    simp at h
    constructor <;> simp [endsBy, h, engineOf]
theorem engineReinitDecoder_readsBack (r : Req) (index : Nat) : ReadsBack (.engineReinitDecoder r index) :=
  readsBack_of rfl rfl (by decide) fun (h : (r.fits && fitsN 16 index) = true) => by
    simp at h
    constructor <;> simp [endsBy, h, engineOf]

/-- Every command reads back, or is no message. -/
theorem readsBack (i : Instr) : ReadsBack i := by
  cases i with
  | mbxGetInfo _ => exact mbxGetInfo_readsBack _
  | mbxGetNotify _ _ => exact mbxGetNotify_readsBack _ _
  | mbxSetNotify _ _ _ _ => exact mbxSetNotify_readsBack _ _ _ _
  | mbxSetPriv _ _ _ => exact mbxSetPriv_readsBack _ _ _
  | mbxStageWrite _ _ _ => exact mbxStageWrite_readsBack _ _ _
  | mbxStageRead _ _ _ => exact mbxStageRead_readsBack _ _ _
  | mbxStageClear _ => exact mbxStageClear_readsBack _
  | quaySetMoormode _ _ => exact quaySetMoormode_readsBack _ _
  | quaySetArb _ _ => exact quaySetArb_readsBack _ _
  | quaySetAllot _ _ _ => exact quaySetAllot_readsBack _ _ _
  | quayGetAllot _ _ => exact quayGetAllot_readsBack _ _
  | quaySetAdmit _ _ _ => exact quaySetAdmit_readsBack _ _ _
  | drcSetScrub _ _ => exact drcSetScrub_readsBack _ _
  | drcSetPort _ _ _ => exact drcSetPort_readsBack _ _ _
  | drcSetTrain _ _ => exact drcSetTrain_readsBack _ _
  | quaySetDrivePower _ _ => exact quaySetDrivePower_readsBack _ _
  | lkbSetSurface _ _ _ _ _ _ => exact lkbSetSurface_readsBack _ _ _ _ _ _
  | lkbSetZoneMap _ _ _ => exact lkbSetZoneMap_readsBack _ _ _
  | lkbSetRatio _ _ _ _ => exact lkbSetRatio_readsBack _ _ _ _
  | lkbSetGuard _ _ _ => exact lkbSetGuard_readsBack _ _ _
  | lkbSetDemod _ _ _ _ => exact lkbSetDemod_readsBack _ _ _ _
  | lkbGetStatus _ _ _ => exact lkbGetStatus_readsBack _ _ _
  | lkbReadPosition _ _ => exact lkbReadPosition_readsBack _ _
  | loopSetLaw _ _ _ _ _ _ => exact loopSetLaw_readsBack _ _ _ _ _ _
  | loopSetRwo _ _ _ => exact loopSetRwo_readsBack _ _ _
  | loopSetMaGain _ _ _ => exact loopSetMaGain_readsBack _ _ _
  | loopSetSeek _ _ _ => exact loopSetSeek_readsBack _ _ _
  | loopSetFollow _ _ _ => exact loopSetFollow_readsBack _ _ _
  | loopSetTwin _ _ _ => exact loopSetTwin_readsBack _ _ _
  | loopGetStatus _ _ _ => exact loopGetStatus_readsBack _ _ _
  | chnSetFormat _ _ _ _ => exact chnSetFormat_readsBack _ _ _ _
  | chnSetFrontend _ _ _ _ => exact chnSetFrontend_readsBack _ _ _ _
  | chnSetEq _ _ _ _ _ => exact chnSetEq_readsBack _ _ _ _ _
  | chnSetDetector _ _ _ _ => exact chnSetDetector_readsBack _ _ _ _
  | chnSetSync _ _ _ _ => exact chnSetSync_readsBack _ _ _ _
  | chnSetRecovery _ _ _ => exact chnSetRecovery_readsBack _ _ _
  | chnGetStatus _ _ _ => exact chnGetStatus_readsBack _ _ _
  | chnCapture _ _ _ _ _ => exact chnCapture_readsBack _ _ _ _ _
  | wrpSetFormat _ _ _ _ => exact wrpSetFormat_readsBack _ _ _ _
  | wrpSetAssist _ _ _ _ => exact wrpSetAssist_readsBack _ _ _ _
  | wrpSetFh _ _ _ _ => exact wrpSetFh_readsBack _ _ _ _
  | wrpSetLimits _ _ => exact wrpSetLimits_readsBack _ _
  | wrpSetWear _ _ _ => exact wrpSetWear_readsBack _ _ _
  | wrpOpenBand _ _ _ => exact wrpOpenBand_readsBack _ _ _
  | wrpCloseBand _ _ _ => exact wrpCloseBand_readsBack _ _ _
  | wrpStop _ _ => exact wrpStop_readsBack _ _
  | wrpRelease _ _ => exact wrpRelease_readsBack _ _
  | wrpGetStatus _ _ _ => exact wrpGetStatus_readsBack _ _ _
  | wrpGetWear _ _ => exact wrpGetWear_readsBack _ _
  | brtSetLayout _ _ _ => exact brtSetLayout_readsBack _ _ _
  | brtSetLimits _ _ => exact brtSetLimits_readsBack _ _
  | brtSetPatrol _ _ => exact brtSetPatrol_readsBack _ _
  | brtSetCkpt _ _ => exact brtSetCkpt_readsBack _ _
  | brtCheckpoint _ => exact brtCheckpoint_readsBack _
  | brtGetBerth _ _ _ => exact brtGetBerth_readsBack _ _ _
  | brtGetStatus _ _ => exact brtGetStatus_readsBack _ _
  | brtSetHead _ _ _ => exact brtSetHead_readsBack _ _ _
  | brtSetHealth _ _ => exact brtSetHealth_readsBack _ _
  | brtSetRebuild _ _ => exact brtSetRebuild_readsBack _ _
  | brtReshape _ _ _ _ => exact brtReshape_readsBack _ _ _ _
  | brtGetRebuild _ _ _ => exact brtGetRebuild_readsBack _ _ _
  | brtGetLost _ _ _ => exact brtGetLost_readsBack _ _ _
  | brtGetReloc _ _ => exact brtGetReloc_readsBack _ _
  | brtGetHead _ _ => exact brtGetHead_readsBack _ _
  | spnSetSpeed _ _ _ => exact spnSetSpeed_readsBack _ _ _
  | spnSetPolicy _ _ => exact spnSetPolicy_readsBack _ _
  | spnSetLimits _ _ => exact spnSetLimits_readsBack _ _
  | spnSetMotor _ _ => exact spnSetMotor_readsBack _ _
  | spnStart _ => exact spnStart_readsBack _
  | spnStop _ => exact spnStop_readsBack _
  | spnGetStatus _ _ => exact spnGetStatus_readsBack _ _
  | evtSetCursor _ _ _ => exact evtSetCursor_readsBack _ _ _
  | evtRead _ _ => exact evtRead_readsBack _ _
  | evtClear _ => exact evtClear_readsBack _
  | ctrRead _ _ _ => exact ctrRead_readsBack _ _ _
  | hbmGetIncident _ _ => exact hbmGetIncident_readsBack _ _
  | tallyRead _ _ _ _ => exact tallyRead_readsBack _ _ _ _
  | tallyClear _ _ => exact tallyClear_readsBack _ _
  | hbmGetLedger _ _ => exact hbmGetLedger_readsBack _ _
  | plkGetStatus _ _ _ => exact plkGetStatus_readsBack _ _ _
  | pslGetStatus _ _ => exact pslGetStatus_readsBack _ _
  | plkRegAccess _ _ _ _ _ => exact plkRegAccess_readsBack _ _ _ _ _
  | pslRegAccess _ _ _ _ => exact pslRegAccess_readsBack _ _ _ _
  | lnkSetLimits _ _ => exact lnkSetLimits_readsBack _ _
  | quayGetMooring _ _ _ => exact quayGetMooring_readsBack _ _ _
  | quayGetTag _ _ => exact quayGetTag_readsBack _ _
  | drcGetRegions _ => exact drcGetRegions_readsBack _
  | drcGetStatus _ _ => exact drcGetStatus_readsBack _ _
  | drcInject _ _ _ => exact drcInject_readsBack _ _ _
  | seqGetStatus _ _ _ => exact seqGetStatus_readsBack _ _ _
  | seqResume _ _ => exact seqResume_readsBack _ _
  | seqSetLimits _ _ => exact seqSetLimits_readsBack _ _
  | seqLoad _ _ _ _ _ _ _ => exact seqLoad_readsBack _ _ _ _ _ _ _
  | seqSwap _ _ => exact seqSwap_readsBack _ _
  | fwCommit _ _ _ _ _ _ _ => exact fwCommit_readsBack _ _ _ _ _ _ _
  | fwActivate _ _ => exact fwActivate_readsBack _ _
  | fwGetSlots _ => exact fwGetSlots_readsBack _
  | pwrSupplyPolicy _ _ => exact pwrSupplyPolicy_readsBack _ _
  | pslSetSafe _ _ => exact pslSetSafe_readsBack _ _
  | drcSetPower _ _ => exact drcSetPower_readsBack _ _
  | pwrGetStatus _ => exact pwrGetStatus_readsBack _
  | authChallenge _ _ _ => exact authChallenge_readsBack _ _ _
  | authResponse _ _ _ => exact authResponse_readsBack _ _ _
  | lcChange _ _ => exact lcChange_readsBack _ _
  | debugUnlock _ _ => exact debugUnlock_readsBack _ _
  | idGetCert _ _ _ => exact idGetCert_readsBack _ _ _
  | attestQuote _ _ => exact attestQuote_readsBack _ _
  | engineReinitFunction _ _ => exact engineReinitFunction_readsBack _ _
  | engineReinitQuay _ => exact engineReinitQuay_readsBack _
  | engineReinitSequencer _ _ => exact engineReinitSequencer_readsBack _ _
  | engineReinitMailbox _ _ => exact engineReinitMailbox_readsBack _ _
  | engineReinitTally _ => exact engineReinitTally_readsBack _
  | engineReinitParity _ _ => exact engineReinitParity_readsBack _ _
  | engineReinitDecoder _ _ => exact engineReinitDecoder_readsBack _ _
  | _ => exact readsBack_of_silent rfl

/-- Settles O59: each message's operands fit its entry's fields, so its bytes are read back field by field. -/
theorem messagesRoundTrip : Obligations.MessagesRoundTrip := by
  unfold Obligations.MessagesRoundTrip
  exact readsBack

end Sys2Proof.Machine
end

section
/-! SUPPORT. MailServe: every message is served in one way: gated, refused, or answered by its own meaning (R421 to R435). -/

namespace Sys2Proof.Machine

/-! ### A message is served -/

/-- Every message is served, under its own OPCODE, by a meaning of its own. -/
theorem exec_serve {i : Instr} {m : Req × Nat × Vals} (s : State) (h : messageOf i = some m) :
    ∃ msg body, exec i s = .next (serve s m.1 msg i body) ∧ msg.opc = m.2.1 := by
  cases i <;> first | (injection h with h; subst h; exact ⟨_, _, rfl, rfl⟩) | cases h

section Serve
variable {s : State} {r : Req} {m : Msg} {i : Instr} {body : State → Ans}

theorem serve_of_gate1 (h : gateOf s r.mb m.opc = 1) : serve s r m i body = s := by simp [serve, h]

theorem serve_of_gate2 (h : gateOf s r.mb m.opc = 2) : serve s r m i body = answer s r m.opc 0x000B 0 [] := by
  simp [serve, h]

/-- A gate that is neither shut nor refusing is open. -/
theorem gateOf_cases (s : State) (mb : Mb) (opc : Nat) : gateOf s mb opc = 0 ∨ gateOf s mb opc = 1 ∨ gateOf s mb opc = 2 := by
  unfold gateOf
  repeat' split
  all_goals decide

theorem serve_of_refused {st aux : Nat} (hg : gateOf s r.mb m.opc = 0) (hr : refusal s r m = some (st, aux)) :
    serve s r m i body = answer (consumeAuth s r m) r m.opc st aux [] := by simp [serve, hg, hr]

/-- Where no authorisation is armed, none is consumed. -/
theorem consumeAuth_of_unarmed (h : s.mbx[r.mb].armed = none) : consumeAuth s r m = s :=
  if_neg fun hc => by rw [h] at hc; cases hc.2

/-- No refusal is a success, and none waits for an answer. -/
theorem refusal_status {st aux : Nat} (h : refusal s r m = some (st, aux)) : st ≠ 0 := by
  unfold refusal at h
  repeat' split at h
  all_goals cases h
  all_goals decide

end Serve

/-- The answer of a mailbox, once formed. -/
theorem answer_reply (s : State) (r : Req) (opc st aux : Nat) (p : List Byte) : (answer s r opc st aux p).mbx[r.mb].reply =
    some { op := opc, seq := r.seq, status := st, aux := aux, payload := if st = 0 then p else [] } := by
  simp [answer, updMbx]

/-! ### The gate (R434, R519, R522) -/

/-- Settles O48: serving a message looks at the gate before anything else. -/
theorem messagesGated : Obligations.MessagesGated := by
  unfold Obligations.MessagesGated
  intro i m s hm
  obtain ⟨msg, body, hx, ho⟩ := exec_serve s hm
  rw [hx, ← ho]
  exact ⟨fun h => by rw [serve_of_gate1 h], fun h => by rw [serve_of_gate2 h]⟩

/-- Settles O49: an open gate leads to a refusal, to the answer of the message's meaning, or to an answer that waits. -/
theorem messagesAnswered : Obligations.MessagesAnswered := by
  unfold Obligations.MessagesAnswered
  intro i m s hm hg
  obtain ⟨msg, body, hx, ho⟩ := exec_serve s hm
  rw [← ho] at hg ⊢
  refine ⟨_, hx, ?_⟩
  have answered : ∀ (t : State) (st aux : Nat) (p : List Byte), ∃ x, (answer t m.1 msg.opc st aux p).mbx[m.1.mb].reply = some x ∧
      x.op = msg.opc ∧ x.seq = m.1.seq ∧ (x.status ≠ 0 → x.payload = []) := fun t st aux p =>
    ⟨_, answer_reply t m.1 msg.opc st aux p, rfl, rfl, fun h => if_neg h⟩
  cases hr : refusal s m.1 msg with
  | some x => rw [serve_of_refused hg hr]; exact .inl (answered _ _ _ _)
  | none =>
    rw [serve_of_admitted ⟨hg, hr⟩]
    dsimp only
    split
    · right; simp [updMbx]
    · exact .inl (answered _ _ _ _)

/-! ### Privilege and lifecycle (R430) -/

/-- A mailbox whose privilege has been lowered to none holds no need, where no debug right is in force. -/
theorem holds_of_none {s : State} {mb : Mb} (n : Need) (hp : privOf s mb = 0) (hd : s.sec.debugScope = 0) :
    holds s mb n = false := by
  cases n <;> simp [holds, hp, debugRight, hd]

/-- In DECOMMISSIONED the messages outside three groups are not accepted. -/
theorem lifeAccepts_of_decommissioned {s : State} {m : Msg} (hl : s.sec.life = .decommissioned) (h0 : m.opc / 256 ≠ 0x00)
    (h7 : m.opc / 256 ≠ 0x07) (hc : m.opc / 256 ≠ 0x0C) : lifeAccepts s m = false := by
  simp [lifeAccepts, hl, h0, h7, hc]

/-- Settles O50: the two refusals are the first that a message without PERSIST can meet, and they consume no
authorisation where none is armed. -/
theorem privilegeChecked : Obligations.PrivilegeChecked := by
  unfold Obligations.PrivilegeChecked
  intro i m s hm hg hper harm
  obtain ⟨msg, body, hx, ho⟩ := exec_serve s hm
  rw [← ho] at hg ⊢
  rw [hx]
  have refused : ∀ st, refusal s m.1 msg = some (st, 0) →
      serve s m.1 msg i body = answer s m.1 msg.opc st 0 [] := fun st h => by
    rw [serve_of_refused hg h, consumeAuth_of_unarmed harm]
  refine ⟨fun hl hp hd => ?_, fun hl h0 h7 hc => ?_⟩
  · rw [refused]
    simp [refusal, hper, lifeAccepts_of_ne msg hl, holds_of_none msg.need hp hd]
  · rw [refused]
    simp [refusal, hper, lifeAccepts_of_decommissioned hl h0 h7 hc]

/-! ### Setters (R426) -/

/-- The answer `a` of a setter in state `s`: SUCCESS without a payload, or a failing status and nothing changed. -/
def AllOrNothing (s : State) (a : Ans) : Prop :=
  (a.status = 0 ∧ a.payload = []) ∨ (a.st = s ∧ a.status ≠ 0 ∧ a.status ≠ 0xFFFF)

section AllOrNothing
variable {s : State}

@[simp] theorem allOrNothing_okA (t : State) : AllOrNothing s (okA t) := .inl ⟨rfl, rfl⟩
theorem allOrNothing_failA {st : Nat} (aux : Nat) (h0 : st ≠ 0) (hw : st ≠ 0xFFFF) : AllOrNothing s (failA s st aux) :=
  .inr ⟨rfl, h0, hw⟩
@[simp] theorem allOrNothing_rangeA (aux : Nat) : AllOrNothing s (rangeA s aux) :=
  allOrNothing_failA aux (by decide) (by decide)
@[simp] theorem allOrNothing_malformedA (aux : Nat) : AllOrNothing s (malformedA s aux) :=
  allOrNothing_failA aux (by decide) (by decide)
@[simp] theorem allOrNothing_conflictA (aux : Nat) : AllOrNothing s (conflictA s aux) :=
  allOrNothing_failA aux (by decide) (by decide)
@[simp] theorem allOrNothing_notFoundA (aux : Nat) : AllOrNothing s (notFoundA s aux) :=
  allOrNothing_failA aux (by decide) (by decide)
@[simp] theorem allOrNothing_lifecycle : AllOrNothing s (failA s 0x0006) := allOrNothing_failA 0 (by decide) (by decide)
@[simp] theorem allOrNothing_busy : AllOrNothing s (failA s 0x000C) := allOrNothing_failA 0 (by decide) (by decide)

@[simp] theorem allOrNothing_setA {α : Type} (pars : List (Par α)) (rels : α → List Rel) (m : Params) (x : α)
    (store : α → State) : AllOrNothing s (setA s pars rels m x store) := by
  unfold setA
  split <;> simp

@[simp] theorem allOrNothing_setAllA {α : Type} (l : List α) (f : State → α → Except Nat State) :
    AllOrNothing s (setAllA s l f) := by
  unfold setAllA
  split <;> simp

/-- A choice between two answers is all or nothing where each is. -/
@[simp] theorem allOrNothing_ite {c : Prop} [Decidable c] {a b : Ans} :
    AllOrNothing s (if c then a else b) ↔ (c → AllOrNothing s a) ∧ (¬c → AllOrNothing s b) := by
  split <;> simp [*]

@[simp] theorem allOrNothing_setHz (h z : Nat) (f : ChnHZ → Except Nat ChnHZ) : AllOrNothing s (setHz s h z f) := by
  simp [setHz]

@[simp] theorem allOrNothing_setWhz (h z : Nat) (f : WHead × WHeadZ × WrpDev → Except Nat (WHead × WHeadZ × WrpDev)) :
    AllOrNothing s (setWhz s h z f) := by
  simp [setWhz]

end AllOrNothing


/-! #### Each setter's own meaning -/

theorem quayMoormode_allOrNothing (fullNext) (s : State) : AllOrNothing s (quayMoormode fullNext s) := by simp [quayMoormode]
theorem quayArb_allOrNothing (ps) (s : State) : AllOrNothing s (quayArb ps s) := by simp [quayArb]
theorem quayAllot_allOrNothing (func word) (s : State) : AllOrNothing s (quayAllot func word s) := by
  unfold quayAllot
  split <;> simp
theorem quayAdmit_allOrNothing (func ps) (s : State) : AllOrNothing s (quayAdmit func ps s) := by
  unfold quayAdmit
  split <;> simp
theorem drcScrub_allOrNothing (ps) (s : State) : AllOrNothing s (drcScrub ps s) := by simp [drcScrub]
theorem drcPort_allOrNothing (port ps) (s : State) : AllOrNothing s (drcPort port ps s) := by
  unfold drcPort
  split <;> simp
theorem drcTrain_allOrNothing (ps) (s : State) : AllOrNothing s (drcTrain ps s) := by simp [drcTrain]
theorem quayPower_allOrNothing (r maxpwr) (s : State) : AllOrNothing s (quayPower r maxpwr s) := by simp [quayPower]
theorem setSurface_allOrNothing (head surface pL index lin) (s : State) : AllOrNothing s (setSurface head surface pL index lin s) := by simp [setSurface]
theorem setZoneMap_allOrNothing (surface first) (s : State) : AllOrNothing s (setZoneMap surface first s) := by simp [setZoneMap]
theorem setRatio_allOrNothing (head zone word) (s : State) : AllOrNothing s (setRatio head zone word s) := by simp [setRatio]
theorem setGuard_allOrNothing (act word) (s : State) : AllOrNothing s (setGuard act word s) := by
  unfold setGuard
  split <;> simp
theorem setDemod_allOrNothing (head stream ps) (s : State) : AllOrNothing s (setDemod head stream ps s) := by
  unfold setDemod
  split <;> simp
theorem setLaw_allOrNothing (act law count start words) (s : State) : AllOrNothing s (setLaw act law count start words s) := by
  unfold setLaw
  dsimp only
  split
  · simp
  · split <;> simp
theorem setRwo_allOrNothing (head vals) (s : State) : AllOrNothing s (setRwo head vals s) := by simp [setRwo]
theorem setMaGain_allOrNothing (head gain) (s : State) : AllOrNothing s (setMaGain head gain s) := by simp [setMaGain]
theorem setSeek_allOrNothing (act ps) (s : State) : AllOrNothing s (setSeek act ps s) := by
  unfold setSeek
  split <;> simp
theorem setFollow_allOrNothing (act ps) (s : State) : AllOrNothing s (setFollow act ps s) := by
  unfold setFollow
  split <;> simp
theorem setTwin_allOrNothing (act ps) (s : State) : AllOrNothing s (setTwin act ps s) := by
  unfold setTwin
  split <;> simp
theorem setFormat_allOrNothing (head zone word) (s : State) : AllOrNothing s (setFormat head zone word s) := by simp [setFormat]
theorem setFrontend_allOrNothing (head zone ps) (s : State) : AllOrNothing s (setFrontend head zone ps s) := by simp [setFrontend]
theorem setEq_allOrNothing (head zone stream ps) (s : State) : AllOrNothing s (setEq head zone stream ps s) := by
  unfold setEq
  split <;> simp
theorem setDetector_allOrNothing (head zone ps) (s : State) : AllOrNothing s (setDetector head zone ps s) := by simp [setDetector]
theorem setSync_allOrNothing (head zone ps) (s : State) : AllOrNothing s (setSync head zone ps s) := by simp [setSync]
theorem setRecovery_allOrNothing (stream ps) (s : State) : AllOrNothing s (setRecovery stream ps s) := by
  unfold setRecovery
  split <;> simp
theorem wrpFormat_allOrNothing (head zone ps) (s : State) : AllOrNothing s (wrpFormat head zone ps s) := by simp [wrpFormat]
theorem wrpAssist_allOrNothing (head zone ps) (s : State) : AllOrNothing s (wrpAssist head zone ps s) := by simp [wrpAssist]
theorem wrpFh_allOrNothing (head zone ps) (s : State) : AllOrNothing s (wrpFh head zone ps s) := by simp [wrpFh]
theorem wrpLimits_allOrNothing (ps) (s : State) : AllOrNothing s (wrpLimits ps s) := by simp [wrpLimits]
theorem wrpWear_allOrNothing (head ps) (s : State) : AllOrNothing s (wrpWear head ps s) := by
  unfold wrpWear
  split
  · simp
  · split <;> simp
theorem brtLayout_allOrNothing (nsid layout) (s : State) : AllOrNothing s (brtLayout nsid layout s) := by
  unfold brtLayout
  split
  · simp
  · split
    · simp
    · split <;> simp
theorem brtLimits_allOrNothing (ps) (s : State) : AllOrNothing s (brtLimits ps s) := by simp [brtLimits]
theorem brtPatrol_allOrNothing (ps) (s : State) : AllOrNothing s (brtPatrol ps s) := by simp [brtPatrol]
theorem brtCkpt_allOrNothing (ps) (s : State) : AllOrNothing s (brtCkpt ps s) := by simp [brtCkpt]
theorem brtSetHead_allOrNothing (head state) (s : State) : AllOrNothing s (brtSetHead head state s) := by
  unfold brtSetHead
  split
  · simp
  · split <;> simp
theorem brtSetHealth_allOrNothing (ps) (s : State) : AllOrNothing s (brtSetHealth ps s) := by simp [brtSetHealth]
theorem brtSetRebuild_allOrNothing (ps) (s : State) : AllOrNothing s (brtSetRebuild ps s) := by simp [brtSetRebuild]
theorem spnSetSpeed_allOrNothing (rpm cls) (s : State) : AllOrNothing s (spnSetSpeed rpm cls s) := by simp [spnSetSpeed]
theorem spnSetPolicy_allOrNothing (ps) (s : State) : AllOrNothing s (spnSetPolicy ps s) := by simp [spnSetPolicy]
theorem spnSetLimits_allOrNothing (ps) (s : State) : AllOrNothing s (spnSetLimits ps s) := by simp [spnSetLimits]
theorem spnSetMotor_allOrNothing (ps) (s : State) : AllOrNothing s (spnSetMotor ps s) := by simp [spnSetMotor]
theorem lnkLimits_allOrNothing (ps) (s : State) : AllOrNothing s (lnkLimits ps s) := by simp [lnkLimits]
theorem seqLimits_allOrNothing (ps) (s : State) : AllOrNothing s (seqLimits ps s) := by simp [seqLimits]
theorem supplyPolicy_allOrNothing (ps) (s : State) : AllOrNothing s (supplyPolicy ps s) := by simp [supplyPolicy]
theorem pslSafe_allOrNothing (ps) (s : State) : AllOrNothing s (pslSafe ps s) := by simp [pslSafe]
theorem drcPower_allOrNothing (ps) (s : State) : AllOrNothing s (drcPower ps s) := by simp [drcPower]

/-- A setter needs no signature. -/
theorem needOf_ne_sg {α : Type} (pars : List (Par α)) (m : Params) : needOf pars m ≠ .sg := by
  unfold needOf
  split <;> decide

/-- Every setter is served without an authorisation or work of its own, and its meaning is all or nothing. -/
theorem exec_setter {i : Instr} {m : Req × Nat × Vals} {e : Entry} (s : State) (h : messageOf i = some m)
    (he : (catalogue.find? fun e => decide (e.opc = m.2.1)) = some e) (hs : e.setter = true) :
    ∃ msg body, exec i s = .next (serve s m.1 msg i body) ∧ msg.opc = m.2.1 ∧ msg.need ≠ .sg ∧ msg.long = false ∧
      AllOrNothing s (body s) := by
  cases i with
  | quaySetMoormode _ _ => cases h; exact ⟨_, _, rfl, rfl, by simp, rfl, quayMoormode_allOrNothing _ _⟩
  | quaySetArb _ _ => cases h; exact ⟨_, _, rfl, rfl, by simp, rfl, quayArb_allOrNothing _ _⟩
  | quaySetAllot _ _ _ => cases h; exact ⟨_, _, rfl, rfl, by simp, rfl, quayAllot_allOrNothing _ _ _⟩
  | quaySetAdmit _ _ _ => cases h; exact ⟨_, _, rfl, rfl, by split <;> simp, rfl, quayAdmit_allOrNothing _ _ _⟩
  | drcSetScrub _ _ => cases h; exact ⟨_, _, rfl, rfl, by simp, rfl, drcScrub_allOrNothing _ _⟩
  | drcSetPort _ _ _ => cases h; exact ⟨_, _, rfl, rfl, by simp, rfl, drcPort_allOrNothing _ _ _⟩
  | drcSetTrain _ _ => cases h; exact ⟨_, _, rfl, rfl, by simp, rfl, drcTrain_allOrNothing _ _⟩
  | quaySetDrivePower _ _ => cases h; exact ⟨_, _, rfl, rfl, by simp, rfl, quayPower_allOrNothing _ _ _⟩
  | lkbSetSurface _ _ _ _ _ _ => cases h; exact ⟨_, _, rfl, rfl, by simp, rfl, setSurface_allOrNothing _ _ _ _ _ _⟩
  | lkbSetZoneMap _ _ _ => cases h; exact ⟨_, _, rfl, rfl, by simp, rfl, setZoneMap_allOrNothing _ _ _⟩
  | lkbSetRatio _ _ _ _ => cases h; exact ⟨_, _, rfl, rfl, by simp, rfl, setRatio_allOrNothing _ _ _ _⟩
  | lkbSetGuard _ _ _ => cases h; exact ⟨_, _, rfl, rfl, by simp, rfl, setGuard_allOrNothing _ _ _⟩
  | lkbSetDemod _ _ _ _ => cases h; exact ⟨_, _, rfl, rfl, by simp, rfl, setDemod_allOrNothing _ _ _ _⟩
  | loopSetLaw _ _ _ _ _ _ => cases h; exact ⟨_, _, rfl, rfl, by simp, rfl, setLaw_allOrNothing _ _ _ _ _ _⟩
  | loopSetRwo _ _ _ => cases h; exact ⟨_, _, rfl, rfl, by simp, rfl, setRwo_allOrNothing _ _ _⟩
  | loopSetMaGain _ _ _ => cases h; exact ⟨_, _, rfl, rfl, by simp, rfl, setMaGain_allOrNothing _ _ _⟩
  | loopSetSeek _ _ _ => cases h; exact ⟨_, _, rfl, rfl, by simp, rfl, setSeek_allOrNothing _ _ _⟩
  | loopSetFollow _ _ _ => cases h; exact ⟨_, _, rfl, rfl, by simp, rfl, setFollow_allOrNothing _ _ _⟩
  | loopSetTwin _ _ _ => cases h; exact ⟨_, _, rfl, rfl, by simp, rfl, setTwin_allOrNothing _ _ _⟩
  | chnSetFormat _ _ _ _ => cases h; exact ⟨_, _, rfl, rfl, by simp, rfl, setFormat_allOrNothing _ _ _ _⟩
  | chnSetFrontend _ _ _ _ => cases h; exact ⟨_, _, rfl, rfl, by simp, rfl, setFrontend_allOrNothing _ _ _ _⟩
  | chnSetEq _ _ _ _ _ => cases h; exact ⟨_, _, rfl, rfl, by simp, rfl, setEq_allOrNothing _ _ _ _ _⟩
  | chnSetDetector _ _ _ _ => cases h; exact ⟨_, _, rfl, rfl, by simp, rfl, setDetector_allOrNothing _ _ _ _⟩
  | chnSetSync _ _ _ _ => cases h; exact ⟨_, _, rfl, rfl, by simp, rfl, setSync_allOrNothing _ _ _ _⟩
  | chnSetRecovery _ _ _ => cases h; exact ⟨_, _, rfl, rfl, by simp, rfl, setRecovery_allOrNothing _ _ _⟩
  | wrpSetFormat _ _ _ _ => cases h; exact ⟨_, _, rfl, rfl, by simp, rfl, wrpFormat_allOrNothing _ _ _ _⟩
  | wrpSetAssist _ _ _ _ => cases h; exact ⟨_, _, rfl, rfl, needOf_ne_sg _ _, rfl, wrpAssist_allOrNothing _ _ _ _⟩
  | wrpSetFh _ _ _ _ => cases h; exact ⟨_, _, rfl, rfl, by simp, rfl, wrpFh_allOrNothing _ _ _ _⟩
  | wrpSetLimits _ _ => cases h; exact ⟨_, _, rfl, rfl, by simp, rfl, wrpLimits_allOrNothing _ _⟩
  | wrpSetWear _ _ _ => cases h; exact ⟨_, _, rfl, rfl, by simp, rfl, wrpWear_allOrNothing _ _ _⟩
  | brtSetLayout _ _ _ => cases h; exact ⟨_, _, rfl, rfl, by simp, rfl, brtLayout_allOrNothing _ _ _⟩
  | brtSetLimits _ _ => cases h; exact ⟨_, _, rfl, rfl, needOf_ne_sg _ _, rfl, brtLimits_allOrNothing _ _⟩
  | brtSetPatrol _ _ => cases h; exact ⟨_, _, rfl, rfl, by simp, rfl, brtPatrol_allOrNothing _ _⟩
  | brtSetCkpt _ _ => cases h; exact ⟨_, _, rfl, rfl, needOf_ne_sg _ _, rfl, brtCkpt_allOrNothing _ _⟩
  | brtSetHead _ _ _ => cases h; exact ⟨_, _, rfl, rfl, by split <;> simp, rfl, brtSetHead_allOrNothing _ _ _⟩
  | brtSetHealth _ _ => cases h; exact ⟨_, _, rfl, rfl, by simp, rfl, brtSetHealth_allOrNothing _ _⟩
  | brtSetRebuild _ _ => cases h; exact ⟨_, _, rfl, rfl, by simp, rfl, brtSetRebuild_allOrNothing _ _⟩
  | spnSetSpeed _ _ _ => cases h; exact ⟨_, _, rfl, rfl, by simp, rfl, spnSetSpeed_allOrNothing _ _ _⟩
  | spnSetPolicy _ _ => cases h; exact ⟨_, _, rfl, rfl, by simp, rfl, spnSetPolicy_allOrNothing _ _⟩
  | spnSetLimits _ _ => cases h; exact ⟨_, _, rfl, rfl, by simp, rfl, spnSetLimits_allOrNothing _ _⟩
  | spnSetMotor _ _ => cases h; exact ⟨_, _, rfl, rfl, by simp, rfl, spnSetMotor_allOrNothing _ _⟩
  | lnkSetLimits _ _ => cases h; exact ⟨_, _, rfl, rfl, by simp, rfl, lnkLimits_allOrNothing _ _⟩
  | seqSetLimits _ _ => cases h; exact ⟨_, _, rfl, rfl, needOf_ne_sg _ _, rfl, seqLimits_allOrNothing _ _⟩
  | pwrSupplyPolicy _ _ => cases h; exact ⟨_, _, rfl, rfl, by simp, rfl, supplyPolicy_allOrNothing _ _⟩
  | pslSetSafe _ _ => cases h; exact ⟨_, _, rfl, rfl, by simp, rfl, pslSafe_allOrNothing _ _⟩
  | drcSetPower _ _ => cases h; exact ⟨_, _, rfl, rfl, by simp, rfl, drcPower_allOrNothing _ _⟩

  | _ => cases h <;> cases he <;> cases hs

/-- Settles O51: a gate or a refusal answers as a failure does, and past them the setter's meaning is all or nothing. -/
theorem settersAtomic : Obligations.SettersAtomic := by
  unfold Obligations.SettersAtomic
  intro i m e s hm he hset
  obtain ⟨msg, body, hx, ho, hn, hl, hb⟩ := exec_setter s hm he hset
  rw [← ho]
  refine ⟨_, hx, ?_⟩
  rcases gateOf_cases s m.1.mb msg.opc with hg | hg | hg
  · cases hr : refusal s m.1 msg with
    | some x =>
      rw [serve_of_refused hg hr, consumeAuth_of_ne hn]
      exact .inr (.inl ⟨x.1, x.2, refusal_status hr, rfl⟩)
    | none =>
      rw [serve_of_admitted ⟨hg, hr⟩, consumeAuth_of_ne hn]
      rcases hb with ⟨h0, hp⟩ | ⟨hst, h0, hw⟩
      · dsimp only
        rw [h0, if_neg (by decide)]
        exact .inr (.inr ⟨_, answer_reply .., rfl, rfl, rfl, hp⟩)
      · right; left
        refine ⟨(body s).status, (body s).aux, h0, ?_⟩
        simp [hw, follow, h0, hl, hst, answer]
  · exact .inl (serve_of_gate1 hg)
  · rw [serve_of_gate2 hg]
    exact .inr (.inl ⟨0x000B, 0, by decide, rfl⟩)

/-! ### Staging (R425, R436) -/

/-- A write of many bytes leaves the keys below it alone. -/
theorem smRead_smWriteBytes_lt (m : SMap Byte) {j k : Nat} (bs : List Byte) (h : j < k) :
    smRead 0 (smWriteBytes m k bs) j = smRead 0 m j := by
  induction bs generalizing m k with
  | nil => rfl
  | cons b bs ih =>
    unfold smWriteBytes
    rw [ih _ (Nat.lt_succ_of_lt h), smRead_smWrite_ne _ _ (Nat.ne_of_lt h)]

/-- Bytes are read as they were written. -/
theorem smReadBytes_smWriteBytes {m : SMap Byte} (k : Nat) (bs : List Byte) (h : smWf 0 m = true) :
    smReadBytes (smWriteBytes m k bs) k bs.length = bs := by
  induction bs generalizing m k with
  | nil => rfl
  | cons b bs ih =>
    have hs : smSorted m = true := (Bool.and_eq_true _ _ ▸ h : _ ∧ _).1
    rw [smWriteBytes, List.length_cons, smReadBytes, smRead_smWriteBytes_lt _ _ (Nat.lt_succ_self k), smRead_smWrite k b hs,
      ih _ (smWrite_wf k b h)]

/-- What lies in the staging buffer once a message that staged bytes has succeeded. -/
theorem staged_succeeded (s : State) (r : Req) (ofs len : Nat) (data : List Byte) (i : Instr) :
    staged (succeeded (updMbx s r.mb fun x => { x with staging := smWriteBytes x.staging ofs data }) r
      { opc := 0x0005, need := .rd } i []) r.mb ofs len = smReadBytes (smWriteBytes s.mbx[r.mb].staging ofs data) ofs len := by
  simp [succeeded, follow, staged, answer, updMbx]

/-- Settles O52: an admitted write stages its bytes, and an admitted read gives back what lies there. -/
theorem stagingReadsBack : Obligations.StagingReadsBack := by
  unfold Obligations.StagingReadsBack
  intro s r q ofs data t hmb hlen hfit hwf hadm ht hadm2
  have hw : stageWrite r.mb ofs data s =
      dataA (updMbx s r.mb fun x => { x with staging := smWriteBytes x.staging ofs data }) [] := if_neg (Nat.not_lt.2 hfit)
  have hx := completes (i := .mbxStageWrite r ofs data) (body := stageWrite r.mb ofs data) rfl (by decide) hw hadm
  obtain rfl := Host.Outcome.next.inj (hx.symm.trans ht)
  rw [completes (body := stageRead q.mb ofs data.length) rfl (by decide) (if_neg (by omega)) hadm2, ← hmb,
    staged_succeeded, smReadBytes_smWriteBytes ofs data hwf]
  rfl

/-! ### The queue (log entry 7) -/

/-- Settles O46: both clauses are what `step` says of its two kinds of queue. -/
theorem stepRunsFront : Obligations.StepRunsFront := by
  unfold Obligations.StepRunsFront
  exact ⟨fun s c cs h => by rw [step, h], fun s h => by rw [step, h]⟩

end Sys2Proof.Machine
end

section
/-! SUPPORT. AtReset: what reset leaves. -/

namespace Sys2Proof.Machine

/-- Settles O56: every addressed memory is empty at reset. -/
theorem canonicalAtReset : Obligations.CanonicalAtReset := by
  unfold Obligations.CanonicalAtReset
  decide

/-- Settles O60: the units of one kind all start alike, so that each group of registers is read off one of them. -/
theorem resetState : Obligations.ResetState := by
  unfold Obligations.ResetState
  dsimp only
  refine ⟨by decide, fun a => ?_, by decide, fun h z => ?_, fun m => ?_, by decide, by decide, by decide, by decide, fun n => ?_, by decide⟩
  · simp [State.reset]
  · simp [State.reset]
  · simp [State.reset]
  · simp [State.reset]

end Sys2Proof.Machine
end

section
/-! SUPPORT. Kept: what every command keeps, helper by helper: the queue, the canonical form of every addressed memory,
and the fuses (R363, R389, R413, R468, R471). -/

namespace Sys2Proof.Machine

/-! ### What is kept, and the rules of composition -/

/-- From `s` to `t` the queue stays as it is, canonical memories stay canonical, and no fuse comes back. -/
structure Kept (s t : State) : Prop where
  queue : t.pending = s.pending
  mem : canonical s = true → canonical t = true
  fuses : fusesKept s.nv.otp t.nv.otp

/-- A row that answers a next state keeps what is kept from `a` on. -/
def Steps (a : State) (o : Host.Outcome State Fault Refusal) : Prop := ∀ t, o = .next t → Kept a t

/-- The parts of the state that `Kept` speaks of. -/
def keptParts (s : State) :=
  (s.pending, s.dram.lines, s.fw.download, s.mbx, s.seqs, s.seqDev.banks, s.nv.otp)

theorem fusesKept.refl (o : Otp) : fusesKept o o :=
  ⟨Nat.le_refl _, Nat.le_refl _, Nat.le_refl _, Nat.le_refl _, id, id, fun _ => id, fun _ => id⟩

theorem fusesKept.trans {o p q : Otp} (h : fusesKept o p) (k : fusesKept p q) : fusesKept o q := by
  obtain ⟨h1, h2, h3, h4, h5, h6, h7, h8⟩ := h
  obtain ⟨k1, k2, k3, k4, k5, k6, k7, k8⟩ := k
  exact ⟨h1.trans k1, h2.trans k2, h3.trans k3, h4.trans k4, k5 ∘ h5, k6 ∘ h6, fun x => k7 x ∘ h7 x, fun x => k8 x ∘ h8 x⟩

/-- The canonical form speaks of six parts of the state. -/
theorem canonical_iff (s : State) : canonical s = true ↔
    dramCanonical s.dram = true ∧ smWf 0 s.fw.download = true ∧ (∀ i : Mb, mbxCanonical s.mbx[i] = true) ∧
      (∀ n : Sq, seqCanonical s.seqs[n] = true) ∧ smWf 0 s.seqDev.banks[(0 : Fin 2)].words = true ∧
      smWf 0 s.seqDev.banks[(1 : Fin 2)].words = true := by
  simp only [canonical, Bool.and_eq_true, List.all_eq_true, and_assoc, allMbs, allSeqs, List.mem_finRange, true_implies]

section Compose
variable {a s t u : State}

theorem Kept.refl (s : State) : Kept s s := ⟨rfl, id, fusesKept.refl _⟩
theorem Kept.trans (h : Kept a s) (k : Kept s t) : Kept a t :=
  ⟨k.queue.trans h.queue, k.mem ∘ h.mem, h.fuses.trans k.fuses⟩

/-- A change of other parts of the state. -/
theorem Kept.same (h : Kept a s) (e : keptParts t = keptParts s) : Kept a t := by
  simp only [keptParts, Prod.mk.injEq] at e
  obtain ⟨hq, hl, hd, hm, hs, hb, ho⟩ := e
  refine h.trans ⟨hq, fun hc => ?_, by rw [ho]; exact fusesKept.refl _⟩
  simp only [canonical_iff, dramCanonical, hl, hd, hm, hs, hb] at hc ⊢
  exact hc

/-- Parts of the state that `Kept` does not speak of. -/
theorem Kept.other {x0 x1 x2 x3 x4 x5 x6 x7 x8 x9 x10 x11 x12 x13 x14 x15 x16 x17 x18 x19 x20 x21 x22 x23 x24 x25 x26
    x27 x28 x29 x30 x31 x32 x33 x34 x35 x36 x37 x38 x39 x40 x41 x42 x43 x44 x45} (h : Kept a s) :
    Kept a { s with
      phase := x0, us := x1, freeCtr := x2, out := x3, ledger := x4, straps := x5, pins := x6, tap := x7, pmu := x8,
      surfaces := x9, heads := x10, streams := x11, guards := x12, acts := x13, strobe := x14, strobeDone := x15,
      hloops := x16, spn := x17, chn := x18, chz := x19, chnDev := x20, wps := x21, wheads := x22, wdev := x23, plks
      := x24, psl := x25, lnk := x26, cache := x27, staged := x28, tbl := x29, brt := x30, ckptPend := x31, brtPar :=
      x32, headRecs := x33, actRecs := x34, rbld := x35, quay := x36, cmds := x37, mbxPtr := x38, bw := x39, sec :=
      x40, evr := x41, ctr := x42, incidents := x43, boot := x44, aon := x45 } := h.same rfl

theorem Kept.ite {c : Prop} [Decidable c] (h : Kept a s) (k : Kept a t) : Kept a (if c then s else t) := by
  split <;> assumption
theorem Kept.dite {c : Prop} [Decidable c] {f : c → State} {g : ¬c → State} (h : ∀ x, Kept a (f x)) (k : ∀ x, Kept a (g x)) :
    Kept a (if x : c then f x else g x) := by
  split
  · exact h _
  · exact k _
theorem Kept.iteA {c : Prop} [Decidable c] {x y : Ans} (h : Kept a x.st) (k : Kept a y.st) : Kept a (if c then x else
    y).st := by
  split <;> assumption

theorem Kept.forEach {α : Type} {l : List α} {f : State → α → State} (h : Kept a s) (hf : ∀ s x, Kept a s → Kept a (f s x)) :
    Kept a (forEach l s f) := by
  unfold Machine.forEach
  induction l generalizing s with
  | nil => exact h
  | cons x l ih => exact ih (hf _ _ h)
theorem Kept.foldl {α : Type} {l : List α} {f : State → α → State} (h : Kept a s) (hf : ∀ s x, Kept a s → Kept a (f s x)) :
    Kept a (l.foldl f s) := h.forEach hf

theorem Kept.setA {α : Type} {pars : List (Par α)} {rels : α → List Rel} {m : Params} {x : α} {store : α → State}
    (h : Kept a s) (hs : ∀ y, Kept a (store y)) : Kept a (setA s pars rels m x store).st := by
  unfold Machine.setA
  split
  · exact hs _
  · exact h

theorem Kept.ans {n k p} (h : Kept a s) : Kept a (Ans.mk s n k p).st := h

theorem Steps.next (h : Kept a t) : Steps a (.next t) := fun _ e => Host.Outcome.next.inj e ▸ h
theorem Steps.fault {r : Fault} : Steps a (.fault r) := fun _ e => by cases e
theorem Steps.ite {c : Prop} [Decidable c] {o p : Host.Outcome State Fault Refusal} (h : Steps a o) (k : Steps a p) :
    Steps a (if c then o else p) := by
  split <;> assumption

/-! ### The named updates -/
theorem Kept.updStream {m f} (h : Kept a s) : Kept a (updStream s m f) := h.other
theorem Kept.updGuard {a' f} (h : Kept a s) : Kept a (updGuard s a' f) := h.other
theorem Kept.updAct {a' f} (h : Kept a s) : Kept a (updAct s a' f) := h.other
theorem Kept.updHead {h' f} (h : Kept a s) : Kept a (updHead s h' f) := h.other
theorem Kept.updHloop {h' f} (h : Kept a s) : Kept a (updHloop s h' f) := h.other
theorem Kept.updSpn {f} (h : Kept a s) : Kept a (updSpn s f) := h.other
theorem Kept.updChn {m f} (h : Kept a s) : Kept a (updChn s m f) := h.other
theorem Kept.updChz {h' z f} (h : Kept a s) : Kept a (updChz s h' z f) := h.other
theorem Kept.updWp {a' f} (h : Kept a s) : Kept a (updWp s a' f) := h.other
theorem Kept.updWhead {h' f} (h : Kept a s) : Kept a (updWhead s h' f) := h.other
theorem Kept.updPlk {a' f} (h : Kept a s) : Kept a (updPlk s a' f) := h.other
theorem Kept.updPsl {f} (h : Kept a s) : Kept a (updPsl s f) := h.other
theorem Kept.updTbl {f} (h : Kept a s) : Kept a (updTbl s f) := h.other
theorem Kept.updBrt {f} (h : Kept a s) : Kept a (updBrt s f) := h.other
theorem Kept.updRbld {f} (h : Kept a s) : Kept a (updRbld s f) := h.other
theorem Kept.updHeadRec {h' f} (h : Kept a s) : Kept a (updHeadRec s h' f) := h.other
theorem Kept.updActRec {a' f} (h : Kept a s) : Kept a (updActRec s a' f) := h.other
theorem Kept.updQuay {f} (h : Kept a s) : Kept a (updQuay s f) := h.other
theorem Kept.updCmds {f} (h : Kept a s) : Kept a (updCmds s f) := h.other
/-- The DRAM controller changed within the canonical form of its lines. -/
theorem Kept.updDram {f} (h : Kept a s)
    (hf : dramCanonical s.dram = true → dramCanonical (f s.dram) = true) : Kept a (updDram s f) := by
  refine h.trans ⟨rfl, fun hc => ?_, fusesKept.refl _⟩
  rw [canonical_iff] at hc ⊢
  obtain ⟨hd, hr⟩ := hc
  exact ⟨hf hd, hr⟩
/-- A sequencer changed within its canonical form. -/
theorem Kept.updSeq {n f} (h : Kept a s)
    (hf : ∀ q, seqCanonical q = true → seqCanonical (f q) = true) : Kept a (updSeq s n f) := by
  refine h.trans ⟨rfl, fun hc => ?_, fusesKept.refl _⟩
  rw [canonical_iff] at hc ⊢
  obtain ⟨hd, hw, hm, hs, h0, h1⟩ := hc
  refine ⟨hd, hw, hm, fun i => ?_, h0, h1⟩
  by_cases hi : n = i
  · subst hi
    rw [updSeq_seqs, vupd_self]
    exact hf _ (hs n)
  · rw [updSeq_seqs, vupd_ne _ _ hi]
    exact hs i
/-- The control store changed within the canonical form of its banks. -/
theorem Kept.updSeqDev {f} (h : Kept a s)
    (hf : (∀ b : Fin 2, smWf 0 s.seqDev.banks[b].words = true) →
      ∀ b : Fin 2, smWf 0 (f s.seqDev).banks[b].words = true) : Kept a (updSeqDev s f) := by
  refine h.trans ⟨rfl, fun hc => ?_, fusesKept.refl _⟩
  rw [canonical_iff] at hc ⊢
  obtain ⟨hd, hw, hm, hs, h0, h1⟩ := hc
  have hb := hf fun b => by match b with | 0 => exact h0 | 1 => exact h1
  exact ⟨hd, hw, hm, hs, hb 0, hb 1⟩
/-- A mailbox changed within its canonical form. -/
theorem Kept.updMbx {mb f} (h : Kept a s)
    (hf : ∀ x, mbxCanonical x = true → mbxCanonical (f x) = true) : Kept a (updMbx s mb f) := by
  refine h.trans ⟨rfl, fun hc => ?_, fusesKept.refl _⟩
  rw [canonical_iff] at hc ⊢
  obtain ⟨hd, hw, hm, hs, h0, h1⟩ := hc
  refine ⟨hd, hw, fun i => ?_, hs, h0, h1⟩
  by_cases hi : mb = i
  · subst hi
    rw [updMbx_mbx, vupd_self]
    exact hf _ (hm mb)
  · rw [updMbx_mbx, vupd_ne _ _ hi]
    exact hm i
theorem Kept.updBw {f} (h : Kept a s) : Kept a (updBw s f) := h.other
theorem Kept.updSec {f} (h : Kept a s) : Kept a (updSec s f) := h.other
theorem Kept.updEvr {f} (h : Kept a s) : Kept a (updEvr s f) := h.other
/-- Non-volatile content changed with no fuse brought back. -/
theorem Kept.updNv {f} (h : Kept a s) (hf : fusesKept s.nv.otp (f s.nv).otp) :
    Kept a (updNv s f) :=
  h.trans ⟨rfl, id, hf⟩
theorem Kept.updBoot {f} (h : Kept a s) : Kept a (updBoot s f) := h.other
/-- Slipway and download changed within the canonical form of the download buffer. -/
theorem Kept.updFw {f} (h : Kept a s)
    (hf : smWf 0 s.fw.download = true → smWf 0 (f s.fw).download = true) : Kept a (updFw s f) := by
  refine h.trans ⟨rfl, fun hc => ?_, fusesKept.refl _⟩
  rw [canonical_iff] at hc ⊢
  obtain ⟨hd, hw, hr⟩ := hc
  exact ⟨hd, hf hw, hr⟩
theorem Kept.updDevCtr {f} (h : Kept a s) : Kept a (updDevCtr s f) := h.other
theorem Kept.updHeadCtr {h' f} (h : Kept a s) : Kept a (updHeadCtr s h' f) := h.other
theorem Kept.updActCtr {a' f} (h : Kept a s) : Kept a (updActCtr s a' f) := h.other
theorem Kept.emit {o} (h : Kept a s) : Kept a (emit s o) := h.other
theorem Kept.takeFree (h : Kept a s) : Kept a (takeFree s).2 := h.other
theorem mbxCanonical_putNtf {x n always} (hx : mbxCanonical x = true) : mbxCanonical (putNtf x n always) = true := by
  simp only [mbxCanonical, Bool.and_eq_true] at hx ⊢
  obtain ⟨⟨⟨hg, hq⟩, hr⟩, hn⟩ := hx
  unfold putNtf
  split
  · exact ⟨⟨⟨hg, hq⟩, hr⟩, hn⟩
  · exact ⟨⟨⟨hg, hq⟩, hr⟩, smPut_sorted _ _ hn⟩
/-- A slot of the request ring written. -/
theorem mbxCanonical_reqSlot {x : Mailbox} {i v n d} (hx : mbxCanonical x = true) :
    mbxCanonical { x with reqSlots := smPut x.reqSlots i v, reqTail := n, dirty := d } = true := by
  simp only [mbxCanonical, Bool.and_eq_true] at hx ⊢
  obtain ⟨⟨⟨hg, hq⟩, hr⟩, hn⟩ := hx
  exact ⟨⟨⟨hg, smPut_sorted _ _ hq⟩, hr⟩, hn⟩
/-- A slot of the response ring written. -/
theorem mbxCanonical_respSlot {x : Mailbox} {i v n} (hx : mbxCanonical x = true) :
    mbxCanonical { x with respSlots := smPut x.respSlots i v, respTail := n } = true := by
  simp only [mbxCanonical, Bool.and_eq_true] at hx ⊢
  obtain ⟨⟨⟨hg, hq⟩, hr⟩, hn⟩ := hx
  exact ⟨⟨⟨hg, hq⟩, smPut_sorted _ _ hr⟩, hn⟩
/-- Bytes staged. -/
theorem mbxCanonical_stage {x : Mailbox} {o bs} (hx : mbxCanonical x = true) :
    mbxCanonical { x with staging := smWriteBytes x.staging o bs } = true := by
  simp only [mbxCanonical, Bool.and_eq_true] at hx ⊢
  obtain ⟨⟨⟨hg, hq⟩, hr⟩, hn⟩ := hx
  exact ⟨⟨⟨smWriteBytes_wf _ _ hg, hq⟩, hr⟩, hn⟩
theorem Kept.pushNtf {mb n} (h : Kept a s) : Kept a (pushNtf s mb n) :=
  .ite (.ite h.emit h) (.ite h (.ite h.other (h.emit.updMbx (by exact fun _ => id))))
theorem Kept.notify {mb n always} (h : Kept a s) : Kept a (notify s mb n always) := by
  have h1 : Kept a (Machine.updMbx s mb fun x => putNtf x n always) := h.updMbx fun _ => mbxCanonical_putNtf
  exact .ite h (.ite h1 h1.pushNtf)
theorem Kept.notifyEvent {r} (h : Kept a s) : Kept a (notifyEvent s r) := h.forEach fun _ _ h' => .ite h'.notify h'
theorem Kept.number {r} (h : Kept a s) : Kept a (number s r) := h.updEvr.notifyEvent
theorem Kept.raise {ev sev unit inst p0 p1 p2} (h : Kept a s) : Kept a (raise s ev sev unit inst p0 p1 p2) :=
  .ite h.updEvr (.ite h.number h.updEvr)
theorem Kept.coverDrops (h : Kept a s) : Kept a (coverDrops s) := .ite h.updEvr.raise h
theorem Kept.closeIncident {i} (h : Kept a s) : Kept a (closeIncident s i) :=
  .ite (h.other.forEach fun _ _ h' => .ite h'.notify h') h
theorem Kept.evictIncident {i} (h : Kept a s) : Kept a (evictIncident s i) := .ite h.closeIncident.raise h
theorem Kept.openNew {key ev sev unit inst p0 p1 p2 action} (h : Kept a s) :
    Kept a (openNew s key ev sev unit inst p0 p1 p2 action) :=
  h.updDevCtr.evictIncident.raise.other
theorem Kept.joinIncident {i sev unit action} (h : Kept a s) : Kept a (joinIncident s i sev unit action) := h.other
theorem Kept.report {key ev sev unit inst p0 p1 p2 action} (h : Kept a s) :
    Kept a (report s key ev sev unit inst p0 p1 p2 action) := by
  unfold Machine.report
  split
  · exact h.joinIncident
  · exact h.openNew
theorem Kept.countFuncs {key fs} (h : Kept a s) : Kept a (countFuncs s key fs) := by
  unfold Machine.countFuncs
  split
  · exact h.other
  · exact h

/-! ### Mail -/

theorem Kept.okA (h : Kept a s) : Kept a (okA s).st := h
theorem Kept.dataA {p} (h : Kept a s) : Kept a (dataA s p).st := h
theorem Kept.failA {status aux} (h : Kept a s) : Kept a (failA s status aux).st := h
theorem Kept.malformedA {aux} (h : Kept a s) : Kept a (malformedA s aux).st := h
theorem Kept.rangeA {aux} (h : Kept a s) : Kept a (rangeA s aux).st := h
theorem Kept.conflictA {aux} (h : Kept a s) : Kept a (conflictA s aux).st := h
theorem Kept.notFoundA {aux} (h : Kept a s) : Kept a (notFoundA s aux).st := h
theorem Kept.answer {r opc status aux payload} (h : Kept a s) : Kept a (answer s r opc status aux payload) :=
  h.updMbx (by exact fun _ => id)
theorem Kept.consumeAuth {r m} (h : Kept a s) : Kept a (consumeAuth s r m) := .ite (h.updMbx (by exact fun _ => id)) h
theorem Kept.notifyConfig {r opc} (h : Kept a s) : Kept a (notifyConfig s r opc) :=
  h.forEach fun _ _ h' => .ite h'.notify h'
theorem Kept.deferA (h : Kept a s) : Kept a (deferA s).st := h
theorem Kept.postReply {mb x} (h : Kept a s) : Kept a (postReply s mb x) := by
  unfold Machine.postReply
  extract_lets +onlyGivenNames s1
  have hs1 : Kept a s1 := h.updMbx (by exact fun _ => id)
  split
  · extract_lets m s2
    have hs2 : Kept a s2 := hs1.updMbx fun _ hx => mbxCanonical_respSlot hx
    exact .ite hs2.emit hs2
  · exact (hs1.updMbx (by exact fun _ => id)).emit
theorem Kept.lateAnswer {mb status aux payload} (h : Kept a s) : Kept a (lateAnswer s mb status aux payload) := by
  unfold Machine.lateAnswer
  split
  · exact h
  · extract_lets x s1
    have hs1 : Kept a s1 := h.updMbx (by exact fun _ => id)
    exact .ite ((hs1.updMbx (by exact fun _ => id)).postReply) (hs1.updMbx (by exact fun _ => id))
theorem Kept.follow {r m i status} (h : Kept a s) : Kept a (follow s r m i status) :=
  .ite (.ite (h.notifyConfig.updNv (by exact fusesKept.refl _)) h.notifyConfig) (.ite (h.updMbx (by exact fun _ => id)) h)
/-- A message whose body keeps what is kept. -/
theorem Kept.serve {r m i body} (h : Kept a s) (hb : ∀ s, Kept a s → Kept a (body s).st) : Kept a (serve s r m i body) := by
  unfold Machine.serve
  have ha : Kept a (body (Machine.consumeAuth s r m)).st := hb _ h.consumeAuth
  refine .ite h (.ite h.answer ?_)
  split
  · exact h.consumeAuth.answer
  · exact .ite (ha.updMbx (by exact fun _ => id)) ha.follow.answer
theorem Kept.postDone {mb seq status aux result} (h : Kept a s) : Kept a (postDone s mb seq status aux result) := by
  unfold Machine.postDone
  split
  · exact h
  · exact .ite (h.updMbx (by exact fun _ => id)) ((h.updMbx (by exact fun _ => id)).notify)
theorem runPars_keeps {α : Type} {pars : List (Par α)} {P : α → Prop} (hp : ∀ p ∈ pars, ∀ vs y, P y → P (p.put vs y))
    {m : Params} {x y : α} (hx : P x) (e : runPars pars m x = .ok y) : P y := by
  induction m generalizing x with
  | nil => exact Except.ok.inj e ▸ hx
  | cons b m ih =>
    unfold runPars at e
    split at e
    · cases e
    · next p hb =>
      dsimp only at e
      split at e
      · exact ih (hp p (List.mem_of_getElem? hb) _ _ hx) e
      · cases e
/-- A parameter list whose entries keep a property of what they write. -/
theorem Kept.setA_of {α : Type} {pars : List (Par α)} {rels : α → List Rel} {m : Params} {x : α} {store : α → State}
    {P : α → Prop} (h : Kept a s) (hx : P x) (hp : ∀ p ∈ pars, ∀ vs y, P y → P (p.put vs y))
    (hs : ∀ y, P y → Kept a (store y)) : Kept a (Machine.setA s pars rels m x store).st := by
  unfold Machine.setA applyPars
  split
  · next e =>
    split at e
    · cases e
    · next hr =>
      split at e
      · cases e
      · exact hs _ (Except.ok.inj e ▸ runPars_keeps hp hx hr)
  · exact h
theorem Kept.foldExcept {α : Type} {l : List α} {f : State → α → Except Nat State} (h : Kept a s)
    (hf : ∀ s x t, Kept a s → f s x = .ok t → Kept a t) (e : foldExcept l s f = .ok t) : Kept a t := by
  induction l generalizing s with
  | nil => exact Except.ok.inj e ▸ h
  | cons x l ih =>
    unfold Machine.foldExcept at e
    split at e
    · next hx => exact ih (hf _ _ _ h hx) e
    · cases e
theorem Kept.setAllA {α : Type} {l : List α} {f : State → α → Except Nat State} (h : Kept a s)
    (hf : ∀ s x t, Kept a s → f s x = .ok t → Kept a t) : Kept a (setAllA s l f).st := by
  unfold Machine.setAllA
  split
  · next e => exact h.foldExcept hf e
  · exact h
theorem Kept.getA {words} (h : Kept a s) : Kept a (getA s words).st := h

/-! ### Ops -/

theorem Kept.updBand {a' c f} (h : Kept a s) : Kept a (updBand s a' c f) := .dite (fun _ => h.updWp) (fun _ => h)
theorem Kept.bandComplete {a' c slot} (h : Kept a s) : Kept a (bandComplete s a' c slot) := h.updBand
theorem Kept.addEnergy {h' nj} (h : Kept a s) : Kept a (addEnergy s h' nj) := h.updWhead.updHeadCtr
theorem Kept.wearCheck {h'} (h : Kept a s) : Kept a (wearCheck s h') :=
  .ite ((Kept.ite ((Kept.ite h.updWhead.raise h).updWhead.raise) (.ite h.updWhead.raise h)).updWhead) (.ite ((Kept.ite
      h.updWhead.raise h).updWhead.raise) (.ite h.updWhead.raise h))
theorem Kept.wearLoad {h'} (h : Kept a s) : Kept a (wearLoad s h') := h.updWhead
theorem Kept.aeFall {a'} (h : Kept a s) : Kept a (aeFall s a') := h.updWp.updWhead.updHeadCtr.wearCheck
theorem Kept.learnFF {a' h' z lawFrames} (h : Kept a s) : Kept a (learnFF s a' h' z lawFrames) :=
  .ite h (.ite (.ite h.updWhead.updWp h.updWhead.updWp.updWhead.raise) h.updWhead)
theorem Kept.heaterWrite {h'} (h : Kept a s) : Kept a (heaterWrite s h') := .ite h h.updWhead
theorem Kept.heaterRead {h'} (h : Kept a s) : Kept a (heaterRead s h') := h.updWhead
theorem Kept.selectWrite {a' h'} (h : Kept a s) : Kept a (selectWrite s a' h') := h.updPlk
theorem Kept.afterRun {a' o} (h : Kept a s) : Kept a (afterRun s a' o) := by
  unfold Machine.afterRun
  extract_lets more s1
  have hs1 : Kept a s1 := .ite h.heaterRead h
  split
  · exact hs1.heaterWrite.selectWrite
  · exact hs1
theorem Kept.updOp {a' id f} (h : Kept a s) : Kept a (updOp s a' id f) := h.updCmds
theorem Kept.postWord {a' x} (h : Kept a s) : Kept a (postWord s a' x) := h.updWp
theorem Kept.postResults {a' r rs} (h : Kept a s) : Kept a (postResults s a' r rs) :=
  h.forEach fun _ _ h' => .ite h'.postWord.updOp.updBand.bandComplete.updHeadCtr (.ite h'.postWord.updWp.updBand h'.postWord)
theorem Kept.closeRun {a' cause tripped torn} (h : Kept a s) : Kept a (closeRun s a' cause tripped torn) := by
  unfold Machine.closeRun
  split
  · exact h
  · exact h.updWhead.addEnergy.postResults.aeFall.updWp.learnFF.afterRun
theorem Kept.addReopen {a' cause} (h : Kept a s) : Kept a (addReopen s a' cause) := .ite h.updWp.updAct h.updWp
theorem Kept.unpair {a' ctx} (h : Kept a s) : Kept a (unpair s a' ctx) := h.updWp.updBand
theorem Kept.tripGate {a' cause torn} (h : Kept a s) : Kept a (tripGate s a' cause torn) := by
  unfold Machine.tripGate
  extract_lets h0 s1 s2 s3 s4
  have hs1 : Kept a s1 := h.addReopen
  have hs2 : Kept a s2 := .ite hs1.closeRun hs1
  have hs3 : Kept a s3 := .ite (hs2.forEach fun _ _ h' => h'.unpair) hs2
  have hs4 : Kept a s4 := .ite hs3.updWhead hs3
  exact .ite hs4.updHeadCtr hs4
theorem Kept.tripNow {a' cause} (h : Kept a s) : Kept a (tripNow s a' cause) := h.tripGate
theorem Kept.orderlyClose {a' cause} (h : Kept a s) : Kept a (orderlyClose s a' cause) :=
  .ite h.addReopen.updWp h.addReopen
theorem Kept.recordTrip {a' windows exc} (h : Kept a s) : Kept a (recordTrip s a' windows exc) := by
  unfold Machine.recordTrip
  split
  · exact h
  · extract_lets +onlyGivenNames b e s1
    have hs1 : Kept a s1 := h.updWp
    clear_value b
    split
    · exact .ite hs1.updWp.raise hs1
    · exact hs1
theorem Kept.positionTrip {a' span torn} (h : Kept a s) : Kept a (positionTrip s a' span torn) := h.recordTrip.tripGate
theorem Kept.orderlyAll {cause} (h : Kept a s) : Kept a (orderlyAll s cause) := h.forEach fun _ _ h' => h'.orderlyClose
theorem Kept.setXfer {v} (h : Kept a s) : Kept a (setXfer s v) := .ite h.updSpn.orderlyAll h.updSpn
theorem Kept.gatesOffNow (h : Kept a s) : Kept a (gatesOffNow s) := h.updSpn.other
theorem Kept.revCheck (h : Kept a s) : Kept a (revCheck s) := by
  unfold Machine.revCheck
  split
  · exact h
  · exact .ite h h.updSpn
theorem Kept.angleLost {a'} (h : Kept a s) : Kept a (angleLost s a') := h.updStream.updStream.revCheck
theorem Kept.pslWrite {addr data} (h : Kept a s) : Kept a (pslWrite s addr data) := .ite h.updPsl h
theorem Kept.quiesce (h : Kept a s) : Kept a (quiesce s) := h.gatesOffNow.other

/-! ### Lakebed -/

theorem Kept.samplePos {h' x} (h : Kept a s) : Kept a (samplePos s h' x).2 := by
  unfold Machine.samplePos
  split
  · exact h
  · exact h.takeFree
theorem Kept.guardSample {a' w seam} (h : Kept a s) : Kept a (guardSample s a' w seam) := by
  unfold Machine.guardSample
  have hs : Kept a (Machine.updWp (Machine.updGuard s a' fun g => guardCount g w (runWin s a')) a' fun p =>
      { p with run := p.run.map fun r => { r with win := r.win + 1 } }) := h.updGuard.updWp
  cases guardSpan s.guards[a'] w seam with
  | none => exact hs
  | some k => exact hs.positionTrip
theorem Kept.flagRead {m w} (h : Kept a s) : Kept a (flagRead s m w) := by
  unfold Machine.flagRead
  extract_lets +onlyGivenNames c
  split
  · exact .ite h.updChn h
  · exact h
theorem Kept.judgeTrack {m t'} (h : Kept a s) : Kept a (judgeTrack s m t') :=
  .ite ((h.other.updNv (by exact fusesKept.refl _)).updStream.raise) ((h.other.updNv (by exact fusesKept.refl _)).updStream)
theorem Kept.verifyTrack {m cycles} (h : Kept a s) : Kept a (verifyTrack m cycles s) :=
  .ite h (.ite h.updStream (.ite h.updStream (.ite h.updStream.judgeTrack h.updStream)))
theorem Kept.positionSample {m x} (h : Kept a s) : Kept a (positionSample m x s) :=
  .ite (.ite h.samplePos.updStream.revCheck.verifyTrack.flagRead.updChn.guardSample
      h.samplePos.updStream.revCheck.verifyTrack.flagRead.updChn) h
theorem Kept.execPositionSampleArrival {m x} (h : Kept a s) : Steps a (execPositionSampleArrival m x s) :=
  .next h.positionSample
theorem Kept.execGuardGapTimeout {a'} (h : Kept a s) : Steps a (execGuardGapTimeout a' s) := .next (.ite h.positionTrip h)
theorem Kept.wordTrip {a' f} (h : Kept a s) : Kept a (wordTrip s a' f) := h.positionTrip
theorem Kept.noteField {m t'} (h : Kept a s) : Kept a (noteField s m t') := h.updStream
theorem Kept.trackField {m t' f} (h : Kept a s) : Kept a (trackField m t' f s) :=
  .ite h (.ite h.updStream (.ite h.wordTrip (.ite h.updStream.raise h.updStream)))
theorem Kept.angleField {m w f} (h : Kept a s) : Kept a (angleField m w f s) :=
  .ite h.updStream (.ite h.updStream (.ite h.wordTrip (.ite h.updStream.raise h.updStream)))
theorem Kept.identityFault {m ev set} (h : Kept a s) : Kept a (identityFault m ev set s) := h.updStream.updHeadRec.raise
theorem Kept.identityFaults {m w} (h : Kept a s) : Kept a (identityFaults m w s) :=
  .ite (.ite h.identityFault h) ((Kept.ite h.identityFault h).identityFault)
theorem Kept.loadCounters {m w f} (h : Kept a s) : Kept a (loadCounters s m w f) := h.updStream.updHeadRec
theorem Kept.recordRing {m t' w} (h : Kept a s) : Kept a (recordRing s m t' w) :=
  .ite h (h.other.updNv (by exact fusesKept.refl _))
theorem Kept.goodWord {m w f} (h : Kept a s) : Kept a (goodWord m w f s) :=
  .ite h.loadCounters.recordRing (.ite (.ite h.noteField.trackField h.noteField.trackField.angleField.recordRing) h)
theorem Kept.addressWord {m w f} (h : Kept a s) : Kept a (addressWord m w f s) :=
  .ite h (.ite (.ite h (.ite h.updStream.noteField.trackField h.updStream)) (.ite (.ite h.wordTrip (.ite
      h.identityFaults.noteField.trackField.angleField h.identityFaults)) h.goodWord))
theorem Kept.execAddressWordDecoded {m w f} (h : Kept a s) : Steps a (execAddressWordDecoded m w f s) :=
  .next h.addressWord
theorem Kept.execToneLockDeclared {m} (h : Kept a s) : Steps a (execToneLockDeclared m s) :=
  .next (.ite h.updStream.revCheck h)
theorem Kept.execToneLockLost {m} (h : Kept a s) : Steps a (execToneLockLost m s) := .next (.ite h.updStream.updChn h)
theorem Kept.execHoldoverTimeout {m} (h : Kept a s) : Steps a (execHoldoverTimeout m s) := .next (.ite h.updStream.raise h)
theorem Kept.headSelect {m h'} (h : Kept a s) : Kept a (headSelect m h' s) :=
  .ite ((h.forEach fun _ _ h' => .ite h'.updStream h').updStream.updHeadRec.revCheck) h
theorem Kept.execHeadSelect {m h'} (h : Kept a s) : Steps a (execHeadSelect m h' s) := .next h.headSelect
theorem Kept.execAcquisitionFail {m} (h : Kept a s) : Steps a (execAcquisitionFail m s) :=
  .next (.ite h.updStream.updHeadRec.raise h)
theorem Kept.execZoneRatioApply {m} (h : Kept a s) : Steps a (execZoneRatioApply m s) := .next (.ite h.updStream h)
theorem Kept.execZoneSettleEnd {m} (h : Kept a s) : Steps a (execZoneSettleEnd m s) := .next (.ite h.updStream h)
theorem Kept.execRateOutOfRange {m} (h : Kept a s) : Steps a (execRateOutOfRange m s) :=
  .next (.ite (.ite h.updStream.raise.orderlyClose h.updStream.raise) h)
theorem Kept.execChannelRateReturn {m} (h : Kept a s) : Steps a (execChannelRateReturn m s) := .next (.ite h.updStream h)
theorem Kept.execDemodParamApply {h'} (h : Kept a s) : Steps a (execDemodParamApply h' s) := by
  unfold Machine.execDemodParamApply
  refine .next ?_
  split
  · extract_lets c s1
    have hs1 : Kept a s1 := by
      unfold s1
      split
      · exact h.updStream
      · exact h
    exact hs1.updHead
  · exact h
theorem Kept.setSurface {head surface pL index lin} (h : Kept a s) : Kept a (setSurface head surface pL index lin s).st :=
  .iteA h (.iteA (h.other.forEach fun _ _ h' => h'.updHead) h)
theorem Kept.execLkbSetSurface {r head surface pL index lin} (h : Kept a s) :
    Steps a (execLkbSetSurface r head surface pL index lin s) :=
  .next (h.serve fun _ h' => h'.setSurface)
theorem Kept.setZoneMap {surface first} (h : Kept a s) : Kept a (setZoneMap surface first s).st := .iteA h.other h
theorem Kept.execLkbSetZoneMap {r surface first} (h : Kept a s) : Steps a (execLkbSetZoneMap r surface first s) :=
  .next (h.serve fun _ h' => h'.setZoneMap)
theorem Kept.putRatio {h' z x} (h : Kept a s) : Kept a (putRatio s h' z x) :=
  h.updHead.forEach fun _ _ h' => .ite h'.updStream h'
theorem Kept.setRatio {head zone word} (h : Kept a s) : Kept a (setRatio head zone word s).st :=
  .iteA h (.iteA (h.forEach fun _ _ h' => h'.forEach fun _ _ h'' => h''.putRatio) h)
theorem Kept.execLkbSetRatio {r head zone word} (h : Kept a s) : Steps a (execLkbSetRatio r head zone word s) :=
  .next (h.serve fun _ h' => h'.setRatio)
theorem Kept.setGuard {act word} (h : Kept a s) : Kept a (setGuard act word s).st := by
  unfold Machine.setGuard
  split
  · exact .iteA h (.iteA h.updGuard h)
  · exact h
theorem Kept.execLkbSetGuard {r act word} (h : Kept a s) : Steps a (execLkbSetGuard r act word s) :=
  .next (h.serve fun _ h' => h'.setGuard)
theorem Kept.demodHead {m ps x} (h : Kept a s) (e : demodHead m ps s x = .ok t) : Kept a t := by
  unfold Machine.demodHead at e
  dsimp only at e
  split at e
  · exact Except.ok.inj e ▸ .ite h.updHead h.updStream.updHead
  · cases e
theorem Kept.setDemod {head stream ps} (h : Kept a s) : Kept a (setDemod head stream ps s).st := by
  unfold Machine.setDemod
  split
  · exact .iteA h (h.setAllA (fun _ _ _ h' e => h'.demodHead e))
  · exact h
theorem Kept.execLkbSetDemod {r head stream ps} (h : Kept a s) : Steps a (execLkbSetDemod r head stream ps s) :=
  .next (h.serve fun _ h' => h'.setDemod)
theorem Kept.getLkbStatus {stream clear} (h : Kept a s) : Kept a (getLkbStatus stream clear s).st := by
  unfold Machine.getLkbStatus
  split
  · exact h.updStream
  · exact h
theorem Kept.execLkbGetStatus {r stream clear} (h : Kept a s) : Steps a (execLkbGetStatus r stream clear s) :=
  .next (h.serve fun _ h' => h'.getLkbStatus)
theorem Kept.readPosition {stream} (h : Kept a s) : Kept a (readPosition stream s).st := by
  unfold Machine.readPosition
  split
  · exact h
  · exact h
theorem Kept.execLkbReadPosition {r stream} (h : Kept a s) : Steps a (execLkbReadPosition r stream s) :=
  .next (h.serve fun _ h' => h'.readPosition)

/-! ### Loop -/

theorem Kept.issueVcm {a' cmd out sat} (h : Kept a s) : Kept a (issueVcm s a' cmd out sat) := h.updAct.updPsl
theorem Kept.retract {a'} (h : Kept a s) : Kept a (retract s a') := h.updAct.updActCtr.updActRec
theorem Kept.parkFrame {a'} (h : Kept a s) : Kept a (parkFrame s a') := by
  unfold Machine.parkFrame
  extract_lets +onlyGivenNames x pL lim p
  have hp : Kept a p.2 := h.takeFree
  split
  · exact h
  · exact hp.updAct.issueVcm
  · exact hp.updAct.issueVcm
  · exact hp.updAct.issueVcm
  · exact h.issueVcm
theorem Kept.rampFrame {a'} (h : Kept a s) : Kept a (rampFrame s a') := h.takeFree.updAct.issueVcm
theorem Kept.undispatch {a' ids} (h : Kept a s) : Kept a (undispatch s a' ids) := h.updCmds
theorem Kept.seekBack {a'} (h : Kept a s) : Kept a (seekBack s a') := by
  unfold Machine.seekBack
  extract_lets p
  exact h.undispatch.updCmds
theorem Kept.headBack {a' h'} (h : Kept a s) : Kept a (headBack s a' h') := h.undispatch
theorem Kept.seekTo {a' t'} (h : Kept a s) : Kept a (seekTo s a' t') := h.updAct
theorem Kept.takeSeek {a' t'} (h : Kept a s) : Kept a (takeSeek s a' t') := by
  unfold Machine.takeSeek
  extract_lets +onlyGivenNames x
  split
  · exact h.updAct
  · split
    · exact h
    · exact h.updAct
    · exact .ite h.updAct h.seekTo
    · exact h.seekTo
theorem Kept.endStop {a'} (h : Kept a s) : Kept a (endStop s a') :=
  .ite h.updAct.seekBack.updActCtr.updActRec.raise h.updAct.seekBack.raise
theorem Kept.rampDown {a'} (h : Kept a s) : Kept a (rampDown s a') := h.updAct
theorem Kept.takeDue {a' m} (h : Kept a s) : Kept a (takeDue s a' m) := by
  unfold Machine.takeDue
  extract_lets +onlyGivenNames x into
  have hi {m} : Kept a (into s m) := h.updAct
  split
  · refine .ite hi.updAct (.ite ?_ h)
    extract_lets s1
    have hs1 : Kept a s1 := by
      unfold s1
      split
      · exact h.headBack
      · exact h
    exact hs1.updAct.updActCtr
  · exact .ite hi.updAct.updActCtr h
  · exact .ite hi h
  · exact .ite hi h
  · exact h
theorem Kept.frameModes {a'} (h : Kept a s) : Kept a (frameModes s a') := by
  unfold Machine.frameModes
  extract_lets +onlyGivenNames x
  split
  · exact h
  · split
    · exact h.rampDown
    · split
      · exact .ite h.updAct h
      · split
        · exact .ite h.endStop h
        · split
          · exact h.takeSeek
          · exact h.updAct.takeDue
          · exact h
theorem Kept.consume {m} (h : Kept a s) : Kept a (consume s m).2.2 := h.updStream
theorem Kept.issuePrediction {late a' h'} (h : Kept a s) : Kept a (issuePrediction late a' s h') := by
  unfold Machine.issuePrediction
  extract_lets +onlyGivenNames x
  split
  · exact h
  · exact .ite h h.takeFree.updStream
theorem Kept.runMa {late a' h' e} (h : Kept a s) : Kept a (runMa late a' s h' e) := .ite h.updAct (.ite h h.updAct)
theorem Kept.runVcm {late a' x} (h : Kept a s) : Kept a (runVcm late a' s x) := .ite h h.updAct.issueVcm
theorem Kept.runShaping {late a'} (h : Kept a s) : Kept a (runShaping late a' s) := h.updAct
theorem Kept.observe {late a' smp} (h : Kept a s) : Kept a (observe late a' smp s) := .ite h h.takeFree.updAct
theorem Kept.heaterLaw {a' h' z} (h : Kept a s) : Kept a (heaterLaw s a' h' z) :=
  (Kept.ite h.updHloop.updHloop h.updHloop).updWhead.updPlk
theorem Kept.runHeater {late a'} (h : Kept a s) : Kept a (runHeater late a' s) := by
  unfold Machine.runHeater
  extract_lets x
  split
  · exact h
  · split
    · exact h
    · exact h.heaterLaw
theorem Kept.coefError {a' l} (h : Kept a s) : Kept a (coefError a' s l) := .ite h.updAct.tripNow h.updAct
theorem Kept.twinFrame {a'} (h : Kept a s) : Kept a (twinFrame s a') := by
  unfold Machine.twinFrame
  extract_lets +onlyGivenNames x
  split
  · exact .ite h h.updAct
  · exact h
theorem Kept.vcmSlot {late a' input} (h : Kept a s) : Kept a (vcmSlot late a' input s) := by
  unfold Machine.vcmSlot
  extract_lets x
  split
  · exact h.parkFrame
  · split
    · exact h
    · exact h.rampFrame
    · exact h.runVcm
theorem Kept.latchPartner {a' posL okL} (h : Kept a s) : Kept a (latchPartner s a' posL okL).2 := by
  unfold Machine.latchPartner
  dsimp only
  split
  · exact h.consume.updAct
  · exact h
theorem Kept.slotLaws {a' late offRamp} (h : Kept a s) : Kept a (slotLaws a' late offRamp s) := by
  unfold Machine.slotLaws
  extract_lets m c vFine s1 q pos wok s2 x s3 eL eP t s4 s5 dP input s6
  have hq : Kept a q.2 := Kept.latchPartner h.consume.updAct
  have hs2 : Kept a s2 := hq.updAct
  have hs3 : Kept a s3 := hs2.forEach fun _ _ h' => h'.issuePrediction
  have ht : Kept a t := hs3.runMa
  have hs4 : Kept a s4 := by
    refine .ite ?_ hs3
    generalize pos = p, eP = e
    split
    · exact ht.runMa
    · exact ht
  have hs5 : Kept a s5 := hs4.updAct
  have hs6 : Kept a s6 := .ite hs5.updAct.vcmSlot (.ite hs5.observe (.ite hs5.runShaping hs5.runHeater))
  exact hs6.updAct
theorem Kept.errFrame {a'} (h : Kept a s) : Kept a (errFrame s a') := h.updAct
theorem Kept.reloadReopen {a'} (h : Kept a s) : Kept a (reloadReopen s a') := .ite h.updWp h
theorem Kept.updLaw4 {l f} (h : Kept a s) : Kept a (updLaw4 s l f) := h.updSpn
theorem Kept.latchLe4 (h : Kept a s) : Kept a (latchLe4 s) := by
  unfold Machine.latchLe4
  extract_lets run
  exact h.updSpn
theorem Kept.assistFault {a' cond} (h : Kept a s) : Kept a (assistFault s a' cond) := h.updWp.raise
theorem Kept.assistTrip {a' cond} (h : Kept a s) : Kept a (assistTrip s a' cond) := h.assistFault.tripNow
theorem Kept.otherTrip {a' h' cause} (h : Kept a s) : Kept a (otherTrip s a' h' cause) :=
  (Kept.ite h.addReopen.updWhead h.addReopen).raise
theorem Kept.tempFrame {late a'} (h : Kept a s) : Kept a (tempFrame late a' s) := .ite h h.updLaw4.updWp
theorem Kept.powerFrame {late a'} (h : Kept a s) : Kept a (powerFrame late a' s) := h.updLaw4.updWp
theorem Kept.assistFrame {late a'} (h : Kept a s) : Kept a (assistFrame late a' s) :=
  .ite h.tempFrame.updWp.powerFrame h.tempFrame.updWp.updWp
theorem Kept.uncorrError {a' l} (h : Kept a s) : Kept a (uncorrError a' s l) :=
  .ite h.updLaw4 (.ite h.updLaw4 (.ite h.coefError h))
theorem Kept.strobeFor {a'} (h : Kept a s) : Kept a (strobeFor a' s) := (Kept.ite h.other.latchLe4 h.other).updAct.updGuard
theorem Kept.frameStart {late accs a'} (h : Kept a s) : Kept a (frameStart late accs a' s) :=
  h.updAct.reloadReopen.frameModes.updAct.errFrame.twinFrame.assistFrame
theorem Kept.slotTrips {late uncorr accs a'} (h : Kept a s) : Kept a (slotTrips late uncorr accs a' s) := by
  unfold Machine.slotTrips
  extract_lets s1 cond s2
  have hs1 : Kept a s1 := .ite h.frameStart h
  have hs2 : Kept a s2 := hs1.forEach fun _ _ h => h.uncorrError
  clear_value s2 cond
  cases cond with
  | none => exact hs2
  | some c => exact .ite hs2.assistTrip hs2.assistFault.otherTrip
theorem Kept.loopSlot {a' late uncorr accs offRamp} (h : Kept a s) : Kept a (loopSlot a' late uncorr accs offRamp s) :=
  .ite h h.strobeFor.slotTrips.slotLaws.updAct
theorem Kept.execLoopSlot {a' late uncorr x} (h : Kept a s) : Steps a (execLoopSlot a' late uncorr x s) := .next h.loopSlot
theorem Kept.reissue {a' l} (h : Kept a s) : Kept a (reissue s a' l) := by
  unfold Machine.reissue
  extract_lets +onlyGivenNames s1
  have hs1 : Kept a s1 := h.updAct
  split
  · split
    · exact hs1.updAct
    · exact hs1
  · split
    · split
      · exact hs1.updStream
      · exact hs1
    · split
      · exact hs1.issueVcm
      · split
        · exact hs1.updAct
        · split
          · exact hs1.updAct
          · split
            · exact hs1.updHloop.updWhead.updPlk
            · exact hs1
theorem Kept.lawDeadlineMiss {a' l} (h : Kept a s) : Kept a (lawDeadlineMiss a' l s) := .ite h.reissue.updAct h
theorem Kept.execLawDeadlineMiss {a' l} (h : Kept a s) : Steps a (execLawDeadlineMiss a' l s) := .next h.lawDeadlineMiss
theorem Kept.vcmMissRetract {a'} (h : Kept a s) : Kept a (vcmMissRetract a' s) := .ite h.retract.raise h
theorem Kept.execVcmMissRetract {a'} (h : Kept a s) : Steps a (execVcmMissRetract a' s) := .next h.vcmMissRetract
theorem Kept.seekTarget {a' t'} (h : Kept a s) : Kept a (seekTarget a' t' s) := .ite h (.ite h.updAct h.updAct)
theorem Kept.execSeekTarget {a' t'} (h : Kept a s) : Steps a (execSeekTarget a' t' s) := .next h.seekTarget
theorem Kept.trajStopPlan {a'} (h : Kept a s) : Kept a (trajStopPlan a' s) := .ite h.updAct h
theorem Kept.execTrajStopPlan {a'} (h : Kept a s) : Steps a (execTrajStopPlan a' s) := .next h.trajStopPlan
theorem Kept.seekAbort {a'} (h : Kept a s) : Kept a (seekAbort a' s) := .ite h.updAct h
theorem Kept.execSeekAbort {a'} (h : Kept a s) : Steps a (execSeekAbort a' s) := .next h.seekAbort
theorem Kept.followRmsCheck {a'} (h : Kept a s) : Kept a (followRmsCheck a' s) := by
  unfold Machine.followRmsCheck
  extract_lets +onlyGivenNames x
  split
  · extract_lets s1 s2
    have hs1 : Kept a s1 := h.updAct
    have hs2 : Kept a s2 := .ite hs1.raise hs1
    split
    · exact .ite hs2.raise hs2
    · exact hs2
  · exact h
theorem Kept.execFollowRmsCheck {a'} (h : Kept a s) : Steps a (execFollowRmsCheck a' s) := .next h.followRmsCheck
theorem Kept.actuatorLoad {a'} (h : Kept a s) : Kept a (actuatorLoad a' s) := .ite h.updAct.updPsl h
theorem Kept.execActuatorLoad {a'} (h : Kept a s) : Steps a (execActuatorLoad a' s) := .next h.actuatorLoad
theorem Kept.pairLost {a'} (h : Kept a s) : Kept a (pairLost s a') :=
  .ite h (.ite (h.addReopen.forEach fun _ _ h' => h'.unpair) h.tripNow)
theorem Kept.dropPair {a' d k} (h : Kept a s) : Kept a (dropPair s a' d k) := h.updAct.updActCtr.pairLost
theorem Kept.unload {a'} (h : Kept a s) : Kept a (unload s a') := by
  unfold Machine.unload
  extract_lets +onlyGivenNames x
  split
  · exact h.updAct
  · extract_lets s1
    have hs1 : Kept a s1 := by
      unfold s1
      split
      · exact .ite h.dropPair h
      · exact h
    exact hs1.updAct
theorem Kept.execActuatorUnload {a'} (h : Kept a s) : Steps a (execActuatorUnload a' s) := .next (.ite h.unload h)
theorem Kept.onRampStop {a'} (h : Kept a s) : Kept a (onRampStop s a') := h.updAct.angleLost.updPsl
theorem Kept.rampStopReached {a'} (h : Kept a s) : Kept a (rampStopReached a' s) := .ite h.onRampStop h
theorem Kept.execRampStopReached {a'} (h : Kept a s) : Steps a (execRampStopReached a' s) := .next h.rampStopReached
theorem Kept.writeReadySet {a'} (h : Kept a s) : Kept a (writeReadySet a' s) := .ite h.updAct.updWp h
theorem Kept.execWriteReadySet {a'} (h : Kept a s) : Steps a (execWriteReadySet a' s) := .next h.writeReadySet
theorem Kept.blendEnd {a' l} (h : Kept a s) : Kept a (blendEnd a' l s) := .ite h.updAct h
theorem Kept.execBlendEnd {a' l} (h : Kept a s) : Steps a (execBlendEnd a' l s) := .next h.blendEnd
theorem Kept.maRampEnd {a'} (h : Kept a s) : Kept a (maRampEnd a' s) := .ite h.updAct h
theorem Kept.execMaRampEnd {a'} (h : Kept a s) : Steps a (execMaRampEnd a' s) := .next h.maRampEnd
theorem Kept.holdEntry {a'} (h : Kept a s) : Kept a (holdEntry a' s) := .ite h.updAct h
theorem Kept.execHoldEntry {a'} (h : Kept a s) : Steps a (execHoldEntry a' s) := .next h.holdEntry
theorem Kept.holdTimeoutRetract {a'} (h : Kept a s) : Kept a (holdTimeoutRetract a' s) := .ite h.retract.raise h
theorem Kept.execHoldTimeoutRetract {a'} (h : Kept a s) : Steps a (execHoldTimeoutRetract a' s) :=
  .next h.holdTimeoutRetract
theorem Kept.twinRegistration {a'} (h : Kept a s) : Kept a (twinRegistration a' s) := .ite h.updAct h
theorem Kept.execTwinRegistration {a'} (h : Kept a s) : Steps a (execTwinRegistration a' s) := .next h.twinRegistration
theorem Kept.twinFallback {a' k onLead} (h : Kept a s) : Kept a (twinFallback a' k onLead s) := by
  unfold Machine.twinFallback
  extract_lets +onlyGivenNames x
  split
  · exact .ite h.dropPair h
  · exact h
theorem Kept.execTwinFallback {a' trigger onLead} (h : Kept a s) : Steps a (execTwinFallback a' trigger onLead s) :=
  .next h.twinFallback
theorem Kept.handOver {a' d p} (h : Kept a s) : Kept a (handOver s a' d p) := h.updAct
theorem Kept.twinHandover {a'} (h : Kept a s) : Kept a (twinHandover a' s) := by
  unfold Machine.twinHandover
  extract_lets +onlyGivenNames x
  split
  · exact .ite h.handOver h
  · exact h
theorem Kept.execTwinFallbackHandover {a'} (h : Kept a s) : Steps a (execTwinFallbackHandover a' s) := .next h.twinHandover
theorem Kept.releaseStream {a' m} (h : Kept a s) : Kept a (releaseStream s a' m) := h.updCmds
theorem Kept.twinRelease {a'} (h : Kept a s) : Kept a (twinRelease a' s) := by
  unfold Machine.twinRelease
  extract_lets +onlyGivenNames x
  split
  · exact .ite h.headBack.releaseStream.updAct.raise h
  · exact h
theorem Kept.execTwinStreamRelease {a'} (h : Kept a s) : Steps a (execTwinStreamRelease a' s) := .next h.twinRelease
theorem Kept.execTwinHoldoffExpiry {a' lead partner} (h : Kept a s) : Steps a (execTwinHoldoffExpiry a' lead partner s) :=
  .next (.ite h.updAct h)
theorem Kept.setLaw {act law count start words} (h : Kept a s) : Kept a (setLaw act law count start words s).st := by
  unfold Machine.setLaw
  extract_lets secs wordsOk w
  split
  · exact h
  · split
    · split
      · exact h
      · split
        · exact h
        · exact h.updAct.okA
    · split
      · exact h
      · split
        · exact h
        · exact h.updSpn.okA
theorem Kept.execLoopSetLaw {r act law count start words} (h : Kept a s) :
    Steps a (execLoopSetLaw r act law count start words s) :=
  .next (h.serve fun _ h' => h'.setLaw)
theorem Kept.setRwo {head vals} (h : Kept a s) : Kept a (setRwo head vals s).st :=
  .iteA (h.forEach fun _ _ h' => h'.updHloop) h
theorem Kept.execLoopSetRwo {r head vals} (h : Kept a s) : Steps a (execLoopSetRwo r head vals s) :=
  .next (h.serve fun _ h' => h'.setRwo)
theorem Kept.setMaGain {head gain} (h : Kept a s) : Kept a (setMaGain head gain s).st :=
  .iteA (h.forEach fun _ _ h' => h'.updHloop) h
theorem Kept.execLoopSetMaGain {r head gain} (h : Kept a s) : Steps a (execLoopSetMaGain r head gain s) :=
  .next (h.serve fun _ h' => h'.setMaGain)
theorem Kept.setSeek {act ps} (h : Kept a s) : Kept a (setSeek act ps s).st := by
  unfold Machine.setSeek
  split
  · exact h.setA (fun _ => h.updAct)
  · exact h
theorem Kept.execLoopSetSeek {r act ps} (h : Kept a s) : Steps a (execLoopSetSeek r act ps s) :=
  .next (h.serve fun _ h' => h'.setSeek)
theorem Kept.setFollow {act ps} (h : Kept a s) : Kept a (setFollow act ps s).st := by
  unfold Machine.setFollow
  split
  · exact h.setA (fun _ => h.updAct)
  · exact h
theorem Kept.execLoopSetFollow {r act ps} (h : Kept a s) : Steps a (execLoopSetFollow r act ps s) :=
  .next (h.serve fun _ h' => h'.setFollow)
theorem Kept.setTwin {act ps} (h : Kept a s) : Kept a (setTwin act ps s).st := by
  unfold Machine.setTwin
  split
  · exact h.setA (fun _ => h.updAct)
  · exact h
theorem Kept.execLoopSetTwin {r act ps} (h : Kept a s) : Steps a (execLoopSetTwin r act ps s) :=
  .next (h.serve fun _ h' => h'.setTwin)
theorem Kept.getLoopStatus {act clear} (h : Kept a s) : Kept a (getLoopStatus act clear s).st := by
  unfold Machine.getLoopStatus
  split
  · exact h.updAct
  · exact h
theorem Kept.execLoopGetStatus {r act clear} (h : Kept a s) : Steps a (execLoopGetStatus r act clear s) :=
  .next (h.serve fun _ h' => h'.getLoopStatus)

/-! ### SeqCore -/

theorem Kept.seqFault {n code} (h : Kept a s) : Kept a (seqFault s n code) := (h.updSeq (by exact fun _ => id)).report
theorem Kept.enterAt {n word} (h : Kept a s) : Kept a (enterAt s n word) :=
  .ite h.seqFault (h.updSeq (by exact fun _ => id))
theorem Kept.takeSwap {n} (h : Kept a s) : Kept a (takeSwap s n) :=
  ((h.updSeq (by exact fun _ => id)).updSeqDev (by exact id)).enterAt
theorem Kept.takeLine {n k} (h : Kept a s) : Kept a (takeLine s n k) :=
  .ite ((h.updSeq (by exact fun _ => id)).takeSwap) ((h.updSeq (by exact fun _ => id)).enterAt)
theorem Kept.wake {n} (h : Kept a s) : Kept a (wake s n) := by
  unfold Machine.wake
  extract_lets q
  split
  · exact h
  · split
    · exact h.takeLine
    · exact .ite (h.updSeq (by exact fun _ => id)) h
theorem Kept.setLine {n k} (h : Kept a s) : Kept a (setLine s n k) := .ite h ((h.updSeq (by exact fun _ => id)).wake)

/-! ### Tap -/

theorem Kept.tapScan {x} (h : Kept a s) : Kept a (tapScan s x) := by
  unfold Machine.tapScan
  split
  · exact h.other
  · exact h.other
  · exact h.other.emit

/-! ### Breakwater -/

theorem Kept.derateCheck (h : Kept a s) : Kept a (derateCheck s) := by
  unfold Machine.derateCheck
  extract_lets low s1
  have hs1 : Kept a s1 := .ite h.raise h
  exact hs1.updBw
theorem Kept.closeReads (h : Kept a s) : Kept a (closeReads s) := h.forEach fun _ _ h' => .ite h'.updChn h'
theorem Kept.seqLine {k} (h : Kept a s) : Kept a (seqLine s k) := h.forEach fun _ _ h' => h'.setLine
theorem Kept.parkAct {a'} (h : Kept a s) : Kept a (parkAct s a') := .ite h.updBw h.updAct.updActCtr
theorem Kept.parkReport (h : Kept a s) : Kept a (parkReport s) := .ite h h.raise.updBw
theorem Kept.endPark (h : Kept a s) : Kept a (endPark s) := by
  unfold Machine.endPark
  extract_lets s1 s2
  have hs1 : Kept a s1 := .ite h h.parkReport
  have hs2 : Kept a s2 := hs1.other
  split
  · exact .ite hs2.updBw.quiesce hs2.updBw
  · exact hs2.updBw.quiesce
theorem Kept.parkCheck (h : Kept a s) : Kept a (parkCheck s) := .ite h.endPark h
theorem Kept.laterTrigger {cause} (h : Kept a s) : Kept a (laterTrigger s cause) :=
  .ite h.raise.updBw.updSpn.updPsl.updDevCtr h.raise
theorem Kept.bwBlocks {cause} (h : Kept a s) : Kept a (bwBlocks s cause) := by
  unfold Machine.bwBlocks
  extract_lets +onlyGivenNames s1 s2
  have hs2 : Kept a s2 := (h.forEach fun _ _ h' => h'.tripNow).closeReads
  clear_value s2
  refine Kept.forEach (Kept.seqLine (hs2.same ?_)) fun _ _ h' => h'.closeIncident
  rfl
theorem Kept.startBreakwater {cause} (h : Kept a s) : Kept a (startBreakwater s cause) :=
  .ite h (.ite h.laterTrigger (((Kept.ite h.updBw.other.raise.bwBlocks.updDevCtr h.updBw.other.raise.bwBlocks).forEach
      fun _ _ h => h.parkAct).parkCheck))
theorem Kept.intoReset (h : Kept a s) : Kept a (intoReset s) :=
  h.trans ⟨rfl, fun _ => (by decide : canonical {} = true), fusesKept.refl _⟩
theorem Kept.powerReset (h : Kept a s) : Kept a (powerReset s) := h.intoReset.other
theorem Kept.execSupplySample {sm} (h : Kept a s) : Steps a (execSupplySample sm s) := by
  refine .next ?_
  dsimp only
  split
  · exact h.other.tapScan
  · exact h.other
theorem Kept.execNvWriteInhibitEntry (h : Kept a s) : Steps a (execNvWriteInhibitEntry s) := by
  unfold Machine.execNvWriteInhibitEntry
  refine .next ?_
  split
  · exact .ite h.updBw.other.orderlyAll.seqLine.raise h
  · exact h
theorem Kept.putKey {e} (h : Kept a s) : Kept a (putKey s e) := h.updNv (by exact fusesKept.refl _)
theorem Kept.eraseFinish (h : Kept a s) : Kept a (eraseFinish s) :=
  .ite (h.updFw (by exact id)) ((h.updFw (by exact id)).forEach fun _ _ h' => h'.putKey)
theorem Kept.raiseSvn (h : Kept a s) : Kept a (raiseSvn s) := by
  unfold Machine.raiseSvn
  extract_lets +onlyGivenNames pkg
  clear_value pkg
  split
  · exact h
  · refine .ite h (.ite (h.updFw (by exact id)) ?_)
    extract_lets o fw uc s1 s2
    have hs1 : Kept a s1 := Kept.updFw (h.updNv
      ⟨Nat.le_refl _, Nat.le_max_left _ _, Nat.le_max_left _ _, Nat.le_refl _, id, id, fun _ => id, fun _ => id⟩) id
    have hs2 : Kept a s2 := .ite hs1.raise hs1
    exact .ite hs2.raise hs2
theorem Kept.execNvWriteInhibitEnd (h : Kept a s) : Steps a (execNvWriteInhibitEnd s) :=
  .next (.ite (.ite ((Kept.ite h.updBw.seqLine.raise.eraseFinish h.updBw.seqLine.raise).raiseSvn) (.ite
      h.updBw.seqLine.raise.eraseFinish h.updBw.seqLine.raise)) h)
theorem Kept.execBreakwaterStart {cause} (h : Kept a s) : Steps a (execBreakwaterStart cause s) :=
  .next (.ite h.startBreakwater h)
theorem Kept.pwrfailWins (h : Kept a s) : Kept a (pwrfailWins s) := (Kept.ite h.updDevCtr h).updBw.other
theorem Kept.execPwrfailNAssert (h : Kept a s) : Steps a (execPwrfailNAssert s) :=
  .next (.ite h.other.pwrfailWins h.other.startBreakwater)
theorem Kept.execResetNAssert (h : Kept a s) : Steps a (execResetNAssert s) := .next (.ite h.other h.other.startBreakwater)
theorem Kept.execPorstNAssert (h : Kept a s) : Steps a (execPorstNAssert s) := .next (.ite h.other h.other.powerReset)
theorem Kept.execPowerOnDetect (h : Kept a s) : Steps a (execPowerOnDetect s) := .next h.powerReset.other
theorem Kept.clearVen {a'} (h : Kept a s) : Kept a (clearVen s a') := h.updPsl
theorem Kept.settleAct {a'} (h : Kept a s) : Kept a (settleAct s a') := h.updBw
theorem Kept.execActuatorParked {a'} (h : Kept a s) : Steps a (execActuatorParked a' s) :=
  .next (.ite h.onRampStop.updBw.settleAct.parkCheck h)
theorem Kept.execParkTimeout {a'} (h : Kept a s) : Steps a (execParkTimeout a' s) :=
  .next (.ite (.ite h.settleAct.parkCheck h.updBw.updAct.updActCtr.raise.settleAct.parkCheck) h)
theorem Kept.execParkOpenLoopEnd {a'} (h : Kept a s) : Steps a (execParkOpenLoopEnd a' s) :=
  .next (.ite h.updBw.updAct.clearVen h)
theorem Kept.execRetractTExpiry (h : Kept a s) : Steps a (execRetractTExpiry s) :=
  .next (.ite ((h.forEach fun _ _ h' => .ite h' h'.onRampStop.updBw.settleAct).parkCheck.parkReport) h)
theorem Kept.pagePassed (h : Kept a s) : Kept a (pagePassed s) :=
  .ite (((Kept.ite (h.updNv (by exact fusesKept.refl _)) h).other.updNv (by exact fusesKept.refl _)).updBw.quiesce)
      ((Kept.ite (h.updNv (by exact fusesKept.refl _)) h).updBw)
theorem Kept.pageFailed (h : Kept a s) : Kept a (pageFailed s) :=
  .ite h.updBw.other.raise.updBw.quiesce h.updBw.other.raise
theorem Kept.execVaultPageProgramDone {ok} (h : Kept a s) : Steps a (execVaultPageProgramDone ok s) :=
  .next (.ite (.ite h.pagePassed h.pageFailed) h)
theorem Kept.execQuiescentRelease (h : Kept a s) : Steps a (execQuiescentRelease s) := .next (.ite h.other.intoReset h)
theorem Kept.execVaultAreaEraseDone {ar} (h : Kept a s) : Steps a (execVaultAreaEraseDone ar s) :=
  .next (.ite ((h.updNv (by exact fusesKept.refl _)).derateCheck) h)

/-! ### Spindle -/

theorem Kept.freeMa (h : Kept a s) : Kept a (freeMa s).2 := by
  unfold Machine.freeMa
  extract_lets p
  have hp : Kept a p.2 := h.takeFree
  exact hp
theorem Kept.runLaw4 {late l diff} (h : Kept a s) : Kept a (runLaw4 late l diff s) := .ite h.updSpn (.ite h h.updSpn)
theorem Kept.enterCoast {ms} (h : Kept a s) : Kept a (enterCoast s ms) := h.gatesOffNow.setXfer.updSpn
theorem Kept.enterWatch {st} (h : Kept a s) : Kept a (enterWatch s st) := h.gatesOffNow.updSpn
theorem Kept.pwmPeriodStart (h : Kept a s) : Kept a (pwmPeriodStart s) := .ite h.updSpn.other h
theorem Kept.execPwmPeriodStart (h : Kept a s) : Steps a (execPwmPeriodStart s) := .next h.pwmPeriodStart
theorem Kept.takeSamples {code1 code2} (h : Kept a s) : Kept a (takeSamples code1 code2 s) := by
  unfold Machine.takeSamples
  extract_lets a0 b n
  have ha0 : Kept a a0.2 := by
    unfold a0
    split
    · exact h.freeMa
    · exact h
  have hb : Kept a b.2 := by
    unfold b
    split
    · exact ha0.freeMa
    · exact ha0
  exact hb.updSpn
theorem Kept.nextDuty (h : Kept a s) : Kept a (nextDuty s) := by
  unfold Machine.nextDuty
  extract_lets c e
  exact h.takeFree.updSpn
theorem Kept.busLaw {late} (h : Kept a s) : Kept a (busLaw late s) := .ite h.runLaw4.updSpn h
theorem Kept.currentSamples {code1 code2 late} (h : Kept a s) : Kept a (currentSamples code1 code2 late s) :=
  .ite (.ite (.ite h.takeSamples.busLaw.runLaw4.runLaw4.updSpn h.takeSamples.busLaw.runLaw4.runLaw4.updSpn.nextDuty)
      h.takeSamples) h
theorem Kept.execCurrentSamplesReady {code1 code2 late} (h : Kept a s) :
    Steps a (execCurrentSamplesReady code1 code2 late s) :=
  .next h.currentSamples
theorem Kept.execOvercurrentTrip (h : Kept a s) : Steps a (execOvercurrentTrip s) :=
  .next (.ite (.ite h.gatesOffNow.updSpn.raise (.ite h.gatesOffNow.updSpn.raise.enterCoast.updSpn.raise
      h.gatesOffNow.updSpn.raise.enterCoast)) h)
theorem Kept.execCoastRestart (h : Kept a s) : Steps a (execCoastRestart s) := .next (.ite h.enterWatch h)
theorem Kept.observerLock (h : Kept a s) : Kept a (observerLock s) := .ite (.ite h.freeMa.updSpn h.updSpn) h
theorem Kept.execObserverLock (h : Kept a s) : Steps a (execObserverLock s) := .next h.observerLock
theorem Kept.execObserverLockLoss (h : Kept a s) : Steps a (execObserverLockLoss s) :=
  .next (.ite (.ite h.updSpn.enterCoast.updSpn.raise h.updSpn) h)
theorem Kept.indexCrossing {m stamp} (h : Kept a s) : Kept a (indexCrossing m stamp s) := .ite h.updSpn.updDevCtr h
theorem Kept.execIndexCrossing {m stamp} (h : Kept a s) : Steps a (execIndexCrossing m stamp s) := .next h.indexCrossing
theorem Kept.currentLawCoast (h : Kept a s) : Kept a (currentLawCoast s) :=
  .ite ((Kept.ite h.gatesOffNow h.enterCoast).updSpn) h
theorem Kept.execCurrentLawMissCoast (h : Kept a s) : Steps a (execCurrentLawMissCoast s) := .next h.currentLawCoast
theorem Kept.refStep (h : Kept a s) : Kept a (refStep s) := .ite h.updSpn (.ite h.updSpn.enterWatch h.updSpn)
theorem Kept.speedLaw {late} (h : Kept a s) : Kept a (speedLaw late s) := .ite h h.runLaw4.updSpn
theorem Kept.underCount (h : Kept a s) : Kept a (underCount s) := by
  unfold Machine.underCount
  extract_lets inService
  exact h.updSpn
theorem Kept.execSpeedLawSample {meas8 late} (h : Kept a s) : Steps a (execSpeedLawSample meas8 late s) := by
  unfold Machine.execSpeedLawSample
  exact .next (.ite ((Kept.ite ((Kept.ite h.updSpn h.updSpn.pslWrite).refStep.speedLaw.setXfer.underCount.gatesOffNow)
      ((Kept.ite h.updSpn h.updSpn.pslWrite).refStep.speedLaw.setXfer.underCount)).derateCheck) h)
theorem Kept.phaseVoltages {u' v w} (h : Kept a s) : Kept a (phaseVoltages u' v w s) :=
  .ite (.ite h.updSpn h.updSpn.other) h
theorem Kept.execPhaseVoltageSample {u' v w} (h : Kept a s) : Steps a (execPhaseVoltageSample u' v w s) :=
  .next h.phaseVoltages
theorem Kept.listenComplete (h : Kept a s) : Kept a (listenComplete s) := .ite (.ite h.updSpn.updSpn h.updSpn.enterWatch) h
theorem Kept.execListenComplete (h : Kept a s) : Steps a (execListenComplete s) := .next h.listenComplete
theorem Kept.brakeDecision {emfMv rpm8} (h : Kept a s) : Kept a (brakeDecision emfMv rpm8 s) :=
  .ite (.ite h.updSpn.updSpn.other h.updSpn.gatesOffNow) h
theorem Kept.execBrakeDecision {emfMv rpm8} (h : Kept a s) : Steps a (execBrakeDecision emfMv rpm8 s) :=
  .next h.brakeDecision
theorem Kept.standstill (h : Kept a s) : Kept a (standstill s) := .ite (.ite h.gatesOffNow.updSpn (.ite h h.updSpn)) h
theorem Kept.execStandstillDeclared (h : Kept a s) : Steps a (execStandstillDeclared s) := .next h.standstill
theorem Kept.alignComplete (h : Kept a s) : Kept a (alignComplete s) := .ite h.updSpn h
theorem Kept.execAlignComplete (h : Kept a s) : Steps a (execAlignComplete s) := .next h.alignComplete
theorem Kept.startFail (h : Kept a s) : Kept a (startFail s) := .ite h.enterCoast.updSpn.raise h
theorem Kept.execStartFail (h : Kept a s) : Steps a (execStartFail s) := .next h.startFail
theorem Kept.execFreeRampStart (h : Kept a s) : Steps a (execFreeRampStart s) := .next (.ite h.updSpn h)
theorem Kept.startClass (h : Kept a s) : Kept a (startClass s) := .ite h.updSpn.setXfer h.updSpn
theorem Kept.acceptSet {rpm free} (h : Kept a s) : Kept a (acceptSet s rpm free) := h.updSpn.startClass
theorem Kept.thermalCap {cap} (h : Kept a s) : Kept a (thermalCap s cap) :=
  .ite h (.ite h.updSpn.startClass h.updSpn.updSpn)
theorem Kept.execSpeedPolicyEval {busy} (h : Kept a s) : Steps a (execSpeedPolicyEval busy s) :=
  .next (.ite (.ite h.updSpn.updSpn.acceptSet (.ite h.updSpn.acceptSet h.updSpn)) h)
theorem Kept.execDirtyHoldRelease (h : Kept a s) : Steps a (execDirtyHoldRelease s) :=
  .next (.ite (.ite h.updSpn.setXfer h.updSpn) h)
theorem Kept.execUnderspeed (h : Kept a s) : Steps a (execUnderspeed s) := .next (.ite h.updSpn.startBreakwater h)
theorem Kept.execChopperFault (h : Kept a s) : Steps a (execChopperFault s) := .next (.ite h.updSpn.raise h)
theorem Kept.execHoldupEntry (h : Kept a s) : Steps a (execHoldupEntry s) :=
  .next (.ite (.ite h.updSpn.setXfer.updBw h.gatesOffNow) h)
theorem Kept.spinStart (h : Kept a s) : Kept a (spinStart s) := .ite h.enterWatch.updSpn h.updSpn
theorem Kept.spnSetSpeed {rpm cls} (h : Kept a s) : Kept a (spnSetSpeed rpm cls s).st := .iteA h (.iteA h.acceptSet h)
theorem Kept.execSpnSetSpeed {r rpm cls} (h : Kept a s) : Steps a (execSpnSetSpeed r rpm cls s) :=
  .next (h.serve fun _ h' => h'.spnSetSpeed)
theorem Kept.spnSetPolicy {ps} (h : Kept a s) : Kept a (spnSetPolicy ps s).st :=
  h.setA (fun _ => .ite h.updSpn.acceptSet h.updSpn)
theorem Kept.execSpnSetPolicy {r ps} (h : Kept a s) : Steps a (execSpnSetPolicy r ps s) :=
  .next (h.serve fun _ h' => h'.spnSetPolicy)
theorem Kept.spnSetLimits {ps} (h : Kept a s) : Kept a (spnSetLimits ps s).st := h.setA (fun _ => h.updSpn)
theorem Kept.execSpnSetLimits {r ps} (h : Kept a s) : Steps a (execSpnSetLimits r ps s) :=
  .next (h.serve fun _ h' => h'.spnSetLimits)
theorem Kept.spnSetMotor {ps} (h : Kept a s) : Kept a (spnSetMotor ps s).st := .iteA (h.setA (fun _ => h.updSpn)) h
theorem Kept.execSpnSetMotor {r ps} (h : Kept a s) : Steps a (execSpnSetMotor r ps s) :=
  .next (h.serve fun _ h' => h'.spnSetMotor)
theorem Kept.spnStart (h : Kept a s) : Kept a (spnStart s).st := .iteA h.spinStart h
theorem Kept.execSpnStart {r} (h : Kept a s) : Steps a (execSpnStart r s) := .next (h.serve fun _ h' => h'.spnStart)
theorem Kept.spnStop (h : Kept a s) : Kept a (spnStop s).st := by
  unfold Machine.spnStop
  extract_lets p s1
  have hs1 : Kept a s1 := by
    refine Kept.forEach (Kept.updSpn h) ?_
    exact fun _ _ h' => h'.unload
  clear_value s1
  exact .iteA h.updSpn.okA (.iteA h (.iteA hs1.setXfer.okA (.iteA hs1 hs1.enterWatch.okA)))
theorem Kept.execSpnStop {r} (h : Kept a s) : Steps a (execSpnStop r s) := .next (h.serve fun _ h' => h'.spnStop)
theorem Kept.spnGetStatus {clear} (h : Kept a s) : Kept a (spnGetStatus clear s).st := h.updSpn
theorem Kept.execSpnGetStatus {r clear} (h : Kept a s) : Steps a (execSpnGetStatus r clear s) :=
  .next (h.serve fun _ h' => h'.spnGetStatus)

/-! ### Channel -/

theorem Kept.pushRes {m r} (h : Kept a s) : Kept a (pushRes s m r) := h.updChn
theorem Kept.sectorStart {m o} (h : Kept a s) : Kept a (sectorStart s m o) := h.takeFree.takeFree.other.updChn
theorem Kept.countRung4 {old r} (h : Kept a s) : Kept a (countRung4 s old r) := .ite h.updHeadRec h
theorem Kept.storeRec {m old r} (h : Kept a s) : Kept a (storeRec s m old r) :=
  .ite h.countRung4.updChn.pushRes h.countRung4.updChn
theorem Kept.gateRefused {m o} (h : Kept a s) : Kept a (gateRefused s m o) := (Kept.ite h.other h.other.storeRec).pushRes
theorem Kept.sectorReadStart {m o} (h : Kept a s) : Kept a (sectorReadStart m o s) :=
  .ite (.ite h.sectorStart h.gateRefused) h
theorem Kept.execSectorReadStart {m o} (h : Kept a s) : Steps a (execSectorReadStart m o s) := .next h.sectorReadStart
theorem Kept.enterLadder {m x status found sets} (h : Kept a s) : Kept a (enterLadder s m x status found sets) :=
  h.storeRec
theorem Kept.rereadFailed {m r x status found sets} (h : Kept a s) : Kept a (rereadFailed s m r x status found sets) :=
  .ite (.ite h.storeRec h.storeRec) h.storeRec
theorem Kept.syncBiasStep {m o x} (h : Kept a s) : Kept a (syncBiasStep s m o x) := .ite h.updChn.raise h.updChn
theorem Kept.learn {x d llr pos block} (h : Kept a s) : Kept a (learn s x d llr pos block) := .ite h h.updChz
theorem Kept.takeDecode {m x} (h : Kept a s) (e : takeDecode s m = some x) : Kept a x.2 := by
  unfold Machine.takeDecode at e
  split at e
  · exact Option.some.inj e ▸ h.updChn
  · cases e
theorem Kept.countRead {h' ok weak} (h : Kept a s) : Kept a (countRead s h' ok weak) := h.updHeadCtr
theorem Kept.decodeDone {m d} (h : Kept a s) : Kept a (decodeDone m d s) := by
  unfold Machine.decodeDone
  split
  · exact h
  · next x s1 e =>
    extract_lets llr found v st good src src' s2 s3 at_ s4 old s5 s6
    have hs1 : Kept a s1 := h.takeDecode e
    have hs2 : Kept a s2 := Kept.other (s := Machine.updChn s1 m (chnFlags v st)) hs1.updChn
    have hs3 : Kept a s3 := by
      clear_value found
      cases found with
      | none => exact hs2
      | some y => exact .ite hs2.syncBiasStep hs2
    have hs4 : Kept a s4 := .ite hs3.learn hs3
    have hs6 : Kept a s6 := hs4.pushRes.countRead
    refine .ite hs6.updChn (.ite hs6 ?_)
    clear_value old
    cases old with
    | none => exact hs6.enterLadder
    | some r => exact hs6.rereadFailed
theorem Kept.execSectorDecodeDone {m d} (h : Kept a s) : Steps a (execSectorDecodeDone m d s) :=
  .next (.ite h.decodeDone h)
theorem Kept.wantReloc {b j n} (h : Kept a s) : Kept a (wantReloc s b j n) := h.updRbld
theorem Kept.relocWeak {a' r} (h : Kept a s) : Kept a (relocWeak s a' r) := by
  unfold Machine.relocWeak
  split
  · exact .ite h.wantReloc h
  · exact h
theorem Kept.postResult {m r rest} (h : Kept a s) : Kept a (postResult s m r rest) :=
  .ite h.updChn.updOp.relocWeak h.updChn
theorem Kept.grantDeep {d m} (h : Kept a s) : Kept a (grantDeep s d m) := by
  unfold Machine.grantDeep
  split
  · exact h
  · exact h.updChn.other
theorem Kept.execDeepDecodeStart (h : Kept a s) : Steps a (execDeepDecodeStart s) := by
  unfold Machine.execDeepDecodeStart
  refine .next ?_
  split
  · split
    · exact .dite (fun _ => h.grantDeep) (fun _ => h)
    · exact h
  · exact h
theorem Kept.deepDone {m r d} (h : Kept a s) : Kept a (deepDone s m r d) := .ite h.updChn.countRead.pushRes h.storeRec
theorem Kept.deepDecodeDone {d f} (h : Kept a s) : Kept a (deepDecodeDone d f s) := by
  unfold Machine.deepDecodeDone
  split
  · refine .ite ?_ h
    dsimp only
    split
    · exact h.other.deepDone
    · exact h.other
  · exact h
theorem Kept.execDeepDecodeDone {d f} (h : Kept a s) : Steps a (execDeepDecodeDone d f s) := .next h.deepDecodeDone
theorem Kept.recoveryExpiry {m h' track slot} (h : Kept a s) : Kept a (recoveryExpiry m h' track slot s) := by
  unfold Machine.recoveryExpiry
  split
  · exact .ite (.ite h.storeRec h.storeRec) h
  · exact h
theorem Kept.execRecoveryLimitExpiry {m place slot} (h : Kept a s) : Steps a (execRecoveryLimitExpiry m place slot s) :=
  .next h.recoveryExpiry
theorem Kept.execFormatApply {m} (h : Kept a s) : Steps a (execFormatApply m s) := .next (.ite h.updChz h)
theorem Kept.execSyncParamApply {h' z} (h : Kept a s) : Steps a (execSyncParamApply h' z s) := .next (.ite h.updChz h)
theorem Kept.hzStep {f p} (h : Kept a s) (e : hzStep f s p = .ok t) : Kept a t := by
  unfold Machine.hzStep at e
  split at e
  · exact Except.ok.inj e ▸ h.updChz
  · cases e
theorem Kept.setHz {head zone f} (h : Kept a s) : Kept a (setHz s head zone f).st :=
  .iteA h (h.setAllA (fun _ _ _ h' e => h'.hzStep e))
theorem Kept.fmtStep {code tc skew p} (h : Kept a s) (e : fmtStep code tc skew s p = .ok t) : Kept a t := by
  unfold Machine.fmtStep at e
  split at e
  · exact Except.ok.inj e ▸ h.updChz
  · cases e
theorem Kept.setFormat {head zone word} (h : Kept a s) : Kept a (setFormat head zone word s).st :=
  .iteA h (.iteA h (h.setAllA (fun _ _ _ h' e => h'.fmtStep e)))
theorem Kept.execChnSetFormat {r head zone word} (h : Kept a s) : Steps a (execChnSetFormat r head zone word s) :=
  .next (h.serve fun _ h' => h'.setFormat)
theorem Kept.setFrontend {head zone ps} (h : Kept a s) : Kept a (setFrontend head zone ps s).st := h.setHz
theorem Kept.execChnSetFrontend {r head zone ps} (h : Kept a s) : Steps a (execChnSetFrontend r head zone ps s) :=
  .next (h.serve fun _ h' => h'.setFrontend)
theorem Kept.eqStep {m ps p} (h : Kept a s) (e : eqStep m ps s p = .ok t) : Kept a t := by
  unfold Machine.eqStep at e
  split at e
  · exact Except.ok.inj e ▸ h.updChz.updChn
  · cases e
theorem Kept.setEq {head zone stream ps} (h : Kept a s) : Kept a (setEq head zone stream ps s).st := by
  unfold Machine.setEq
  split
  · exact h
  · exact .iteA h (h.setAllA (fun _ _ _ h' e => h'.eqStep e))
theorem Kept.execChnSetEq {r head zone stream ps} (h : Kept a s) : Steps a (execChnSetEq r head zone stream ps s) :=
  .next (h.serve fun _ h' => h'.setEq)
theorem Kept.setDetector {head zone ps} (h : Kept a s) : Kept a (setDetector head zone ps s).st := h.setHz
theorem Kept.execChnSetDetector {r head zone ps} (h : Kept a s) : Steps a (execChnSetDetector r head zone ps s) :=
  .next (h.serve fun _ h' => h'.setDetector)
theorem Kept.setSync {head zone ps} (h : Kept a s) : Kept a (setSync head zone ps s).st := h.setHz
theorem Kept.execChnSetSync {r head zone ps} (h : Kept a s) : Steps a (execChnSetSync r head zone ps s) :=
  .next (h.serve fun _ h' => h'.setSync)
theorem Kept.setRecovery {stream ps} (h : Kept a s) : Kept a (setRecovery stream ps s).st := by
  unfold Machine.setRecovery
  split
  · exact h
  · exact h.setA (fun _ => h.other.updChn)
theorem Kept.execChnSetRecovery {r stream ps} (h : Kept a s) : Steps a (execChnSetRecovery r stream ps s) :=
  .next (h.serve fun _ h' => h'.setRecovery)
theorem Kept.getChnStatus {stream clear} (h : Kept a s) : Kept a (getChnStatus stream clear s).st := by
  unfold Machine.getChnStatus
  split
  · exact h.updChn
  · exact h
theorem Kept.execChnGetStatus {r stream clear} (h : Kept a s) : Steps a (execChnGetStatus r stream clear s) :=
  .next (h.serve fun _ h' => h'.getChnStatus)
theorem Kept.chnCapture {r head slot track count} (h : Kept a s) : Kept a (chnCapture r head slot track count s).st := by
  unfold Machine.chnCapture
  split
  · exact h
  · split
    · exact h
    · split
      · exact h
      · exact .iteA h h.updChn
theorem Kept.execChnCapture {r head slot track count} (h : Kept a s) : Steps a (execChnCapture r head slot track count s) :=
  .next (h.serve fun _ h' => h'.chnCapture)

/-! ### WritePath -/

theorem Kept.refuseRun {a' r code} (h : Kept a s) : Kept a (refuseRun s a' r code) :=
  ((Kept.ite h.updWhead.addEnergy.aeFall h.updWhead.addEnergy).forEach fun _ _ h' => h'.postWord).updWp.afterRun
theorem Kept.writeOrderDispatch {a' o} (h : Kept a s) : Kept a (writeOrderDispatch a' o s) :=
  .ite (.ite h.heaterWrite.updWp h.heaterWrite.updWp.selectWrite) h
theorem Kept.execHtrReadySet {h'} (h : Kept a s) : Steps a (execHtrReadySet h' s) := by
  unfold Machine.execHtrReadySet
  refine .next ?_
  split
  · exact .ite h.updWhead h
  · exact h
theorem Kept.latchPars {a' h'} (h : Kept a s) : Kept a (latchPars s a' h') := h.updWp.updWhead.wearCheck
theorem Kept.startAssist {a'} (h : Kept a s) : Kept a (startAssist s a') := h.updLaw4.updWp
theorem Kept.takeSetPoint {a'} (h : Kept a s) : Kept a (takeSetPoint s a') := h.updWp
theorem Kept.riseAssist {a' r} (h : Kept a s) : Kept a (riseAssist s a' r) :=
  h.latchPars.updWp.takeSetPoint.startAssist.updGuard
theorem Kept.execAssistEnableRise {a'} (h : Kept a s) : Steps a (execAssistEnableRise a' s) := by
  unfold Machine.execAssistEnableRise
  refine .next ?_
  split
  · split
    · split
      · exact h.refuseRun
      · exact h.riseAssist
    · exact h
  · exact h
theorem Kept.placeBand {a' ctx} (h : Kept a s) : Kept a (placeBand s a' ctx) := by
  unfold Machine.placeBand
  split
  · exact h
  · split
    · exact h
    · split
      · exact .ite h.updBand h.updWp.updBand
      · exact h.updWp.updBand
theorem Kept.stepTrack {a' o} (h : Kept a s) : Kept a (stepTrack s a' o) := h.updBand
theorem Kept.noteGen {a' ctx} (h : Kept a s) : Kept a (noteGen s a' ctx) := by
  unfold Machine.noteGen
  split
  · exact h
  · exact h.updWp
theorem Kept.abortReads {a'} (h : Kept a s) : Kept a (abortReads s a') := h.forEach fun _ _ h' => .ite h'.updChn h'
theorem Kept.sendBits {a' start bits} (h : Kept a s) : Kept a (sendBits s a' start bits) := by
  unfold Machine.sendBits
  split
  · exact h
  · exact h.updWp.emit
theorem Kept.openGate {a' r} (h : Kept a s) : Kept a (openGate s a' r) := by
  unfold Machine.openGate
  extract_lets +onlyGivenNames s1 s2 paired s3 s4
  have hs1 : Kept a s1 := .ite h.placeBand h.stepTrack
  have hs2 : Kept a s2 := hs1.abortReads.noteGen
  have hs3 : Kept a s3 := hs2.updWp
  have hs4 : Kept a s4 := hs3.updGuard
  split
  · exact hs4.sendBits
  · exact hs4
theorem Kept.execWriteGateOpen {a'} (h : Kept a s) : Steps a (execWriteGateOpen a' s) := by
  unfold Machine.execWriteGateOpen
  refine .next ?_
  split
  · split
    · split
      · exact h.refuseRun
      · exact h.openGate
    · exact h
  · exact h
theorem Kept.sendSector {a' r k ends} (h : Kept a s) : Kept a (sendSector s a' r k ends) := by
  unfold Machine.sendSector
  split
  · exact h.sendBits
  · exact h
theorem Kept.endSector {a' r} (h : Kept a s) : Kept a (endSector s a' r) := h.sendSector.updWp
theorem Kept.writeSectorEnd {a'} (h : Kept a s) : Kept a (writeSectorEnd a' s) := by
  unfold Machine.writeSectorEnd
  split
  · split
    · extract_lets s1
      have hs1 : Kept a s1 := h.endSector
      split
      · exact hs1.closeRun
      · exact .ite hs1.closeRun hs1
    · exact h
  · exact h
theorem Kept.execWriteSectorEnd {a'} (h : Kept a s) : Steps a (execWriteSectorEnd a' s) := .next h.writeSectorEnd
theorem Kept.writeUnderrun {a'} (h : Kept a s) : Kept a (writeUnderrun a' s) := by
  unfold Machine.writeUnderrun
  split
  · exact .ite h.orderlyClose h
  · exact h
theorem Kept.execWriteUnderrun {a'} (h : Kept a s) : Steps a (execWriteUnderrun a' s) := .next h.writeUnderrun
theorem Kept.writeRunEnd {a'} (h : Kept a s) : Kept a (writeRunEnd a' s) := by
  unfold Machine.writeRunEnd
  split
  · exact .ite h.closeRun h
  · exact h
theorem Kept.execWriteRunEnd {a'} (h : Kept a s) : Steps a (execWriteRunEnd a' s) := .next h.writeRunEnd
theorem Kept.execFfPersist (h : Kept a s) : Steps a (execFfPersist s) :=
  .next (.ite (h.updNv (by exact fusesKept.refl _)) h)
theorem Kept.heaterHoldEnd {h'} (h : Kept a s) : Kept a (heaterHoldEnd h' s) := .ite h.updWhead.updHloop h
theorem Kept.execHeaterHoldEnd {h'} (h : Kept a s) : Steps a (execHeaterHoldEnd h' s) := .next h.heaterHoldEnd
theorem Kept.execContactRearm {h'} (h : Kept a s) : Steps a (execContactRearm h' s) := .next (.ite h.updWhead h)
theorem Kept.whzStep {f p} (h : Kept a s) (e : whzStep f s p = .ok t) : Kept a t := by
  unfold Machine.whzStep at e
  split at e
  · exact Except.ok.inj e ▸ h.updWhead.other
  · cases e
theorem Kept.setWhz {head zone f} (h : Kept a s) : Kept a (setWhz s head zone f).st :=
  .iteA h (h.setAllA (fun _ _ _ h' e => h'.whzStep e))
theorem Kept.wrpFormat {head zone ps} (h : Kept a s) : Kept a (wrpFormat head zone ps s).st := h.setWhz
theorem Kept.execWrpSetFormat {r head zone ps} (h : Kept a s) : Steps a (execWrpSetFormat r head zone ps s) :=
  .next (h.serve fun _ h' => h'.wrpFormat)
theorem Kept.wrpAssist {head zone ps} (h : Kept a s) : Kept a (wrpAssist head zone ps s).st := .iteA h h.setWhz
theorem Kept.execWrpSetAssist {r head zone ps} (h : Kept a s) : Steps a (execWrpSetAssist r head zone ps s) :=
  .next (h.serve fun _ h' => h'.wrpAssist)
theorem Kept.wrpFh {head zone ps} (h : Kept a s) : Kept a (wrpFh head zone ps s).st := h.setWhz
theorem Kept.execWrpSetFh {r head zone ps} (h : Kept a s) : Steps a (execWrpSetFh r head zone ps s) :=
  .next (h.serve fun _ h' => h'.wrpFh)
theorem Kept.wrpLimits {ps} (h : Kept a s) : Kept a (wrpLimits ps s).st := h.setA (fun _ => h.other)
theorem Kept.execWrpSetLimits {r ps} (h : Kept a s) : Steps a (execWrpSetLimits r ps s) :=
  .next (h.serve fun _ h' => h'.wrpLimits)
theorem Kept.wearStep {ps x} (h : Kept a s) (e : wearStep ps s x = .ok t) : Kept a t := by
  unfold Machine.wearStep at e
  split at e
  · exact Except.ok.inj e ▸ h.updWhead.other
  · cases e
theorem Kept.wrpWear {head ps} (h : Kept a s) : Kept a (wrpWear head ps s).st := by
  unfold Machine.wrpWear
  refine .iteA h ?_
  split
  · next e => exact h.foldExcept (fun _ _ _ h' e' => h'.wearStep e') e
  · exact h
theorem Kept.execWrpSetWear {r head ps} (h : Kept a s) : Steps a (execWrpSetWear r head ps s) :=
  .next (h.serve fun _ h' => h'.wrpWear)
theorem Kept.loadBand {a' c d} (h : Kept a s) : Kept a (loadBand s a' c d) := h.updWp
theorem Kept.openBand {a' d x} (h : Kept a s) (e : openBand s a' d = .ok x) : Kept a x.2 := by
  unfold Machine.openBand at e
  split at e
  · cases e
  · split at e
    · cases e
    · exact Except.ok.inj e ▸ h.loadBand
theorem Kept.wrpOpen {act d} (h : Kept a s) : Kept a (wrpOpen act d s).st := by
  unfold Machine.wrpOpen
  split
  · exact h
  · split
    · exact h
    · split
      · next e => exact (h.openBand e : Kept a _)
      · exact h
theorem Kept.execWrpOpenBand {r act desc} (h : Kept a s) : Steps a (execWrpOpenBand r act desc s) :=
  .next (h.serve fun _ h' => h'.wrpOpen)
theorem Kept.freeBand {a' c} (h : Kept a s) : Kept a (freeBand s a' c) := .dite (fun _ => h.updWp) (fun _ => h)
theorem Kept.wrpClose {act ctx} (h : Kept a s) : Kept a (wrpClose act ctx s).st := by
  unfold Machine.wrpClose
  split
  · exact h
  · split
    · exact h
    · exact .iteA h h.freeBand
theorem Kept.execWrpCloseBand {r act ctx} (h : Kept a s) : Steps a (execWrpCloseBand r act ctx s) :=
  .next (h.serve fun _ h' => h'.wrpClose)
theorem Kept.wrpStop {act} (h : Kept a s) : Kept a (wrpStop act s).st := by
  unfold Machine.wrpStop
  split
  · exact h
  · exact h.orderlyClose
theorem Kept.execWrpStop {r act} (h : Kept a s) : Steps a (execWrpStop r act s) := .next (h.serve fun _ h' => h'.wrpStop)
theorem Kept.wrpRelease {head} (h : Kept a s) : Kept a (wrpRelease head s).st := by
  unfold Machine.wrpRelease
  split
  · exact h
  · exact h.updWhead.updHeadRec
theorem Kept.execWrpRelease {r head} (h : Kept a s) : Steps a (execWrpRelease r head s) :=
  .next (h.serve fun _ h' => h'.wrpRelease)
theorem Kept.wrpGet {act clear} (h : Kept a s) : Kept a (wrpGet act clear s).st := by
  unfold Machine.wrpGet
  split
  · exact h
  · exact h.updWp
theorem Kept.execWrpGetStatus {r act clear} (h : Kept a s) : Steps a (execWrpGetStatus r act clear s) :=
  .next (h.serve fun _ h' => h'.wrpGet)
theorem Kept.wrpGetWear {head} (h : Kept a s) : Kept a (wrpGetWear head s).st := by
  unfold Machine.wrpGetWear
  split
  · exact h
  · exact h
theorem Kept.execWrpGetWear {r head} (h : Kept a s) : Steps a (execWrpGetWear r head s) :=
  .next (h.serve fun _ h' => h'.wrpGetWear)

/-! ### Links -/

theorem Kept.updLink {k f} (h : Kept a s) : Kept a (updLink s k f) := .dite (fun _ => h.updPlk) (fun _ => h.updPsl)
theorem Kept.ownRead {k addr data} (h : Kept a s) : Kept a (ownRead s k addr data) :=
  .dite (fun _ => .ite h.updPlk.updPlk.updActRec.raise h.updPlk) (fun _ => h)
theorem Kept.endReq {k r status aux data} (h : Kept a s) : Kept a (endReq s k r status aux data) := by
  unfold Machine.endReq
  extract_lets s1
  have hs1 : Kept a s1 := h.updLink
  split
  · exact hs1.lateAnswer
  · exact .ite hs1.ownRead hs1
theorem Kept.retryReq {k r} (h : Kept a s) : Kept a (retryReq s k r) := .ite h.updLink h.updLink.endReq
theorem Kept.regResponse {k data toggle tag rstat} (h : Kept a s) : Kept a (regResponse s k data toggle tag rstat) := by
  unfold Machine.regResponse
  split
  · exact h
  · split
    · exact h
    · exact .ite h.endReq (.ite h.endReq h.retryReq)
theorem Kept.endAllReqs {k} (h : Kept a s) : Kept a (endAllReqs s k) :=
  h.updLink.forEach fun _ _ h' => by
    split
    · exact h'.lateAnswer
    · exact h'
theorem Kept.tickReqs {k} (h : Kept a s) : Kept a (tickReqs s k) := h.updLink
theorem Kept.regRequestTimeout {link tag} (h : Kept a s) : Kept a (regRequestTimeout link tag s) := by
  unfold Machine.regRequestTimeout
  split
  · exact .ite h.retryReq h
  · exact h
theorem Kept.execRegRequestTimeout {link tag} (h : Kept a s) : Steps a (execRegRequestTimeout link tag s) :=
  .next h.regRequestTimeout
theorem Kept.plkSend {a'} (h : Kept a s) : Kept a (plkSend a' s) := (Kept.ite h.updPlk.updWp h.updPlk).emit.emit
theorem Kept.execPreampDownstreamFrame {a'} (h : Kept a s) : Steps a (execPreampDownstreamFrame a' s) :=
  .next (.ite h.plkSend h)
theorem Kept.pslSend (h : Kept a s) : Kept a (pslSend s) := h.other.emit
theorem Kept.execPslTxFrame (h : Kept a s) : Steps a (execPslTxFrame s) := .next (.ite h.pslSend h)
theorem Kept.plkUp {a'} (h : Kept a s) : Kept a (plkUp s a') := h.updPlk.updAct
theorem Kept.pslUp (h : Kept a s) : Kept a (pslUp s) :=
  .ite ((h.updPsl.forEach fun _ _ h' => h'.pslWrite).spinStart) (h.updPsl.forEach fun _ _ h' => h'.pslWrite)
theorem Kept.trainTimeout {link} (h : Kept a s) : Kept a (trainTimeout link s) :=
  .ite h (.ite h.updLink (.ite h.updLink (.ite h.updLink.report h.updLink.report)))
theorem Kept.execLinkTrainingTimeout {link} (h : Kept a s) : Steps a (execLinkTrainingTimeout link s) :=
  .next (.ite h.trainTimeout h)
theorem Kept.execLinkTrainingRetry {link} (h : Kept a s) : Steps a (execLinkTrainingRetry link s) :=
  .next (.ite h.updLink h)
theorem Kept.frameEnergy {apwr a'} (h : Kept a s) : Kept a (frameEnergy apwr a' s) := .ite h h.updWp
theorem Kept.telemetry {a' mon atemp apwr} (h : Kept a s) : Kept a (telemetry s a' mon atemp apwr) := by
  unfold Machine.telemetry
  extract_lets +onlyGivenNames s1 s2
  have hs1 : Kept a s1 := h.updPlk
  have hs2 : Kept a s2 := hs1.frameEnergy
  split
  · extract_lets lead s3
    have hs3 : Kept a s3 := hs2.updWp
    split
    · exact hs3.assistTrip
    · exact hs3
  · exact hs2.updWp
theorem Kept.declareContact {a' h' other} (h : Kept a s) : Kept a (declareContact s a' h' other) :=
  .ite ((Kept.ite h.tripNow (.ite h.otherTrip h)).updWhead.updWp.updPlk.updHeadCtr.raise.updWhead.raise) ((Kept.ite
      h.tripNow (.ite h.otherTrip h)).updWhead.updWp.updPlk.updHeadCtr.raise)
theorem Kept.contactFlag {a' other p} (h : Kept a s) : Kept a (contactFlag a' other s p) :=
  .ite (.ite h.updWhead.declareContact h.updWhead) h.updWhead
theorem Kept.plkGood {a' f} (h : Kept a s) : Kept a (plkGood s a' f) :=
  (h.updPlk.updWhead.telemetry.forEach fun _ _ h => h.contactFlag).regResponse
theorem Kept.plkFrame {a' frame} (h : Kept a s) : Kept a (plkFrame a' frame s) := by
  unfold Machine.plkFrame
  extract_lets +onlyGivenNames s0 l ok
  have hs0 : Kept a s0 := h.tickReqs
  clear_value ok
  split
  · exact .ite hs0.plkGood (.ite hs0.updLink.plkUp hs0.updLink)
  · exact .ite hs0.updLink.frameEnergy hs0.updLink
theorem Kept.execPreampUpstreamFrame {a' frame} (h : Kept a s) : Steps a (execPreampUpstreamFrame a' frame s) :=
  .next (.ite h.plkFrame h)
theorem Kept.plkLose {a'} (h : Kept a s) : Kept a (plkLose s a') := h.updPlk.updAct.tripNow.endAllReqs.takeFree.report
theorem Kept.execPreampLinkLost {a'} (h : Kept a s) : Steps a (execPreampLinkLost a' s) := .next (.ite h.plkLose h)
theorem Kept.pslFrame {frame} (h : Kept a s) : Kept a (pslFrame frame s) := by
  unfold Machine.pslFrame
  extract_lets +onlyGivenNames s0 l ok
  have hs0 : Kept a s0 := h.tickReqs
  clear_value ok
  split
  · exact .ite hs0.updPsl.updSpn.regResponse (.ite hs0.updLink.pslUp hs0.updLink)
  · exact hs0.updLink
theorem Kept.execPslRxFrame {frame} (h : Kept a s) : Steps a (execPslRxFrame frame s) := .next (.ite h.pslFrame h)
theorem Kept.execPslLinkLost (h : Kept a s) : Steps a (execPslLinkLost s) :=
  .next (.ite (.ite h.updPsl.endAllReqs.report h.updPsl.endAllReqs.report.startBreakwater) h)
theorem Kept.plkGet {act clear} (h : Kept a s) : Kept a (plkGet act clear s).st := by
  unfold Machine.plkGet
  split
  · exact h
  · exact h.updPlk
theorem Kept.execPlkGetStatus {r act clear} (h : Kept a s) : Steps a (execPlkGetStatus r act clear s) :=
  .next (h.serve fun _ h' => h'.plkGet)
theorem Kept.pslGet {clear} (h : Kept a s) : Kept a (pslGet clear s).st := h.updPsl
theorem Kept.execPslGetStatus {r clear} (h : Kept a s) : Steps a (execPslGetStatus r clear s) :=
  .next (h.serve fun _ h' => h'.pslGet)
theorem Kept.regAccess {k mb op addr data} (h : Kept a s) : Kept a (regAccess s k mb op addr data).st := by
  unfold Machine.regAccess
  split
  · exact h
  · exact h.updLink.deferA
theorem Kept.plkReg {mb act op addr data} (h : Kept a s) : Kept a (plkReg mb act op addr data s).st := by
  unfold Machine.plkReg
  split
  · exact h
  · exact .iteA h h.regAccess
theorem Kept.execPlkRegAccess {r act op addr data} (h : Kept a s) : Steps a (execPlkRegAccess r act op addr data s) :=
  .next (h.serve fun _ h' => h'.plkReg)
theorem Kept.pslReg {mb op addr data} (h : Kept a s) : Kept a (pslReg mb op addr data s).st := .iteA h h.regAccess
theorem Kept.execPslRegAccess {r op addr data} (h : Kept a s) : Steps a (execPslRegAccess r op addr data s) :=
  .next (h.serve fun _ h' => h'.pslReg)
theorem Kept.lnkLimits {ps} (h : Kept a s) : Kept a (lnkLimits ps s).st := h.setA (fun _ => h.other)
theorem Kept.execLnkSetLimits {r ps} (h : Kept a s) : Steps a (execLnkSetLimits r ps s) :=
  .next (h.serve fun _ h' => h'.lnkLimits)
theorem Kept.pslSafe {ps} (h : Kept a s) : Kept a (pslSafe ps s).st := h.setA (fun _ => h.other.pslWrite.pslWrite.pslWrite)
theorem Kept.execPslSetSafe {r ps} (h : Kept a s) : Steps a (execPslSetSafe r ps s) :=
  .next (h.serve fun _ h' => h'.pslSafe)

/-! ### Media -/

theorem Kept.updFn {f g} (h : Kept a s) : Kept a (updFn s f g) := h.updQuay
theorem Kept.chargeM {f us} (h : Kept a s) : Kept a (chargeM s f us) := h.updFn
theorem Kept.chargeUs {f us} (h : Kept a s) : Kept a (chargeUs s f us) := h.chargeM.updFn
theorem Kept.updRing {key g} (h : Kept a s) : Kept a (updRing s key g) := h.updQuay
theorem Kept.tallyF {f g} (h : Kept a s) : Kept a (tallyF s f g) := h.updRing.updRing
theorem Kept.tallyBg {g} (h : Kept a s) : Kept a (tallyBg s g) := h.updRing
theorem Kept.tallyEnergy {f nj} (h : Kept a s) : Kept a (tallyEnergy s f nj) := h.updRing.updRing
theorem Kept.tallyBgEnergy {nj} (h : Kept a s) : Kept a (tallyBgEnergy s nj) := h.updRing
theorem Kept.updBerth {b f} (h : Kept a s) : Kept a (updBerth s b f) := h.updTbl
theorem Kept.updSeg {i f} (h : Kept a s) : Kept a (updSeg s i f) := h.updTbl
theorem Kept.queueOp {a' o} (h : Kept a s) : Kept a (queueOp s a' o) := h.updCmds

/-! ### Berths -/

theorem Kept.takeTracks {h' first last} (h : Kept a s) : Kept a (takeTracks s h' first last) := h.updTbl
theorem Kept.giveTracks {h' first last} (h : Kept a s) : Kept a (giveTracks s h' first last) := .ite h.updTbl h
theorem Kept.addSeg {g} (h : Kept a s) : Kept a (addSeg s g).2 := by
  unfold Machine.addSeg
  extract_lets i
  dsimp only
  exact h.updTbl
theorem Kept.bindMember {stripes acc hd x} (h : ∀ y, acc = some y → Kept a y.1) (e : bindMember stripes acc hd = some x) :
    Kept a x.1 := by
  cases acc with
  | none => cases e
  | some y =>
    obtain ⟨s, ms, leads⟩ := y
    have hs : Kept a s := h _ rfl
    unfold Machine.bindMember at e
    dsimp only at e
    split at e
    · cases e
    · exact Option.some.inj e ▸ hs.takeTracks.addSeg
theorem Kept.foldBindMember {stripes} {hs : List Hd} {acc x} (h : ∀ y, acc = some y → Kept a y.1)
    (e : hs.foldl (Machine.bindMember stripes) acc = some x) : Kept a x.1 := by
  induction hs generalizing acc with
  | nil => exact h x e
  | cons b hs ih => exact ih (fun _ e' => Kept.bindMember h e') e
theorem Kept.noEligible {layout} (h : Kept a s) : Kept a (noEligible s layout) := h.raise
theorem Kept.bindBerth {kind layout owner nsid x} (h : Kept a s) (e : bindBerth s kind layout owner nsid = some x) :
    Kept a x.2 := by
  unfold Machine.bindBerth at e
  split at e
  · cases e
  · split at e
    · cases e
    · next s1 ms _ e1 =>
      have hs1 : Kept a s1 := Kept.foldBindMember (by rintro _ ⟨⟩; exact h) e1
      cases e
      dsimp only
      exact hs1.updTbl.updBrt
theorem Kept.bumpGen {sf} (h : Kept a s) : Kept a (bumpGen s sf) := by
  unfold Machine.bumpGen
  extract_lets g
  exact h.updTbl
theorem Kept.openTry {n i} (h : Kept a s) (e : openTry n s i = some t) : Kept a t := by
  induction n generalizing s with
  | zero => cases e
  | succ n ih =>
    unfold Machine.openTry at e
    split at e
    · cases e
    · dsimp only at e
      split at e
      · next e1 => exact Option.some.inj e ▸ (h.bumpGen.openBand e1).updSeg
      · split at e
        · exact ih h.bumpGen e
        · cases e
theorem Kept.closeSeg {i} (h : Kept a s) : Kept a (closeSeg s i) := by
  unfold Machine.closeSeg
  split
  · exact h
  · split
    · exact h
    · extract_lets +onlyGivenNames a0
      split
      · exact h.updSeg
      · extract_lets s1
        have hs1 : Kept a s1 := h.freeBand.updSeg
        split
        · exact .ite hs1.updSeg.updTbl hs1
        · exact hs1
theorem Kept.openSeg {i} (h : Kept a s) (e : openSeg s i = some t) : Kept a t := by
  unfold Machine.openSeg at e
  split at e
  · cases e
  · dsimp only at e
    split at e
    · exact h.openTry e
    · split at e
      · exact h.closeSeg.openTry e
      · cases e
theorem Kept.continueSeg {g stripes n x} (h : Kept a s) (e : continueSeg s g stripes n = some x) : Kept a x.2 := by
  unfold Machine.continueSeg at e
  dsimp only at e
  split at e
  · exact Option.some.inj e ▸ h.addSeg.updSeg
  · split at e
    · exact Option.some.inj e ▸ h.takeTracks.addSeg.updSeg
    · cases e
theorem Kept.splitSeg {i start} (h : Kept a s) : Kept a (splitSeg s i start) := by
  unfold Machine.splitSeg
  split
  · exact h
  · exact .ite h h.addSeg.updSeg
theorem Kept.retarget {b nb start} (h : Kept a s) : Kept a (retarget s b nb start) := h.other
theorem Kept.startMove {b mb} (h : Kept a s) (e : startMove s b mb = some t) : Kept a t := by
  unfold Machine.startMove at e
  split at e
  · cases e
  · split at e
    · cases e
    · next e1 =>
      refine Option.some.inj e ▸ Kept.updTbl (Kept.retarget ?_)
      have h1 := h.bindBerth e1
      split
      · exact h1.forEach fun _ _ h' => h'.splitSeg
      · exact h1
theorem Kept.needMove {b} (h : Kept a s) : Kept a (needMove s b) := by
  unfold Machine.needMove
  refine .ite h ?_
  split
  · next e => exact h.startMove e
  · exact h
theorem Kept.ensureOpen {b j n} (h : Kept a s) : Kept a (ensureOpen s b j n).2 := by
  unfold Machine.ensureOpen
  extract_lets ch
  clear_value ch
  split
  · exact h
  · split
    · exact h
    split
    · exact h
    split
    · split
      · next e => exact h.openSeg e
      · exact h
    split
    · exact h.needMove
    split
    · exact h
    · next e1 =>
      split
      · next e2 => exact (h.continueSeg e1).openSeg e2
      · exact h.continueSeg e1
theorem Kept.updMan {k f} (h : Kept a s) : Kept a (updMan s k f) := h.updTbl
theorem Kept.recordEntry (h : Kept a s) : Kept a (recordEntry s) := by
  unfold Machine.recordEntry
  split
  · exact h
  · extract_lets +onlyGivenNames k
    split
    · exact h.updBrt
    · exact .ite h h.updTbl.updBrt
theorem Kept.startStrip {k j} (h : Kept a s) : Kept a (startStrip k s j) := by
  unfold Machine.startStrip
  split
  · exact h
  next m _ =>
  split
  · exact h
  next b _ =>
  have h1 : Kept a (Machine.ensureOpen s b j (64 * m.stripe)).2 := h.ensureOpen
  split
  · next s1 e =>
    rw [e] at h1
    exact h1.updSeg.updMan.queueOp
  · next s1 e =>
    rw [e] at h1
    exact h1.updMan
theorem Kept.startEntry {m} (h : Kept a s) : Kept a (startEntry s m) := by
  unfold Machine.startEntry
  split
  · exact h
  · exact h.forEach fun _ _ h => h.startStrip
theorem Kept.restartMoved (h : Kept a s) : Kept a (restartMoved s) := h.forEach fun _ _ h => h.startEntry
theorem Kept.updBlock {id f} (h : Kept a s) : Kept a (updBlock s id f) := h.other
theorem Kept.consumed {addr p row} (h : Kept a s) : Kept a (consumed s addr p row) := (h.updDram (by exact id)).raise
theorem Kept.substBlock {c} (h : Kept a s) : Kept a (substBlock s c) := h.updBlock.raise
theorem Kept.substStripe {b st} (h : Kept a s) : Kept a (substStripe s b st) :=
  h.forEach fun _ _ h' => h'.takeFree.consumed.substBlock
theorem Kept.execStripeDestageStart {berth stripe} (h : Kept a s) : Steps a (execStripeDestageStart berth stripe s) := by
  unfold Machine.execStripeDestageStart
  refine .next ?_
  split
  · exact .ite (.dite (fun _ => h.substStripe.updBrt) (fun _ => h)) h
  · exact h
theorem Kept.execParityEngineDone {e} (h : Kept a s) : Steps a (execParityEngineDone e s) := by
  unfold Machine.execParityEngineDone
  refine .next ?_
  split
  · exact h
  · split
    · extract_lets s1
      have hs1 : Kept a s1 := h.updBrt
      split
      · exact hs1.updBrt.recordEntry
      · exact hs1
    · exact h
theorem Kept.execManifestEntryRecorded {slot} (h : Kept a s) : Steps a (execManifestEntryRecorded slot s) := by
  unfold Machine.execManifestEntryRecorded
  refine .next ?_
  split
  · split
    · split
      · exact (h.updMan.forEach fun _ _ h => h.startStrip).restartMoved
      · exact h
    · exact h
  · exact h
theorem Kept.putBuilder {b} (h : Kept a s) : Kept a (putBuilder s b) := h.updTbl
theorem Kept.closeStripe {b} (h : Kept a s) : Kept a (closeStripe s b) := by
  unfold Machine.closeStripe
  split
  · exact h
  · exact .ite h.updBrt.updBerth.putBuilder h.updBrt.putBuilder
theorem Kept.readyBuilder {kind layout x} (h : Kept a s) (e : readyBuilder s kind layout = some x) : Kept a x.2 := by
  unfold Machine.readyBuilder at e
  dsimp only at e
  split at e
  · exact Option.some.inj e ▸ h
  · split at e
    · next e1 => exact Option.some.inj e ▸ (h.bindBerth e1 : Kept a _)
    · cases e
theorem Kept.placeBlock {kind layout id} (h : Kept a s) : Kept a (placeBlock s kind layout id) := by
  unfold Machine.placeBlock
  split
  · exact h.noEligible
  · next e =>
    have h1 := h.readyBuilder e
    exact .ite h1.other.closeStripe h1.other.putBuilder
theorem Kept.touchPage {nsid page} (h : Kept a s) : Kept a (touchPage s nsid page) := by
  unfold Machine.touchPage
  extract_lets cur
  clear_value cur
  cases cur with
  | some c => exact .ite h.other.updBrt.placeBlock h
  | none => exact h.other.updBrt.placeBlock
theorem Kept.setChart {nsid lba e} (h : Kept a s) : Kept a (setChart s nsid lba e) := h.updTbl.touchPage
theorem Kept.liveUp {b} (h : Kept a s) : Kept a (liveUp s b) := h.updBerth
theorem Kept.liveDown {b} (h : Kept a s) : Kept a (liveDown s b) := h.updBerth
theorem Kept.execLogStripeAged {kind layout} (h : Kept a s) : Steps a (execLogStripeAged kind layout s) :=
  .next (.ite h.closeStripe h)
theorem Kept.trimMember {b j} (h : Kept a s) : Kept a (trimMember s b j) := by
  unfold Machine.trimMember
  split
  · exact h
  · extract_lets +onlyGivenNames s1
    have hs1 : Kept a s1 := h.closeSeg
    split
    · exact hs1.updSeg.giveTracks
    · exact hs1
theorem Kept.sealBerth {b} (h : Kept a s) : Kept a (sealBerth s b) := by
  unfold Machine.sealBerth
  split
  · refine .ite (h.updBerth.forEach fun s j h' => ?_) h
    split
    · exact h'.trimMember
    · exact h'
  · exact h
theorem Kept.installBlock {c} (h : Kept a s) : Kept a (installBlock s c) := by
  unfold Machine.installBlock
  split
  · exact h
  next b i _ =>
  refine .ite ?_ ?_
  · extract_lets old s1
    have hs1 : Kept a s1 := by
      clear_value old
      cases old with
      | some d => exact h.liveDown
      | none => exact h
    exact hs1.liveUp.updTbl
  · split
    · exact h
    · refine .ite ?_ (.ite h.liveUp.setChart h)
      split
      · exact .ite h.liveDown.liveUp.setChart h
      · exact h
theorem Kept.returnBlocks {ids} (h : Kept a s) : Kept a (returnBlocks s ids) := h.other
theorem Kept.chargeStripe {m bs} (h : Kept a s) : Kept a (chargeStripe s m bs) := by
  unfold Machine.chargeStripe
  extract_lets +onlyGivenNames host
  split
  · exact h.tallyBg.tallyBgEnergy
  · extract_lets sh s1 s2
    have hs1 : Kept a s1 := h.forEach fun _ _ h' => h'.chargeM
    have hs2 : Kept a s2 := hs1.forEach fun _ _ h' => h'.chargeUs.tallyF
    exact hs2.forEach fun _ _ h' => h'.tallyEnergy
theorem Kept.completeStripe {m b} (h : Kept a s) : Kept a (completeStripe s m b) :=
  (Kept.ite h.updMan.updBerth (h.updMan.updBerth.forEach fun _ _ h
      => h.installBlock)).chargeStripe.returnBlocks.updBrt.sealBerth
theorem Kept.setDone {m b j energy us} (h : Kept a s) : Kept a (setDone s m b j energy us) := by
  unfold Machine.setDone
  extract_lets s1
  have hs1 : Kept a s1 := h.updMan
  split
  · exact .ite hs1.completeStripe hs1
  · exact hs1
theorem Kept.countStrip {g st} (h : Kept a s) : Kept a (countStrip s g st) := h.updSeg
theorem Kept.retryHeld {a'} (h : Kept a s) : Kept a (retryHeld s a') :=
  h.forEach fun _ _ h' => by
    split
    · exact h'.forEach fun _ _ h => h.startStrip
    · exact h'
theorem Kept.execMemberStripComplete {slot member energyNj actUs} (h : Kept a s) :
    Steps a (execMemberStripComplete slot member energyNj actUs s) := by
  unfold Machine.execMemberStripComplete
  refine .next ?_
  split
  · split
    · split
      · extract_lets s1 s2
        have hs1 : Kept a s1 := h.updCmds
        have hs2 : Kept a s2 := by
          unfold s2
          split
          · exact hs1.countStrip
          · exact hs1
        exact hs2.setDone.retryHeld
      · exact h
    · exact h
  · exact h
theorem Kept.failSlot {a' g} (h : Kept a s) : Kept a (failSlot s a' g) := by
  unfold Machine.failSlot
  extract_lets strip s1
  have hs1 : Kept a s1 := h.closeSeg.updBrt
  clear_value strip
  cases strip with
  | none => exact hs1
  | some x => exact hs1.updCmds.updMan.startStrip.restartMoved
theorem Kept.ckptCopyFail {c} (h : Kept a s) : Kept a (ckptCopyFail s c) := h.updBrt
theorem Kept.closeSpare {a' ctx b} (h : Kept a s) : Kept a (closeSpare s a' ctx b) := h.freeBand.updTbl
theorem Kept.failedWrite {a' ctx b} (h : Kept a s) : Kept a (failedWrite s a' ctx b) := by
  unfold Machine.failedWrite
  split
  · exact h.failSlot
  · exact .ite h.closeSpare (.ite h.freeBand.ckptCopyFail (.ite h.freeBand.ckptCopyFail h.freeBand))
theorem Kept.sectorRewrite {a' ctx slot} (h : Kept a s) : Kept a (sectorRewrite a' ctx slot s) := by
  unfold Machine.sectorRewrite
  split
  · exact .ite (.ite h.updBand h.failedWrite) h
  · exact h
theorem Kept.execSectorRewrite {a' ctx slot} (h : Kept a s) : Steps a (execSectorRewrite a' ctx slot s) :=
  .next h.sectorRewrite
theorem Kept.execWriteOrderDispatch {a' ord} (h : Kept a s) : Steps a (execWriteOrderDispatch a' ord s) :=
  .next h.writeOrderDispatch
theorem Kept.dredgeRead {b e} (h : Kept a s) : Kept a (dredgeRead b s e) := h.queueOp
theorem Kept.execDredgeStart (h : Kept a s) : Steps a (execDredgeStart s) := by
  unfold Machine.execDredgeStart
  refine .next ?_
  split
  · split
    · exact h
    · exact h.updBerth.updBrt.forEach fun _ _ h => h.dredgeRead
  · exact h
theorem Kept.dredgeMove {b index blk} (h : Kept a s) : Kept a (dredgeMove s b index blk) := by
  unfold Machine.dredgeMove
  split
  · exact h
  · exact h.other.updBrt.placeBlock
theorem Kept.releaseBerth {b} (h : Kept a s) : Kept a (releaseBerth s b) := h.updBerth.updTbl
theorem Kept.reshapeEnd (h : Kept a s) : Kept a (reshapeEnd s) := by
  unfold Machine.reshapeEnd
  split
  · exact h
  · extract_lets s1
    have hs1 : Kept a s1 := h.updTbl.raise
    split
    · exact hs1.postDone
    · exact hs1
theorem Kept.execDredgeVictimDone (h : Kept a s) : Steps a (execDredgeVictimDone s) := by
  unfold Machine.execDredgeVictimDone
  refine .next ?_
  split
  · exact .ite h.releaseBerth.updBrt.updBrt.reshapeEnd h
  · exact h
theorem Kept.lapDone (h : Kept a s) : Kept a (lapDone s) := by
  unfold Machine.lapDone
  extract_lets now
  exact h.updBrt
theorem Kept.nextVisit {berth stripe} (h : Kept a s) : Kept a (nextVisit s berth stripe) := .ite h.lapDone h.updBrt
theorem Kept.patrolCheck {b stripe rows} (h : Kept a s) : Kept a (patrolCheck b stripe rows s) := by
  unfold Machine.patrolCheck
  extract_lets +onlyGivenNames use s1 syn
  have hs1 : Kept a s1 := h.forEach fun _ _ h' => h'.forEach fun _ _ h'' => h''.wantReloc
  split
  · exact hs1
  · exact (hs1.forEach fun _ _ h' => h'.wantReloc).updBrt.raise
  · exact hs1.updBerth.updBrt.raise
theorem Kept.execPatrolStripeCheck {berth stripe rows} (h : Kept a s) :
    Steps a (execPatrolStripeCheck berth stripe rows s) := by
  unfold Machine.execPatrolStripeCheck
  refine .next ?_
  split
  · exact .ite ((Kept.ite h.lapDone h).updBrt.patrolCheck.nextVisit) h
  · exact h
theorem Kept.ckptBegin (h : Kept a s) : Kept a (ckptBegin s) := h.updBrt.other
theorem Kept.execCheckpointStart (h : Kept a s) : Steps a (execCheckpointStart s) := .next (.ite h.ckptBegin h)
theorem Kept.ckptWrite {p c} (h : Kept a s) : Kept a (ckptWrite p s c) := .ite h.updBrt h.updBrt
theorem Kept.freeBerth {b} (h : Kept a s) : Kept a (freeBerth s b) := by
  unfold Machine.freeBerth
  extract_lets ids wins
  exact h.updTbl
theorem Kept.commitFrees {p seq} (h : Kept a s) : Kept a (commitFrees s p seq) := by
  unfold Machine.commitFrees
  extract_lets s1
  have hs1 : Kept a s1 := h.forEach fun _ _ h => h.freeBerth
  exact hs1.updTbl
theorem Kept.ckptCommit {p copies single} (h : Kept a s) : Kept a (ckptCommit s p copies single) :=
  (((h.forEach fun _ _ h => h.ckptWrite).updNv (by exact fusesKept.refl _)).commitFrees.other.updBrt.updBrt.forEach
      fun _ _ h' => h'.postDone).eraseFinish.recordEntry
theorem Kept.execCheckpointCommit {okA okB} (h : Kept a s) : Steps a (execCheckpointCommit okA okB s) := by
  unfold Machine.execCheckpointCommit
  refine .next ?_
  split
  · exact h
  · split
    · extract_lets +onlyGivenNames goneA goneB
      split
      · exact h.ckptCommit
      · split
        · exact h.ckptCommit
        · split
          · exact h.ckptCommit
          · exact (Kept.ite ((Kept.ite h.ckptCopyFail h).ckptCopyFail) (.ite h.ckptCopyFail h)).updBrt.other
    · exact h
theorem Kept.brtLayout {nsid layout} (h : Kept a s) : Kept a (brtLayout nsid layout s).st := by
  unfold Machine.brtLayout
  split
  · exact h
  · split
    · exact h.other.okA
    · split
      · exact h
      · split
        · exact h
        · exact (h.updNv (by exact fusesKept.refl _)).okA
theorem Kept.execBrtSetLayout {r nsid layout} (h : Kept a s) : Steps a (execBrtSetLayout r nsid layout s) :=
  .next (h.serve fun _ h' => h'.brtLayout)
theorem Kept.brtLimits {ps} (h : Kept a s) : Kept a (brtLimits ps s).st := .iteA h (h.setA (fun _ => h.other))
theorem Kept.execBrtSetLimits {r ps} (h : Kept a s) : Steps a (execBrtSetLimits r ps s) :=
  .next (h.serve fun _ h' => h'.brtLimits)
theorem Kept.brtPatrol {ps} (h : Kept a s) : Kept a (brtPatrol ps s).st := h.setA (fun _ => h.other)
theorem Kept.execBrtSetPatrol {r ps} (h : Kept a s) : Steps a (execBrtSetPatrol r ps s) :=
  .next (h.serve fun _ h' => h'.brtPatrol)
theorem Kept.brtCkpt {ps} (h : Kept a s) : Kept a (brtCkpt ps s).st := .iteA h (h.setA (fun _ => h.other))
theorem Kept.execBrtSetCkpt {r ps} (h : Kept a s) : Steps a (execBrtSetCkpt r ps s) :=
  .next (h.serve fun _ h' => h'.brtCkpt)
theorem Kept.brtCheckpoint {r} (h : Kept a s) : Kept a (brtCheckpoint r s).st := .ite h.updBrt h.updBrt.ckptBegin
theorem Kept.execBrtCheckpoint {r} (h : Kept a s) : Steps a (execBrtCheckpoint r s) :=
  .next (h.serve fun _ h' => h'.brtCheckpoint)
theorem Kept.brtGetBerth {berth skip} (h : Kept a s) : Kept a (brtGetBerth berth skip s).st := by
  unfold Machine.brtGetBerth
  split
  · exact h
  · exact h
theorem Kept.execBrtGetBerth {r berth skip} (h : Kept a s) : Steps a (execBrtGetBerth r berth skip s) :=
  .next (h.serve fun _ h' => h'.brtGetBerth)
theorem Kept.brtGet {clear} (h : Kept a s) : Kept a (brtGet clear s).st := h.updBrt
theorem Kept.execBrtGetStatus {r clear} (h : Kept a s) : Steps a (execBrtGetStatus r clear s) :=
  .next (h.serve fun _ h' => h'.brtGet)

/-! ### Host -/

theorem Kept.updMoor {f qid g} (h : Kept a s) : Kept a (updMoor s f qid g) := h.updQuay
theorem Kept.updTag {t' g} (h : Kept a s) : Kept a (updTag s t' g) := h.updCmds
theorem Kept.finish {t' st dw0} (h : Kept a s) : Kept a (finish s t' st dw0) := h.updTag
theorem Kept.commitTag {t'} (h : Kept a s) : Kept a (commitTag s t') := h.updTag
theorem Kept.finishOk {t' dw0} (h : Kept a s) : Kept a (finishOk s t' dw0) := h.commitTag.finish
theorem Kept.sendData {t' bytes} (h : Kept a s) : Kept a (sendData s t' bytes) := by
  unfold Machine.sendData
  split
  · exact h.emit
  · exact h
theorem Kept.logErr {f sqid cid status nsid spec} (h : Kept a s) : Kept a (logErr s f sqid cid status nsid spec) := h.updFn
theorem Kept.asyncEvent {f typ info page} (h : Kept a s) : Kept a (asyncEvent s f typ info page) := by
  unfold Machine.asyncEvent
  extract_lets x
  split
  · exact h
  · split
    · exact h.updFn.finish
    · exact h.updFn
theorem Kept.parkAer {f t'} (h : Kept a s) : Kept a (parkAer s f t') := by
  unfold Machine.parkAer
  split
  · exact h.updFn.finish
  · exact h.updFn.updTag
theorem Kept.logRead {f typ} (h : Kept a s) : Kept a (logRead s f typ) := h.updFn
theorem Kept.asyncAll {cfgBit typ info page} (h : Kept a s) : Kept a (asyncAll s cfgBit typ info page) :=
  .ite h (h.forEach fun _ _ h' => .ite h'.asyncEvent h')
theorem Kept.setSmart {bit} (h : Kept a s) : Kept a (setSmart s bit) := .ite h h.updQuay.asyncAll
theorem Kept.lbaAlert (h : Kept a s) : Kept a (lbaAlert s) := h.asyncAll
theorem Kept.updZone {nsid no g} (h : Kept a s) : Kept a (updZone s nsid no g) := h.updTbl
theorem Kept.zoneReadOnly {nsid no} (h : Kept a s) : Kept a (zoneReadOnly s nsid no) :=
  h.updZone.forEach fun _ _ h' => .ite h'.updFn.asyncEvent h'.updFn

/-! ### Rebuild -/

theorem Kept.remargin (h : Kept a s) : Kept a (remargin s) := by
  unfold Machine.remargin
  extract_lets f
  exact h.updTbl
theorem Kept.redegrade {b} (h : Kept a s) : Kept a (redegrade s b) := by
  unfold Machine.redegrade
  split
  · exact h.updBerth
  · exact h
theorem Kept.listLost {l} (h : Kept a s) : Kept a (listLost s l) := .ite h.updTbl (.ite h.updRbld h.updTbl)
theorem Kept.markUnread {b members n} (h : Kept a s) : Kept a (markUnread s b members n) := by
  unfold Machine.markUnread
  extract_lets new
  exact h.updTbl
theorem Kept.rowLost {b stripe row members} (h : Kept a s) : Kept a (rowLost s b stripe row members) :=
  h.listLost.updRbld.raise.lbaAlert.forEach fun _ _ h' => h'.wantReloc
theorem Kept.loseBerth {b} (h : Kept a s) : Kept a (loseBerth s b) := by
  unfold Machine.loseBerth
  split
  · exact h
  · extract_lets s1 s2 s3
    have hs1 : Kept a s1 := h.listLost
    have hs2 : Kept a s2 := hs1.updRbld.raise
    have hs3 : Kept a s3 := hs2.updBerth.updTbl
    split
    · split
      · exact hs3.zoneReadOnly
      · exact hs3
    · exact .ite (hs3.forEach fun _ _ h' => h'.touchPage) hs3
theorem Kept.clearPairs {h'} (h : Kept a s) : Kept a (clearPairs s h') := by
  unfold Machine.clearPairs
  extract_lets s1 onHead
  have hs1 : Kept a s1 := h.forEach fun _ _ h' => h'.updAct
  exact hs1.updTbl
theorem Kept.dropChain {gs} (h : Kept a s) : Kept a (dropChain s gs) := by
  unfold Machine.dropChain
  extract_lets s1 wins
  have hs1 : Kept a s1 := h.forEach fun _ _ h' => h'.closeSeg
  exact (hs1.forEach fun _ _ h' => h'.giveTracks).updTbl
theorem Kept.holdHead {h'} (h : Kept a s) : Kept a (holdHead s h') :=
  h.updCmds.forEach fun _ _ h' => by
    split
    · exact h'.updMan
    · exact h'
theorem Kept.entryAfter {h' st e} (h : Kept a s) : Kept a (entryAfter h' st s e) :=
  .ite h.dropChain.updTbl.updCmds (.ite h.updTbl h)
theorem Kept.declareEffects {x st} (h : Kept a s) : Kept a (declareEffects s x st) := by
  unfold Machine.declareEffects
  extract_lets +onlyGivenNames bs s1
  have hs1 : Kept a s1 := Kept.remargin (h.holdHead.forEach fun _ _ h' => h'.entryAfter)
  refine .ite (hs1.forEach fun s b h' => ?_) hs1
  extract_lets s2
  have hs2 : Kept a s2 := h'.redegrade
  split
  · exact .ite hs2.loseBerth hs2
  · exact hs2
theorem Kept.declareHead {h' reason st sev} (h : Kept a s) : Kept a (declareHead s h' reason st sev) :=
  .ite h.updWhead.updTbl.updRbld.clearPairs.report.setSmart.declareEffects h
theorem Kept.execHeadDeclared {h' reason} (h : Kept a s) : Steps a (execHeadDeclared h' reason s) :=
  .next (.ite h.declareHead h)
theorem Kept.execActuatorDeclaredFailed {a'} (h : Kept a s) : Steps a (execActuatorDeclaredFailed a' s) :=
  .next (.ite (h.updActRec.updTbl.updAct.onRampStop.updRbld.report.forEach fun _ _ h' => h'.declareHead) h)
theorem Kept.addEntry {b j h' copy} (h : Kept a s) : Kept a (addEntry s b j h' copy) := .ite h h.updTbl
theorem Kept.execRebuildEntryCreate {h'} (h : Kept a s) : Steps a (execRebuildEntryCreate h' s) :=
  .next (.ite (h.forEach fun _ _ h' => h'.forEach fun _ _ h'' => h''.addEntry) h)
theorem Kept.updEntry {e f} (h : Kept a s) : Kept a (updEntry s e f) := h.updTbl
theorem Kept.queueRebuild {b e stripe} (h : Kept a s) : Kept a (queueRebuild s b e stripe) := by
  unfold Machine.queueRebuild
  extract_lets +onlyGivenNames s1
  have hs1 : Kept a s1 := h.forEach fun _ _ h' => h'.queueOp
  split
  · exact hs1.queueOp
  · exact hs1
theorem Kept.queueAhead {b e} (h : Kept a s) : Kept a (queueAhead s b e) := h.forEach fun _ _ h' => h'.queueRebuild
theorem Kept.restartStrips {b e} (h : Kept a s) : Kept a (restartStrips s b e) :=
  h.updCmds.forEach fun _ _ h' => h'.updMan.startStrip
theorem Kept.switchMember {b e} (h : Kept a s) : Kept a (switchMember s b e) :=
  h.updBerth.dropChain.updTbl.updEntry.redegrade.remargin
theorem Kept.activate {b e x w} (h : Kept a s) : Kept a (activate s b e x w) := by
  unfold Machine.activate
  extract_lets start sf r s1 s' s2 e1 s3 s4 s5
  have hs1 : Kept a s1 := (Kept.addSeg h.takeTracks).splitSeg
  have hs2 : Kept a s2 := .ite hs1.bumpGen.updSeg hs1
  have hs3 : Kept a s3 := hs2.updEntry
  have hs4 : Kept a s4 := .ite hs3.raise hs3
  have hs5 : Kept a s5 := hs4.restartStrips.queueAhead
  exact .ite hs5.queueRebuild (.ite hs5 hs5.switchMember)
theorem Kept.execRebuildEntryStart {e} (h : Kept a s) : Steps a (execRebuildEntryStart e s) := by
  unfold Machine.execRebuildEntryStart
  refine .next ?_
  split
  · split
    · split
      · split
        · exact h.updRbld
        · exact .ite h.updRbld.activate h
      · exact h
    · exact h
  · exact h
theorem Kept.recordRebuilt {b e stripe} (h : Kept a s) (k : recordRebuilt s b e stripe = some t) : Kept a t := by
  unfold Machine.recordRebuilt at k
  split at k
  · exact Option.some.inj k ▸ h.setDone
  · dsimp only at k
    split at k
    · cases k
    · exact Option.some.inj k ▸ h.updTbl.updBrt
theorem Kept.rebuildFindings {b e stripe lost suspect} (h : Kept a s) : Kept a (rebuildFindings s b e stripe lost suspect) :=
  (h.forEach fun _ _ h' => h'.rowLost.markUnread).updEntry.forEach fun _ _ h' => h'.updBerth.raise
theorem Kept.execRebuildStripeComplete {e lostRows suspectRows energyNj actUs} (h : Kept a s) :
    Steps a (execRebuildStripeComplete e lostRows suspectRows energyNj actUs s) := by
  refine .next ?_
  split
  · split
    · refine .ite ?_ h
      split
      · exact h
      · next s1 k =>
        extract_lets s2 s3 s4 s5
        have hs2 : Kept a s2 := (h.recordRebuilt k).updSeg
        have hs5 : Kept a s5 := hs2.rebuildFindings.tallyBg.tallyBgEnergy.updEntry
        split
        · exact .ite hs5 (.ite hs5.queueRebuild (.ite hs5 hs5.switchMember))
        · exact hs5
    · exact h
  · exact h
theorem Kept.execCopySwitch {e} (h : Kept a s) : Steps a (execCopySwitch e s) := by
  unfold Machine.execCopySwitch
  refine .next ?_
  split
  · split
    · exact .ite h.switchMember h
    · exact h
  · exact h
theorem Kept.openSpare {x y} (h : Kept a s) (e : openSpare s x = some y) : Kept a y.2 := by
  unfold Machine.openSpare at e
  split at e
  · exact Option.some.inj e ▸ h
  · split at e
    · cases e
    · cases e
      dsimp only
      exact h.takeTracks.bumpGen.updTbl
theorem Kept.freeSpares (h : Kept a s) : Kept a (freeSpares s) := by
  unfold Machine.freeSpares
  extract_lets dead
  exact (h.forEach fun _ _ h' => h'.giveTracks).updTbl
theorem Kept.relocTaken {b j n} (h : Kept a s) : Kept a (relocTaken s b j n) := h.updRbld
theorem Kept.placeReloc {p berth member n h'} (h : Kept a s) : Kept a (placeReloc s p berth member n h') :=
  h.updTbl.updHeadRec.updHeadCtr
theorem Kept.execRelocation {berth member n} (h : Kept a s) : Steps a (execRelocation berth member n s) := by
  refine .next ?_
  split
  · exact h.relocTaken
  · split
    · exact h
    · refine .ite (.ite h.updRbld.relocTaken.addEntry ?_) h
      split
      · exact h
      · next p s1 e =>
        have hs1 : Kept a s1 := h.openSpare e
        exact .ite hs1.placeReloc.relocTaken.freeSpares.markUnread hs1.placeReloc.relocTaken.freeSpares
theorem Kept.queueReshape {r} (h : Kept a s) : Kept a (queueReshape s r) := by
  unfold Machine.queueReshape
  split
  · exact .ite (h.forEach fun _ _ h' => h'.queueOp) h
  · exact h
theorem Kept.reshapeStep {b} (h : Kept a s) : Kept a (reshapeStep s b) := by
  unfold Machine.reshapeStep
  split
  · exact .ite h h.updTbl.queueReshape
  · exact h
theorem Kept.takeReshape {r} (h : Kept a s) : Kept a (takeReshape s r) := by
  unfold Machine.takeReshape
  split
  · exact h
  · split
    · exact h
    · next e => exact (h.bindBerth e).updTbl.queueReshape
theorem Kept.fillReshapes (h : Kept a s) : Kept a (fillReshapes s) :=
  h.forEach fun _ _ h' => h'.forEach fun _ _ h'' => .ite h''.takeReshape h''
theorem Kept.settleSegs {nb stripes} (h : Kept a s) : Kept a (settleSegs s nb stripes) := by
  unfold Machine.settleSegs
  split
  · exact h
  · refine h.forEach fun s i h' => ?_
    dsimp only
    split
    · exact .ite h' h'.bumpGen.updSeg
    · exact h'
theorem Kept.pointTo {old nb} (h : Kept a s) : Kept a (pointTo s old nb) := h.updTbl.other
theorem Kept.execReshapeSwitch {berth} (h : Kept a s) : Steps a (execReshapeSwitch berth s) := by
  refine .next ?_
  split
  · split
    · refine .ite ?_ h
      extract_lets +onlyGivenNames s1 s2 s3 s5 s4
      have hs3 : Kept a s3 := (Kept.settleSegs h.updBerth).pointTo.releaseBerth.updTbl
      have hs4 : Kept a s4 := by
        refine .ite ?_ hs3
        split
        · exact hs3.raise.postDone
        · exact hs3.raise
      exact hs4.fillReshapes.reshapeEnd
    · exact h
  · exact h
theorem Kept.execShareWindow (h : Kept a s) : Steps a (execShareWindow s) :=
  .next (.ite (.ite h.updRbld.updCmds.fillReshapes.reshapeEnd h.updRbld.updCmds) h)
theorem Kept.takeCkpt {x} (h : Kept a s) (e : takeCkpt s x = some t) : Kept a t := by
  unfold Machine.takeCkpt at e
  split at e
  · cases e
  · obtain ⟨v, -, rfl⟩ := Option.map_eq_some_iff.1 e
    exact h.takeTracks.takeTracks
theorem Kept.moveCkpt {c} (h : Kept a s) : Kept a (moveCkpt s c) := by
  unfold Machine.moveCkpt
  refine .ite h ?_
  dsimp only
  split
  · exact h
  · next e =>
    obtain ⟨x, -, e1⟩ := Option.bind_eq_some_iff.1 e
    obtain ⟨s1, e2, e3⟩ := Option.map_eq_some_iff.1 e1
    cases e3
    exact ((h.takeCkpt e2).other.updNv (by exact fusesKept.refl _)).updBrt.updRbld.raise
theorem Kept.execCheckpointHeadMove (h : Kept a s) : Steps a (execCheckpointHeadMove s) :=
  .next (.ite h.moveCkpt.moveCkpt h)
theorem Kept.serveHead {h'} (h : Kept a s) : Kept a (serveHead s h') :=
  (h.forEach fun _ _ h' => h'.forEach fun _ _ h'' => h''.updBerth.dropChain).updTbl.updHeadRec.updWhead
theorem Kept.brtSetHead {head state} (h : Kept a s) : Kept a (brtSetHead head state s).st := by
  unfold Machine.brtSetHead
  split
  · exact h
  · split
    · exact h
    · exact .iteA (.iteA h h.serveHead) (.iteA h (.iteA h.declareHead h))
theorem Kept.execBrtSetHead {r head state} (h : Kept a s) : Steps a (execBrtSetHead r head state s) :=
  .next (h.serve fun _ h' => h'.brtSetHead)
theorem Kept.brtSetHealth {ps} (h : Kept a s) : Kept a (brtSetHealth ps s).st := h.setA (fun _ => h.updRbld)
theorem Kept.execBrtSetHealth {r ps} (h : Kept a s) : Steps a (execBrtSetHealth r ps s) :=
  .next (h.serve fun _ h' => h'.brtSetHealth)
theorem Kept.brtSetRebuild {ps} (h : Kept a s) : Kept a (brtSetRebuild ps s).st := h.setA (fun _ => h.updRbld)
theorem Kept.execBrtSetRebuild {r ps} (h : Kept a s) : Steps a (execBrtSetRebuild r ps s) :=
  .next (h.serve fun _ h' => h'.brtSetRebuild)
theorem Kept.brtReshape {r kind layout target} (h : Kept a s) : Kept a (brtReshape r kind layout target s).st := by
  unfold Machine.brtReshape
  split
  · refine .iteA h ?_
    split
    · exact h
    · exact .iteA h (.iteA h (h.updNv (by exact fusesKept.refl _)).updTbl.fillReshapes)
  · refine .iteA ?_ h
    split
    · exact h
    · refine .iteA h ?_
      split
      · exact h.noEligible
      · next e =>
        have hs := (h.startMove e).restartMoved
        dsimp only
        split
        · exact hs.queueReshape
        · exact hs
theorem Kept.execBrtReshape {r kind layout target} (h : Kept a s) : Steps a (execBrtReshape r kind layout target s) :=
  .next (h.serve fun _ h' => h'.brtReshape)
theorem Kept.brtGetRebuild {berth clear} (h : Kept a s) : Kept a (brtGetRebuild berth clear s).st := h.updRbld
theorem Kept.execBrtGetRebuild {r berth clear} (h : Kept a s) : Steps a (execBrtGetRebuild r berth clear s) :=
  .next (h.serve fun _ h' => h'.brtGetRebuild)
theorem Kept.brtGetLost {nsid start} (h : Kept a s) : Kept a (brtGetLost nsid start s).st := .iteA h h
theorem Kept.execBrtGetLost {r nsid start} (h : Kept a s) : Steps a (execBrtGetLost r nsid start s) :=
  .next (h.serve fun _ h' => h'.brtGetLost)
theorem Kept.brtGetReloc {index} (h : Kept a s) : Kept a (brtGetReloc index s).st := .iteA h h
theorem Kept.execBrtGetReloc {r index} (h : Kept a s) : Steps a (execBrtGetReloc r index s) :=
  .next (h.serve fun _ h' => h'.brtGetReloc)
theorem Kept.brtGetHead {head} (h : Kept a s) : Kept a (brtGetHead head s).st := by
  unfold Machine.brtGetHead
  split
  · exact h
  · exact h
theorem Kept.execBrtGetHead {r head} (h : Kept a s) : Steps a (execBrtGetHead r head s) :=
  .next (h.serve fun _ h' => h'.brtGetHead)

/-! ### Quay -/

theorem Kept.touchMoor {f qid} (h : Kept a s) : Kept a (touchMoor s f qid) := .ite h.updQuay h
theorem Kept.addHeld {x} (h : Kept a s) : Kept a (addHeld s x) := by
  unfold Machine.addHeld
  split
  · exact h.tallyF
  · exact h
theorem Kept.refresh (h : Kept a s) : Kept a (refresh s) := by
  unfold Machine.refresh
  extract_lets +onlyGivenNames now v held ended s1 f
  have hs1 : Kept a s1 := h.foldl fun _ _ h' => h'.addHeld
  exact hs1.updQuay
theorem Kept.rescale (h : Kept a s) : Kept a (rescale s) := .ite h.updQuay h
theorem Kept.chargeC {f} (h : Kept a s) : Kept a (chargeC s f) := h.updFn
theorem Kept.chargeB {f n} (h : Kept a s) : Kept a (chargeB s f n) := h.updFn
theorem Kept.violate {f qid value info} (h : Kept a s) : Kept a (violate s f qid value info) :=
  (Kept.ite h.logErr.updMoor h.logErr).asyncEvent
theorem Kept.applyDb {d} (h : Kept a s) : Kept a (applyDb s d) := by
  unfold Machine.applyDb
  split
  · exact h.violate
  · exact h.violate
  · exact h
  · exact h.updMoor.touchMoor.refresh
theorem Kept.arriveDb {d} (h : Kept a s) : Kept a (arriveDb s d) := .ite h.updQuay h.applyDb
theorem Kept.execSqTailDoorbell {f qid value} (h : Kept a s) : Steps a (execSqTailDoorbell f qid value s) :=
  .next (.ite h.arriveDb h)
theorem Kept.execCqHeadDoorbell {f qid value} (h : Kept a s) : Steps a (execCqHeadDoorbell f qid value s) :=
  .next (.ite h.arriveDb h)
theorem Kept.drainFifo {p} (h : Kept a s) : Kept a (drainFifo s p) := h.updQuay.foldl fun _ _ h => h.applyDb
theorem Kept.execDoorbellFifoApply {port} (h : Kept a s) : Steps a (execDoorbellFifoApply port s) :=
  .next (.ite h.drainFifo h)
theorem Kept.execCapWindow (h : Kept a s) : Steps a (execCapWindow s) := .next (.ite h.updQuay.refresh h)
theorem Kept.execTallyMinuteClose (h : Kept a s) : Steps a (execTallyMinuteClose s) :=
  .next (.ite ((h.foldl fun _ _ h => h.addHeld).updQuay) h)
theorem Kept.quayMoormode {fullNext} (h : Kept a s) : Kept a (quayMoormode fullNext s).st := by
  unfold Machine.quayMoormode
  split
  · exact h
  · exact (h.updQuay.updNv (by exact fusesKept.refl _)).okA
theorem Kept.execQuaySetMoormode {r fullNext} (h : Kept a s) : Steps a (execQuaySetMoormode r fullNext s) :=
  .next (h.serve fun _ h' => h'.quayMoormode)
theorem Kept.quayArb {ps} (h : Kept a s) : Kept a (quayArb ps s).st := h.setA (fun _ => h.updQuay)
theorem Kept.execQuaySetArb {r ps} (h : Kept a s) : Steps a (execQuaySetArb r ps s) :=
  .next (h.serve fun _ h' => h'.quayArb)
theorem Kept.quayAllot {func word} (h : Kept a s) : Kept a (quayAllot func word s).st := by
  unfold Machine.quayAllot
  split
  · exact h
  · exact .iteA h (.iteA h h.updFn.refresh)
theorem Kept.execQuaySetAllot {r func word} (h : Kept a s) : Steps a (execQuaySetAllot r func word s) :=
  .next (h.serve fun _ h' => h'.quayAllot)
theorem Kept.quayGetAllot {func} (h : Kept a s) : Kept a (quayGetAllot func s).st := by
  unfold Machine.quayGetAllot
  split
  · exact h
  · exact h
theorem Kept.execQuayGetAllot {r func} (h : Kept a s) : Steps a (execQuayGetAllot r func s) :=
  .next (h.serve fun _ h' => h'.quayGetAllot)
theorem Kept.quayAdmit {func ps} (h : Kept a s) : Kept a (quayAdmit func ps s).st := by
  unfold Machine.quayAdmit
  split
  · exact h
  · exact h.setA (fun _ => h.updQuay.updFn.refresh)
theorem Kept.execQuaySetAdmit {r func ps} (h : Kept a s) : Steps a (execQuaySetAdmit r func ps s) :=
  .next (h.serve fun _ h' => h'.quayAdmit)
theorem Kept.quayPower {r maxpwr} (h : Kept a s) : Kept a (quayPower r maxpwr s).st := by
  unfold Machine.quayPower
  split
  · exact h
  · split
    · exact h
    · exact h.updQuay.okA
theorem Kept.execQuaySetDrivePower {r maxpwr} (h : Kept a s) : Steps a (execQuaySetDrivePower r maxpwr s) :=
  .next (h.serve fun _ h' => h'.quayPower)
theorem Kept.quayMooring {func qid} (h : Kept a s) : Kept a (quayMooring func qid s).st := by
  unfold Machine.quayMooring
  split
  · exact h
  · split
    · exact h
    · split
      · exact h
      · exact h
theorem Kept.execQuayGetMooring {r func qid} (h : Kept a s) : Steps a (execQuayGetMooring r func qid s) :=
  .next (h.serve fun _ h' => h'.quayMooring)
theorem Kept.quayTag {tag} (h : Kept a s) : Kept a (quayTag tag s).st := by
  unfold Machine.quayTag
  split
  · exact h
  · exact h
theorem Kept.execQuayGetTag {r tag} (h : Kept a s) : Steps a (execQuayGetTag r tag s) :=
  .next (h.serve fun _ h' => h'.quayTag)
theorem Kept.tallyRead {func start count} (h : Kept a s) : Kept a (tallyRead func start count s).st := .iteA h (.iteA h h)
theorem Kept.execTallyRead {r func start count} (h : Kept a s) : Steps a (execTallyRead r func start count s) :=
  .next (h.serve fun _ h' => h'.tallyRead)
theorem Kept.tallyClear {func} (h : Kept a s) : Kept a (tallyClear func s).st := .iteA h h.updRing
theorem Kept.execTallyClear {r func} (h : Kept a s) : Steps a (execTallyClear r func s) :=
  .next (h.serve fun _ h' => h'.tallyClear)

/-! ### Life -/

theorem Kept.putZone {z} (h : Kept a s) : Kept a (putZone s z) := .ite h.updTbl (.ite h.updZone h.updTbl)
theorem Kept.openZone {n z st} (h : Kept a s) (e : openZone s n z st = .ok t) : Kept a t := by
  unfold Machine.openZone at e
  split at e
  · exact Except.ok.inj e ▸ h.putZone
  · split at e
    · cases e
    · exact Except.ok.inj e ▸ h.putZone
theorem Kept.bindZone {n no} (h : Kept a s) (e : bindZone s n no = .ok t) : Kept a t := by
  unfold Machine.bindZone at e
  dsimp only at e
  split at e
  · exact Except.ok.inj e ▸ h
  · split at e
    · next e1 => exact Except.ok.inj e ▸ (h.bindBerth e1).updZone
    · cases e
theorem Kept.takeRange {n no at_ len} (h : Kept a s) (e : takeRange s n no at_ len = .ok t) : Kept a t := by
  unfold Machine.takeRange at e
  dsimp only at e
  split_ifs at e
  all_goals
    split at e
    · cases e
    · next e1 =>
      split at e
      · cases e
      · next e2 => exact Except.ok.inj e ▸ ((h.openZone e1).bindZone e2).updZone
theorem Kept.dropStripes {b} (h : Kept a s) : Kept a (dropStripes s b) := by
  unfold Machine.dropStripes
  extract_lets gone bufs
  exact h.updBrt
theorem Kept.dropBerth {id} (h : Kept a s) : Kept a (dropBerth s id) := by
  unfold Machine.dropBerth
  split
  · exact h
  · exact (h.forEach fun _ _ h' => h'.chargeM).dropStripes.returnBlocks.releaseBerth
theorem Kept.releaseZone {z} (h : Kept a s) : Kept a (releaseZone s z) := by
  unfold Machine.releaseZone
  split
  · exact h
  · exact (h.forEach fun _ _ h => h.dropBerth).updTbl.dropBerth
theorem Kept.resetZone {z} (h : Kept a s) : Kept a (resetZone s z) := h.releaseZone.putZone
theorem Kept.destageFull {b st} (h : Kept a s) : Kept a (destageFull s b st) := by
  unfold Machine.destageFull
  split
  · exact .ite h.updBrt h
  · exact h
theorem Kept.finishZone {n z} (h : Kept a s) : Kept a (finishZone s n z) := by
  unfold Machine.finishZone
  extract_lets +onlyGivenNames s1
  have hs1 : Kept a s1 := h.putZone
  split
  · exact hs1
  · extract_lets per tail stripes id ids s2 s3
    have hs2 : Kept a s2 := hs1.forEach fun _ _ h' => h'.updBerth
    have hs3 : Kept a s3 := .ite hs2 hs2.updBrt
    exact hs3.forEach fun _ _ h => h.sealBerth
theorem Kept.installZoned {n c} (h : Kept a s) : Kept a (installZoned s n c) := by
  unfold Machine.installZoned
  extract_lets +onlyGivenNames z
  split
  · exact h
  · exact h.other.updBrt.destageFull
theorem Kept.uncharge {c} (h : Kept a s) : Kept a (uncharge s c) := h.chargeM.updBlock
theorem Kept.addBlock {c} (h : Kept a s) : Kept a (addBlock s c).2 := by
  unfold Machine.addBlock
  dsimp only
  exact h.other.updBrt
theorem Kept.swapInBuilders {old new} (h : Kept a s) : Kept a (swapInBuilders s old new) := h.updTbl
theorem Kept.installConv {n c} (h : Kept a s) : Kept a (installConv s n c) := by
  unfold Machine.installConv
  extract_lets +onlyGivenNames e cur
  clear_value cur
  split
  · split
    · exact h.uncharge.updBlock.addBlock.placeBlock.setChart
    · exact .ite h.uncharge.updBlock h.uncharge.updBlock.addBlock.swapInBuilders.setChart
  · extract_lets r s1
    have hr : Kept a r.2 := h.addBlock
    have hs1 : Kept a s1 := hr.placeBlock.setChart
    clear_value e
    split
    · exact hs1.liveDown
    · exact hs1
theorem Kept.installOne {n c} (h : Kept a s) : Kept a (installOne n s c) := .ite h.installZoned h.installConv
theorem Kept.deallocOne {n lba} (h : Kept a s) : Kept a (deallocOne n s lba) := by
  unfold Machine.deallocOne
  split
  · exact h
  · extract_lets s1
    have hs1 : Kept a s1 := h.setChart
    split
    · split
      · exact hs1.uncharge.updBlock
      · exact hs1
    · exact hs1.liveDown
theorem Kept.deallocRange {n x} (h : Kept a s) : Kept a (deallocRange s n x) := h.forEach fun _ _ h => h.deallocOne
theorem Kept.zeroFill {r} (h : Kept a s) : Kept a (zeroFill s r) := by
  unfold Machine.zeroFill
  split
  · split
    · exact h
    · split
      · exact h.forEach fun _ _ h' => h'.installOne
      · exact h
  · exact h
theorem Kept.addRefs {srcs} (h : Kept a s) : Kept a (addRefs s srcs) := h.forEach fun _ _ h' => h'.updBlock
theorem Kept.dropRefs {srcs} (h : Kept a s) : Kept a (dropRefs s srcs) := h.forEach fun _ _ h' => h'.updBlock.other
theorem Kept.endRead {r} (h : Kept a s) : Kept a (endRead s r) := by
  unfold Machine.endRead
  split
  · exact h.finish
  · extract_lets x src s1 s2
    have hs1 : Kept a s1 := h.dropRefs.other
    have hs2 : Kept a s2 := hs1.updTag
    exact .ite hs2.finish (Kept.finish (.ite hs2 hs2.commitTag.sendData))
theorem Kept.endReadIfDone {t'} (h : Kept a s) : Kept a (endReadIfDone s t') := by
  unfold Machine.endReadIfDone
  split
  · exact .ite h.endRead h
  · exact h
theorem Kept.withdrawOps {t'} (h : Kept a s) : Kept a (withdrawOps s t') := h.updCmds
theorem Kept.stopWork {r} (h : Kept a s) : Kept a (stopWork s r) := h.withdrawOps.zeroFill.dropRefs.updBrt.updTag
theorem Kept.releaseTag {t'} (h : Kept a s) : Kept a (releaseTag s t') := h.updCmds
theorem Kept.countPosted {r} (h : Kept a s) : Kept a (countPosted s r) := h.updMoor.updFn
theorem Kept.endTag {t'} (h : Kept a s) : Kept a (endTag s t') := by
  unfold Machine.endTag
  split
  · exact h.stopWork.releaseTag
  · exact h
theorem Kept.sweep {p} (h : Kept a s) : Kept a (sweep s p) := h.updCmds

/-! ### Flow -/

theorem Kept.knowCmd {r} (h : Kept a s) : Kept a (knowCmd s r) := h.chargeB.chargeM.updTag.rescale
theorem Kept.execSqEntryReturn {c} (h : Kept a s) : Steps a (execSqEntryReturn c s) := by
  unfold Machine.execSqEntryReturn
  refine .next ?_
  split
  · exact h
  · split
    · extract_lets +onlyGivenNames s1
      have hs1 : Kept a s1 := h.updQuay
      split
      · exact hs1
      · exact (Kept.ite hs1.updTag.knowCmd hs1.updTag.knowCmd.finish).refresh
    · exact h
theorem Kept.fetchData {r} (h : Kept a s) : Kept a (fetchData s r) := by
  unfold Machine.fetchData
  extract_lets +onlyGivenNames n
  split
  · exact h
  · exact h.updTag
theorem Kept.startWrite {r} (h : Kept a s) : Kept a (startWrite s r) := .ite h.updBrt.updTag h.fetchData
theorem Kept.releaseHeld {ts} (h : Kept a s) : Kept a (releaseHeld ts s) := by
  induction ts generalizing s with
  | nil => exact h
  | cons t ts ih =>
    unfold Machine.releaseHeld
    split
    · exact ih h
    · exact .ite (ih h) (.ite h (ih h.updBrt.fetchData))
theorem Kept.execHeldWriteRelease (h : Kept a s) : Steps a (execHeldWriteRelease s) := .next (.ite h.releaseHeld h)
theorem Kept.failWrite {r st} (h : Kept a s) : Kept a (failWrite s r st) := h.stopWork.finish
theorem Kept.execHostDataReceived {t' data pi poisoned} (h : Kept a s) :
    Steps a (execHostDataReceived t' data pi poisoned s) := by
  unfold Machine.execHostDataReceived
  refine .next ?_
  split
  · extract_lets n m
    split
    · split
      · exact h.failWrite
      · split
        · exact h
        · split
          · exact h.failWrite
          · exact h.updTag
    · exact h
  · exact h
theorem Kept.execWriteIndexAck {t'} (h : Kept a s) : Steps a (execWriteIndexAck t' s) := by
  unfold Machine.execWriteIndexAck
  refine .next ?_
  split
  · extract_lets +onlyGivenNames o all
    split
    · split
      · exact h
      · extract_lets s1
        have hs1 : Kept a s1 := h.updTag
        split
        · exact (hs1.forEach fun _ _ h' => h'.deallocRange).finishOk
        · exact .ite h.noEligible.finish ((hs1.forEach fun _ _ h => h.installOne).finishOk)
    · exact h
  · exact h
theorem Kept.tallyPost {r ok} (h : Kept a s) : Kept a (tallyPost s r ok) := by
  unfold Machine.tallyPost
  refine .ite h ?_
  extract_lets o bytes s1
  have hs1 : Kept a s1 := h.tallyF
  refine .ite hs1 ?_
  clear_value o
  split
  · exact hs1.tallyF
  · exact hs1.tallyF
  · exact hs1.tallyF
  · exact hs1
theorem Kept.postCqe {r m st} (h : Kept a s) : Kept a (postCqe s r m st) :=
  .ite (.ite h.emit.touchMoor.updMoor.emit h.emit.touchMoor.updMoor) ((Kept.ite h.emit.touchMoor.updMoor.emit
      h.emit.touchMoor.updMoor).logErr)
theorem Kept.endSwept {r} (h : Kept a s) : Kept a (endSwept s r) := h.updFn.releaseTag
theorem Kept.endTasks (h : Kept a s) : Kept a (endTasks s) :=
  (h.updCmds.forEach fun _ _ h => h.endSwept).forEach fun _ _ h' => h'.emit
theorem Kept.execCompletionPost {t'} (h : Kept a s) : Steps a (execCompletionPost t' s) := by
  refine .next ?_
  split
  · next r _ =>
    split
    · refine .ite ?_ h
      extract_lets done
      have hd {s} (h : Kept a s) : Kept a (done s) := h.tallyPost.countPosted.releaseTag.endTasks.refresh
      refine .ite (.ite h h.releaseTag.refresh) (.ite (hd h.emit) ?_)
      split
      · exact .ite (hd h.postCqe) h
      · exact h
    · exact h
  · exact h
theorem Kept.execPilotEntry {a'} (h : Kept a s) : Steps a (execPilotEntry a' s) := .next (.ite h.updCmds h)
theorem Kept.giveBlocks {o b t'} (h : Kept a s) : Kept a (giveBlocks s o b t') := h.updTag
theorem Kept.rehome {a' o} (h : Kept a s) : Kept a (rehome s a' o) := by
  unfold Machine.rehome
  extract_lets s1
  have hs1 : Kept a s1 := h.updCmds
  split
  · exact hs1
  · split
    · exact hs1.queueOp
    · split
      · exact hs1.giveBlocks.endReadIfDone
      · exact hs1
theorem Kept.execPilotDispatch {a' costs} (h : Kept a s) : Steps a (execPilotDispatch a' costs s) := by
  unfold Machine.execPilotDispatch
  refine .next ?_
  split
  · extract_lets +onlyGivenNames s1 p
    have hs1 : Kept a s1 := h.forEach fun _ _ h' => h'.rehome
    split
    · exact hs1
    · extract_lets tw go s2
      have hs2 : Kept a s2 := hs1.updCmds
      split
      · exact .ite hs2.commitTag hs2
      · exact hs2
  · exact h
theorem Kept.setRes {a' id k st blk} (h : Kept a s) : Kept a (setRes s a' id k st blk) := h.updOp
theorem Kept.parityPlace {a' o b k row} (h : Kept a s) : Kept a (parityPlace s a' o b k row) := by
  unfold Machine.parityPlace
  extract_lets +onlyGivenNames loc
  split
  · extract_lets psa gen blk s1 s2
    have hs1 : Kept a s1 := h.setRes
    have hs2 : Kept a s2 := by
      unfold s2
      split
      · exact hs1.updChn.pushRes
      · exact hs1
    exact .ite hs2.wantReloc hs2
  · extract_lets gone s1
    have hs1 : Kept a s1 := .ite h.rowLost h
    split
    · exact hs1.storeRec
    · exact hs1.setRes
theorem Kept.settlePlace {a' id b rows k} (h : Kept a s) : Kept a (settlePlace a' id b rows s k) := by
  unfold Machine.settlePlace
  split
  · exact h
  · extract_lets +onlyGivenNames row
    clear_value row
    split
    · exact .ite h.parityPlace h
    · split
      · refine .ite (.ite h.updBrt.setRes.raise ?_) h
        split
        · exact h.setRes.parityPlace
        · exact h.setRes
      · exact h
    · exact h
theorem Kept.noteUnread {a' id k} (h : Kept a s) : Kept a (noteUnread s a' id k) := by
  unfold Machine.noteUnread
  split
  · split
    · exact .ite h.setRes h
    · exact h
  · exact h
theorem Kept.deliverPlace {a' id k} (h : Kept a s) : Kept a (deliverPlace s a' id k) := by
  unfold Machine.deliverPlace
  split
  · exact h
  · split
    · extract_lets +onlyGivenNames i
      split
      · split
        · extract_lets s1
          have hs1 : Kept a s1 := h.updTag
          split
          · exact .ite hs1 hs1.commitTag
          · exact hs1
        · exact h
      · exact h
    · exact h
theorem Kept.execSectorResultPost {m} (h : Kept a s) : Steps a (execSectorResultPost m s) := by
  unfold Machine.execSectorResultPost
  refine .next ?_
  split
  · exact .ite (.ite h.postResult.noteUnread.deliverPlace h.postResult) h
  · exact h
theorem Kept.chargeOp {o us} (h : Kept a s) : Kept a (chargeOp s o us) := by
  unfold Machine.chargeOp
  refine .ite ?_ (.ite h h.tallyBg)
  extract_lets r isVer s1
  have hs1 : Kept a s1 := h.chargeUs.tallyF
  clear_value r
  cases r with
  | some r => exact hs1.chargeM.updTag
  | none => exact hs1
theorem Kept.backOp {o b} (h : Kept a s) : Kept a (backOp s o b) :=
  .ite (h.forEach fun _ _ h' => h'.dredgeMove) (.ite h.reshapeStep h)
theorem Kept.endOp {a' o b} (h : Kept a s) : Kept a (endOp s a' o b) := by
  unfold Machine.endOp
  extract_lets +onlyGivenNames us s1 mine src s2
  have hs1 : Kept a s1 := h.chargeOp.updCmds
  have hs2 : Kept a s2 := hs1.other.refresh
  refine .ite hs2.backOp ?_
  split
  · exact hs2
  · extract_lets s3
    have hs3 : Kept a s3 := hs2.giveBlocks
    split
    · exact (Kept.ite hs3.commitTag hs3).endReadIfDone
    · exact hs3
theorem Kept.execMediaOperationEnd {a' rows} (h : Kept a s) : Steps a (execMediaOperationEnd a' rows s) := by
  unfold Machine.execMediaOperationEnd
  refine .next ?_
  split
  · exact h
  · split
    · exact h
    · split
      · exact h.updCmds
      · split
        · split
          · exact h.endOp
          · extract_lets s1
            have hs1 : Kept a s1 := .ite h (h.forEach fun _ _ h => h.settlePlace)
            split
            · exact .ite hs1.endOp hs1
            · exact hs1
        · exact h
theorem Kept.execSweptCommandEnd {t'} (h : Kept a s) : Steps a (execSweptCommandEnd t' s) := by
  unfold Machine.execSweptCommandEnd
  refine .next ?_
  split
  · exact .ite (.ite h.stopWork.finish.updTag.endTasks h.stopWork.finish) h
  · exact h
theorem Kept.execDeleteSqComplete {t'} (h : Kept a s) : Steps a (execDeleteSqComplete t' s) := by
  unfold Machine.execDeleteSqComplete
  refine .next ?_
  split
  · split
    · exact .ite h.updCmds.updMoor.finish h
    · exact h
  · exact h
theorem Kept.poisonMoor {f qid} (h : Kept a s) : Kept a (poisonMoor s f qid) :=
  h.updMoor.violate.report.updQuay.forEach fun _ _ h' => h'.logErr.stopWork.countPosted.releaseTag
theorem Kept.execMooringFill {f qid poison} (h : Kept a s) : Steps a (execMooringFill f qid poison s) := by
  unfold Machine.execMooringFill
  refine .next ?_
  split
  · exact .ite ((Kept.ite h.touchMoor.poisonMoor h.touchMoor).drainFifo.refresh) h
  · exact h
theorem Kept.endCommands {f} (h : Kept a s) : Kept a (endCommands s f) :=
  (h.forEach fun _ _ h => h.endTag).updCmds.other.updQuay.updFn
theorem Kept.clearController {f} (h : Kept a s) : Kept a (clearController s f) := h.endCommands.updQuay.updFn.refresh
theorem Kept.reinitMbx {mb} (h : Kept a s) : Kept a (reinitMbx s mb) := h.updMbx fun _ _ => rfl
theorem Kept.execControllerEnable {f ams asq acq asqs acqs} (h : Kept a s) :
    Steps a (execControllerEnable f ams asq acq asqs acqs s) :=
  .next (.ite h (.ite h.updFn (.ite h.updFn.updQuay.touchMoor.refresh h)))
theorem Kept.execControllerReset {f} (h : Kept a s) : Steps a (execControllerReset f s) := .next (.ite h.clearController h)
theorem Kept.vfsOff {pf} (h : Kept a s) : Kept a (vfsOff s pf) := by
  unfold Machine.vfsOff
  extract_lets off
  exact h.updQuay
theorem Kept.resetFunction {f} (h : Kept a s) : Kept a (resetFunction s f) :=
  .ite ((h.forEach fun _ _ h => h.clearController).vfsOff.reinitMbx) h.clearController
theorem Kept.execFunctionLevelReset {f} (h : Kept a s) : Steps a (execFunctionLevelReset f s) :=
  .next (.ite h.resetFunction h)
theorem Kept.resetPort {port} (h : Kept a s) : Kept a (resetPort s port) := h.forEach fun _ _ h => h.resetFunction
theorem Kept.execHotReset {port} (h : Kept a s) : Steps a (execHotReset port s) := .next (.ite h.resetPort h)
theorem Kept.execPerstAssert {port} (h : Kept a s) : Steps a (execPerstAssert port s) :=
  .next (.ite h.updQuay.resetPort h.updQuay)
theorem Kept.execPerstDeassert {port} (h : Kept a s) : Steps a (execPerstDeassert port s) := .next h.updQuay
theorem Kept.execNvmSubsystemReset (h : Kept a s) : Steps a (execNvmSubsystemReset s) :=
  .next (.ite h.other.startBreakwater h)
theorem Kept.sweepFor {f nexus code p} (h : Kept a s) : Kept a (sweepFor s f nexus code p) := h.sweep.updCmds
theorem Kept.execItNexusLoss {port nexus} (h : Kept a s) : Steps a (execItNexusLoss port nexus s) :=
  .next (.ite h.reinitMbx.sweepFor.endTasks h)

/-! ### Io -/

theorem Kept.admitCmd {r chk act} (h : Kept a s) (ha : ∀ s r, Kept a s → Kept a (act s r)) : Kept a (admitCmd s r chk
    act) := by
  unfold Machine.admitCmd
  split
  · exact h.finish
  · exact .ite h.updTag (ha _ _ h)
theorem Kept.readAct {r} (h : Kept a s) : Kept a (readAct s r) := by
  unfold Machine.readAct
  split
  · exact h.finish
  · extract_lets srcs ops s1 s2 early
    have hs1 : Kept a s1 := h.addRefs.updTag
    have hs2 : Kept a s2 := hs1.forEach fun _ _ h' => h'.queueOp
    exact (Kept.ite hs2.commitTag hs2).endReadIfDone
theorem Kept.zonedAct {n r} (h : Kept a s) : Kept a (zonedAct s n r) := by
  unfold Machine.zonedAct
  dsimp only
  split
  · exact Kept.finish (.ite h.noEligible h)
  · next e => exact (h.takeRange e).updTag.startWrite
theorem Kept.writeAct {r} (h : Kept a s) : Kept a (writeAct s r) := by
  unfold Machine.writeAct
  split
  · exact h.finish
  · split
    · exact h.finishOk
    · split
      · exact h.zonedAct
      · split
        · exact h.updTag
        · exact h.fetchData
        · exact h.startWrite
theorem Kept.zoneOpenOne {n z} (h : Kept a s) (e : zoneOpenOne s n z = .ok t) : Kept a t := by
  unfold Machine.zoneOpenOne at e
  split at e
  · exact h.openZone e
  · exact h.openZone e
  · exact h.openZone e
  · exact Except.ok.inj e ▸ h
  · cases e
theorem Kept.zoneCloseOne {z} (h : Kept a s) (e : zoneCloseOne s z = .ok t) : Kept a t := by
  unfold Machine.zoneCloseOne at e
  split at e
  · exact Except.ok.inj e ▸ h.putZone
  · exact Except.ok.inj e ▸ h.putZone
  · exact Except.ok.inj e ▸ h
  · cases e
theorem Kept.zoneFinishOne {n z} (h : Kept a s) (e : zoneFinishOne s n z = .ok t) : Kept a t := by
  unfold Machine.zoneFinishOne at e
  split at e
  · cases e
  · exact Except.ok.inj e ▸ h
  · exact Except.ok.inj e ▸ h.finishZone
theorem Kept.zoneResetOne {z} (h : Kept a s) (e : zoneResetOne s z = .ok t) : Kept a t := by
  unfold Machine.zoneResetOne at e
  split at e
  · cases e
  · exact Except.ok.inj e ▸ h
  · exact Except.ok.inj e ▸ h.resetZone
theorem Kept.zoneOne {act n z} (h : Kept a s) (e : zoneOne act n s z = .ok t) : Kept a t := by
  unfold Machine.zoneOne at e
  split_ifs at e
  · exact h.zoneCloseOne e
  · exact h.zoneFinishOne e
  · exact h.zoneOpenOne e
  · exact h.zoneResetOne e
theorem Kept.zonesUnder {act n zs} (h : Kept a s) (e : zonesUnder act n zs s = .ok t) : Kept a t := by
  induction zs generalizing s with
  | nil => exact Except.ok.inj e ▸ h
  | cons z zs ih =>
    unfold Machine.zonesUnder at e
    split at e
    · next e1 => exact ih (h.zoneOne e1) e
    · cases e
theorem Kept.zoneAct {r} (h : Kept a s) : Kept a (zoneAct s r) := by
  unfold Machine.zoneAct
  split
  · exact h.finish
  · refine .ite h.finish ?_
    split
    · next e => exact (h.zonesUnder e).finishOk
    · exact h.finish
theorem Kept.reportAct {r} (h : Kept a s) : Kept a (reportAct s r) := by
  unfold Machine.reportAct
  split
  · exact h.finish
  · exact .ite h.finish (.ite h.finish (.ite h.finish h.sendData.finishOk))
theorem Kept.putRsv {x} (h : Kept a s) : Kept a (putRsv s x) := h.updNv (by exact fusesKept.refl _)
theorem Kept.rsvNotify {was now who} (h : Kept a s) : Kept a (rsvNotify s was now who) :=
  .ite h (h.forEach fun _ _ h' => by
    split
    · exact .ite h' h'.updFn.asyncEvent
    · exact h')
theorem Kept.rsvEnd {r x e} (h : Kept a s) : Kept a (rsvEnd s r x e) := by
  unfold Machine.rsvEnd
  split
  · exact h.finish
  · exact h.putRsv.rsvNotify.finishOk
theorem Kept.rsvAct {r} (h : Kept a s) : Kept a (rsvAct s r) :=
  .ite h.rsvEnd (.ite h.rsvEnd (.ite h.rsvEnd h.sendData.finishOk))
theorem Kept.ioAct {r} (h : Kept a s) : Kept a (ioAct s r) := by
  unfold Machine.ioAct
  split
  · exact h.readAct
  · exact h.readAct
  · exact h.writeAct
  · exact h.writeAct
  · exact h.writeAct
  · exact h.writeAct
  · exact h.zoneAct
  · exact h.finishOk
  · exact .ite h.reportAct h.rsvAct
theorem Kept.ioAdmit {r} (h : Kept a s) : Kept a (ioAdmit s r) :=
  .ite h.finishOk (h.admitCmd (fun _ _ h' => .ite h'.finishOk h'.ioAct))
theorem Kept.ioRow {t' p} (h : Kept a s) : Kept a (ioRow s t' p) := by
  unfold Machine.ioRow
  split
  · exact .ite h.ioAdmit h
  · exact h
theorem Kept.execRead {t'} (h : Kept a s) : Steps a (execRead t' s) := .next h.ioRow
theorem Kept.execWrite {t'} (h : Kept a s) : Steps a (execWrite t' s) := .next h.ioRow
theorem Kept.execFlush {t'} (h : Kept a s) : Steps a (execFlush t' s) := .next h.ioRow
theorem Kept.execWriteZeroes {t'} (h : Kept a s) : Steps a (execWriteZeroes t' s) := .next h.ioRow
theorem Kept.execDatasetManagement {t'} (h : Kept a s) : Steps a (execDatasetManagement t' s) := .next h.ioRow
theorem Kept.execVerify {t'} (h : Kept a s) : Steps a (execVerify t' s) := .next h.ioRow
theorem Kept.execReservationRegister {t'} (h : Kept a s) : Steps a (execReservationRegister t' s) := .next h.ioRow
theorem Kept.execReservationReport {t'} (h : Kept a s) : Steps a (execReservationReport t' s) := .next h.ioRow
theorem Kept.execReservationAcquire {t'} (h : Kept a s) : Steps a (execReservationAcquire t' s) := .next h.ioRow
theorem Kept.execReservationRelease {t'} (h : Kept a s) : Steps a (execReservationRelease t' s) := .next h.ioRow
theorem Kept.execZoneAppend {t'} (h : Kept a s) : Steps a (execZoneAppend t' s) := .next h.ioRow
theorem Kept.execZoneOpen {t'} (h : Kept a s) : Steps a (execZoneOpen t' s) := .next h.ioRow
theorem Kept.execZoneClose {t'} (h : Kept a s) : Steps a (execZoneClose t' s) := .next h.ioRow
theorem Kept.execZoneFinish {t'} (h : Kept a s) : Steps a (execZoneFinish t' s) := .next h.ioRow
theorem Kept.execZoneReset {t'} (h : Kept a s) : Steps a (execZoneReset t' s) := .next h.ioRow
theorem Kept.execZoneOffline {t'} (h : Kept a s) : Steps a (execZoneOffline t' s) := .next h.ioRow
theorem Kept.execReportZones {t'} (h : Kept a s) : Steps a (execReportZones t' s) := .next h.ioRow

/-! ### Keys -/

theorem Kept.draw {n} (h : Kept a s) : Kept a (draw s n).2 := h.other
theorem Kept.loadSlot {nsid mek} (h : Kept a s) : Kept a (loadSlot s nsid mek) := h.updSec
theorem Kept.clearSlot {nsid} (h : Kept a s) : Kept a (clearSlot s nsid) := h.updSec
theorem Kept.newKey {nsid pending} (h : Kept a s) : Kept a (newKey s nsid pending) := h.draw.putKey.loadSlot
theorem Kept.clearNs {n} (h : Kept a s) : Kept a (clearNs s n) := .ite (h.forEach fun _ _ h => h.resetZone) h.deallocRange
theorem Kept.cryptoErase {n} (h : Kept a s) : Kept a (cryptoErase s n) := h.newKey.raise.clearNs

/-! ### Admin -/

theorem Kept.sheet {n fs} (h : Kept a s) : Kept a (sheet s n fs).2 := h.other
theorem Kept.adminAdmit {r act} (h : Kept a s) (ha : ∀ s r, Kept a s → Kept a (act s r)) : Kept a (adminAdmit s r act) :=
  .ite h.updTag (ha _ _ h)
theorem Kept.adminRow {t' p act} (h : Kept a s) (ha : ∀ s r, Kept a s → Kept a (act s r)) : Kept a (adminRow s t' p act)
    := by
  unfold Machine.adminRow
  split
  · exact .ite (h.adminAdmit ha) h
  · exact h
theorem Kept.createCqAct {r} (h : Kept a s) : Kept a (createCqAct s r) :=
  .ite h.finish (.ite h.finish (.ite h.finish (.ite h.finish (.ite h.finish h.updQuay.touchMoor.finishOk))))
theorem Kept.createSqAct {r} (h : Kept a s) : Kept a (createSqAct s r) :=
  .ite h.finish (.ite h.finish (.ite h.finish (.ite h.finish (.ite h.finish h.updMoor.touchMoor.finishOk))))
theorem Kept.deleteSqAct {r} (h : Kept a s) : Kept a (deleteSqAct s r) := by
  unfold Machine.deleteSqAct
  extract_lets +onlyGivenNames qid
  split
  · exact .ite h.finish h.touchMoor.updMoor.sweep.updCmds.updTag.refresh
  · exact h.finish
theorem Kept.deleteCqAct {r} (h : Kept a s) : Kept a (deleteCqAct s r) := by
  unfold Machine.deleteCqAct
  extract_lets +onlyGivenNames qid
  split
  · exact .ite h.finish (.ite h.finish h.updQuay.finishOk)
  · exact h.finish
/-- Data and a state that keeps what is kept, or a status. -/
def Gives (a : State) (o : Except St (List Byte × State)) : Prop := ∀ x, o = .ok x → Kept a x.2
theorem Gives.ok {x} (h : Kept a x.2) : Gives a (.ok x) := fun _ e => Except.ok.inj e ▸ h
theorem Gives.error {e} : Gives a (.error e) := fun _ e => by cases e
theorem Gives.ite {c : Prop} [Decidable c] {o p} (h : Gives a o) (k : Gives a p) : Gives a (if c then o else p) := by
  split <;> assumption
theorem Kept.identifyOf {r} (h : Kept a s) : Gives a (identifyOf s r) := by
  unfold Machine.identifyOf
  extract_lets +onlyGivenNames c cns cnt csi n mine whole sheetE
  have hw {bs} : Gives a (whole bs) := .ok h
  have hs {fs} : Gives a (sheetE fs) := .ok h.sheet
  clear_value whole sheetE n
  cases n with
  | none =>
    refine .ite (.ite hs .error) (.ite hs (.ite hw (.ite .error (.ite .error (.ite (.ite hs (.ite hs .error)) (.ite hw
        ?_))))))
    exact .ite .error (.ite hw (.ite .error (.ite hw (.ite (.ite hs .error) (.ite (.ite hw .error) (.ite hw .error))))))
  | some n =>
    refine .ite (.ite hs hw) (.ite hs (.ite hw (.ite hw (.ite (.ite (.ite hs hs) .error) (.ite (.ite hs (.ite hs
        .error)) (.ite hw ?_))))))
    exact .ite hs (.ite hw (.ite hw (.ite hw (.ite (.ite hs .error) (.ite (.ite hw .error) (.ite hw .error))))))
theorem Kept.identifyAct {r} (h : Kept a s) : Kept a (identifyAct s r) := by
  unfold Machine.identifyAct
  split
  · next e => exact (h.identifyOf _ e).sendData.finishOk
  · exact h.finish
theorem Kept.consumeLog {f lid nsid} (h : Kept a s) : Kept a (consumeLog s f lid nsid) :=
  .ite h.logRead (.ite h.logRead (.ite h.logRead (.ite h.updFn.logRead h)))
theorem Kept.logOf {r x} (h : Kept a s) (e : logOf s r = .ok x) : Kept a x.2 := by
  unfold Machine.logOf at e
  dsimp only at e
  have hp {bs : List Byte} (e : (Except.ok (bs, s) : Except St (List Byte × State)) = .ok x) : Kept a x.2 := by
    cases e
    exact h
  split at e
  · exact hp e
  split at e
  · obtain rfl := Except.ok.inj e
    exact h.sheet
  split at e
  · exact hp e
  split at e
  · exact hp e
  split at e
  · exact hp e
  split at e
  · exact hp e
  split at e
  · cases e
    exact h.updFn
  split at e
  · split at e
    · split at e
      · exact hp e
      · cases e
    · cases e
  · cases e
theorem Kept.sendLog {r page} (h : Kept a s) : Kept a (sendLog s r page) := .ite h.finish h.sendData.finishOk
theorem Kept.logAct {r} (h : Kept a s) : Kept a (logAct s r) := by
  unfold Machine.logAct
  split
  · exact h.finish
  · next e => exact Kept.sendLog (.ite (h.logOf e) (h.logOf e).consumeLog)
theorem Kept.tallyLogAct {r} (h : Kept a s) : Kept a (tallyLogAct s r) := by
  unfold Machine.tallyLogAct
  split
  · exact h.sendLog
  · exact h.finish
theorem Kept.putFeat {f fid key v} (h : Kept a s) : Kept a (putFeat s f fid key v) := h.updFn
theorem Kept.putTler {f nsid v} (h : Kept a s) : Kept a (putTler s f nsid v) := h.updQuay.putFeat
theorem Kept.setPerNs {r f} (h : Kept a s) (hf : ∀ s n, Kept a s → Kept a (f s n)) : Kept a (setPerNs s r f) := by
  unfold Machine.setPerNs
  split
  · exact h.finish
  · exact (h.forEach hf).finishOk
theorem Kept.setFeatAct {r} (h : Kept a s) : Kept a (setFeatAct s r) := by
  unfold Machine.setFeatAct
  extract_lets c fid v f
  have hp {k n v d} : Kept a (Machine.finishOk (Machine.putFeat s f k n v) r.tag d) := h.putFeat.finishOk
  have hn {g} (hg : ∀ s n, Kept a s → Kept a (g s n)) : Kept a (Machine.setPerNs s r g) := h.setPerNs hg
  refine .ite h.finish (.ite h.putFeat.updFn.finishOk (.ite (.ite hp h.finish) (.ite hp (.ite (hn fun _ _ h'
      => h'.putTler) ?_))))
  refine .ite (.ite h.finish (.ite h.finish h.putFeat.finishOk)) (.ite hp (.ite (.ite hp h.finish) (.ite hp (.ite hp ?_))))
  exact .ite (hn fun _ _ h' => h'.putFeat) (.ite (hn fun _ _ h' => h'.putRsv) h.finish)
theorem Kept.setTimeAct {r} (h : Kept a s) : Kept a (setTimeAct s r) := .ite h.finish h.raise.other.updQuay.finishOk
theorem Kept.getFeatAct {r} (h : Kept a s) : Kept a (getFeatAct s r) :=
  .ite h.finish (.ite h.finish (.ite h.finishOk (.ite h.other.sendData.finishOk (.ite h.sendData.finishOk
      h.other.finishOk))))
theorem Kept.aerAct {r} (h : Kept a s) : Kept a (aerAct s r) := .ite h.finish h.commitTag.parkAer
theorem Kept.abortAct {r} (h : Kept a s) : Kept a (abortAct s r) := h.finishOk
theorem Kept.nsCreateAct {r} (h : Kept a s) : Kept a (nsCreateAct s r) := by
  unfold Machine.nsCreateAct
  split
  · exact h.finish
  · exact h.finish
  · exact (h.updNv (by exact fusesKept.refl _)).newKey.finishOk
theorem Kept.deleteNs {n} (h : Kept a s) : Kept a (deleteNs s n) := by
  unfold Machine.deleteNs
  extract_lets s1
  have hs1 : Kept a s1 := h.cryptoErase.clearSlot
  exact hs1.updNv (by exact fusesKept.refl _)
theorem Kept.nsDeleteAct {r} (h : Kept a s) : Kept a (nsDeleteAct s r) := by
  unfold Machine.nsDeleteAct
  split
  · exact h.finish
  · split
    · exact .ite h.finishOk h.finish
    · exact (h.forEach fun _ _ h => h.deleteNs).finishOk
theorem Kept.putAttached {nsid fs} (h : Kept a s) : Kept a (putAttached s nsid fs) := h.updNv (by exact fusesKept.refl _)
theorem Kept.attachAct {r} (h : Kept a s) : Kept a (attachAct s r) := by
  unfold Machine.attachAct
  split
  · exact h.finish
  · exact .ite h.finish (.ite h.finish (.ite h.finish h.putAttached.finishOk))
theorem Kept.detachAct {r} (h : Kept a s) : Kept a (detachAct s r) := by
  unfold Machine.detachAct
  split
  · exact h.finish
  · exact .ite h.finish (.ite h.finish h.putAttached.finishOk)
theorem Kept.formatNs {lbaf pi ext crypto n} (h : Kept a s) : Kept a (formatNs lbaf pi ext crypto s n) := by
  unfold Machine.formatNs
  extract_lets s1
  have hs1 : Kept a s1 := .ite h.cryptoErase h.clearNs
  exact hs1.updNv (by exact fusesKept.refl _)
theorem Kept.formatAct {r} (h : Kept a s) : Kept a (formatAct s r) := by
  unfold Machine.formatAct
  extract_lets c lbaf pi ses
  split
  · exact h.finish
  · exact .ite h.finish (.ite h.finish (.ite h.finish (.ite h.finish ((h.forEach fun _ _ h => h.formatNs).finishOk))))
theorem Kept.sanitizeAct {r} (h : Kept a s) : Kept a (sanitizeAct s r) :=
  .ite h.finish ((h.forEach fun _ _ h => h.cryptoErase).finishOk)
theorem Kept.vfOffline {v} (h : Kept a s) : Kept a (vfOffline s v) := h.clearController.updFn
theorem Kept.virtAct {r} (h : Kept a s) : Kept a (virtAct s r) := by
  unfold Machine.virtAct
  extract_lets +onlyGivenNames c act rt id nr
  split
  · exact .ite h.finish (.ite h.finish (.ite h.finishOk h.finish))
  · split
    · exact h.finish
    · extract_lets x a0
      split
      · exact h.vfOffline.finishOk
      · split
        · exact .ite h.finish (.ite h.finish (.ite (.ite h.finish h.updFn.finishOk) (.ite h.finish h.updFn.finishOk)))
        · exact .ite (.ite h.finish h.updFn.finishOk) h.finish
theorem Kept.lbaStatusAct {r} (h : Kept a s) : Kept a (lbaStatusAct s r) := by
  unfold Machine.lbaStatusAct
  extract_lets +onlyGivenNames c
  split
  · exact h.finish
  · exact .ite h.finish (.ite h.finish h.sendData.finishOk)
theorem Kept.selfTestAct {r} (h : Kept a s) : Kept a (selfTestAct s r) :=
  .ite h.takeFree.updQuay.finishOk (.ite h.finishOk h.finish)
theorem Kept.putDownload {ofs bs} (h : Kept a s) : Kept a (putDownload s ofs bs) :=
  h.updFw fun hw => smWriteBytes_wf _ _ hw
theorem Kept.downloadAct {r} (h : Kept a s) : Kept a (downloadAct s r) := .ite h.finish h.putDownload.finishOk
theorem Kept.execCreateIoCq {t'} (h : Kept a s) : Steps a (execCreateIoCq t' s) :=
  .next (h.adminRow (fun _ _ h' => h'.createCqAct))
theorem Kept.execCreateIoSq {t'} (h : Kept a s) : Steps a (execCreateIoSq t' s) :=
  .next (h.adminRow (fun _ _ h' => h'.createSqAct))
theorem Kept.execDeleteIoSq {t'} (h : Kept a s) : Steps a (execDeleteIoSq t' s) :=
  .next (h.adminRow (fun _ _ h' => h'.deleteSqAct))
theorem Kept.execDeleteIoCq {t'} (h : Kept a s) : Steps a (execDeleteIoCq t' s) :=
  .next (h.adminRow (fun _ _ h' => h'.deleteCqAct))
theorem Kept.execIdentify {t'} (h : Kept a s) : Steps a (execIdentify t' s) :=
  .next (h.adminRow (fun _ _ h' => h'.identifyAct))
theorem Kept.execGetLogPage {t'} (h : Kept a s) : Steps a (execGetLogPage t' s) :=
  .next (h.adminRow (fun _ _ h' => h'.logAct))
theorem Kept.execGetLogPageTally {t'} (h : Kept a s) : Steps a (execGetLogPageTally t' s) :=
  .next (h.adminRow (fun _ _ h' => h'.tallyLogAct))
theorem Kept.execSetFeatures {t'} (h : Kept a s) : Steps a (execSetFeatures t' s) :=
  .next (h.adminRow (fun _ _ h' => h'.setFeatAct))
theorem Kept.execSetFeaturesTimestamp {t'} (h : Kept a s) : Steps a (execSetFeaturesTimestamp t' s) :=
  .next (h.adminRow (fun _ _ h' => h'.setTimeAct))
theorem Kept.execGetFeatures {t'} (h : Kept a s) : Steps a (execGetFeatures t' s) :=
  .next (h.adminRow (fun _ _ h' => h'.getFeatAct))
theorem Kept.execAsyncEventRequest {t'} (h : Kept a s) : Steps a (execAsyncEventRequest t' s) :=
  .next (h.adminRow (fun _ _ h' => h'.aerAct))
theorem Kept.execAbort {t'} (h : Kept a s) : Steps a (execAbort t' s) := .next (h.adminRow (fun _ _ h' => h'.abortAct))
theorem Kept.execNamespaceManagementCreate {t'} (h : Kept a s) : Steps a (execNamespaceManagementCreate t' s) :=
  .next (h.adminRow (fun _ _ h' => h'.nsCreateAct))
theorem Kept.execNamespaceManagementDelete {t'} (h : Kept a s) : Steps a (execNamespaceManagementDelete t' s) :=
  .next (h.adminRow (fun _ _ h' => h'.nsDeleteAct))
theorem Kept.execNamespaceAttach {t'} (h : Kept a s) : Steps a (execNamespaceAttach t' s) :=
  .next (h.adminRow (fun _ _ h' => h'.attachAct))
theorem Kept.execNamespaceDetach {t'} (h : Kept a s) : Steps a (execNamespaceDetach t' s) :=
  .next (h.adminRow (fun _ _ h' => h'.detachAct))
theorem Kept.execFirmwareImageDownload {t'} (h : Kept a s) : Steps a (execFirmwareImageDownload t' s) :=
  .next (h.adminRow (fun _ _ h' => h'.downloadAct))
theorem Kept.execVirtualizationManagement {t'} (h : Kept a s) : Steps a (execVirtualizationManagement t' s) :=
  .next (h.adminRow (fun _ _ h' => h'.virtAct))
theorem Kept.execFormatNvm {t'} (h : Kept a s) : Steps a (execFormatNvm t' s) :=
  .next (h.adminRow (fun _ _ h' => h'.formatAct))
theorem Kept.execSanitizeCryptoErase {t'} (h : Kept a s) : Steps a (execSanitizeCryptoErase t' s) :=
  .next (h.adminRow (fun _ _ h' => h'.sanitizeAct))
theorem Kept.execGetLbaStatus {t'} (h : Kept a s) : Steps a (execGetLbaStatus t' s) :=
  .next (h.adminRow (fun _ _ h' => h'.lbaStatusAct))
theorem Kept.execDeviceSelfTest {t'} (h : Kept a s) : Steps a (execDeviceSelfTest t' s) :=
  .next (h.adminRow (fun _ _ h' => h'.selfTestAct))

/-! ### Dram -/

theorem lineData_normLine (l : DLine) : lineData (normLine l) = lineData l := by
  have hl : (lineData l).length = 64 := by simp [lineData]
  unfold normLine
  split
  · next h0 =>
    have : lineData l = List.replicate 64 0 :=
      List.eq_replicate_iff.2 ⟨hl, fun b hb => of_decide_eq_true (List.all_eq_true.1 h0 b hb)⟩
    rw [this]
    rfl
  · exact List.take_left' hl
/-- A line's normal form is its own normal form. -/
theorem normLine_normLine (l : DLine) : normLine (normLine l) = normLine l := by
  change { normLine l with
    data := if (lineData (normLine l)).all fun b => decide (b = 0) then [] else lineData (normLine l) } = normLine l
  rw [lineData_normLine]
  rfl
/-- A line written in normal form. -/
theorem dramCanonical_write {d : Dram} {k l} (hl : normLine l = l) (hd : dramCanonical d = true) :
    dramCanonical { d with lines := smWrite {} d.lines k l } = true := by
  simp only [dramCanonical, Bool.and_eq_true, List.all_eq_true, decide_eq_true_eq] at hd ⊢
  refine ⟨smWrite_wf k l hd.1, fun e he => ?_⟩
  unfold smWrite at he
  split at he
  · exact hd.2 e (smErase_mem he)
  · rcases smPut_mem he with rfl | he
    · exact hl
    · exact hd.2 e he
theorem Kept.putLine {line l} (h : Kept a s) : Kept a (putLine s line l) :=
  h.updDram fun hd => dramCanonical_write (normLine_normLine l) hd
theorem Kept.writeLine {line data p} (h : Kept a s) : Kept a (writeLine s line data p) := by
  unfold Machine.writeLine
  extract_lets +onlyGivenNames l
  split
  · exact h.putLine
  · exact (h.updDram (by exact id)).putLine
theorem Kept.readLine {line r} (h : Kept a s) : Kept a (readLine s line r) := by
  unfold Machine.readLine
  extract_lets +onlyGivenNames l
  split
  · exact h
  · exact (h.updDram (by exact id)).putLine
  · exact (h.updDram (by exact id)).putLine.raise
theorem Kept.dropMerge {line} (h : Kept a s) : Kept a (dropMerge s line) := h.updDram (by exact id)
theorem Kept.mergeOut {e r} (h : Kept a s) : Kept a (mergeOut s e r) :=
  (Kept.ite (h.readLine.updDram (by exact id)) h.readLine).dropMerge.writeLine
theorem Kept.mergeFull {line} (h : Kept a s) : Kept a (mergeFull s line) := by
  unfold Machine.mergeFull
  split
  · exact .ite h.dropMerge.writeLine h
  · exact h
theorem Kept.narrowPart {line off bytes} (h : Kept a s) : Kept a (narrowPart s line off bytes) := by
  unfold Machine.narrowPart
  split
  · exact (h.updDram (by exact id)).mergeFull
  · extract_lets s1
    have hs1 : Kept a s1 := by
      unfold s1
      split
      · exact .ite h.mergeOut h
      · exact h
    exact (hs1.updDram (by exact id)).mergeFull
theorem Kept.updChan {ch f} (h : Kept a s) : Kept a (updChan s ch f) := h.updDram (by exact id)
theorem Kept.request {ch} (h : Kept a s) : Kept a (request s ch) :=
  (Kept.ite (h.updChan.updDram (by exact id)) (.ite h h.updChan)).updChan
theorem Kept.portServed {p} (h : Kept a s) : Kept a (portServed s p) := h.updDram (by exact id)
theorem Kept.chartUnreadable {e} (h : Kept a s) : Kept a (chartUnreadable s e) := by
  unfold Machine.chartUnreadable
  split
  · exact h
  · exact h.installOne
theorem Kept.pondAgain {t' lba} (h : Kept a s) : Kept a (pondAgain s t' lba) := by
  unfold Machine.pondAgain
  split
  · exact h
  · split
    · exact h
    · exact .ite h.updTag (h.updTag.forEach fun _ _ h' => h'.updTag.queueOp)
theorem Kept.freeRecord {m k} (h : Kept a s) : Kept a (freeRecord s m k) := by
  unfold Machine.freeRecord
  split
  · exact .ite h.updChn h
  · exact h
theorem Kept.climb {line p row} (h : Kept a s) : Kept a (climb s line p row) := h.report.startBreakwater
theorem Kept.consumeLine {line p u} (h : Kept a s) : Kept a (consumeLine s line p u) := by
  unfold Machine.consumeLine
  extract_lets ev
  have hev {k} : Kept a (ev k) := h.consumed
  cases u with
  | readPond t lba => exact hev.pondAgain.endReadIfDone
  | cacheRead id => exact hev.updBlock
  | destage id =>
    dsimp only
    split
    · exact .ite hev hev.substBlock
    · exact hev
  | parityBuffer berth stripe =>
    dsimp only
    split
    · exact hev.updBrt
    · exact hev
  | backgroundPond a' op k => exact hev.updOp
  | recovery m k => exact hev.freeRecord
  | mooring f qid => exact hev.poisonMoor
  | cacheIndex => exact hev
  | chart nsid l => exact .ite (hev.forEach fun _ _ h' => h'.chartUnreadable) hev
  | table => exact (h.updDram (by exact id)).climb
  | tally key k => exact hev.updQuay
  | code => exact hev
  | fenxus => exact (h.updDram (by exact id)).climb
  | key => exact hev
  | vault => exact hev
theorem Kept.dramRead {line result user} (h : Kept a s) : Kept a (dramRead line result user s) := by
  unfold Machine.dramRead
  extract_lets s2 l s3
  have hs2 : Kept a s2 := by
    unfold s2
    split
    · exact h.mergeOut
    · exact h.readLine
  have hs3 : Kept a s3 := hs2.updDram (by exact id)
  split
  · exact .ite hs3 hs3.consumeLine
  · exact hs3
theorem Kept.execDramRead {q result user} (h : Kept a s) : Steps a (execDramRead q result user s) :=
  .ite .fault (.next (.ite h.portServed.request.dramRead h))
theorem Kept.execDramWrite {q data poisoned} (h : Kept a s) : Steps a (execDramWrite q data poisoned s) :=
  .ite .fault (.next (.ite h.portServed.request.dropMerge.writeLine h))
theorem Kept.execDramNarrowWrite {addr bytes} (h : Kept a s) : Steps a (execDramNarrowWrite addr bytes s) :=
  .ite .fault (.next (.ite (h.forEach fun _ _ h' => h'.request.narrowPart) h))
theorem Kept.execMergeEntryTimeout {line result} (h : Kept a s) : Steps a (execMergeEntryTimeout line result s) := by
  unfold Machine.execMergeEntryTimeout
  refine .next ?_
  split
  · exact .ite h.request.mergeOut h
  · exact h
theorem Kept.updScrub {c f} (h : Kept a s) : Kept a (updScrub s c f) := h.updDram (by exact id)
theorem Kept.lapEnd {c} (h : Kept a s) : Kept a (lapEnd s c) := .ite h.updScrub.raise h.updScrub
theorem Kept.scrubOne {cls result} (h : Kept a s) : Kept a (scrubOne cls result s) := by
  unfold Machine.scrubOne
  split
  · exact h
  · extract_lets l poisoned f ce ue s1 n s2
    have hs1 : Kept a s1 := .ite h h.readLine
    have hs2 : Kept a s2 := hs1.updScrub.updDram (by exact id)
    exact .ite hs2.lapEnd hs2
theorem Kept.execScrubLine {due result} (h : Kept a s) : Steps a (execScrubLine due result s) := by
  unfold Machine.execScrubLine
  refine .next ?_
  split
  · split
    · exact h.scrubOne
    · exact h
  · exact h
theorem Kept.execDramRefresh {ch} (h : Kept a s) : Steps a (execDramRefresh ch s) :=
  .next (.ite (h.updChan.updDram (by exact id)) h)
theorem Kept.execDramTempRead {t0 t1} (h : Kept a s) : Steps a (execDramTempRead t0 t1 s) :=
  .next (.ite (.ite (((h.updChan.updChan.updDram (by exact id)).updDram (by exact id)).raise) (h.updChan.updChan.updDram
      (by exact id))) h)
theorem Kept.drainMerge {ch} (h : Kept a s) : Kept a (drainMerge s ch) := h.forEach fun _ _ h' => h'.mergeOut
theorem Kept.execSelfRefreshEntry {ch} (h : Kept a s) : Steps a (execSelfRefreshEntry ch s) :=
  .next (.ite (.ite h.drainMerge.updChan (.ite h.updChan h)) h)
theorem Kept.execSelfRefreshExit {ch asked} (h : Kept a s) : Steps a (execSelfRefreshExit ch asked s) :=
  .next (.ite h (.ite h.updChan (.ite (.ite h.request (.ite h.updChan h)) (.ite (.ite h.updChan (.ite h.updChan h)) h))))
theorem Kept.execDramRetrain {ch drift64} (h : Kept a s) : Steps a (execDramRetrain ch drift64 s) :=
  .next (.ite (.ite ((h.updChan.updDram (by exact id)).raise) h.updChan) h)
theorem Kept.drcGet {clear} (h : Kept a s) : Kept a (drcGet clear s).st := h.updDram (by exact id)
theorem Kept.execDrcGetStatus {r clear} (h : Kept a s) : Steps a (execDrcGetStatus r clear s) :=
  .next (h.serve fun _ h' => h'.drcGet)
theorem Kept.drcRegions (h : Kept a s) : Kept a (drcRegions s).st := h
theorem Kept.execDrcGetRegions {r} (h : Kept a s) : Steps a (execDrcGetRegions r s) :=
  .next (h.serve fun _ h' => h'.drcRegions)
theorem Kept.drcScrub {ps} (h : Kept a s) : Kept a (drcScrub ps s).st :=
  h.setA_of (P := fun d => d.lines = s.dram.lines) rfl (by simp [scrubPars, parN, parNs])
    fun _ hl => h.same (by simp [keptParts, hl])
theorem Kept.execDrcSetScrub {r ps} (h : Kept a s) : Steps a (execDrcSetScrub r ps s) :=
  .next (h.serve fun _ h' => h'.drcScrub)
theorem Kept.drcPort {port ps} (h : Kept a s) : Kept a (drcPort port ps s).st := by
  unfold Machine.drcPort
  split
  · exact h.setA_of (P := fun d => d.lines = s.dram.lines) rfl (by simp [portPars, parN])
      fun _ hl => h.same (by simp [keptParts, hl])
  · exact h
theorem Kept.execDrcSetPort {r port ps} (h : Kept a s) : Steps a (execDrcSetPort r port ps s) :=
  .next (h.serve fun _ h' => h'.drcPort)
theorem Kept.drcTrain {ps} (h : Kept a s) : Kept a (drcTrain ps s).st :=
  h.setA_of (P := fun d => d.lines = s.dram.lines) rfl (by simp [trainPars, parN])
    fun _ hl => h.same (by simp [keptParts, hl])
theorem Kept.execDrcSetTrain {r ps} (h : Kept a s) : Steps a (execDrcSetTrain r ps s) :=
  .next (h.serve fun _ h' => h'.drcTrain)
theorem Kept.drcPower {ps} (h : Kept a s) : Kept a (drcPower ps s).st :=
  h.setA_of (P := fun d => d.lines = s.dram.lines) rfl (by simp [drcPowerPars, parN, parB])
    fun _ hl => h.same (by simp [keptParts, hl])
theorem Kept.execDrcSetPower {r ps} (h : Kept a s) : Steps a (execDrcSetPower r ps s) :=
  .next (h.serve fun _ h' => h'.drcPower)
theorem Kept.drcFlip {addr flip} (h : Kept a s) : Kept a (drcFlip addr flip s).st :=
  .iteA h (.iteA h (h.updDram (by exact id)).okA)
theorem Kept.execDrcInject {r addr flip} (h : Kept a s) : Steps a (execDrcInject r addr flip s) :=
  .next (h.serve fun _ h' => h'.drcFlip)

/-! ### Secure -/

theorem Kept.imageRejected {cls svn reason} (h : Kept a s) : Kept a (imageRejected s cls svn reason) := h.raise
theorem Kept.authChallenge {mb opcode digest} (h : Kept a s) : Kept a (authChallenge mb opcode digest s).st :=
  .iteA h (.iteA h (h.draw.updMbx (by exact fun _ => id)))
theorem Kept.execAuthChallenge {r opcode digest} (h : Kept a s) : Steps a (execAuthChallenge r opcode digest s) :=
  .next (h.serve fun _ h' => h'.authChallenge)
theorem Kept.authFailed {mb} (h : Kept a s) : Kept a (authFailed s mb).st := (h.updMbx (by exact fun _ => id)).raise
theorem Kept.authResponse {mb sigOfs sigLen} (h : Kept a s) : Kept a (authResponse mb sigOfs sigLen s).st := by
  unfold Machine.authResponse
  split
  · exact h
  · split
    · exact h.authFailed
    · extract_lets x bs
      split
      · exact h.authFailed
      · exact .iteA (h.updMbx (by exact fun _ => id)) h.authFailed
theorem Kept.execAuthResponse {r sigOfs sigLen} (h : Kept a s) : Steps a (execAuthResponse r sigOfs sigLen s) :=
  .next (h.serve fun _ h' => h'.authResponse)
theorem Kept.lcChange {r target roles dm} (h : Kept a s) : Kept a (lcChange r target roles dm s).st := by
  unfold Machine.lcChange
  split
  · exact h
  · split
    · exact h
    · split
      · exact h
      · split
        · exact h
        · exact h.updSec.updQuay.ans
theorem Kept.execLcChange {r target} (h : Kept a s) : Steps a (execLcChange r target s) :=
  .next (h.serve fun _ h' => h'.lcChange)
theorem Kept.burnIdentity (h : Kept a s) : Kept a (burnIdentity s) := by
  unfold Machine.burnIdentity
  extract_lets src s1 d s2 e s3
  have hs1 : Kept a s1 := by
    unfold s1
    split
    · exact h
    · next hn =>
      refine Kept.other (s := Machine.updNv s _) (h.updNv ?_)
      refine ⟨Nat.le_refl _, Nat.le_refl _, Nat.le_refl _, Nat.le_refl _, id, id, fun x hx => ?_, fun _ => id⟩
      simp [hx] at hn
  have hd : Kept a d.2 := hs1.draw
  have hs2 : Kept a s2 := .ite hs1 (hd.updNv (by exact fusesKept.refl _))
  have he : Kept a e.2 := hs2.draw
  have hs3 : Kept a s3 := by
    unfold s3
    split
    · exact hs2
    · next hn =>
      refine he.updNv ⟨Nat.le_refl _, Nat.le_refl _, Nat.le_refl _, Nat.le_refl _, id, id, fun _ => id, fun x hx => ?_⟩
      have : s2.nv.otp.iseed = some x := hx
      simp [this] at hn
  exact hs3.updNv (by exact fusesKept.refl _)
theorem Kept.burnLc {target} (h : Kept a s) : Kept a (burnLc s target) := by
  have hn {s : State} (h : Kept a s) : Kept a (Machine.updNv s fun v => { v with otp := { v.otp with lc := v.otp.lc + 1
      } }) :=
    h.updNv ⟨Nat.le_refl _, Nat.le_refl _, Nat.le_refl _, Nat.le_succ _, id, id, fun _ => id, fun _ => id⟩
  refine .ite (h.updNv ?_) (.ite (hn h.burnIdentity) (.ite (hn (h.updNv (by exact fusesKept.refl _))) (hn h)))
  exact ⟨Nat.le_refl _, Nat.le_refl _, Nat.le_refl _, Nat.le_refl _, fun _ => rfl, fun _ => rfl, fun _ => id, fun _ => id⟩
theorem Kept.lcFinish (h : Kept a s) : Kept a (lcFinish s) := by
  unfold Machine.lcFinish
  split
  · exact h
  · exact .ite h.sweep (.ite h (.ite h.updSec.postDone.updQuay h.burnLc.updSec.postDone))
theorem Kept.execLcReset (h : Kept a s) : Steps a (execLcReset s) := .next (.ite h.intoReset h)
theorem Kept.newBatch (h : Kept a s) : Kept a (newBatch s) := by
  have hb : Kept a (Machine.updNv s fun v => { v with otp := { v.otp with idx := s.nv.otp.idx + 1 } }) :=
    h.updNv ⟨Nat.le_succ _, Nat.le_refl _, Nat.le_refl _, Nat.le_refl _, id, id, fun _ => id, fun _ => id⟩
  exact .ite hb.other.raise.raise hb.other.raise
theorem Kept.signId {m} (h : Kept a s) : Kept a (signId s m).2 := by
  unfold Machine.signId
  split
  · exact h
  · split
    · exact h.raise
    · extract_lets +onlyGivenNames s1 i
      have hs1 : Kept a s1 := .ite h.newBatch h
      exact hs1.other
theorem Kept.newSession (h : Kept a s) : Kept a (newSession s).2 := by
  unfold Machine.newSession
  extract_lets d pk gen s1 body c
  have hd : Kept a d.2 := h.draw
  have hs1 : Kept a s1 := hd.updSec
  have hc : Kept a c.2 := hs1.signId
  exact hc
theorem Kept.execSessionKeyReady (h : Kept a s) : Steps a (execSessionKeyReady s) := .next (.ite h.newSession.updSec h)
theorem Kept.execSessionKeySuccessor (h : Kept a s) : Steps a (execSessionKeySuccessor s) := by
  unfold Machine.execSessionKeySuccessor
  refine .next ?_
  split
  · exact .ite h.newSession.updSec h
  · exact h
theorem Kept.execTreeCacheRebuilt (h : Kept a s) : Steps a (execTreeCacheRebuilt s) :=
  .next (.ite (h.updSec.updNv (by exact fusesKept.refl _)) h)
theorem Kept.execSpringTestFail {test} (h : Kept a s) : Steps a (execSpringTestFail test s) :=
  .next (.ite (.ite h.updSec.raise.updSec.raise h.updSec.raise) h)
theorem Kept.execRandomnessTimeout {r op} (h : Kept a s) : Steps a (execRandomnessTimeout r op s) := by
  unfold Machine.execRandomnessTimeout
  refine .next ?_
  split
  · exact h
  · split
    · split
      · exact .ite h.lateAnswer h
      · exact h
    · split
      · exact .ite h.finish h
      · exact h
theorem Kept.debugUnlock {scope} (h : Kept a s) : Kept a (debugUnlock scope s).st := .iteA h (.iteA h h.updSec.raise)
theorem Kept.execDebugUnlock {r scope} (h : Kept a s) : Steps a (execDebugUnlock r scope s) :=
  .next (h.serve fun _ h' => h'.debugUnlock)
theorem Kept.withCsr (h : Kept a s) : Kept a (withCsr s) := by
  unfold Machine.withCsr
  split
  · exact h
  · extract_lets pk c
    have hc : Kept a c.2 := h.signId
    split
    · exact hc.updNv (by exact fusesKept.refl _)
    · exact hc
theorem Kept.idCert {offset length} (h : Kept a s) : Kept a (idCert offset length s).st :=
  .iteA h (.iteA (.iteA h h) (.iteA h (.iteA h.withCsr h.withCsr)))
theorem Kept.execIdGetCert {r offset length} (h : Kept a s) : Steps a (execIdGetCert r offset length s) :=
  .next (h.serve fun _ h' => h'.idCert)
theorem Kept.attestQuote {r nonce} (h : Kept a s) : Kept a (attestQuote r nonce s).st := by
  unfold Machine.attestQuote
  split
  · exact h
  · exact h.updSec.ans
theorem Kept.execAttestQuote {r nonce} (h : Kept a s) : Steps a (execAttestQuote r nonce s) :=
  .next (h.serve fun _ h' => h'.attestQuote)
theorem Kept.quoteFinish {mb seq} (h : Kept a s) : Kept a (quoteFinish s mb seq) := by
  unfold Machine.quoteFinish
  split
  · exact h
  · extract_lets s1
    have hs1 : Kept a s1 := h.updSec
    split
    · exact .ite hs1.postDone (hs1.updSec.updMbx fun _ hx => mbxCanonical_stage hx).postDone
    · exact .ite hs1.postDone h
theorem Kept.opalAns {status} (h : Kept a s) : Kept a (opalAns s status) := h.updSec
theorem Kept.rewrap {nsid mek} (h : Kept a s) : Kept a (rewrap s nsid mek) := by
  unfold Machine.rewrap
  split
  · exact h.putKey
  · exact h
theorem Kept.putLock {nsid l} (h : Kept a s) : Kept a (putLock s nsid l) := h.updNv (by exact fusesKept.refl _)
theorem Kept.applyLock {auth nsid l} (h : Kept a s) : Kept a (applyLock s auth nsid l) := by
  unfold Machine.applyLock
  extract_lets s1
  have hs1 : Kept a s1 := h.putLock
  split
  · exact hs1.clearSlot
  · split
    · exact hs1
    · split
      · exact hs1.loadSlot
      · exact hs1
theorem Kept.opalRun {m} (h : Kept a s) : Kept a (opalRun s m) := by
  unfold Machine.opalRun
  split
  · exact h.opalAns
  · split
    · exact h.opalAns
    · extract_lets s1
      have hs1 : Kept a s1 := h.updNv (by exact fusesKept.refl _)
      exact (hs1.forEach fun _ _ h' => by
    split
    · exact h'.rewrap
    · exact h').opalAns
  · split
    · exact .ite h.applyLock.opalAns h.opalAns
    · exact h.opalAns
  · split
    · exact .ite h.putLock.opalAns h.opalAns
    · exact h.opalAns
  · split
    · exact h.opalAns
    · split
      · exact h.opalAns
      · split
        · exact h.opalAns
        · split
          · exact h.putLock.rewrap.opalAns
          · exact h.opalAns
  · split
    · exact h.opalAns
    · split
      · exact h.opalAns
      · split
        · exact h.opalAns
        · split
          · exact h.putLock.rewrap.opalAns
          · exact h.opalAns
  · split
    · exact h.opalAns
    · split
      · exact h.putLock.rewrap.opalAns
      · exact h.opalAns
theorem Kept.securityOut {r m} (h : Kept a s) : Kept a (securityOut s r m) :=
  .ite h.finish (.ite h.updTag h.opalRun.finishOk)
theorem Kept.securityIn {r} (h : Kept a s) : Kept a (securityIn s r) := .ite h.finish h.sheet.commitTag.sendData.finishOk
theorem Kept.execSecuritySend {t' m} (h : Kept a s) : Steps a (execSecuritySend t' m s) := by
  unfold Machine.execSecuritySend
  refine .next ?_
  split
  · exact .ite h.securityOut h
  · exact h
theorem Kept.execSecurityReceive {t'} (h : Kept a s) : Steps a (execSecurityReceive t' s) :=
  .next (h.adminRow (fun _ _ h' => h'.securityIn))
theorem Kept.execOpalAuthenticate {auth nsid cred} (h : Kept a s) : Steps a (execOpalAuthenticate auth nsid cred s) := by
  refine .next (.ite h (.ite ?_ h.opalAns))
  extract_lets s1
  have hs1 : Kept a s1 := h.updSec.opalAns
  refine .ite ?_ hs1
  split
  · exact hs1.updSec
  · exact hs1
theorem Kept.execOpalGenkey {nsid} (h : Kept a s) : Steps a (execOpalGenkey nsid s) := by
  unfold Machine.execOpalGenkey
  refine .next ?_
  split
  · exact .ite h.cryptoErase.opalAns h
  · exact h
theorem Kept.opalRevert {keep} (h : Kept a s) : Kept a (opalRevert s keep) :=
  (h.updNv (by exact fusesKept.refl _)).updSec.forEach fun _ _ h => h.cryptoErase
theorem Kept.execOpalRevert (h : Kept a s) : Steps a (execOpalRevert s) := .next (.ite h.opalRevert h)
theorem Kept.execOpalRevertsp (h : Kept a s) : Steps a (execOpalRevertsp s) := .next (.ite h.opalRevert h)

/-! ### Seq -/

theorem Kept.netWrite {a' bytes} (h : Kept a s) : Kept a (netWrite s a' bytes) :=
  h.forEach fun _ _ h' => .ite h'.narrowPart h'
theorem Kept.advanceTo {n f} (h : Kept a s) : Kept a (advanceTo s n f) := .ite h.seqFault (h.updSeq (by exact fun _ => id))
theorem Kept.jumpTo {n pc f} (h : Kept a s) : Kept a (jumpTo s n pc f) := h.updSeq (by exact fun _ => id)
theorem Kept.hold {n h'} (h : Kept a s) : Kept a (hold s n h') :=
  .ite h.seqFault ((h.updSeq (by exact fun _ => id)).advanceTo)
theorem Kept.complete {n token status result} (h : Kept a s) : Kept a (complete s n token status result) := by
  unfold Machine.complete
  split
  · exact h
  · exact (h.updSeq (by exact fun _ => id)).updSeqDev (by exact id)
theorem seqCanonical_portWrite {us q port v} (hq : seqCanonical q = true) : seqCanonical (portWrite us q port v) = true := by
  simp only [seqCanonical, Bool.and_eq_true] at hq ⊢
  unfold portWrite
  split_ifs
  · exact hq
  · exact hq
  · exact hq
  · exact ⟨hq.1, smWrite_wf _ _ hq.2⟩
theorem seqCanonical_scratch {q : Sequencer} {k bs} (hq : seqCanonical q = true) :
    seqCanonical { q with scratch := smWriteBytes q.scratch k bs } = true := by
  simp only [seqCanonical, Bool.and_eq_true] at hq ⊢
  exact ⟨smWriteBytes_wf _ _ hq.1, hq.2⟩
theorem Kept.issueHeld {n x} (h : Kept a s) : Kept a (issueHeld n s x) := by
  cases x with
  | st k bytes => exact h.updSeq fun _ hq => seqCanonical_scratch hq
  | stn k bytes => exact h.netWrite
  | post t st r => exact h.complete
  | evt c p0 p1 p2 => exact h.raise
  | move src dst len => exact h.updSeq (by exact fun _ => id)
  | out port v => exact h.updSeq fun _ hq => seqCanonical_portWrite hq
theorem Kept.release {n} (h : Kept a s) : Kept a (release s n) :=
  (h.forEach fun _ _ h => h.issueHeld).updSeq (by exact fun _ => id)
theorem Kept.restart {n} (h : Kept a s) : Kept a (restart s n) :=
  .ite ((h.updSeq (by exact fun _ => id)).seqFault) (h.updSeq (by exact fun _ => id))
theorem Kept.fetched {n} (h : Kept a s) : Kept a (fetched s n) :=
  .ite h ((h.updSeq (by exact fun _ => id)).updSeqDev (by exact id))
theorem Kept.issue {n opc w bad act} (h : Kept a s) (ha : ∀ s, Kept a s → Kept a (act s)) :
    Kept a (issue s n opc w bad act) :=
  .ite h (.ite h.seqFault (.ite (h.fetched.updSeqDev (by exact id)).seqFault (.ite h.fetched.seqFault (.ite h
    (.ite h.fetched.seqFault (ha _ (h.fetched.updSeq (by exact fun _ => id))))))))
theorem Kept.plainOp {n opc w bad f} (h : Kept a s) : Steps a (plainOp s n opc w bad f) :=
  .next (h.issue (fun _ h' => h'.advanceTo))
theorem Kept.consumeOp {n act} (h : Kept a s) (ha : ∀ s, Kept a s → Kept a (act s)) : Kept a (consumeOp s n act) := by
  unfold Machine.consumeOp
  extract_lets +onlyGivenNames s1
  have hs1 : Kept a s1 := h.release.restart
  refine .ite hs1 ?_
  extract_lets s2
  have hs2 : Kept a s2 := (ha _ hs1).advanceTo
  exact .ite hs2.restart hs2
theorem Kept.execOrderPost {n word} (h : Kept a s) : Steps a (execOrderPost n word s) :=
  .next (.ite h (.ite ((h.updSeq (by exact fun _ => id)).emit) ((h.updSeq (by exact fun _ => id)).emit.wake)))
theorem Kept.execSeqEventLine {n line} (h : Kept a s) : Steps a (execSeqEventLine n line s) := .next (.ite h.setLine h)
theorem Kept.execSeqTimerExpiry {n} (h : Kept a s) : Steps a (execSeqTimerExpiry n s) := by
  unfold Machine.execSeqTimerExpiry
  refine .next ?_
  split
  · exact .ite ((h.updSeq (by exact fun _ => id)).setLine) h
  · exact h
theorem Kept.execWatchdogExpiry {n} (h : Kept a s) : Steps a (execWatchdogExpiry n s) := .next (.ite h.seqFault h)
theorem Kept.execNetworkAccessTimeout {n} (h : Kept a s) : Steps a (execNetworkAccessTimeout n s) :=
  .next (.ite h.seqFault h)
theorem Kept.execNetworkWriteError {n} (h : Kept a s) : Steps a (execNetworkWriteError n s) :=
  .next (.ite (h.updSeq (by exact fun _ => id)) h)
theorem Kept.moveLines {src dst k} (h : Kept a s) : Kept a (moveLines s src dst k) := by
  induction k generalizing s src dst with
  | zero => exact h
  | succ k ih => exact ih (.ite h.dropMerge.writeLine h.netWrite)
theorem Kept.execMoveDone {n} (h : Kept a s) : Steps a (execMoveDone n s) := by
  unfold Machine.execMoveDone
  refine .next ?_
  split
  · exact h
  · exact .ite ((h.updSeq (by exact fun _ => id)).moveLines.setLine) h
theorem Kept.execNop {n w} (h : Kept a s) : Steps a (execNop n w s) := h.plainOp
theorem Kept.yieldEnd {n w} (h : Kept a s) : Kept a (yieldEnd s n w) := by
  unfold Machine.yieldEnd
  extract_lets s1
  have hs1 : Kept a s1 := h.updSeq (by exact fun _ => id)
  split
  · exact hs1.takeLine
  · exact .ite hs1 ((hs1.updSeq (by exact fun _ => id)).wake)
theorem Kept.execYield {n w} (h : Kept a s) : Steps a (execYield n w s) :=
  .next (h.issue (fun _ h' => .ite h'.release.advanceTo (.ite h'.release.advanceTo.restart
      h'.release.advanceTo.restart.yieldEnd)))
theorem Kept.execCommit {n w} (h : Kept a s) : Steps a (execCommit n w s) :=
  .next (h.issue (fun _ h' => .ite h'.release.advanceTo h'.release.advanceTo.restart))
theorem Kept.execHalt {n w} (h : Kept a s) : Steps a (execHalt n w s) :=
  .next (h.issue (fun _ h' => .ite h'.release.advanceTo (.ite h'.release.advanceTo.restart
      (h'.release.advanceTo.restart.updSeq (by exact fun _ => id)))))
theorem Kept.execFault {n w} (h : Kept a s) : Steps a (execFault n w s) :=
  .next (h.issue (fun _ h' => (h'.updSeq (by exact fun _ => id)).seqFault))
theorem Kept.execGetord {n w} (h : Kept a s) : Steps a (execGetord n w s) :=
  .next (h.issue fun _ h' => h'.consumeOp fun _ h'' => h''.updSeq fun q hq => by
    split
    · exact hq
    · exact hq)
theorem Kept.execDispatch {n w} (h : Kept a s) : Steps a (execDispatch n w s) :=
  .next (h.issue (fun _ h' => .ite h'.seqFault h'.jumpTo))
theorem Kept.execPost {n w} (h : Kept a s) : Steps a (execPost n w s) := .next (h.issue (fun _ h' => h'.hold))
theorem Kept.execEvt {n w} (h : Kept a s) : Steps a (execEvt n w s) := .next (h.issue (fun _ h' => h'.hold))
theorem Kept.execIret {n w} (h : Kept a s) : Steps a (execIret n w s) :=
  .next (h.issue (fun _ h' => h'.updSeq (by exact fun _ => id)))
theorem Kept.aluR {n opc w f} (h : Kept a s) : Steps a (aluR s n opc w f) := h.plainOp
theorem Kept.aluI {n opc w f} (h : Kept a s) : Steps a (aluI s n opc w f) := h.plainOp
theorem Kept.execAdd {n w} (h : Kept a s) : Steps a (execAdd n w s) := h.aluR
theorem Kept.execSub {n w} (h : Kept a s) : Steps a (execSub n w s) := h.aluR
theorem Kept.execAnd {n w} (h : Kept a s) : Steps a (execAnd n w s) := h.aluR
theorem Kept.execOr {n w} (h : Kept a s) : Steps a (execOr n w s) := h.aluR
theorem Kept.execXor {n w} (h : Kept a s) : Steps a (execXor n w s) := h.aluR
theorem Kept.execShl {n w} (h : Kept a s) : Steps a (execShl n w s) := h.aluR
theorem Kept.execShr {n w} (h : Kept a s) : Steps a (execShr n w s) := h.aluR
theorem Kept.execSar {n w} (h : Kept a s) : Steps a (execSar n w s) := h.aluR
theorem Kept.execMul {n w} (h : Kept a s) : Steps a (execMul n w s) := h.aluR
theorem Kept.execMulhu {n w} (h : Kept a s) : Steps a (execMulhu n w s) := h.aluR
theorem Kept.execMin {n w} (h : Kept a s) : Steps a (execMin n w s) := h.aluR
theorem Kept.execMax {n w} (h : Kept a s) : Steps a (execMax n w s) := h.aluR
theorem Kept.execMinu {n w} (h : Kept a s) : Steps a (execMinu n w s) := h.aluR
theorem Kept.execMaxu {n w} (h : Kept a s) : Steps a (execMaxu n w s) := h.aluR
theorem Kept.execCmp {n w} (h : Kept a s) : Steps a (execCmp n w s) := h.plainOp
theorem Kept.execCrc {n w} (h : Kept a s) : Steps a (execCrc n w s) := h.aluR
theorem Kept.execAddi {n w} (h : Kept a s) : Steps a (execAddi n w s) := h.aluI
theorem Kept.execAndi {n w} (h : Kept a s) : Steps a (execAndi n w s) := h.aluI
theorem Kept.execOri {n w} (h : Kept a s) : Steps a (execOri n w s) := h.aluI
theorem Kept.execXori {n w} (h : Kept a s) : Steps a (execXori n w s) := h.aluI
theorem Kept.execShli {n w} (h : Kept a s) : Steps a (execShli n w s) := h.aluI
theorem Kept.execShri {n w} (h : Kept a s) : Steps a (execShri n w s) := h.aluI
theorem Kept.execSari {n w} (h : Kept a s) : Steps a (execSari n w s) := h.aluI
theorem Kept.execMovi {n w} (h : Kept a s) : Steps a (execMovi n w s) := h.plainOp
theorem Kept.execLui {n w} (h : Kept a s) : Steps a (execLui n w s) := h.plainOp
theorem Kept.execCmpi {n w} (h : Kept a s) : Steps a (execCmpi n w s) := h.plainOp
theorem Kept.execLd {n w} (h : Kept a s) : Steps a (execLd n w s) :=
  .next (h.issue (fun _ h' => by
    extract_lets q
    split
    · exact h'.seqFault
    · exact h'.advanceTo))
theorem Kept.execSt {n w} (h : Kept a s) : Steps a (execSt n w s) :=
  .next (h.issue (fun _ h' => by
    extract_lets q
    split
    · exact h'.seqFault
    · exact h'.hold))
theorem Kept.netReach {a'} (h : Kept a s) : Kept a (netReach s a') := .ite h.request h
theorem Kept.execLdn {n w} (h : Kept a s) : Steps a (execLdn n w s) :=
  .next (h.issue (fun _ h' => by
    extract_lets +onlyGivenNames q
    split
    · exact h'.seqFault
    · exact (Kept.ite h'.netReach h'.other).advanceTo))
theorem Kept.execStn {n w} (h : Kept a s) : Steps a (execStn n w s) :=
  .next (h.issue (fun _ h' => by
    extract_lets q
    split
    · exact h'.seqFault
    · exact h'.hold))
theorem Kept.execAtom {n w} (h : Kept a s) : Steps a (execAtom n w s) :=
  .next (h.issue (fun _ h' => .ite h'.seqFault (h'.consumeOp (fun _ h'' => h''.other.netReach.netWrite.updSeq
      (by exact fun _ => id)))))
theorem Kept.execMove {n w} (h : Kept a s) : Steps a (execMove n w s) :=
  .next (.ite h (h.issue (fun _ h' => .ite h'.seqFault (.ite h'.seqFault h'.hold))))
theorem Kept.execInPort {n w} (h : Kept a s) : Steps a (execInPort n w s) :=
  .next (h.issue (fun _ h' => h'.other.advanceTo))
theorem Kept.execInc {n w} (h : Kept a s) : Steps a (execInc n w s) :=
  .next (h.issue (fun _ h' => h'.consumeOp (fun _ h'' => h''.other.updSeq (by exact fun _ => id))))
theorem Kept.execOutPort {n w} (h : Kept a s) : Steps a (execOutPort n w s) := .next (h.issue (fun _ h' => h'.hold))
theorem Kept.execBr {n w} (h : Kept a s) : Steps a (execBr n w s) :=
  .next (h.issue (fun _ h' => .ite h'.jumpTo h'.advanceTo))
theorem Kept.execCall {n w} (h : Kept a s) : Steps a (execCall n w s) :=
  .next (h.issue (fun _ h' => .ite (.ite h'.seqFault h'.jumpTo) h'.advanceTo))
theorem Kept.execRet {n w} (h : Kept a s) : Steps a (execRet n w s) :=
  .next (h.issue (fun _ h' => by
    split
    · split
      · exact h'.seqFault
      · exact h'.jumpTo
    · exact h'.advanceTo))
theorem Kept.execBri {n w} (h : Kept a s) : Steps a (execBri n w s) :=
  .next (h.issue (fun _ h' => .ite h'.jumpTo h'.advanceTo))
theorem Kept.execLoop {n w} (h : Kept a s) : Steps a (execLoop n w s) :=
  .next (h.issue (fun _ h' => .ite h'.jumpTo h'.advanceTo))
theorem Kept.updBank {b f} (h : Kept a s) (hf : ∀ k, smWf 0 k.words = true → smWf 0 (f k).words = true) :
    Kept a (updBank s b f) := by
  refine h.updSeqDev fun hw i => ?_
  by_cases hi : (if b then 1 else 0 : Fin 2) = i
  · subst hi
    rw [vupd_self]
    exact hf _ (hw _)
  · rw [vupd_ne _ _ hi]
    exact hw i
theorem Kept.dropLines {b} (h : Kept a s) : Kept a (dropLines s b) := by
  refine h.trans ⟨rfl, fun hc => ?_, fusesKept.refl _⟩
  rw [canonical_iff] at hc ⊢
  obtain ⟨hd, hw, hm, hs, h0, h1⟩ := hc
  refine ⟨hd, hw, hm, fun n => ?_, h0, h1⟩
  have e : (Machine.dropLines s b).seqs[n] = if s.seqs[n].bankB = b then { s.seqs[n] with lines := [] } else s.seqs[n] := by
    simp [Machine.dropLines]
  rw [e]
  split
  · exact hs n
  · exact hs n
theorem Kept.clearBank {b} (h : Kept a s) : Kept a (clearBank s b) := h.dropLines.updBank fun _ _ => rfl
/-- The words of an image, listed by their places with the zeros left out. -/
theorem imageWords_wf (ws : List (BitVec 32)) (k : Nat) :
    smWf 0 (((ws.zipIdx k).filter fun x => decide (x.1 ≠ 0)).map fun x => (x.2, x.1)) = true := by
  simp only [smWf, Bool.and_eq_true, List.all_eq_true, List.mem_map, List.mem_filter, decide_eq_true_eq]
  refine ⟨?_, by rintro _ ⟨x, ⟨-, hx⟩, rfl⟩; exact hx⟩
  induction ws generalizing k with
  | nil => rfl
  | cons w ws ih =>
    simp only [List.zipIdx_cons, List.filter_cons]
    split
    · refine (smSorted_cons _ _ _).2 ⟨fun e he => ?_, ih _⟩
      obtain ⟨x, hx, rfl⟩ := List.mem_map.1 he
      have := List.le_snd_of_mem_zipIdx (List.mem_filter.1 hx).1
      dsimp only
      omega
    · exact ih _
theorem Kept.fillBank {b u signed} (h : Kept a s) : Kept a (fillBank s b u signed) :=
  h.dropLines.updBank fun _ _ => imageWords_wf u.words 0
theorem Kept.loadFinish {j} (h : Kept a s) : Kept a (loadFinish s j) := by
  unfold Machine.loadFinish
  extract_lets +onlyGivenNames s1 failed
  have hs1 : Kept a s1 := h.clearBank.updSeqDev (by exact id)
  have hf {s} (h : Kept a s) : Kept a (failed s) := (h.updSeqDev (by exact id)).postDone
  split
  · exact hf hs1
  · split
    · exact hf hs1.imageRejected
    · extract_lets signed s2
      have hs2 : Kept a s2 := .ite hs1 hs1.updSec
      exact hs2.fillBank.postDone
theorem Kept.seqLoad {r bank unsigned imgOfs imgLen sigOfs sigLen} (h : Kept a s) :
    Kept a (seqLoad r bank unsigned imgOfs imgLen sigOfs sigLen s).st := by
  unfold Machine.seqLoad
  split
  · exact h
  · split
    · exact h
    · extract_lets j
      exact (h.clearBank.updSeqDev (by exact id)).ans
theorem Kept.execSeqLoad {r bank unsigned imgOfs imgLen sigOfs sigLen} (h : Kept a s) :
    Steps a (execSeqLoad r bank unsigned imgOfs imgLen sigOfs sigLen s) :=
  .next (h.serve fun _ h' => h'.seqLoad)
theorem Kept.requestSwap {ns mb} (h : Kept a s) : Kept a (requestSwap s ns mb) :=
  (h.updSeqDev (by exact id)).forEach fun _ _ h' => h'.setLine
theorem Kept.seqSwap {r mask} (h : Kept a s) : Kept a (seqSwap r mask s).st := .iteA h h.requestSwap
theorem Kept.execSeqSwap {r mask} (h : Kept a s) : Steps a (execSeqSwap r mask s) := .next (h.serve fun _ h' => h'.seqSwap)
theorem Kept.swapFinish {mb seq} (h : Kept a s) : Kept a (swapFinish s mb seq) := by
  unfold Machine.swapFinish
  split
  · exact .ite (.ite ((h.updSeqDev (by exact id)).postDone) h) h
  · exact h.postDone
theorem Kept.auditFailed {b} (h : Kept a s) : Kept a (auditFailed s b) := by
  unfold Machine.auditFailed
  extract_lets +onlyGivenNames isB s1 img
  have hs1 : Kept a s1 := h.updSeqDev (by exact id)
  split
  · exact hs1.report.startBreakwater
  · extract_lets s2 s3
    have hs2 : Kept a s2 := hs1.report
    have hs3 : Kept a s3 := by
      unfold s3
      clear_value img
      split
      · exact hs2.fillBank
      · exact hs2
    exact hs3.requestSwap
theorem Kept.execStoreAudit {b digest} (h : Kept a s) : Steps a (execStoreAudit b digest s) :=
  .next (.ite (.ite ((h.updSeqDev (by exact id)).auditFailed) (h.updSeqDev (by exact id))) h)
theorem Kept.reinitSeq {n} (h : Kept a s) : Kept a (reinitSeq s n) :=
  .ite h ((((h.updSeq (by exact fun _ => id)).forEach fun _ _ h' => h'.complete).updSeq (by exact fun _ => id)).enterAt)
theorem Kept.seqGet {seq clear} (h : Kept a s) : Kept a (seqGet seq clear s).st := by
  unfold Machine.seqGet
  split
  · exact h
  · extract_lets k s1
    have hs1 : Kept a s1 := h.updSeq (by exact fun _ => id)
    exact (hs1.updSeqDev (by exact id)).getA
theorem Kept.execSeqGetStatus {r seq clear} (h : Kept a s) : Steps a (execSeqGetStatus r seq clear s) :=
  .next (h.serve fun _ h' => h'.seqGet)
theorem Kept.seqResume {seq} (h : Kept a s) : Kept a (seqResume seq s).st := by
  unfold Machine.seqResume
  split
  · exact h
  · exact .iteA (h.updSeq (by exact fun _ => id)) h
theorem Kept.execSeqResume {r seq} (h : Kept a s) : Steps a (execSeqResume r seq s) :=
  .next (h.serve fun _ h' => h'.seqResume)
theorem Kept.seqLimits {ps} (h : Kept a s) : Kept a (seqLimits ps s).st :=
  .iteA h (h.setA_of (P := fun d => d.banks = s.seqDev.banks) rfl (by simp [seqPars, parN])
    fun _ hb => h.same (by simp [keptParts, hb]))
theorem Kept.execSeqSetLimits {r ps} (h : Kept a s) : Steps a (execSeqSetLimits r ps s) :=
  .next (h.serve fun _ h' => h'.seqLimits)

/-! ### Firmware -/

theorem Kept.updSlot {k f} (h : Kept a s) : Kept a (updSlot s k f) := h.updNv (by exact fusesKept.refl _)
theorem Kept.markNext {k} (h : Kept a s) : Kept a (markNext s k) := h.updNv (by exact fusesKept.refl _)
theorem Kept.writeSlot {k next p} (h : Kept a s) : Kept a (writeSlot s k next p).1 := by
  unfold Machine.writeSlot
  extract_lets s1
  have hs1 : Kept a s1 := h.updSlot
  split
  · exact hs1.imageRejected
  · exact .ite hs1.markNext hs1
theorem Kept.fwCommit {r slot next imgOfs imgLen sigOfs sigLen} (h : Kept a s) :
    Kept a (fwCommit r slot next imgOfs imgLen sigOfs sigLen s).st := by
  unfold Machine.fwCommit
  extract_lets img start
  have hj {j} : Kept a (start j).st := (h.updFw (by exact id)).ans
  exact .iteA h (.iteA (.iteA h (.iteA h (.iteA h hj))) (.iteA h (.iteA h hj)))
theorem Kept.execFwCommit {r slot next imgOfs imgLen sigOfs sigLen} (h : Kept a s) :
    Steps a (execFwCommit r slot next imgOfs imgLen sigOfs sigLen s) :=
  .next (h.serve fun _ h' => h'.fwCommit)
theorem Kept.commitFinish {mb seq} (h : Kept a s) : Kept a (commitFinish s mb seq) := by
  unfold Machine.commitFinish
  split
  · exact h
  · split
    · exact h
    · extract_lets +onlyGivenNames s1
      have hs1 : Kept a s1 := h.updFw (by exact id)
      exact .ite ((hs1.updNv (by exact fusesKept.refl _)).postDone) (.ite hs1.postDone hs1.writeSlot.postDone)
theorem Kept.slipEnd {status aux} (h : Kept a s) : Kept a (slipEnd s status aux) := by
  unfold Machine.slipEnd
  extract_lets s1
  have hs1 : Kept a s1 := h.updFw (by exact id)
  split
  · exact .ite hs1.finishOk hs1.finish
  · exact .dite (fun _ => hs1.postDone) (fun _ => hs1)
theorem Kept.slipPrepare (h : Kept a s) : Kept a (slipPrepare s) := by
  unfold Machine.slipPrepare
  extract_lets +onlyGivenNames idle
  split
  · exact h.slipEnd
  · split
    · exact .ite h.slipEnd (.ite h.slipEnd ((h.fillBank.updFw (by exact id)).requestSwap))
    · exact h.imageRejected.slipEnd
    · exact h.slipEnd
theorem Kept.slipResume (h : Kept a s) : Kept a (slipResume s) := by
  unfold Machine.slipResume
  split
  · exact h
  · split
    · exact h
    · split
      · exact h
      · exact ((h.other.updSeqDev (by exact id)).updFw (by exact id)).raise.slipEnd.raiseSvn
theorem Kept.slipStep (h : Kept a s) : Kept a (slipStep s) := by
  unfold Machine.slipStep
  split
  · exact h.slipPrepare
  · exact h.slipResume
  · exact h
theorem Kept.fwActivate {r slot} (h : Kept a s) : Kept a (fwActivate r slot s).st := by
  unfold Machine.fwActivate
  split
  · exact h
  · split
    · exact h
    · exact (h.updFw (by exact id)).ans
theorem Kept.execFwActivate {r slot} (h : Kept a s) : Steps a (execFwActivate r slot s) :=
  .next (h.serve fun _ h' => h'.fwActivate)
theorem Kept.execSlipwayBackout {aux} (h : Kept a s) : Steps a (execSlipwayBackout aux s) :=
  .next (.ite ((((h.updSeqDev (by exact id)).forEach fun _ _ h => h.takeSwap).forEach fun _ _ h' => h'.updSeq
      (by exact fun _ => id)).raise.slipEnd) h)
theorem Kept.fwSlots (h : Kept a s) : Kept a (fwSlots s).st := h
theorem Kept.execFwGetSlots {r} (h : Kept a s) : Steps a (execFwGetSlots r s) := .next (h.serve fun _ h' => h'.fwSlots)
theorem Kept.slipForTag {r k} (h : Kept a s) : Kept a (slipForTag s r k) := .ite h.finish ((h.updFw (by exact id)).updTag)
theorem Kept.storeImage {r fs next run} (h : Kept a s) : Kept a (storeImage s r fs next run) :=
  .ite h.finish (.ite h.writeSlot.finish (.ite h.writeSlot.slipForTag h.writeSlot.finishOk))
theorem Kept.markAct {r fs} (h : Kept a s) : Kept a (markAct s r fs) := by
  unfold Machine.markAct
  split
  · exact .ite h.markNext.finishOk h.finish
  · exact h.finish
theorem Kept.fwCommitAct {r} (h : Kept a s) : Kept a (fwCommitAct s r) := by
  unfold Machine.fwCommitAct
  split
  · exact h.storeImage
  · exact h.storeImage
  · exact h.markAct
  · exact h.storeImage
  · exact h.finish
theorem Kept.execFirmwareCommitCa000 {t'} (h : Kept a s) : Steps a (execFirmwareCommitCa000 t' s) :=
  .next (h.adminRow (fun _ _ h' => h'.fwCommitAct))
theorem Kept.execFirmwareCommitCa001 {t'} (h : Kept a s) : Steps a (execFirmwareCommitCa001 t' s) :=
  .next (h.adminRow (fun _ _ h' => h'.fwCommitAct))
theorem Kept.execFirmwareCommitCa010 {t'} (h : Kept a s) : Steps a (execFirmwareCommitCa010 t' s) :=
  .next (h.adminRow (fun _ _ h' => h'.fwCommitAct))
theorem Kept.execFirmwareCommitCa011 {t'} (h : Kept a s) : Steps a (execFirmwareCommitCa011 t' s) :=
  .next (h.adminRow (fun _ _ h' => h'.fwCommitAct))
theorem Kept.writeBufferAct {r} (h : Kept a s) : Kept a (writeBufferAct s r) := by
  unfold Machine.writeBufferAct
  extract_lets +onlyGivenNames mode
  split
  · split
    · exact h.slipForTag
    · exact h.finish
  · exact .ite h.finish (.ite h.finish (.ite h.putDownload.storeImage h.putDownload.finishOk))

/-! ### Pmu -/

theorem Kept.updPmu {f} (h : Kept a s) : Kept a (updPmu s f) := h.other
theorem Kept.updRail {soc f} (h : Kept a s) : Kept a (updRail s soc f) := h.updPmu
theorem Kept.lowerCore {floor} (h : Kept a s) : Kept a (lowerCore s floor) := h.updPmu
theorem Kept.lowerFirst {mv} (h : Kept a s) : Kept a (lowerFirst s mv) := .ite h.other.updPmu h
theorem Kept.sendRail {soc mv} (h : Kept a s) : Kept a (sendRail s soc mv) :=
  .ite h ((Kept.ite h h.lowerFirst).updRail.emit)
theorem Kept.askRail {soc mv} (h : Kept a s) : Kept a (askRail s soc mv) := .ite h h.sendRail
theorem Kept.atLimit {soc m} (h : Kept a s) : Kept a (atLimit s soc m) := .ite h.raise h.lowerCore
theorem Kept.tickRail {soc m} (h : Kept a s) : Kept a (tickRail s soc m) :=
  .ite h.updRail.atLimit (.ite (.ite h.updRail h.updRail.askRail) (.ite h.updRail.askRail (.ite h.updRail.askRail
      h.updRail)))
theorem Kept.execAvsTick {cpu soc} (h : Kept a s) : Steps a (execAvsTick cpu soc s) :=
  .next (.ite h.updPmu.tickRail.tickRail h)
theorem Kept.execSpeedMonitorEmergency {soc} (h : Kept a s) : Steps a (execSpeedMonitorEmergency soc s) :=
  .next (.ite (.ite (.ite h.sendRail h) h.updPmu) h)
theorem Kept.ackRail {soc mv} (h : Kept a s) : Kept a (ackRail s soc mv) := .ite h.updRail h.updRail.updPmu
theorem Kept.execAvsAcknowledge {soc ok} (h : Kept a s) : Steps a (execAvsAcknowledge soc ok s) := by
  unfold Machine.execAvsAcknowledge
  refine .next ?_
  split
  · exact h
  · exact .ite h.ackRail (.ite h.updRail (.ite h.updRail.emit h.updRail.updPmu.raise))
theorem Kept.execCoreFrequencyRaise (h : Kept a s) : Steps a (execCoreFrequencyRaise s) := by
  unfold Machine.execCoreFrequencyRaise
  refine .next ?_
  split
  · exact .ite h.updPmu h
  · exact h
theorem Kept.thermActions (h : Kept a s) : Kept a (thermActions s) := h.thermalCap.other
theorem Kept.execThermalSensorRead {sensors} (h : Kept a s) : Steps a (execThermalSensorRead sensors s) := by
  unfold Machine.execThermalSensorRead
  refine .next ?_
  split
  · exact h
  · exact .ite (.ite h.updPmu ((Kept.ite h.updPmu.raise h.updPmu).thermActions)) h
theorem Kept.execThermalThrottleStep (h : Kept a s) : Steps a (execThermalThrottleStep s) := by
  unfold Machine.execThermalThrottleStep
  refine .next ?_
  split
  · split
    · exact h.lowerCore
    · split
      · exact h
      · exact h.updPmu
  · exact h
theorem Kept.execThermalRelease (h : Kept a s) : Steps a (execThermalRelease s) := .next (.ite h.updPmu.thermActions h)
theorem Kept.execThermalTrip (h : Kept a s) : Steps a (execThermalTrip s) := .next (.ite h.startBreakwater h)
theorem Kept.applyPolicy (h : Kept a s) : Kept a (applyPolicy s) :=
  .ite ((Kept.ite ((Kept.ite h.updPmu h).askRail) (.ite h.updPmu h)).askRail) (.ite ((Kept.ite h.updPmu h).askRail)
      (.ite h.updPmu h))
theorem Kept.supplyPolicy {ps} (h : Kept a s) : Kept a (supplyPolicy ps s).st := h.setA (fun _ => h.other.applyPolicy)
theorem Kept.execPwrSupplyPolicy {r ps} (h : Kept a s) : Steps a (execPwrSupplyPolicy r ps s) :=
  .next (h.serve fun _ h' => h'.supplyPolicy)
theorem Kept.pwrGet (h : Kept a s) : Kept a (pwrGet s).st := h
theorem Kept.execPwrGetStatus {r} (h : Kept a s) : Steps a (execPwrGetStatus r s) := .next (h.serve fun _ h' => h'.pwrGet)

/-! ### Start -/

theorem Kept.sampleStraps (h : Kept a s) : Kept a (sampleStraps s) := .ite h.other.updQuay.raise h.other.updQuay
theorem Kept.otpFault {x} (h : Kept a s) : Kept a (otpFault s x) :=
  (Kept.ite (h.updNv (by exact fusesKept.refl _)) (.ite (h.updNv (by exact fusesKept.refl _)) (.ite (h.updNv
      (by exact fusesKept.refl _)) (.ite (h.updNv (by exact fusesKept.refl _)) (.ite h.updSec h))))).raise
theorem Kept.bootB1 {b} (h : Kept a s) : Kept a (bootB1 b s) := by
  unfold Machine.bootB1
  extract_lets s0 s1 s2
  have hs0 : Kept a s0 := .ite (h.updNv ⟨Nat.le_refl _, Nat.le_refl _, Nat.le_refl _, Nat.le_refl _, fun _ => rfl, id,
      fun _ => id, fun _ => id⟩) h
  have hs2 : Kept a s2 := hs0.updSec.sampleStraps.forEach fun _ _ h' => h'.otpFault
  exact .ite hs2.raise hs2
theorem Kept.bootHalt {code slot} (h : Kept a s) : Kept a (bootHalt s code slot) := h.updQuay.updBoot.other.raise
theorem Kept.execHaltUartLine (h : Kept a s) : Steps a (execHaltUartLine s) := .next (.ite h.emit h)
theorem Kept.rejectSlot {k} (h : Kept a s) : Kept a (rejectSlot s k) := by
  unfold Machine.rejectSlot
  extract_lets s1
  have hs1 : Kept a s1 := h.updSlot
  split
  · split
    · exact hs1.imageRejected
    · exact hs1
  · exact hs1
theorem Kept.startFirmware {b k rejected p} (h : Kept a s) : Kept a (startFirmware s b k rejected p) := by
  unfold Machine.startFirmware
  extract_lets s1 s2 s3
  have hs1 : Kept a s1 := h.updDram fun _ => rfl
  have hs2 : Kept a s2 := by
    unfold s2
    split
    · exact (Kept.ite hs1.fillBank.updSec hs1.fillBank).forEach fun _ _ h' => h'.enterAt
    · exact hs1
  exact (hs2.updBoot.updFw (by exact id)).raise
theorem Kept.applySetter {i} (h : Kept a s) : Kept a (applySetter s i) := by
  unfold Machine.applySetter
  split
  · exact h.setSurface
  · exact h.setZoneMap
  · exact h.setRatio
  · exact h.setGuard
  · exact h.setDemod
  · exact h.setLaw
  · exact h.setRwo
  · exact h.setMaGain
  · exact h.setSeek
  · exact h.setFollow
  · exact h.setTwin
  · exact h.spnSetSpeed
  · exact h.spnSetPolicy
  · exact h.spnSetLimits
  · exact h.spnSetMotor
  · exact h.setFormat
  · exact h.setFrontend
  · exact h.setEq
  · exact h.setDetector
  · exact h.setSync
  · exact h.setRecovery
  · exact h.wrpFormat
  · exact h.wrpAssist
  · exact h.wrpFh
  · exact h.wrpLimits
  · exact h.wrpWear
  · exact h.lnkLimits
  · exact h.pslSafe
  · exact .ite h.brtLayout h
  · exact h.brtLimits
  · exact h.brtPatrol
  · exact h.brtCkpt
  · exact h.brtSetHealth
  · exact h.brtSetRebuild
  · exact h.quayArb
  · exact h.quayAllot
  · exact h.quayAdmit
  · exact h.quayPower
  · exact h.drcScrub
  · exact h.drcPort
  · exact h.drcTrain
  · exact h.drcPower
  · exact h.seqLimits
  · exact h.supplyPolicy
  · exact h
theorem Kept.applyConfig (h : Kept a s) : Kept a (applyConfig s) := by
  unfold Machine.applyConfig
  extract_lets life t0
  have ht0 : Kept a t0 := h.updSec.forEach fun _ _ h => h.applySetter
  exact ht0.updSec
theorem Kept.loadFF {ff} (h : Kept a s) : Kept a (loadFF s ff) := h.other
theorem Kept.loadKeys (h : Kept a s) : Kept a (loadKeys s) :=
  (h.updNv (by exact fusesKept.refl _)).forEach fun _ _ h' => by
    split
    · split
      · exact h'.loadSlot
      · exact h'
    · exact h'
theorem Kept.loadIncidents {l} (h : Kept a s) : Kept a (loadIncidents s l) := h.other
theorem Kept.putCtrBlock {okA okB} (h : Kept a s) : Kept a (putCtrBlock s okA okB) :=
  (h.updNv (by exact fusesKept.refl _)).other
theorem Kept.loadSeams (h : Kept a s) : Kept a (loadSeams s) := h.other
theorem Kept.loadPars (h : Kept a s) : Kept a (loadPars s) := h.other
theorem Kept.bootB7 {b} (h : Kept a s) : Kept a (bootB7 b s) := by
  unfold Machine.bootB7
  extract_lets s1 s2 s3 s4 s5 s6
  have hs2 : Kept a s2 := h.updPmu.updQuay.applyConfig.loadFF.loadSeams.loadPars
  have hs4 : Kept a s4 := hs2.loadKeys.updSec.forEach fun _ _ h' => h'.updPlk
  have hs6 : Kept a s6 := by
    refine hs4.updPsl.forEach fun s p h' => ?_
    split
    · exact h'.updFn
    · exact h'
  exact hs6.spnStart.updBoot
theorem Kept.resumeCounts (h : Kept a s) : Kept a (resumeCounts s) := h.updBrt
theorem Kept.requeueStripes (h : Kept a s) : Kept a (requeueStripes s) :=
  h.forEach fun _ _ h' => by
    split
    · exact .ite h'.destageFull (.ite h' h'.updBrt)
    · exact h'
theorem Kept.refillParity (h : Kept a s) : Kept a (refillParity s) :=
  h.forEach fun _ _ h' => by
    split
    · exact h'.updBrt
    · exact h'
theorem Kept.resumeRebuilds (h : Kept a s) : Kept a (resumeRebuilds s) :=
  (h.forEach fun _ _ h' => by
    split
    · exact (Kept.ite h'.queueRebuild h').queueAhead
    · exact h').forEach fun _ _ h => h.queueReshape
theorem Kept.keepFailed (h : Kept a s) : Kept a (keepFailed s) := h.forEach fun _ _ h' => h'.updActRec.updAct
theorem Kept.replayTables {c bad} (h : Kept a s) : Kept a (replayTables s c bad) :=
  h.other.keepFailed.resumeCounts.requeueStripes.refillParity.resumeRebuilds
theorem Kept.cutBerth {b} (h : Kept a s) : Kept a (cutBerth s b) :=
  .ite h (.ite h.updBerth.updTbl h.updBerth.updBrt.sealBerth)
theorem Kept.mayBeLost {seq why} (h : Kept a s) : Kept a (mayBeLost s seq why) := by
  unfold Machine.mayBeLost
  extract_lets +onlyGivenNames zs s1 s2 s3 fs s4
  have hs2 : Kept a s2 := (h.forEach fun _ _ h' => h'.updZone).forEach fun _ _ h' =>
    h'.forEach fun _ _ h'' => .ite h''.updFn h''.updFn.asyncEvent
  have hs3 : Kept a s3 := hs2.updQuay.updBoot
  have hs4 : Kept a s4 := .ite hs3 (hs3.forEach fun _ _ h' => h'.asyncEvent)
  exact hs4.raise
theorem Kept.loadCkpt {b why} (h : Kept a s) : Kept a (loadCkpt s b why) :=
  (h.other.keepFailed.forEach fun _ _ h => h.cutBerth).resumeCounts.resumeRebuilds.mayBeLost
theorem Kept.keepBlocks {bs bad} (h : Kept a s) : Kept a (keepBlocks s bs bad) :=
  h.forEach fun _ _ h' => by
    split
    · exact .ite h' h'.installConv
    · exact h'
theorem Kept.startNumbering {saved next} (h : Kept a s) : Kept a (startNumbering s saved next) :=
  h.updEvr.forEach fun _ _ h => h.number
theorem Kept.loadRings {rs} (h : Kept a s) : Kept a (loadRings s rs) := h.updQuay
theorem Kept.persistReplayed {ff} (h : Kept a s) : Kept a (persistReplayed s ff) :=
  .ite h.other (h.putCtrBlock.updNv (by exact fusesKept.refl _))
theorem poisonLines_canonical {d : Dram} (l : List (Nat × Poison)) (m : SMap DLine)
    (hm : dramCanonical { d with lines := m } = true) :
    dramCanonical { d with lines := l.foldl (fun m p => smWrite {} m p.1 { poison := p.2 }) m } = true := by
  induction l generalizing m with
  | nil => exact hm
  | cons p l ih => exact ih _ (dramCanonical_write (d := { d with lines := m }) rfl hm)
theorem Kept.replayImage {b k} (h : Kept a s) : Kept a (replayImage s b k) := by
  unfold Machine.replayImage
  extract_lets ar c cm s1 s2 s3 s4 s5 s6 s7 s8
  have hs1 : Kept a s1 := h.startNumbering
  have hs3 : Kept a s3 := (Kept.loadIncidents (.other hs1)).persistReplayed.loadFF.loadRings
  have hs4 : Kept a s4 := (hs3.updDram fun _ => poisonLines_canonical _ [] rfl).updBrt
  have hs8 : Kept a s8 := hs4.raise.raise.raise.updBoot
  exact .ite hs8.loadCkpt.keepBlocks hs8.replayTables
theorem Kept.checkpointPath {b bad} (h : Kept a s) : Kept a (checkpointPath s b bad) := by
  unfold Machine.checkpointPath
  extract_lets +onlyGivenNames s1 blk t s2 s3 why
  have hs1 : Kept a s1 := h.startNumbering
  clear_value blk
  have ht : Kept a t := by
    unfold t
    split
    · exact hs1.other.loadIncidents
    · exact hs1
  have hs2 : Kept a s2 := by
    unfold s2
    split
    · exact ht.raise
    · split
      · exact hs1.loadIncidents
      · exact hs1
  have hs3 : Kept a s3 := by
    unfold s3
    split
    · exact hs2.raise.updDevCtr
    · exact hs2
  exact hs3.updBoot.updBrt.loadCkpt
theorem Kept.eraseOthers {used} (h : Kept a s) : Kept a (eraseOthers s used) := h.updNv (by exact fusesKept.refl _)
theorem Kept.epochChange {old} (h : Kept a s) : Kept a (epochChange s old) :=
  .ite h ((h.updNv (by exact fusesKept.refl _)).other.updQuay.other.raise)
theorem Kept.countCycle (h : Kept a s) : Kept a (countCycle s) := .ite (.ite h.updDevCtr.other h.updDevCtr.putCtrBlock) h
theorem Kept.finishErases (h : Kept a s) : Kept a (finishErases s) :=
  .ite ((h.forEach fun _ _ h' => by
    split
    · exact h'.clearNs
    · exact h').eraseFinish) h
theorem Kept.bootB9 {b} (h : Kept a s) : Kept a (bootB9 b s) := by
  unfold Machine.bootB9
  refine .ite h ?_
  extract_lets +onlyGivenNames img r used s1 s2 src src' s3 s4
  clear_value used
  have hs1 : Kept a s1 := by
    unfold s1
    split
    · exact h.replayImage
    · exact h.checkpointPath
  have hs2 : Kept a s2 := hs1.countCycle.epochChange.eraseOthers
  have hs3 : Kept a s3 := .ite hs2.raise.other hs2
  exact (hs3.updEvr.forEach fun _ _ h' => h'.wearLoad).finishErases.derateCheck.updBoot
theorem Kept.keepWarning (h : Kept a s) : Kept a (keepWarning s) := .ite h.updQuay h.updBoot
theorem Kept.execInternalResetRelease {b} (h : Kept a s) : Steps a (execInternalResetRelease b s) := by
  refine .next (.ite h ?_)
  extract_lets +onlyGivenNames src s0 s1 s2
  have hs0 : Kept a s0 := h.updBoot.other
  have hs1 : Kept a s1 := hs0.keepWarning.bootB1
  have hs2 : Kept a s2 := by
    refine .ite hs1.bootHalt ?_
    split
    · exact (hs1.forEach fun _ _ h' => h'.rejectSlot).bootHalt
    · exact .ite (Kept.bootHalt (.ite hs1 hs1.rejectSlot)) (Kept.bootB9 (.bootB7 (.startFirmware (.ite hs1 hs1.rejectSlot))))
  exact hs2.updBoot
theorem Kept.execBootSpindleTimeout (h : Kept a s) : Steps a (execBootSpindleTimeout s) := .next (.ite h.bootHalt h)
theorem Kept.execHostAdmission (h : Kept a s) : Steps a (execHostAdmission s) :=
  .next (.ite (((h.updBoot.other.updQuay.updMbx (by exact fun _ => id)).updMbx
      (by exact fun _ => id)).raise.raiseSvn.refresh) h)

/-! ### Scsi -/

theorem Kept.attn {f nexus code} (h : Kept a s) : Kept a (attn s f nexus code) := h.updFn
theorem Kept.attnOthers {f nexus code} (h : Kept a s) : Kept a (attnOthers s f nexus code) :=
  h.forEach fun _ _ h' => h'.attn
theorem Kept.dropAttn {f e} (h : Kept a s) : Kept a (dropAttn s f e) := h.updFn
theorem Kept.inquiryData {f c} (h : Kept a s) : Kept a (inquiryData s f c).2 := by
  unfold Machine.inquiryData
  dsimp only
  exact h.sheet
theorem Kept.requestSense {f c} (h : Kept a s) : Kept a (requestSense s f c).2 := by
  unfold Machine.requestSense
  split
  · exact h
  · split
    · exact h.dropAttn
    · exact h
theorem Kept.logSenseData {f c x} (h : Kept a s) (e : logSenseData s f c = .ok x) : Kept a x.2 := by
  unfold Machine.logSenseData at e
  dsimp only at e
  split at e
  · cases e
    exact h
  split at e
  · cases e
    exact h.other
  split at e
  · cases e
    exact h.other
  · cases e
theorem Kept.modePage {f pc page} (h : Kept a s) : Kept a (modePage s f pc page).2 := by
  unfold Machine.modePage
  dsimp only
  split
  · exact h
  · exact h.sheet
theorem Kept.modePages {f k} {ps : List Nat} {l : List Byte} (h : Kept a s) :
    Kept a (ps.foldl (fun (x : List Byte × State) p => let d := Machine.modePage x.2 f k p; (x.1 ++ d.1, d.2)) (l, s)).2
        := by
  induction ps generalizing s l with
  | nil => exact h
  | cons p ps ih => exact ih (s := (Machine.modePage s f k p).2) h.modePage
theorem Kept.modeSenseData {f c x} (h : Kept a s) (e : modeSenseData s f c = .ok x) : Kept a x.2 := by
  unfold Machine.modeSenseData at e
  split at e
  · cases e
  · exact Except.ok.inj e ▸ h.modePages
theorem Kept.putPages {f save ps} (h : Kept a s) : Kept a (putPages s f save ps) :=
  h.forEach fun _ _ h' => .ite (h'.updFn.updNv (by exact fusesKept.refl _)) h'.updFn
theorem Kept.modeSelect {r} (h : Kept a s) : Kept a (modeSelect s r) := by
  unfold Machine.modeSelect
  extract_lets bs desc
  split
  · exact h.finishOk
  · split
    · exact h.finish
    · split
      · exact h.finish
      · exact h.putPages.attnOthers.finishOk
theorem Kept.prNotify {f was now who} (h : Kept a s) : Kept a (prNotify s f was now who) :=
  h.forEach fun _ _ h' => by
    split
    · exact h'.attn
    · exact h'.attn
    · exact h'
theorem Kept.prOutAct {r} (h : Kept a s) : Kept a (prOutAct s r) := by
  unfold Machine.prOutAct
  extract_lets x
  split
  · exact h.finish
  · exact h.putRsv.prNotify.finishOk
theorem Kept.formatUnit {r} (h : Kept a s) : Kept a (formatUnit s r) := by
  unfold Machine.formatUnit
  split
  · exact .ite h.finish h.formatNs.finishOk
  · exact h.finish
theorem Kept.sanitizeUnit {r} (h : Kept a s) : Kept a (sanitizeUnit s r) := by
  unfold Machine.sanitizeUnit
  split
  · exact .ite h.cryptoErase.finishOk h.finish
  · exact h.finish
theorem Kept.giveData {r d} (h : Kept a d.2) : Kept a (giveData r d) := h.commitTag.sendData.finishOk
theorem Kept.giveOr {r d} (h : Kept a s) (hd : ∀ x, d = .ok x → Kept a x.2) : Kept a (giveOr s r d) := by
  unfold Machine.giveOr
  split
  · exact (hd _ rfl).giveData
  · exact h.finish
theorem Kept.sendAct {mb r} (h : Kept a s) : Kept a (sendAct mb s r) := by
  unfold Machine.sendAct
  extract_lets bs
  exact .ite h.finish (.ite h.finish (h.updMbx fun _ hx => mbxCanonical_reqSlot hx).finishOk)
theorem Kept.receiveAct {mb r} (h : Kept a s) : Kept a (receiveAct mb s r) :=
  .ite h.finishOk (.giveData (h.updMbx (by exact fun _ => id)))
theorem Kept.receiveNtf {mb r} (h : Kept a s) : Kept a (receiveNtf mb s r) :=
  .ite h.finishOk (.giveData (h.updMbx (by exact fun _ => id)))
theorem Kept.sasAct {r} (h : Kept a s) : Kept a (sasAct s r) := by
  unfold Machine.sasAct
  extract_lets c
  split
  case h_1 => exact .giveData h.inquiryData
  case h_2 => exact .giveData h
  case h_3 => exact h.finishOk
  case h_4 => exact .giveData h.requestSense
  case h_5 =>
    split
    · exact .giveData h
    · exact h.finish
  case h_6 => exact h.formatUnit
  case h_7 => exact h.sanitizeUnit
  case h_8 => exact h.giveOr fun _ e => h.modeSenseData e
  case h_9 => exact h.modeSelect
  case h_10 => exact h.giveOr fun _ e => h.logSenseData e
  case h_11 => exact h.updFn.finishOk
  case h_12 => exact h.writeBufferAct
  case h_13 => exact .giveData h.sheet
  case h_14 => exact h.securityIn
  case h_15 =>
    split
    · exact .giveData h
    · exact h.finish
  case h_16 => exact h.prOutAct
  case h_17 =>
    split
    · exact .ite h.finish (.ite h.finish (.giveData h))
    · exact h.finish
  case h_18 => exact h.sendAct
  case h_19 => exact .ite h.receiveNtf h.receiveAct
  case h_20 => exact h.finish
theorem Kept.sasBody {r} (h : Kept a s) : Kept a (sasBody s r) := .ite h.ioAct (.ite h.updTag h.sasAct)
theorem Kept.sasRun {r} (h : Kept a s) : Kept a (sasRun s r) := by
  unfold Machine.sasRun
  split
  · exact h.finish
  · exact .ite (h.admitCmd (fun _ _ h' => h'.sasBody)) (.ite h.updTag h.sasBody)
theorem Kept.noteGrant {f} (h : Kept a s) : Kept a (noteGrant s f) := h.chargeC.updQuay.rescale
theorem Kept.sasEntered {r} (h : Kept a s) : Kept a (sasEntered s r) := h.updTag.noteGrant.updFn.knowCmd
theorem Kept.grantSas {r} (h : Kept a s) : Kept a (grantSas s r) := by
  refine Kept.refresh ?_
  split
  · exact h.sasEntered.sasRun
  · exact h.sasEntered
theorem Kept.sasAnswer {f c st} (h : Kept a s) : Kept a (sasAnswer s f c st) := h.emit
theorem Kept.sasEarly {f c} (h : Kept a s) : Kept a (sasEarly s f c) :=
  .ite h.inquiryData.emit.sasAnswer (.ite h.emit.sasAnswer (.ite h.requestSense.emit.sasAnswer h.sasAnswer))
theorem Kept.knowNexus {n} (h : Kept a s) : Kept a (knowNexus s n) := h.updQuay
theorem Kept.takeTag {f c t'} (h : Kept a s) : Kept a (takeTag s f c t') := h.updCmds.updFn
theorem Kept.endReceived {t' st} (h : Kept a s) : Kept a (endReceived s t' st) := h.updTag.finish
theorem Kept.afterTag {f c t'} (h : Kept a s) : Kept a (afterTag s f c t') := by
  unfold Machine.afterTag
  split
  · exact h.dropAttn.endReceived
  · split
    · exact h.endReceived
    · extract_lets s1
      have hs1 : Kept a s1 := h.refresh
      split
      · exact .ite hs1.grantSas hs1
      · exact hs1
theorem Kept.sasReceive {f c} (h : Kept a s) : Kept a (sasReceive s f c) := by
  unfold Machine.sasReceive
  extract_lets s0
  have hs0 : Kept a s0 := h.knowNexus
  split
  · exact hs0.sasAnswer
  · split
    · exact hs0.takeTag.afterTag
    · exact hs0.sasAnswer
theorem Kept.sasRow {f c} (h : Kept a s) : Kept a (sasRow s f c) :=
  .ite h (.ite h.sasAnswer (.ite h.sasEarly (.ite h.sasReceive h)))
theorem Kept.execInquiry {lu c} (h : Kept a s) : Steps a (execInquiry lu c s) := .next h.sasRow
theorem Kept.execReportLuns {lu c} (h : Kept a s) : Steps a (execReportLuns lu c s) := .next h.sasRow
theorem Kept.execTestUnitReady {lu c} (h : Kept a s) : Steps a (execTestUnitReady lu c s) := .next h.sasRow
theorem Kept.execRequestSense {lu c} (h : Kept a s) : Steps a (execRequestSense lu c s) := .next h.sasRow
theorem Kept.execReadCapacity16 {lu c} (h : Kept a s) : Steps a (execReadCapacity16 lu c s) := .next h.sasRow
theorem Kept.execRead16 {lu c} (h : Kept a s) : Steps a (execRead16 lu c s) := .next h.sasRow
theorem Kept.execWrite16 {lu c} (h : Kept a s) : Steps a (execWrite16 lu c s) := .next h.sasRow
theorem Kept.execVerify16 {lu c} (h : Kept a s) : Steps a (execVerify16 lu c s) := .next h.sasRow
theorem Kept.execSynchronizeCache16 {lu c} (h : Kept a s) : Steps a (execSynchronizeCache16 lu c s) := .next h.sasRow
theorem Kept.execUnmap {lu c} (h : Kept a s) : Steps a (execUnmap lu c s) := .next h.sasRow
theorem Kept.execFormatUnit {lu c} (h : Kept a s) : Steps a (execFormatUnit lu c s) := .next h.sasRow
theorem Kept.execScsiSanitize {lu c} (h : Kept a s) : Steps a (execScsiSanitize lu c s) := .next h.sasRow
theorem Kept.execModeSense10 {lu c} (h : Kept a s) : Steps a (execModeSense10 lu c s) := .next h.sasRow
theorem Kept.execModeSelect10 {lu c} (h : Kept a s) : Steps a (execModeSelect10 lu c s) := .next h.sasRow
theorem Kept.execLogSense {lu c} (h : Kept a s) : Steps a (execLogSense lu c s) := .next h.sasRow
theorem Kept.execStartStopUnit {lu c} (h : Kept a s) : Steps a (execStartStopUnit lu c s) := .next h.sasRow
theorem Kept.execWriteBufferMode0e {lu c} (h : Kept a s) : Steps a (execWriteBufferMode0e lu c s) := .next h.sasRow
theorem Kept.execWriteBufferMode0f {lu c} (h : Kept a s) : Steps a (execWriteBufferMode0f lu c s) := .next h.sasRow
theorem Kept.execWriteBufferMode07 {lu c} (h : Kept a s) : Steps a (execWriteBufferMode07 lu c s) := .next h.sasRow
theorem Kept.execReadBuffer {lu c} (h : Kept a s) : Steps a (execReadBuffer lu c s) := .next h.sasRow
theorem Kept.execSecurityProtocolIn {lu c} (h : Kept a s) : Steps a (execSecurityProtocolIn lu c s) := .next h.sasRow
theorem Kept.execSecurityProtocolOut {lu c m} (h : Kept a s) : Steps a (execSecurityProtocolOut lu c m s) := by
  unfold Machine.execSecurityProtocolOut
  refine .next ?_
  extract_lets c1 s1
  have hs1 : Kept a s1 := .ite h h.sasRow
  split
  · exact .ite hs1.securityOut hs1
  · exact hs1
theorem Kept.execPersistentReserveIn {lu c} (h : Kept a s) : Steps a (execPersistentReserveIn lu c s) := .next h.sasRow
theorem Kept.execPersistentReserveOut {lu c} (h : Kept a s) : Steps a (execPersistentReserveOut lu c s) := .next h.sasRow
theorem Kept.execScsiReportZones {lu c} (h : Kept a s) : Steps a (execScsiReportZones lu c s) := .next h.sasRow
theorem Kept.execResetWritePointer {lu c} (h : Kept a s) : Steps a (execResetWritePointer lu c s) := .next h.sasRow
theorem Kept.execOpenZone {lu c} (h : Kept a s) : Steps a (execOpenZone lu c s) := .next h.sasRow
theorem Kept.execCloseZone {lu c} (h : Kept a s) : Steps a (execCloseZone lu c s) := .next h.sasRow
theorem Kept.execFinishZone {lu c} (h : Kept a s) : Steps a (execFinishZone lu c s) := .next h.sasRow
theorem Kept.execMailboxSend {lu port c} (h : Kept a s) : Steps a (execMailboxSend lu port c s) := .next h.sasRow
theorem Kept.execMailboxReceive {lu port c} (h : Kept a s) : Steps a (execMailboxReceive lu port c s) := .next h.sasRow
theorem Kept.execMailboxReceiveNotify {lu port c} (h : Kept a s) : Steps a (execMailboxReceiveNotify lu port c s) :=
  .next h.sasRow
theorem Kept.tmAnswer {f nexus code resp} (h : Kept a s) : Kept a (tmAnswer s f nexus code resp) := .ite h.knowNexus.emit h
theorem Kept.execAbortTask {lu nexus _cid} (h : Kept a s) : Steps a (execAbortTask lu nexus _cid s) := .next h.tmAnswer
theorem Kept.execAbortTaskSet {lu nexus} (h : Kept a s) : Steps a (execAbortTaskSet lu nexus s) :=
  .next (.ite h.knowNexus.sweepFor.endTasks h)
theorem Kept.execClearTaskSet {lu nexus} (h : Kept a s) : Steps a (execClearTaskSet lu nexus s) :=
  .next (.ite h.knowNexus.attnOthers.sweepFor.endTasks h)
theorem Kept.restorePages {f} (h : Kept a s) : Kept a (restorePages s f) := h.updFn
theorem Kept.execLogicalUnitReset {lu nexus} (h : Kept a s) : Steps a (execLogicalUnitReset lu nexus s) :=
  .next (.ite ((h.knowNexus.restorePages.forEach fun _ _ h' => h'.attn).sweepFor.endTasks) h)
theorem Kept.execITNexusReset {nexus} (h : Kept a s) : Steps a (execITNexusReset nexus s) :=
  .next (.ite ((h.knowNexus.forEach fun _ _ h' => h'.attn).sweepFor.endTasks) h)
theorem Kept.execQueryTask {lu nexus cid} (h : Kept a s) : Steps a (execQueryTask lu nexus cid s) := .next h.tmAnswer
theorem Kept.execQueryTaskSet {lu nexus} (h : Kept a s) : Steps a (execQueryTaskSet lu nexus s) := .next h.tmAnswer
theorem Kept.execQueryAsynchronousEvent {lu nexus} (h : Kept a s) : Steps a (execQueryAsynchronousEvent lu nexus s) :=
  .next h.tmAnswer
theorem Kept.execClearAca {lu nexus} (h : Kept a s) : Steps a (execClearAca lu nexus s) := .next h.tmAnswer

/-! ### Execute -/

theorem Kept.adminAct {r} (h : Kept a s) : Kept a (adminAct s r) := by
  unfold Machine.adminAct
  extract_lets c
  split
  · exact h.deleteSqAct
  · exact h.createSqAct
  · exact .ite h.tallyLogAct h.logAct
  · exact h.deleteCqAct
  · exact h.createCqAct
  · exact h.identifyAct
  · exact h.abortAct
  · exact .ite h.setTimeAct h.setFeatAct
  · exact h.getFeatAct
  · exact h.aerAct
  · exact .ite h.nsCreateAct h.nsDeleteAct
  · exact h.fwCommitAct
  · exact h.downloadAct
  · exact h.selfTestAct
  · exact .ite h.detachAct h.attachAct
  · exact h.virtAct
  · exact h.formatAct
  · exact h
  · exact h.securityIn
  · exact h.sanitizeAct
  · exact h.lbaStatusAct
  · exact h.finish
theorem Kept.act {r} (h : Kept a s) : Kept a (act s r) := .ite h.sasBody (.ite h.adminAct (.ite h.finishOk h.ioAct))
theorem Kept.execOrderWaitRelease {t'} (h : Kept a s) : Steps a (execOrderWaitRelease t' s) := by
  unfold Machine.execOrderWaitRelease
  refine .next ?_
  split
  · exact .ite h.act h
  · exact h
theorem Kept.entryTag {f qid t'} (h : Kept a s) : Kept a (entryTag s f qid t') := by
  unfold Machine.entryTag
  extract_lets r
  exact h.updCmds
theorem Kept.grantNvme {f} (h : Kept a s) : Kept a (grantNvme s f) := by
  unfold Machine.grantNvme
  split
  · exact h.updFn.entryTag.touchMoor.updMoor.noteGrant.updQuay.emit.refresh
  · exact h
theorem Kept.execArbiterGrant (h : Kept a s) : Steps a (execArbiterGrant s) := by
  unfold Machine.execArbiterGrant
  refine .next ?_
  extract_lets s1
  have hs1 : Kept a s1 := h.refresh
  split
  · exact hs1
  · split
    · split
      · exact hs1.grantSas
      · exact hs1
    · exact hs1.grantNvme

/-! ### Recorder -/

theorem Kept.updCopy {k f} (h : Kept a s) : Kept a (updCopy s k f) := h.updNv (by exact fusesKept.refl _)
theorem Kept.flushCopy {k ok page} (h : Kept a s) : Kept a (flushCopy s k ok page) := .ite h.updCopy h.updCopy.raise
theorem Kept.flushPage {okA okB page} (h : Kept a s) : Kept a (flushPage s okA okB page) := h.flushCopy.flushCopy
theorem Kept.execEventFlush {okA okB} (h : Kept a s) : Steps a (execEventFlush okA okB s) :=
  .next (.ite h.updEvr.flushPage.coverDrops h)
theorem Kept.putCursor {mb n} (h : Kept a s) : Kept a (putCursor s mb n) := h.updMbx (by exact fun _ => id)
theorem Kept.evtCursor {mb mode pos} (h : Kept a s) : Kept a (evtCursor mb mode pos s).st :=
  .iteA h.putCursor (.iteA h.putCursor (.iteA h (.iteA h h.putCursor)))
theorem Kept.execEvtSetCursor {r mode position} (h : Kept a s) : Steps a (execEvtSetCursor r mode position s) :=
  .next (h.serve fun _ h' => h'.evtCursor)
theorem Kept.evtRead {mb count} (h : Kept a s) : Kept a (evtRead mb count s).st := .iteA h h.putCursor
theorem Kept.execEvtRead {r count} (h : Kept a s) : Steps a (execEvtRead r count s) :=
  .next (h.serve fun _ h' => h'.evtRead)
theorem Kept.clearRing {r} (h : Kept a s) : Kept a (clearRing s r) := h.updEvr.flushPage.notifyEvent
theorem Kept.evtClear {mb roles} (h : Kept a s) : Kept a (evtClear mb roles s).st := h.clearRing.coverDrops
theorem Kept.execEvtClear {r} (h : Kept a s) : Steps a (execEvtClear r s) := .next (h.serve fun _ h' => h'.evtClear)
theorem Kept.ctrRead {scope index} (h : Kept a s) : Kept a (ctrRead scope index s).st := by
  unfold Machine.ctrRead
  split
  · exact h
  · split
    · exact .iteA h h
    · split
      · split
        · exact h
        · exact h
      · split
        · exact .iteA h h
        · exact h
theorem Kept.execCtrRead {r scope index} (h : Kept a s) : Steps a (execCtrRead r scope index s) :=
  .next (h.serve fun _ h' => h'.ctrRead)
theorem Kept.blockFail {k ok} (h : Kept a s) : Kept a (blockFail s k ok) := .ite h h.raise
theorem Kept.execCounterBlockWrite {okA okB} (h : Kept a s) : Steps a (execCounterBlockWrite okA okB s) :=
  .next (.ite h.putCtrBlock.blockFail.blockFail h)
theorem Kept.execPowerOnSecond (h : Kept a s) : Steps a (execPowerOnSecond s) := .next h.updDevCtr.other
theorem Kept.execIncidentClose {index} (h : Kept a s) : Steps a (execIncidentClose index s) := .next h.closeIncident
theorem Kept.getIncident {index} (h : Kept a s) : Kept a (getIncident index s).st := by
  unfold Machine.getIncident
  split
  · exact h
  · exact h
theorem Kept.execHbmGetIncident {r index} (h : Kept a s) : Steps a (execHbmGetIncident r index s) :=
  .next (h.serve fun _ h' => h'.getIncident)

/-! ### Auditor -/

theorem Kept.reinitFn {f} (h : Kept a s) : Kept a (reinitFn s f) := h.endCommands.updQuay.refresh
theorem Kept.interrupt {p} (h : Kept a s) : Kept a (interrupt s p) := h.forEach fun _ _ h' => h'.stopWork.finish
theorem Kept.reinitQuay (h : Kept a s) : Kept a (reinitQuay s) := h.interrupt.refresh
theorem Kept.reinitParity {k} (h : Kept a s) : Kept a (reinitParity s k) := by
  unfold Machine.reinitParity
  extract_lets +onlyGivenNames s1
  have hs1 : Kept a s1 := h.interrupt
  split
  · exact hs1
  · exact hs1.updBrt
theorem Kept.reinitDecoder {d} (h : Kept a s) : Kept a (reinitDecoder s d) := by
  unfold Machine.reinitDecoder
  extract_lets +onlyGivenNames s1
  have hs1 : Kept a s1 := h.interrupt
  split
  · exact hs1
  · exact hs1.other.updChn
theorem Kept.reinitFnA {index} (h : Kept a s) : Kept a (reinitFnA index s).st := by
  unfold Machine.reinitFnA
  split
  · exact h.reinitFn
  · exact h
theorem Kept.execEngineReinitFunction {r index} (h : Kept a s) : Steps a (execEngineReinitFunction r index s) :=
  .next (h.serve fun _ h' => h'.reinitFnA)
theorem Kept.reinitQuayA (h : Kept a s) : Kept a (reinitQuayA s).st := h.reinitQuay
theorem Kept.execEngineReinitQuay {r} (h : Kept a s) : Steps a (execEngineReinitQuay r s) :=
  .next (h.serve fun _ h' => h'.reinitQuayA)
theorem Kept.reinitSeqA {index} (h : Kept a s) : Kept a (reinitSeqA index s).st := by
  unfold Machine.reinitSeqA
  split
  · exact h.reinitSeq
  · exact h
theorem Kept.execEngineReinitSequencer {r index} (h : Kept a s) : Steps a (execEngineReinitSequencer r index s) :=
  .next (h.serve fun _ h' => h'.reinitSeqA)
theorem Kept.reinitMbxA {mb index} (h : Kept a s) : Kept a (reinitMbxA mb index s).st := by
  unfold Machine.reinitMbxA
  split
  · exact .iteA h h.reinitMbx
  · exact h
theorem Kept.execEngineReinitMailbox {r index} (h : Kept a s) : Steps a (execEngineReinitMailbox r index s) :=
  .next (h.serve fun _ h' => h'.reinitMbxA)
theorem Kept.execEngineReinitTally {r} (h : Kept a s) : Steps a (execEngineReinitTally r s) :=
  .next (h.serve fun _ h' => h'.okA)
theorem Kept.reinitParityA {index} (h : Kept a s) : Kept a (reinitParityA index s).st := by
  unfold Machine.reinitParityA
  split
  · exact h.reinitParity
  · exact h
theorem Kept.execEngineReinitParity {r index} (h : Kept a s) : Steps a (execEngineReinitParity r index s) :=
  .next (h.serve fun _ h' => h'.reinitParityA)
theorem Kept.reinitDecoderA {index} (h : Kept a s) : Kept a (reinitDecoderA index s).st := by
  unfold Machine.reinitDecoderA
  split
  · exact h.reinitDecoder
  · exact h
theorem Kept.execEngineReinitDecoder {r index} (h : Kept a s) : Steps a (execEngineReinitDecoder r index s) :=
  .next (h.serve fun _ h' => h'.reinitDecoderA)
theorem Kept.reinitEngine {x} (h : Kept a s) : Kept a (reinitEngine s x) := by
  unfold Machine.reinitEngine
  split
  · split
    · exact h.reinitFn
    · exact h
  · split
    · exact h.reinitQuay
    · split
      · split
        · exact h.reinitSeq
        · exact h
      · split
        · exact .dite (fun _ => h.reinitMbx) (fun _ => h)
        · exact .ite (.dite (fun _ => h.reinitParity) (fun _ => h)) (.ite (.dite (fun _ => h.reinitDecoder) (fun _ => h)) h)
theorem Kept.suspectMinute (h : Kept a s) : Kept a (suspectMinute s) := h.updQuay
theorem Kept.breachAct {j rep} (h : Kept a s) : Kept a (breachAct j s rep) := by
  unfold Machine.breachAct
  extract_lets fns src s0 s1 s2 s3 s4 s5
  have hs0 : Kept a s0 := h.other
  have hs1 : Kept a s1 := .ite hs0.reinitQuay hs0
  have hs3 : Kept a s3 := (hs1.forEach fun _ _ h' => h'.reinitEngine).forEach fun _ _ h' => h'.reinitEngine
  have hs4 : Kept a s4 := .ite hs3.suspectMinute hs3
  exact (hs4.forEach fun _ _ h' => h'.reinitFn).countFuncs
theorem Kept.breach {rep qs} (h : Kept a s) : Kept a (breach s rep qs) := by
  unfold Machine.breach
  extract_lets g s1 fns s2
  have hs1 : Kept a s1 := h.other
  have hs2 : Kept a s2 := hs1.report
  exact .ite hs2.breachAct hs2.other
theorem Kept.execAuditEpochClose {rep} (h : Kept a s) : Steps a (execAuditEpochClose rep s) :=
  .next ((Kept.ite h h.breach).updQuay.other)
theorem Kept.getLedger {clear} (h : Kept a s) : Kept a (getLedger clear s).st := h.other
theorem Kept.execHbmGetLedger {r clear} (h : Kept a s) : Steps a (execHbmGetLedger r clear s) :=
  .next (h.serve fun _ h' => h'.getLedger)

/-! ### Mailbox -/

theorem Kept.mbxInfo {mb} (h : Kept a s) : Kept a (mbxInfo mb s).st := h
theorem Kept.execMbxGetInfo {r} (h : Kept a s) : Steps a (execMbxGetInfo r s) := .next (h.serve fun _ h' => h'.mbxInfo)
theorem Kept.alertSync {mb} (h : Kept a s) : Kept a (alertSync s mb) := .ite h.other h
theorem Kept.mbxNotify {mb max} (h : Kept a s) : Kept a (mbxNotify mb max s).st :=
  (h.updMbx (by exact fun _ => id)).alertSync
theorem Kept.execMbxGetNotify {r max} (h : Kept a s) : Steps a (execMbxGetNotify r max s) :=
  .next (h.serve fun _ h' => h'.mbxNotify)
theorem Kept.pushPending {mb} (h : Kept a s) : Kept a (pushPending s mb) :=
  .ite ((h.forEach fun _ _ h' => h'.emit).updMbx (by exact fun _ => id)) h
theorem Kept.mbxSetNotify {mb groups minSev flags} (h : Kept a s) : Kept a (mbxSetNotify mb groups minSev flags s).st :=
  .iteA h (.iteA h ((h.updMbx (by exact fun _ => id)).alertSync.pushPending))
theorem Kept.execMbxSetNotify {r groups minSev flags} (h : Kept a s) : Steps a (execMbxSetNotify r groups minSev flags s) :=
  .next (h.serve fun _ h' => h'.mbxSetNotify)
theorem Kept.mbxSetPriv {index priv} (h : Kept a s) : Kept a (mbxSetPriv index priv s).st := by
  unfold Machine.mbxSetPriv
  split
  · exact .iteA h (h.updMbx (by exact fun _ => id))
  · exact h
theorem Kept.execMbxSetPriv {r index priv} (h : Kept a s) : Steps a (execMbxSetPriv r index priv s) :=
  .next (h.serve fun _ h' => h'.mbxSetPriv)
theorem Kept.stageWrite {mb offset data} (h : Kept a s) : Kept a (stageWrite mb offset data s).st :=
  .iteA h (h.updMbx fun _ hx => mbxCanonical_stage hx)
theorem Kept.execMbxStageWrite {r offset data} (h : Kept a s) : Steps a (execMbxStageWrite r offset data s) :=
  .next (h.serve fun _ h' => h'.stageWrite)
theorem Kept.stageRead {mb offset length} (h : Kept a s) : Kept a (stageRead mb offset length s).st := .iteA h h
theorem Kept.execMbxStageRead {r offset length} (h : Kept a s) : Steps a (execMbxStageRead r offset length s) :=
  .next (h.serve fun _ h' => h'.stageRead)
theorem Kept.stageClear {mb} (h : Kept a s) : Kept a (stageClear mb s).st :=
  h.updMbx fun _ hx => by
    simp only [mbxCanonical, Bool.and_eq_true] at hx ⊢
    exact ⟨⟨⟨rfl, hx.1.1.2⟩, hx.1.2⟩, hx.2⟩
theorem Kept.execMbxStageClear {r} (h : Kept a s) : Steps a (execMbxStageClear r s) :=
  .next (h.serve fun _ h' => h'.stageClear)
theorem Kept.runMessage {i} (h : Kept a s) : Steps a (runMessage i s) := by
  unfold Machine.runMessage
  split
  · exact h.execMbxGetInfo
  · exact h.execMbxGetNotify
  · exact h.execMbxSetNotify
  · exact h.execMbxSetPriv
  · exact h.execMbxStageWrite
  · exact h.execMbxStageRead
  · exact h.execMbxStageClear
  · exact h.execQuaySetMoormode
  · exact h.execQuaySetArb
  · exact h.execQuaySetAllot
  · exact h.execQuayGetAllot
  · exact h.execQuaySetAdmit
  · exact h.execDrcSetScrub
  · exact h.execDrcSetPort
  · exact h.execDrcSetTrain
  · exact h.execQuaySetDrivePower
  · exact h.execLkbSetSurface
  · exact h.execLkbSetZoneMap
  · exact h.execLkbSetRatio
  · exact h.execLkbSetGuard
  · exact h.execLkbSetDemod
  · exact h.execLkbGetStatus
  · exact h.execLkbReadPosition
  · exact h.execLoopSetLaw
  · exact h.execLoopSetRwo
  · exact h.execLoopSetMaGain
  · exact h.execLoopSetSeek
  · exact h.execLoopSetFollow
  · exact h.execLoopSetTwin
  · exact h.execLoopGetStatus
  · exact h.execChnSetFormat
  · exact h.execChnSetFrontend
  · exact h.execChnSetEq
  · exact h.execChnSetDetector
  · exact h.execChnSetSync
  · exact h.execChnSetRecovery
  · exact h.execChnGetStatus
  · exact h.execChnCapture
  · exact h.execWrpSetFormat
  · exact h.execWrpSetAssist
  · exact h.execWrpSetFh
  · exact h.execWrpSetLimits
  · exact h.execWrpSetWear
  · exact h.execWrpOpenBand
  · exact h.execWrpCloseBand
  · exact h.execWrpStop
  · exact h.execWrpRelease
  · exact h.execWrpGetStatus
  · exact h.execWrpGetWear
  · exact h.execBrtSetLayout
  · exact h.execBrtSetLimits
  · exact h.execBrtSetPatrol
  · exact h.execBrtSetCkpt
  · exact h.execBrtCheckpoint
  · exact h.execBrtGetBerth
  · exact h.execBrtGetStatus
  · exact h.execBrtSetHead
  · exact h.execBrtSetHealth
  · exact h.execBrtSetRebuild
  · exact h.execBrtReshape
  · exact h.execBrtGetRebuild
  · exact h.execBrtGetLost
  · exact h.execBrtGetReloc
  · exact h.execBrtGetHead
  · exact h.execSpnSetSpeed
  · exact h.execSpnSetPolicy
  · exact h.execSpnSetLimits
  · exact h.execSpnSetMotor
  · exact h.execSpnStart
  · exact h.execSpnStop
  · exact h.execSpnGetStatus
  · exact h.execEvtSetCursor
  · exact h.execEvtRead
  · exact h.execEvtClear
  · exact h.execCtrRead
  · exact h.execHbmGetIncident
  · exact h.execTallyRead
  · exact h.execTallyClear
  · exact h.execHbmGetLedger
  · exact h.execPlkGetStatus
  · exact h.execPslGetStatus
  · exact h.execPlkRegAccess
  · exact h.execPslRegAccess
  · exact h.execLnkSetLimits
  · exact h.execQuayGetMooring
  · exact h.execQuayGetTag
  · exact h.execDrcGetRegions
  · exact h.execDrcGetStatus
  · exact h.execDrcInject
  · exact h.execSeqGetStatus
  · exact h.execSeqResume
  · exact h.execSeqSetLimits
  · exact h.execSeqLoad
  · exact h.execSeqSwap
  · exact h.execFwCommit
  · exact h.execFwActivate
  · exact h.execFwGetSlots
  · exact h.execPwrSupplyPolicy
  · exact h.execPslSetSafe
  · exact h.execDrcSetPower
  · exact h.execPwrGetStatus
  · exact h.execAuthChallenge
  · exact h.execAuthResponse
  · exact h.execLcChange
  · exact h.execDebugUnlock
  · exact h.execIdGetCert
  · exact h.execAttestQuote
  · exact h.execEngineReinitFunction
  · exact h.execEngineReinitQuay
  · exact h.execEngineReinitSequencer
  · exact h.execEngineReinitMailbox
  · exact h.execEngineReinitTally
  · exact h.execEngineReinitParity
  · exact h.execEngineReinitDecoder
  · exact .next h
theorem Kept.respond {mb x store} (h : Kept a s) : Kept a (respond s mb x store) :=
  (h.updMbx (by exact fun _ => id)).postReply
theorem Kept.afterMessage {o} (h : Kept a s) (ho : Steps a o) : Kept a (afterMessage s o) := by
  unfold Machine.afterMessage
  split
  · exact ho _ rfl
  · exact h
theorem Kept.runRequest {mb bs} (h : Kept a s) : Kept a (runRequest s mb bs) := by
  unfold Machine.runRequest
  extract_lets +onlyGivenNames op r entry odd bad fail
  have hf {st aux} : Kept a (fail st aux) := h.respond
  refine .ite hf ?_
  clear_value entry
  split
  · exact hf
  · extract_lets t
    have ht : Kept a t := by
      unfold t
      split
      · split
        · exact h.afterMessage h.runMessage
        · exact h.serve fun _ h' => h'
      · exact h.serve fun _ h' => h'
    refine .ite (ht.updMbx (by exact fun _ => id)) ?_
    split
    · exact ht.respond
    · exact ht
theorem Kept.takeRequest {mb bs} (h : Kept a s) : Kept a (takeRequest s mb bs) := by
  unfold Machine.takeRequest
  extract_lets m op seq bad fail
  have hf {s} {st aux} (h : Kept a s) : Kept a (fail s st aux) := h.respond
  refine .ite (hf h) (.ite (h.updMbx (by exact fun _ => id)).runRequest ?_)
  split
  · exact .ite h.respond (hf (h.updMbx (by exact fun _ => id)))
  · exact hf (h.updMbx (by exact fun _ => id))
theorem Kept.execMailboxRequestStart {mb} (h : Kept a s) : Steps a (execMailboxRequestStart mb s) :=
  .next (.ite (.ite ((h.other.updMbx (by exact fun _ => id)).sheet.takeRequest.updMbx (by exact fun _ => id))
      ((h.other.updMbx (by exact fun _ => id)).takeRequest)) h)
theorem Kept.dbRefused {mb} (h : Kept a s) : Kept a (dbRefused s mb) := h.updMbx (by exact fun _ => id)
theorem Kept.writeReqTail {mb v} (h : Kept a s) : Kept a (writeReqTail s mb v) :=
  .ite (h.updMbx (by exact fun _ => id)) h.dbRefused
theorem Kept.writeRespHead {mb v} (h : Kept a s) : Kept a (writeRespHead s mb v) :=
  .ite (h.updMbx (by exact fun _ => id)) h.dbRefused
theorem Kept.writeNtfHead {mb v} (h : Kept a s) : Kept a (writeNtfHead s mb v) :=
  .ite (h.updMbx (by exact fun _ => id)) h.dbRefused
theorem Kept.execMbxReqTailWrite {mb v} (h : Kept a s) : Steps a (execMbxReqTailWrite mb v s) :=
  .next (.ite h.writeReqTail h)
theorem Kept.execMbxRespHeadWrite {mb v} (h : Kept a s) : Steps a (execMbxRespHeadWrite mb v s) :=
  .next (.ite h.writeRespHead h)
theorem Kept.execMbxNtfHeadWrite {mb v} (h : Kept a s) : Steps a (execMbxNtfHeadWrite mb v s) :=
  .next (.ite h.writeNtfHead h)
theorem Kept.writeSlot4 {mb o v} (h : Kept a s) : Kept a (writeSlot4 s mb o v) :=
  h.updMbx fun _ hx => mbxCanonical_reqSlot hx
theorem Kept.regRead {mb offset} (h : Kept a s) : Kept a (regRead s mb offset) :=
  .ite (h.emit.updMbx (by exact fun _ => id)) h.emit
theorem Kept.regWrite {mb offset v} (h : Kept a s) : Kept a (regWrite s mb offset v) :=
  .ite (h.updMbx (by exact fun _ => id)) (.ite (h.updMbx (by exact fun _ => id)) (.ite h.writeReqTail (.ite
      h.writeRespHead (.ite h.writeNtfHead (.ite h.writeSlot4 h)))))
theorem Kept.execRegisterWrite {mb offset v} (h : Kept a s) : Steps a (execRegisterWrite mb offset v s) := by
  unfold Machine.execRegisterWrite
  refine .next ?_
  split
  · split
    · exact h.regWrite
    · exact h.regRead
  · exact h
theorem Kept.arrive {mb bs} (h : Kept a s) : Kept a (arrive s mb bs) := by
  unfold Machine.arrive
  extract_lets +onlyGivenNames m
  exact .ite h (.ite h.emit (h.updMbx fun _ hx => mbxCanonical_reqSlot hx))
theorem Kept.execUartFrame {raw} (h : Kept a s) : Steps a (execUartFrame raw s) := .next h.arrive
theorem Kept.execNvmeMiCommand {msg} (h : Kept a s) : Steps a (execNvmeMiCommand msg s) := .next h.arrive
theorem Kept.captureFinish {mb seq status} (h : Kept a s) : Kept a (captureFinish s mb seq status) := by
  unfold Machine.captureFinish
  split
  · exact h.postDone
  · extract_lets n s1
    have hs1 : Kept a s1 := h.updChn
    exact .ite (hs1.sheet.updMbx fun _ hx => mbxCanonical_stage hx).postDone hs1.postDone
theorem Kept.execLMessageDone {mb seq status result} (h : Kept a s) : Steps a (execLMessageDone mb seq status result s) := by
  unfold Machine.execLMessageDone
  refine .next ?_
  split
  · exact h
  · split
    · exact .ite h.slipStep h
    · split
      · exact h.lcFinish
      · split
        · exact h.quoteFinish
        · split
          · split
            · exact .ite h.loadFinish h
            · exact h
          · exact .ite h.swapFinish (.ite h.commitFinish (.ite h.slipStep (.ite h.captureFinish (.ite h h.postDone))))
theorem Kept.execNonceExpiry {mb} (h : Kept a s) : Steps a (execNonceExpiry mb s) :=
  .next (h.updMbx (by exact fun _ => id))
theorem Kept.execAuthArmExpiry {mb} (h : Kept a s) : Steps a (execAuthArmExpiry mb s) :=
  .next (h.updMbx (by exact fun _ => id))
theorem Kept.execAuthLockoutEnd {mb} (h : Kept a s) : Steps a (execAuthLockoutEnd mb s) :=
  .next (h.updMbx (by exact fun _ => id))

/-- Every command keeps the queue, canonical memories and the fuses. -/
theorem Kept.exec {c} (h : Kept a s) : Steps a (exec c s) := by
  cases c with
  | auditEpochClose => exact h.execAuditEpochClose
  | guardGapTimeout => exact h.execGuardGapTimeout
  | internalResetRelease => exact h.execInternalResetRelease
  | haltUartLine => exact h.execHaltUartLine
  | resetNAssert => exact h.execResetNAssert
  | porstNAssert => exact h.execPorstNAssert
  | pwrfailNAssert => exact h.execPwrfailNAssert
  | powerOnDetect => exact h.execPowerOnDetect
  | avsTick => exact h.execAvsTick
  | speedMonitorEmergency => exact h.execSpeedMonitorEmergency
  | avsAcknowledge => exact h.execAvsAcknowledge
  | coreFrequencyRaise => exact h.execCoreFrequencyRaise
  | thermalSensorRead => exact h.execThermalSensorRead
  | thermalThrottleStep => exact h.execThermalThrottleStep
  | thermalRelease => exact h.execThermalRelease
  | thermalTrip => exact h.execThermalTrip
  | loopSlot => exact h.execLoopSlot
  | positionSampleArrival => exact h.execPositionSampleArrival
  | addressWordDecoded => exact h.execAddressWordDecoded
  | toneLockDeclared => exact h.execToneLockDeclared
  | toneLockLost => exact h.execToneLockLost
  | holdoverTimeout => exact h.execHoldoverTimeout
  | headSelect => exact h.execHeadSelect
  | acquisitionFail => exact h.execAcquisitionFail
  | zoneRatioApply => exact h.execZoneRatioApply
  | zoneSettleEnd => exact h.execZoneSettleEnd
  | rateOutOfRange => exact h.execRateOutOfRange
  | demodParamApply => exact h.execDemodParamApply
  | lkbSetSurface => exact h.execLkbSetSurface
  | lkbSetZoneMap => exact h.execLkbSetZoneMap
  | lkbSetRatio => exact h.execLkbSetRatio
  | lkbSetGuard => exact h.execLkbSetGuard
  | lkbSetDemod => exact h.execLkbSetDemod
  | lkbGetStatus => exact h.execLkbGetStatus
  | lkbReadPosition => exact h.execLkbReadPosition
  | lawDeadlineMiss => exact h.execLawDeadlineMiss
  | vcmMissRetract => exact h.execVcmMissRetract
  | seekTarget => exact h.execSeekTarget
  | trajStopPlan => exact h.execTrajStopPlan
  | seekAbort => exact h.execSeekAbort
  | followRmsCheck => exact h.execFollowRmsCheck
  | actuatorLoad => exact h.execActuatorLoad
  | actuatorUnload => exact h.execActuatorUnload
  | rampStopReached => exact h.execRampStopReached
  | writeReadySet => exact h.execWriteReadySet
  | blendEnd => exact h.execBlendEnd
  | maRampEnd => exact h.execMaRampEnd
  | holdEntry => exact h.execHoldEntry
  | holdTimeoutRetract => exact h.execHoldTimeoutRetract
  | twinRegistration => exact h.execTwinRegistration
  | twinFallback => exact h.execTwinFallback
  | twinFallbackHandover => exact h.execTwinFallbackHandover
  | twinStreamRelease => exact h.execTwinStreamRelease
  | twinHoldoffExpiry => exact h.execTwinHoldoffExpiry
  | loopSetLaw => exact h.execLoopSetLaw
  | loopSetRwo => exact h.execLoopSetRwo
  | loopSetMaGain => exact h.execLoopSetMaGain
  | loopSetSeek => exact h.execLoopSetSeek
  | loopSetFollow => exact h.execLoopSetFollow
  | loopSetTwin => exact h.execLoopSetTwin
  | loopGetStatus => exact h.execLoopGetStatus
  | pwmPeriodStart => exact h.execPwmPeriodStart
  | currentSamplesReady => exact h.execCurrentSamplesReady
  | overcurrentTrip => exact h.execOvercurrentTrip
  | coastRestart => exact h.execCoastRestart
  | observerLock => exact h.execObserverLock
  | observerLockLoss => exact h.execObserverLockLoss
  | indexCrossing => exact h.execIndexCrossing
  | currentLawMissCoast => exact h.execCurrentLawMissCoast
  | speedLawSample => exact h.execSpeedLawSample
  | listenComplete => exact h.execListenComplete
  | brakeDecision => exact h.execBrakeDecision
  | standstillDeclared => exact h.execStandstillDeclared
  | alignComplete => exact h.execAlignComplete
  | startFail => exact h.execStartFail
  | freeRampStart => exact h.execFreeRampStart
  | speedPolicyEval => exact h.execSpeedPolicyEval
  | dirtyHoldRelease => exact h.execDirtyHoldRelease
  | underspeed => exact h.execUnderspeed
  | chopperFault => exact h.execChopperFault
  | holdupEntry => exact h.execHoldupEntry
  | spnSetSpeed => exact h.execSpnSetSpeed
  | spnSetPolicy => exact h.execSpnSetPolicy
  | spnSetLimits => exact h.execSpnSetLimits
  | spnSetMotor => exact h.execSpnSetMotor
  | spnStart => exact h.execSpnStart
  | spnStop => exact h.execSpnStop
  | spnGetStatus => exact h.execSpnGetStatus
  | sectorReadStart => exact h.execSectorReadStart
  | sectorDecodeDone => exact h.execSectorDecodeDone
  | sectorResultPost => exact h.execSectorResultPost
  | deepDecodeStart => exact h.execDeepDecodeStart
  | deepDecodeDone => exact h.execDeepDecodeDone
  | recoveryLimitExpiry => exact h.execRecoveryLimitExpiry
  | formatApply => exact h.execFormatApply
  | syncParamApply => exact h.execSyncParamApply
  | chnSetFormat => exact h.execChnSetFormat
  | chnSetFrontend => exact h.execChnSetFrontend
  | chnSetEq => exact h.execChnSetEq
  | chnSetDetector => exact h.execChnSetDetector
  | chnSetSync => exact h.execChnSetSync
  | chnSetRecovery => exact h.execChnSetRecovery
  | chnGetStatus => exact h.execChnGetStatus
  | chnCapture => exact h.execChnCapture
  | writeOrderDispatch => exact h.execWriteOrderDispatch
  | htrReadySet => exact h.execHtrReadySet
  | assistEnableRise => exact h.execAssistEnableRise
  | writeGateOpen => exact h.execWriteGateOpen
  | writeSectorEnd => exact h.execWriteSectorEnd
  | writeUnderrun => exact h.execWriteUnderrun
  | writeRunEnd => exact h.execWriteRunEnd
  | sectorRewrite => exact h.execSectorRewrite
  | ffPersist => exact h.execFfPersist
  | heaterHoldEnd => exact h.execHeaterHoldEnd
  | contactRearm => exact h.execContactRearm
  | wrpSetFormat => exact h.execWrpSetFormat
  | wrpSetAssist => exact h.execWrpSetAssist
  | wrpSetFh => exact h.execWrpSetFh
  | wrpSetLimits => exact h.execWrpSetLimits
  | wrpSetWear => exact h.execWrpSetWear
  | wrpOpenBand => exact h.execWrpOpenBand
  | wrpCloseBand => exact h.execWrpCloseBand
  | wrpStop => exact h.execWrpStop
  | wrpRelease => exact h.execWrpRelease
  | wrpGetStatus => exact h.execWrpGetStatus
  | wrpGetWear => exact h.execWrpGetWear
  | preampDownstreamFrame => exact h.execPreampDownstreamFrame
  | preampUpstreamFrame => exact h.execPreampUpstreamFrame
  | pslTxFrame => exact h.execPslTxFrame
  | pslRxFrame => exact h.execPslRxFrame
  | regRequestTimeout => exact h.execRegRequestTimeout
  | linkTrainingTimeout => exact h.execLinkTrainingTimeout
  | linkTrainingRetry => exact h.execLinkTrainingRetry
  | preampLinkLost => exact h.execPreampLinkLost
  | pslLinkLost => exact h.execPslLinkLost
  | plkGetStatus => exact h.execPlkGetStatus
  | pslGetStatus => exact h.execPslGetStatus
  | plkRegAccess => exact h.execPlkRegAccess
  | pslRegAccess => exact h.execPslRegAccess
  | lnkSetLimits => exact h.execLnkSetLimits
  | pslSetSafe => exact h.execPslSetSafe
  | stripeDestageStart => exact h.execStripeDestageStart
  | parityEngineDone => exact h.execParityEngineDone
  | manifestEntryRecorded => exact h.execManifestEntryRecorded
  | memberStripComplete => exact h.execMemberStripComplete
  | logStripeAged => exact h.execLogStripeAged
  | dredgeStart => exact h.execDredgeStart
  | dredgeVictimDone => exact h.execDredgeVictimDone
  | patrolStripeCheck => exact h.execPatrolStripeCheck
  | checkpointStart => exact h.execCheckpointStart
  | checkpointCommit => exact h.execCheckpointCommit
  | brtSetLayout => exact h.execBrtSetLayout
  | brtSetLimits => exact h.execBrtSetLimits
  | brtSetPatrol => exact h.execBrtSetPatrol
  | brtSetCkpt => exact h.execBrtSetCkpt
  | brtCheckpoint => exact h.execBrtCheckpoint
  | brtGetBerth => exact h.execBrtGetBerth
  | brtGetStatus => exact h.execBrtGetStatus
  | headDeclared => exact h.execHeadDeclared
  | actuatorDeclaredFailed => exact h.execActuatorDeclaredFailed
  | rebuildEntryCreate => exact h.execRebuildEntryCreate
  | rebuildEntryStart => exact h.execRebuildEntryStart
  | rebuildStripeComplete => exact h.execRebuildStripeComplete
  | copySwitch => exact h.execCopySwitch
  | relocation => exact h.execRelocation
  | shareWindow => exact h.execShareWindow
  | checkpointHeadMove => exact h.execCheckpointHeadMove
  | reshapeSwitch => exact h.execReshapeSwitch
  | brtSetHead => exact h.execBrtSetHead
  | brtSetHealth => exact h.execBrtSetHealth
  | brtSetRebuild => exact h.execBrtSetRebuild
  | brtReshape => exact h.execBrtReshape
  | brtGetRebuild => exact h.execBrtGetRebuild
  | brtGetLost => exact h.execBrtGetLost
  | brtGetReloc => exact h.execBrtGetReloc
  | brtGetHead => exact h.execBrtGetHead
  | sqTailDoorbell => exact h.execSqTailDoorbell
  | cqHeadDoorbell => exact h.execCqHeadDoorbell
  | doorbellFifoApply => exact h.execDoorbellFifoApply
  | mooringFill => exact h.execMooringFill
  | arbiterGrant => exact h.execArbiterGrant
  | sqEntryReturn => exact h.execSqEntryReturn
  | hostDataReceived => exact h.execHostDataReceived
  | writeIndexAck => exact h.execWriteIndexAck
  | completionPost => exact h.execCompletionPost
  | capWindow => exact h.execCapWindow
  | tallyMinuteClose => exact h.execTallyMinuteClose
  | orderWaitRelease => exact h.execOrderWaitRelease
  | heldWriteRelease => exact h.execHeldWriteRelease
  | pilotEntry => exact h.execPilotEntry
  | pilotDispatch => exact h.execPilotDispatch
  | mediaOperationEnd => exact h.execMediaOperationEnd
  | sweptCommandEnd => exact h.execSweptCommandEnd
  | deleteSqComplete => exact h.execDeleteSqComplete
  | controllerEnable => exact h.execControllerEnable
  | controllerReset => exact h.execControllerReset
  | functionLevelReset => exact h.execFunctionLevelReset
  | hotReset => exact h.execHotReset
  | perstAssert => exact h.execPerstAssert
  | perstDeassert => exact h.execPerstDeassert
  | nvmSubsystemReset => exact h.execNvmSubsystemReset
  | itNexusLoss => exact h.execItNexusLoss
  | createIoCq => exact h.execCreateIoCq
  | createIoSq => exact h.execCreateIoSq
  | deleteIoSq => exact h.execDeleteIoSq
  | deleteIoCq => exact h.execDeleteIoCq
  | identify => exact h.execIdentify
  | getLogPage => exact h.execGetLogPage
  | getLogPageTally => exact h.execGetLogPageTally
  | setFeatures => exact h.execSetFeatures
  | setFeaturesTimestamp => exact h.execSetFeaturesTimestamp
  | getFeatures => exact h.execGetFeatures
  | asyncEventRequest => exact h.execAsyncEventRequest
  | abort => exact h.execAbort
  | namespaceManagementCreate => exact h.execNamespaceManagementCreate
  | namespaceManagementDelete => exact h.execNamespaceManagementDelete
  | namespaceAttach => exact h.execNamespaceAttach
  | namespaceDetach => exact h.execNamespaceDetach
  | firmwareImageDownload => exact h.execFirmwareImageDownload
  | firmwareCommitCa000 => exact h.execFirmwareCommitCa000
  | firmwareCommitCa001 => exact h.execFirmwareCommitCa001
  | firmwareCommitCa010 => exact h.execFirmwareCommitCa010
  | firmwareCommitCa011 => exact h.execFirmwareCommitCa011
  | virtualizationManagement => exact h.execVirtualizationManagement
  | formatNvm => exact h.execFormatNvm
  | sanitizeCryptoErase => exact h.execSanitizeCryptoErase
  | securitySend => exact h.execSecuritySend
  | securityReceive => exact h.execSecurityReceive
  | opalAuthenticate => exact h.execOpalAuthenticate
  | opalGenkey => exact h.execOpalGenkey
  | opalRevert => exact h.execOpalRevert
  | opalRevertsp => exact h.execOpalRevertsp
  | getLbaStatus => exact h.execGetLbaStatus
  | deviceSelfTest => exact h.execDeviceSelfTest
  | read => exact h.execRead
  | write => exact h.execWrite
  | flush => exact h.execFlush
  | writeZeroes => exact h.execWriteZeroes
  | datasetManagement => exact h.execDatasetManagement
  | verify => exact h.execVerify
  | reservationRegister => exact h.execReservationRegister
  | reservationReport => exact h.execReservationReport
  | reservationAcquire => exact h.execReservationAcquire
  | reservationRelease => exact h.execReservationRelease
  | zoneAppend => exact h.execZoneAppend
  | zoneOpen => exact h.execZoneOpen
  | zoneClose => exact h.execZoneClose
  | zoneFinish => exact h.execZoneFinish
  | zoneReset => exact h.execZoneReset
  | zoneOffline => exact h.execZoneOffline
  | reportZones => exact h.execReportZones
  | inquiry => exact h.execInquiry
  | reportLuns => exact h.execReportLuns
  | testUnitReady => exact h.execTestUnitReady
  | requestSense => exact h.execRequestSense
  | readCapacity16 => exact h.execReadCapacity16
  | read16 => exact h.execRead16
  | write16 => exact h.execWrite16
  | verify16 => exact h.execVerify16
  | synchronizeCache16 => exact h.execSynchronizeCache16
  | unmap => exact h.execUnmap
  | formatUnit => exact h.execFormatUnit
  | scsiSanitize => exact h.execScsiSanitize
  | modeSense10 => exact h.execModeSense10
  | modeSelect10 => exact h.execModeSelect10
  | logSense => exact h.execLogSense
  | startStopUnit => exact h.execStartStopUnit
  | writeBufferMode0e => exact h.execWriteBufferMode0e
  | writeBufferMode0f => exact h.execWriteBufferMode0f
  | writeBufferMode07 => exact h.execWriteBufferMode07
  | readBuffer => exact h.execReadBuffer
  | securityProtocolIn => exact h.execSecurityProtocolIn
  | securityProtocolOut => exact h.execSecurityProtocolOut
  | persistentReserveIn => exact h.execPersistentReserveIn
  | persistentReserveOut => exact h.execPersistentReserveOut
  | scsiReportZones => exact h.execScsiReportZones
  | resetWritePointer => exact h.execResetWritePointer
  | openZone => exact h.execOpenZone
  | closeZone => exact h.execCloseZone
  | finishZone => exact h.execFinishZone
  | mailboxSend => exact h.execMailboxSend
  | mailboxReceive => exact h.execMailboxReceive
  | mailboxReceiveNotify => exact h.execMailboxReceiveNotify
  | abortTask _ _ cid => exact h.execAbortTask (_cid := cid)
  | abortTaskSet => exact h.execAbortTaskSet
  | clearTaskSet => exact h.execClearTaskSet
  | logicalUnitReset => exact h.execLogicalUnitReset
  | iTNexusReset => exact h.execITNexusReset
  | queryTask => exact h.execQueryTask
  | queryTaskSet => exact h.execQueryTaskSet
  | queryAsynchronousEvent => exact h.execQueryAsynchronousEvent
  | clearAca => exact h.execClearAca
  | quaySetMoormode => exact h.execQuaySetMoormode
  | quaySetArb => exact h.execQuaySetArb
  | quaySetAllot => exact h.execQuaySetAllot
  | quayGetAllot => exact h.execQuayGetAllot
  | quaySetAdmit => exact h.execQuaySetAdmit
  | quaySetDrivePower => exact h.execQuaySetDrivePower
  | quayGetMooring => exact h.execQuayGetMooring
  | quayGetTag => exact h.execQuayGetTag
  | tallyRead => exact h.execTallyRead
  | tallyClear => exact h.execTallyClear
  | dramRead => exact h.execDramRead
  | dramWrite => exact h.execDramWrite
  | dramNarrowWrite => exact h.execDramNarrowWrite
  | mergeEntryTimeout => exact h.execMergeEntryTimeout
  | scrubLine => exact h.execScrubLine
  | dramRefresh => exact h.execDramRefresh
  | dramTempRead => exact h.execDramTempRead
  | selfRefreshEntry => exact h.execSelfRefreshEntry
  | selfRefreshExit => exact h.execSelfRefreshExit
  | dramRetrain => exact h.execDramRetrain
  | drcGetStatus => exact h.execDrcGetStatus
  | drcGetRegions => exact h.execDrcGetRegions
  | drcSetScrub => exact h.execDrcSetScrub
  | drcSetPort => exact h.execDrcSetPort
  | drcSetTrain => exact h.execDrcSetTrain
  | drcSetPower => exact h.execDrcSetPower
  | drcInject => exact h.execDrcInject
  | orderPost => exact h.execOrderPost
  | seqEventLine => exact h.execSeqEventLine
  | seqTimerExpiry => exact h.execSeqTimerExpiry
  | watchdogExpiry => exact h.execWatchdogExpiry
  | networkAccessTimeout => exact h.execNetworkAccessTimeout
  | networkWriteError => exact h.execNetworkWriteError
  | moveDone => exact h.execMoveDone
  | storeAudit => exact h.execStoreAudit
  | nop => exact h.execNop
  | yield => exact h.execYield
  | commit => exact h.execCommit
  | halt => exact h.execHalt
  | fault => exact h.execFault
  | getord => exact h.execGetord
  | dispatch => exact h.execDispatch
  | post => exact h.execPost
  | evt => exact h.execEvt
  | iret => exact h.execIret
  | add => exact h.execAdd
  | sub => exact h.execSub
  | and => exact h.execAnd
  | or => exact h.execOr
  | xor => exact h.execXor
  | shl => exact h.execShl
  | shr => exact h.execShr
  | sar => exact h.execSar
  | mul => exact h.execMul
  | mulhu => exact h.execMulhu
  | min => exact h.execMin
  | max => exact h.execMax
  | minu => exact h.execMinu
  | maxu => exact h.execMaxu
  | cmp => exact h.execCmp
  | crc => exact h.execCrc
  | addi => exact h.execAddi
  | andi => exact h.execAndi
  | ori => exact h.execOri
  | xori => exact h.execXori
  | shli => exact h.execShli
  | shri => exact h.execShri
  | sari => exact h.execSari
  | movi => exact h.execMovi
  | lui => exact h.execLui
  | cmpi => exact h.execCmpi
  | ld => exact h.execLd
  | st => exact h.execSt
  | ldn => exact h.execLdn
  | stn => exact h.execStn
  | atom => exact h.execAtom
  | move => exact h.execMove
  | inPort => exact h.execInPort
  | inc => exact h.execInc
  | outPort => exact h.execOutPort
  | br => exact h.execBr
  | call => exact h.execCall
  | ret => exact h.execRet
  | bri => exact h.execBri
  | loop => exact h.execLoop
  | seqGetStatus => exact h.execSeqGetStatus
  | seqResume => exact h.execSeqResume
  | seqSetLimits => exact h.execSeqSetLimits
  | seqLoad => exact h.execSeqLoad
  | seqSwap => exact h.execSeqSwap
  | mbxReqTailWrite => exact h.execMbxReqTailWrite
  | mbxRespHeadWrite => exact h.execMbxRespHeadWrite
  | mbxNtfHeadWrite => exact h.execMbxNtfHeadWrite
  | registerWrite => exact h.execRegisterWrite
  | mailboxRequestStart => exact h.execMailboxRequestStart
  | uartFrame => exact h.execUartFrame
  | nvmeMiCommand => exact h.execNvmeMiCommand
  | lMessageDone => exact h.execLMessageDone
  | nonceExpiry => exact h.execNonceExpiry
  | authArmExpiry => exact h.execAuthArmExpiry
  | authLockoutEnd => exact h.execAuthLockoutEnd
  | mbxGetInfo => exact h.execMbxGetInfo
  | mbxGetNotify => exact h.execMbxGetNotify
  | mbxSetNotify => exact h.execMbxSetNotify
  | mbxSetPriv => exact h.execMbxSetPriv
  | mbxStageWrite => exact h.execMbxStageWrite
  | mbxStageRead => exact h.execMbxStageRead
  | mbxStageClear => exact h.execMbxStageClear
  | engineReinitFunction => exact h.execEngineReinitFunction
  | engineReinitQuay => exact h.execEngineReinitQuay
  | engineReinitSequencer => exact h.execEngineReinitSequencer
  | engineReinitMailbox => exact h.execEngineReinitMailbox
  | engineReinitTally => exact h.execEngineReinitTally
  | engineReinitParity => exact h.execEngineReinitParity
  | engineReinitDecoder => exact h.execEngineReinitDecoder
  | hbmGetLedger => exact h.execHbmGetLedger
  | supplySample => exact h.execSupplySample
  | nvWriteInhibitEntry => exact h.execNvWriteInhibitEntry
  | nvWriteInhibitEnd => exact h.execNvWriteInhibitEnd
  | breakwaterStart => exact h.execBreakwaterStart
  | actuatorParked => exact h.execActuatorParked
  | parkTimeout => exact h.execParkTimeout
  | parkOpenLoopEnd => exact h.execParkOpenLoopEnd
  | vaultPageProgramDone => exact h.execVaultPageProgramDone
  | quiescentRelease => exact h.execQuiescentRelease
  | vaultAreaEraseDone => exact h.execVaultAreaEraseDone
  | hostAdmission => exact h.execHostAdmission
  | lcReset => exact h.execLcReset
  | sessionKeyReady => exact h.execSessionKeyReady
  | sessionKeySuccessor => exact h.execSessionKeySuccessor
  | treeCacheRebuilt => exact h.execTreeCacheRebuilt
  | springTestFail => exact h.execSpringTestFail
  | randomnessTimeout => exact h.execRandomnessTimeout
  | authChallenge => exact h.execAuthChallenge
  | authResponse => exact h.execAuthResponse
  | lcChange => exact h.execLcChange
  | debugUnlock => exact h.execDebugUnlock
  | idGetCert => exact h.execIdGetCert
  | attestQuote => exact h.execAttestQuote
  | eventFlush => exact h.execEventFlush
  | counterBlockWrite => exact h.execCounterBlockWrite
  | powerOnSecond => exact h.execPowerOnSecond
  | incidentClose => exact h.execIncidentClose
  | evtSetCursor => exact h.execEvtSetCursor
  | evtRead => exact h.execEvtRead
  | evtClear => exact h.execEvtClear
  | ctrRead => exact h.execCtrRead
  | hbmGetIncident => exact h.execHbmGetIncident
  | fwCommit => exact h.execFwCommit
  | fwActivate => exact h.execFwActivate
  | slipwayBackout => exact h.execSlipwayBackout
  | fwGetSlots => exact h.execFwGetSlots
  | pwrSupplyPolicy => exact h.execPwrSupplyPolicy
  | pwrGetStatus => exact h.execPwrGetStatus
  | phaseVoltageSample => exact h.execPhaseVoltageSample
  | retractTExpiry => exact h.execRetractTExpiry
  | channelRateReturn => exact h.execChannelRateReturn
  | bootSpindleTimeout => exact h.execBootSpindleTimeout

end Compose

/-! ### The step -/

/-- Settles O47: every command keeps the queue, as each function that it runs through does. -/
theorem queueUntouched : Obligations.QueueUntouched := by
  unfold Obligations.QueueUntouched
  intro c s t e
  exact ((Kept.refl s).exec t e).queue

/-- A step keeps canonical memories and brings no fuse back: what it takes from the queue is no part of either. -/
theorem step_keeps {s t : State} (e : step s = .next t) :
    (canonical s = true → canonical t = true) ∧ fusesKept s.nv.otp t.nv.otp := by
  unfold step at e
  split at e
  · cases e
    exact ⟨id, fusesKept.refl _⟩
  · next c cs _ =>
    have k := (Kept.refl { s with pending := cs }).exec t e
    exact ⟨k.mem, k.fuses⟩

/-- Settles O57: every command keeps the canonical form of every memory, and a step runs one. -/
theorem canonicalKept : Obligations.CanonicalKept := by
  unfold Obligations.CanonicalKept
  intro s t hc e
  exact (step_keeps e).1 hc

/-- Settles O58: every command keeps the fuses, and a step runs one. -/
theorem fusesOneWay : Obligations.FusesOneWay := by
  unfold Obligations.FusesOneWay
  intro s t e
  exact (step_keeps e).2

end Sys2Proof.Machine
end

section
/-! SUPPORT. Rows: how a row's next state, and a message's answer, are read off its meaning. -/

namespace Sys2Proof.Machine

/-- A row that answers a next state answers an equal one. -/
theorem next_congr {s t : State} (h : s = t) : (.next s : Host.Outcome State Fault Refusal) = .next t := congrArg _ h

/-- A row whose condition holds takes its first branch. -/
theorem next_if {c : Prop} [Decidable c] {s t : State} (h : c) :
    (.next (if c then s else t) : Host.Outcome State Fault Refusal) = .next s := next_congr (if_pos h)

/-- An admitted device is powered. -/
theorem powered_of_live {s : State} (h : live s = true) : powered s = true := by
  have : s.phase = .run := of_decide_eq_true h
  simp [powered, this]

/-- Parameters that all lie in their ranges are stored. -/
theorem setA_of_ok {α : Type} {s : State} {pars : List (Par α)} {rels : α → List Rel} {m : Params} {x y : α} {store : α → State}
    (h : applyPars pars rels m x = .ok y) : setA s pars rels m x store = dataA (store y) [] := by
  rw [setA, h]
  rfl

/-- A message that acts on every one of a list, each of which accepts. -/
theorem setAllA_of_ok {α : Type} {s t : State} {l : List α} {f : State → α → Except Nat State} (h : foldExcept l s f = .ok t) :
    setAllA s l f = dataA t [] := by
  rw [setAllA, h]
  rfl

/-- A gate of two conditions is open where one of them fails. -/
theorem gate_open {c : Prop} [Decidable c] {b : Bool} (h : ¬c ∨ b = false) : ¬(decide c && b) = true := by
  obtain h | rfl := h
  · rw [decide_eq_false h]
    exact Bool.false_ne_true
  · rw [Bool.and_false]
    exact Bool.false_ne_true

/-- SUCCESS with no payload is SUCCESS with the empty payload. -/
theorem okA_eq (s : State) : okA s = dataA s [] := rfl

/-- An authorised message consumes the authorisation that admitted it. -/
theorem consumeAuth_of_admitted {s : State} {r : Req} {m : Msg} (hn : m.need = .sg) (h : Admitted s r m) :
    consumeAuth s r m = updMbx s r.mb fun x => { x with armed := none, armedRoles := 0 } := by
  refine if_pos ⟨hn, ?_⟩
  have ha : authorised s r.mb m = true := by
    have h2 := h.2
    unfold refusal at h2
    split_ifs at h2
    simp_all
  simpa [authorised] using congrArg (Option.map Prod.fst) (eq_of_beq ha)

/-- An L message whose meaning accepts begins, an authorisation consumed. -/
theorem begins_of {s s' : State} {r : Req} {m : Msg} {i : Instr} {body : State → Ans}
    (hx : exec i s = .next (serve s r m i body)) (hb : body (consumeAuth s r m) = failA s' 1) : Begins i s r m s' := by
  intro h
  rw [hx, serve_of_admitted h, hb]
  rfl

/-- A message whose meaning fails, whatever it changes, is answered with its status. -/
theorem fails_of {s t : State} {r : Req} {m : Msg} {i : Instr} {body : State → Ans} {st aux : Nat}
    (hx : exec i s = .next (serve s r m i body)) (h : Admitted s r m) (hb : body (consumeAuth s r m) = failA t st aux)
    (h0 : st ≠ 0) (h1 : st ≠ 1) (hw : st ≠ 0xFFFF) : exec i s = .next (answer t r m.opc st aux []) := by
  rw [hx, serve_of_admitted h, hb]
  simp [failA, follow, h0, h1, hw]

/-- A message that sets nothing is answered, and nothing follows. -/
theorem succeeded_of_not_setter {s : State} {r : Req} {m : Msg} {i : Instr} {p : List Byte} (h : m.setter = false) :
    succeeded s r m i p = answer s r m.opc 0 0 p := by
  simp [succeeded, follow, h]

@[simp] theorem selAct_val (a : Act) : selAct a.val = some a := dif_pos a.isLt
@[simp] theorem selStream_val (m : Strm) : selStream m.val = some m := dif_pos m.isLt
@[simp] theorem selFn_val (f : Fn) : selFn f.val = some f := dif_pos f.isLt
@[simp] theorem selSq_val (n : Sq) : selSq n.val = some n := dif_pos n.isLt
/-- A head of the drive is the one that its number selects. -/
theorem selHead_val {s : State} {h : Hd} (hd : inDrive s h = true) : selHead s h.val = some h := by
  simp [selHead, hd]

end Sys2Proof.Machine
end

section
/-! SUPPORT. Sequencer words: a word that issues acts on the ticked state, and what the ticked state is (R390, R397). -/

namespace Sys2Proof.Machine

/-- A word with bad fields faults with code 4; one with good fields acts on the ticked state. -/
theorem issue_of_issues {s : State} {n : Sq} {opc : Nat} {w : BitVec 26} (h : Issues s n opc w) (hr : reservedOp opc = false)
    (bad : Bool) (act : State → State) :
    issue s n opc w bad act = if bad then seqFault (fetched s n) n 4 else act (ticked s n) := by
  obtain ⟨hp, hs, ho, hw⟩ := h
  have hx : opc * 2 ^ 26 + w.toNat < 2 ^ 32 := hw ▸ BitVec.isLt _
  have hq : (opc * 2 ^ 26 + w.toNat) / 2 ^ 26 = opc := by omega
  have hy : BitVec.ofNat 32 (opc * 2 ^ 26 + w.toNat) = bankWord (seqBank s s.seqs[n]) s.seqs[n].r.pc.toNat := by
    rw [← hw, BitVec.ofNat_toNat, BitVec.setWidth_eq]
  have hc : ¬(512 ≤ s.seqs[n].ops ∧ opc ≠ 1) := fun ⟨h1, h2⟩ => ho.elim (by omega) h2
  unfold issue
  simp only [hw, hq, hy, parityBad_same, hr, hp, hs, if_neg hc, ne_eq, not_true_eq_false, decide_false, Bool.not_true, Bool.or_self,
    Bool.false_eq_true, if_false]
  rfl

/-- The two forms of a register operation's guard. -/
theorem badR_of_zero {w : BitVec 26} (h : mw w 0 14 = 0) : badR w = false := decide_eq_false fun hn => hn h
theorem badB_of_zero {w : BitVec 26} (h : mw w 16 2 = 0) : badB w = false := decide_eq_false fun hn => hn h

/-- The ticked sequencer: its line store, and one more operation. -/
theorem ticked_seq (s : State) (n : Sq) : ∃ ls, (ticked s n).seqs[n] = { s.seqs[n] with lines := ls, ops := s.seqs[n].ops + 1 } := by
  obtain ⟨ls, hl⟩ := fetched_self s n
  exact ⟨ls, by rw [ticked, updSeq_seqs, vupd_self, hl]⟩

@[simp] theorem ticked_r (s : State) (n : Sq) : (ticked s n).seqs[n].r = s.seqs[n].r := by
  rw [ticked, updSeq_seqs, vupd_self]; exact fetched_r s n
@[simp] theorem ticked_st (s : State) (n : Sq) : (ticked s n).seqs[n].st = s.seqs[n].st := by
  rw [ticked, updSeq_seqs, vupd_self]; exact fetched_st s n
@[simp] theorem ticked_held (s : State) (n : Sq) : (ticked s n).seqs[n].held = s.seqs[n].held := by
  rw [ticked, updSeq_seqs, vupd_self]; exact fetched_held s n
@[simp] theorem ticked_scratch (s : State) (n : Sq) : (ticked s n).seqs[n].scratch = s.seqs[n].scratch := by
  rw [ticked, updSeq_seqs, vupd_self]; exact fetched_scratch s n
@[simp] theorem ticked_queue (s : State) (n : Sq) : (ticked s n).seqs[n].queue = s.seqs[n].queue := by
  rw [ticked, updSeq_seqs, vupd_self]; exact fetched_queue s n
@[simp] theorem ticked_active (s : State) (n : Sq) : (ticked s n).seqs[n].active = s.seqs[n].active := by
  rw [ticked, updSeq_seqs, vupd_self]; exact fetched_active s n
@[simp] theorem ticked_imask (s : State) (n : Sq) : (ticked s n).seqs[n].imask = s.seqs[n].imask := by
  rw [ticked, updSeq_seqs, vupd_self]; exact fetched_imask s n
@[simp] theorem ticked_netErr (s : State) (n : Sq) : (ticked s n).seqs[n].netErr = s.seqs[n].netErr := by
  rw [ticked, updSeq_seqs, vupd_self]; exact fetched_netErr s n
@[simp] theorem ticked_seqBank (s : State) (n : Sq) (q : Sequencer) : seqBank (ticked s n) q = seqBank s q := fetched_seqBank s n q
@[simp] theorem ticked_bankB (s : State) (n : Sq) : seqBank s (ticked s n).seqs[n] = seqBank s s.seqs[n] := by
  obtain ⟨ls, hl⟩ := ticked_seq s n
  rw [hl, seqBank, seqBank]
@[simp] theorem ticked_cond (s : State) (n : Sq) (c : Nat) : condHolds (ticked s n).seqs[n] c = condHolds s.seqs[n] c := by
  obtain ⟨ls, hl⟩ := ticked_seq s n
  rw [hl]
  rfl

/-- Two changes of one sequencer are one. -/
theorem updSeq_updSeq (s : State) (n : Sq) (f g : Sequencer → Sequencer) :
    updSeq (updSeq s n f) n g = updSeq s n fun q => g (f q) := by
  simp only [updSeq, vupd_vupd]

/-- A ticked sequencer steps to the next word. -/
theorem advanceTo_ticked {s : State} {n : Sq} (hp : s.seqs[n].r.pc ≠ 0xFFFF) (f : SeqRegs → SeqRegs) :
    advanceTo (ticked s n) n f = stepped s n f := by
  rw [advanceTo, if_neg (by rw [ticked_r]; exact hp), ticked, updSeq_updSeq]
  rfl

/-- A ticked sequencer jumps. -/
theorem jumpTo_ticked (s : State) (n : Sq) (pc : BitVec 16) (f : SeqRegs → SeqRegs) :
    jumpTo (ticked s n) n pc f =
      updSeq (fetched s n) n fun q => { q with ops := q.ops + 1, r := { f q.r with pc := pc } } := by
  rw [jumpTo, ticked, updSeq_updSeq]

/-- A ticked sequencer holds a write for its commit. -/
theorem hold_ticked {s : State} {n : Sq} (hp : s.seqs[n].r.pc ≠ 0xFFFF) (hl : s.seqs[n].held.length < 16) (h : Held) :
    hold (ticked s n) n h = heldStep s n h := by
  rw [hold, if_neg (by rw [ticked_held]; exact Nat.not_le.2 hl), advanceTo, if_neg, ticked, updSeq_updSeq, updSeq_updSeq]
  · rfl
  · rw [updSeq_seqs, vupd_self, ticked_r]
    exact hp

/-- A word whose fields are good and whose meaning is a change of the registers steps. -/
theorem plainOp_steps {s : State} {n : Sq} {opc : Nat} {w : BitVec 26} {bad : Bool} (h : Issues s n opc w)
    (hr : reservedOp opc = false) (hb : bad = false) (hp : s.seqs[n].r.pc ≠ 0xFFFF) (f : SeqRegs → SeqRegs) :
    plainOp s n opc w bad f = .next (stepped s n f) := by
  rw [plainOp, issue_of_issues h hr, hb, if_neg Bool.false_ne_true, advanceTo_ticked hp]

/-- A word whose fields are good acts on the ticked state. -/
theorem next_issue {s t : State} {n : Sq} {opc : Nat} {w : BitVec 26} {bad : Bool} {act : State → State} (h : Issues s n opc w)
    (hr : reservedOp opc = false) (hb : bad = false) (ha : act (ticked s n) = t) :
    (.next (issue s n opc w bad act) : Host.Outcome State Fault Refusal) = .next t :=
  next_congr (by rw [issue_of_issues h hr, hb, if_neg Bool.false_ne_true, ha])

end Sys2Proof.Machine
end

section
/-! SUPPORT. NVMe I/O commands: a command that nothing holds and whose checks hold acts (R13, R324, R348, R349). -/

namespace Sys2Proof.Machine

section
variable {s : State} {t : Tag} {r : TagRec} {o : Nat} {n : Ns}

theorem IoReady.opcode (h : IoReady s t r o) : r.cmd.opc = o := h.2.2.2.1
theorem IoReady.nvme (h : IoReady s t r o) : s.quay.sas = false := h.2.1

/-- What an NVMe I/O command asks for is said by its opcode. -/
theorem opOf_of_ready (h : IoReady s t r o) : opOf s r = ioOp false r.cmd := by
  obtain ⟨-, hq, hid, -, -⟩ := h
  rw [opOf, isIo, hq, if_neg Bool.false_ne_true, decide_eq_true hid, if_pos rfl]

theorem ioRow_of_ready (h : IoReady s t r o) {p : HostCmd → Bool} (hp : p r.cmd = true) : ioRow s t p = ioAdmit s r := by
  obtain ⟨ht, hq, hid, -, ha⟩ := h
  unfold ioRow
  simp [ht, hq, hid, ha, hp]

/-- A command other than a Flush to every namespace goes through its checks. -/
theorem ioAdmit_checks (h : ¬(opOf s r = .flush ∧ !s.quay.sas ∧ r.cmd.nsid = 0xFFFFFFFF)) :
    ioAdmit s r = admitCmd s r (ioCheck s r) fun s r => if noEffect s r then finishOk s r.tag else ioAct s r := if_neg h

theorem admitCmd_of_clear (h : IoClear s r) (act : State → TagRec → State) : admitCmd s r (ioCheck s r) act = act s r := by
  rw [h.1, admitCmd]
  exact if_neg (by simp [h.2])

/-- Only a Deallocate can have no effect. -/
theorem noEffect_of_op (h : opOf s r ≠ .dealloc) : noEffect s r = false := by
  rw [noEffect, decide_eq_false h, Bool.and_false, Bool.false_and]

/-- A ready command whose checks hold and whose opcode asks for something acts. -/
theorem ioRow_acts (h : IoReady s t r o) (hc : IoClear s r) {p : HostCmd → Bool} (hp : p r.cmd = true) {op : IoOp}
    (hop : ioOp false r.cmd = op) (hf : op ≠ .flush) (hd : op ≠ .dealloc) : ioRow s t p = ioAct s r := by
  have ho := (opOf_of_ready h).trans hop
  rw [ioRow_of_ready h hp, ioAdmit_checks fun hx => hf (ho.symm.trans hx.1), admitCmd_of_clear hc]
  exact if_neg (by rw [noEffect_of_op (ho ▸ hd)]; exact Bool.false_ne_true)

theorem isZoned_of_nsAt (hn : nsAt s (nsidOf s r) = some n) : isZoned s (nsidOf s r) = n.zoned := by
  rw [isZoned, hn]

end

end Sys2Proof.Machine
end

section
/-! SUPPORT. NVMe admin commands: a command that nothing holds up acts (R324, R349). -/

namespace Sys2Proof.Machine

section
variable {s : State} {t : Tag} {r : TagRec} {o : Nat}

theorem AdminReady.opcode (h : AdminReady s t r o) : r.cmd.opc = o := h.2.2.2.1

/-- A ready admin command acts. -/
theorem adminRow_acts (h : AdminReady s t r o) {p : HostCmd → Bool} (hp : p r.cmd = true) (act : State → TagRec → State) :
    adminRow s t p act = act s r := by
  obtain ⟨ht, hq, hid, -, ha, hw⟩ := h
  unfold adminRow
  simp [ht, hq, hid, ha, hp, adminAdmit, hw]

/-- The row that is named by its opcode alone. -/
theorem adminRow_opcode (h : AdminReady s t r o) (act : State → TagRec → State) :
    adminRow s t (fun c => decide (c.opc = o)) act = act s r := adminRow_acts h (decide_eq_true h.opcode) act

/-- The row that is named by its opcode and one more operand. -/
theorem adminRow_operand (h : AdminReady s t r o) {q : HostCmd → Bool} (hq : q r.cmd = true) (act : State → TagRec → State) :
    adminRow s t (fun c => decide (c.opc = o) && q c) act = act s r :=
  adminRow_acts h (by rw [decide_eq_true h.opcode, hq]; rfl) act

end

end Sys2Proof.Machine
end

section
/-! SUPPORT. SCSI commands: a frame that takes its tag and is granted at once runs in the same step (R318, R323, R345). -/

namespace Sys2Proof.Machine

section
variable {s u v : State} {f : Fn} {c : HostCmd} {t : Tag} {r : TagRec}

theorem SasGranted.opcode (h : SasGranted s f c t u r) : r.cmd.opc = c.opc := by
  obtain ⟨-, -, -, -, -, -, -, -, -, hc, -⟩ := h
  rw [hc]
theorem SasGranted.tag_eq (h : SasGranted s f c t u r) : r.tag = t := by
  obtain ⟨-, -, -, -, -, -, -, -, ht, -⟩ := h
  exact ht
theorem SasGranted.func_eq (h : SasGranted s f c t u r) : r.func = f := by
  obtain ⟨-, -, -, -, -, -, -, -, -, -, hf, -⟩ := h
  exact hf

/-- The two groups of SCSI commands: the admin ones ask for no I/O operation. -/
theorem SasGranted.opOf_eq (h : SasGranted s f c t u r) :
    opOf u r = if !sasAdminOps.contains c.opc then ioOp true c else .other := by
  obtain ⟨-, -, -, -, -, -, -, -, -, hc, -, hs, -⟩ := h
  rw [opOf, isIo, hs, hc]
  rfl

/-- A device that serves SCSI commands is in its run phase, admitted. -/
theorem sasRow_of_up (hu : sasUp s = true) (hi : hostIo s = true) : sasRow s f c = sasReceive s f c := by
  simp only [sasUp, live, Bool.and_eq_true, Bool.not_eq_true', decide_eq_true_eq] at hu
  obtain ⟨⟨⟨hl, hb⟩, hd⟩, hs⟩ := hu
  unfold sasRow
  simp [hd, hs, hb, hl, hi]

/-- The frame takes its tag, and what follows is the grant. -/
theorem afterTag_of_granted (h : SasGranted s f c t u r) :
    afterTag (takeTag (knowNexus s c.nexus) f c t) f c t = refresh (sasRun u r) := by
  obtain ⟨-, -, -, -, hattr, hattn, hch, hu, ht, -, -, -, r0, hn, h0, he⟩ := h
  have hnone : (if sasAlways.contains c.opc then none else attnOf (takeTag (knowNexus s c.nexus) f c t) f c.nexus) = none := by
    rcases hattn with ha | ha
    · exact if_pos ha
    · rw [ha, ite_self]
  unfold afterTag
  rw [hnone]
  dsimp only
  rw [if_neg hattr]
  unfold sasTaken at hch hn he
  rw [hch, hn]
  dsimp only
  rw [if_pos ⟨rfl, h0⟩, grantSas, he, h0, hu]

theorem sasRow_granted (h : SasGranted s f c t u r) : sasRow s f c = refresh (sasRun u r) := by
  rw [← afterTag_of_granted h]
  obtain ⟨hup, hio, had, htag, -⟩ := h
  rw [sasRow_of_up hup hio, sasReceive]
  rw [had, htag]
  rfl

/-- A command that asks for no I/O operation and waits for no method acts. -/
theorem sasRow_acts (h : SasGranted s f c t u r) (hc : SasClear u r)
    (ho : (if !sasAdminOps.contains c.opc then ioOp true c else .other) = .other) {o : Nat} (hopc : c.opc = o) (hb : o ≠ 0xB5)
    (hv : sasAct u r = v) :
    sasRow s f c = refresh v := by
  have hop := h.opOf_eq.trans ho
  rw [sasRow_granted h, sasRun, hc.1]
  dsimp only
  rw [if_neg (not_not.2 hop), hc.2, if_neg Bool.false_ne_true, sasBody, if_neg (not_not.2 hop), if_neg (by rw [h.opcode, hopc]; exact hb), hv]

/-- A command that asks for an I/O operation and passes its checks does what its NVMe counterpart does. -/
theorem sasRow_io (h : SasGranted s f c t u r) (hc : SasClear u r) (hi : IoClear u r) {op : IoOp}
    (ho : (if !sasAdminOps.contains c.opc then ioOp true c else .other) = op) (hne : op ≠ .other) (hv : ioAct u r = v) :
    sasRow s f c = refresh v := by
  have hop : opOf u r ≠ .other := fun hx => hne (ho.symm.trans (h.opOf_eq.symm.trans hx))
  rw [sasRow_granted h, sasRun, hc.1]
  dsimp only
  rw [if_pos hop, admitCmd_of_clear hi, sasBody, if_pos hop, hv]

end

end Sys2Proof.Machine
end

section
/-! Loop messages: what each stores and when it takes effect (R88, R89, R112 to R114). -/

namespace Sys2Proof.Machine

/-- Settles O5: each setter stores its operands once its range checks hold, and each read answers the words it names. -/
theorem loopMessagesComplete : Obligations.LoopMessagesComplete := by
  unfold Obligations.LoopMessagesComplete
  refine ⟨?_, ?_, ?_, ?_, ?_, ?_, ?_, ?_⟩
  · -- LOOP_SET_LAW
    intro s r a law count start words h1 h2 h3 h4 h5
    exact completes rfl (by simp) (by simp [setLaw, h1, h2, h3, h4, h5, okA_eq, -Fin.getElem_fin])
  · -- LOOP_SET_LAW
    intro s r law count start words h1 h2 h3 h4 h5
    exact completes rfl (by simp) (by simp [setLaw, h1, h2, h3, h4, h5, okA_eq]; rfl)
  · -- LOOP_SET_RWO
    intro s r head vals h1 h2 h3
    exact completes rfl (by simp) (if_pos ⟨h1, h2, h3⟩)
  · -- LOOP_SET_MA_GAIN
    intro s r head gain h1 h2
    exact completes rfl (by simp) (by simp [setMaGain, h1, h2, okA_eq])
  · -- LOOP_SET_SEEK
    intro s r a ps v h1
    exact completes rfl (by simp) (by simp [setSeek, setA, h1, okA_eq, -Fin.getElem_fin])
  · -- LOOP_SET_FOLLOW
    intro s r a ps v h1
    exact completes rfl (by simp) (by simp [setFollow, setA, h1, okA_eq, -Fin.getElem_fin])
  · -- LOOP_SET_TWIN
    intro s r a ps v h1
    exact completes rfl (by simp) (by rw [setTwin, selAct_val]; exact setA_of_ok h1)
  · -- LOOP_GET_STATUS
    intro s r a clear
    exact completes rfl (by simp) (by simp [getLoopStatus]; rfl)

end Sys2Proof.Machine
end

section
/-! Twin streams: registration, fallback, handover, release, hold-off (R107, R110, R111). -/

namespace Sys2Proof.Machine

/-- A law changed leaves the lead head and the target. -/
theorem updLaw_lead (x : Actuator) (l : Nat) (f : Law → Law) :
    (updLaw x l f).leadHead = x.leadHead ∧ (updLaw x l f).target = x.target := by
  unfold updLaw
  split <;> exact ⟨rfl, rfl⟩

theorem startMas_lead (hs was : List (Fin 8)) (x : Actuator) :
    (startMas hs was x).leadHead = x.leadHead ∧ (startMas hs was x).target = x.target := by
  unfold startMas
  induction hs.filter fun i => !was.contains i generalizing x with
  | nil => exact ⟨rfl, rfl⟩
  | cons i l ih =>
    obtain ⟨hl, ht⟩ := ih (updLaw x i.val fun l => { l with pendStart := some (maOutput x.maCmd[i]), blendLeft := 0 })
    exact ⟨hl.trans (updLaw_lead ..).1, ht.trans (updLaw_lead ..).2⟩

/-- Entering FOLLOW leaves the lead head and the target. -/
theorem enterMode_follow_lead (place : Hd → Fin 8) (x : Actuator) :
    (enterMode place .follow x).leadHead = x.leadHead ∧ (enterMode place .follow x).target = x.target := by
  have hv : (startVcm .follow x).leadHead = x.leadHead ∧ (startVcm .follow x).target = x.target := by
    unfold startVcm
    split
    · exact ⟨rfl, rfl⟩
    · exact updLaw_lead ..
  obtain ⟨hl, ht⟩ := startMas_lead ((activeHeads { x with mode := .follow }).map place)
    (if maRuns x.mode then (activeHeads x).map place else []) (startVcm .follow x)
  exact ⟨hl.trans hv.1, ht.trans hv.2⟩

/-- Settles O4: each event's guard holds by the hypotheses of its clause, and the branch it opens is the next state. -/
theorem twinEventsComplete : Obligations.TwinEventsComplete := by
  unfold Obligations.TwinEventsComplete
  refine ⟨?_, ?_, ?_, ?_, ?_, ?_, ?_, ?_⟩
  · -- TWIN_REGISTRATION
    intro s a hp h1 h2
    exact next_congr (by simp [twinRegistration, hp, h1, h2, -Fin.getElem_fin])
  · -- TWIN_FALLBACK
    intro s a p k onLead hp h1 h2 h3 h4 h5 h6
    exact next_congr (by simp [twinFallback, hp, h1, h2, h3, h4, h5, h6, -Fin.getElem_fin])
  · -- TWIN_FALLBACK
    intro s a p k onLead hp h1 h2 h3 h4 h5 h6 h7
    exact next_congr (by simp [twinFallback, hp, h1, h2, h3, h4, h5, h6, h7, -Fin.getElem_fin])
  · -- TWIN_FALLBACK
    intro s a p onLead hp h1 h2 h3 h4 h5
    refine next_congr ?_
    unfold twinFallback
    dsimp only
    rw [h2]
    refine (if_pos (by simp [hp, h1, h3, h4, h5, fallbackTrigger, -Fin.getElem_fin])).trans ?_
    simp [triggerOn]
  · intro s a d k h1
    have hl (t : State) (ht : t.wps = s.wps) (hh : t.heads = s.heads) : pairLost t a = t := by
      have : pairedCtxs t a = [] := by
        rw [← h1]
        simp [pairedCtxs, bandOf, ht]
      rw [pairLost, if_pos this]
    rw [dropPair, hl]
    · refine ⟨?_, ?_, ?_, fun b hb => vupd_ne _ _ hb, rfl⟩
      all_goals simp
    · rfl
    · rfl
  · -- TWIN_FALLBACK_HANDOVER
    intro s a d p hp h1 h2 h3 h4 h5 h6
    refine ⟨handOver s a d p, next_congr ?_, ?_⟩
    · unfold twinHandover
      rcases hm : streamOfHead s d with _ | m
      · simp [hp, h1, h2, h3, h4, h5, hm, -Fin.getElem_fin]
      · simp [hp, h1, h2, h3, h4, h5, hm, h6 m hm, -Fin.getElem_fin]
    · unfold handOver
      refine ⟨?_, ?_, ?_, ?_, ?_, fun b hb => vupd_ne _ _ hb, rfl, rfl⟩
      all_goals simp [-Fin.getElem_fin, vupd_self, enterMode_follow_lead]
      rfl
  · -- TWIN_STREAM_RELEASE
    intro s a d hp h1 h2 h3
    refine ⟨updAct (releaseStream (headBack s a d) a (streamOfHead s d)) a
      fun x => { x with fallback := none, partner := if x.partner = some d then none else x.partner }, next_congr ?_, ?_⟩
    · unfold twinRelease
      simp only [h2]
      exact if_pos (by simp [hp, h1, h3, -Fin.getElem_fin])
    · refine ⟨?_, ?_, ?_, ?_, fun b hb => vupd_ne _ _ hb, fun m hm => ?_⟩
      all_goals simp [headBack, undispatch, releaseStream, -Fin.getElem_fin, vupd_self]
      exact ⟨fun h => hm ▸ h, fun h => hm ▸ h⟩
  · -- TWIN_HOLDOFF_EXPIRY
    intro s a lead partner hp
    refine ⟨_, next_if hp, ?_, ?_, fun b hb => vupd_ne _ _ hb, rfl⟩
    · simp
    · simp +contextual

end Sys2Proof.Machine
end

section
/-! Spindle speed: law, ramp, policy, under-speed, chopper, hold-up, and the messages (R129 to R143). -/

namespace Sys2Proof.Machine

theorem updSpn_congr {s : State} {f g : Spindle → Spindle} (h : f s.spn = g s.spn) : updSpn s f = updSpn s g :=
  congrArg (fun p => { s with spn := p }) h

/-- An orderly close of the write gates leaves the spindle. -/
theorem orderlyAll_spn (s : State) (c : Nat) : (orderlyAll s c).spn = s.spn := by
  refine forEach_keeps (·.spn) _ _ _ fun s a => ?_
  unfold orderlyClose addReopen
  repeat' split
  all_goals rfl

/-- The transfer flag set: with a fall of it the write gates close in order. -/
theorem setXfer_spn (s : State) (v : Bool) : (setXfer s v).spn = { s.spn with xferOk := v } := by
  unfold setXfer
  dsimp only
  split
  · rw [orderlyAll_spn]
    rfl
  · rfl

theorem derateCheck_spn (s : State) : (derateCheck s).spn = s.spn := by
  unfold derateCheck
  dsimp only
  rw [updBw_spn]
  split
  · exact raise_spn ..
  · rfl

theorem pslWrite_spn (s : State) (a d : Nat) : (pslWrite s a d).spn = s.spn := by
  unfold pslWrite
  split <;> rfl

/-- What the speed law reads and does not write: the measured speed and the limits, with those pending. -/
theorem runLaw4_inputs (late : List Nat) (l : Fin 32) (d : Int) (s : State) :
    (runLaw4 late l d s).spn.meas = s.spn.meas ∧ (runLaw4 late l d s).spn.limPend = s.spn.limPend ∧
      (runLaw4 late l d s).spn.lim = s.spn.lim := by
  unfold runLaw4
  split
  · exact ⟨rfl, rfl, rfl⟩
  split <;> exact ⟨rfl, rfl, rfl⟩

theorem speedLaw_inputs (late : Bool) (s : State) :
    (speedLaw late s).spn.meas = s.spn.meas ∧ (speedLaw late s).spn.limPend = s.spn.limPend ∧
      (speedLaw late s).spn.lim = s.spn.lim := by
  unfold speedLaw
  split
  · exact ⟨rfl, rfl, rfl⟩
  · exact runLaw4_inputs ..

theorem replan_inputs (p : Spindle) : (replan p).meas = p.meas ∧ (replan p).limPend = p.limPend ∧ (replan p).lim = p.lim := by
  unfold replan
  split
  · split <;> exact ⟨rfl, rfl, rfl⟩
  · exact ⟨rfl, rfl, rfl⟩

theorem refStep_inputs (s : State) :
    (refStep s).spn.meas = s.spn.meas ∧ (refStep s).spn.limPend = s.spn.limPend ∧ (refStep s).spn.lim = s.spn.lim := by
  unfold refStep
  split
  · exact ⟨rfl, rfl, rfl⟩
  · extract_lets p aim r0 slope r1 hold r s1
    have h1 : s1.spn.meas = s.spn.meas ∧ s1.spn.limPend = s.spn.limPend ∧ s1.spn.lim = s.spn.lim := replan_inputs s.spn
    clear_value s1
    split <;> exact h1

/-- The same, of two spindles. -/
def SameInputs (p q : Spindle) : Prop := p.meas = q.meas ∧ p.limPend = q.limPend ∧ p.lim = q.lim

/-- A speed sample: the measured speed and the limits are taken, the law runs, the transfer flag is set by what it left, and no
    more changes but the gates. -/
theorem speedLawSample_spn {s : State} (meas8 : Nat) (late : Bool) (hp : powered s = true) :
    ∃ (s2 t : State) (slope : Nat) (off brake : Bool), exec (.speedLawSample meas8 late) s = .next t ∧
      SameInputs s2.spn { s.spn with
        meas := meas8 % 65536, limPend := none,
        lim := match s.spn.limPend with | some l => { l with tDead := s.spn.lim.tDead, tMin := s.spn.lim.tMin } | none => s.spn.lim } ∧
      t.spn = { (underCount (setXfer s2 (xferHolds s2.spn slope))).spn with gatesOff := off, shortBrake := brake } := by
  obtain ⟨u, hu⟩ : ∃ u, execSpeedLawSample meas8 late s = u := ⟨_, rfl⟩
  have hx : exec (.speedLawSample meas8 late) s = u := hu
  unfold execSpeedLawSample at hu
  rw [if_pos hp] at hu
  extract_lets s0 s1 aim slope s2 s3 at hu
  have h1 : s1.spn = s0.spn := by
    unfold s1
    split
    · rfl
    · exact pslWrite_spn ..
  have h2 := refStep_inputs s1
  have h3 := speedLaw_inputs late (refStep s1)
  rw [h1] at h2
  have hi : SameInputs s2.spn s0.spn := ⟨h3.1.trans h2.1, h3.2.1.trans h2.2.1, h3.2.2.trans h2.2.2⟩
  have he : ∃ off brake, (derateCheck (if s3.spn.st = .holdup ∧ s3.spn.meas < 9600 then gatesOffNow s3 else s3)).spn =
      { s3.spn with gatesOff := off, shortBrake := brake } := by
    rw [derateCheck_spn]
    split
    · exact ⟨true, false, rfl⟩
    · exact ⟨_, _, rfl⟩
  obtain ⟨off, brake, he⟩ := he
  exact ⟨s2, _, slope, off, brake, hx.trans hu.symm, hi, he⟩

/-- Settles O7: an event takes the branch its guard opens; a message that passes its checks stores or answers. -/
theorem spindleSpeedAndMessagesComplete : Obligations.SpindleSpeedAndMessagesComplete := by
  unfold Obligations.SpindleSpeedAndMessagesComplete
  refine ⟨⟨?_, ?_, ?_, ?_, ?_, ?_, ?_, ?_, ?_, ?_⟩, ⟨?_, ?_, ?_, ?_, ?_, ?_, ?_, ?_, ?_, ?_, ?_⟩⟩
  · -- SPEED_LAW_SAMPLE
    intro s meas8 late hp
    obtain ⟨s2, t, slope, off, brake, hx, ⟨hm, hl, hn⟩, ht⟩ := speedLawSample_spn meas8 late hp
    have hu : SameInputs t.spn s2.spn := by
      rw [ht, underCount, updSpn_spn, setXfer_spn]
      exact ⟨rfl, rfl, rfl⟩
    refine ⟨t, hx, hu.1.trans hm, hu.2.1.trans hl, fun h => ?_, fun l h => ?_⟩
    · rw [hu.2.2, hn, h]
    · rw [hu.2.2, hn, h]
  · -- SPEED_LAW_SAMPLE
    intro s t meas8 late hp h1 h2
    obtain ⟨s2, u, slope, off, brake, hx, -, hu⟩ := speedLawSample_spn meas8 late hp
    obtain rfl : u = t := Host.Outcome.next.inj (hx.symm.trans h1)
    rw [hu, underCount, updSpn_spn, setXfer_spn] at h2 ⊢
    have h3 : xferHolds s2.spn slope = true := h2
    simp only [xferHolds, Bool.and_eq_true, decide_eq_true_eq, Bool.not_eq_true'] at h3
    obtain ⟨⟨⟨⟨⟨hr, hlo⟩, hhi⟩, hd⟩, hf⟩, -⟩ := h3
    exact ⟨hr, hlo, hhi, hd, hf⟩
  · -- FREE_RAMP_START
    intro s hp h1 h2
    exact next_congr (by simp [hp, h1, h2])
  · -- SPEED_POLICY_EVAL
    intro s busy h1 h2 h3 h4 h5 h6
    refine next_congr ?_
    have hs : 2 ≤ satInc 2 s.spn.highN := by
      unfold satInc
      split <;> omega
    have hl : ¬busy.foldl max 0 < s.spn.pol.lLo := by omega
    rw [if_pos (by rw [h1, h2]; rfl)]
    simp only [updSpn_spn, h3, hl, if_true, if_false, hs, h6, and_self]
    rfl
  · -- DIRTY_HOLD_RELEASE
    intro s hp h1 h2 h3
    refine next_congr ?_
    rw [if_pos (by rw [hp, h1, decide_eq_true h2]; rfl)]
    have hf : freeNow s.spn = false := by rw [freeNow, h3]; rfl
    dsimp only
    rw [hf, if_neg Bool.false_ne_true]
    exact updSpn_congr (by rw [hf])
  · -- DIRTY_HOLD_RELEASE
    intro s hp h1 h2 h3 h4
    refine next_congr ?_
    rw [if_pos (by rw [hp, h1, decide_eq_true h2]; rfl)]
    have hf : freeNow s.spn = true := by rw [freeNow, h3, h4]; rfl
    dsimp only
    rw [hf, if_pos rfl]
    exact congrArg (setXfer · false) (updSpn_congr (by rw [hf]))
  · -- UNDERSPEED
    intro s hp h1
    exact next_congr (if_pos (by simp [hp, h1.symm]))
  · -- CHOPPER_FAULT
    intro s hp h1 h2
    exact next_congr (by simp [hp, h1, h2])
  · -- HOLDUP_ENTRY
    intro s hp h1 h2 h3 h4
    refine ⟨_, next_congr ((if_pos (by simp [hp, h1, h2, h3])).trans (if_pos h4)), ?_⟩
    rw [updBw_spn, setXfer_spn]
    exact ⟨rfl, rfl, rfl, rfl⟩
  · -- HOLDUP_ENTRY
    intro s hp h1 h2 h3 h4
    exact next_congr (by simp [hp, h1, h2, h3, h4])
  · -- SPN_SET_SPEED
    intro s r rpm cls h1 h2 h3 h4
    exact completes rfl (by simp) (by simp [spnSetSpeed, h1, h2, h3, h4, okA_eq])
  · -- SPN_SET_SPEED
    intro s r rpm cls h1 h2
    refine turnsAway rfl (by simp) ?_ (by simp) (by simp) (by simp)
    rw [spnSetSpeed, if_neg (by rw [h1]; decide), if_neg (by omega)]
    rfl
  · -- SPN_SET_POLICY
    intro s r ps p h1 h2
    refine completes rfl (by simp) ((setA_of_ok h1).trans ?_)
    rw [if_neg (by obtain h | h := h2 <;> simp [h])]
  · -- SPN_SET_POLICY
    intro s r ps p h1 h2 h3
    exact completes rfl (by simp) (by simp [spnSetPolicy, setA, acceptSet, h1, h2, h3, okA_eq])
  · -- SPN_SET_LIMITS
    intro s r ps p h1 h2 h3
    exact completes rfl (by simp) (by simp [spnSetLimits, setA, h1, h2, h3, okA_eq])
  · -- SPN_SET_MOTOR
    intro s r ps p h1 h2
    exact completes rfl (by simp) (by simp [spnSetMotor, setA, h1, h2, okA_eq])
  · -- SPN_SET_MOTOR
    intro s r ps h1
    exact turnsAway rfl (by simp) (by simp [spnSetMotor, h1]) (by simp) (by simp) (by simp)
  · -- SPN_START
    intro s r h1 h2
    refine completes rfl (by simp) ?_
    simp [spnStart, okA, spinStart, h1, h2]
    rfl
  · -- SPN_START
    intro s r h1 h2
    refine completes rfl (by simp) ?_
    simp [spnStart, okA, spinStart, h1, h2]
    rfl
  · -- SPN_STOP
    intro s r h1
    exact completes rfl (by simp) (by simp [spnStop, h1, okA_eq])
  · -- SPN_GET_STATUS
    intro s r clear
    refine completes rfl (by simp) ?_
    simp [spnGetStatus]
    rfl

end Sys2Proof.Machine
end

section
/-! Read channel: sector reads, decoding, results, deep decoding (R161 to R181). -/

namespace Sys2Proof.Machine

/-- A result pushed stands at its stream's end. -/
theorem mem_pushRes (s : State) (m : Strm) (r : ReadRes) : r ∈ (pushRes s m r).chn[m].results := by
  rw [pushRes, updChn_chn, vupd_self]
  exact List.mem_append_right _ (List.mem_singleton_self _)

/-- Neither the counters nor the ladder touch a result. -/
theorem mem_dropRec {s : State} {m : Strm} {r : ReadRes} (h : Hd) (ok weak : Bool) (o : ReadOrd) (hr : r ∈ s.chn[m].results) :
    r ∈ (updChn (countRead s h ok weak) m fun c => dropRec c o).chn[m].results := by
  rw [updChn_chn, vupd_self, countRead, updHeadCtr_chn]
  exact hr

/-- A decoding that ends a read counts its result and drops the read's ladder entry. -/
theorem decodeDone_ends {s s1 : State} {m : Strm} {d : DecodeFacts} {x : ReadCtx} {found : Option Int} {v : Verdict} {st : Nat}
    (h1 : takeDecode s m = some (x, s1)) (h2 : foundSync x.par (d.soft.map (llrOf x.par.llrScale)) = found)
    (h3 : streamVerdict s1 x found d = v) (h4 : finalStatus s1 m x v d = st) (h5 : st = 0 ∨ st = 1 ∨ st = 6) :
    ∃ u b h ok w, decodeDone m d s = updChn (countRead (pushRes u m
      { ord := x.ord, word := resultWord st v.iter x.flagged v.alt v.missed false 0 v.delta (readPsa s x.ord), block := v.block,
        ends := true, reloc := b }) h ok w) m fun c => dropRec c x.ord := by
  have hg : (decide (st = 0 ∨ st = 1) || decide (st = 6)) = true := by simpa [or_assoc] using h5
  simp only [decodeDone, h1, h2, h3, h4, hg, if_true]
  exact ⟨_, _, _, _, _, rfl⟩

/-- A deep decoding that passes with no error left counts its result and drops its ladder entry. -/
theorem deepDone_passes {s : State} {m : Strm} {r : RecRec} {d : DecodeFacts} {v : Verdict}
    (hv : tryCandidates (readPsa s r.ord) r.ord.gen (candidates r.tol r.found d s.chnDev.now.iterDeep s.chnDev.now.iterDeep) = v)
    (h : v.status = 0) :
    deepDone s m r d = pushRes (countRead (updChn s m fun c => dropRec c r.ord) r.ord.head true false) m
      { ord := r.ord, block := v.block, ends := true, reloc := true,
        word := resultWord 1 v.iter r.flagged v.alt r.found.isNone (decide (1 < r.sets.length)) 1 (syncDelta r.found)
          (readPsa s r.ord) } := by
  rw [deepDone, hv, h]
  rfl

/-- Settles O8: each event's guard holds by the hypotheses of its clause, and the branch it opens is the next state. -/
theorem channelEventsComplete : Obligations.ChannelEventsComplete := by
  unfold Obligations.ChannelEventsComplete
  refine ⟨?_, ?_, ?_, ?_, ?_, ?_, ?_, ?_, ?_, ?_, ?_, ?_, ?_⟩
  · -- SECTOR_READ_START
    intro s m o hp h1 h2 h3
    exact next_congr (by simp [sectorReadStart, hp, h1, h2, h3, -Fin.getElem_fin])
  · -- what a sector read starts
    intro s m o
    unfold sectorStart
    dsimp only
    rw [updChn_chn, vupd_self]
    refine ⟨rfl, rfl, rfl, Nat.lt_succ_iff.1 (Nat.mod_lt _ (by decide)), Nat.mod_lt _ (by decide), fun k hk => vupd_ne _ _ hk, rfl⟩
  · -- SECTOR_READ_START
    intro s m o hp h1 h2 h3
    exact next_congr (by simp [sectorReadStart, hp, h1, h2, h3, -Fin.getElem_fin])
  · -- SECTOR_DECODE_DONE
    intro s s1 m d x found v st hp h1 h2 h3 h4 h5
    obtain ⟨u, b, h, ok, w, hd⟩ := decodeDone_ends h1 h2 h3 h4 h5
    exact ⟨_, (next_if hp).trans (next_congr hd), _, mem_dropRec h ok w _ (mem_pushRes ..), rfl, rfl, rfl, rfl⟩
  · -- SECTOR_RESULT_POST
    intro s m q rest hp h1 h2
    exact next_congr (by simp [postResult, hp, h1, h2,
      -Fin.getElem_fin])
  · -- SECTOR_RESULT_POST
    intro s m q rest hp h1 h2 h3
    have hr (t : State) : relocWeak t (actOfStream m) q = t := by
      unfold relocWeak
      split
      · rw [h3]
        rfl
      · rfl
    refine next_congr ?_
    simp only [h1, hp, h2, if_true, postResult, hr]
  · -- DEEP_DECODE_START
    intro s d m hp h1 h2
    exact next_congr (by simp [hp, h1, h2])
  · -- DEEP_DECODE_DONE
    intro s d f m psa r hp h1 h2
    exact next_congr (by simp [deepDecodeDone, hp, h1, h2, -Fin.getElem_fin])
  · -- DEEP_DECODE_DONE
    intro s m d f psa r v hp h1 h2 h3 h4
    have hd := deepDone_passes (s := { s with chnDev := { s.chnDev with deep := vupd s.chnDev.deep d fun _ => none } }) (m := m) h3 h4
    refine ⟨_, (next_congr (t := deepDone _ m r f) ?_).trans (next_congr hd), vupd_self .., _, mem_pushRes .., rfl, rfl, rfl, rfl⟩
    simp only [deepDecodeDone, h1, hp, if_true, h2]
  · -- RECOVERY_LIMIT_EXPIRY
    intro s m h track slot r hp h1 h2 h3
    refine next_congr ?_
    unfold recoveryExpiry
    rw [h2]
    refine (if_pos (by rw [hp, decide_eq_true h1]; rfl)).trans (if_neg fun hx => ?_)
    obtain ⟨-, -, -, hx⟩ := hx
    rw [h3] at hx
    exact nomatch hx
  · -- RECOVERY_LIMIT_EXPIRY
    intro s m h track slot r hp h1 h2 h3 h4 h5 h6
    refine next_congr ?_
    unfold recoveryExpiry
    rw [h2]
    exact (if_pos (by rw [hp, decide_eq_true h1]; rfl)).trans
      (if_pos ⟨h3, by rw [h4]; rfl, by rw [h5]; rfl, by rw [h6]; rfl⟩)
  · -- FORMAT_APPLY
    intro s m a b k hp h1 h2 h3
    refine ⟨_, next_if (by rw [hp, h1, h2]; rfl), ?_, fun h hh => vupd_ne _ _ hh, rfl, rfl⟩
    rw [updChz]
    dsimp only
    rw [vupd_self, vupd_self, h3]
  · -- SYNC_PARAM_APPLY
    intro s h z tol win hd ofs hp h1 h2
    have hg : (allStreams.all fun m => !(s.chn[m].readGate && decide (s.streams[m].head = h))) = true :=
      (Bool.and_eq_true_iff.1 h1).2
    refine ⟨_, next_if (by rw [hp, hg]; rfl), ?_, fun k hk => vupd_ne _ _ hk, rfl, rfl⟩
    rw [updChz]
    dsimp only
    rw [vupd_self, vupd_self, h2]

end Sys2Proof.Machine
end

section
/-! Read channel messages (R145, R147, R161, R180, R181). -/

namespace Sys2Proof.Machine

/-- Settles O9: each message that passes its checks stores its operands or answers its words. -/
theorem channelMessagesComplete : Obligations.ChannelMessagesComplete := by
  unfold Obligations.ChannelMessagesComplete
  refine ⟨?_, ?_, ?_, ?_, ?_, ?_, ?_, ?_⟩
  · -- CHN_SET_FORMAT
    intro s s' r head zone w h1 h2 h3
    exact completes rfl (by simp) (by simp [setFormat, setAllA, h1, h2, h3, okA_eq])
  · -- CHN_SET_FRONTEND
    intro s s' r head zone ps h1 h2
    exact completes rfl (by simp) (by rw [setFrontend, setHz, if_neg h1]; exact setAllA_of_ok h2)
  · -- CHN_SET_EQ
    intro s s' r head zone m ps h1 h2
    exact completes rfl (by simp) (by simp [setEq, setAllA, h1, h2, okA_eq])
  · -- CHN_SET_DETECTOR
    intro s s' r head zone ps h1 h2
    exact completes rfl (by simp) (by rw [setDetector, setHz, if_neg h1]; exact setAllA_of_ok h2)
  · -- CHN_SET_SYNC
    intro s s' r head zone ps h1 h2
    exact completes rfl (by simp) (by rw [setSync, setHz, if_neg h1]; exact setAllA_of_ok h2)
  · -- CHN_SET_RECOVERY
    intro s r m ps x h1
    exact completes rfl (by simp) (by simp [setRecovery, setA, h1, okA_eq, -Fin.getElem_fin])
  · -- CHN_GET_STATUS
    intro s r m clear
    exact completes rfl (by simp) (by simp [getChnStatus]; rfl)
  · -- CHN_CAPTURE
    intro s r head slot track count h m h1 h2 h3 h4 h5
    have hc : ¬(count = 0 ∨ 65536 < count) := by omega
    exact begins rfl (by simp) (by simp [chnCapture, h1, hc, h4, h5, okA, failA, -Fin.getElem_fin])

end Sys2Proof.Machine
end

section
/-! Write path: orders, gates, sectors, underrun, run end, rewrite, heaters (R185 to R202). -/

namespace Sys2Proof.Machine

/-- Bits sent to the heads leave the write gate. -/
theorem sendBits_wg (s : State) (a : Act) (start : Int) (bits : List Bool) : (sendBits s a start bits).wps[a].wg = s.wps[a].wg := by
  unfold sendBits
  split
  · rfl
  · simp [emit]

/-- Settles O10: each event finds its order, run or band, and takes the branch its guard opens. -/
theorem writeEventsComplete : Obligations.WriteEventsComplete := by
  unfold Obligations.WriteEventsComplete
  refine ⟨?_, ?_, ?_, ?_, ?_, ?_, ?_, ?_, ?_, ?_, ?_, ?_, ?_, ?_, ?_, ?_, ?_⟩
  · -- WRITE_ORDER_DISPATCH
    intro s a o blocks h1 h2 h3 h4 h5 h6
    refine ⟨selectWrite (updWp (heaterWrite s o.head) a fun p => startNext { p with queue := [{ o with blocks := blocks }] }) a o.head,
      next_congr ?_, ?_⟩
    · have hr : (heaterWrite s o.head).wps = s.wps := by
        unfold heaterWrite
        split <;> rfl
      unfold writeOrderDispatch
      simp [h1, h2, h3, h4, h5, h6, -Fin.getElem_fin]
    · have hr : (heaterWrite s o.head).wps = s.wps := by
        unfold heaterWrite
        split <;> rfl
      have hv : (heaterWrite s o.head).wheads[o.head].htrWriteVal = true := by
        unfold heaterWrite
        split
        · assumption
        · simp [-Fin.getElem_fin, vupd_self]
      refine ⟨?_, ?_, ?_, ?_, hv, fun b hb => ?_⟩
      all_goals simp [selectWrite, startNext, -Fin.getElem_fin, vupd_self]
      rw [vupd_ne _ _ hb, hr]
  · -- WRITE_ORDER_DISPATCH
    intro s a o blocks r h1 h2 h3 h4 h5 h6
    exact next_congr (by simp [writeOrderDispatch, h1, h2, h3, h4, h5, h6, -Fin.getElem_fin])
  · -- HTR_READY_SET
    intro s h since hp h1 h2
    exact next_congr (by simp [hp, h1, h2, -Fin.getElem_fin])
  · -- ASSIST_ENABLE_RISE
    intro s a r h1 h2 h3 h4 h5 h6
    exact next_congr (by simp [h1, h2, h3, h4, h5, h6, -Fin.getElem_fin])
  · -- ASSIST_ENABLE_RISE
    intro s a r c h1 h2 h3 h4 h5 h6
    exact next_congr (by simp [h1, h2, h3, h4, h5, h6, -Fin.getElem_fin])
  · -- WRITE_GATE_OPEN
    intro s a r h1 h2 h3 h4 h5 h6 h7
    refine ⟨?_, ?_⟩
    · exact next_congr (by simp [h1, h2, h3, h4, h5, h6, h7, -Fin.getElem_fin])
    · unfold openGate
      dsimp only
      split
      · rw [sendBits_wg]
        simp [updGuard, -Fin.getElem_fin, vupd_self]
      · simp [updGuard, -Fin.getElem_fin, vupd_self]
  · -- WRITE_GATE_OPEN
    intro s a r c h1 h2 h3 h4 h5 h6 h7
    exact next_congr (by simp [h1, h2, h3, h4, h5, h6, h7, -Fin.getElem_fin])
  · -- WRITE_SECTOR_END
    intro s a r hp h1 h2 h3 h4 h5 h6
    have hn : ¬(r.ended.length + 1 < r.ord.count ∧ (endSector s a r).wps[a].buffer = []) := by
      rintro ⟨hl, hb⟩
      exact h6.elim (by omega) fun h => h hb
    refine next_congr ?_
    unfold writeSectorEnd
    simp only [h1, h5, if_neg hn]
    exact if_pos (by simp [hp, h2, h3, h4, -Fin.getElem_fin])
  · -- WRITE_SECTOR_END
    intro s a r c hp h1 h2 h3 h4 h5
    exact next_congr (by simp [writeSectorEnd, hp, h1, h2, h3, h4, h5, -Fin.getElem_fin])
  · -- WRITE_SECTOR_END
    intro s a r hp h1 h2 h3 h4 h5 h6
    refine next_congr ?_
    unfold writeSectorEnd
    simp only [h1, h5, if_pos (And.intro h3 h6)]
    exact if_pos (by simp [hp, h2, Nat.lt_of_succ_lt h3, h4, -Fin.getElem_fin])
  · -- WRITE_UNDERRUN
    intro s a r hp h1 h2 h3 h4
    exact next_congr (by simp [writeUnderrun, hp, h1, h2, h3, h4, -Fin.getElem_fin])
  · -- WRITE_RUN_END
    intro s a r hp h1 h2 h3
    exact next_congr (by simp [writeRunEnd, hp, h1, h2, h3, -Fin.getElem_fin])
  · -- SECTOR_REWRITE
    intro s a ctx slot st b h1 h2 h3 h4 h5 h6 h7 h8
    refine next_congr ?_
    unfold sectorRewrite
    rw [h3]
    dsimp only
    exact (if_pos (by rw [h1, h2, h4, h5]; simpa using h6)).trans (if_pos (by simp [h7, h8, -Fin.getElem_fin]))
  · -- SECTOR_REWRITE
    intro s a ctx slot st b h1 h2 h3 h4 h5 h6 h7
    refine next_congr ?_
    unfold sectorRewrite
    rw [h3]
    dsimp only
    exact (if_pos (by rw [h1, h2, h4, h5]; simpa using h6)).trans (if_neg (by simp [h7, -Fin.getElem_fin]))
  · -- FF_PERSIST
    intro s h1 h2
    exact next_congr (by simp [h1, h2])
  · -- HEATER_HOLD_END
    intro s h hp h1
    refine ⟨_, next_if (by simp [hp, h1, -Fin.getElem_fin]), ?_, fun z => ?_, ?_, fun k hk => vupd_ne _ _ hk, rfl⟩
    · simp [-Fin.getElem_fin, vupd_self]
    · simp
    · simp [-Fin.getElem_fin, vupd_self]
  · -- CONTACT_REARM
    intro s h hp h1
    exact next_congr (by simp [hp, h1, -Fin.getElem_fin])

end Sys2Proof.Machine
end

section
/-! Write path messages (R203 to R212, R440). -/

namespace Sys2Proof.Machine

/-- Settles O11: each message that passes its checks stores its operands or answers its words. -/
theorem writeMessagesComplete : Obligations.WriteMessagesComplete := by
  unfold Obligations.WriteMessagesComplete
  refine ⟨?_, ?_, ?_, ?_, ?_, ?_, ?_, ?_, ?_, ?_, ?_⟩
  · -- WRP_SET_FORMAT
    intro s s' r head zone ps h1 h2
    exact completes rfl (by simp) (by rw [wrpFormat, setWhz, if_neg h1]; exact setAllA_of_ok h2)
  · -- WRP_SET_ASSIST
    intro s s' r head zone ps h1 h2 h3
    refine completes rfl (needOf_ne_sg _ _) ?_
    have h2' : ¬((ps.any fun e => e.1 = 0) = true ∧ s.sec.life ≠ .manufacture ∧ s.sec.life ≠ .ret) := by
      rintro ⟨ha, hm, hr⟩
      rcases h2 with h | h | h
      · rw [h] at ha; cases ha
      · exact hm h
      · exact hr h
    rw [wrpAssist, if_neg h2', setWhz, if_neg h1]
    exact setAllA_of_ok h3
  · -- WRP_SET_FH
    intro s s' r head zone ps h1 h2
    exact completes rfl (by simp) (by rw [wrpFh, setWhz, if_neg h1]; exact setAllA_of_ok h2)
  · -- WRP_SET_LIMITS
    intro s r ps l h1
    exact completes rfl (by simp) (by simp [wrpLimits, setA, h1, okA_eq])
  · -- WRP_SET_WEAR
    intro s s' r head ps h1 h2
    exact completes rfl (by simp) (by simp [wrpWear, h1, h2, okA_eq])
  · -- WRP_OPEN_BAND
    intro s s' r a d c h1 h2
    refine completes rfl (by simp) ?_
    have h0 : ((List.range 10).find? fun k => decide (fld d.toNat (8 * k) (if k = 9 then 3 else 8) ≠ 0)) = none := by
      refine List.find?_eq_none.2 fun k hk => ?_
      have hk' := List.mem_range.1 hk
      simp only [fld] at h1 ⊢
      interval_cases k <;> simp at h1 ⊢ <;> omega
    rw [wrpOpen, selAct_val]
    dsimp only
    rw [h0]
    dsimp only
    rw [h2]
    rfl
  · -- WRP_CLOSE_BAND
    intro s r a ctx b h1 h2
    exact completes rfl (by simp) (by simp [wrpClose, h1, h2]; rfl)
  · -- WRP_STOP
    intro s r a
    exact completes rfl (by simp) (by simp [wrpStop, okA_eq])
  · -- WRP_RELEASE
    intro s r head h h1
    exact completes rfl (by simp) (by simp [wrpRelease, h1, okA_eq])
  · -- WRP_GET_STATUS
    intro s r a clear
    exact completes rfl (by simp) (by simp [wrpGet]; rfl)
  · -- WRP_GET_WEAR
    intro s r head h h1
    exact completes rfl (by simp) (by simp [wrpGetWear, h1]; rfl)

end Sys2Proof.Machine
end

section
/-! Berths: destage, parity, manifest, log, dredge, patrol, checkpoint (R243 to R271). -/

namespace Sys2Proof.Machine

/-- Substituting the poisoned blocks of a stripe leaves the berth engine as it is. -/
@[simp] theorem substStripe_brt (s : State) (b : Berth) (st : Nat) : (substStripe s b st).brt = s.brt :=
  forEach_keeps State.brt _ s _ fun s c => by simp [substBlock, consumed, updBlock, takeFree]

/-- Settles O13: each event finds its berth, entry or victim, and takes the branch its guard opens. -/
theorem berthEventsComplete : Obligations.BerthEventsComplete := by
  unfold Obligations.BerthEventsComplete
  refine ⟨?_, ?_, ?_, ?_, ?_, ?_, ?_, ?_, ?_, ?_, ?_, ?_⟩
  · -- STRIPE_DESTAGE_START
    intro s berth stripe b k h1 h2 h3 h4 h5 h6 h7
    have h5' := List.contains_iff_mem.1 h5
    refine ⟨updBrt (substStripe s b stripe) fun e =>
      { e with destage := e.destage.erase (berth, stripe), parityBufs := e.parityBufs + layK b.layout,
               parityPtr := (k + 1) % 4, parity := vupd e.parity k fun _ => some (berth, stripe) }, ?_, ?_⟩
    · exact next_congr (by simp [h1, h2, h3, h4, h5', h6, h7, -Fin.getElem_fin])
    · simp [-Fin.getElem_fin, vupd_self]
  · -- PARITY_ENGINE_DONE
    intro s e x b hp h1 h2
    refine next_congr ?_
    simp [hp, h1, h2]
    rfl
  · -- MANIFEST_ENTRY_RECORDED
    intro s slot m b h1 h2 h3 h4 h5
    exact next_congr (by simp [h1, h2, h3, h4, h5])
  · -- MEMBER_STRIP_COMPLETE
    intro s slot member energyNj actUs m a o b hp h1 h2 h3 h4 h5 h6
    refine next_congr ?_
    rw [h1, h2]
    dsimp only
    rw [hp, h3, h4, h5]
    refine (if_pos rfl).trans ?_
    rewrite [h6]
    rfl
  · -- LOG_STRIPE_AGED
    intro s kind layout h1 h2 h3 h4
    exact next_congr (by simp [h1, h2, h3, h4])
  · -- DREDGE_START
    intro s b h1 h2 h3 h4 h5
    exact next_congr (by simp [h1, h2, h3, h4, h5])
  · -- DREDGE_VICTIM_DONE
    intro s s1 b h1 h2 h3 h4 h5
    exact next_congr (by simp [h1, h2, h3, h4, h5])
  · -- PATROL_STRIPE_CHECK
    intro s berth stripe rows b h1 h2 h3 h4 h5 h6
    exact next_congr (by simp [h1, h2, h3, h4, h5, h6])
  · -- PATROL_STRIPE_CHECK
    intro s berth stripe rows b h1 h2 h3 h4 h5 h6
    exact next_congr (by simp [h1, h2, h3, h4, h5, h6])
  · -- CHECKPOINT_START
    intro s h1 h2 h3 h4
    exact next_congr (if_pos (by simp [h1, h2, h3, h4, ckptDue]))
  · -- CHECKPOINT_COMMIT
    intro s p hp h1 h2
    exact next_congr (by simp [hp, h1, h2])
  · -- CHECKPOINT_COMMIT
    intro s p hp h1 h2 h3
    exact next_congr (by simp [hp, h1, h2, h3])

end Sys2Proof.Machine
end

section
/-! Berth and rebuild messages (R240 to R304). -/

namespace Sys2Proof.Machine

/-- Settles O14: each message that passes its checks stores its operands, begins its work or answers its words. -/
theorem berthAndRebuildMessagesComplete : Obligations.BerthAndRebuildMessagesComplete := by
  unfold Obligations.BerthAndRebuildMessagesComplete
  refine ⟨⟨?_, ?_, ?_, ?_, ?_, ?_, ?_, ?_, ?_⟩, ⟨?_, ?_, ?_, ?_, ?_, ?_, ?_, ?_, ?_, ?_, ?_⟩⟩
  · -- BRT_SET_LAYOUT
    intro s r layout h1 h2
    exact completes rfl (by simp) (by simp [brtLayout, h1, h2, okA_eq])
  · -- BRT_SET_LAYOUT
    intro s r nsid layout n h1 h2 h3 h4 h5 h6
    exact completes rfl (by simp) (by simp [brtLayout, h1, h2, h3, h4, h5, h6, okA_eq])
  · -- BRT_SET_LIMITS
    intro s r ps p h1 h2
    refine completes rfl (needOf_ne_sg _ _) ?_
    rw [brtLimits, if_neg]
    · exact setA_of_ok h2
    · rintro ⟨ha, hm, hr⟩
      obtain h | h | h := h1
      · exact absurd ha (by rw [h]; decide)
      · exact hm h
      · exact hr h
  · -- BRT_SET_PATROL
    intro s r ps p h1
    exact completes rfl (by simp) (by simp [brtPatrol, setA, h1, okA_eq])
  · -- BRT_SET_CKPT
    intro s r ps p h1 h2
    refine completes rfl (needOf_ne_sg _ _) ?_
    rw [brtCkpt, if_neg]
    · exact setA_of_ok h2
    · rintro ⟨ha, hm, hr⟩
      obtain h | h | h := h1
      · exact absurd ha (by rw [h]; decide)
      · exact hm h
      · exact hr h
  · -- BRT_CHECKPOINT
    intro s r h1
    refine begins rfl (by simp) ?_
    simp [brtCheckpoint, h1]
    rfl
  · -- BRT_CHECKPOINT
    intro s r h1
    refine begins rfl (by simp) ?_
    simp [brtCheckpoint, h1]
    rfl
  · -- BRT_GET_BERTH
    intro s r berth skip b gs h1 h2
    exact completes rfl (by simp) (by simp [brtGetBerth, h1, h2])
  · -- BRT_GET_STATUS
    intro s r clear
    refine completes rfl (by simp) ?_
    simp [brtGet]
    rfl
  · -- BRT_SET_HEAD
    intro s r h h1 h2
    exact completes rfl (by simp) (by simp [brtSetHead, selHead, h1, h2, okA_eq,
      -Fin.getElem_fin])
  · -- BRT_SET_HEAD
    intro s r h state h1 h2 h3
    have h0 : state ≠ 0 := by omega
    have hne : s.tbl.heads[h] ≠ headStateOf state := fun he => by
      rw [he] at h3
      obtain rfl | rfl := h2 <;> exact absurd h3 (by decide)
    refine completes (by simp only [exec, execBrtSetHead, if_neg h0]; rfl) (by simp) ?_
    rw [brtSetHead, if_neg (by omega), selHead_val h1]
    simp only [if_neg h0, if_neg hne, h3, if_true, okA_eq]
  · -- BRT_SET_HEAD
    intro s r h h1 h2
    refine turnsAway rfl (by simp) ?_ (by simp) (by simp) (by simp)
    simp [brtSetHead, selHead, headStateOf, mayDeclare, h1, h2]
    rfl
  · -- BRT_SET_HEALTH
    intro s r ps p h1
    exact completes rfl (by simp) (by simp [brtSetHealth, setA, h1, okA_eq])
  · -- BRT_SET_REBUILD
    intro s r ps p h1
    exact completes rfl (by simp) (by simp [brtSetRebuild, setA, h1, okA_eq])
  · -- BRT_RESHAPE
    intro s r layout nsid n h1 h2 h3 h4 h5
    refine begins rfl (by simp) ?_
    simp only [brtReshape, if_true]
    rw [if_neg (by simp [h2]; omega)]
    simp only [h3, h4, Bool.false_eq_true, if_false, if_neg (Nat.not_lt.2 h5), failA]
  · -- BRT_RESHAPE
    intro s r layout nsid n h1 h2 h3 h4 h5
    exact turnsAway rfl (by simp) (by simp [brtReshape, h1, h2, h3, h4, h5]) (by simp) (by simp) (by simp)
  · -- BRT_GET_REBUILD
    intro s r berth clear
    exact completes rfl (by simp) (by simp [brtGetRebuild])
  · -- BRT_GET_LOST
    intro s r nsid start n h1
    exact completes rfl (by simp) (by simp [brtGetLost, h1])
  · -- BRT_GET_RELOC
    intro s r index h1
    exact completes rfl (by simp) (if_neg (Nat.not_le.2 h1))
  · -- BRT_GET_HEAD
    intro s r h h1
    refine completes rfl (by simp) ?_
    simp [brtGetHead, selHead, packF, headCode, h1]
    rfl

end Sys2Proof.Machine
end

section
/-! Rebuild: declarations, entries, stripes, copies, relocation, reshape, share window (R275 to R304). -/

namespace Sys2Proof.Machine

/-- The check of the revolutions changes the spindle only. -/
theorem revCheck_spn (s : State) : ∃ f, revCheck s = updSpn s f := by
  unfold revCheck
  split
  · exact ⟨id, rfl⟩
  · split
    · exact ⟨id, rfl⟩
    · exact ⟨_, rfl⟩

/-- What an actuator at its ramp stop is: parked, with no command and no power-stage output. -/
theorem onRampStop_parked (s : State) (a : Act) :
    (onRampStop s a).actRecs[a] = s.actRecs[a] ∧ (onRampStop s a).rbld = s.rbld ∧
      (onRampStop s a).acts[a] = parkedNow s.acts[a] ∧ (onRampStop s a).psl.ven[a] = false ∧ (onRampStop s a).psl.vcm[a] = 0 := by
  unfold onRampStop angleLost
  generalize hu : updStream _ (stream1 a) _ = u
  obtain ⟨f, hf⟩ := revCheck_spn u
  rw [hf]
  subst hu
  simp

/-- Settles O15: each event finds its entry and member, and takes the branch its guard opens. -/
theorem rebuildEventsComplete : Obligations.RebuildEventsComplete := by
  unfold Obligations.RebuildEventsComplete
  refine ⟨?_, ?_, ?_, ?_, ?_, ?_, ?_, ?_, ?_, ?_, ?_, ?_⟩
  · -- HEAD_DECLARED
    intro s h reason h1 h2 h3
    refine next_congr ?_
    simp [h1, h2, h3]
    rfl
  · -- ACTUATOR_DECLARED_FAILED
    intro s a h1 h2 h3
    refine ⟨_, _, next_if (by simp [h1, h2, h3, -Fin.getElem_fin]), rfl, ?_⟩
    simp only [report_actRecs, report_acts, report_psl, report_rbld, updRbld_actRecs, updRbld_acts, updRbld_psl, updRbld_rbld]
    generalize hu : updAct _ a _ = u
    obtain ⟨hrec, hrbld, hact, hven, hvcm⟩ := onRampStop_parked u a
    rw [hrec, hact, hven, hvcm]
    subst hu
    simp [parkedNow, -Fin.getElem_fin, vupd_self]
  · -- REBUILD_ENTRY_CREATE
    intro s h h1 h2
    exact next_congr (by simp [h1, h2, -Fin.getElem_fin])
  · -- REBUILD_ENTRY_START
    intro s e x b h w h1 h2 h3 h4 h5 h6 h7 h8
    refine next_congr ?_
    rw [h3]
    dsimp only
    rw [h4]
    dsimp only
    rw [h1, h2, h5]
    refine (if_pos rfl).trans ?_
    rw [h6]
    exact if_pos (by rw [h7, h8]; rfl)
  · -- REBUILD_ENTRY_START
    intro s e x b h1 h2 h3 h4 h5 h6
    exact next_congr (by simp [h1, h2, h3, h4, h5, h6])
  · -- REBUILD_STRIPE_COMPLETE
    intro s s1 e x b lost suspect energyNj actUs h1 h2 h3 h4 h5 h6 h7 h8
    refine next_congr ?_
    rewrite [h3]
    dsimp only
    rewrite [h4]
    dsimp only
    refine (if_pos (by simp [h1, h2, h5, h6, h7])).trans ?_
    rewrite [h8]
    rfl
  · -- COPY_SWITCH
    intro s e x b h1 h2 h3 h4 h5 h6 h7
    exact next_congr (by simp [h1, h2, h3, h4, h5, h6, h7])
  · -- RELOCATION
    intro s s1 berth member n b h p h1 h2 h3 h4 h5 h6 h7 h8 h9
    refine ⟨next_congr ?_, rfl⟩
    simp [h1, h2, h3, h4, List.contains_iff_mem.1 h5, h6, Nat.not_le.2 h7, h8, h9]
  · -- RELOCATION
    intro s s1 berth member n b h p h1 h2 h3 h4 h5 h6 h7 h8 h9
    refine next_congr ?_
    rw [h3]
    dsimp only
    rw [h4]
    dsimp only
    rw [h1, h2, h5, h6]
    refine (if_pos rfl).trans ((if_neg (Nat.not_le.2 h7)).trans ?_)
    rw [h8]
    exact if_pos h9
  · -- CHECKPOINT_HEAD_MOVE
    intro s h1 h2
    exact next_congr (by simp [h1, h2])
  · -- RESHAPE_SWITCH
    intro s berth nb r old h1 h2 h3 h4 h5 h6 h7 h8
    refine next_congr ?_
    rewrite [h3]
    dsimp only
    rewrite [h4, h5]
    dsimp only
    refine (if_pos (by simp [h1, h2, h7, h8])).trans ?_
    rewrite [h6]
    rfl
  · -- SHARE_WINDOW
    intro s h1
    refine ⟨_, next_congr (by simp [powered_of_live h1, h1]; rfl), rfl, fun a => ?_⟩
    simp

end Sys2Proof.Machine
end

section
/-! Host Quay queues: doorbells, fills, grants, returns, completions, caps, tallies (R313 to R358). -/

namespace Sys2Proof.Machine

/-- A doorbell write of a controller whose queues all lie on chip applies at once. -/
theorem arriveDb_of_notFull {s : State} (h : s.quay.par.full = false) (d : DbWrite) : arriveDb s d = applyDb s d :=
  if_neg (by rw [h]; exact Bool.false_ne_true)

/-- A mooring of a controller whose queues all lie on chip is not moved to the cache's front. -/
theorem touchMoor_of_notFull {s : State} (h : s.quay.par.full = false) (f : Fn) (qid : Nat) : touchMoor s f qid = s :=
  if_neg (by rw [h]; exact Bool.false_ne_true)

/-- Settles O16: each event finds its mooring or command, and takes the branch its guard opens. -/
theorem queueEventsComplete : Obligations.QueueEventsComplete := by
  unfold Obligations.QueueEventsComplete
  refine ⟨?_, ?_, ?_, ?_, ?_, ?_, ?_, ?_, ?_, ?_, ?_, ?_, ?_⟩
  · -- SQ_TAIL_DOORBELL
    intro s f qid value m h1 h2 h3 h4 h5
    refine next_congr ?_
    rw [if_pos (by simp [h1, h3]), Nat.mod_eq_of_lt h4, arriveDb_of_notFull h2, applyDb, h5]
    exact congrArg refresh (touchMoor_of_notFull (by exact h2) ..)
  · -- SQ_TAIL_DOORBELL
    intro s f qid value h1 h2 h3 h4 h5
    refine next_congr ?_
    rw [if_pos (by simp [h1, h3]), Nat.mod_eq_of_lt h4, arriveDb_of_notFull h2, applyDb, h5]
  · -- CQ_HEAD_DOORBELL
    intro s f qid value m h1 h2 h3 h4 h5
    refine next_congr ?_
    rw [if_pos (by simp [h1, h3]), Nat.mod_eq_of_lt h4, arriveDb_of_notFull h2, applyDb, h5]
    exact congrArg refresh (touchMoor_of_notFull (by exact h2) ..)
  · -- DOORBELL_FIFO_APPLY
    intro s p d h1 h2 h3
    refine next_congr ?_
    rw [if_pos h1]
    have hg : s.quay.fifos[p].filter (fun d => moorReady s d.func d.qid || (moorAt s d.func d.qid).isNone) = [d] := by
      rw [h2, List.filter_cons_of_pos (by rw [h3]; rfl), List.filter_nil]
    have hf : (vupd s.quay.fifos p fun l => l.filter fun x => !([d].contains x)) = vupd s.quay.fifos p fun _ => [] :=
      vupd_congr (by rw [h2]; simp)
    unfold drainFifo updQuay
    simp only [hg, hf]
    rfl
  · -- MOORING_FILL
    intro s f qid m h1 h2 h3 h4
    constructor
    all_goals
      refine next_congr ?_
      simp only [h4]
      exact if_pos (by rw [h1, h2, h3]; rfl)
  · -- ARBITER_GRANT
    intro s f h1 h2
    exact next_congr (by simp [h1, h2])
  · intro s f m y t h1 h2
    simp [grantNvme, entryTag, touchMoor, refresh, emit, noteGrant, h1, h2]
  · -- SQ_ENTRY_RETURN
    intro s s1 c f q rest r r1 hp h1 h2 h3 h4 h5
    exact next_congr (by simp [hp, h1, h2, h3, h4, h5])
  · -- ORDER_WAIT_RELEASE
    intro s t r h1 h2
    exact next_congr (by simp [h1, h2])
  · -- COMPLETION_POST
    intro s t r st m h1 h2 h3 h4 h5 h6 h7 h8 h9 h10 h11
    exact next_congr (by simp [h1, h2, h3, h4, h5, h6, h7, h8, h9, h10, h11])
  · -- COMPLETION_POST
    intro s t r st h1 h2 h3 h4 h5 h6 h7
    exact next_congr (by simp [h1, h2, h3, h4, h5, h6, h7])
  · -- CAP_WINDOW
    intro s hp
    exact next_congr (by simp [hp])
  · -- TALLY_MINUTE_CLOSE
    intro s hp
    refine ⟨_, rfl, ?_⟩
    simp [hp]

end Sys2Proof.Machine
end

section
/-! Command engines: data received, index, held writes, pilots, media ends, sweeps (R252, R326 to R367). -/

namespace Sys2Proof.Machine

/-- Settles O17: each event finds its command by its tag, and takes the branch its stage opens. -/
theorem commandEventsComplete : Obligations.CommandEventsComplete := by
  unfold Obligations.CommandEventsComplete
  refine ⟨?_, ?_, ?_, ?_, ?_, ?_, ?_, ?_, ?_⟩
  · -- HOST_DATA_RECEIVED
    intro s t r data pi n bs hp h1 h2 h3 h4 h5 h6 h7 h8 h9 h10
    refine next_congr ?_
    rw [h2]
    dsimp only
    rw [hp, h1, h3, h4, h5, decide_eq_true h6, decide_eq_true h7, decide_eq_true h8]
    refine (if_pos rfl).trans ((if_neg Bool.false_ne_true).trans ?_)
    rw [h9]
    dsimp only
    rw [h10]
  · -- HOST_DATA_RECEIVED
    intro s t r data pi hp h1 h2 h3 h4 h5 h6 h7 h8
    refine next_congr ?_
    rw [h2]
    dsimp only
    rw [hp, h1, h3, h4, h5, decide_eq_true h6, decide_eq_true h7, decide_eq_true h8]
    exact (if_pos rfl).trans (if_pos rfl)
  · -- WRITE_INDEX_ACK
    intro s t r n h1 h2 h3 h4 h5 h6 h7 h8 h9 h10 h11
    exact next_congr (by simp [h1, h2, h3, h4, h5, h6, h7, h8, h9, h10, h11, writesOp])
  · -- HELD_WRITE_RELEASE
    intro s t r h1 h2 h3 h4 h5 h6
    exact next_congr (by simp [h1, h2, h3, h4, h5, h6, releaseHeld, updBrt])
  · -- PILOT_ENTRY
    intro s a h1 h2
    exact next_congr (by simp [h1, h2])
  · -- PILOT_DISPATCH
    intro s a costs o h1 h2 h3 h4 h5 h6 h7 h8 h9
    refine ⟨_, next_if (by simp [h1, h2, h3, h4, h5, h6, -Fin.getElem_fin]), ?_⟩
    rw [h7]
    simp only [forEach, List.foldl_nil, h8, h9, Option.bind_none, updCmds_cmds, vupd_self]
    exact ⟨trivial, trivial, trivial, fun b hb => vupd_ne _ _ hb⟩
  · -- MEDIA_OPERATION_END
    intro s a rows id o o1 b hp h1 h2 h3 h4 h5 h6 h7 h8
    exact next_congr (by simp [hp, h1, h2, h3, h4, h5, h6, h7, h8, -Fin.getElem_fin])
  · -- SWEPT_COMMAND_END
    intro s t r h1 h2 h3 h4 h5 h6 h7
    exact next_congr (by simp [h1, h2, h3, h4, h5, h6, h7])
  · -- DELETE_SQ_COMPLETE
    intro s t r d m h1 h2 h3 h4 h5 h6
    exact next_congr (by simp [h1, h2, h3, h4, h5, h6])

end Sys2Proof.Machine
end

section
/-! Controller, port and subsystem events, and the Quay and tally messages (R309 to R361, R517 to R520). -/

namespace Sys2Proof.Machine

/-- Settles O18: each event takes the branch its guard opens; each message stores its operands or answers its words. -/
theorem portsAndQuayMessagesComplete : Obligations.PortsAndQuayMessagesComplete := by
  unfold Obligations.PortsAndQuayMessagesComplete
  refine ⟨⟨?_, ?_, ?_, ?_, ?_, ?_, ?_, ?_, ?_⟩, ⟨?_, ?_, ?_, ?_, ?_, ?_, ?_, ?_, ?_, ?_, ?_, ?_⟩⟩
  · -- CONTROLLER_ENABLE
    intro s f ams asq acq asqs acqs h1 h2 h3 h4 h5 h6
    exact next_congr (by simp [h1, h2, h3, h4, h5, h6])
  · -- CONTROLLER_RESET
    intro s f hp h1 h2 h3
    exact next_congr (by simp [hp, h1, h2, h3])
  · -- FUNCTION_LEVEL_RESET
    intro s f hp h1 h2 h3
    exact next_congr (by simp [resetFunction, hp, h1, h2, h3])
  · -- HOT_RESET
    intro s p hp h1 h2 h3
    refine next_congr ?_
    simp [hp, h1, h2, h3]
    rfl
  · -- PERST_ASSERT
    intro s p hp h1 h2 h3
    exact next_congr (by simp [hp, h1, h2, h3])
  · -- PERST_DEASSERT
    intro s p
    exact next_congr (by simp [updQuay])
  · -- NVM_SUBSYSTEM_RESET
    intro s hp h1 h2
    exact next_congr (by simp [hp, h1, h2])
  · -- IT_NEXUS_LOSS
    intro s p nexus hp h1 h2
    exact next_congr (by simp [hp, h1, h2])
  · -- a mailbox re-initialised
    intro s mb
    refine ⟨?_, ?_, fun k hk => vupd_ne _ _ hk⟩
    · simp [reinitMbx]
    · simp [reinitMbx]
  · -- QUAY_SET_MOORMODE
    intro s r n h1
    exact completes rfl (by simp) (by simp [quayMoormode, h1, okA_eq])
  · -- QUAY_SET_ARB
    intro s r ps p h1
    exact completes rfl (by simp) (by simp [quayArb, setA, h1, okA_eq])
  · -- QUAY_SET_ALLOT
    intro s r f word h1 h2
    exact completes rfl (by simp) (by simp [quayAllot, h1, h2, okA_eq])
  · -- QUAY_SET_ALLOT
    intro s r f word h1 h2
    refine turnsAway rfl (by simp) ?_ (by simp) (by simp) (by simp)
    simp [quayAllot, h1, h2]
    rfl
  · -- QUAY_GET_ALLOT
    intro s r f
    refine completes rfl (by simp) ?_
    simp [quayGetAllot]
    rfl
  · -- QUAY_SET_ADMIT
    intro s r f ps p h1
    refine completes rfl ?_ ?_
    · show (if _ then Need.op else Need.cf) ≠ .sg
      split <;> decide
    · simp only [quayAdmit, selFn_val]
      exact setA_of_ok h1
  · -- QUAY_SET_DRIVE_POWER
    intro s r w h1 h2 h3
    exact completes rfl (by simp) (by simp [quayPower, h1, h2, h3, okA_eq])
  · -- QUAY_GET_MOORING
    intro s r f qid m h1 h2
    exact completes rfl (by simp) (by simp [quayMooring, h1, h2])
  · -- QUAY_GET_MOORING
    intro s r f qid h1 h2
    exact turnsAway rfl (by simp) (by simp [quayMooring, notFoundA, rangeA, h1, h2]) (by simp) (by simp) (by simp)
  · -- QUAY_GET_TAG
    intro s r t
    refine completes rfl (by simp) ?_
    simp [quayTag]
    rfl
  · -- TALLY_READ
    intro s r func start count h1 h2
    refine completes rfl ?_ ?_
    · show tallyNeed _ _ _ ≠ .sg
      unfold tallyNeed
      split <;> decide
    · rw [tallyRead, if_neg (by omega), if_neg (by omega)]
  · -- TALLY_CLEAR
    intro s r func h1
    refine completes rfl ?_ ?_
    · show (if _ then Need.cf else Need.op) ≠ .sg
      split <;> decide
    · rw [tallyClear, if_neg (by omega), okA_eq]

end Sys2Proof.Machine
end

section
/-! Task management functions (R355). -/

namespace Sys2Proof.Machine

/-- Settles O26: a function is rejected, or sweeps its tasks, or answers whether what it asks for is there. -/
theorem taskManagementComplete : Obligations.TaskManagementComplete := by
  unfold Obligations.TaskManagementComplete
  refine ⟨?_, ?_, ?_, ?_, ?_, ?_, ?_, ?_, ?_⟩
  · -- ABORT_TASK
    intro s lu nexus cid h1
    exact next_congr (by simp [tmAnswer, h1])
  · -- CLEAR_ACA
    intro s lu nexus h1
    exact next_congr (by simp [tmAnswer, h1])
  · -- ABORT_TASK_SET
    intro s lu nexus h1
    exact next_congr (by simp [h1])
  · -- CLEAR_TASK_SET
    intro s lu nexus h1
    exact next_congr (by simp [h1])
  · -- LOGICAL_UNIT_RESET
    intro s s1 lu nexus h1 h2
    exact next_congr (by simp [h1, h2])
  · -- I_TNEXUS_RESET
    intro s nexus h1
    exact next_congr (by simp [h1])
  · -- QUERY_TASK
    intro s lu nexus cid h1
    exact next_congr (by simp [tmAnswer, h1])
  · -- QUERY_TASK_SET
    intro s lu nexus h1
    exact next_congr (by simp [tmAnswer, h1])
  · -- QUERY_ASYNCHRONOUS_EVENT
    intro s lu nexus h1
    exact next_congr (by simp [tmAnswer, h1])

end Sys2Proof.Machine
end

section
/-! Sequencer register instructions: result, flags, next word (R390, R391). -/

namespace Sys2Proof.Machine

/-- Settles O27: a word that issues acts on the ticked state (`issue_of_issues`), where the register rule gives result and
flags. -/
theorem seqRegisterOpsComplete : Obligations.SeqRegisterOpsComplete := by
  unfold Obligations.SeqRegisterOpsComplete
  refine ⟨?_, ?_, ?_, ?_, ?_, ?_, ?_, ?_, ?_, ?_, ?_, ?_, ?_, ?_, ?_, ?_⟩
  · -- ADD
    intro s n w h1 h2 h3
    exact plainOp_steps h1 rfl (badR_of_zero h2) h3 _
  · -- SUB
    intro s n w h1 h2 h3
    exact plainOp_steps h1 rfl (badR_of_zero h2) h3 _
  · -- AND
    intro s n w h1 h2 h3
    exact plainOp_steps h1 rfl (badR_of_zero h2) h3 _
  · -- OR
    intro s n w h1 h2 h3
    exact plainOp_steps h1 rfl (badR_of_zero h2) h3 _
  · -- XOR
    intro s n w h1 h2 h3
    exact plainOp_steps h1 rfl (badR_of_zero h2) h3 _
  · -- SHL
    intro s n w h1 h2 h3
    exact plainOp_steps h1 rfl (badR_of_zero h2) h3 _
  · -- SHR
    intro s n w h1 h2 h3
    exact plainOp_steps h1 rfl (badR_of_zero h2) h3 _
  · -- SAR
    intro s n w h1 h2 h3
    exact plainOp_steps h1 rfl (badR_of_zero h2) h3 _
  · -- MUL
    intro s n w h1 h2 h3
    exact plainOp_steps h1 rfl (badR_of_zero h2) h3 _
  · -- MULHU
    intro s n w h1 h2 h3
    exact plainOp_steps h1 rfl (badR_of_zero h2) h3 _
  · -- MIN
    intro s n w h1 h2 h3
    exact plainOp_steps h1 rfl (badR_of_zero h2) h3 _
  · -- MAX
    intro s n w h1 h2 h3
    exact plainOp_steps h1 rfl (badR_of_zero h2) h3 _
  · -- MINU
    intro s n w h1 h2 h3
    exact plainOp_steps h1 rfl (badR_of_zero h2) h3 _
  · -- MAXU
    intro s n w h1 h2 h3
    exact plainOp_steps h1 rfl (badR_of_zero h2) h3 _
  · -- CMP
    intro s n w h1 h2 h3 h4
    have hd : (mwD w).val = 0 := h3
    exact plainOp_steps h1 rfl (by rw [badR_of_zero h2, hd]; rfl) h4 _
  · -- CRC
    intro s n w h1 h2 h3
    exact plainOp_steps h1 rfl (badR_of_zero h2) h3 _

end Sys2Proof.Machine
end

section
/-! Sequencer immediate instructions: result, flags, next word (R390, R391). -/

namespace Sys2Proof.Machine

/-- Settles O28: a word that issues acts on the ticked state (`issue_of_issues`), where the register rule gives result and
flags. -/
theorem seqImmediateOpsComplete : Obligations.SeqImmediateOpsComplete := by
  unfold Obligations.SeqImmediateOpsComplete
  refine ⟨?_, ?_, ?_, ?_, ?_, ?_, ?_, ?_, ?_, ?_⟩
  · -- ADDI
    intro s n w h1 h2
    exact plainOp_steps h1 rfl rfl h2 _
  · -- ANDI
    intro s n w h1 h2
    exact plainOp_steps h1 rfl rfl h2 _
  · -- ORI
    intro s n w h1 h2
    exact plainOp_steps h1 rfl rfl h2 _
  · -- XORI
    intro s n w h1 h2
    exact plainOp_steps h1 rfl rfl h2 _
  · -- SHLI
    intro s n w h1 h2
    exact plainOp_steps h1 rfl rfl h2 _
  · -- SHRI
    intro s n w h1 h2
    exact plainOp_steps h1 rfl rfl h2 _
  · -- SARI
    intro s n w h1 h2
    exact plainOp_steps h1 rfl rfl h2 _
  · -- CMPI
    intro s n w h1 h2 h3
    exact plainOp_steps h1 rfl (decide_eq_false fun hn => hn h2) h3 _
  · -- MOVI
    intro s n w h1 h2
    exact plainOp_steps h1 rfl rfl h2 _
  · -- LUI
    intro s n w h1 h2
    exact plainOp_steps h1 rfl rfl h2 _

end Sys2Proof.Machine
end

section
/-! Sequencer memory, move and port instructions (R389, R391, R395, R396). -/

namespace Sys2Proof.Machine

/-- The fields that a transfer's registers must have. -/
theorem badPair_of_even {a b : Bool} (ha : a = false) (hb : b = false) : (a || b) = false := by rw [ha, hb]; rfl

/-- A line reached changes no sequencer. -/
theorem netReach_seqs (s : State) (a : Nat) : (netReach s a).seqs = s.seqs := by
  unfold netReach
  split
  · unfold request
    dsimp only
    rw [updChan, updDram_seqs]
    split
    · rfl
    · split <;> rfl
  · rfl

/-- A word counted leaves what the network reads. -/
theorem regionOf_ticked (s : State) (n : Sq) (l : Nat) : regionOf (ticked s n) l = regionOf s l := by
  rw [regionOf, regionOf, ticked, updSeq_dram, fetched_dram]
theorem netPoison_ticked (s : State) (n : Sq) (a : Nat) : netPoison (ticked s n) a = netPoison s a := by
  rw [netPoison, netPoison, regionOf_ticked, lineAt, lineAt, ticked, updSeq_dram, fetched_dram]
theorem netRead_ticked (s : State) (n : Sq) (a k : Nat) : netRead (ticked s n) a k = netRead s a k := by
  have hl (l : Nat) : netLine (ticked s n) l = netLine s l := by
    simp only [netLine, mergeAt, lineAt, ticked, updSeq_dram, fetched_dram]
  have hc : (ticked s n).freeCtr = s.freeCtr := fetched_freeCtr s n
  simp only [netRead, netByte, regionOf_ticked, hl, hc]

/-- A fetch does not look at the free-running counter. -/
theorem fetched_freeCtr_set (s : State) (n : Sq) (c : Nat) : fetched { s with freeCtr := c } n = { fetched s n with freeCtr := c } := by
  unfold fetched
  dsimp only
  split <;> rfl

/-- The free-running counter stands beside the sequencers. -/
theorem freeCtr_updSeq (s : State) (n : Sq) (f : Sequencer → Sequencer) (c : Nat) :
    { updSeq s n f with freeCtr := c } = updSeq { s with freeCtr := c } n f := rfl

/-- A port read steps with the counter moved on. -/
theorem advanceTo_read {s : State} {n : Sq} (hp : s.seqs[n].r.pc ≠ 0xFFFF) (f : SeqRegs → SeqRegs) :
    advanceTo { ticked s n with freeCtr := (ticked s n).freeCtr + 1 } n f = stepped { s with freeCtr := s.freeCtr + 1 } n f := by
  have hc : (ticked s n).freeCtr = s.freeCtr := fetched_freeCtr s n
  rw [advanceTo, if_neg (by rw [show _ = (ticked s n).seqs[n].r from rfl, ticked_r]; exact hp), hc, stepped, fetched_freeCtr_set,
    ticked, freeCtr_updSeq,
    updSeq_updSeq]

/-- Settles O29: a word that issues reads at once and holds its writes for the commit (`hold_ticked`). -/
theorem seqMemoryComplete : Obligations.SeqMemoryComplete := by
  unfold Obligations.SeqMemoryComplete
  refine ⟨?_, ?_, ?_, ?_, ?_, ?_, ?_, ?_, ?_, ?_, ?_, ?_⟩
  · -- LD
    intro s n w a h1 h2 h3 h4
    refine next_issue h1 rfl h2 ?_
    simp only [ticked_r, ticked_held, ticked_scratch, h4]
    exact advanceTo_ticked h3 _
  · -- LD
    intro s n w h1 h2 h3
    refine next_issue h1 rfl h2 ?_
    simp only [ticked_r, h3]
  · -- ST
    intro s n w a h1 h2 h3 h4 h5
    refine next_issue h1 rfl h2 ?_
    simp only [ticked_r, h4]
    exact hold_ticked h3 h5 _
  · -- LDN
    intro s n w a h1 h2 h3 h4 h5 h6
    refine next_issue h1 rfl (badPair_of_even h2 h3) ?_
    simp only [ticked_r, ticked_held, h5, regionOf_ticked, h6, if_true, netPoison_ticked, netRead_ticked]
    exact if_neg (by rw [netReach_seqs, ticked_r]; exact h4)
  · -- LDN
    intro s n w h1 h2 h3 h4
    refine next_issue h1 rfl (badPair_of_even h2 h3) ?_
    simp only [ticked_r, h4]
  · -- STN
    intro s n w a h1 h2 h3 h4 h5 h6
    refine next_issue h1 rfl (badPair_of_even h2 h3) ?_
    simp only [ticked_r, h5]
    exact hold_ticked h4 h6 _
  · -- ATOM
    intro s n w h1 h2 h3 h4
    refine next_issue h1 rfl (badPair_of_even (badR_of_zero h2) h3) ?_
    simp only [ticked_r]
    exact if_neg (by rw [netTop]; omega)
  · -- MOVE
    intro s n w h1 h2 h3 h4 h5 h6 h7 h8 h9 h10 h11
    refine (next_congr (if_neg (Nat.not_le.2 h5))).trans (next_issue h1 rfl ?_ ?_)
    · rw [badR_of_zero h2, h3, decide_eq_false (by omega)]
      rfl
    · simp only [ticked_r]
      rw [if_neg (by omega), if_neg (by rw [netTop]; omega)]
      exact hold_ticked h6 h7 _
  · -- IN_PORT
    intro s n w h1 h2 h3 h4
    refine next_issue h1 rfl (decide_eq_false fun hn => hn h2) ?_
    simp only [portRead, h4, if_true, ticked_imask]
    exact advanceTo_read h3 _
  · -- IN_PORT
    intro s n w h1 h2 h3 h4
    exact ⟨_, next_issue h1 rfl (decide_eq_false fun hn => hn h2) (advanceTo_read h3 _)⟩
  · -- INC
    intro s n w h1 h2
    exact next_issue h1 rfl (decide_eq_false fun hn => hn h2) rfl
  · -- OUT_PORT
    intro s n w h1 h2 h3 h4
    refine next_issue h1 rfl (decide_eq_false fun hn => hn h2) ?_
    simp only [ticked_r]
    exact hold_ticked h3 h4 _

end Sys2Proof.Machine
end

section
/-! Sequencer control instructions: NOP to IRET (R391, R396, R399, R403). -/

namespace Sys2Proof.Machine

/-- An operation that consumes, with nothing held before it: it acts, steps, and the step begins anew. -/
theorem consumeOp_seq {s : State} {n : Sq} {f : Sequencer → Sequencer} {q : Sequencer} (hh : s.seqs[n].held = [])
    (he : s.seqs[n].netErr = false) (hs : s.seqs[n].st = .run) (hq : f { s.seqs[n] with held := [], snap := s.seqs[n].r } = q)
    (hqs : q.st = .run) (hqe : q.netErr = false) (hqp : q.r.pc ≠ 0xFFFF) :
    (consumeOp s n fun s => updSeq s n f).seqs[n] =
      { q with r := { q.r with pc := q.r.pc + 1 }, snap := { q.r with pc := q.r.pc + 1 } } := by
  have h1 : restart (release s n) n = updSeq s n fun q => { q with held := [], snap := q.r } := by
    have hr : release s n = updSeq s n fun q => { q with held := [] } := by rw [release, hh]; rfl
    rw [hr, restart, if_neg (by rw [updSeq_seqs, vupd_self, he]; exact Bool.false_ne_true), updSeq_updSeq]
  have h2 : advanceTo (updSeq (updSeq s n fun q => { q with held := [], snap := q.r }) n f) n id =
      updSeq s n fun x => (fun q => { q with r := { q.r with pc := q.r.pc + 1 } }) (f { x with held := [], snap := x.r }) := by
    rw [updSeq_updSeq, advanceTo, if_neg, updSeq_updSeq]
    · rfl
    · rw [updSeq_seqs, vupd_self, hq]
      exact hqp
  unfold consumeOp
  dsimp only
  rw [h1, if_neg, h2, if_pos, restart, if_neg, updSeq_updSeq, updSeq_seqs, vupd_self, hq]
  · rw [updSeq_seqs, vupd_self, hq, hqe]
    exact Bool.false_ne_true
  · rw [updSeq_seqs, vupd_self, hq]
    exact hqs
  · rw [updSeq_seqs, vupd_self]
    exact not_not.2 hs

/-- Settles O30: a word that issues acts on the ticked state, which differs from the old one in its line store and its count. -/
theorem seqControlComplete : Obligations.SeqControlComplete := by
  unfold Obligations.SeqControlComplete
  refine ⟨?_, ?_, ?_, ?_, ?_, ?_, ?_, ?_, ?_, ?_, ?_⟩
  · -- NOP
    intro s n h1 h2
    exact plainOp_steps h1 rfl rfl h2 _
  · -- YIELD
    intro s s1 n w h1 h2 h3 h4 h5 h6
    refine next_issue h1 rfl (by simp [h2, h3]) ?_
    dsimp only
    rw [h4, if_neg (not_not.2 h5), if_neg (not_not.2 h6)]
  · -- COMMIT
    intro s s1 n h1 h2 h3
    refine next_issue h1 rfl rfl ?_
    dsimp only
    rw [h2, if_neg (not_not.2 h3)]
  · -- HALT
    intro s s1 n h1 h2 h3 h4
    refine next_issue h1 rfl rfl ?_
    dsimp only
    rw [h2, if_neg (not_not.2 h3), if_neg (not_not.2 h4)]
  · -- FAULT
    intro s n w h1
    exact next_issue h1 rfl rfl rfl
  · -- GETORD
    intro s n w h1 h2 h3 h4 h5 h6 h7
    refine ⟨_, next_issue h1 rfl (by simp [h2, h3]) rfl, ?_⟩
    rw [consumeOp_seq (by rw [ticked_held]; exact h4) (by rw [ticked_netErr]; exact h5) (by rw [ticked_st]; exact h1.2.1) rfl]
    all_goals simp only [ticked_queue, h7, ticked_r, ticked_active, ticked_netErr, ticked_st, h5, h1.2.1, h6, ne_eq,
      not_false_eq_true,
      and_self]
  · -- GETORD
    intro s n w o os h1 h2 h3 h4 h5 h6 h7
    refine ⟨_, next_issue h1 rfl (by simp [h2, h3]) rfl, ?_⟩
    rw [consumeOp_seq (by rw [ticked_held]; exact h4) (by rw [ticked_netErr]; exact h5) (by rw [ticked_st]; exact h1.2.1) rfl]
    all_goals simp only [ticked_queue, h7, ticked_r, ticked_active, ticked_netErr, ticked_st, h5, h1.2.1, h6, setG, ne_eq,
      not_false_eq_true,
      and_self]
  · -- DISPATCH
    intro s n w h1 h2 h3
    refine next_issue h1 rfl (decide_eq_false fun hn => hn h2) ?_
    simp only [ticked_r, ticked_bankB, ticked_seqBank]
    rw [if_neg (not_not.2 h3)]
    exact jumpTo_ticked ..
  · -- POST
    intro s n w h1 h2 h3 h4
    refine next_issue h1 rfl (badR_of_zero h2) ?_
    simp only [ticked_r]
    exact hold_ticked h3 h4 _
  · -- EVT
    intro s n w h1 h2 h3 h4 h5
    refine next_issue h1 rfl (by rw [badR_of_zero h2, decide_eq_false h3]; rfl) ?_
    simp only [ticked_r]
    exact hold_ticked h4 h5 _
  · -- IRET
    intro s n h1
    refine next_issue h1 rfl rfl ?_
    rw [ticked, updSeq_updSeq]

end Sys2Proof.Machine
end

section
/-! Sequencer branches, calls and returns (R392, R394, R397). -/

namespace Sys2Proof.Machine

/-- Settles O31: a word that issues jumps, goes on or faults, by the condition on the ticked registers. -/
theorem seqBranchesComplete : Obligations.SeqBranchesComplete := by
  unfold Obligations.SeqBranchesComplete
  refine ⟨?_, ?_, ?_, ?_, ?_, ?_, ?_, ?_, ?_⟩
  · -- BR
    intro s n w h1 h2 h3
    exact next_issue h1 rfl (badB_of_zero h2) ((if_pos (by rw [ticked_cond]; exact h3)).trans (jumpTo_ticked ..))
  · -- BR, CALL, RET, BRI not taken
    intro s n w x hx h1 h2 h3 h4
    have hc : ¬condHolds (ticked s n).seqs[n] (mw w 22 4) = true := by simp [-Fin.getElem_fin, h3]
    simp only [List.mem_cons, List.not_mem_nil, or_false] at hx
    obtain rfl | rfl | rfl | rfl := hx
    all_goals exact next_issue h1 rfl (badB_of_zero h2) ((if_neg hc).trans (advanceTo_ticked h4 _))
  · -- CALL
    intro s n w h1 h2 h3 h4
    refine next_issue h1 rfl (badB_of_zero h2) ?_
    rw [if_pos (by rw [ticked_cond]; exact h3), if_neg (by rw [ticked_r]; omega)]
    exact jumpTo_ticked ..
  · -- CALL
    intro s n w h1 h2 h3 h4
    refine next_issue h1 rfl (badB_of_zero h2) ?_
    rw [if_pos (by rw [ticked_cond]; exact h3), if_pos (by rw [ticked_r]; exact h4)]
  · -- RET
    intro s n w a as h1 h2 h3 h4
    refine next_issue h1 rfl (badB_of_zero h2) ?_
    rw [if_pos (by rw [ticked_cond]; exact h3), ticked_r, h4]
    exact jumpTo_ticked ..
  · -- RET
    intro s n w h1 h2 h3 h4
    refine next_issue h1 rfl (badB_of_zero h2) ?_
    rw [if_pos (by rw [ticked_cond]; exact h3), ticked_r, h4]
  · -- BRI
    intro s n w h1 h2 h3
    refine next_issue h1 rfl (badB_of_zero h2) ?_
    rw [if_pos (by rw [ticked_cond]; exact h3), ticked_r]
    exact jumpTo_ticked ..
  · -- LOOP
    intro s n w h1 h2 h3 h4
    have hv : gOf s.seqs[n].r (mwA w) - 1 ≠ 0 := fun h => h4 ((BitVec.sub_eq_iff_eq_add.1 h).trans rfl)
    refine next_issue h1 rfl (by rw [badB_of_zero h2, h3]; rfl) ?_
    simp only [ticked_r]
    rw [if_pos hv]
    exact jumpTo_ticked ..
  · -- LOOP
    intro s n w h1 h2 h3 h4 h5
    refine next_issue h1 rfl (by rw [badB_of_zero h2, h3]; rfl) ?_
    simp only [ticked_r, h4]
    exact (if_neg fun h => h rfl).trans (advanceTo_ticked h5 _)

end Sys2Proof.Machine
end

section
/-! Orders and sequencer events (R385 to R408). -/

namespace Sys2Proof.Machine

/-- Settles O32: each event's guard holds by the hypotheses of its clause, and the branch it opens is the next state. -/
theorem seqEventsComplete : Obligations.SeqEventsComplete := by
  unfold Obligations.SeqEventsComplete
  refine ⟨?_, ?_, ?_, ?_, ?_, ?_, ?_⟩
  · -- ORDER_POST
    intro s n word hp h1 h2 h3
    exact next_congr (by simp [hp, h1, h2, h3, orderOf, -Fin.getElem_fin])
  · -- ORDER_POST
    intro s n word hp h1 h2 h3
    exact next_congr (by simp [hp, h1, h2, h3, -Fin.getElem_fin])
  · -- SEQ_EVENT_LINE
    intro s n k hp h1
    exact next_congr (if_pos (by simpa [hp] using h1))
  · -- SEQ_TIMER_EXPIRY
    intro s n t hp h1 h2
    exact next_congr (by simp [hp, h1, h2, -Fin.getElem_fin])
  · -- WATCHDOG_EXPIRY, NETWORK_ACCESS_TIMEOUT, NETWORK_WRITE_ERROR
    intro s n hp h1
    refine ⟨fun h => ?_, fun h => ?_, ?_⟩
    all_goals exact next_congr (if_pos (by simp [*, -Fin.getElem_fin]))
  · -- MOVE_DONE
    intro s n src dst len ms hp h1
    exact next_congr (by simp [hp, h1, -Fin.getElem_fin])
  · -- STORE_AUDIT
    intro s digest h1 h2 h3 h4 h5 h6 h7 h8 h9
    have ha : auditFailed (updSeqDev s fun d => { d with auditUs := vupd d.auditUs 0 fun _ => s.us }) 0 =
        startBreakwater (report (updSeqDev s fun d =>
          { d with auditUs := vupd d.auditUs 0 fun _ => s.us, auditFail := true, auditOpen := 0 :: d.auditOpen })
          (0x06, 0) .auditFail 3 0x0E 0 0 0 0 3) 9 := by
      have hb : bankFree (updSeqDev s fun d => { d with auditUs := vupd d.auditUs 0 fun _ => s.us }) true = false := h8
      unfold auditFailed
      dsimp only
      exact if_pos (Or.inl (congrArg (!·) hb))
    refine next_congr ?_
    dsimp only
    rw [if_pos (by simp [h1, h2, h3, h4, h5, h9, -Fin.getElem_fin]), if_pos ⟨h6, congrArg (!·) h7⟩, ha]

end Sys2Proof.Machine
end

section
/-! Control store and sequencer messages (R401 to R411, R534). -/

namespace Sys2Proof.Machine

/-- Settles O33: each message that passes its checks stores its operands, begins its work or answers its words. -/
theorem seqMessagesComplete : Obligations.SeqMessagesComplete := by
  unfold Obligations.SeqMessagesComplete
  refine ⟨?_, ?_, ?_, ?_, ?_, ?_, ?_⟩
  · -- SEQ_LOAD
    intro s r bank unsigned imgOfs imgLen sigOfs sigLen h1 h2 h3 h4 h5 h6 h7
    refine begins rfl ?_ ?_
    · show (if _ then Need.fa else Need.cf) ≠ .sg
      split <;> decide
    · rw [seqLoad, if_neg (by rw [stageSize]; omega), if_neg (by simp [h5, h6, h7])]
      rfl
  · -- SEQ_LOAD
    intro s r unsigned imgOfs imgLen sigOfs sigLen b h1 h2 h3 h4
    refine turnsAway rfl ?_ ?_ (by simp) (by simp) (by simp)
    · show (if _ then Need.fa else Need.cf) ≠ .sg
      split <;> decide
    · rw [seqLoad, if_neg (by rw [stageSize]; omega), if_pos (by simp [h4])]
      rfl
  · -- SEQ_SWAP
    intro s r mask ns h1 h2 h3 h4 h5
    refine begins rfl (by simp) ?_
    simp only [seqSwap, h1]
    rw [if_neg (by simp [h2, h3, h4, h5])]
    rfl
  · -- SEQ_GET_STATUS
    intro s r n clear
    refine ⟨_, completes rfl (by simp) (by simp only [seqGet, selSq_val, getA]; rfl), ?_⟩
    simp
  · -- SEQ_RESUME
    intro s r n h1
    exact completes rfl (by simp) (by simp [seqResume, h1, okA_eq, -Fin.getElem_fin])
  · -- SEQ_RESUME
    intro s r n h1
    refine turnsAway rfl (by simp) ?_ (by simp) (by simp) (by simp)
    simp [seqResume, h1, -Fin.getElem_fin]
    rfl
  · -- SEQ_SET_LIMITS
    intro s r ps d h1 h2
    refine completes rfl (needOf_ne_sg _ _) ?_
    rw [seqLimits, if_neg (gate_open h1)]
    exact setA_of_ok h2

end Sys2Proof.Machine
end

section
/-! Faults that come before a sequencer word issues (R390, R397, R400, R401, R405). -/

namespace Sys2Proof.Machine

/-- Settles O34: `issue` makes these checks in order, before the word's own meaning. -/
theorem seqFaultsFirst : Obligations.SeqFaultsFirst := by
  unfold Obligations.SeqFaultsFirst
  refine ⟨?_, ?_, ?_, ?_, ?_⟩
  · -- NOP
    intro s n w hp h1 h2 h3
    refine next_congr ?_
    unfold issue
    dsimp only
    rw [if_neg (by simp [hp, h1, -Fin.getElem_fin]), if_pos ⟨h2, h3⟩]
  · -- NOP
    intro s n w hp h1 h2 h3
    refine next_congr ?_
    unfold issue
    dsimp only
    rw [if_neg (by simp [hp, h1, -Fin.getElem_fin]), if_neg (fun hx => Nat.not_le.2 h2 hx.1)]
    simp only [Nat.zero_mul, Nat.zero_add]
    exact if_pos h3
  · -- NOP
    intro s n w hp h1 h2 h3 h4
    refine next_congr ?_
    have hb : parityBad (seqBank s s.seqs[n]) (bankWord (seqBank s s.seqs[n]) s.seqs[n].r.pc.toNat)
        (BitVec.ofNat 32 (0 * 2 ^ 26 + w.toNat)) = false := by rw [parityBad, h3]; rfl
    unfold issue
    simp only [hp, h1, hb, h4, if_neg (fun h => absurd h.1 (Nat.not_le.2 h2) : ¬(512 ≤ s.seqs[n].ops ∧ _)), ne_eq,
      not_true_eq_false,
      decide_false, Bool.not_true, Bool.or_self, Bool.false_eq_true, if_false, if_true]
  · -- ADD
    intro s n w h1 h2
    exact next_congr (by rw [issue_of_issues h1 rfl, badR, decide_eq_true h2, if_pos rfl])
  · intro s n code
    simp [seqFault]

end Sys2Proof.Machine
end

section
/-! DRAM refresh, temperature, self-refresh, retraining, and the DRAM messages (R373 to R384). -/

namespace Sys2Proof.Machine

/-- A channel set and a channel read. -/
theorem updChan_same (s : State) (ch : Fin 2) (f : DChan → DChan) : (updChan s ch f).dram.chans[ch] = f s.dram.chans[ch] := by
  rw [updChan, updDram_dram, vupd_self]

theorem updChan_other (s : State) {ch k : Fin 2} (f : DChan → DChan) (h : ch ≠ k) :
    (updChan s ch f).dram.chans[k] = s.dram.chans[k] := by
  rw [updChan, updDram_dram]
  exact vupd_ne _ _ h

/-- What both channels hold once their temperature is read. -/
theorem tempRead_both (s : State) (t0 t1 : Int) :
    (updChan (updChan s 0 (tempRead t0)) 1 (tempRead t1)).dram.chans[(0 : Fin 2)] = tempRead t0 s.dram.chans[(0 : Fin 2)] ∧
    (updChan (updChan s 0 (tempRead t0)) 1 (tempRead t1)).dram.chans[(1 : Fin 2)] = tempRead t1 s.dram.chans[(1 : Fin 2)] := by
  constructor
  · rw [updChan_other _ _ (by decide), updChan_same]
  · rw [updChan_same, updChan_other _ _ (by decide)]

/-- Settles O36: each event takes the branch its guard opens; each message stores its operands or answers its words. -/
theorem dramUpkeepAndMessagesComplete : Obligations.DramUpkeepAndMessagesComplete := by
  unfold Obligations.DramUpkeepAndMessagesComplete
  refine ⟨⟨?_, ?_, ?_, ?_, ?_, ?_, ?_, ?_⟩, ⟨?_, ?_, ?_, ?_, ?_, ?_, ?_, ?_, ?_⟩⟩
  · -- DRAM_REFRESH
    intro s ch hp h1
    exact next_congr (by simp [hp, h1, -Fin.getElem_fin])
  · -- DRAM_TEMP_READ
    intro s t0 t1 hp h1 h2 h3 h4
    obtain ⟨h5, h6⟩ := tempRead_both s t0 t1
    refine ⟨_, next_if hp, ?_⟩
    have hl (t : Int) (c : DChan) (ht : t ≤ 85) (hc : 3 ≤ c.hotLow) : 4 ≤ (tempRead t c).hotLow := by
      have hm : 4 ≤ min 4 (c.hotLow + 1) := by omega
      rw [tempRead, if_pos ht]
      exact hm
    dsimp only
    rw [if_neg (by omega), updDram_dram]
    refine ⟨?_, by dsimp only; rw [h5]; rfl, by dsimp only; rw [h6]; rfl, rfl⟩
    dsimp only
    rw [h5, h6, decide_eq_true (hl _ _ h1 h3), decide_eq_true (hl _ _ h2 h4)]
    exact Bool.and_false _
  · -- DRAM_TEMP_READ
    intro s t0 t1 hp h1 h2 h3
    obtain ⟨h5, -⟩ := tempRead_both s t0 t1
    have hz : (tempRead t0 s.dram.chans[(0 : Fin 2)]).hotLow = 0 := if_neg (by omega)
    refine ⟨_, next_if hp, ?_⟩
    dsimp only
    rw [if_neg (by omega), updDram_dram]
    dsimp only
    rw [h5, hz]
    exact ⟨Bool.and_true _, rfl⟩
  · -- DRAM_TEMP_READ
    intro s t0 t1 hp h1
    obtain ⟨h5, -⟩ := tempRead_both s t0 t1
    have hz : (tempRead t0 s.dram.chans[(0 : Fin 2)]).hotLow = 0 := if_neg (by omega)
    refine ⟨_, next_if hp, ?_⟩
    dsimp only
    rw [if_pos (by omega), raise_dram, updDram_dram, updDram_dram]
    dsimp only
    rw [h5, hz]
    exact ⟨rfl, Bool.and_true _⟩
  · -- SELF_REFRESH_ENTRY
    intro s ch h1 h2 h3 h4 h5
    have hc : (live s && !s.bw.started && s.dram.srEnable && standby s && decide (s.dram.chans[ch].lastReq + s.dram.srIdle ≤ s.us)) = true := by
      rw [h1, h2, h3, h4, decide_eq_true h5]
      rfl
    refine ⟨fun h6 h7 => next_congr ?_, fun h6 => next_congr ?_⟩
    · have hd : drainMerge s ch = s := by rw [drainMerge, h7]; rfl
      rw [if_pos hc, if_pos h6, hd]
    · rw [if_pos hc, if_neg (by omega), if_pos h6]
  · -- SELF_REFRESH_EXIT
    intro s ch hp
    refine ⟨fun h1 => ?_, fun h1 => ?_, fun h1 h2 => ?_, fun h1 h2 => ?_, fun h1 h2 => ?_⟩
    · refine next_congr ?_
      rw [hp, if_neg (by decide), if_neg (by omega), if_pos rfl, if_pos h1, request, if_pos h1]
      simp only [updChan, updDram, vupd_vupd]
    all_goals exact next_congr (by simp [*, -Fin.getElem_fin])
  · -- SELF_REFRESH_EXIT
    intro s ch asked hp
    refine ⟨fun h1 h2 => ?_, fun h1 h2 h3 => ?_⟩
    · refine next_congr ?_
      rw [hp, if_neg (by decide), if_pos h1]
      refine congrArg (fun v => { s with dram := { s.dram with chans := v } }) (vupd_congr ?_)
      rw [leaveSr, if_pos (Or.inl h2)]
      rfl
    · refine next_congr ?_
      rw [hp, if_neg (by decide), if_pos h1]
      refine congrArg (fun v => { s with dram := { s.dram with chans := v } }) (vupd_congr ?_)
      have hn : ¬(s.dram.chans[ch].srSince + 10000 < s.us ∨ s.dram.chans[ch].fullDue = true) := by
        rw [h3]
        exact fun h => h.elim (Nat.not_lt.2 h2) Bool.false_ne_true
      rw [leaveSr, if_neg hn]
  · -- DRAM_RETRAIN
    intro s ch d hp h1 h2 h3
    have hc : (powered s && !s.dram.scrubStop && decide (s.dram.chans[ch].sr = 0) && retrainDue s ch) = true := by
      rw [hp, h1, decide_eq_true h2, h3]
      rfl
    refine ⟨fun h4 h5 => ?_, fun h4 h5 => ?_, fun h4 => ?_⟩
    · refine next_congr ((if_pos hc).trans ?_)
      have hf : (decide (8 < d) || decide (d < -8)) = false := by simp; omega
      have hm : (if 1 < d ∨ d < -1 then clampI (-8) 8 d else 0 : Int) = 0 := if_neg (by omega)
      rw [hf, hm]
      simp only [Bool.or_false, Int.add_zero, Bool.false_eq_true, if_false]
    · refine next_congr ((if_pos hc).trans ?_)
      have hf : (decide (8 < d) || decide (d < -8)) = false := by simp; omega
      have hm : (if 1 < d ∨ d < -1 then clampI (-8) 8 d else 0 : Int) = d := by
        rw [if_pos (Or.inl h4), clampI, if_neg (by omega), if_neg (by omega)]
      rw [hf, hm]
      simp only [Bool.or_false, Bool.false_eq_true, if_false]
    · refine next_congr ((if_pos hc).trans ?_)
      have hf : (decide (8 < d) || decide (d < -8)) = true := by simp; omega
      have hm : (if 1 < d ∨ d < -1 then clampI (-8) 8 d else 0 : Int) = 8 := by
        rw [if_pos (by omega), clampI, if_neg (by omega), if_pos h4]
      rw [hf, hm]
      simp only [Bool.or_true, if_true]
  · -- DRC_GET_STATUS
    intro s r clear
    refine completes rfl (by simp) ?_
    simp [drcGet]
    rfl
  · -- DRC_GET_REGIONS
    intro s r h1
    exact completes rfl (by simp) (by simp [drcRegions, h1])
  · -- DRC_SET_SCRUB
    intro s r ps d h1
    exact completes rfl (by simp) (by simp [drcScrub, setA, h1, okA_eq])
  · -- DRC_SET_PORT
    intro s r p ps d h1
    exact completes rfl (by simp) (by simp [drcPort, setA, h1, okA_eq])
  · -- DRC_SET_PORT
    intro s r p w h1
    refine turnsAway rfl (by simp) ?_ (by simp) (by simp) (by simp)
    have ha : applyPars (portPars p) (fun _ => []) [(1, [w])] s.dram = .error 1 := by
      simp [applyPars, runPars, portPars, Nat.not_le.2 h1]
    rw [drcPort, dif_pos p.isLt, setA, ha]
    rfl
  · -- DRC_SET_TRAIN
    intro s r ps d h1
    exact completes rfl (by simp) (by simp [drcTrain, setA, h1, okA_eq])
  · -- DRC_SET_POWER
    intro s r ps d h1
    exact completes rfl (by simp) (by simp [drcPower, setA, h1, okA_eq])
  · -- DRC_INJECT
    intro s r line flip g h1 h2
    exact completes rfl (by simp) (by simp [drcFlip, h1, h2, okA_eq])
  · -- DRC_INJECT
    intro s r line flip g h1 h2
    exact turnsAway rfl (by simp) (by simp [drcFlip, h1, h2]) (by simp) (by simp) (by simp)

end Sys2Proof.Machine
end

section
/-! Authorisation, lifecycle, identity and the spring (R433, R468 to R492). -/

namespace Sys2Proof.Machine

/-- Settles O37: a message that needs an authorisation consumes the one that admitted it, and then its meaning acts. -/
theorem securityComplete : Obligations.SecurityComplete := by
  unfold Obligations.SecurityComplete
  refine ⟨?_, ?_, ?_, ?_, ?_, ?_, ?_, ?_, ?_, ?_, ?_, ?_, ?_, ?_, ?_, ?_, ?_⟩
  · -- AUTH_CHALLENGE
    intro s r op digest h1 h2
    exact completes rfl (by simp) (by simp [authChallenge, springDown, padTo, h1, h2, -Fin.getElem_fin])
  · -- AUTH_CHALLENGE
    intro s r op digest h1
    exact turnsAway rfl (by simp) (by simp [authChallenge, h1, -Fin.getElem_fin]) (by simp) (by simp) (by simp)
  · -- AUTH_CHALLENGE
    intro s r op digest h1 h2
    exact defers rfl (by simp) (by simp [authChallenge, springDown, h1, h2, -Fin.getElem_fin])
  · -- AUTH_RESPONSE
    intro s r ofs len nonce fs h1 h2 h3 h4
    have hf : authFailed s r.mb = failA (raise (updMbx s r.mb fun x =>
        { x with nonce := none, authFails := fs, lockout := x.lockout || decide (8 ≤ fs.length) })
        .authFail 0 0x0F 0 r.mb.val) 9 := by
      rw [← h3]
      rfl
    rcases hb : (blockRoles s (staged s r.mb ofs len)
        (shake32 (authString s r.mb nonce s.mbx[r.mb].nonceOp s.mbx[r.mb].nonceDigest))) with _ | rs
    · refine fails_of rfl h4 ?_ (by decide) (by decide) (by decide)
      rw [consumeAuth_of_ne (by decide), authResponse, if_neg (by rw [stageSize]; omega)]
      simp only [h2, hb]
      exact hf
    by_cases ha : rolesArm s s.mbx[r.mb].nonceOp s.mbx[r.mb].nonceDigest rs = true
    · simp only [Option.filter_some, ha, if_true]
      refine completes rfl (by decide) ?_ h4
      rw [authResponse, if_neg (by rw [stageSize]; omega)]
      simp only [h2, hb, ha, if_true]
      rfl
    · simp only [Option.filter_some, ha]
      refine fails_of rfl h4 ?_ (by decide) (by decide) (by decide)
      rw [consumeAuth_of_ne (by decide), authResponse, if_neg (by rw [stageSize]; omega)]
      simp only [h2, hb, ha]
      exact hf
  · -- AUTH_RESPONSE
    intro s r ofs len fs h1 h2 h3 h4
    refine fails_of rfl h4 ?_ (by decide) (by decide) (by decide)
    rw [consumeAuth_of_ne (by decide), authResponse, if_neg (by rw [stageSize]; omega)]
    simp only [h2, ← h3]
    rfl
  · -- LC_CHANGE
    intro s r target need h1 h2 h3 h4 h5 h
    refine begins_of rfl ?_ h
    rw [consumeAuth_of_admitted rfl h]
    have hl : lcRoles (updMbx s r.mb fun x => { x with armed := none, armedRoles := 0 }) target = some need := h1
    have ha : (need.all fun k => s.mbx[r.mb].armedRoles / 2 ^ k % 2 = 1) = true := List.all_eq_true.2 fun k hk => decide_eq_true (h4 k hk)
    simp only [lcChange, hl]
    rw [if_neg (by simp [h2, h3]), if_neg (by rw [ha]; decide), if_neg (by simp [springDown, h5])]
    rfl
  · -- LC_RESET
    intro s h1
    exact next_congr (by simp [h1])
  · -- DEBUG_UNLOCK
    intro s r scope h1 h2 h
    refine (completes_of rfl ?_ h).trans (next_congr (succeeded_of_not_setter rfl))
    rw [consumeAuth_of_admitted rfl h, debugUnlock, if_neg (Nat.not_le.2 h1)]
    exact if_neg (not_not.2 h2)
  · -- ID_GET_CERT
    intro s r ofs len h1 h2 h3
    refine completes rfl (by decide) ?_
    rw [idCert, if_neg (Nat.not_lt.2 h1), if_pos h2, if_neg (Nat.not_le.2 h3)]
  · -- ID_GET_CERT
    intro s r ofs len h1 h2 h3 h4
    have hc : withCsr s = s := if_pos (Or.inl h3)
    refine completes rfl (by decide) ?_
    rw [idCert, if_neg (Nat.not_lt.2 h1), if_neg (by rw [h2]; decide), if_neg (by simp [h3]), hc]
    exact if_neg (Nat.not_le.2 h4)
  · -- ATTEST_QUOTE
    intro s r nonce h1
    refine begins rfl (by simp) ?_
    simp [attestQuote, h1]
    rfl
  · -- SESSION_KEY_READY
    intro s h1 h2
    exact next_congr (by simp [h1, h2])
  · -- SESSION_KEY_SUCCESSOR
    intro s k h1 h2 h3 h4
    exact next_congr (by simp [h1, h2, h3, h4])
  · -- TREE_CACHE_REBUILT
    intro s hp h1 h2 h3
    exact next_congr (by simp [hp, h1, h2, h3])
  · -- SPRING_TEST_FAIL
    intro s test hp h1 h2
    exact next_congr (by simp [hp, h1, h2])
  · -- SPRING_TEST_FAIL
    intro s test hp h1 h2
    refine ⟨_, rfl, ?_⟩
    simp [hp, h1, h2]
  · -- RANDOMNESS_TIMEOUT
    intro s r h1 h2
    exact next_congr (by simp [springDown, h1, h2, -Fin.getElem_fin])

end Sys2Proof.Machine
end

section
/-! Event recorder, counters and the incident table (R502 to R514). -/

namespace Sys2Proof.Machine

/-- A clear of the ring empties its buffer and takes a record number, and changes nothing else of the recorder. -/
theorem clearRing_evr (s : State) (e : EvRec) :
    (clearRing s e).evr = { s.evr with buf := [], nextRecno := (s.evr.nextRecno + 1) % 2 ^ 32 } := by
  unfold clearRing notifyEvent
  rw [forEach_keeps (·.evr)]
  · simp [flushPage, flushCopy, updCopy, updEvr]
  · intro s mb
    split
    · exact notify_evr ..
    · rfl

/-- Where no event was dropped there are no drops to report. -/
theorem coverDrops_of_none {s : State} (h : s.evr.dropped = 0) : coverDrops s = s :=
  if_neg fun hd => absurd hd.1 (by omega)

/-- EVT_CLEAR where no event was dropped: its record, and the ring empty. -/
theorem evtClear_none {s : State} {mb : Mb} {k : Nat} (h : s.evr.dropped = 0) :
    evtClear mb k s = dataA (clearRing s (clearRecord s mb k)) [] := by
  have hd : (clearRing s (clearRecord s mb k)).evr.dropped = 0 := by
    rw [clearRing_evr]
    exact h
  rw [evtClear, coverDrops_of_none hd, okA_eq]

/-- Settles O40: each event takes the branch its guard opens; each message stores its operands or answers its words. -/
theorem recorderComplete : Obligations.RecorderComplete := by
  unfold Obligations.RecorderComplete
  refine ⟨?_, ?_, ?_, ?_, ?_, ?_, ?_, ?_, ?_, ?_, ?_, ?_, ?_, ?_, ?_, ?_⟩
  · -- EVENT_FLUSH
    intro s a b h1 h2
    exact next_congr (by simp [h1, h2])
  · -- EVENT_FLUSH
    intro s a b h1
    exact next_congr (by simp [h1])
  · -- EVT_SET_CURSOR
    intro s r pos
    refine completes rfl (by simp) ?_
    simp [evtCursor, okA_eq]
    rfl
  · -- EVT_SET_CURSOR
    intro s r pos
    refine completes rfl (by simp) ?_
    simp [evtCursor, okA_eq]
    rfl
  · -- EVT_SET_CURSOR
    intro s r pos h1 h2
    refine completes rfl (by simp) ?_
    simp [evtCursor, h1, h2, okA_eq]
    rfl
  · -- EVT_SET_CURSOR
    intro s r pos h1
    refine turnsAway rfl (by simp) ?_ (by simp) (by simp) (by simp)
    simp [evtCursor, h1]
    rfl
  · -- EVT_READ
    intro s r n rs x h1 h2 h3
    exact completes rfl (by simp) (by simp [evtRead, rangeA, dataA, putCursor, h1, h2, h3])
  · -- EVT_CLEAR
    intro s r h1 h
    have ha := consumeAuth_of_admitted rfl h
    have hr : clearRecord (consumeAuth s r { opc := 0x0703, need := .sg, writesNor := true }) r.mb s.mbx[r.mb].armedRoles =
        clearRecord s r.mb s.mbx[r.mb].armedRoles := by
      rw [ha]
      simp only [clearRecord, stamp, msecOf, updMbx_us, updMbx_evr, updMbx_ctr, updMbx_aon]
    have he : (consumeAuth s r { opc := 0x0703, need := .sg, writesNor := true }).evr = s.evr := by rw [ha, updMbx_evr]
    refine (completes_of rfl (evtClear_none (he ▸ h1)) h).trans (next_congr ?_)
    rw [hr, ha]
    rfl
  · -- what a clear of the ring leaves of the recorder
    exact clearRing_evr
  · -- CTR_READ
    intro s r
    exact completes rfl (by simp) (by simp [ctrRead])
  · -- CTR_READ
    intro s r h h1
    exact completes rfl (by simp) (by simp [ctrRead, u64s, selHead, headCtrs, h1])
  · -- CTR_READ
    intro s r a h1
    exact completes rfl (by simp) (by simp [ctrRead, h1])
  · -- COUNTER_BLOCK_WRITE
    intro s h1 h2
    refine next_congr ?_
    simp [h1, h2]
    rfl
  · -- POWER_ON_SECOND
    intro s
    exact ⟨_, rfl, rfl, rfl, rfl, rfl⟩
  · -- INCIDENT_CLOSE
    intro s i
    exact next_congr (by simp [closeIncident])
  · -- HBM_GET_INCIDENT
    intro s r i
    exact completes rfl (by simp) (by simp [getIncident])

end Sys2Proof.Machine
end

section
/-! The auditor, and re-initialisation of the engines (R26 to R30, R354, R402, R434, R437). -/

namespace Sys2Proof.Machine

/-- Settles O41: an epoch and a re-initialisation take the branch their engine opens. -/
theorem auditorComplete : Obligations.AuditorComplete := by
  unfold Obligations.AuditorComplete
  refine ⟨?_, ?_, ?_, ?_, ?_, ?_, ?_, ?_, ?_, ?_, ?_, ?_, ?_, ?_⟩
  · -- AUDIT_EPOCH_CLOSE
    intro s rep h1 h2 h3
    exact next_congr (by simp [h1, h2, h3])
  · -- AUDIT_EPOCH_CLOSE
    intro s rep h1 h2 h3
    exact next_congr (by simp [h1, h2, h3])
  · -- AUDIT_EPOCH_CLOSE
    intro s rep h1
    exact next_congr (by simp [h1])
  · -- the tags' law fails
    intro s rep h1
    have hl : lawTags s rep = true := by simp [lawTags, h1]
    rw [failed, if_pos hl]
    simp
  · -- the tally's law fails
    intro s rep ⟨x, hx, hne⟩
    have hl : lawTally rep = true := List.any_eq_true.2 ⟨x, hx, decide_eq_true hne⟩
    rw [failed, if_pos hl]
    simp
  · -- HBM_GET_LEDGER
    intro s r clear
    exact ⟨_, completes rfl (by simp) (by simp only [getLedger, getA]; rfl), rfl, rfl, rfl, rfl, rfl, rfl⟩
  · -- ENGINE_REINIT_FUNCTION
    intro s r f
    exact completes rfl (by simp) (by simp [reinitFnA, okA_eq])
  · -- ENGINE_REINIT_QUAY
    intro s r
    exact completes rfl (by simp) (by simp [reinitQuayA, okA_eq])
  · -- ENGINE_REINIT_SEQUENCER
    intro s r n
    exact completes rfl (by simp) (by simp [reinitSeqA, okA_eq])
  · -- ENGINE_REINIT_MAILBOX
    intro s r m h1
    refine completes rfl (by simp) ?_
    rw [reinitMbxA, dif_pos m.isLt, if_neg fun h => h1 (Fin.ext h), okA_eq]
  · -- ENGINE_REINIT_MAILBOX
    intro s r
    refine turnsAway rfl (by simp) ?_ (by simp) (by simp) (by simp)
    simp [reinitMbxA]
    rfl
  · -- ENGINE_REINIT_TALLY
    intro s r
    refine completes rfl (by simp) ?_
    simp [okA]
    rfl
  · -- ENGINE_REINIT_PARITY
    intro s r k
    exact completes rfl (by simp) (by simp [reinitParityA, okA_eq])
  · -- ENGINE_REINIT_DECODER
    intro s r k
    refine completes rfl (by simp) ?_
    rw [reinitDecoderA, dif_pos k.isLt, okA_eq]

end Sys2Proof.Machine
end

section
/-! Messages of the mailbox group (R416, R430, R432, R436). -/

namespace Sys2Proof.Machine

/-- Settles O43: each message that passes its checks stores its operands or answers its words. -/
theorem mailboxMessagesComplete : Obligations.MailboxMessagesComplete := by
  unfold Obligations.MailboxMessagesComplete
  refine ⟨?_, ?_, ?_, ?_, ?_, ?_, ?_, ?_, ?_⟩
  · -- MBX_GET_INFO
    intro s r
    refine completes rfl (by simp) ?_
    simp [mbxInfo]
    rfl
  · -- MBX_GET_NOTIFY
    intro s r max n h1 h2
    exact completes rfl (by simp) (by simp [mbxNotify, dataA, alertSync, h1, h2, -Fin.getElem_fin])
  · -- MBX_SET_NOTIFY
    intro s r g sev flags h1 h2 h3
    have hm2 : r.mb ≠ 2 := fun h => absurd h1 (by rw [h]; decide)
    have hm3 : r.mb ≠ 3 := fun h => absurd h1 (by rw [h]; decide)
    refine completes rfl (by simp) ?_
    have ha (t : State) : alertSync t r.mb = t := if_neg hm2
    have hp (t : State) : pushPending t r.mb = t := if_neg fun h => hm3 h.1
    rw [mbxSetNotify, if_neg (by omega), if_neg (by omega)]
    dsimp only
    rw [ha, hp, okA_eq]
  · -- MBX_SET_PRIV
    intro s r i p h1
    exact completes rfl (by simp) (by simp [mbxSetPriv, h1, okA_eq])
  · -- MBX_SET_PRIV
    intro s r i p h1
    refine turnsAway rfl (by simp) ?_ (by simp) (by simp) (by simp)
    simp [mbxSetPriv, h1]
    rfl
  · -- MBX_STAGE_WRITE
    intro s r o d h1
    exact completes rfl (by simp) (if_neg (Nat.not_lt.2 h1))
  · -- MBX_STAGE_READ
    intro s r o n h1 h2
    exact completes rfl (by simp) (if_neg (by rw [stageSize]; omega))
  · -- MBX_STAGE_READ
    intro s r o n h1
    refine turnsAway rfl (by simp) ?_ (by simp) (by simp) (by simp)
    simp [stageRead, stageSize, h1]
    rfl
  · -- MBX_STAGE_CLEAR
    intro s r
    exact completes rfl (by simp) (by simp [stageClear, okA_eq])

end Sys2Proof.Machine
end

section
/-! Supplies, clocks and temperature (R42, R43, R52, R445, R447). -/

namespace Sys2Proof.Machine

/-- Two changes of the power unit that agree where it stands are one. -/
theorem updPmu_congr {s : State} {f g : Pmu → Pmu} (h : f s.pmu = g s.pmu) : updPmu s f = updPmu s g :=
  congrArg (fun p => { s with pmu := p }) h

/-- An orderly close of the write gates leaves the power unit, and so does a transfer flag, a speed class and a thermal cap. -/
theorem orderlyAll_pmu (s : State) (c : Nat) : (orderlyAll s c).pmu = s.pmu := by
  refine forEach_keeps (·.pmu) _ _ _ fun s a => ?_
  unfold orderlyClose addReopen
  repeat' split
  all_goals rfl

theorem setXfer_pmu (s : State) (v : Bool) : (setXfer s v).pmu = s.pmu := by
  unfold setXfer
  dsimp only
  split
  · exact orderlyAll_pmu ..
  · rfl

theorem startClass_pmu (s : State) : (startClass s).pmu = s.pmu := by
  unfold startClass
  dsimp only
  split
  · exact setXfer_pmu ..
  · rfl

theorem thermalCap_pmu (s : State) (c : Bool) : (thermalCap s c).pmu = s.pmu := by
  unfold thermalCap
  split
  · rfl
  · dsimp only
    split
    · exact startClass_pmu ..
    · rfl

theorem startClass_capThermal (s : State) : (startClass s).spn.capThermal = s.spn.capThermal := by
  unfold startClass
  dsimp only
  split
  · rw [setXfer_spn]
    rfl
  · rfl

/-- A thermal cap taken holds. -/
theorem thermalCap_capThermal (s : State) (c : Bool) : (thermalCap s c).spn.capThermal = c := by
  unfold thermalCap
  split
  · assumption
  · dsimp only
    split
    · exact startClass_capThermal ..
    · rfl

/-- A reading of one sensor, and the actions on what it left. -/
theorem thermalSensorRead_run {s : State} (x : Int) (hp : powered s = true) (hq : s.phase ≠ .quiescent) :
    ∃ u, exec (.thermalSensorRead [x]) s = .next (thermActions u) ∧ u.pmu.tj = x ∧ u.pmu.overTrip = decide (240 ≤ x) ∧
      u.pmu.level = max s.pmu.level (thermLevel x) ∧ u.spn = s.spn ∧ (thermLevel x = 0 → u.out = s.out) := by
  refine ⟨_, next_congr ((if_pos (by simp [hp])).trans (if_neg hq)), ?_⟩
  split
  case isTrue h =>
    rw [raise_pmu, raise_spn]
    exact ⟨rfl, rfl, rfl, rfl, fun hz => absurd h (by simp [hz])⟩
  case isFalse => exact ⟨rfl, rfl, rfl, rfl, fun _ => rfl⟩

/-- The core's rail is one part of the power unit, and two changes of the unit are one. -/
theorem updRail_cpu (s : State) (f : Rail → Rail) : updRail s false f = updPmu s fun p => { p with cpu := f p.cpu } := rfl
theorem updPmu_updPmu (s : State) (f g : Pmu → Pmu) : updPmu (updPmu s f) g = updPmu s fun p => g (f p) := rfl

/-- A core's rail asked for no less than it holds is asked at once. -/
theorem askRail_up {s : State} {mv : Nat} (hr : s.pmu.cpu.req = none) (h1 : s.pmu.stopped = false) (h2 : s.pmu.seqStopped = false)
    (hm : s.pmu.cpu.ackedMv ≤ mv) :
    askRail s false mv = emit (updRail s false fun r => { r with req := some mv, attempts := 0, highTicks := 0 }) (.avs 0 mv) := by
  have hl : lowerFirst s mv = s := if_neg (Nat.not_lt.2 hm)
  unfold askRail sendRail
  simp only [railOf, Bool.false_eq_true, if_false, hr, h1, h2, hl]
  rfl

/-- Settles O44: the level decides each event's branch, and what the throttle changes leaves the supply unit alone. -/
theorem powerComplete : Obligations.PowerComplete := by
  unfold Obligations.PowerComplete
  refine ⟨?_, ?_, ?_, ?_, ?_, ?_, ?_, ?_, ?_, ?_, ?_, ?_, ?_, ?_, ?_, ?_, ?_, ?_, ?_, ?_, ?_⟩
  · -- SUPPLY_SAMPLE
    intro s sm
    refine ⟨_, rfl, ?_⟩
    dsimp only
    have hi (i : Fin 16) : (Vector.ofFn fun i : Fin 16 => sampleInput (levels s i.val) (sampleNum sm i.val) (sampleMv sm i.val)
        s.bw.inputs[i])[i] = sampleInput (levels s i.val) (sampleNum sm i.val) (sampleMv sm i.val) s.bw.inputs[i] := by simp
    rcases ht : sm.tap with _ | x
    · exact ⟨rfl, rfl, rfl, rfl, fun _ => rfl, hi⟩
    · cases x with
      | testLogicReset => exact ⟨rfl, rfl, rfl, rfl, fun h => (nomatch h), hi⟩
      | ir code => exact ⟨rfl, rfl, rfl, rfl, fun h => (nomatch h), hi⟩
      | dr tdi => exact ⟨rfl, rfl, rfl, rfl, fun h => (nomatch h), hi⟩
  · -- the runs of the first supply input
    intro s c mv x
    have hl : levels s 0 = (10900 * 4096, 11100 * 4096, 10200 * 4096, 51) := if_pos rfl
    unfold sampleInput
    rw [hl]
    refine ⟨fun h => ⟨if_pos h, if_neg ?_⟩, fun h => if_neg (Nat.not_lt.2 h), fun h => if_pos h, fun h => if_pos h⟩
    dsimp only
    omega
  · -- AVS_TICK
    intro s m k hp
    exact next_congr (by simp [hp])
  · -- a slow core at its highest voltage
    intro s m h1 h2 h3 h4
    have hh : ¬s.pmu.mHi < m := by omega
    unfold tickRail
    simp only [hh, if_false]
    exact if_pos ⟨h1, h4, Or.inl h3⟩
  · -- a core between its bounds
    intro s m h1 h2 h3
    have hh : ¬s.pmu.mHi < m := by omega
    have hl : ¬m < s.pmu.mLo := by omega
    unfold tickRail
    simp only [hh, hl, false_and, if_false]
    exact (if_neg (not_not.2 h3)).trans (if_neg fun h => absurd h.1 (by decide))
  · -- a slow core below its highest voltage
    intro s m h1 h2 h3 h4 h5 h6 h7
    have hh : ¬s.pmu.mHi < m := by omega
    unfold tickRail
    simp only [hh, if_false]
    refine (if_neg fun h => absurd h.2.1 (Nat.not_le.2 h4)).trans ((if_neg (not_not.2 h3)).trans ((if_pos h1).trans ?_))
    exact askRail_up h7 h5 h6 (Nat.le_min.2 ⟨h4.le, Nat.le_add_right ..⟩)
  · -- SPEED_MONITOR_EMERGENCY
    intro s hp h1
    refine next_congr ((if_pos hp).trans ((if_neg Bool.false_ne_true).trans (updPmu_congr ?_)))
    rw [leftStep, h1]
  · -- SPEED_MONITOR_EMERGENCY
    intro s hp h1 h2 h3 h4 h5
    refine next_congr ?_
    simp [railMax, sendRail, hp, h1, h2, h3, h4, h5]
    rfl
  · -- AVS_ACKNOWLEDGE
    intro s mv h1
    refine next_congr ?_
    simp [ackRail, railOf, h1]
    rfl
  · -- AVS_ACKNOWLEDGE
    intro s mv f h1 h2 h3
    have hr : (railOf s.pmu false).req = some mv := h1
    have hu : decide ((railOf s.pmu false).ackedMv < mv) = true := decide_eq_true h2
    refine next_congr ?_
    simp only [hr, if_true, ackRail, hu, Bool.false_eq_true, if_false]
    rw [updRail_cpu, updPmu_updPmu]
    exact updPmu_congr (by simp [h3])
  · -- AVS_ACKNOWLEDGE
    intro s soc mv h1 h2
    exact next_congr (by simp [h1, h2])
  · -- AVS_ACKNOWLEDGE
    intro s soc mv h1 h2 h3
    exact next_congr (by simp [h1, h2, h3])
  · -- AVS_ACKNOWLEDGE
    intro s soc mv h1 h2 h3
    have hx : exec (.avsAcknowledge soc false) s = .next (raise (updPmu (updRail s soc fun r => { r with attempts := 3, req := none })
        fun p => { p with stopped := true, raiseTo := none, restoreTo := none, clkCore := holdStep p }) .avsFail 0 0x11 (b2n soc) mv) := by
      refine next_congr ?_
      simp only [h1, h3]
      exact (if_neg Bool.false_ne_true).trans ((if_neg Bool.false_ne_true).trans (if_neg (by omega)))
    refine ⟨_, hx, ?_⟩
    rw [raise_pmu]
    exact ⟨rfl, rfl, rfl⟩
  · -- CORE_FREQUENCY_RAISE
    intro s f hp h1 h2
    refine next_congr ?_
    simp only [h1, hp, if_true]
    exact updPmu_congr (by rw [h2]; rfl)
  · -- THERMAL_SENSOR_READ
    intro s x hp h1 h2 h3 h4
    have hl : thermLevel x = 0 := by
      unfold thermLevel
      rw [if_neg (by omega), if_neg (by omega), if_neg (by omega)]
    obtain ⟨u, hx, ht, ho, hv, hs, hz⟩ := thermalSensorRead_run x hp h1
    rw [h3, hl] at hv
    have hu : thermalCap u (decide (2 ≤ u.pmu.level)) = u := if_pos (by rw [hv, hs, h4]; rfl)
    refine ⟨_, hx, ?_⟩
    unfold thermActions
    dsimp only
    rw [hu]
    exact ⟨ht, hv, ho.trans (decide_eq_false (by omega)), by rw [hv]; rfl, hz hl⟩
  · -- THERMAL_SENSOR_READ
    intro s x hp h1 h2 h3 h4
    have hl : thermLevel x = 3 := if_pos h2
    obtain ⟨u, hx, ht, ho, hv, -, -⟩ := thermalSensorRead_run x hp h1
    rw [hl, Nat.max_eq_right h4] at hv
    refine ⟨_, hx, ?_⟩
    unfold thermActions
    dsimp only
    rw [thermalCap_pmu, thermalCap_capThermal, hv]
    exact ⟨ht, rfl, ho.trans (decide_eq_false (by omega)), rfl, rfl⟩
  · -- THERMAL_THROTTLE_STEP
    intro s hp h1
    refine next_congr ?_
    simp [hp, h1]
    rfl
  · -- THERMAL_RELEASE
    intro s hp h1 h2
    exact next_congr (by simp [hp, h1, h2])
  · -- THERMAL_TRIP
    intro s hp h1 h2
    exact next_congr (by simp [hp, h1, h2])
  · -- PWR_SUPPLY_POLICY
    intro s r ps p h1
    exact completes rfl (by simp) (by simp [supplyPolicy, setA, applyPolicy, h1, okA_eq])
  · -- PWR_GET_STATUS
    intro s r
    refine completes rfl (by simp) ?_
    simp [pwrGet]
    rfl

end Sys2Proof.Machine
end

section
/-! Spindle drive: PWM, currents, observer, listen, brake, align (R115 to R127). -/

namespace Sys2Proof.Machine

/-- A forced step moves the vector and its counts only. -/
theorem forceStep_form (p : Spindle) : ∃ n f v, forceStep p = { p with alignN := n, forced := f, vecAngle := v } := by
  unfold forceStep
  split
  · exact ⟨_, _, _, rfl⟩
  split
  · exact ⟨_, _, _, rfl⟩
  · exact ⟨_, _, _, rfl⟩

/-- The chopper's failure acts on the current's reference and the gates only. -/
theorem motorOnly_form (held : Bool) (p : Spindle) :
    ∃ i g b, motorOnly held p = { p with iqRef := i, gatesOff := g, shortBrake := b } := by
  unfold motorOnly
  split
  · dsimp only
    split
    · exact ⟨_, _, _, rfl⟩
    · exact ⟨_, _, _, rfl⟩
  · exact ⟨_, _, _, rfl⟩

/-- Without a chopper failure the gates stay as they are. -/
theorem motorOnly_of_chop {held : Bool} {p : Spindle} (h : p.chopFail = false) : motorOnly held p = p :=
  if_neg fun hc => absurd hc.1 (by rw [h]; decide)

/-- Samples change the currents and what counts bad codes only. -/
theorem takeSamples_form (c1 c2 : Int) (s : State) :
    ∃ a b n, (takeSamples c1 c2 s).spn = { s.spn with samples := a, sampleBad := b, badCnt := n } := by
  have hf (t : State) : (freeMa t).2.spn = t.spn := rfl
  unfold takeSamples
  split <;> split <;> exact ⟨_, _, _, rfl⟩

/-- A stage that no breakwater holds off is not held off. -/
theorem heldOff_of_calm {s : State} (h : s.bw.started = false) : heldOff s = false := by
  rw [heldOff, h]
  rfl

/-- A coast entered. -/
theorem enterCoast_spn (s : State) (ms : Nat) : (enterCoast s ms).spn =
    { s.spn with st := .coast, gatesOff := true, shortBrake := false, xferOk := false, coastMs := ms, coastUs := s.us,
                 blendLeft := 0 } := by
  rw [enterCoast, updSpn_spn, setXfer_spn]
  rfl

/-- The gates put out: none while off, a short brake, or the wave's. -/
theorem spgNow_cases (p : Spindle) (n : Nat) :
    spgNow p n = if p.gatesOff then 0 else if p.shortBrake then 0b101010 else spgNow p n := by
  unfold spgNow
  split
  · rfl
  split <;> rfl

/-- What a PWM period takes over before its forced step. -/
def periodTaken (p : Spindle) : Spindle :=
  let lim := match p.pwmPend with | some (d, m) => { p.lim with tDead := d, tMin := m } | none => p.lim
  { p with cmpUp := p.cmpNextUp, cmpDown := p.cmpNextDown, blendLeft := p.blendLeft - 1, lim := lim, pwmPend := none,
           wave := gateWave (lim.tDead / 10) p.cmpNextUp p.cmpNextDown p.cmpDown }

/-- A PWM period of a powered device, and the gates it puts out. -/
theorem pwmPeriodStart_powered {s : State} (hp : powered s = true) : ∃ t, exec .pwmPeriodStart s = .next t ∧
    t.spn = motorOnly (heldOff s) (forceStep (periodTaken s.spn)) ∧ t.pins.spgEn = spgNow t.spn 0 :=
  ⟨_, next_if hp, rfl, rfl⟩

/-- Settles O6: the drive's state decides each event's branch; the powers of the stage and the derating leave it alone. -/
theorem spindleDriveComplete : Obligations.SpindleDriveComplete := by
  unfold Obligations.SpindleDriveComplete
  refine ⟨?_, ?_, ?_, ?_, ?_, ?_, ?_, ?_, ?_, ?_, ?_, ?_, ?_, ?_, ?_, ?_, ?_, ?_, ?_, ?_, ?_, ?_, ?_, ?_, ?_, ?_⟩
  · -- PWM_PERIOD_START
    intro s hp h1
    obtain ⟨t, hx, ht, hg⟩ := pwmPeriodStart_powered hp
    obtain ⟨n, f, v, hf⟩ := forceStep_form (periodTaken s.spn)
    rw [hf, motorOnly_of_chop (by exact h1)] at ht
    refine ⟨t, hx, ?_⟩
    rw [hg]
    generalize t.spn = p at ht ⊢
    have ho : p.gatesOff = s.spn.gatesOff := by rw [ht]; rfl
    have hb : p.shortBrake = s.spn.shortBrake := by rw [ht]; rfl
    have hs := spgNow_cases p 0
    rw [ho, hb] at hs
    refine ⟨?_, ?_, ?_, ?_, ?_, congrArg _ hs⟩
    all_goals simp only [ht, periodTaken]
  · -- PWM_PERIOD_START
    intro s d m hp h1
    obtain ⟨t, hx, ht, -⟩ := pwmPeriodStart_powered hp
    obtain ⟨n, f, v, hf⟩ := forceStep_form (periodTaken s.spn)
    obtain ⟨i, g, b, hm⟩ := motorOnly_form (heldOff s) (forceStep (periodTaken s.spn))
    refine ⟨t, hx, ?_⟩
    rw [ht, hm, hf]
    simp only [periodTaken, h1]
  · -- PWM_PERIOD_START
    intro s hp h1 h2 h3
    obtain ⟨t, hx, ht, -⟩ := pwmPeriodStart_powered hp
    have hl : (periodTaken s.spn).lim = s.spn.lim := by simp only [periodTaken, h1]
    have ha : (periodTaken s.spn).st ≠ .align := fun h => nomatch h2.symm.trans h
    obtain ⟨i, g, b, hm⟩ := motorOnly_form (heldOff s) (forceStep (periodTaken s.spn))
    refine ⟨t, hx, ?_⟩
    rw [ht, hm, forceStep, if_neg ha, if_pos (by exact h2), hl]
    exact ⟨rfl, rfl⟩
  · -- CURRENT_SAMPLES_READY
    intro s code1 code2 late hp h1 h2 h3
    obtain ⟨a, b, n, hs⟩ := takeSamples_form code1 code2 s
    have hg : ¬(drives (takeSamples code1 code2 s).spn && !(takeSamples code1 code2 s).spn.gatesOff) = true := by
      rw [hs, h1, Bool.not_true, Bool.and_false]
      exact Bool.false_ne_true
    refine ⟨_, next_congr ((if_pos hp).trans (if_neg hg)), ?_⟩
    simp [takeSamples, h2, h3, b2n]
  · -- CURRENT_SAMPLES_READY
    intro s s1 s2 code1 code2 hp h1 h2 h3 h4
    obtain ⟨a, b, n, hs⟩ := takeSamples_form code1 code2 s
    have hg : (drives (takeSamples code1 code2 s).spn && !(takeSamples code1 code2 s).spn.gatesOff) = true := by
      have hd : drives (takeSamples code1 code2 s).spn = true := by rw [hs]; exact h2
      rw [hd, hs, h1]
      rfl
    refine next_congr ((if_pos hp).trans ((if_pos hg).trans ?_))
    rw [h3]
    dsimp only
    rw [h4]
    rfl
  · -- OVERCURRENT_TRIP
    intro s hp h1 h2
    exact next_congr (by simp [hp, h1, h2])
  · -- OVERCURRENT_TRIP
    intro s hp h1 h2
    exact next_congr (by simp [hp, h1, h2])
  · -- COAST_RESTART
    intro s hp h1 h2 h3 h4
    exact ⟨next_congr (if_pos (by simp [hp, h1, h2, heldOff_of_calm h3, h4])), rfl⟩
  · -- OBSERVER_LOCK
    intro s hp h1 h2 h3
    exact ⟨_, next_congr ((if_pos (by simp [hp, h1])).trans (if_pos ⟨h2, by rw [heldOff_of_calm h3]; decide⟩)), rfl, rfl, rfl,
      rfl, rfl, rfl⟩
  · -- OBSERVER_LOCK
    intro s hp h1 h2
    exact next_congr (by simp [observerLock, hp, h1, h2])
  · -- OBSERVER_LOCK_LOSS
    intro s hp h1
    exact next_congr (by simp [hp, h1])
  · -- what a coast leaves
    intro s ms
    rw [enterCoast_spn]
    exact ⟨rfl, rfl, rfl, rfl⟩
  · -- INDEX_CROSSING
    intro s m stamp last hp h1 h2 h3
    have hr : revOf s = some m := by rw [revOf, h2]
    refine next_congr ((if_pos (by simp [hp, h1, hr, -Fin.getElem_fin])).trans ?_)
    exact congrArg (updDevCtr · _) (updSpn_congr (by simp [h2, h3]))
  · -- CURRENT_LAW_MISS_COAST
    intro s hp h1 h2
    exact next_congr (by simp [currentLawCoast, drives, hp, h1, h2])
  · -- CURRENT_LAW_MISS_COAST
    intro s hp h1 h2
    exact next_congr (by simp [currentLawCoast, drives, hp, h1, h2])
  · -- LISTEN_COMPLETE
    intro s hp h1 h2 h3 h4 h5 h6
    refine ⟨_, next_congr ((if_pos (by simp [hp, h1, h2])).trans
      (if_pos ⟨h3, h4, by rw [h5]; rfl, by rw [heldOff, h6]; rfl⟩)), rfl, rfl, rfl, ?_, rfl⟩
    show (if listenFinding s.spn = 3 then 0 else listenFinding s.spn) = 1
    rw [h3]
    rfl
  · -- LISTEN_COMPLETE
    intro s hp h1 h2 h3
    exact ⟨_, next_congr ((if_pos (by simp [hp, h1, h2])).trans (if_neg fun h => h3 h.1)), rfl, rfl, rfl⟩
  · -- PHASE_VOLTAGE_SAMPLE
    intro s u v w hp h1 h2
    have hw : watches s.spn = true := by rw [watches, h1]; rfl
    refine next_congr ((if_pos hp).trans ((if_pos hw).trans (updSpn_congr ?_)))
    simp only [hw, if_true, watchEmf, h2]
  · -- PHASE_VOLTAGE_SAMPLE
    intro s u v w hp h1
    have hw : ¬watches s.spn = true := by simp [watches, h1]
    refine ⟨_, next_congr ((if_pos hp).trans (if_neg hw)), ?_⟩
    rw [updSpn_spn]
    dsimp only
    rw [if_neg hw]
    exact ⟨rfl, rfl, rfl, rfl⟩
  · -- BRAKE_DECISION
    intro s emf rpm hp h1 h2 h3 h4
    refine next_congr ((if_pos (by rw [hp, h1]; rfl)).trans ((if_pos (by rw [h2, heldOff, h3]; rfl)).trans ?_))
    simp only [quietBrake, if_pos h4]
    rfl
  · -- BRAKE_DECISION
    intro s emf rpm hp h1 h2
    exact next_congr (by simp [brakeDecision, hp, h1, h2])
  · -- STANDSTILL_DECLARED
    intro s hp h1 h2 h3
    exact next_congr (by simp [standstill, hp, h1, h2, h3])
  · -- STANDSTILL_DECLARED
    intro s hp h1 h2 h3 h4
    exact next_congr (by simp [standstill, heldOff, hp, h1, h2, h3, h4])
  · -- ALIGN_COMPLETE
    intro s hp h1 h2
    exact next_congr (by simp [alignComplete, hp, h1, h2])
  · -- START_FAIL
    intro s hp h1 h2 h3 h4
    refine next_congr ((if_pos (by simp [hp, h1, h2, h3])).trans ?_)
    have hn : ¬3 ≤ s.spn.starts + 1 := by omega
    simp only [hn, if_false, decide_false, Bool.or_false]
  · -- START_FAIL
    intro s hp h1 h2 h3 h4
    exact next_congr (by simp [startFail, hp, h1, h2, h3, h4])

end Sys2Proof.Machine
end

section
/-! Lakebed: position, address words, tone, zones, acquisition and its messages (R61, R64 to R81). -/

namespace Sys2Proof.Machine

/-- Changes that agree where they act are one. -/
theorem updStream_congr {s : State} {m : Strm} {f g : Stream → Stream} (h : f s.streams[m] = g s.streams[m]) :
    updStream s m f = updStream s m g := congrArg (fun v => { s with streams := v }) (vupd_congr h)

theorem updHead_congr {s : State} {h : Hd} {f g : HeadCfg → HeadCfg} (e : f s.heads[h] = g s.heads[h]) :
    updHead s h f = updHead s h g := congrArg (fun v => { s with heads := v }) (vupd_congr e)

/-- A revolution checked, a read flagged and a position formed change each its own part of the state. -/
theorem revCheck_form (s : State) : ∃ p, revCheck s = { s with spn := p } := by
  unfold revCheck
  split
  · exact ⟨_, rfl⟩
  split
  · exact ⟨_, rfl⟩
  · exact ⟨_, rfl⟩

theorem flagRead_form (s : State) (m : Strm) (w : BitVec 64) : ∃ c, flagRead s m w = { s with chn := c } := by
  unfold flagRead
  dsimp only
  split
  · split
    · exact ⟨_, rfl⟩
    · exact ⟨_, rfl⟩
  · exact ⟨_, rfl⟩

theorem samplePos_form (s : State) (h : Hd) (x : PosSample) : ∃ c, (samplePos s h x).2 = { s with freeCtr := c } := by
  unfold samplePos
  split
  · exact ⟨_, rfl⟩
  · exact ⟨_, rfl⟩

/-- A sample of a stream whose write gate is shut changes its stream, the revolution's source, its read gate and the counter. -/
theorem positionSample_calm {s : State} {m : Strm} {x : PosSample} (hp : powered s = true) (h1 : s.streams[m].selected = true)
    (h2 : gateOpenOn s s.streams[m].head = false) (h3 : s.sec.life ≠ .manufacture) :
    ∃ p c k, positionSample m x s = { s with
      freeCtr := c, spn := p, chn := k,
      streams := vupd s.streams m
        (sampleStream (surfOf s s.streams[m].head) s.heads[s.streams[m].head].demod x (samplePos s s.streams[m].head x).1) } := by
  have hu (u : State) (hc : ∃ c, u = { s with freeCtr := c }) (f : Stream → Stream) :
      ∃ p c, revCheck (updStream u m f) = { s with freeCtr := c, streams := vupd s.streams m f, spn := p } := by
    obtain ⟨c, rfl⟩ := hc
    obtain ⟨p, hp⟩ := revCheck_form (updStream { s with freeCtr := c } m f)
    exact ⟨p, c, hp⟩
  obtain ⟨p, c, h4⟩ := hu _ (samplePos_form s s.streams[m].head x)
    (sampleStream (surfOf s s.streams[m].head) s.heads[s.streams[m].head].demod x (samplePos s s.streams[m].head x).1)
  obtain ⟨t, ht⟩ : ∃ t, positionSample m x s = t := ⟨_, rfl⟩
  rw [ht]
  unfold positionSample at ht
  rw [if_pos (by rw [hp, h1]; rfl)] at ht
  extract_lets u s1 w s2 at ht
  have h5 : s1 = _ := (congrArg (verifyTrack m x.cycles) h4).trans (if_pos h3)
  obtain ⟨k, hk⟩ := flagRead_form s1 m w
  have h6 : s2 = { s1 with chn := vupd k m (gateTravel x.cycles) } := congrArg (updChn · m (gateTravel x.cycles)) hk
  rw [h5] at h6
  have hg : ¬gateOpenOn s2 s.streams[m].head = true := by
    rw [h6]
    exact fun hg => Bool.false_ne_true (h2.symm.trans hg)
  rw [if_neg hg, h6] at ht
  exact ⟨_, _, _, ht.symm⟩

/-- A ring learned leaves the streams, the spindle and the write paths. -/
theorem recordRing_keeps (s : State) (m : Strm) (t : Nat) (w : BitVec 80) :
    (recordRing s m t w).streams = s.streams ∧ (recordRing s m t w).spn = s.spn ∧ (recordRing s m t w).wps = s.wps := by
  unfold recordRing
  split <;> exact ⟨rfl, rfl, rfl⟩

/-- A word that completes an acquisition loads the counters. -/
theorem addressWord_acquires {s : State} {m : Strm} {w : BitVec 80} {f : WordFacts} (hp : powered s = true)
    (h1 : s.streams[m].selected = true) (h2 : s.streams[m].toneLock = true) (h3 : wordSync w = true) (h4 : wordCrcOk w = true)
    (h5 : acquireWord s m w f = true) :
    addressWord m w f s = recordRing (loadCounters s m w f) m (grayDecode 24 (fld w.toNat 12 24)) w := by
  have h6 := h5
  simp only [acquireWord, Bool.and_eq_true, Bool.not_eq_true'] at h6
  obtain ⟨⟨⟨-, hs⟩, hf⟩, -⟩ := h6
  unfold addressWord
  dsimp only
  rw [if_neg (by rw [hp, h1, h2, h3]; decide), if_neg (by rw [h4]; decide), if_neg (by rw [hs, hf]; decide), goodWord, if_pos h5]

/-- Settles O1: the stream's state decides each event's branch; a message that passes its checks stores or answers. -/
theorem lakebedComplete : Obligations.LakebedComplete := by
  unfold Obligations.LakebedComplete
  refine ⟨⟨?_, ?_, ?_, ?_, ?_, ?_, ?_, ?_, ?_, ?_, ?_, ?_, ?_, ?_, ?_, ?_, ?_, ?_, ?_⟩, ⟨?_, ?_, ?_, ?_, ?_, ?_, ?_, ?_, ?_⟩⟩
  · -- POSITION_SAMPLE_ARRIVAL
    intro s m x hp h1 h2 h3
    obtain ⟨p, c, k, h⟩ := positionSample_calm (x := x) hp h1 h2 h3
    refine ⟨_, next_congr h, ?_, fun k hk => vupd_ne _ _ hk, rfl, rfl⟩
    exact vupd_self ..
  · intro s h x u h1
    simp [samplePos, h1, -Fin.getElem_fin]
  · -- GUARD_GAP_TIMEOUT
    intro s a hp h1
    exact next_congr (by simp [hp, h1, -Fin.getElem_fin])
  · -- ADDRESS_WORD_DECODED
    intro s m w f hp h1 h2 h3 h4 h5
    exact next_congr (by simp [addressWord, hp, h1, h2, h3, h4, h5, -Fin.getElem_fin])
  · -- ADDRESS_WORD_DECODED
    intro s m w f hp h1
    exact next_congr (by simp [addressWord, hp, h1])
  · -- ADDRESS_WORD_DECODED
    intro s m w f hp h1 h2 h3 h4 h5 h6
    exact next_congr (by simp [addressWord, hp, h1, h2, h3, h4, h5, h6, -Fin.getElem_fin])
  · -- ADDRESS_WORD_DECODED
    intro s m w f hp h1 h2 h3 h4 h5
    obtain ⟨hs, hn, hw⟩ := recordRing_keeps (loadCounters s m w f) m (grayDecode 24 (fld w.toNat 12 24)) w
    refine ⟨_, next_congr (addressWord_acquires hp h1 h2 h3 h4 h5), ?_⟩
    rw [hs, hn, hw]
    refine ⟨?_, ?_, ?_, ?_, ?_, fun k hk => vupd_ne _ _ hk, rfl, rfl⟩
    all_goals
      rw [loadCounters, updHeadRec_streams, updStream_streams, vupd_self]
    rfl
  · -- TONE_LOCK_DECLARED
    intro s m hp h1 h2 h3
    refine next_congr ((if_pos (by simp [hp, h1, h3, -Fin.getElem_fin])).trans (congrArg revCheck (updStream_congr ?_)))
    simp only [h2, if_true]
  · -- TONE_LOCK_DECLARED
    intro s m hp h1 h2 h3
    refine next_congr ((if_pos (by simp [hp, h1, h3, -Fin.getElem_fin])).trans (congrArg revCheck (updStream_congr ?_)))
    simp only [h2]
    rfl
  · -- TONE_LOCK_LOST
    intro s m hp h1
    refine ⟨_, rfl, ?_⟩
    simp [hp, h1, -Fin.getElem_fin, vupd_self]
  · -- HOLDOVER_TIMEOUT
    intro s m hp h1 h2 h3
    exact next_congr (by simp [hp, h1, h2, h3, -Fin.getElem_fin])
  · -- HEAD_SELECT
    intro s m h hp h1 h2 h3
    refine ⟨_, next_if (by simp [hp, h1, h2, h3]), ?_⟩
    dsimp only
    generalize forEach allStreams s _ = u
    obtain ⟨p, hr⟩ := revCheck_form (updHeadRec (updStream u m fun x => { selectOn (surfOf s h) h s.spn.meas x with
      refused := allStreams.any fun k => decide (s.streams[k].head = h) && s.streams[k].refused }) h fun r =>
        { r with surfFails := if r.surfNow then r.surfFails else 0, surfNow := false })
    rw [hr]
    dsimp only
    rw [updHeadRec_streams, updStream_streams, vupd_self]
    exact ⟨rfl, rfl, rfl, rfl, rfl, rfl⟩
  · -- ACQUISITION_FAIL
    intro s m hp h1 h2 h3
    exact next_congr (by simp [hp, h1, h2, h3, -Fin.getElem_fin])
  · -- ZONE_RATIO_APPLY
    intro s m z hp h1 h2 h3 h4
    exact next_congr (by simp [hp, h1, h2, h3, h4, -Fin.getElem_fin])
  · -- ZONE_SETTLE_END
    intro s m hp
    exact next_congr (by simp [hp])
  · -- RATE_OUT_OF_RANGE
    intro s m hp h1 h2 h3
    exact next_congr (by simp [hp, h1, h2, h3, -Fin.getElem_fin])
  · -- CHANNEL_RATE_RETURN
    intro s m hp
    exact next_congr (by simp [hp])
  · -- DEMOD_PARAM_APPLY
    intro s h d hp h1 h2 h3
    refine next_congr ((if_pos (by simp [hp, h1])).trans ?_)
    simp only [h3]
    exact updHead_congr (by rw [h2]; rfl)
  · -- DEMOD_PARAM_APPLY
    intro s h d m bw hp h1 h2 h3
    refine next_congr ((if_pos (by simp [hp, h1])).trans ?_)
    simp only [h3]
    exact updHead_congr (by rw [updStream_heads, h2]; rfl)
  · -- LKB_SET_SURFACE
    intro s r head sf pL index lin h1 h2 h3 h4
    refine completes rfl (by simp) ?_
    rw [setSurface, if_neg (by rintro ⟨hm, hr⟩; exact h1.elim hm hr), if_pos ⟨sf.isLt, h2, h3, h4⟩, okA_eq]
    simp only [Nat.mod_eq_of_lt sf.isLt]
  · -- LKB_SET_ZONE_MAP
    intro s r sf first h1 h2 h3
    refine completes rfl (by simp) ?_
    rw [setZoneMap, if_pos ⟨sf.isLt, h1, h2, h3⟩, okA_eq]
    simp only [Nat.mod_eq_of_lt sf.isLt]
  · -- LKB_SET_RATIO
    intro s r head zone word h1 h2 h3 h4
    exact completes rfl (by simp) (by simp [setRatio, h1, h2, h3, h4, okA_eq])
  · -- LKB_SET_GUARD
    intro s r a word h1 h2
    exact completes rfl (by simp) (by simp [setGuard, h1, h2, okA_eq])
  · -- LKB_SET_DEMOD
    intro s s' r head m ps h1 h2
    exact completes rfl (by simp) (by simp [setDemod, setAllA, h1, h2, okA_eq])
  · -- LKB_SET_DEMOD of a head's parameters
    intro s h m ps d bw h1 h2
    simp only [demodHead, h2, h1, Bool.true_and, if_true]
    split
    · exact congrArg Except.ok (updHead_congr rfl)
    · rfl
  · -- LKB_SET_DEMOD of a stream's bandwidth alone
    intro s h m ps d bw h1 h2
    simp only [demodHead, h2, h1, Bool.false_and, Bool.false_eq_true, if_false]
    rfl
  · -- LKB_GET_STATUS
    intro s r m clear
    refine completes rfl (by simp) ?_
    simp [getLkbStatus]
    rfl
  · -- LKB_READ_POSITION
    intro s r m
    refine completes rfl (by simp) ?_
    simp [readPosition]
    rfl

end Sys2Proof.Machine
end

section
/-! Starts, resets and the breakwater (R46, R448 to R465, R516 to R522). -/

namespace Sys2Proof.Machine

/-- A revolution lost changes neither an actuator nor the power stage nor the breakwater. -/
theorem angleLost_keeps (s : State) (a : Act) :
    (angleLost s a).acts = s.acts ∧ (angleLost s a).psl = s.psl ∧ (angleLost s a).bw = s.bw := by
  unfold angleLost revCheck
  repeat' split
  all_goals exact ⟨rfl, rfl, rfl⟩

/-- An actuator on its ramp stop is parked and its driver off. -/
theorem onRampStop_parks (s : State) (a : Act) : (onRampStop s a).acts[a].mode = .parked ∧ (onRampStop s a).psl.ven[a] = false ∧
    (onRampStop s a).bw = s.bw := by
  obtain ⟨ha, -, hb⟩ := angleLost_keeps (updAct s a parkedNow) a
  unfold onRampStop
  refine ⟨?_, ?_, ?_⟩
  · rw [updPsl_acts, ha, updAct_acts, vupd_self]
    rfl
  · exact vupd_self ..
  · rw [updPsl_bw, hb]
    rfl

/-- Doing something for each element that changes nothing changes nothing. -/
theorem forEach_nothing {α : Type} {l : List α} {s : State} {f : State → α → State} (h : ∀ x ∈ l,
  f s x = s) : forEach l s f = s := by
  unfold forEach
  induction l with
  | nil => rfl
  | cons x l ih => rw [List.foldl_cons, h x (List.mem_cons_self ..), ih fun y hy => h y (List.mem_cons_of_mem _ hy)]

/-- Settles O45: phase and step decide each event's branch, and what runs beside it leaves both alone. -/
theorem startAndBreakwaterComplete : Obligations.StartAndBreakwaterComplete := by
  unfold Obligations.StartAndBreakwaterComplete
  refine ⟨?_, ?_, ?_, ?_, ?_, ?_, ?_, ?_, ?_, ?_, ?_, ?_, ?_, ?_, ?_, ?_, ?_, ?_, ?_, ?_, ?_, ?_, ?_, ?_, ?_, ?_, ?_, ?_⟩
  · -- INTERNAL_RESET_RELEASE
    intro s b h1
    exact next_congr (by simp [h1])
  · -- INTERNAL_RESET_RELEASE
    intro s u b h1 h2 h3 h4
    refine next_congr ((if_neg (by simp [h1, h2])).trans ?_)
    dsimp only
    rw [h3, if_pos h4]
  · -- INTERNAL_RESET_RELEASE
    intro s u b k p h1 h2 h3 h4 h5 h6
    refine next_congr ((if_neg (by simp [h1, h2])).trans ?_)
    dsimp only
    rw [h3, h4, if_neg Bool.false_ne_true, h5]
    dsimp only
    rw [if_pos rfl, h6]
    rfl
  · intro s code slot
    simp [bootHalt]
  · -- BOOT_SPINDLE_TIMEOUT
    intro s h1 h2 h3
    exact next_congr (by simp [h1, h2, h3])
  · -- HALT_UART_LINE
    intro s h1
    exact next_congr (by simp [h1])
  · -- HOST_ADMISSION
    intro s h1 h2 h3 h4 h5
    refine ⟨_, next_if ⟨h1, by rw [h2]; rfl, h3, by simpa using h4, h5⟩, rfl, rfl, ?_, ?_⟩
    · rw [updMbx_mbx, vupd_ne _ _ (by decide), updMbx_mbx, vupd_self]
    · rw [updMbx_mbx, vupd_self]
  · -- RESET_NASSERT
    intro s h1
    exact next_congr (by simp [h1])
  · -- RESET_NASSERT
    intro s h1
    exact next_congr (by simp [h1])
  · -- PORST_NASSERT
    intro s h1
    exact next_congr (by simp [h1])
  · -- PORST_NASSERT
    intro s h1
    exact next_congr (by simp [h1])
  · -- PWRFAIL_NASSERT
    intro s h1
    refine next_congr (if_neg fun ⟨ha, _, hc, hu⟩ => ?_)
    obtain h | h | ⟨h7, h8⟩ := h1
    · rw [h] at ha
      exact Bool.false_ne_true ha
    · exact h hu
    · exact hc.elim h7 h8
  · -- PWRFAIL_NASSERT
    intro s h1 h2 h3 h4
    refine ⟨_, next_if ⟨h1, h4, h3, h2⟩, ?_, rfl, rfl, ?_⟩
    all_goals
      unfold pwrfailWins
      dsimp only
      split <;> rfl
  · -- POWER_ON_DETECT
    intro s
    exact ⟨_, rfl, rfl, rfl, rfl, rfl, rfl, rfl⟩
  · -- NV_WRITE_INHIBIT_ENTRY
    intro s i hp h1 h2
    refine ⟨seqLine (orderlyAll { updBw s fun b => { b with inhibit := true, inhibitSince := s.us } with
      ledger := { s.ledger with skip := true } } 0x9) 2, next_congr ?_⟩
    simp only [h2]
    exact if_pos (by rw [hp, h1]; rfl)
  · -- NV_WRITE_INHIBIT_END
    intro s hp h1 h2 h3 h4
    exact next_congr (by simp [hp, h1, h2, h3, h4])
  · -- BREAKWATER_START
    intro s cause h1
    exact next_congr (by simp [h1])
  · -- a trigger while the breakwater runs
    intro s cause h1 h2 h3 h4
    simp only [List.mem_cons, List.not_mem_nil, or_false, not_or] at h4
    obtain ⟨c1, c2, c3, c6⟩ := h4
    rw [startBreakwater, if_neg (by simp [h1, h2]), if_pos h3, laterTrigger]
    exact if_neg fun h => absurd h.2.2 (by simp [c1, c2, c3, c6])
  · intro s cause h1
    simp [startBreakwater, h1]
  · -- ACTUATOR_PARKED
    intro s a h1 h2 h3
    obtain ⟨hm, hv, hb⟩ := onRampStop_parks s a
    refine ⟨_, next_congr ((if_pos (by simp [h1, h2, -Fin.getElem_fin])).trans (if_neg fun h => h3 ?_)), hm, hv⟩
    rw [← hb]
    exact h.1
  · -- PARK_TIMEOUT
    intro s a h1 h2 h3 h4
    exact next_congr ((if_pos (by rw [h1, h2, h3]; rfl)).trans (if_pos h4))
  · -- PARK_TIMEOUT
    intro s a h1 h2 h3 h4
    exact next_congr ((if_pos (by rw [h1, h2, h3]; rfl)).trans (if_neg h4))
  · -- PARK_OPEN_LOOP_END
    intro s a h1
    exact next_congr (if_pos h1)
  · -- RETRACT_T_EXPIRY
    intro s h1 h2 h3 h4
    have hf : (forEach allActs s fun s a => if s.acts[a].mode = .parked then s else
        settleAct (updBw (onRampStop s a) fun b =>
          { b with parked := if s.bw.parkDone.contains a then b.parked else b.parked ++ [a], parkMs := (s.us - b.startUs) / 1000 }) a) = s :=
      forEach_nothing fun a _ => if_pos (h3 a)
    refine next_congr ((if_pos (by simp [h1, h2, h4])).trans ?_)
    exact congrArg (fun t => parkReport (parkCheck t)) hf
  · -- VAULT_PAGE_PROGRAM_DONE
    intro s h1 h2
    exact ⟨next_if (by simp [h1, h2]), next_if (by simp [h1, h2])⟩
  · intro s h1 h2
    simp [pagePassed, h1, h2]
  · -- QUIESCENT_RELEASE
    intro s h1 h2
    refine ⟨_, rfl, ?_⟩
    simp [intoReset, h1, h2]
  · -- VAULT_AREA_ERASE_DONE
    intro s k hp h1 h2
    exact next_congr (by simp [hp, h1, h2, -Fin.getElem_fin])

end Sys2Proof.Machine
end

section
/-! Preamplifier and power-stage links: frames, training, loss, status, register access (R217 to R238). -/

namespace Sys2Proof.Machine

/-- A preamplifier's link is its own; the power stage's is the fifth. -/
theorem linkOf_plk (s : State) (a : Act) : linkOf s a.val = s.plks[a].l := dif_pos a.isLt
theorem updLink_plk (s : State) (a : Act) (f : Link → Link) : updLink s a.val f = updPlk s a fun p => { p with l := f p.l } :=
  dif_pos a.isLt

/-- A frame that arrives ages the requests that wait for their answer, and nothing else. -/
theorem tickReqs_plk (s : State) (a : Act) : ∃ q, (tickReqs s a.val).plks[a].l = { s.plks[a].l with reqs := q } := by
  rw [tickReqs, updLink_plk, updPlk_plks, vupd_self]
  exact ⟨_, rfl⟩

theorem linkSends_of_up {l : Link} (h : l.st = .up) : linkSends l = true := by
  rw [linkSends, h]
  rfl

/-- What a preamplifier's frame takes up leaves the link. -/
theorem refreshPlk_link (s : State) (a : Act) (p : PLink) : (refreshPlk s a p).l = p.l := by
  unfold refreshPlk
  dsimp only
  split <;> rfl

theorem codeSent_plks (s : State) (a : Act) (f : WritePath → WritePath) (c : Prop) [Decidable c] :
    (if c then updWp s a f else s).plks = s.plks := by
  split <;> rfl
theorem codeSent_out (s : State) (a : Act) (f : WritePath → WritePath) (c : Prop) [Decidable c] :
    (if c then updWp s a f else s).out = s.out := by
  split <;> rfl

/-- The eighth whole data frame of the last training step brings the link up. -/
theorem plkFrame_up (s : State) (a : Act) (f : BitVec 128) (h1 : s.plks[a].l.st = .train) (h2 : s.plks[a].l.trainStep = 3)
    (h3 : s.plks[a].l.trainRun = 7) (h4 : frameIntact 0x4B f = true) (h5 : frameType f = 0) :
    plkFrame a (some f) s = plkUp (updLink (tickReqs s a.val) a.val (trainFrame f)) a := by
  obtain ⟨q, hq⟩ := tickReqs_plk s a
  have hst : (tickReqs s a.val).plks[a].l.st = .train := by rw [hq]; exact h1
  have hstep : (tickReqs s a.val).plks[a].l.trainStep = 3 := by rw [hq]; exact h2
  have hrun : (tickReqs s a.val).plks[a].l.trainRun = 7 := by rw [hq]; exact h3
  have hrun' : ((updLink (tickReqs s a.val) a.val (trainFrame f)).plks[a]).l.trainRun = 8 := by
    rw [updLink_plk, updPlk_plks, vupd_self, trainFrame, hstep, if_pos (by rw [h5]; rfl), hrun]
    rfl
  unfold plkFrame
  dsimp only
  rw [hst, hstep, h4]
  exact (if_neg LinkSt.noConfusion).trans (if_pos ⟨rfl, hrun'.ge⟩)

/-- Settles O12: the link's state decides what a frame does; ageing the requests leaves that state alone. -/
theorem linksComplete : Obligations.LinksComplete := by
  unfold Obligations.LinksComplete
  refine ⟨⟨?_, ?_, ?_, ?_, ?_, ?_, ?_, ?_, ?_, ?_, ?_, ?_, ?_, ?_⟩, ⟨?_, ?_, ?_, ?_, ?_, ?_, ?_⟩⟩
  · -- PREAMP_DOWNSTREAM_FRAME
    intro s a hp h1
    refine ⟨_, next_if (by rw [hp, h1]; rfl), ?_⟩
    unfold plkSend
    dsimp only
    refine ⟨?_, ⟨_, _, ?_, congrArg _ (congrArg _ (codeSent_out ..))⟩, fun b hb => ?_⟩
    all_goals simp only [emit, codeSent_plks, updPlk_plks]
    · rw [vupd_self, refreshPlk_link]
    · rw [vupd_self]
    · exact vupd_ne _ _ hb
  · -- PREAMP_UPSTREAM_FRAME
    intro s a f hp h1 h2
    obtain ⟨q, hq⟩ := tickReqs_plk s a
    refine next_congr ((if_pos (by rw [hp, linkSends_of_up h1]; rfl)).trans ?_)
    have hg : frameGood 0x4B (tickReqs s a.val).plks[a].l f = true := by rw [hq]; exact h2
    have hu : (tickReqs s a.val).plks[a].l.st = .up := by rw [hq]; exact h1
    unfold plkFrame
    simp only [hu, if_true, hg]
  · -- PREAMP_UPSTREAM_FRAME
    intro s a hp h1 h2
    obtain ⟨q, hq⟩ := tickReqs_plk s a
    refine next_congr ((if_pos (by rw [hp, h1]; rfl)).trans ?_)
    have hu : ¬(tickReqs s a.val).plks[a].l.st = .up := by rw [hq]; exact h2
    unfold plkFrame
    simp only [hu, if_false]
    exact updLink_plk ..
  · -- PREAMP_UPSTREAM_FRAME
    intro s a f hp h1 h2 h3 h4 h5
    refine ⟨_, next_congr ((if_pos (by rw [hp, linkSends, h2]; exact Bool.or_true _)).trans
      (plkFrame_up s a f h1 h2 h3 h4 h5)), ?_⟩
    rw [plkUp]
    dsimp only
    rw [updAct_plks, updPlk_plks, vupd_self]
    exact ⟨rfl, rfl, rfl, rfl⟩
  · -- PSL_TX_FRAME
    intro s hp h1
    refine ⟨_, next_if (by rw [hp, h1]; rfl), ?_⟩
    unfold pslSend
    dsimp only
    generalize mkFrame 0x72 _ _ _ = f
    by_cases hv : s.psl.vcmNew = true
    · simp only [hv, if_true]
      exact ⟨rfl, ⟨f, rfl, rfl⟩, rfl⟩
    · simp only [hv]
      exact ⟨rfl, ⟨f, rfl, rfl⟩, rfl⟩
  · -- PSL_RX_FRAME
    intro s f hp h1 h2
    refine next_congr ((if_pos (by rw [hp, linkSends_of_up h1]; rfl)).trans ?_)
    have hg : frameGood 0x8D (tickReqs s 4).psl.l f = true := h2
    have hu : (tickReqs s 4).psl.l.st = .up := h1
    unfold pslFrame
    simp only [hu, if_true, hg]
  · -- PSL_RX_FRAME
    intro s hp h1
    refine next_congr ?_
    simp [hp, h1]
    rfl
  · -- REG_REQUEST_TIMEOUT
    intro s link tag q hp h1 h2 h3 h4
    exact next_congr (by simp [regRequestTimeout, retryReq, hp, h1, h2, h3, h4])
  · -- REG_REQUEST_TIMEOUT
    intro s link tag q hp h1 h2 h3 h4
    exact next_congr (by simp [regRequestTimeout, retryReq, hp, h1, h2, h3, h4])
  · -- LINK_TRAINING_TIMEOUT
    intro s link hp h1 h2 h3 h4
    exact next_congr (by simp [trainTimeout, hp, h1, h2, h3, h4])
  · -- LINK_TRAINING_TIMEOUT
    intro s a hp h1 h2 h3
    refine next_congr ((if_pos (by simp [hp, Nat.lt_succ_of_lt a.isLt])).trans ?_)
    unfold trainTimeout
    simp only [linkOf_plk, updLink_plk]
    rw [if_neg h1, if_neg (by rw [h2]; decide), if_neg (Nat.not_lt.2 h3), if_pos a.isLt]
  · -- LINK_TRAINING_RETRY
    intro s link hp h1 h2 h3
    exact next_congr (by simp [hp, h1, h2, h3])
  · -- PREAMP_LINK_LOST
    intro s a hp h1 h2
    exact next_congr (by simp [hp, h1, h2, -Fin.getElem_fin])
  · -- PSL_LINK_LOST
    intro s u hp h1 h2 h3 h4
    exact next_congr (by simp [hp, h1, h2, h3, h4])
  · -- PLK_GET_STATUS
    intro s r a clear
    refine completes rfl (by simp) ?_
    simp [plkGet]
    rfl
  · -- PSL_GET_STATUS
    intro s r clear
    refine completes rfl (by simp) ?_
    simp [pslGet]
    rfl
  · -- PLK_REG_ACCESS
    intro s r a op addr data h1 h2 h3 h4
    refine defers rfl ?_ ?_
    · show (if _ then Need.db 2 else Need.rd) ≠ .sg
      split <;> decide
    · simp only [plkReg, selAct_val]
      rw [if_neg (by omega), regAccess, linkOf_plk, if_neg (not_not.2 h4), updLink_plk]
  · -- PSL_REG_ACCESS
    intro s r op addr data h1 h2 h3 h4
    refine defers rfl ?_ ?_
    · show (if _ then Need.db 2 else Need.rd) ≠ .sg
      split <;> decide
    · rw [pslReg, if_neg (by omega), regAccess]
      exact if_neg (not_not.2 h4)
  · -- an answer to a message
    intro s k data tag tg q mb h1 h2
    unfold regResponse
    simp only [h1]
    rw [if_neg (by decide), if_pos trivial, endReq]
    simp only [h2]
  · -- LNK_SET_LIMITS
    intro s r ps p h1
    exact completes rfl (by simp) (by simp [lnkLimits, setA, h1, okA_eq])
  · -- PSL_SET_SAFE
    intro s r ps p h1
    exact completes rfl (by simp) (by simp [pslSafe, setA, pslWrite, h1, okA_eq])

end Sys2Proof.Machine
end

section
/-! NVMe I/O commands complete on their own fields (R324, R327, R348, R349). -/

namespace Sys2Proof.Machine

theorem nlbOf_pos {s : State} {t : Tag} {r : TagRec} {o : Nat} (h : IoReady s t r o) : nlbOf s.quay.sas r.cmd ≠ 0 := by
  rw [nlbOf, h.nvme]
  exact Nat.succ_ne_zero _

theorem takesRange_of_ready {s : State} {t : Tag} {r : TagRec} {o : Nat} {n : Ns} (h : IoReady s t r o)
    (hn : nsAt s (nsidOf s r) = some n) :
    takesRange s r = (n.zoned && [IoOp.write, .zeroes, .append].contains (ioOp false r.cmd)) := by
  rw [takesRange, isZoned_of_nsAt hn, opOf_of_ready h]

/-- Settles O19: a ready command whose checks hold acts (`ioRow_acts`), and its opcode says what it does. -/
theorem nvmeIoComplete : Obligations.NvmeIoComplete := by
  unfold Obligations.NvmeIoComplete
  refine ⟨?_, ?_, ?_, ?_, ?_, ?_, ?_, ?_, ?_, ?_, ?_, ?_, ?_, ?_, ?_, ?_⟩
  · -- READ
    intro s t r h hc
    have ho : ioOp false r.cmd = .read := by rw [ioOp, h.opcode]; rfl
    refine next_congr ((ioRow_acts h hc (decide_eq_true h.opcode) ho (by decide) (by decide)).trans ?_)
    rw [ioAct, opOf_of_ready h, ho]
  · -- VERIFY
    intro s t r h hc
    have ho : ioOp false r.cmd = .verify := by rw [ioOp, h.opcode]; rfl
    refine next_congr ((ioRow_acts h hc (decide_eq_true h.opcode) ho (by decide) (by decide)).trans ?_)
    rw [ioAct, opOf_of_ready h, ho]
  · -- what a read looks up
    intro s s1 s2 r n srcs ops hn ho h1 h2 h3 h4
    rw [readAct, hn]
    subst h1 h2 h3 h4
    rw [ho]
    rfl
  · -- WRITE
    intro s t r n h hc hn hz hb hd
    have ho : ioOp false r.cmd = .write := by rw [ioOp, h.opcode]; rfl
    refine next_congr ((ioRow_acts h hc (decide_eq_true h.opcode) ho (by decide) (by decide)).trans ?_)
    rw [ioAct, opOf_of_ready h, ho]
    dsimp only
    rw [writeAct, hn]
    dsimp only
    rw [if_neg (fun hx => nlbOf_pos h hx.1)]
    rw [takesRange_of_ready h hn, hz, Bool.false_and, if_neg Bool.false_ne_true, opOf_of_ready h, ho]
    exact if_neg (by simp [hb, hd])
  · -- WRITE
    intro s t r n h hc hn hz hb
    have ho : ioOp false r.cmd = .write := by rw [ioOp, h.opcode]; rfl
    refine next_congr ((ioRow_acts h hc (decide_eq_true h.opcode) ho (by decide) (by decide)).trans ?_)
    rw [ioAct, opOf_of_ready h, ho]
    dsimp only
    rw [writeAct, hn]
    dsimp only
    rw [if_neg (fun hx => nlbOf_pos h hx.1)]
    rw [takesRange_of_ready h hn, hz, Bool.false_and, if_neg Bool.false_ne_true, opOf_of_ready h, ho]
    exact if_pos hb
  · -- WRITE
    intro s t r n h hc hn hz
    have ho : ioOp false r.cmd = .write := by rw [ioOp, h.opcode]; rfl
    refine next_congr ((ioRow_acts h hc (decide_eq_true h.opcode) ho (by decide) (by decide)).trans ?_)
    rw [ioAct, opOf_of_ready h, ho]
    dsimp only
    rw [writeAct, hn]
    dsimp only
    rw [if_neg (fun hx => nlbOf_pos h hx.1)]
    rw [takesRange_of_ready h hn, hz, ho]
    rfl
  · -- WRITE_ZEROES
    intro s t r n h hc hn hz
    have ho : ioOp false r.cmd = .zeroes := by rw [ioOp, h.opcode]; rfl
    refine next_congr ((ioRow_acts h hc (decide_eq_true h.opcode) ho (by decide) (by decide)).trans ?_)
    rw [ioAct, opOf_of_ready h, ho]
    dsimp only
    rw [writeAct, hn]
    dsimp only
    rw [if_neg (fun hx => nlbOf_pos h hx.1)]
    rw [takesRange_of_ready h hn, hz, Bool.false_and, if_neg Bool.false_ne_true, opOf_of_ready h, ho]
  · -- DATASET_MANAGEMENT
    intro s t r n h hc hn hz hb
    have ho : opOf s r = .dealloc := (opOf_of_ready h).trans (by rw [ioOp, h.opcode]; rfl)
    refine next_congr ((ioRow_of_ready h (decide_eq_true h.opcode)).trans ?_)
    rw [ioAdmit_checks (by simp [ho]), admitCmd_of_clear hc, noEffect, hb, Bool.not_true, Bool.and_false, if_neg Bool.false_ne_true]
    rw [ioAct, ho]
    dsimp only
    rw [writeAct, hn]
    dsimp only
    rw [if_neg (fun hx => hx.2 ho), takesRange_of_ready h hn, hz, Bool.false_and, if_neg Bool.false_ne_true, ho]
  · -- ZONE_APPEND
    intro s t r n h hc hn hz
    have ho : ioOp false r.cmd = .append := by rw [ioOp, h.opcode]; rfl
    refine next_congr ((ioRow_acts h hc (decide_eq_true h.opcode) ho (by decide) (by decide)).trans ?_)
    rw [ioAct, opOf_of_ready h, ho]
    dsimp only
    rw [writeAct, hn]
    dsimp only
    rw [if_neg (fun hx => nlbOf_pos h hx.1)]
    rw [takesRange_of_ready h hn, hz, ho]
    rfl
  · -- where an append starts
    intro s s1 r n f ho h1 hf
    rw [zonedAct, ho]
    dsimp only
    rw [if_pos rfl, h1]
    subst hf
    rfl
  · -- FLUSH
    intro s t r h hc
    have ho : opOf s r = .flush := (opOf_of_ready h).trans (by rw [ioOp, h.opcode]; rfl)
    refine next_congr ((ioRow_of_ready h (decide_eq_true h.opcode)).trans ?_)
    by_cases hall : r.cmd.nsid = 0xFFFFFFFF
    · exact if_pos ⟨ho, by rw [h.nvme]; rfl, hall⟩
    · have hc := hc.resolve_left hall
      rw [ioAdmit_checks fun hx => hall hx.2.2, admitCmd_of_clear hc, noEffect_of_op (by rw [ho]; decide), ioAct, ho]
      rfl
  · -- RESERVATION_REGISTER
    intro s t r h hc
    have ho : ioOp false r.cmd = .other := by rw [ioOp, h.opcode]; rfl
    refine next_congr ((ioRow_acts h hc (decide_eq_true h.opcode) ho (by decide) (by decide)).trans ?_)
    rw [ioAct, opOf_of_ready h, ho]
    dsimp only
    rw [if_neg (by rw [h.opcode]; decide), rsvAct, whoOf, h.nvme]
    dsimp only
    rw [h.opcode]
    rfl
  · -- RESERVATION_ACQUIRE
    intro s t r h hc
    have ho : ioOp false r.cmd = .other := by rw [ioOp, h.opcode]; rfl
    refine next_congr ((ioRow_acts h hc (decide_eq_true h.opcode) ho (by decide) (by decide)).trans ?_)
    rw [ioAct, opOf_of_ready h, ho]
    dsimp only
    rw [if_neg (by rw [h.opcode]; decide), rsvAct, whoOf, h.nvme]
    dsimp only
    rw [h.opcode]
    rfl
  · -- RESERVATION_RELEASE
    intro s t r h hc
    have ho : ioOp false r.cmd = .other := by rw [ioOp, h.opcode]; rfl
    refine next_congr ((ioRow_acts h hc (decide_eq_true h.opcode) ho (by decide) (by decide)).trans ?_)
    rw [ioAct, opOf_of_ready h, ho]
    dsimp only
    rw [if_neg (by rw [h.opcode]; decide), rsvAct, whoOf, h.nvme]
    dsimp only
    rw [h.opcode]
    rfl
  · -- RESERVATION_REPORT
    intro s t r h hc
    have ho : ioOp false r.cmd = .other := by rw [ioOp, h.opcode]; rfl
    refine next_congr ((ioRow_acts h hc (decide_eq_true h.opcode) ho (by decide) (by decide)).trans ?_)
    rw [ioAct, opOf_of_ready h, ho]
    dsimp only
    rw [if_neg (by rw [h.opcode]; decide), rsvAct, whoOf, h.nvme]
    dsimp only
    rw [h.opcode]
    rfl
  · -- REPORT_ZONES
    intro s t r n h hc hn hz hl ha hp
    have ho : ioOp false r.cmd = .other := by rw [ioOp, h.opcode]; rfl
    refine next_congr ((ioRow_acts h hc (decide_eq_true h.opcode) ho (by decide) (by decide)).trans ?_)
    rw [ioAct, opOf_of_ready h, ho]
    dsimp only
    rw [if_pos h.opcode, reportAct, hn]
    dsimp only
    rw [if_neg (by simp [hz]), if_neg (Nat.not_le.2 hl), if_neg (by omega)]

end Sys2Proof.Machine
end

section
/-! Zone management commands (R253, R258, R259, R324, R327). -/

namespace Sys2Proof.Machine

/-- A zone action on the zones named acts where the zones take it. -/
theorem ioAct_zone {s s1 : State} {t : Tag} {r : TagRec} {n : Ns} {a : Nat} (h : IoReady s t r 0x79)
    (hn : nsAt s (nsidOf s r) = some n) (ha : zoneAction r.cmd = a) (h1 : 0 < a ∧ a ≤ 4)
    (hz : zonesUnder a n (zonesNamed s n r.cmd) s = .ok s1) : ioAct s r = finishOk s1 r.tag := by
  have ho : ioOp false r.cmd = .zone := by rw [ioOp, h.opcode]; rfl
  rw [ioAct, opOf_of_ready h, ho]
  dsimp only
  rw [zoneAct, hn]
  dsimp only
  rw [ha, if_neg (by omega), hz]

/-- The row of a zone action is the act itself. -/
theorem ioRow_zone {s : State} {t : Tag} {r : TagRec} {p : HostCmd → Bool} (h : IoReady s t r 0x79) (hc : IoClear s r)
    (hp : p r.cmd = true) : ioRow s t p = ioAct s r :=
  ioRow_acts h hc hp (op := .zone) (by rw [ioOp, h.opcode]; rfl) (by decide) (by decide)

/-- Settles O20: a ready zone command acts (`ioRow_zone`), and the zone's state says what the action does to it. -/
theorem zoneCommandsComplete : Obligations.ZoneCommandsComplete := by
  unfold Obligations.ZoneCommandsComplete
  refine ⟨?_, ?_, ?_, ?_, ?_, ?_, ?_, ?_, ?_, ?_⟩
  · -- ZONE_OPEN
    intro s s1 t r n h hc hn ha hz
    have hp : (decide (r.cmd.opc = 0x79) && decide (zoneAction r.cmd = 3)) = true := by rw [h.opcode, ha]; rfl
    exact next_congr ((ioRow_zone h hc hp).trans (ioAct_zone h hn ha (by decide) hz))
  · -- ZONE_CLOSE
    intro s s1 t r n h hc hn ha hz
    have hp : (decide (r.cmd.opc = 0x79) && decide (zoneAction r.cmd = 1)) = true := by rw [h.opcode, ha]; rfl
    exact next_congr ((ioRow_zone h hc hp).trans (ioAct_zone h hn ha (by decide) hz))
  · -- ZONE_FINISH
    intro s s1 t r n h hc hn ha hz
    have hp : (decide (r.cmd.opc = 0x79) && decide (zoneAction r.cmd = 2)) = true := by rw [h.opcode, ha]; rfl
    exact next_congr ((ioRow_zone h hc hp).trans (ioAct_zone h hn ha (by decide) hz))
  · -- ZONE_RESET
    intro s s1 t r n h hc hn ha hz
    have hp : (decide (r.cmd.opc = 0x79) && decide (zoneAction r.cmd = 4)) = true := by rw [h.opcode, ha]; rfl
    exact next_congr ((ioRow_zone h hc hp).trans (ioAct_zone h hn ha (by decide) hz))
  · -- ZONE_OFFLINE
    intro s t r n h hc hn ha
    have ho : ioOp false r.cmd = .zone := by rw [ioOp, h.opcode]; rfl
    refine next_congr ((ioRow_zone h hc (by simpa [h.opcode] using ha)).trans ?_)
    rw [ioAct, opOf_of_ready h, ho]
    dsimp only
    rw [zoneAct, hn]
    exact if_pos ha
  · -- what closing a zone does
    intro s z h
    rw [zoneCloseOne, h]
  · -- a read-only zone
    intro s n z h
    refine ⟨?_, ?_, ?_, ?_⟩
    · rw [zoneOpenOne, h]
    · rw [zoneCloseOne, h]
    · rw [zoneFinishOne, h]
    · rw [zoneResetOne, h]
  · -- a zone whose write tail has no room
    intro s n z h hc ht
    have hopen : zoneOpenOne s n z = openZone s n z .expOpen := by
      obtain h | h | h := h <;> rw [zoneOpenOne, h]
    rw [hopen, openZone, hc, if_neg Bool.false_ne_true, if_pos ht]
  · -- what resetting a zone does
    intro s z h
    obtain h | h | h | h := h <;> rw [zoneResetOne, h]
  · -- what finishing a zone does
    intro s n z h
    obtain h | h | h | h := h <;> rw [zoneFinishOne, h]

end Sys2Proof.Machine
end

section
/-! NVMe I/O commands are checked before they run (R13, R341, R348, R349). -/

namespace Sys2Proof.Machine

/-- The I/O commands but the zone actions are rows by their opcode. -/
theorem exec_ioRow (s : State) (t : Tag) (x : Instr × Nat)
    (hx : x ∈ [(Instr.read t, 0x02), (.write t, 0x01), (.flush t, 0x00), (.writeZeroes t, 0x08), (.datasetManagement t, 0x09),
      (.verify t, 0x0C), (.reservationRegister t, 0x0D), (.reservationReport t, 0x0E), (.reservationAcquire t, 0x11),
      (.reservationRelease t, 0x15), (.zoneAppend t, 0x7D), (.reportZones t, 0x7A)]) :
    exec x.1 s = .next (ioRow s t fun c => decide (c.opc = x.2)) := by
  fin_cases hx <;> rfl

/-- Settles O21: all these commands are rows of `ioRow`, which goes through `admitCmd`. -/
theorem nvmeIoChecked : Obligations.NvmeIoChecked := by
  unfold Obligations.NvmeIoChecked
  intro s t r x hx h hns
  have hrow : exec x.1 s = .next (admitCmd s r (ioCheck s r) fun s r => if noEffect s r then finishOk s r.tag else ioAct s r) := by
    rw [exec_ioRow s t x hx, ioRow_of_ready h (decide_eq_true h.opcode), ioAdmit_checks fun hf => hns hf.2.2]
  constructor
  · intro e he
    rw [hrow, he, admitCmd]
  · intro he hw
    rw [hrow, he, admitCmd]
    exact next_congr (if_pos hw)

end Sys2Proof.Machine
end

section
/-! NVMe admin commands (R310 to R352, R488, R509). -/

namespace Sys2Proof.Machine

/-- Settles O22: a ready admin command acts (`adminRow_opcode`, `adminRow_operand`), and its operands choose the branch. -/
theorem nvmeAdminComplete : Obligations.NvmeAdminComplete := by
  unfold Obligations.NvmeAdminComplete
  refine ⟨?_, ?_, ?_, ?_, ?_, ?_, ?_, ?_, ?_, ?_, ?_, ?_, ?_, ?_, ?_, ?_, ?_, ?_, ?_, ?_, ?_, ?_, ?_, ?_, ?_, ?_⟩
  · -- CREATE_IO_CQ
    intro s t r h h1 h2 h3 h4 h5 h6 h7
    refine next_congr ((adminRow_opcode h _).trans ?_)
    rw [createCqAct]
    dsimp only
    rw [h3, if_neg (by simp [h1, h2]), if_neg h4, h5, if_neg (by decide), if_neg (Nat.not_le.2 h6), if_neg (not_not.2 h7)]
  · -- CREATE_IO_SQ
    intro s t r m h h1 h2 h3 h4 h5 h6 h7 h8 h9 h10
    refine next_congr ((adminRow_opcode h _).trans ?_)
    rw [createSqAct]
    dsimp only
    rw [h3]
    dsimp only
    rw [if_neg (by simp [h1, h2, h4]), if_neg (by simp [h5, h6, h7]), if_neg h8, h9, if_neg (by decide), if_neg (not_not.2 h10)]
  · -- DELETE_IO_SQ
    intro s t r m h h1 h2 h3 h4
    refine next_congr ((adminRow_opcode h _).trans ?_)
    rw [deleteSqAct]
    dsimp only
    rw [h2]
    dsimp only
    rw [if_neg (by simp [h1, h3, h4])]
  · -- DELETE_IO_CQ
    intro s t r m h h1 h2 h3 h4
    refine next_congr ((adminRow_opcode h _).trans ?_)
    rw [deleteCqAct]
    dsimp only
    rw [h2]
    dsimp only
    rw [if_neg (by simp [h1, h3]), h4, if_neg Bool.false_ne_true]
  · -- IDENTIFY
    intro s t r x h h1
    refine next_congr ((adminRow_opcode h _).trans ?_)
    rw [identifyAct, h1]
  · -- GET_LOG_PAGE
    intro s t r x h h1 h2
    have hq : (!namesTally r.cmd) = true := by simp [namesTally, h1]
    refine next_congr ((adminRow_operand h hq _).trans ?_)
    rw [logAct, h2]
  · -- GET_LOG_PAGE_TALLY
    intro s t r f h h1 h2
    have hq : namesTally r.cmd = true := decide_eq_true h1
    refine next_congr ((adminRow_operand h hq _).trans ?_)
    rw [tallyLogAct, h2]
  · -- SET_FEATURES
    intro s t r h h1 h2
    have hq : decide (r.cmd.dw10 % 256 ≠ 0x0E) = true := by rw [h2]; rfl
    refine next_congr ((adminRow_operand h hq _).trans ?_)
    rw [setFeatAct, h1, h2]
    rfl
  · -- SET_FEATURES
    intro s t r h h1 h2
    refine next_congr ((adminRow_operand h (decide_eq_true h1) _).trans ?_)
    rw [setFeatAct]
    exact if_pos h2
  · -- SET_FEATURES_TIMESTAMP
    intro s t r h h1 h2
    refine ⟨_, next_congr ((adminRow_operand h (decide_eq_true h2) _).trans (if_neg (by rw [h1]; decide))), ?_⟩
    simp [onMs, msecOf]
  · -- GET_FEATURES
    intro s t r h h1 h2
    refine next_congr ((adminRow_opcode h _).trans ?_)
    rw [getFeatAct, h1, h2]
    rfl
  · -- ASYNC_EVENT_REQUEST
    intro s t r h h1
    refine next_congr ((adminRow_opcode h _).trans ?_)
    rw [aerAct, h1]
    rfl
  · -- ASYNC_EVENT_REQUEST
    intro s t r h h1
    refine next_congr ((adminRow_opcode h _).trans ?_)
    exact if_pos h1
  · -- ABORT
    intro s t r h
    exact next_congr (adminRow_opcode h _)
  · -- NAMESPACE_MANAGEMENT_CREATE
    intro s t r id h h1 h2 h3
    have hact : ∃ n : Ns, nsCreateAct s r = finishOk (newKey (updNv s fun v =>
        { v with namespaces := v.namespaces ++ [n] }) id false) r.tag id ∧
        n.nsid = id ∧ n.size = leNat (r.cmd.data.take 8) ∧ n.zoned = decide (r.cmd.dw11 / 2 ^ 24 % 256 = 2) ∧
        n.layout = s.brtPar.defLayout ∧ n.attached = [] := by
      rw [nsCreateAct, h2, h3]
      exact ⟨_, rfl, rfl, rfl, rfl, rfl, rfl⟩
    obtain ⟨n, hn, hrest⟩ := hact
    exact ⟨n, next_congr ((adminRow_operand h (decide_eq_true h1) _).trans hn), hrest⟩
  · -- NAMESPACE_MANAGEMENT_DELETE
    intro s t r n h h1 h2 h3
    have hq : decide (r.cmd.dw10 % 16 ≠ 0) = true := by rw [h1]; rfl
    refine next_congr ((adminRow_operand h hq _).trans ?_)
    rw [nsDeleteAct, namedNs, if_neg (not_not.2 h1), if_neg h2, h3]
    rfl
  · -- NAMESPACE_ATTACH
    intro s t r n h h1 h2 h3 h4 h5
    have hq : decide (r.cmd.dw10 % 16 ≠ 1) = true := by rw [h1]; rfl
    refine next_congr ((adminRow_operand h hq _).trans ?_)
    rw [attachAct, h2]
    dsimp only
    rw [if_neg (not_not.2 h1), if_neg (by simp [h3, h4]), h5]
    rfl
  · -- NAMESPACE_DETACH
    intro s t r n h h1 h2 h3 h4 h5
    refine next_congr ((adminRow_operand h (decide_eq_true h1) _).trans ?_)
    rw [detachAct, h2]
    dsimp only
    rw [if_neg (by simp [h3, h4]), h5]
    rfl
  · -- FIRMWARE_IMAGE_DOWNLOAD
    intro s t r h h1
    refine next_congr ((adminRow_opcode h _).trans ?_)
    exact if_neg (Nat.not_lt.2 h1)
  · -- VIRTUALIZATION_MANAGEMENT
    intro s t r v h h1 h2 h3 h4
    refine next_congr ((adminRow_opcode h _).trans ?_)
    rw [virtAct]
    dsimp only
    rw [h1, h2]
    exact (if_neg (by decide)).trans (if_neg (not_or.2 ⟨Nat.not_lt.2 h3, Nat.not_lt.2 h4⟩))
  · -- VIRTUALIZATION_MANAGEMENT
    intro s t r v h h1 h2
    refine next_congr ((adminRow_opcode h _).trans ?_)
    rw [virtAct]
    dsimp only
    rw [h1, h2]
    rfl
  · -- FORMAT_NVM
    intro s t r n h h1 h2 h3 h4 h5 h6
    refine next_congr ((adminRow_opcode h _).trans ?_)
    rw [formatAct, namedNs, if_neg h1, h2, h4, h5]
    dsimp only [Option.toList]
    rw [if_neg (Nat.not_lt.2 h3), if_neg (by simp), if_neg (fun hx => hx.1 rfl), if_neg (by simp [h6])]
    rfl
  · -- SANITIZE_CRYPTO_ERASE
    intro s t r h h1
    refine next_congr ((adminRow_opcode h _).trans ?_)
    exact if_neg (not_not.2 h1)
  · -- SANITIZE_CRYPTO_ERASE
    intro s t r h h1
    refine next_congr ((adminRow_opcode h _).trans ?_)
    exact if_pos h1
  · -- GET_LBA_STATUS
    intro s t r n rs room h h1 h2 h3 h4 h5
    refine next_congr ((adminRow_opcode h _).trans ?_)
    rw [lbaStatusAct, h1]
    subst h4 h5
    exact (if_neg (not_not.2 h2)).trans (if_neg (Nat.not_le.2 h3))
  · -- DEVICE_SELF_TEST
    intro s t r h h1
    refine next_congr ((adminRow_opcode h _).trans ?_)
    rw [selfTestAct, h1]
    rfl

end Sys2Proof.Machine
end

section
/-! SCSI commands without blocks (R308 to R355, R488, R489, R526). -/

namespace Sys2Proof.Machine

/-- Settles O23: a frame granted at once acts in the same step (`sasRow_acts`), and its opcode says what it does. -/
theorem scsiCommandsComplete : Obligations.ScsiCommandsComplete := by
  unfold Obligations.ScsiCommandsComplete
  refine ⟨?_, ?_, ?_, ?_, ?_, ?_, ?_, ?_, ?_, ?_, ?_, ?_, ?_, ?_, ?_, ?_, ?_, ?_, ?_⟩
  · -- INQUIRY
    intro s u lu c t r h hc
    have ho : r.cmd.opc = 0x12 := h.opcode
    refine next_congr (sasRow_acts h hc rfl rfl (show (0x12 : Nat) ≠ 0xB5 by decide) ?_)
    simp only [sasAct, ho]
    rw [h.func_eq]
  · -- REPORT_LUNS
    intro s u lu c t r h hc
    have ho : r.cmd.opc = 0xA0 := h.opcode
    refine next_congr (sasRow_acts h hc rfl rfl (show (0xA0 : Nat) ≠ 0xB5 by decide) ?_)
    simp only [sasAct, ho]
  · -- TEST_UNIT_READY
    intro s u lu c t r h hc
    have ho : r.cmd.opc = 0x00 := h.opcode
    refine next_congr (sasRow_acts h hc rfl rfl (show (0x00 : Nat) ≠ 0xB5 by decide) ?_)
    simp only [sasAct, ho]
    rw [h.tag_eq]
  · -- REQUEST_SENSE
    intro s u lu c t r h hc
    have ho : r.cmd.opc = 0x03 := h.opcode
    refine next_congr (sasRow_acts h hc rfl rfl (show (0x03 : Nat) ≠ 0xB5 by decide) ?_)
    simp only [sasAct, ho]
    rw [h.func_eq]
  · -- READ_CAPACITY16
    intro s u lu c t r n h hc hn
    have ho : r.cmd.opc = 0x9E := h.opcode
    refine next_congr (sasRow_acts h hc rfl rfl (show (0x9E : Nat) ≠ 0xB5 by decide) ?_)
    simp only [sasAct, ho]
    rw [h.func_eq, hn]
  · -- FORMAT_UNIT
    intro s u lu c t r n p h hc hn hp h64
    have ho : r.cmd.opc = 0x04 := h.opcode
    refine next_congr (sasRow_acts h hc rfl rfl (show (0x04 : Nat) ≠ 0xB5 by decide) ?_)
    simp only [sasAct, ho]
    rw [formatUnit, h.func_eq, hn, hp, h.tag_eq]
    exact if_neg fun hx => h64.elim hx.1 (Nat.not_lt.2 hx.2)
  · -- SCSI_SANITIZE
    intro s u lu c t r n h hc hn ha
    have ho : r.cmd.opc = 0x48 := h.opcode
    refine next_congr (sasRow_acts h hc rfl rfl (show (0x48 : Nat) ≠ 0xB5 by decide) ?_)
    simp only [sasAct, ho]
    rw [sanitizeUnit, h.func_eq, hn, h.tag_eq]
    exact if_pos ha
  · -- MODE_SENSE10
    intro s u lu c t r d h hc hd
    have ho : r.cmd.opc = 0x5A := h.opcode
    refine next_congr (sasRow_acts h hc rfl rfl (show (0x5A : Nat) ≠ 0xB5 by decide) ?_)
    simp only [sasAct, ho]
    rw [h.func_eq, hd, giveOr]
  · -- MODE_SELECT10
    intro s u lu c t r ps h hc hl hp
    have ho : r.cmd.opc = 0x55 := h.opcode
    refine next_congr (sasRow_acts h hc rfl rfl (show (0x55 : Nat) ≠ 0xB5 by decide) ?_)
    simp only [sasAct, ho]
    unfold modeSelect
    dsimp only
    rw [if_neg (fun hx => by rw [hx] at hl; exact absurd hl (Nat.not_le.2 (Nat.lt_of_lt_of_le (by decide) (Nat.le_add_right 8 _))))]
    rw [if_neg (Nat.not_lt.2 hl), hp, h.func_eq, h.tag_eq]
  · -- LOG_SENSE
    intro s u lu c t r d h hc hd
    have ho : r.cmd.opc = 0x4D := h.opcode
    refine next_congr (sasRow_acts h hc rfl rfl (show (0x4D : Nat) ≠ 0xB5 by decide) ?_)
    simp only [sasAct, ho]
    rw [h.func_eq, hd, giveOr]
  · -- START_STOP_UNIT
    intro s u lu c t r h hc
    have ho : r.cmd.opc = 0x1B := h.opcode
    refine next_congr (sasRow_acts h hc rfl rfl (show (0x1B : Nat) ≠ 0xB5 by decide) ?_)
    simp only [sasAct, ho]
    rw [h.func_eq, h.tag_eq]
  · -- READ_BUFFER
    intro s u lu c t r h hc
    have ho : r.cmd.opc = 0x3C := h.opcode
    refine next_congr (sasRow_acts h hc rfl rfl (show (0x3C : Nat) ≠ 0xB5 by decide) ?_)
    simp only [sasAct, ho]
  · -- SECURITY_PROTOCOL_IN
    intro s u lu c t r h hc
    have ho : r.cmd.opc = 0xA2 := h.opcode
    refine next_congr (sasRow_acts h hc rfl rfl (show (0xA2 : Nat) ≠ 0xB5 by decide) ?_)
    simp only [sasAct, ho]
  · -- PERSISTENT_RESERVE_IN
    intro s u lu c t r b h hc hb
    have ho : r.cmd.opc = 0x5E := h.opcode
    refine next_congr (sasRow_acts h hc rfl rfl (show (0x5E : Nat) ≠ 0xB5 by decide) ?_)
    simp only [sasAct, ho]
    rw [hb]
  · -- PERSISTENT_RESERVE_OUT
    intro s u lu c t r y h hc hy
    have ho : r.cmd.opc = 0x5F := h.opcode
    refine next_congr (sasRow_acts h hc rfl rfl (show (0x5F : Nat) ≠ 0xB5 by decide) ?_)
    simp only [sasAct, ho]
    rw [prOutAct, hy, h.func_eq, h.tag_eq]
  · -- SCSI_REPORT_ZONES
    intro s u lu c t r n h hc hn hz hl
    have ho : r.cmd.opc = 0x95 := h.opcode
    refine next_congr (sasRow_acts h hc rfl rfl (show (0x95 : Nat) ≠ 0xB5 by decide) ?_)
    simp only [sasAct, ho]
    rw [h.func_eq, hn]
    dsimp only
    rw [hz]
    exact (if_neg (by decide)).trans (if_neg (Nat.not_le.2 hl))
  · -- WRITE_BUFFER_MODE0E
    intro s u lu c t r h hc
    have ho : r.cmd.opc = 0x3B := h.opcode
    refine next_congr (sasRow_acts h hc rfl rfl (show (0x3B : Nat) ≠ 0xB5 by decide) ?_)
    simp only [sasAct, ho]
  · -- WRITE_BUFFER_MODE0F
    intro s u lu c t r h hc
    have ho : r.cmd.opc = 0x3B := h.opcode
    refine next_congr (sasRow_acts h hc rfl rfl (show (0x3B : Nat) ≠ 0xB5 by decide) ?_)
    simp only [sasAct, ho]
  · -- WRITE_BUFFER_MODE07
    intro s u lu c t r h hc
    have ho : r.cmd.opc = 0x3B := h.opcode
    refine next_congr (sasRow_acts h hc rfl rfl (show (0x3B : Nat) ≠ 0xB5 by decide) ?_)
    simp only [sasAct, ho]

end Sys2Proof.Machine
end

section
/-! SCSI block commands (R16, R253 to R262, R342, R348, R349). -/

namespace Sys2Proof.Machine

/-- Settles O24: a frame granted at once does what its NVMe counterpart does (`sasRow_io`). -/
theorem scsiBlocksComplete : Obligations.ScsiBlocksComplete := by
  unfold Obligations.ScsiBlocksComplete
  refine ⟨?_, ?_, ?_, ?_, ?_, ?_, ?_, ?_, ?_, ?_⟩
  · -- READ16
    intro s u lu c t r h hc hi
    refine next_congr (sasRow_io h hc hi (op := .read) rfl (by decide) ?_)
    rw [ioAct, show opOf u r = .read from h.opOf_eq]
  · -- WRITE16
    intro s u lu c t r h hc hi
    refine next_congr (sasRow_io h hc hi (op := .write) rfl (by decide) ?_)
    rw [ioAct, show opOf u r = .write from h.opOf_eq]
  · -- VERIFY16
    intro s u lu c t r h hc hi
    refine next_congr (sasRow_io h hc hi (op := .verify) rfl (by decide) ?_)
    rw [ioAct, show opOf u r = .verify from h.opOf_eq]
  · -- SYNCHRONIZE_CACHE16
    intro s u lu c t r h hc hi
    refine next_congr (sasRow_io h hc hi (op := .flush) rfl (by decide) ?_)
    rw [ioAct, show opOf u r = .flush from h.opOf_eq]
    rw [h.tag_eq]
  · -- UNMAP
    intro s u lu c t r h hc hi
    refine next_congr (sasRow_io h hc hi (op := .dealloc) rfl (by decide) ?_)
    rw [ioAct, show opOf u r = .dealloc from h.opOf_eq]
  · -- RESET_WRITE_POINTER
    intro s u lu c t r h hc hi
    refine next_congr (sasRow_io h hc hi (op := .zone) rfl (by decide) ?_)
    rw [ioAct, show opOf u r = .zone from h.opOf_eq]
  · -- OPEN_ZONE
    intro s u lu c t r h hc hi
    refine next_congr (sasRow_io h hc hi (op := .zone) rfl (by decide) ?_)
    rw [ioAct, show opOf u r = .zone from h.opOf_eq]
  · -- CLOSE_ZONE
    intro s u lu c t r h hc hi
    refine next_congr (sasRow_io h hc hi (op := .zone) rfl (by decide) ?_)
    rw [ioAct, show opOf u r = .zone from h.opOf_eq]
  · -- FINISH_ZONE
    intro s u lu c t r h hc hi
    refine next_congr (sasRow_io h hc hi (op := .zone) rfl (by decide) ?_)
    rw [ioAct, show opOf u r = .zone from h.opOf_eq]
  · -- a zone action
    intro s s1 r n hn h1 h4 hz
    rw [zoneAct, hn]
    dsimp only
    rw [if_neg (by omega), hz]

end Sys2Proof.Machine
end

section
/-! SCSI mailbox and microcode commands, and the answers before a SCSI command runs (R345, R418, R489). -/

namespace Sys2Proof.Machine

/-- SECURITY PROTOCOL OUT waits for its method. -/
theorem sasRow_waits {s u : State} {f : Fn} {c : HostCmd} {t : Tag} {r : TagRec}
    (h : SasGranted s f { c with opc := 0xB5 } t u r) (hc : SasClear u r) :
    sasRow s f { c with opc := 0xB5 } = refresh (updTag u t fun x => { x with stage := 2 }) := by
  have hop : opOf u r = .other := h.opOf_eq
  rw [sasRow_granted h, sasRun, hc.1]
  dsimp only
  rw [if_neg (not_not.2 hop), hc.2, if_neg Bool.false_ne_true, sasBody, if_neg (not_not.2 hop), if_pos h.opcode, h.tag_eq]

/-- Before admission a frame is answered early. -/
theorem sasRow_boot {s : State} {f : Fn} {c : HostCmd} (h1 : s.quay.disabled = false) (h2 : s.quay.sas = true)
    (h3 : s.bw.started = false) (h4 : s.phase = .boot) : sasRow s f c = sasEarly s f c := by
  rw [sasRow, if_neg (by simp [h1, h2, h3]), if_neg (by rw [h4]; decide)]
  exact if_pos (.inl h4)

/-- Settles O25: a granted frame acts (`sasRow_acts`) or waits for its method; one before admission is answered at once. -/
theorem scsiMailboxAndEarlyAnswers : Obligations.ScsiMailboxAndEarlyAnswers := by
  unfold Obligations.ScsiMailboxAndEarlyAnswers
  refine ⟨⟨?_, ?_, ?_, ?_, ?_, ?_⟩, ⟨?_, ?_, ?_⟩⟩
  · -- SECURITY_PROTOCOL_OUT
    intro s u lu c m t r x h hc hw hx hl hb
    refine next_congr ?_
    dsimp only
    rw [hw, Option.isSome_none, if_neg Bool.false_ne_true, sasRow_waits h hc, hx]
    dsimp only
    rw [hl, hb]
    rfl
  · -- what the method does
    intro s r m h1 h2 h3
    rw [securityOut, if_neg (not_not.2 h1), h2, h3]
    rfl
  · -- MAILBOX_SEND
    intro s u lu port c t r h hc h1 h2 h3
    have ho : r.cmd.opc = 0xC0 := h.opcode
    refine next_congr (sasRow_acts h hc rfl rfl (show (0xC0 : Nat) ≠ 0xB5 by decide) ?_)
    simp only [sasAct, ho]
    unfold sendAct
    dsimp only
    rw [h.tag_eq]
    rw [if_neg (by omega), if_neg h3]
  · -- MAILBOX_SEND
    intro s u lu port c t r h hc h1 h2 h3
    have ho : r.cmd.opc = 0xC0 := h.opcode
    refine next_congr (sasRow_acts h hc rfl rfl (show (0xC0 : Nat) ≠ 0xB5 by decide) ?_)
    simp only [sasAct, ho]
    unfold sendAct
    dsimp only
    rw [h.tag_eq]
    rw [if_neg (by omega), if_pos h3]
  · -- MAILBOX_RECEIVE
    intro s u lu port c t r h hc h1 h2
    have ho : r.cmd.opc = 0xC1 := h.opcode
    refine next_congr (sasRow_acts h hc rfl rfl (show (0xC1 : Nat) ≠ 0xB5 by decide) ?_)
    simp only [sasAct, ho]
    rw [h1, if_neg Bool.false_ne_true, receiveAct]
    exact if_neg h2
  · -- MAILBOX_RECEIVE_NOTIFY
    intro s u lu port c t r n h hc h1 h2 h3
    have ho : r.cmd.opc = 0xC1 := h.opcode
    refine next_congr (sasRow_acts h hc rfl rfl (show (0xC1 : Nat) ≠ 0xB5 by decide) ?_)
    simp only [sasAct, ho]
    rw [h1, if_pos rfl, receiveNtf]
    dsimp only
    rw [h2, if_neg h3]
  · -- TEST_UNIT_READY
    intro s lu c h1 h2 h3 h4
    exact ⟨next_congr (sasRow_boot h1 h2 h3 h4), next_congr (sasRow_boot h1 h2 h3 h4), next_congr (sasRow_boot h1 h2 h3 h4)⟩
  · -- TEST_UNIT_READY
    intro s lu c h1 h2 h3 h4
    refine next_congr ?_
    rw [sasRow, if_neg (by simp [h1, h2, h3]), if_pos h4]
  · -- WRITE16
    intro s lu c hu hi ha
    refine next_congr ((sasRow_of_up hu hi).trans ?_)
    rw [sasReceive]
    exact if_pos (by rw [show sasAdminOps.contains 0x8A = false from rfl, ha]; rfl)

end Sys2Proof.Machine
end

section
/-! Firmware commit, activation, slots and backing out (R445, R518, R526, R533). -/

namespace Sys2Proof.Machine

/-- A package without a reason against it enters the slot. -/
theorem storeImage_stores {s : State} {r : TagRec} {fs : Nat} {next run : Bool} (h1 : commitSlot s fs ≤ 2)
    (h2 : commitSlot s fs ≠ s.boot.slot) {t : State} (ht : writeSlot s (commitSlot s fs) next (downloaded s) = (t, true)) :
    storeImage s r fs next run = if run then slipForTag t r (commitSlot s fs) else finishOk t r.tag := by
  rw [storeImage]
  dsimp only
  rw [if_neg (by omega), ht]
  rfl

/-- Settles O39: a commit stores its package unless there is a reason against it; an activation needs its slot marked. -/
theorem firmwareComplete : Obligations.FirmwareComplete := by
  unfold Obligations.FirmwareComplete
  refine ⟨?_, ?_, ?_, ?_, ?_, ?_, ?_, ?_, ?_, ?_, ?_, ?_, ?_, ?_⟩
  · -- FIRMWARE_COMMIT_CA000
    intro s t r h h1 h2
    refine next_congr ((adminRow_operand h (q := fun c => decide (caOf c = 0) || decide (4 ≤ caOf c)) (by rw [h1]; rfl) _).trans ?_)
    rw [fwCommitAct, h1]
    exact if_pos h2
  · -- FIRMWARE_COMMIT_CA000
    intro s t r h h1 h2 h3 h4
    refine next_congr ((adminRow_operand h (q := fun c => decide (caOf c = 0) || decide (4 ≤ caOf c)) (by rw [h1]; rfl) _).trans ?_)
    rw [fwCommitAct, h1]
    exact storeImage_stores h2 h3 (by rw [writeSlot, h4]; rfl)
  · -- FIRMWARE_COMMIT_CA000
    intro s t r h h1
    have hq : (decide (caOf r.cmd = 0) || decide (4 ≤ caOf r.cmd)) = true := by rw [decide_eq_true h1, Bool.or_true]
    refine next_congr ((adminRow_operand h hq _).trans ?_)
    unfold fwCommitAct
    split
    case h_5 => rfl
    all_goals omega
  · -- FIRMWARE_COMMIT_CA001
    intro s t r h h1 h2 h3 h4
    refine next_congr ((adminRow_operand h (decide_eq_true h1) _).trans ?_)
    rw [fwCommitAct, h1]
    exact storeImage_stores h2 h3 (by rw [writeSlot, h4]; rfl)
  · -- FIRMWARE_COMMIT_CA001
    intro s t r c k h h1 h2 h3 h4
    obtain ⟨u, hu⟩ : ∃ u, writeSlot s (commitSlot s (fsOf r.cmd)) true (downloaded s) = (u, false) := by
      rw [writeSlot, h4]
      exact ⟨_, rfl⟩
    refine ⟨u, next_congr ((adminRow_operand h (decide_eq_true h1) _).trans ?_)⟩
    rw [fwCommitAct, h1]
    refine (if_neg (not_or.2 ⟨Nat.not_lt.2 h2, h3⟩)).trans ?_
    rw [hu]
    rfl
  · -- FIRMWARE_COMMIT_CA010
    intro s t r x p h h1 h2 h3 h4
    refine next_congr ((adminRow_operand h (decide_eq_true h1) _).trans ?_)
    rw [fwCommitAct, h1]
    have hv : pkgValid s p = true := by rw [pkgValid, h4]; rfl
    unfold markAct
    simp only [h2, h3, hv, if_true]
  · -- FIRMWARE_COMMIT_CA011
    intro s t r h h1 h2 h3 h4
    refine next_congr ((adminRow_operand h (decide_eq_true h1) _).trans ?_)
    rw [fwCommitAct, h1]
    exact storeImage_stores h2 h3 (by rw [writeSlot, h4]; rfl)
  · -- FW_COMMIT
    intro s r slot next io il so sl h1 h2 h3 h4 h5
    refine begins rfl nofun ?_
    unfold fwCommit stageSize
    dsimp only
    rw [if_neg (by omega), if_neg (by omega), if_neg (by omega), if_neg h5]
    rfl
  · -- FW_COMMIT
    intro s r slot next io il so sl h1 h2 h3 h4 h5
    refine turnsAway rfl nofun ?_ (by decide) (by decide) (by decide)
    unfold fwCommit stageSize
    dsimp only
    rw [if_neg (by omega), if_neg (by omega), if_neg (by omega), if_pos h5]
    rfl
  · -- FW_COMMIT
    intro s r next io il h1 h2 h3
    exact turnsAway rfl (by simp) (by simp [fwCommit, stageSize, h1, h2, h3]) (by simp) (by simp) (by simp)
  · -- FW_ACTIVATE
    intro s r slot x h1 h2 h3 h4 h5
    refine begins rfl (by simp) ?_
    simp [fwActivate, h1, h2, h3, h4, h5]
    rfl
  · -- FW_ACTIVATE
    intro s r slot x h1 h2
    refine turnsAway rfl nofun ?_ (by decide) (by decide) (by decide)
    rw [fwActivate, h1]
    exact if_pos (h2.elim .inl fun hx => .inr (.inl (by rw [hx]; rfl)))
  · -- SLIPWAY_BACKOUT
    intro s aux h1 h2 h3 h4 h5
    refine next_congr ?_
    simp [h1, h2, h3, h4, h5]
    rfl
  · -- FW_GET_SLOTS
    intro s r
    exact ⟨_, completes rfl nofun rfl, rfl⟩

end Sys2Proof.Machine
end

section
/-! Security protocol commands and the Opal methods (R331, R487 to R490). -/

namespace Sys2Proof.Machine

/-- A ready SECURITY SEND hands its method to the protocol. -/
theorem securitySend_runs {s : State} {t : Tag} {r : TagRec} (m : OpalMethod) (h : AdminReady s t r 0x81) :
    exec (.securitySend t m) s = .next (securityOut s r m) := by
  obtain ⟨ht, hq, hid, ho, ha, -⟩ := h
  refine next_congr ?_
  rw [ht]
  dsimp only
  rw [hq, hid, ho, ha]
  rfl

theorem protoOf_of_ready {s : State} {t : Tag} {r : TagRec} {o : Nat} (h : AdminReady s t r o) :
    protoOf s r = r.cmd.dw10 / 2 ^ 24 % 256 := by
  obtain ⟨-, hq, -⟩ := h
  rw [protoOf, hq]
  rfl

/-- What holds a command up includes what it must wait for. -/
theorem mustWait_of_ready {s : State} {t : Tag} {r : TagRec} {o : Nat} (h : AdminReady s t r o) : mustWait s r = false := by
  obtain ⟨-, -, -, -, -, hw⟩ := h
  simp only [heldUp, Bool.or_eq_false_iff] at hw
  exact hw.1.1

theorem any_eq_contains {α : Type} [BEq α] [LawfulBEq α] [DecidableEq α] (l : List α) (a : α) :
    (l.any fun e => decide (e = a)) = l.contains a := by
  rw [Bool.eq_iff_iff]
  simp

/-- Settles O38: a ready SECURITY SEND runs its method, and the method's own checks choose its status. -/
theorem opalComplete : Obligations.OpalComplete := by
  unfold Obligations.OpalComplete
  refine ⟨?_, ?_, ?_, ?_, ?_, ?_, ?_, ?_, ?_, ?_, ?_, ?_⟩
  · -- SECURITY_SEND
    intro s t r m h h1 h2
    rw [securitySend_runs m h, securityOut, protoOf_of_ready h, if_neg (not_not.2 h1), mustWait_of_ready h, h2]
    rfl
  · -- SECURITY_SEND
    intro s t r m h h1
    rw [securitySend_runs m h, securityOut, protoOf_of_ready h, if_pos h1]
  · -- SECURITY_SEND
    intro s t r m h h1 h2 h3
    rw [securitySend_runs m h, securityOut, protoOf_of_ready h, if_neg (not_not.2 h1), h2, opalWrites, decide_eq_true h3,
      Bool.and_self, Bool.or_true, if_pos rfl]
  · -- SECURITY_RECEIVE
    intro s t r h h1
    refine next_congr ((adminRow_opcode h _).trans ?_)
    rw [securityIn, protoOf_of_ready h, if_neg (not_not.2 h1), h.2.1]
    rfl
  · -- SECURITY_RECEIVE
    intro s t r h h1
    refine next_congr ((adminRow_opcode h _).trans ?_)
    rw [securityIn, protoOf_of_ready h, if_pos h1]
  · -- an authority that unlocks
    intro s auth nsid rd wr l h1 h2 h3
    rw [opalRun, h1]
    dsimp only
    rw [h2, h3]
    rfl
  · -- both ways locked
    intro s auth nsid l h1 h2
    exact if_pos ⟨h1, h2⟩
  · -- an authority that is no administrator
    intro s auth nsid us h
    refine ⟨?_, ?_, ?_⟩ <;> rw [opalRun, h] <;> rfl
  · -- OPAL_AUTHENTICATE
    intro s auth nsid cred h1 h2 h3
    refine next_congr ?_
    rw [h1, h2, any_eq_contains, h3]
    rfl
  · -- OPAL_AUTHENTICATE
    intro s auth nsid cred l h1 h2 h3 h4 h5
    refine ⟨_, next_congr ((if_neg (by rw [h1, h2]; decide)).trans ((if_pos (by rw [any_eq_contains, h3])).trans
      (if_pos (by rw [h4]; exact h5)))), ?_⟩
    cases hu : unwrapBy s nsid auth with
    | none =>
      refine ⟨rfl, ?_, rfl⟩
      simp [opalAuthed, opalAns]
    | some mek =>
      refine ⟨rfl, ?_, rfl⟩
      simp [opalAuthed, opalAns]
  · -- OPAL_GENKEY
    intro s n h1 h2
    refine next_congr ?_
    rw [h1]
    exact if_pos h2
  · -- OPAL_REVERT
    intro s h
    exact ⟨next_congr ((if_pos h).trans (by simp only [opalRevert, List.filter_false])), next_congr (if_pos h)⟩

end Sys2Proof.Machine
end

section
/-! Mailbox events, and how a request is taken up (R412 to R424, R433). -/

namespace Sys2Proof.Machine

theorem bitAt_toNat (v : BitVec 32) (k : Nat) : bitAt v.toNat k = v.getLsbD k :=
  (Nat.testBit_eq_decide_div_mod_eq ..).symm

theorem updMbx_congr {s : State} {mb : Mb} {f g : Mailbox → Mailbox} (h : f s.mbx[mb] = g s.mbx[mb]) :
    updMbx s mb f = updMbx s mb g := by
  rw [updMbx, updMbx, vupd_congr h]

/-- A write of a mailbox register at a bar that is up. -/
theorem registerWrite_up {s : State} {mb : Mb} (h : barUp s mb = true) (o : Nat) (v : BitVec 32) :
    exec (.registerWrite mb o (some v)) s = .next (regWrite s mb o v) := next_congr (if_pos h)

theorem writeReqTail_takes {s : State} {mb : Mb} {v : Nat} (h1 : s.mbx[mb].enable = true) (h2 : v < 64)
    (h3 : (v + 64 - s.mbx[mb].reqTail) % 64 ≤ mbxFree s.mbx[mb]) :
    writeReqTail s mb v = updMbx s mb fun m => { m with reqTail := v } :=
  if_pos (by rw [h1, decide_eq_true h2, decide_eq_true h3]; rfl)

/-- A request whose opcode stands in no catalogue entry. -/
theorem runRequest_unknown {s : State} {mb : Mb} {bs : List Byte} (h1 : reservedBad bs = [])
    (h2 : (catalogue.find? fun e => decide (e.opc = hdrN bs 0 2)) = none) :
    runRequest s mb bs = respond s mb { op := hdrN bs 0 2, seq := hdrN bs 12 4, status := 0x0003 } true := by
  unfold runRequest
  dsimp only
  rw [h1, h2]
  dsimp only
  rw [Bool.and_false, List.nil_append, if_neg Bool.false_ne_true, if_neg (not_not.2 rfl)]

/-- Settles O42: a register write takes its branch by its offset; a request is judged by envelope, SEQ, reserved bits,
OPCODE. -/
theorem mailboxEventsAndRequests : Obligations.MailboxEventsAndRequests := by
  unfold Obligations.MailboxEventsAndRequests
  refine ⟨⟨?_, ?_, ?_, ?_, ?_, ?_, ?_, ?_, ?_, ?_, ?_, ?_, ?_, ?_, ?_, ?_, ?_⟩, ⟨?_, ?_, ?_, ?_⟩⟩
  · -- MBX_REQ_TAIL_WRITE
    intro s mb v h1 h2 h3 h4
    exact ⟨next_congr ((if_pos h1).trans (writeReqTail_takes h2 h3 h4)),
      (registerWrite_up h1 ..).trans (next_congr (writeReqTail_takes h2 h3 h4))⟩
  · -- MBX_REQ_TAIL_WRITE
    intro s mb v h1 h2
    refine next_congr ((if_pos h1).trans (if_neg ?_))
    simp only [Bool.and_eq_true, decide_eq_true_eq, not_and_or, Bool.not_eq_true, Nat.not_lt, Nat.not_le]
    exact or_assoc.2 h2
  · -- MBX_RESP_HEAD_WRITE
    intro s mb v h1 h2
    exact next_congr ((if_pos h1).trans (if_pos h2))
  · -- MBX_RESP_HEAD_WRITE
    intro s mb v h1 h2
    exact next_congr ((if_pos h1).trans (if_neg (Nat.not_le.2 h2)))
  · -- MBX_NTF_HEAD_WRITE
    intro s mb v h1 h2
    exact next_congr ((if_pos h1).trans (if_pos h2))
  · -- MBX_NTF_HEAD_WRITE
    intro s mb v h1 h2
    exact next_congr ((if_pos h1).trans (if_neg (Nat.not_le.2 h2)))
  · -- REGISTER_WRITE
    intro s mb v h1
    simp only [← bitAt_toNat]
    exact ⟨registerWrite_up h1 .., registerWrite_up h1 ..⟩
  · -- REGISTER_WRITE
    intro s mb v k h1 hk
    refine (registerWrite_up h1 ..).trans (next_congr ?_)
    fin_cases hk <;> rfl
  · -- REGISTER_WRITE
    intro s mb o h1 h2
    exact next_congr ((if_pos h1).trans (if_neg h2))
  · -- REGISTER_WRITE
    intro s mb h1
    exact next_congr ((if_pos h1).trans rfl)
  · -- REGISTER_WRITE
    intro s mb v i k h1 h2 h3
    have ho : 0x10000 + i * 2048 + k * 4 - 0x10000 = i * 2048 + k * 4 := by omega
    have hi : (i * 2048 + k * 4) / 2048 = i := by omega
    have hk : (i * 2048 + k * 4) % 2048 / 4 * 4 = k * 4 := by omega
    have hw : regWrite s mb (0x10000 + i * 2048 + k * 4) v = writeSlot4 s mb (i * 2048 + k * 4) v := by
      unfold regWrite
      dsimp only
      rw [if_neg (by omega), if_neg (by omega), if_neg (by omega), if_neg (by omega), if_neg (by omega), if_pos (by omega), ho]
    refine ⟨_, (registerWrite_up h1 ..).trans (next_congr hw), ?_, ?_, ?_⟩
    · rw [writeSlot4, updMbx_mbx, vupd_self]
      dsimp only
      rw [hi, hk, smGet_smPut]
    · intro j hj
      rw [writeSlot4, updMbx_mbx, vupd_self]
      dsimp only
      rw [hi, smGet_smPut_ne _ _ hj]
    · exact fun n hn => vupd_ne _ _ hn
  · -- MAILBOX_REQUEST_START
    intro s mb h1 h2
    refine next_congr ((if_pos h1).trans ?_)
    dsimp only
    rw [h2, List.contains_nil, if_neg Bool.false_ne_true]
    refine congrArg (takeRequest · mb _) (updMbx_congr ?_)
    dsimp only
    rw [h2]
    rfl
  · -- UART_FRAME
    intro s raw h1 h2
    refine next_congr ?_
    unfold arrive
    dsimp only
    rw [h1]
    exact (if_neg (by decide)).trans (if_neg (Nat.not_le.2 h2))
  · -- NVME_MI_COMMAND
    intro s raw h1 h2
    refine next_congr ?_
    unfold arrive
    dsimp only
    rw [h1]
    exact (if_neg (by decide)).trans (if_neg (Nat.not_le.2 h2))
  · -- NVME_MI_COMMAND
    intro s raw h1 h2
    refine next_congr ?_
    unfold arrive
    dsimp only
    rw [h1]
    exact (if_neg (by decide)).trans (if_pos h2)
  · -- L_MESSAGE_DONE
    intro s mb seq status result l hp h1 h2 h3
    refine next_congr ((if_neg (by simp [hp, h1])).trans ?_)
    rw [h2]
    dsimp only
    obtain h3 | h3 := h3 <;> rw [h3] <;> rfl
  · -- NONCE_EXPIRY
    intro s mb
    exact ⟨rfl, rfl, fun h => next_congr (updMbx_congr (by simp only [h, if_true]))⟩
  · -- a bad envelope
    intro s mb bs h1
    exact if_pos h1
  · -- a wrong SEQ
    intro s mb bs e h1 h2 h3 h4
    refine (if_neg (not_not.2 h1)).trans ((if_neg ?_).trans ?_)
    · rw [h2]
      simp [h3]
    · rw [h4, h2]
      rfl
  · -- the last request again
    intro s mb bs e x h1 h2 h3 h4 h5 h6
    refine (if_neg (not_not.2 h1)).trans ((if_neg ?_).trans ?_)
    · rw [h2]
      simp [h3]
    · rw [h4]
      exact if_pos ⟨h5, h6⟩
  · -- an unknown OPCODE
    intro s mb bs h1 h2 h3 h4
    exact (if_neg (not_not.2 h1)).trans ((if_pos (.inr h2)).trans (runRequest_unknown h3 h4))

end Sys2Proof.Machine
end

section
/-! DRAM reads, writes, narrow writes, merges and scrubs (R363 to R380). -/

namespace Sys2Proof.Machine

/-! ### A request, and what it leaves -/

/-- A request changes its channel's self-refresh and nothing of the lines. -/
theorem request_form (s : State) (ch : Fin 2) :
    ∃ c a, request s ch = updDram s fun d => { d with chans := c, sreAbort := a } := by
  unfold request
  split
  · exact ⟨_, _, rfl⟩
  · split <;> exact ⟨_, _, rfl⟩

@[simp] theorem request_us (s : State) (ch : Fin 2) : (request s ch).us = s.us := by
  obtain ⟨c, a, h⟩ := request_form s ch
  rw [h]
  rfl
@[simp] theorem request_ceCnt (s : State) (ch : Fin 2) : (request s ch).dram.ceCnt = s.dram.ceCnt := by
  obtain ⟨c, a, h⟩ := request_form s ch
  rw [h]
  rfl
@[simp] theorem request_lines (s : State) (ch : Fin 2) : (request s ch).dram.lines = s.dram.lines := by
  obtain ⟨c, a, h⟩ := request_form s ch
  rw [h]
  rfl
@[simp] theorem request_merge (s : State) (ch : Fin 2) : (request s ch).dram.merge = s.dram.merge := by
  obtain ⟨c, a, h⟩ := request_form s ch
  rw [h]
  rfl
@[simp] theorem request_inject (s : State) (ch : Fin 2) : (request s ch).dram.inject = s.dram.inject := by
  obtain ⟨c, a, h⟩ := request_form s ch
  rw [h]
  rfl
@[simp] theorem request_lineAt (s : State) (ch : Fin 2) (l : Nat) : lineAt (request s ch) l = lineAt s l := by
  rw [lineAt, request_lines, lineAt]
@[simp] theorem request_mergeAt (s : State) (ch : Fin 2) (l : Nat) : mergeAt (request s ch) l = mergeAt s l := by
  rw [mergeAt, request_merge, mergeAt]
@[simp] theorem request_regionOf (s : State) (ch : Fin 2) (l : Nat) : regionOf (request s ch) l = regionOf s l := by
  obtain ⟨c, a, h⟩ := request_form s ch
  rw [h]
  rfl

@[simp] theorem portServed_lineAt (s : State) (p : Fin 16) (l : Nat) : lineAt (portServed s p) l = lineAt s l := rfl
@[simp] theorem portServed_mergeAt (s : State) (p : Fin 16) (l : Nat) : mergeAt (portServed s p) l = mergeAt s l := rfl
@[simp] theorem portServed_regionOf (s : State) (p : Fin 16) (l : Nat) : regionOf (portServed s p) l = regionOf s l := rfl
@[simp] theorem portServed_dram_lines (s : State) (p : Fin 16) : (portServed s p).dram.lines = s.dram.lines := rfl
@[simp] theorem portServed_dram_inject (s : State) (p : Fin 16) : (portServed s p).dram.inject = s.dram.inject := rfl

/-! ### Lines -/

/-- A line that was put reads in its normal form. -/
theorem lineAt_putLine {s : State} (line : Nat) (l : DLine) (h : smSorted s.dram.lines = true) :
    lineAt (putLine s line l) line = normLine l := smRead_smWrite line _ h
theorem lineAt_putLine_ne (s : State) (line : Nat) (l : DLine) {j : Nat} (h : j ≠ line) :
    lineAt (putLine s line l) j = lineAt s j := smRead_smWrite_ne _ _ h

theorem putLine_sorted {s : State} (line : Nat) (l : DLine) (h : smSorted s.dram.lines = true) :
    smSorted (putLine s line l).dram.lines = true := by
  show smSorted (smWrite {} s.dram.lines line (normLine l)) = true
  rw [smWrite]
  split
  · exact smErase_sorted line h
  · exact smPut_sorted line _ h

@[simp] theorem normLine_poison (l : DLine) : (normLine l).poison = l.poison := rfl
theorem lineData_idem (bs : List Byte) (p : Poison) :
    lineData { data := lineData { data := bs }, poison := p } = lineData { data := bs } := by
  simp [lineData]
theorem lineData_overlay (bs : List Byte) (e : MergeEnt) (p : Poison) :
    lineData { data := overlay bs e, poison := p } = overlay bs e := by
  simp [lineData, overlay]
@[simp] theorem raise_lineAt (s : State) (v : Ev) (a b c d e g l : Nat) : lineAt (raise s v a b c d e g) l = lineAt s l := by
  rw [lineAt, raise_dram, lineAt]

theorem writeLine_plain {s : State} {line : Nat} (h : (s.dram.inject.find? fun i => decide (i.1 = line)) = none)
    (bs : List Byte) (p : Poison) : writeLine s line bs p = putLine s line { data := bs, poison := p } := by
  rw [writeLine, h]

theorem readLine_clean {s : State} {line : Nat} {x : ReadResult} (h : foundIn (lineAt s line) x = .clean) :
    readLine s line x = s := by
  rw [readLine, h]
theorem readLine_corrected {s : State} {line : Nat} {x : ReadResult} (h : foundIn (lineAt s line) x = .corrected) :
    readLine s line x =
      putLine (updDram s fun d => { d with ceCnt := satInc 255 d.ceCnt }) line { lineAt s line with ceBits := false } := by
  rw [readLine, h]
theorem readLine_uncorrectable {s : State} {line : Nat} {x : ReadResult} {b : List Byte}
    (h : foundIn (lineAt s line) x = .uncorrectable b) :
    readLine s line x = raise (putLine (updDram s fun d => { d with ueCnt := satInc 255 d.ueCnt, ue := true }) line
      { data := lineData { data := b }, poison := .detected }) .ue 2 0x0D 0 (line * 64) (line * 64 / 2 ^ 32)
      (((regionOf s line).map (·.2)).getD 16) := by
  rw [readLine, h]

/-- A merge over a line that reads clean writes what the entry holds over it. -/
theorem mergeOut_clean {s : State} {line : Nat} {e : MergeEnt} {x : ReadResult} (he : e.line = line)
    (h : foundIn (lineAt s line) x = .clean) (hi : (s.dram.inject.find? fun i => decide (i.1 = line)) = none) :
    mergeOut s e x = putLine (dropMerge s line) line
      { data := overlay (lineData (lineAt s line)) e, poison := (lineAt s line).poison } := by
  subst he
  rw [mergeOut, readLine_clean h, h]
  dsimp only
  rw [if_neg Bool.false_ne_true]
  exact writeLine_plain (s := dropMerge s e.line) hi _ _

theorem line_of_mergeAt {s : State} {line : Nat} {e : MergeEnt} (h : mergeAt s line = some e) : e.line = line := by
  simpa using List.find?_some h

/-- A merge over a line that cannot be corrected marks the line it writes. -/
theorem mergeOut_uncorrectable {s : State} {line : Nat} {e : MergeEnt} {x : ReadResult} {b : List Byte} (he : e.line = line)
    (h : foundIn (lineAt s line) x = .uncorrectable b) (hi : (s.dram.inject.find? fun i => decide (i.1 = line)) = none)
    (hs : smSorted s.dram.lines = true) :
    ∃ t, mergeOut s e x = t ∧ t.dram.mergeUe = true ∧ t.dram.ue = true ∧ (lineAt t line).poison = .detected ∧
      lineData (lineAt t line) = overlay (lineData { data := b }) e := by
  subst he
  have hput : lineAt (readLine s e.line x) e.line = normLine { data := lineData { data := b }, poison := .detected } := by
    rw [readLine_uncorrectable h, raise_lineAt]
    exact lineAt_putLine _ _ hs
  have hdram : (readLine s e.line x).dram = (putLine (updDram s fun d => { d with ueCnt := satInc 255 d.ueCnt, ue := true }) e.line
      { data := lineData { data := b }, poison := .detected }).dram := by
    rw [readLine_uncorrectable h, raise_dram]
  have hs1 : smSorted (readLine s e.line x).dram.lines = true := by
    rw [hdram]
    exact putLine_sorted _ _ hs
  have hrun : mergeOut s e x = putLine (dropMerge (updDram (readLine s e.line x) fun d => { d with mergeUe := true }) e.line) e.line
      { data := overlay (lineData { data := b }) e, poison := .detected } := by
    rw [mergeOut, h, hput, lineData_normLine, lineData_idem]
    exact writeLine_plain (by show (readLine s e.line x).dram.inject.find? _ = none; rw [hdram]; exact hi) _ _
  have hat (y : DLine) : lineAt (putLine (dropMerge (updDram (readLine s e.line x) fun d => { d with mergeUe := true }) e.line) e.line y)
      e.line = normLine y := lineAt_putLine _ _ hs1
  refine ⟨_, hrun, rfl, congrArg Dram.ue hdram, ?_, ?_⟩
  · rw [hat, normLine_poison]
  · rw [hat, lineData_normLine, lineData_overlay]

/-! ### The rows -/

theorem dramRead_runs {s : State} {line : Nat} {me : DReq} {others : List DReq} (hp : powered s = true)
    (hr : (regionOf s line).isSome = true) (hg : granted s me others = true) (x : ReadResult) (u : Option Consumer) :
    exec (.dramRead ⟨line, me, others⟩ x u) s = .next (dramRead line x u (request (portServed s me.port) (chanOf line))) := by
  refine (if_neg (by simp [Option.isSome_iff_ne_none.1 hr])).trans (next_congr (if_pos ?_))
  rw [hp, hg]
  rfl

/-- The two ends of an access that finds no region or is not granted. -/
theorem dramRead_unmerged {s : State} {line : Nat} (h : mergeAt s line = none) (x : ReadResult) :
    dramRead line x none s = updDram (readLine s line x) fun d =>
      { d with lastRead := lineData (lineAt (readLine s line x) line), lastPoison := (lineAt (readLine s line x) line).poison } := by
  rw [dramRead, h]

/-- The read line stands beside the lines. -/
theorem lineAt_lastRead (s : State) (bs : List Byte) (p : Poison) (l : Nat) :
    lineAt (updDram s fun d => { d with lastRead := bs, lastPoison := p }) l = lineAt s l := rfl

theorem lineData_ceBits (l : DLine) (b : Bool) : lineData { l with ceBits := b } = lineData l := rfl

/-- A corrected read counts, writes the line back without its wrong bits and leaves every other line. -/
theorem dramRead_corrected {s : State} {line : Nat} {x : ReadResult} (hm : mergeAt s line = none)
    (hf : foundIn (lineAt s line) x = .corrected) (hs : smSorted s.dram.lines = true) :
    ∃ t, dramRead line x none s = t ∧ t.dram.ceCnt = satInc 255 s.dram.ceCnt ∧ t.dram.lastRead = lineData (lineAt s line) ∧
      t.dram.lastPoison = (lineAt s line).poison ∧ (lineAt t line).ceBits = false ∧
      lineData (lineAt t line) = lineData (lineAt s line) ∧ ∀ j, j ≠ line → lineAt t j = lineAt s j := by
  have hat (y : DLine) : lineAt (putLine (updDram s fun d => { d with ceCnt := satInc 255 d.ceCnt }) line y) line = normLine y :=
    lineAt_putLine _ _ hs
  refine ⟨_, dramRead_unmerged hm x, ?_⟩
  rw [readLine_corrected hf, hat, lineData_normLine, lineData_ceBits]
  simp only [lineAt_lastRead, hat, lineData_normLine, lineData_ceBits]
  exact ⟨rfl, rfl, rfl, rfl, trivial, fun j hj => lineAt_putLine_ne _ _ _ hj⟩

/-- A read that cannot be corrected marks its line and says so. -/
theorem dramRead_uncorrectable {s : State} {line : Nat} {x : ReadResult} {b : List Byte} (hm : mergeAt s line = none)
    (hf : foundIn (lineAt s line) x = .uncorrectable b) (hs : smSorted s.dram.lines = true) :
    dramRead line x none s = updDram (raise (putLine (updDram s fun d => { d with ueCnt := satInc 255 d.ueCnt, ue := true }) line
      { data := lineData { data := b }, poison := .detected }) .ue 2 0x0D 0 (line * 64) (line * 64 / 2 ^ 32)
      (((regionOf s line).map (·.2)).getD 16)) fun d =>
      { d with lastRead := lineData { data := b }, lastPoison := .detected } := by
  have hat (y : DLine) : lineAt (putLine (updDram s fun d => { d with ueCnt := satInc 255 d.ueCnt, ue := true }) line y) line =
      normLine y := lineAt_putLine _ _ hs
  rw [dramRead_unmerged hm, readLine_uncorrectable hf, raise_lineAt, hat, lineData_normLine, lineData_idem, normLine_poison]

theorem narrowPart_new {s : State} {line off : Nat} {bytes : List Byte} (h : mergeAt s line = none)
    (hl : s.dram.merge.length < 64) (hb : bytes.length < 64) :
    narrowPart s line off bytes = updDram s fun d => { d with merge := d.merge ++
      [{ line := line, since := s.us, bytes := bytes.zipIdx.map fun b => (off + b.2, b.1) }] } := by
  have h1 : narrowPart s line off bytes = mergeFull (updDram s fun d =>
      { d with merge := d.merge ++ [mergeInto { line := line, since := s.us } off bytes] }) line := by
    unfold narrowPart
    rw [h]
    dsimp only
    split
    · rw [if_neg (Nat.not_le.2 hl)]
    · rfl
  rw [h1, mergeFull]
  have h2 : mergeAt (updDram s fun d => { d with merge := d.merge ++ [mergeInto { line := line, since := s.us } off bytes] }) line =
      some (mergeInto { line := line, since := s.us } off bytes) := by
    show List.find? _ (s.dram.merge ++ [_]) = _
    rw [List.find?_append, show s.dram.merge.find? _ = none from h]
    simp [mergeInto]
  rw [h2]
  dsimp only
  rw [if_neg (by simp [mergeInto]; omega)]
  rfl

theorem scrubClass_due {s : State} {due : List (Fin 4)} {c : Fin 4} (h : scrubClass s due = some c) :
    c ∈ due ∧ scrubReady s c = true := by
  obtain ⟨k, hk, hc⟩ := Option.bind_eq_some_iff.1 h
  have hp := List.find?_some hk
  simp only [List.any_eq_true, Bool.and_eq_true, decide_eq_true_eq] at hp
  obtain ⟨c', hmem, hval, hready⟩ := hp
  split at hc
  · have he : c' = c := Fin.ext (by rw [hval, ← Option.some.inj hc])
    exact ⟨he ▸ hmem, he ▸ hready⟩
  · exact nomatch hc

/-- Settles O35: a request leaves the lines (`request_form`), and what is found in the line says how the read ends. -/
theorem dramAccessesComplete : Obligations.DramAccessesComplete := by
  unfold Obligations.DramAccessesComplete
  refine ⟨?_, ?_, ?_, ?_, ?_, ?_, ?_, ?_, ?_, ?_, ?_, ?_, ?_, ?_, ?_, ?_⟩
  · -- DRAM_READ
    intro s v line x me others hp h1 h2 h3 h4 h5
    subst h3
    rw [dramRead_runs hp h1 h2, dramRead_unmerged (by simpa using h4), readLine_clean (by simpa using h5)]
    simp only [request_lineAt, portServed_lineAt]
  · -- DRAM_READ
    intro s line x me others hp h1 h2 h3 h4 h5
    obtain ⟨t, ht, hce, hrest⟩ := dramRead_corrected (s := request (portServed s me.port) (chanOf line)) (by simpa using h3)
      (by simpa using h4) (by simpa using h5)
    simp only [request_lineAt, portServed_lineAt, request_ceCnt] at hce hrest
    exact ⟨t, (dramRead_runs hp h1 h2 x none).trans (next_congr ht), hce, hrest⟩
  · -- DRAM_READ
    intro s v line x b g me others hp h1 h2 h3 h4 h5 h6
    subst h3
    rw [dramRead_runs hp (by rw [h1]; rfl) h2, dramRead_uncorrectable (by simpa using h4) (by simpa using h5) (by simpa using h6),
      request_regionOf, portServed_regionOf, h1]
    rfl
  · -- DRAM_READ
    intro s v line x e me others hp h1 h2 h3 h4 h5 h6 h7
    subst h3
    have hs : smSorted (dropMerge (request (portServed s me.port) (chanOf line)) line).dram.lines = true := by
      simpa [dropMerge] using h6
    rw [dramRead_runs hp h1 h2, dramRead, request_mergeAt, portServed_mergeAt, h4]
    dsimp only
    rw [mergeOut_clean (line_of_mergeAt h4) (by simpa using h5) (by simpa using h7), lineAt_putLine _ _ hs, lineData_normLine,
      lineData_overlay, normLine_poison, request_lineAt, portServed_lineAt]
  · -- DRAM_READ
    intro s v line x u me others hp h1 h2 h3 h4 h5 h6
    subst h3
    rw [dramRead_runs hp h1 h2, dramRead, request_mergeAt, portServed_mergeAt, h4]
    dsimp only
    rw [readLine_clean (by simpa using h5)]
    simp only [request_lineAt, portServed_lineAt, if_neg h6]
  · -- DRAM_READ
    intro s line x u bytes p me others h
    refine ⟨if_pos (by rw [h]; rfl), if_pos (by rw [h]; rfl), if_pos ?_⟩
    simp [narrowLines, h]
  · -- a request and its channel's self-refresh
    intro s ch
    refine ⟨fun h => ?_, fun h => ?_, fun h => ?_⟩
    · rw [request, if_neg (by rw [h]; decide), if_pos h]
    · rw [request, if_pos h]
      simp only [updChan, updDram, vupd_vupd]
    · rw [request, if_neg (by omega), if_neg (by omega)]
      simp only [updChan, updDram, vupd_vupd]
  · -- DRAM_READ
    intro s line x u bytes p me others h1 h2
    have h1 : ¬(regionOf s line).isNone = true := by simp [Option.isSome_iff_ne_none.1 h1]
    exact ⟨(if_neg h1).trans (next_congr (if_neg (by simp [h2]))), (if_neg h1).trans (next_congr (if_neg (by simp [h2])))⟩
  · -- DRAM_WRITE
    intro s v line bytes p me others hp h1 h2 h3 h4
    subst h3
    refine (if_neg (by simp [Option.isSome_iff_ne_none.1 h1])).trans (next_congr ((if_pos (by rw [hp, h2]; rfl)).trans ?_))
    exact writeLine_plain (by simpa [dropMerge] using h4) _ _
  · -- a line that was put
    intro s line l j h
    refine ⟨?_, ?_, lineAt_putLine_ne s line l⟩
    · rw [lineAt_putLine line l h, lineData_normLine]
    · rw [lineAt_putLine line l h]
      rfl
  · -- DRAM_NARROW_WRITE
    intro s v addr bytes hp h1 h2 h3 h4 h5 h6
    subst h4
    have hn : narrowLines addr (bytes.take 63) = [(addr / 64, addr % 64, bytes)] := by
      rw [narrowLines, List.take_of_length_le h1]
      rw [if_neg (by omega), List.take_of_length_le (by omega)]
      rfl
    refine (if_neg ?_).trans (next_congr ((if_pos hp).trans ?_))
    · rw [hn]
      simp [Option.isSome_iff_ne_none.1 h3]
    · rw [hn]
      show narrowPart (request s _) _ _ _ = _
      rw [narrowPart_new (by simpa using h5) (by simpa using h6) (Nat.lt_succ_of_le h1), request_us]
  · -- MERGE_ENTRY_TIMEOUT
    intro s v line x e hp h1 h2 h3 h4 h5 h6
    subst h4
    refine next_congr ?_
    rw [h1]
    dsimp only
    rw [hp, h3, Bool.and_self, if_pos rfl, mergeOut_clean h2 (by simpa using h5) (by simpa using h6), request_lineAt]
  · -- MERGE_ENTRY_TIMEOUT
    intro s line x e b hp h1 h2 h3 h4 h5 h6
    have hrun : exec (.mergeEntryTimeout line x) s = .next (mergeOut (request s (chanOf line)) e x) := by
      refine next_congr ?_
      rw [h1]
      dsimp only
      rw [hp, h3]
      rfl
    obtain ⟨t, ht, hd⟩ := mergeOut_uncorrectable (s := request s (chanOf line)) h2 (by simpa using h4) (by simpa using h5)
      (by simpa using h6)
    exact ⟨t, hrun.trans (next_congr ht), hd⟩
  · -- SCRUB_LINE
    intro s due c line x hp h1 h2 h3 h4 h5 h6
    refine next_congr ((if_pos (by rw [hp, h1]; rfl)).trans ?_)
    rw [h2]
    dsimp only
    unfold scrubOne
    rw [h3]
    dsimp only
    rw [h4, h5, readLine_clean h5, if_neg (Nat.not_le.2 h6)]
    rfl
  · -- SCRUB_LINE
    intro s due c line x hp h1 h2 h3 h4 h5
    have hrun : exec (.scrubLine due x) s = .next (scrubOne c x s) := by
      refine next_congr ((if_pos (by rw [hp, h1]; rfl)).trans ?_)
      rw [h2]
    refine ⟨_, hrun, ?_⟩
    unfold scrubOne
    rw [h3]
    dsimp only
    rw [if_neg (Nat.not_le.2 h5), decide_eq_true h4, if_pos rfl]
    refine ⟨rfl, ?_, ?_, rfl, rfl⟩
    all_goals exact congrArg _ (vupd_self ..)
  · -- the class that is scrubbed
    exact fun s due c h => scrubClass_due h

end Sys2Proof.Machine
end

section
/-! Actuator loops: seeks, stop plans, aborts, the RMS check, load, unload, the ramp stop (R96 to R100). -/

namespace Sys2Proof.Machine

/-- An abort replaces the actuator's record; the others stay. -/
theorem seekAbort_aborts {s : State} {a : Act} (hp : powered s = true) (h1 : 8 ≤ s.acts[a].errFrames) (h2 : s.acts[a].mode = .seek)
    (h3 : s.acts[a].stopPlan = false) (h4 : parks s.acts[a] = false) {stop : Bool}
    (hs : decide (s.acts[a].seekPar.nAbort ≤ s.acts[a].aborts + 1) = stop) :
    ∃ br, (seekAbort a s).acts[a] = { s.acts[a] with
      seekAbort := true, aborts := s.acts[a].aborts + 1, errFrames := 0, traj := [], refPos := s.acts[a].obsPos,
      refVel := 4 * s.acts[a].obsVel, refAcc := 0, stopPlan := stop, stopFail := stop, brake := br } ∧
      ∀ b, a ≠ b → (seekAbort a s).acts[b] = s.acts[b] := by
  subst hs
  rw [seekAbort]
  dsimp only
  rw [if_pos (by simp [hp, h1, h2, h3, h4, -Fin.getElem_fin])]
  exact ⟨_, vupd_self .., fun b hb => vupd_ne _ _ hb⟩

theorem enterMode_mode (place : Hd → Fin 8) (m : Mode) (x : Actuator) : (enterMode place m x).mode = m := rfl

/-- On its way down the actuator ramps, its seek given up. -/
theorem rampDown_self (s : State) (a : Act) : (rampDown s a).acts[a].mode = .ramp ∧
    (rampDown s a).acts[a].maCmd = Vector.replicate 8 0 ∧ (rampDown s a).acts[a].newSeek = none := by
  have hm := enterMode_mode (localHead s) .ramp s.acts[a]
  rw [rampDown, updAct_acts, vupd_self]
  generalize enterMode (localHead s) .ramp s.acts[a] = y at hm ⊢
  exact ⟨hm, rfl, rfl⟩

/-- Settles O3: mode and flags decide each event's branch; entering a mode sets the mode. -/
theorem seekAndLoadEventsComplete : Obligations.SeekAndLoadEventsComplete := by
  unfold Obligations.SeekAndLoadEventsComplete
  refine ⟨?_, ?_, ?_, ?_, ?_, ?_, ?_, ?_, ?_, ?_, ?_, ?_, ?_⟩
  · -- SEEK_TARGET
    intro s a t h1 h2
    exact next_congr ((if_neg (by rw [h1]; decide)).trans (if_pos (.inr h2)))
  · -- SEEK_TARGET
    intro s a t h1 h2 h3
    refine next_congr ((if_neg (by rw [h1]; decide)).trans (if_neg (not_or.2 ⟨?_, fun hx => ?_⟩)))
    · simp [isSwitch, h2, -Fin.getElem_fin]
    · exact Bool.false_ne_true (h3.symm.trans hx)
  · -- TRAJ_STOP_PLAN
    intro s a hp h1 h2 h3 h4
    exact next_congr (by simp [trajStopPlan, hp, h1, h2, h3, h4, -Fin.getElem_fin])
  · -- SEEK_ABORT
    intro s a hp h1 h2 h3 h4 h5
    obtain ⟨br, hx, hne⟩ := seekAbort_aborts hp h1 h2 h3 h4 (decide_eq_false (Nat.not_le.2 h5))
    refine ⟨_, rfl, ?_⟩
    simp only [hx, h2]
    exact ⟨trivial, trivial, trivial, trivial, trivial, trivial, trivial, trivial, hne⟩
  · -- SEEK_ABORT
    intro s a hp h1 h2 h3 h4 h5
    obtain ⟨br, hx, hne⟩ := seekAbort_aborts hp h1 h2 h3 h4 (decide_eq_true h5)
    refine ⟨_, rfl, ?_⟩
    simp only [hx]
    exact ⟨trivial, trivial, trivial, trivial, hne⟩
  · -- FOLLOW_RMS_CHECK
    intro s a hp h1 h2 h3
    exact next_congr (by simp [followRmsCheck, hp, h1, h2, h3, -Fin.getElem_fin])
  · -- FOLLOW_RMS_CHECK
    intro s a hp h1 h2 h3
    exact next_congr (by simp [followRmsCheck, hp, h1, h2, h3, -Fin.getElem_fin])
  · -- FOLLOW_RMS_CHECK
    intro s a p hp h1 h2 h3 h4
    exact next_congr (by simp [followRmsCheck, hp, h1, h2, h3, h4, -Fin.getElem_fin])
  · -- ACTUATOR_LOAD
    intro s a hp h1 h2 h3 h4 h5 h6
    exact next_congr (by simp [actuatorLoad, hp, h1, h2, h3, h4, h5, h6, -Fin.getElem_fin])
  · -- a parked actuator that is to load
    intro s a h1 h2 h3 h4
    have hp : s.acts[a].park = .none := by simpa [parks] using h4
    unfold frameModes
    dsimp only
    rw [if_neg (not_not.2 hp), if_neg (by rw [h3]; exact fun hx => hx.2 rfl), if_pos h3, if_pos h1, updAct_acts, vupd_self]
    rfl
  · -- ACTUATOR_UNLOAD
    intro s a hp h1 h2
    refine next_congr ((if_pos hp).trans ?_)
    have hs1 : (match s.acts[a].partner with
        | some p => if s.acts[a].mode = .twin ∧ s.acts[a].fallback.isNone then dropPair s a p 6 else s
        | none => s) = s := by
      split
      · exact if_neg fun hx => h2 hx.1
      · rfl
    exact (if_neg h1).trans (congrArg (updAct · a _) hs1)
  · -- an actuator that is to unload
    intro s a h1 h2 h3
    have hp : s.acts[a].park = .none := by simpa [parks] using h3
    have hr : frameModes s a = rampDown s a := by
      unfold frameModes
      dsimp only
      rw [if_neg (not_not.2 hp), if_pos ⟨h1, h2⟩]
    rw [hr]
    exact rampDown_self s a
  · -- RAMP_STOP_REACHED
    intro s a hp h1 h2 h3
    refine ⟨next_congr (if_pos (by simp [hp, h1, h2, h3, -Fin.getElem_fin])), ?_, ?_, vupd_self .., vupd_self ..⟩
    · rw [updAct_acts, vupd_self]
      rfl
    · rw [updAct_acts, vupd_self]
      rfl

end Sys2Proof.Machine
end

section
/-! Actuator loops: slots, missed deadlines, retract, write-ready, blends, ramps, holds (R85 to R105). -/

namespace Sys2Proof.Machine

/-! ### Laws of an actuator -/

/-- A change of one law leaves the rest of the actuator. -/
theorem updLaw_form (x : Actuator) (l : Nat) (f : Law → Law) : ∃ ls, updLaw x l f = { x with laws := ls } := by
  unfold updLaw
  split
  · exact ⟨_, rfl⟩
  · exact ⟨x.laws, rfl⟩

theorem lawOf_updLaw_self {x : Actuator} {l : Nat} (h : l < 32) (f : Law → Law) : lawOf (updLaw x l f) l = f (lawOf x l) := by
  rw [updLaw, dif_pos h, lawOf, dif_pos h, lawOf, dif_pos h]
  exact vupd_self ..

theorem lawOf_updLaw_ne (x : Actuator) {l k : Nat} (h : l ≠ k) (f : Law → Law) : lawOf (updLaw x l f) k = lawOf x k := by
  unfold updLaw
  split
  · unfold lawOf
    split
    · exact vupd_ne _ _ fun he => h (Fin.ext_iff.1 he)
    · rfl
  · rfl

/-- Laws changed one after the other, each in the same way. -/
theorem lawOf_foldl_updLaw {f : Law → Law} (hf : ∀ l, f (f l) = f l) {k : Nat} (hk : k < 32) (ls : List Nat) (x : Actuator) :
    lawOf (ls.foldl (fun y l => updLaw y l f) x) k = if k ∈ ls then f (lawOf x k) else lawOf x k := by
  induction ls generalizing x with
  | nil => rfl
  | cons l ls ih =>
    rw [List.foldl_cons, ih]
    by_cases hl : l = k
    · subst hl
      rw [lawOf_updLaw_self hk, hf, ite_self, if_pos List.mem_cons_self]
    · rw [lawOf_updLaw_ne x hl]
      simp [Ne.symm hl]

theorem lawOf_foldl_updLaw_ne {f : Law → Law} {k : Nat} (ls : List Nat) (hk : k ∉ ls) (x : Actuator) :
    lawOf (ls.foldl (fun y l => updLaw y l f) x) k = lawOf x k := by
  induction ls generalizing x with
  | nil => rfl
  | cons l ls ih =>
    rw [List.foldl_cons, ih fun h => hk (List.mem_cons_of_mem _ h), lawOf_updLaw_ne x fun h => hk (List.mem_cons.2 (.inl h.symm))]

theorem updAct_updAct (s : State) (a : Act) (f g : Actuator → Actuator) :
    updAct (updAct s a f) a g = updAct s a fun x => g (f x) := by
  simp only [updAct, vupd_vupd]

theorem updAct_congr {s : State} {a : Act} {f g : Actuator → Actuator} (h : f s.acts[a] = g s.acts[a]) :
    updAct s a f = updAct s a g := by
  rw [updAct, updAct, vupd_congr h]

/-! ### A missed deadline -/

/-- What a missed law leaves: its last command again, and the miss counted. -/
theorem lawDeadlineMiss_runs {s : State} {a : Act} {l : Nat} (hp : powered s = true) (h1 : l ∈ runningLaws s a)
    (h2 : lawSlot s.acts[a].slot l = true) (h3 : (lawOf s.acts[a] l).valid = true) :
    exec (.lawDeadlineMiss a l) s = .next (updAct (reissue s a l) a fun x =>
      missLaw { x with vcmMissRun := if 16 ≤ l ∧ l ≤ 19 then x.vcmMissRun0 else x.vcmMissRun } l) :=
  next_congr (if_pos (by rw [hp, h2, h3, List.contains_iff_mem.2 h1]; rfl))

/-- The law undone, its actuator otherwise the same. -/
theorem undone_form (s : State) (a : Act) (l : Nat) :
    ∃ ls, (updAct s a fun x => updLaw x l undoLaw) = updAct s a fun x => { x with laws := ls } := by
  obtain ⟨ls, h⟩ := updLaw_form s.acts[a] l undoLaw
  exact ⟨ls, updAct_congr h⟩

theorem reissue_ma (s : State) (a : Act) (i : Fin 8) : ∃ ls, reissue s a i.val = updAct s a fun x =>
    { x with laws := ls, maCmd := vupd x.maCmd i fun _ => x.maCmd0[i] } := by
  obtain ⟨ls, h⟩ := undone_form s a i.val
  refine ⟨ls, ?_⟩
  unfold reissue
  dsimp only
  rw [if_pos (Nat.le_of_lt_succ i.isLt), maPlace, dif_pos i.isLt, h]
  exact updAct_updAct ..

theorem reissue_pred {s : State} {a : Act} {l : Nat} {h : Hd} {m : Strm} (h1 : 8 ≤ l) (h2 : l ≤ 15)
    (hh : (headsOf s a)[l - 8]? = some h) (hm : streamOfHead s h = some m) : ∃ ls, reissue s a l =
    updStream (updAct s a fun x => { x with laws := ls }) m fun x => { x with preds := x.preds.dropLast } := by
  obtain ⟨ls, hl⟩ := undone_form s a l
  refine ⟨ls, ?_⟩
  unfold reissue
  dsimp only
  rw [if_neg (by omega), if_pos h2, hh, Option.bind_some, hm, hl]

theorem reissue_vcm {s : State} {a : Act} {l : Nat} (h1 : 16 ≤ l) (h2 : l ≤ 19) : ∃ ls sat, reissue s a l =
    issueVcm (updAct s a fun x => { x with laws := ls }) a s.acts[a].vcmCmd0 s.acts[a].vcmOut0 sat := by
  obtain ⟨ls, hl⟩ := undone_form s a l
  refine ⟨ls, vcmClips s.acts[a].seekPar.iLim s.acts[a].vcmOut0, ?_⟩
  unfold reissue
  dsimp only
  rw [if_neg (by omega), if_neg (by omega), if_pos h2, hl]

theorem updAct_keeps {s : State} {a : Act} {f : Actuator → Actuator}
    (hf : ∀ x, (f x).dlMissCnt = x.dlMissCnt ∧ (f x).vcmMissRun = x.vcmMissRun) :
    (updAct s a f).acts[a].dlMissCnt = s.acts[a].dlMissCnt ∧ (updAct s a f).acts[a].vcmMissRun = s.acts[a].vcmMissRun ∧
      (∀ b, a ≠ b → (updAct s a f).acts[b] = s.acts[b]) ∧ (updAct s a f).streams = s.streams := by
  simp only [updAct_acts, updAct_streams, vupd_self]
  exact ⟨(hf _).1, (hf _).2, fun b hb => vupd_ne _ _ hb, trivial⟩

/-- A reissue that moves no coil keeps what the observer, the shaper and the heaters do not touch. -/
theorem reissue_other {s : State} {a : Act} {l : Nat} (h1 : 20 ≤ l) :
    (reissue s a l).acts[a].dlMissCnt = s.acts[a].dlMissCnt ∧ (reissue s a l).acts[a].vcmMissRun = s.acts[a].vcmMissRun ∧
      (∀ b, a ≠ b → (reissue s a l).acts[b] = s.acts[b]) ∧ (reissue s a l).streams = s.streams := by
  obtain ⟨ls, hl⟩ := undone_form s a l
  unfold reissue
  dsimp only
  rw [if_neg (by omega), if_neg (by omega), if_neg (by omega), hl]
  split
  · rw [updAct_updAct]
    exact updAct_keeps fun x => by dsimp only; split <;> exact ⟨rfl, rfl⟩
  split
  · rw [updAct_updAct]
    exact updAct_keeps fun x => by dsimp only; split <;> exact ⟨rfl, rfl⟩
  have hk := updAct_keeps (s := s) (a := a) (f := fun x => { x with laws := ls }) fun _ => ⟨rfl, rfl⟩
  split
  · exact hk
  · exact hk

/-! ### Strobes and the park -/

/-- The strobe's own act leaves the strobe and its list to the slot. -/
theorem latchLe4_if (s : State) (c : Bool) : (if c then latchLe4 s else s).acts = s.acts ∧
    (if c then latchLe4 s else s).strobe = s.strobe ∧ (if c then latchLe4 s else s).strobeDone = s.strobeDone := by
  cases c <;> exact ⟨rfl, rfl, rfl⟩

theorem strobeFor_keeps (s : State) (a : Act) : (strobeFor a s).acts[a] = { s.acts[a] with
      slot := (if s.strobeDone.contains a then s.strobe + 1 else s.strobe) % 4,
      frame := (if s.strobeDone.contains a then s.strobe + 1 else s.strobe) / 4 } ∧
    (strobeFor a s).strobe = (if s.strobeDone.contains a then s.strobe + 1 else s.strobe) ∧
    (strobeFor a s).strobeDone = (if s.strobeDone.contains a then [a] else a :: s.strobeDone) ∧
    ∀ b, a ≠ b → (strobeFor a s).acts[b] = s.acts[b] := by
  unfold strobeFor
  dsimp only
  generalize hs1 : ({ s with strobe := _, strobeDone := _ } : State) = s1
  generalize (_ && _ : Bool) = c
  obtain ⟨ha, hb, hd⟩ := latchLe4_if s1 c
  simp only [updGuard, updAct_acts, ha, vupd_self]
  subst hs1
  exact ⟨rfl, hb, hd, fun b hne => vupd_ne _ _ hne⟩

theorem startPark_retracts {x : Actuator} (h : x.mode ≠ .parked) : (startPark x).retracting = true := by
  unfold startPark
  split
  · exact absurd ‹_› h
  · rfl
  · rfl

/-- Settles O2: a missed law is undone and its last command issued again (`reissue`), the rest of the actuator kept. -/
theorem loopSlotEventsComplete : Obligations.LoopSlotEventsComplete := by
  unfold Obligations.LoopSlotEventsComplete
  refine ⟨?_, ?_, ?_, ?_, ?_, ?_, ?_, ?_, ?_, ?_, ?_, ?_, ?_, ?_⟩
  · -- LOOP_SLOT
    intro s s1 a late uncorr accs offRamp hp h1 h2
    subst h2
    exact next_congr (if_neg (by rw [hp, h1]; decide))
  · -- which strobe a slot is
    intro s a h
    obtain ⟨ha, hs, -, hne⟩ := strobeFor_keeps s a
    rw [h] at ha hs
    exact ⟨congrArg Actuator.slot ha, congrArg Actuator.frame ha, hs, hne⟩
  · -- the next strobe
    intro s a h
    obtain ⟨ha, hs, hd, -⟩ := strobeFor_keeps s a
    rw [h] at ha hs hd
    exact ⟨congrArg Actuator.slot ha, hs, hd⟩
  · -- LAW_DEADLINE_MISS
    intro s a i hp h1 h2
    obtain ⟨ls, hr⟩ := reissue_ma s a i
    have hi : i.val ≤ 7 := Nat.le_of_lt_succ i.isLt
    refine ⟨_, lawDeadlineMiss_runs hp h1 (by simp [lawSlot]; omega) h2, ?_⟩
    rw [hr, updAct_updAct]
    simp only [updAct_acts, updAct_streams, updAct_psl, vupd_self, missLaw, decide_eq_true hi, Bool.or_true]
    exact ⟨trivial, trivial, trivial, fun j hj => vupd_ne _ _ hj, trivial, fun b hb => vupd_ne _ _ hb, trivial, trivial⟩
  · -- LAW_DEADLINE_MISS
    intro s a l h m hp h1 h2 h3 h4 h5 h6
    obtain ⟨ls, hr⟩ := reissue_pred h1 h2 h5 h6
    refine ⟨_, lawDeadlineMiss_runs hp h3 (by simp [lawSlot]; omega) h4, ?_⟩
    rw [hr]
    simp only [updAct_acts, updAct_streams, updAct_psl, updStream_acts, updStream_streams, updStream_psl, vupd_vupd, vupd_self,
      missLaw,
      decide_eq_true (And.intro h1 h2), Bool.or_true]
    exact ⟨trivial, trivial, trivial, fun j hj => vupd_ne _ _ hj, fun b hb => vupd_ne _ _ hb, trivial⟩
  · -- LAW_DEADLINE_MISS
    intro s a l hp h1 h2 h3 h4 h5
    obtain ⟨ls, sat, hr⟩ := reissue_vcm (s := s) (a := a) h1 h2
    refine ⟨_, lawDeadlineMiss_runs hp h4 (by simp [lawSlot, h1, h2, h3, -Fin.getElem_fin]) h5, ?_⟩
    rw [hr, issueVcm]
    simp only [updAct_acts, updAct_streams, updAct_psl, updPsl_acts, updPsl_streams, updPsl_psl, vupd_vupd, vupd_self, missLaw,
      if_pos (And.intro h1 h2), decide_eq_true (And.intro h1 h2), Bool.or_true]
    exact ⟨trivial, trivial, trivial, trivial, fun b hb => vupd_ne _ _ hb, trivial⟩
  · -- LAW_DEADLINE_MISS
    intro s a l hp h1 h2 h3 h4 h5
    obtain ⟨hc, hv, hne, hs⟩ := reissue_other (s := s) (a := a) h1
    refine ⟨_, lawDeadlineMiss_runs hp h4 (by simp [lawSlot, h1, h2, h3, -Fin.getElem_fin]) h5, ?_⟩
    have hno : ¬(16 ≤ l ∧ l ≤ 19) := by omega
    simp only [updAct_acts, updAct_streams, vupd_self, missLaw, if_neg hno, decide_eq_true h1, Bool.or_true, hc, hv, hs]
    exact ⟨trivial, trivial, trivial, fun b hb => (vupd_ne _ _ hb).trans (hne b hb), trivial⟩
  · -- VCM_MISS_RETRACT
    intro s a hp h1 h2 h3
    refine ⟨next_congr (if_pos (by simp [hp, h1, h2, h3, -Fin.getElem_fin])), ?_, ?_⟩
    · exact congrArg Actuator.mode (vupd_self ..)
    · exact (congrArg Actuator.retracting (vupd_self ..)).trans (startPark_retracts h2)
  · -- WRITE_READY_SET
    intro s a hp h1 h2 h3 h4
    refine ⟨_, next_congr (if_pos (by simp [hp, h1, h2, h3, h4, -Fin.getElem_fin])), vupd_self .., ?_,
      fun b hb => ⟨vupd_ne _ _ hb, vupd_ne _ _ hb⟩⟩
    exact congrArg WritePath.reopen (vupd_self ..)
  · -- BLEND_END
    intro s a l hp h1
    refine ⟨_, next_congr (if_pos (by simp [hp, h1, -Fin.getElem_fin])), ?_⟩
    simp only [updAct_acts, updAct_wps, updAct_hloops, vupd_self]
    exact ⟨trivial, trivial, fun b hb => vupd_ne _ _ hb, trivial, trivial⟩
  · -- MA_RAMP_END
    intro s a hp h1 h2
    refine ⟨_, next_congr (if_pos (by simp [hp, h1, h2, -Fin.getElem_fin])), ?_⟩
    simp only [updAct_acts, updAct_wps, updAct_hloops, vupd_self]
    refine ⟨fun i => ?_, fun l hl => ?_, fun b hb => vupd_ne _ _ hb, trivial, trivial⟩
    · rw [lawOf_foldl_updLaw (f := fun w => { w with st := [], out := 0 }) (fun _ => rfl) (Nat.lt_trans i.isLt (by decide)),
      if_pos (List.mem_range.2 i.isLt)]
      exact ⟨rfl, rfl⟩
    · exact lawOf_foldl_updLaw_ne _ (by simpa using hl) _
  · -- HOLD_ENTRY
    intro s a hp h1 h2 h3 h4
    refine next_congr (if_pos ?_)
    obtain h1 | h1 := h1 <;> simp [hp, maRuns, h1, h2, h3, h4, -Fin.getElem_fin]
  · -- HOLD_ENTRY
    intro s a hp h1 h2 h3 h4 h5
    refine next_congr (if_pos ?_)
    simp [hp, maRuns, h1, h2, h3, h4, h5, -Fin.getElem_fin]
  · -- HOLD_TIMEOUT_RETRACT
    intro s a hp h1 h2 h3
    exact next_congr (if_pos (by simp [hp, h1, h2, h3, -Fin.getElem_fin]))

end Sys2Proof.Machine
end
